-- ==== Sys2Proof/Word.lean ====
section
/-!
DEFINITION. The words of the machine: a byte, a 32-bit register word (R4), a field of a register,
and the sparse maps in which registers and memory bytes are held.
-/

namespace Sys2Proof

/-- One byte of a frame, a record or a memory. -/
abbrev Byte := BitVec 8

/-- One register word: every register is 32 bits wide (R4). -/
abbrev Word := BitVec 32

/-- A byte string in transmission order, most significant byte first (R3). -/
abbrev Bytes := List Byte

/-- A field of a register: the host word address and the bit range `[hi:lo]`. -/
structure Fld where
  addr : Nat
  hi : Nat
  lo : Nat
  deriving DecidableEq, Repr

/-- Register words by word address: strictly rising addresses, no word equal to 0. -/
abbrev RegMap := List (Nat × Word)

/-- Bytes by address: strictly rising addresses, no byte equal to the erased value. -/
abbrev Mem := List (Nat × Byte)

end Sys2Proof
end

