-- ==== Sys2Proof/Syntax.lean ====
section
/-!
DEFINITION. The commands and events of the block: one constructor of `Instr` per row of the table of operations, and the
types of their operands. What the block cannot know by itself (what a tag answers, what a sensor measures, whether a
program of a memory passes) is an operand of the event that brings it about.
-/

namespace Sys2Proof

/-- The two image slots of the NOR flash (R46). -/
inductive Slot where
  | a
  | b
  deriving DecidableEq, Repr

/-- One host frame (R414): the M bit of byte 0 and the MOSI bytes from byte 1 as clocked before HOST_CS_N rose. The
opcode is that of the command that carries the frame. Log 118 DESIGN CHOICE. -/
structure Frame where
  m : Bool
  rest : Bytes
  deriving DecidableEq, Repr

/-- Where a boot stops making progress before step 8 (R42): in one of the steps 2–5, with no slot in hand, or in step 6 or 7,
verifying or applying a slot. -/
inductive Stall where
  | step (n : Fin 4)
  | slot (s : Slot) (applying : Bool)
  deriving DecidableEq, Repr

/-- What the outside gives a boot from step 2 (R38): the self-test verdict (R44), the two-byte READ ID answer of each NAND device
(R366; 0x0000 and 0xFFFF are silence), and where the boot stops making progress before step 8 (R42), if it does.
Log 5 DESIGN CHOICE, 16 DESIGN CHOICE, 28 DEDUCED, 121 DESIGN CHOICE. -/
structure BootEnv where
  selfTestOk : Bool := true
  nandIds : List (Fin 65536) := [0, 0, 0, 0]
  stall : Option Stall := none
  deriving DecidableEq, Repr

/-- What t0 samples (R38, R402, R500): the straps BOOT_SEL1 and BOOT_SEL0, the levels at which VDDIO_A and VDDIO_B are sensed (true for
3.3 V), and whether a HARD_BLOWN fuse that is due takes; and what the boots from this t0 on meet, one after the other, the last entry
holding for every further boot. Log 5 DESIGN CHOICE. -/
structure PowerUp where
  strap : Fin 4
  vddioA : Bool
  vddioB : Bool
  blown : Bool
  boots : List BootEnv
  deriving DecidableEq, Repr

/-- A commit group (R90). -/
inductive Group where
  | hf (n : Fin 4)
  | uhf (n : Fin 2)
  | tmr (n : Fin 8)
  | cvu (n : Fin 6)
  deriving DecidableEq, Repr

/-- A profile view: that of an HF port (R112), or the selected profile at 0x411–0x41D (R210). -/
inductive ProfileView where
  | port (n : Fin 16)
  | selected
  deriving DecidableEq, Repr

/-- A GOV register with limit fields (R251). -/
inductive GovReg where
  | uhf
  | time
  | hf
  | chmaskHi
  | chmaskLo
  | ctl
  deriving DecidableEq, Repr

/-- A checked WATCH register (R286). -/
inductive WatchReg where
  | ctl
  | pulse
  | thr
  | timer
  | period (k : Fin 4)
  deriving DecidableEq, Repr

/-- A transceiver chain (R14). -/
inductive Chain where
  | hf (n : Fin 4)
  | uhf (n : Fin 2)
  deriving DecidableEq, Repr

/-- A coexistence set (R262). -/
inductive CoexSet where
  | a
  | b
  deriving DecidableEq, Repr

/-- What a page read reports (R354), after the repeats of R369. -/
inductive PageRead where
  | good
  | corrected
  | refresh
  | torn
  deriving DecidableEq, Repr

/-- The measurement of one port of CAL_TUNE (R114): the phase of the antenna current against the drive at each of the 256 codes, in
1/1,024 turn, the antenna current in mA rms at the chosen code and the profile's ATT, and the slope of phase against code, in
1/1,024 turn for 256 codes. Log 5 DESIGN CHOICE. -/
structure TuneMeasure where
  phases : List (BitVec 10)
  ma : Fin 65536
  slope : BitVec 16
  deriving DecidableEq, Repr

/-- A complex value, I and Q. -/
structure Cplx where
  re : Int
  im : Int
  deriving DecidableEq, Repr

/-- What CAL_UHF_LEAK measures on one channel (R203): whether training passed, leakage and residual in signed dBm, the
highest RXGAIN code that keeps the residual at or below −6 dBFS, the power reading as CARRIER_ON gives it, and the trained weights. -/
structure LeakMeasure where
  trained : Bool
  leak : BitVec 8
  resid : BitVec 8
  gain : Fin 31
  meas : Fin 1024 := 0
  ci : BitVec 10 := 0#10
  cq : BitVec 10 := 0#10
  deriving DecidableEq, Repr

/-- What a start-of-frame correlator latches (R145–R147, R161). Log 5 DESIGN CHOICE. -/
structure Sof where
  pattern : Fin 10
  rssi : BitVec 16
  phase : Fin 1024
  rateDev : BitVec 8
  fdt : BitVec 32
  deriving DecidableEq, Repr

/-- How an HF reply frame ended in the framer (R137): its bytes without a CRC that is checked (of an ANTICOLLISION reply, the
five bytes of the CLn frame, R163), the valid bits of the last byte (0 for 8), whether its CRC
passed, whether it was well framed (parity, coding, EOF, whole bits), whether the ADC clipped, whether a second reply or a
collision was detected, and the bit index of the first collision (R163). Log 5 DESIGN CHOICE. -/
structure HfReply where
  bytes : Bytes
  lastBits : Fin 8
  crcOk : Bool
  framed : Bool
  clip : Bool
  collided : Bool
  collBit : Fin 40
  deriving DecidableEq, Repr

/-- A distinct UHF preamble peak (R220, R221): the hypothesis, what is latched, and the data symbols of the reply in hand
that had passed (0 before the end of its preamble). Log 5 DESIGN CHOICE. -/
structure Preamble where
  hyp : Fin 8
  rssi : BitVec 16
  phase : Fin 1024
  blfDev : BitVec 8
  symbols : Nat
  deriving DecidableEq, Repr

/-- How a UHF reply ended (R222): its bytes without CRC, the valid bits of the last byte, CRC and coding verdicts, the error
header bit with the tag's error code, and the handle the reply carried. Log 5 DESIGN CHOICE. -/
structure UhfReply where
  bytes : Bytes
  lastBits : Fin 8
  crcOk : Bool
  coded : Bool
  tagError : Option (Fin 256)
  handle : Fin 65536
  deriving DecidableEq, Repr

/-- The commands and events of the block, in the order of the table. -/
inductive Instr where
  | t0 (env : PowerUp)
  | bootWdog
  | pfail (flush : BitVec 4)
  | supplyMonitorTrip (flush : BitVec 4)
  | pfailRestart
  | pgoodFall
  | resetNFall
  | imageWriteBegin (ok : Bool)
  | imageWriteData (ok : Bool)
  | imageWriteEnd (ok : Bool)
  | imageWriteAbort
  | modeRequest (req : Fin 16)
  | modeTransitionComplete (us : Fin 65536) (flush : BitVec 4)
  | wakeComplete (us : Fin 65536)
  | checkDone
  | groupCommit (g : Group)
  | groupApply (g : Group)
  | regWr (f : Frame)
  | regRd (f : Frame)
  | supDirectQuotaWrite (v : BitVec 8)
  | hfcEnable (n : Fin 4) (v : Bool)
  | hfpEnable (n : Fin 16) (v : Bool)
  | hfpFaultClear (n : Fin 16)
  | hfcBondEn (n : Fin 4) (v : Bool)
  | hfcTxctlWrite (n : Fin 4) (att : Fin 512) (phase : Fin 1024)
  | profileViewWrite (view : ProfileView) (k : Fin 12) (data : Word)
  | uhfcEnable (n : Fin 2) (v : Bool)
  | uhfpEnable (n : Fin 8) (v : Bool)
  | uhfpFaultClear (n : Fin 8)
  | recal (n : Fin 2)
  | uhfSteerEn (v : Bool)
  | govLimitWrite (r : GovReg) (data : Word)
  | govRestore
  | coexAEnWrite (v : Bool)
  | coexPwEn (k : Fin 4) (v : Bool)
  | watchRegWrite (r : WatchReg) (data : Word)
  | watchForget
  | chnSelWrite (dev : Bool) (slot : Fin 256)
  | chnHselWrite (entry : Fin 16)
  | objSelWrite (index : Fin 4096)
  | objLoad
  | objWrite
  | vltSlotSelWrite (slot : Fin 32)
  | fltSelWrite (entry : Fin 16)
  | fltStatClear (nand clock seq other : Bool)
  | fltClr (hf : BitVec 4) (uhf : BitVec 2)
  | fltRecheckEnd (pass : Bool)
  | timeSnap
  | tmrClear (n : Fin 8)
  | tmrEnable (n : Fin 8) (v : Bool)
  | cvuEnable (n : Fin 6) (v : Bool)
  | cvuValueWrite (n : Fin 6) (alive : Bool) (data : Word)
  | cvuAnySet (n : Fin 6)
  | cmd (f : Frame)
  | chnCreate
  | chnStart
  | chnStop
  | chnStopDrain
  | chnRun
  | chnDestroy
  | stoppingEnd (slot : Fin 256)
  | softReset (flush : BitVec 4)
  | calTune (ms : List TuneMeasure)
  | calCoupling (ks : List (List Word))
  | calRxgain (gs : List (Option (Fin 48)))
  | calUhfLeak (ms : List (List LeakMeasure))
  | regionBlow (ok : Bool)
  | keyImport
  | keyClear
  | sessionOpen
  | sessionClose
  | rearmChallenge
  | rearmResponse (flush : BitVec 4)
  | timeSet
  | cmdResult (f : Frame)
  | status (f : Frame)
  | evtRd (f : Frame)
  | jrnlRd (f : Frame)
  | jrnlAck (f : Frame)
  | journalStaging (r : PageRead)
  | mboxWr (f : Frame)
  | mboxRd (f : Frame)
  | directMessageStart (slot : Fin 256)
  | cycleStart (slot : Fin 256)
  | runDue (slot : Fin 256)
  | arbiterGrant (ma : Fin 65536) (phase : Fin 1024)
  | fieldGuardEnd (n : Fin 4)
  | staggerRelease (n : Fin 4)
  | replyWindowOpen (n : Fin 4) (resid : Fin 256) (noise : BitVec 16)
  | sofAcquired (n : Fin 4) (sof : Sof)
  | hfNoResponse (n : Fin 4)
  | hfFrameEnd (n : Fin 4) (r : HfReply)
  | residualClear (n : Fin 4)
  | couplingTrackUpdate (n m : Fin 4) (k : Cplx)
  | hfPortOpen (n : Fin 16) (us : Fin 65536)
  | hfPortShort (n : Fin 16) (us : Fin 65536)
  | hfDriverFault (n : Fin 4) (us : Fin 65536)
  | attemptEnd (slot : Fin 256)
  | deadlinePassed (slot : Fin 256)
  | frameHandoff (c : Chain)
  | recordBuild
  | larderSlotFree
  | batchMsExpire
  | pageProgramDone (d : Fin 4) (pass : Bool)
  | eraseDone (d : Fin 4) (pass : Bool)
  | nandDeviceTimeout (d : Fin 4)
  | compaction (r : PageRead)
  | strikeEnd (pin : Fin 24)
  | radioChannelChange (n : Fin 2)
  | synthLock (n : Fin 2) (us : Fin 65536)
  | synthUnlock (n : Fin 2)
  | uhfSynthFault (n : Fin 2) (us : Fin 65536)
  | radioPortChange (n : Fin 2)
  | carrierOn (n : Fin 2) (meas : Fin 1024)
  | cancellerTrainingEnd (n : Fin 2) (leak resid : BitVec 8) (ci cq : BitVec 10)
  | packet (n : Fin 2)
  | carrierOff (n : Fin 2)
  | uhfPreambleAcquired (n : Fin 2) (p : Preamble)
  | uhfReplyTimeout (n : Fin 2)
  | uhfReplyEnd (n : Fin 2) (r : UhfReply)
  | uhfPaLoop (n : Fin 2) (us : Fin 65536)
  | uhfPortFault (n : Fin 8) (rl : Fin 256) (us : Fin 65536)
  | govOverlimit (c : Chain) (us : Fin 65536)
  | tempSample (t : BitVec 8)
  | dwellMaxExpire (n : Fin 2)
  | offMinExpire (n : Fin 2)
  | dutyBudgetSpent
  | coexGrant (set : CoexSet) (meas0 meas1 : Fin 1024)
  | coexPreempt (set : CoexSet) (act : Bool)
  | protectedWindowStart (k : Fin 4)
  | protectedWindowEnd (k : Fin 4)
  | watchTick (ms : List Cplx)
  | watchTimerWake
  | wake
  | keyKill (src : BitVec 9) (blown : Bool)
  | drbgFail
  | drbgRetry (pass : Bool)
  | drbgReseed
  | timerTick (n : Fin 8)
  | timerCapture (n : Fin 8) (k : Fin 2) (coincident : Bool)
  | seqWdog (us : Fin 65536) (flush : BitVec 4)
  | clockLoss (us : Fin 65536)
  | atticCrystalRestore
  | corePllUnlock (flush : BitVec 4)
  | keyKillDeassert
  | pfailDeassert
  | vatticLoss
  | vatticPor
  | hostFrameUnknownOpcode (op : BitVec 7) (f : Frame)
  deriving DecidableEq, Repr

end Sys2Proof
end

