-- ==== Sys2Proof/Decode.lean ====
section
/-!
DEFINITION. The words of the table of operations. No row of the table gives bits: a command reaches the block as a host
frame or as an event, never as a word of the table, so no word spells a command.
-/

namespace Sys2Proof

/-- The command that a word of the table spells: none, since no row of the table carries bits. Log 1 DESIGN CHOICE. -/
def decodeTableWord (_nbits _w : Nat) : Option Instr := none

end Sys2Proof
end

