-- ==== Sys2Proof/Machine/Bits.lean ====
section
/-!
DEFINITION. Bit fields, big-endian byte order (R3), and the operations on the sparse maps that hold
registers and memory bytes.
-/

namespace Sys2Proof.Machine

open Sys2Proof

/-- Bits `[hi:lo]` of a word, as a number. -/
def bitsOf (w : Word) (hi lo : Nat) : Nat := (w.toNat >>> lo) % 2 ^ (hi + 1 - lo)

/-- The mask of bits `[hi:lo]`. -/
def maskOf (hi lo : Nat) : Word := BitVec.ofNat 32 ((2 ^ (hi + 1 - lo) - 1) <<< lo)

/-- `w` with bits `[hi:lo]` replaced by `v`, cut to the field's width. -/
def putBits (w : Word) (hi lo v : Nat) : Word :=
  (w &&& ~~~ maskOf hi lo) ||| BitVec.ofNat 32 ((v % 2 ^ (hi + 1 - lo)) <<< lo)

/-- Bit `i` of a number. -/
def bit (v i : Nat) : Bool := v.testBit i

/-- 1 for true, 0 for false. -/
def b2n (b : Bool) : Nat := if b then 1 else 0

/-- Field `[hi:lo]` of a number of any width. -/
def nbits (v hi lo : Nat) : Nat := (v >>> lo) % 2 ^ (hi + 1 - lo)

/-! ### Big-endian byte strings -/

/-- The number a big-endian byte string spells (R3). -/
def beNat (bs : Bytes) : Nat := bs.foldl (fun a b => a * 256 + b.toNat) 0

/-- The `n` big-endian bytes of a number, cut to `8 n` bits (R3). -/
def beBytes : Nat → Nat → Bytes
  | 0, _ => []
  | n + 1, v => BitVec.ofNat 8 (v >>> (8 * n)) :: beBytes n v

/-- Byte `i` of a string; 0 beyond its end. -/
def byteAt (bs : Bytes) (i : Nat) : Nat := (bs.getD i 0#8).toNat

/-- `n` bytes from offset `i`. -/
def slice (bs : Bytes) (i n : Nat) : Bytes := (bs.drop i).take n

/-- The big-endian number in the `n` bytes from offset `i`, missing bytes reading 0. -/
def numAt (bs : Bytes) (i n : Nat) : Nat :=
  ((List.range n).map fun k => bs.getD (i + k) 0#8) |> beNat

/-- The signed 8-bit number at offset `i`. -/
def sint8At (bs : Bytes) (i : Nat) : Int := (bs.getD i 0#8).toInt

/-- The signed 16-bit big-endian number at offset `i`. -/
def sint16At (bs : Bytes) (i : Nat) : Int := (BitVec.ofNat 16 (numAt bs i 2)).toInt

/-- A signed number in two's complement over `n` bits. -/
def ofInt (n : Nat) (x : Int) : Nat := (BitVec.ofInt n x).toNat

/-- The signed value of an `n`-bit two's-complement number. -/
def toSigned (n v : Nat) : Int := (BitVec.ofNat n v).toInt

/-- The string with `src` written over it from offset `i`. -/
def overlay (bs : Bytes) (i : Nat) (src : Bytes) : Bytes :=
  bs.take i ++ src ++ bs.drop (i + src.length)

/-- `n` zero bytes. -/
def zeros (n : Nat) : Bytes := List.replicate n 0#8

/-- The string padded with zero bytes, or cut, to length `n`. -/
def fit (n : Nat) (bs : Bytes) : Bytes := (bs ++ zeros (n - bs.length)).take n

/-- Every byte is 0. -/
def allZero (bs : Bytes) : Bool := bs.all (· == 0#8)

/-- Bytes `i` to `j` inclusive are all 0. -/
def zeroAt (bs : Bytes) (i j : Nat) : Bool := allZero (slice bs i (j + 1 - i))

/-- Bytewise exclusive or of two strings. -/
def xorBytes (a b : Bytes) : Bytes := List.zipWith (· ^^^ ·) a b

/-- A string cut into pieces of `n` bytes; `fuel` bounds the number of pieces. -/
def chunks (n : Nat) : Nat → Bytes → List Bytes
  | 0, _ => []
  | _ + 1, [] => []
  | f + 1, b :: bs => (b :: bs).take n :: chunks n f ((b :: bs).drop n)

/-- Saturating increment by `k` of a counter with largest value `m`. -/
def satAdd (m v k : Nat) : Nat := min m (v + k)

/-- The list with position `i` replaced. -/
def setNth {α : Type} (l : List α) (i : Nat) (x : α) : List α := l.set i x

/-- A table of `n` entries with entry `i` replaced; an entry the list lacks is `e`. -/
def tableSet {α : Type} (n : Nat) (e : α) (l : List α) (i : Nat) (x : α) : List α :=
  (List.range n).map fun k => if k = i then x else l.getD k e

/-! ### Sparse maps in canonical form

A sparse map lists only the addresses whose value differs from `d`, in strictly rising order, so that equal
contents are equal data. -/

/-- The value at address `a`; `d` where nothing is listed. -/
def mapGet {α : Type} (d : α) : List (Nat × α) → Nat → α
  | [], _ => d
  | (k, v) :: t, a => if k = a then v else mapGet d t a

/-- The map with address `a` holding `v`; writing `d` removes every entry of `a`, so that the address reads as written even in a
list that is not in canonical form. -/
def mapSet {α : Type} [DecidableEq α] (d : α) : List (Nat × α) → Nat → α → List (Nat × α)
  | [], a, v => if v = d then [] else [(a, v)]
  | (k, x) :: t, a, v =>
    if a = k then (if v = d then mapSet d t a v else (a, v) :: t)
    else if a < k && v != d then (a, v) :: (k, x) :: t
    else (k, x) :: mapSet d t a v

/-- The canonical form above a lower bound: addresses strictly rising, no value equal to `d`. -/
def mapWf {α : Type} [DecidableEq α] (d : α) : List (Nat × α) → Bool
  | [] => true
  | [(_, v)] => decide (v ≠ d)
  | (k, v) :: (k', v') :: t => decide (v ≠ d) && decide (k < k') && mapWf d ((k', v') :: t)

/-- A register word; 0 where none is listed. -/
def RegMap.get (m : RegMap) (a : Nat) : Word := mapGet 0#32 m a

/-- A register word written. -/
def RegMap.set (m : RegMap) (a : Nat) (v : Word) : RegMap := mapSet 0#32 m a v

/-- A register map is in canonical form. -/
def RegMap.wf (m : RegMap) : Bool := mapWf 0#32 m

/-- A field of a register map. -/
def RegMap.fld (m : RegMap) (f : Fld) : Nat := bitsOf (RegMap.get m f.addr) f.hi f.lo

/-- A register map with a field written. -/
def RegMap.setFld (m : RegMap) (f : Fld) (v : Nat) : RegMap :=
  RegMap.set m f.addr (putBits (RegMap.get m f.addr) f.hi f.lo v)

/-- What an erased byte of a flash memory reads as. -/
def erased : Byte := 0xFF#8

/-- One byte of a flash memory; an unlisted byte is erased. Log 15 PRESUMED. -/
def Mem.read (m : Mem) (a : Nat) : Byte := mapGet erased m a

/-- One byte of a flash memory written. -/
def Mem.write (m : Mem) (a : Nat) (b : Byte) : Mem := mapSet erased m a b

/-- A flash memory is in canonical form. -/
def Mem.wf (m : Mem) : Bool := mapWf erased m

/-- `n` bytes from address `a`. -/
def Mem.readN (m : Mem) (a n : Nat) : Bytes := (List.range n).map fun i => Mem.read m (a + i)

/-- A byte string written from address `a` up. -/
def Mem.writeN (m : Mem) (a : Nat) : Bytes → Mem
  | [] => m
  | b :: bs => Mem.writeN (Mem.write m a b) (a + 1) bs

/-- The bytes from `a` to `a + n - 1` erased: their entries leave the map. Log 15 PRESUMED. -/
def Mem.erase (m : Mem) (a n : Nat) : Mem := m.filter fun e => !(decide (a ≤ e.1) && decide (e.1 < a + n))

end Sys2Proof.Machine
end

