-- ==== Sys2Proof/Machine/Crc.lean ====
section
/-!
DEFINITION. The cyclic redundancy checks: a bit-serial register of any width, and the parameter sets the spec uses.
-/

namespace Sys2Proof.Machine

open Sys2Proof

/-- The low `n` bits of `v` in reversed order. -/
def reflectBits : Nat → Nat → Nat
  | 0, _ => 0
  | n + 1, v => (v % 2) * 2 ^ n + reflectBits n (v / 2)

/-- One data bit into a CRC register of width `w` with polynomial `poly`. -/
def crcBit (w poly : Nat) (reg : Nat) (b : Bool) : Nat :=
  let top := reg.testBit (w - 1)
  let sh := (reg * 2) % 2 ^ w
  if top != b then sh ^^^ poly else sh

/-- The bits of a byte, most significant first. -/
def byteBits (b : Nat) : List Bool := [7, 6, 5, 4, 3, 2, 1, 0].map fun i => b.testBit i

/-- A byte into a CRC register; `refl` takes its bits least significant first. -/
def crcByte (w poly : Nat) (refl : Bool) (reg : Nat) (b : Byte) : Nat :=
  let bits := byteBits b.toNat
  (if refl then bits.reverse else bits).foldl (crcBit w poly) reg

/-- A byte string into a CRC register. -/
def crcRun (w poly : Nat) (refl : Bool) (reg : Nat) (bs : Bytes) : Nat :=
  bs.foldl (crcByte w poly refl) reg

/-- The result read from a CRC register: reflected and complemented as the parameters say. -/
def crcOut (w : Nat) (refl compl : Bool) (reg : Nat) : Nat :=
  let r := if refl then reflectBits w reg else reg
  if compl then (2 ^ w - 1) - r else r

/-- CRC-32 per IEEE 802.3 (R50). -/
def crc32 (bs : Bytes) : Nat := crcOut 32 true true (crcRun 32 0x04C11DB7 true 0xFFFFFFFF bs)

/-- The CRC-16 of ISO/IEC 13239 with preset 0xFFFF, reflected and complemented (R440). -/
def crc16X25 (bs : Bytes) : Nat := crcOut 16 true true (crcRun 16 0x1021 true 0xFFFF bs)

/-- The CRC_A of ISO/IEC 14443-3 (R150). Log 129 PRESUMED. -/
def crcA (bs : Bytes) : Nat := crcOut 16 true false (crcRun 16 0x1021 true 0xC6C6 bs)

/-- An HF frame with the CRC of its protocol appended, low byte first (R150): CRC_A for Type A, the CRC of ISO/IEC 13239 for Type B and
ISO/IEC 15693. Log 129 PRESUMED. -/
def withHfCrc (proto : Nat) (bs : Bytes) : Bytes :=
  let c := if proto = 0 then crcA bs else crc16X25 bs
  bs ++ [BitVec.ofNat 8 (c % 256), BitVec.ofNat 8 (c / 256)]

end Sys2Proof.Machine
end

