-- ==== Sys2Proof/Config.lean ====
section
/-!
DEFINITION. What the spec leaves open: free values, which no proof can see. Throughout the model, 'Log n MARK' in a docstring names a
row of notes/assumptions and its mark.
-/

namespace Sys2Proof.Config

/-- The bytes the CTR_DRBG hands out (R398), and other bytes the spec leaves open: byte `n` of the sequence that the counter
`Dev.freeCtr` walks. A free value.
Log 6 DESIGN CHOICE, 7 DESIGN CHOICE. -/
opaque freeByte : Nat → BitVec 8

/-- The phase of a complex value in units of 1/1,024 turn, whose rounding the spec does not state (R127, R274). A free
value. Log 9 DESIGN CHOICE. -/
opaque phaseOf : Int → Int → BitVec 10

/-- The magnitude of a complex value in the unit of its parts, whose rounding the spec does not state (R274, R276). A free
value. Log 9 DESIGN CHOICE. -/
opaque magnitudeOf : Int → Int → Nat

/-- Coupling in signed 0.1 dB of a complex coupling factor, whose rounding the spec does not state (R121, R127). A free
value. Log 9 DESIGN CHOICE. -/
opaque decibelOf : Int → Int → Int

/-- Whether a quotient whose rounding the spec does not state is rounded up rather than down, for a dividend and a divisor
that does not divide it (R125, R273). A free value. Log 9 DESIGN CHOICE. -/
opaque roundUp : Int → Int → Bool

/-- The resonance in kHz that a port's trim code, its slope and the measured phase give (R113); the spec names the inputs
and no formula with a rounding. A free value. Log 9 DESIGN CHOICE. -/
opaque resonanceOf : Nat → Nat → Nat → BitVec 16

/-- The scaled permit in mW of a field of a bond (R260): the permits of the two ports in 0.1 dBm and the two antenna factors
in 0.1 dB. The spec states the bound on the coherent sum and no rounding. A free value. Log 9 DESIGN CHOICE. -/
opaque bondPermit : Int → Int → Int → Int → Nat

/-- An RF canceller weight scaled by the ratio of two powers in TXPWR encoding (R198), whose rounding the spec does not state. A free value.
Log 9 DESIGN CHOICE. -/
opaque scaleWeight : BitVec 10 → Nat → Nat → BitVec 10

/-- The complex value of a magnitude in mA and a phase in 1/1,024 turn (R272, R338), whose rounding the spec does not state. A
free value. Log 9 DESIGN CHOICE. -/
opaque rectOf : Nat → Nat → Int × Int

/-- The deviation of a measurement from a baseline of magnitude 0 (R274), for which the spec states no result. A free value.
Log 9 DESIGN CHOICE. -/
opaque deltaOf : Nat → Nat

/-- Words whose value the spec leaves open, walked by the counter `Dev.freeCtr`: what a check-value unit shows of the bytes of
memory chains, whose protocol bytes the spec does not give (R451), the memory port's use (R383), the levels of pins that the
outside drives (R344), and the time measurements of a fault. A free value. Log 6 DESIGN CHOICE, 8 DESIGN CHOICE. -/
opaque freeWord : Nat → BitVec 32

end Sys2Proof.Config
end

