-- ==== Sys2Proof/Machine/Aes.lean ====
section
/-!
DEFINITION. The cryptographic primitives the spec names by their public standards: AES-128 and AES-256 (FIPS 197),
AES-CMAC (SP 800-38B), the counter-mode KDF of SP 800-108 over AES-CMAC, and the key unwrap of RFC 3394.
PRESUMED (log 104): the standards' own text is outside the spec.
-/

namespace Sys2Proof.Machine

open Sys2Proof

/-- The AES substitution box, 32 bytes packed least significant first, inputs 0x00–0x1F. -/
def sboxPart0 : Nat :=
  0xC072A49CAFA2D4ADF04759FA7DC982CA76ABD7FE2B670130C56F6BF27B777C63

/-- The AES substitution box, 32 bytes packed least significant first, inputs 0x20–0x3F. -/
def sboxPart1 : Nat :=
  0x75B227EBE28012079A059618C323C7041531D871F1E5A534CCF73F362693FDB7

/-- The AES substitution box, 32 bytes packed least significant first, inputs 0x40–0x5F. -/
def sboxPart2 : Nat :=
  0xCF584C4A39BECB6A5BB1FC20ED00D153842FE329B3D63B52A05A6E1B1A2C8309

/-- The AES substitution box, 32 bytes packed least significant first, inputs 0x60–0x7F. -/
def sboxPart3 : Nat :=
  0xD2F3FF1021DAB6BCF5389D928F40A351A89F3C507F02F94585334D43FBAAEFD0

/-- The AES substitution box, 32 bytes packed least significant first, inputs 0x80–0x9F. -/
def sboxPart4 : Nat :=
  0xDB0B5EDE14B8EE4688902A22DC4F816073195D643D7EA7C41744975FEC130CCD

/-- The AES substitution box, 32 bytes packed least significant first, inputs 0xA0–0xBF. -/
def sboxPart5 : Nat :=
  0x8AE7A65EAF4566CA94ED58D6D37C8E779E4959162ACD3C25C2406490A3A32E0

/-- The AES substitution box, 32 bytes packed least significant first, inputs 0xC0–0xDF. -/
def sboxPart6 : Nat :=
  0x9E1DC186B95735610EF6034866B53E708A8BBD4B1F74DDE8C6B4A61C2E2578BA

/-- The AES substitution box, 32 bytes packed least significant first, inputs 0xE0–0xFF. -/
def sboxPart7 : Nat :=
  0x16BB54B00F2D99416842E6BF0D89A18CDF2855CEE9871E9B948ED9691198F8E1

/-- The inverse AES substitution box, 32 bytes packed least significant first, inputs 0x00–0x1F. -/
def invSboxPart0 : Nat :=
  0xCBE9DEC444438E3487FF2F9B8239E37CFBD7F3819EA340BF38A53630D56A0952

/-- The inverse AES substitution box, 32 bytes packed least significant first, inputs 0x20–0x3F. -/
def invSboxPart1 : Nat :=
  0x25D18B6D49A25B76B224D92866A12E084EC3FA420B954CEE3D23C2A632947B54

/-- The inverse AES substitution box, 32 bytes packed least significant first, inputs 0x40–0x5F. -/
def invSboxPart2 : Nat :=
  0x849D8DA75746155EDAB9EDFD5048706C92B6655DCC5CA4D41698688664F6F872

/-- The inverse AES substitution box, 32 bytes packed least significant first, inputs 0x60–0x7F. -/
def invSboxPart3 : Nat :=
  0x6B8A130103BDAFC1020F3FCA8F1E2CD00645B3B80558E4F70AD3BC8C00ABD890

/-- The inverse AES substitution box, 32 bytes packed least significant first, inputs 0x80–0x9F. -/
def invSboxPart4 : Nat :=
  0x6EDF751CE837F9E28535ADE72274AC9673E6B4F0CECFF297EADC674F4111913A

/-- The inverse AES substitution box, 32 bytes packed least significant first, inputs 0xA0–0xBF. -/
def invSboxPart5 : Nat :=
  0xF45ACD78FEC0DB9A2079D2C64B3E56FC1BBE18AA0E62B76F89C5291D711AF147

/-- The inverse AES substitution box, 32 bytes packed least significant first, inputs 0xC0–0xDF. -/
def invSboxPart6 : Nat :=
  0xEF9CC9939F7AE52D0D4AB519A97F51605FEC8027591012B131C7078833A8DD1F

/-- The inverse AES substitution box, 32 bytes packed least significant first, inputs 0xE0–0xFF. -/
def invSboxPart7 : Nat :=
  0x7D0C2155631469E126D677BA7E042B17619953833CBBEBC8B0F52AAE4D3BE0A0

/-- The part of the substitution box that holds inputs 32p to 32p + 31. -/
def sboxPart (p : Nat) : Nat :=
  match p with
  | 0 => sboxPart0
  | 1 => sboxPart1
  | 2 => sboxPart2
  | 3 => sboxPart3
  | 4 => sboxPart4
  | 5 => sboxPart5
  | 6 => sboxPart6
  | _ => sboxPart7

/-- The part of the inverse substitution box that holds inputs 32p to 32p + 31. -/
def invSboxPart (p : Nat) : Nat :=
  match p with
  | 0 => invSboxPart0
  | 1 => invSboxPart1
  | 2 => invSboxPart2
  | 3 => invSboxPart3
  | 4 => invSboxPart4
  | 5 => invSboxPart5
  | 6 => invSboxPart6
  | _ => invSboxPart7

/-- The AES substitution of one byte. -/
def subByte (b : Byte) : Byte := BitVec.ofNat 8 (sboxPart (b.toNat / 32) >>> (8 * (b.toNat % 32)))

/-- The inverse substitution of one byte. -/
def invSubByte (b : Byte) : Byte := BitVec.ofNat 8 (invSboxPart (b.toNat / 32) >>> (8 * (b.toNat % 32)))

/-- Multiplication by x in the AES field. -/
def xtime (b : Byte) : Byte := if b.toNat ≥ 128 then (b <<< 1) ^^^ 0x1B#8 else b <<< 1

/-- Multiplication by a constant below 16 in the AES field. -/
def gfMul (k : Nat) (b : Byte) : Byte :=
  (if bit k 0 then b else 0#8) ^^^ (if bit k 1 then xtime b else 0#8) ^^^
    (if bit k 2 then xtime (xtime b) else 0#8) ^^^ (if bit k 3 then xtime (xtime (xtime b)) else 0#8)

/-- The key schedule: from the last words issued to the next one. `nk` is the key length in words, `i` the number of the
word to issue, `rcon` the round constant and `ws` the words so far, newest first. -/
def keyWords (nk : Nat) : Nat → Nat → Byte → List Bytes → List Bytes
  | 0, _, _, ws => ws
  | f + 1, i, rcon, ws =>
    let prev := ws.headD []
    let back := ws.getD (nk - 1) []
    if i % nk = 0 then
      let t := ((prev.drop 1) ++ prev.take 1).map subByte
      keyWords nk f (i + 1) (xtime rcon) (xorBytes back (xorBytes t [rcon, 0#8, 0#8, 0#8]) :: ws)
    else if nk > 6 && i % nk == 4 then
      keyWords nk f (i + 1) rcon (xorBytes back (prev.map subByte) :: ws)
    else keyWords nk f (i + 1) rcon (xorBytes back prev :: ws)

/-- The round keys of a 16-byte or 32-byte key, first round first. -/
def roundKeys (key : Bytes) : List Bytes :=
  let nk := key.length / 4
  let ws := (keyWords nk (4 * (nk + 7) - nk) nk 1#8 (chunks 4 nk key).reverse).reverse
  chunks 16 (nk + 7) ws.flatten

/-- The row shift of the state, held column by column. -/
def shiftRows (s : Bytes) : Bytes := [0, 5, 10, 15, 4, 9, 14, 3, 8, 13, 2, 7, 12, 1, 6, 11].map fun i => s.getD i 0#8

/-- The inverse row shift. -/
def invShiftRows (s : Bytes) : Bytes := [0, 13, 10, 7, 4, 1, 14, 11, 8, 5, 2, 15, 12, 9, 6, 3].map fun i => s.getD i 0#8

/-- One column multiplied by the circulant matrix with first row `a b c d`. -/
def mixCol (a b c d : Nat) (col : Bytes) : Bytes :=
  let w := col.getD 0 0#8
  let x := col.getD 1 0#8
  let y := col.getD 2 0#8
  let z := col.getD 3 0#8
  [gfMul a w ^^^ gfMul b x ^^^ gfMul c y ^^^ gfMul d z, gfMul d w ^^^ gfMul a x ^^^ gfMul b y ^^^ gfMul c z,
   gfMul c w ^^^ gfMul d x ^^^ gfMul a y ^^^ gfMul b z, gfMul b w ^^^ gfMul c x ^^^ gfMul d y ^^^ gfMul a z]

/-- The middle and last rounds of the cipher. -/
def encRounds : List Bytes → Bytes → Bytes
  | [], s => s
  | [k], s => xorBytes (shiftRows (s.map subByte)) k
  | k :: ks, s =>
    encRounds ks (xorBytes ((chunks 4 4 (shiftRows (s.map subByte))).map (mixCol 2 3 1 1)).flatten k)

/-- AES encryption of one 16-byte block under a 16-byte or 32-byte key. Log 104 PRESUMED. -/
def aesEnc (key blk : Bytes) : Bytes :=
  match roundKeys key with
  | [] => blk
  | k :: ks => encRounds ks (xorBytes blk k)

/-- The middle and last rounds of the inverse cipher; the round keys come last round first. -/
def decRounds : List Bytes → Bytes → Bytes
  | [], s => s
  | [k], s => xorBytes ((invShiftRows s).map invSubByte) k
  | k :: ks, s =>
    decRounds ks ((chunks 4 4 (xorBytes ((invShiftRows s).map invSubByte) k)).map (mixCol 14 11 13 9)).flatten

/-- AES decryption of one 16-byte block. Log 104 PRESUMED. -/
def aesDec (key blk : Bytes) : Bytes :=
  match (roundKeys key).reverse with
  | [] => blk
  | k :: ks => decRounds ks (xorBytes blk k)

/-- Doubling of a block in the CMAC field. -/
def cmacDouble (b : Bytes) : Bytes :=
  let n := beNat b
  beBytes 16 ((n <<< 1) ^^^ (if n ≥ 2 ^ 127 then 0x87 else 0))

/-- The CMAC chain over the message blocks; the last block is masked with K1, or padded and masked with K2. -/
def cmacChain (key k1 k2 : Bytes) : List Bytes → Bytes → Bytes
  | [], x => aesEnc key (xorBytes x (xorBytes k2 (0x80#8 :: zeros 15)))
  | [m], x =>
    if m.length = 16 then aesEnc key (xorBytes x (xorBytes k1 m))
    else aesEnc key (xorBytes x (xorBytes k2 (fit 16 (m ++ [0x80#8]))))
  | m :: ms, x => cmacChain key k1 k2 ms (aesEnc key (xorBytes x m))

/-- AES-CMAC of a message: 16 bytes. Log 104 PRESUMED. -/
def cmac (key msg : Bytes) : Bytes :=
  let k1 := cmacDouble (aesEnc key (zeros 16))
  cmacChain key k1 (cmacDouble k1) (chunks 16 (msg.length + 1) msg) (zeros 16)

/-- One step of the RFC 3394 unwrap at counter `t` for register `i` (1 up). -/
def unwrapStep (key : Bytes) (t i : Nat) (a : Bytes) (r : List Bytes) : Bytes × List Bytes :=
  let b := aesDec key (xorBytes a (beBytes 8 t) ++ r.getD (i - 1) [])
  (b.take 8, r.set (i - 1) (b.drop 8))

/-- The RFC 3394 unwrap from counter `t` down to 1 over `n` registers. -/
def unwrapSteps (key : Bytes) (n : Nat) : Nat → Bytes → List Bytes → Bytes × List Bytes
  | 0, a, r => (a, r)
  | t + 1, a, r =>
    let p := unwrapStep key (t + 1) (t % n + 1) a r
    unwrapSteps key n t p.1 p.2

/-- RFC 3394 key unwrap: the plaintext, or `none` where the integrity check value is wrong. Log 104 PRESUMED. -/
def keyUnwrap (key wrapped : Bytes) : Option Bytes :=
  let n := wrapped.length / 8 - 1
  let p := unwrapSteps key n (6 * n) (wrapped.take 8) (chunks 8 n (wrapped.drop 8))
  if p.1 = List.replicate 8 0xA6#8 then some p.2.flatten else none

end Sys2Proof.Machine
end

