-- ==== Sys2Proof/Machine/Codes.lean ====
section
/-!
DEFINITION. The 8-bit code space (R36) and every code that revision A1 reports (R496).
-/

namespace Sys2Proof.Machine

/-- A code of the 8-bit code space of R36. -/
abbrev Code := Nat

/-- Success. -/
def Code.OK : Code := 0x00
/-- Mode code not valid. -/
def Code.CC_MODE_INVALID : Code := 0x01
/-- Request during a transition. -/
def Code.CC_MODE_BUSY : Code := 0x02
/-- Mode not in MODE_ALLOW. -/
def Code.CC_MODE_DENIED : Code := 0x03
/-- No image applied. -/
def Code.CC_NO_CONFIG : Code := 0x04
/-- Region record blank. -/
def Code.CC_REGION_UNSET : Code := 0x05
/-- Too few healthy chains. -/
def Code.CC_SPARE_UNAVAILABLE : Code := 0x06
/-- Step needs a key slot. -/
def Code.CC_AUTH_REQUIRED : Code := 0x07
/-- Key slot empty or wrong purpose. -/
def Code.CC_KEY_PURPOSE : Code := 0x08
/-- Journal policy refused. -/
def Code.CC_JOURNAL_POLICY : Code := 0x09
/-- Worst case exceeds deadline. -/
def Code.CC_RETRY_EXCEEDS_DEADLINE : Code := 0x0A
/-- Chain or port absent or unbound. -/
def Code.CC_RESOURCE : Code := 0x0B
/-- Kill in a plan. -/
def Code.CC_KILL_STEP : Code := 0x0C
/-- Ninth direct channel. -/
def Code.CC_DIRECT_LIMIT : Code := 0x0D
/-- Quota above 50. -/
def Code.CC_DIRECT_QUOTA : Code := 0x0E
/-- Commit group combination refused. -/
def Code.CC_GROUP_MISMATCH : Code := 0x0F
/-- Prerequisite not enabled. -/
def Code.CC_ENABLE_ORDER : Code := 0x10
/-- HF profile refused. -/
def Code.CC_HF_PROFILE : Code := 0x11
/-- Bond refused. -/
def Code.CC_HF_BOND : Code := 0x12
/-- Coupling set malformed. -/
def Code.CC_HF_SET : Code := 0x13
/-- Protocol not allowed by profile. -/
def Code.CC_HF_PROTO : Code := 0x14
/-- Sweep not permitted. -/
def Code.CC_CAL_STATE : Code := 0x15
/-- HF step block refused. -/
def Code.CC_HF_STEP : Code := 0x16
/-- UHF profile or route refused. -/
def Code.CC_UHF_PROFILE : Code := 0x17
/-- Channel index outside region. -/
def Code.CC_UHF_CHANNEL : Code := 0x18
/-- Steered pair refused. -/
def Code.CC_UHF_STEER : Code := 0x19
/-- UHF step or air block refused. -/
def Code.CC_UHF_STEP : Code := 0x1A
/-- Kill submission refused. -/
def Code.CC_KILL_DENIED : Code := 0x1B
/-- Limit looser than ceiling. -/
def Code.CC_REG_LOOSEN : Code := 0x1C
/-- Coexistence configuration refused. -/
def Code.CC_COEX_CONFIG : Code := 0x1D
/-- REGION_BLOW not permitted. -/
def Code.CC_REGION_STATE : Code := 0x1E
/-- WATCH configuration refused. -/
def Code.CC_WATCH_CONFIG : Code := 0x1F
/-- Slot in use or none free. -/
def Code.CC_CHN_FULL : Code := 0x20
/-- Channel entry invalid. -/
def Code.CC_CHN_PLAN : Code := 0x21
/-- Direct message malformed. -/
def Code.CC_DIRECT_FORMAT : Code := 0x22
/-- Plan descriptor refused. -/
def Code.CC_PLAN : Code := 0x23
/-- Object entry refused. -/
def Code.CC_OBJECT : Code := 0x24
/-- GPIO section refused. -/
def Code.CC_GPIO : Code := 0x25
/-- JOURNAL section refused. -/
def Code.CC_JOURNAL : Code := 0x26
/-- Cellar geometry mismatch. -/
def Code.CC_JOURNAL_GEOMETRY : Code := 0x27
/-- Key entry or section malformed. -/
def Code.CC_KEYS : Code := 0x28
/-- TAMPER_CONFIG refused. -/
def Code.CC_TAMPER_CONFIG : Code := 0x29
/-- Key command out of mode or slot. -/
def Code.CC_KEY_STATE : Code := 0x2A
/-- HOST_OPTIONS refused. -/
def Code.CC_HOST_OPTIONS : Code := 0x2B
/-- Check-value unit refused. -/
def Code.CC_CVU_CONFIG : Code := 0x2C
/-- Timer configuration refused. -/
def Code.CC_TIMER_CONFIG : Code := 0x2D
/-- TIME_SET payload refused. -/
def Code.CC_TIME_SET : Code := 0x2E
/-- Image or section malformed. -/
def Code.CC_IMAGE_FORMAT : Code := 0x38
/-- Section CRC failed. -/
def Code.CC_IMAGE_SECTION_CRC : Code := 0x39
/-- Part or revision not accepted. -/
def Code.CC_IMAGE_TARGET : Code := 0x3A
/-- IMAGE_WRITE out of order. -/
def Code.CC_IMAGE_STATE : Code := 0x3B
/-- Step deadline passed. -/
def Code.DEADLINE : Code := 0x40
/-- Run stopped or destroyed. -/
def Code.STOPPED : Code := 0x41
/-- Command not valid in state. -/
def Code.CHN_STATE : Code := 0x42
/-- Cross-field residual too high. -/
def Code.HF_XFIELD_RESIDUAL : Code := 0x50
/-- Resonance outside trim. -/
def Code.HF_TUNE_RANGE : Code := 0x51
/-- HF port not usable. -/
def Code.HF_PORT_UNAVAILABLE : Code := 0x52
/-- No start of frame. -/
def Code.HF_NO_RESPONSE : Code := 0x53
/-- Reply CRC failed. -/
def Code.HF_CRC_ERROR : Code := 0x54
/-- Parity, coding or EOF error. -/
def Code.HF_FRAMING_ERROR : Code := 0x55
/-- Reply rate outside ±3 %. -/
def Code.HF_RATE_OUT : Code := 0x56
/-- Overlapping replies. -/
def Code.COLLIDED : Code := 0x57
/-- Frame, block or chain too long. -/
def Code.HF_FRAME_TOO_LONG : Code := 0x58
/-- Block protocol or activation failed. -/
def Code.HF_PROTOCOL_ERROR : Code := 0x59
/-- Too many WTX requests. -/
def Code.HF_WTX_LIMIT : Code := 0x5A
/-- Card lacks the rate. -/
def Code.HF_RATE_UNSUPPORTED : Code := 0x5B
/-- ADC clipped. -/
def Code.HF_GAIN_CLIP : Code := 0x5C
/-- No lock within 200 µs. -/
def Code.SYNTH_UNLOCK : Code := 0x60
/-- External power loop failed. -/
def Code.UHF_PA_LOOP : Code := 0x61
/-- Canceller residual too high. -/
def Code.UHF_LEAK_HIGH : Code := 0x62
/-- UHF port not usable. -/
def Code.UHF_PORT_UNAVAILABLE : Code := 0x63
/-- No reply, or no tag. -/
def Code.UHF_NO_REPLY : Code := 0x64
/-- Reply CRC failed. -/
def Code.UHF_CRC_ERROR : Code := 0x65
/-- Tag error reply. -/
def Code.UHF_TAG_ERROR : Code := 0x66
/-- Object not singulated. -/
def Code.UHF_NOT_FOUND : Code := 0x67
/-- Tag authentication failed. -/
def Code.TAG_AUTH_FAIL : Code := 0x68
/-- Mode left DIRECT before Kill. -/
def Code.UHF_KILL_DENIED : Code := 0x69
/-- No delayed reply. -/
def Code.UHF_WRITE_UNVERIFIED : Code := 0x6A
/-- Coding violation. -/
def Code.UHF_FRAMING_ERROR : Code := 0x6B
/-- Grant withdrawn or window began. -/
def Code.COEX_PREEMPT : Code := 0x70
/-- No permit. -/
def Code.GOV_DENIED : Code := 0x71
/-- Run not started while held. -/
def Code.MISSED : Code := 0x78
/-- Run ended by a transition. -/
def Code.MODE_ABORT : Code := 0x79
/-- Bound tag not the object. -/
def Code.OBJECT_MISMATCH : Code := 0x7A
/-- Payload differs from EXP_LEN. -/
def Code.REPLY_LENGTH : Code := 0x7B
/-- Cellar full or not journalling. -/
def Code.JRNL_NO_ROOM : Code := 0x7C
/-- Check-value unit flagged reply. -/
def Code.CV_CHECK_FAIL : Code := 0x7D
/-- Antenna current too low. -/
def Code.HF_PORT_OPEN : Code := 0x80
/-- Antenna current too high. -/
def Code.HF_PORT_SHORT : Code := 0x81
/-- HF driver or carrier fault. -/
def Code.HF_DRIVER_FAULT : Code := 0x82
/-- Synthesiser lock lost or absent. -/
def Code.UHF_SYNTH_FAULT : Code := 0x83
/-- Repeated PA loop failure. -/
def Code.UHF_CHAIN_FAULT : Code := 0x84
/-- Return loss below threshold. -/
def Code.UHF_PORT_FAULT : Code := 0x85
/-- Output above permit. -/
def Code.GOV_OVERLIMIT : Code := 0x86
/-- Fuse program or read-back failed. -/
def Code.FUSE_FAIL : Code := 0x87
/-- Cellar full outside SURVEY. -/
def Code.JOURNAL_FULL : Code := 0x88
/-- NAND failure. -/
def Code.NAND_FAIL : Code := 0x89
/-- NOR failure. -/
def Code.NOR_FAIL : Code := 0x8A
/-- Self-test failed. -/
def Code.SELFTEST_FAIL : Code := 0x8B
/-- Boot watchdog expired. -/
def Code.BOOT_WDOG : Code := 0x8C
/-- Sequencer watchdog expired. -/
def Code.SEQ_WDOG : Code := 0x8D
/-- Attic crystal or core PLL lost. -/
def Code.CLOCK_LOSS : Code := 0x8E
/-- Cut by key-kill. -/
def Code.KEY_DESTROYED : Code := 0xA0
/-- Slot or context empty. -/
def Code.KEY_EMPTY : Code := 0xA1
/-- Purpose missing. -/
def Code.KEY_PURPOSE : Code := 0xA2
/-- Wrapped key rejected. -/
def Code.UNWRAP_FAIL : Code := 0xA3
/-- Token did not verify. -/
def Code.REARM_FAIL : Code := 0xA4
/-- Re-arm not possible. -/
def Code.REARM_DENIED : Code := 0xA5
/-- Generator not serving. -/
def Code.DRBG_FAIL : Code := 0xA6
/-- KEYS body differs from digest. -/
def Code.KEYS_MISMATCH : Code := 0xA7
/-- Image unsigned or CMAC mismatch. -/
def Code.IMAGE_AUTH_FAIL : Code := 0xA8
/-- Unknown opcode or M misplaced. -/
def Code.HOST_BAD_OPCODE : Code := 0xC0
/-- LEN or SELECT out of range. -/
def Code.HOST_BAD_LENGTH : Code := 0xC1
/-- Address or ADDR refused. -/
def Code.HOST_BAD_ADDR : Code := 0xC2
/-- Queue or history full. -/
def Code.HOST_BUSY : Code := 0xC3
/-- Request ID stale. -/
def Code.HOST_STALE : Code := 0xC4
/-- Handle free or old. -/
def Code.HOST_BAD_HANDLE : Code := 0xC5
/-- Locked field write. -/
def Code.HOST_FIELD_LOCKED : Code := 0xC6
/-- Unknown command, reserved payload bit or undefined OP. -/
def Code.HOST_BAD_CMD : Code := 0xC7
/-- Port not yet serving. -/
def Code.HOST_NOT_READY : Code := 0xC8
/-- Boot halted. -/
def Code.HOST_BOOT_HALTED : Code := 0xC9
/-- Frame CRC mismatch. -/
def Code.HOST_CRC : Code := 0xCA
/-- Alive counter refused. -/
def Code.HOST_ALIVE : Code := 0xCB
/-- Session CMAC refused. -/
def Code.HOST_MAC : Code := 0xCC
/-- Frame incomplete. -/
def Code.HOST_ABORTED : Code := 0xCD
/-- Mailbox on a non-direct channel. -/
def Code.HOST_NOT_DIRECT : Code := 0xCE
/-- No matching batch. -/
def Code.JRNL_ACK_RANGE : Code := 0xD0

/-- The codes of R496. -/
def Code.all : List Code :=
  [0x00, 0x01, 0x02, 0x03, 0x04, 0x05, 0x06, 0x07, 0x08, 0x09, 0x0A, 0x0B, 0x0C, 0x0D, 0x0E, 0x0F] ++
  [0x10, 0x11, 0x12, 0x13, 0x14, 0x15, 0x16, 0x17, 0x18, 0x19, 0x1A, 0x1B, 0x1C, 0x1D, 0x1E, 0x1F] ++
  [0x20, 0x21, 0x22, 0x23, 0x24, 0x25, 0x26, 0x27, 0x28, 0x29, 0x2A, 0x2B, 0x2C, 0x2D, 0x2E, 0x38] ++
  [0x39, 0x3A, 0x3B, 0x40, 0x41, 0x42, 0x50, 0x51, 0x52, 0x53, 0x54, 0x55, 0x56, 0x57, 0x58, 0x59] ++
  [0x5A, 0x5B, 0x5C, 0x60, 0x61, 0x62, 0x63, 0x64, 0x65, 0x66, 0x67, 0x68, 0x69, 0x6A, 0x6B, 0x70] ++
  [0x71, 0x78, 0x79, 0x7A, 0x7B, 0x7C, 0x7D, 0x80, 0x81, 0x82, 0x83, 0x84, 0x85, 0x86, 0x87, 0x88] ++
  [0x89, 0x8A, 0x8B, 0x8C, 0x8D, 0x8E, 0xA0, 0xA1, 0xA2, 0xA3, 0xA4, 0xA5, 0xA6, 0xA7, 0xA8, 0xC0] ++
  [0xC1, 0xC2, 0xC3, 0xC4, 0xC5, 0xC6, 0xC7, 0xC8, 0xC9, 0xCA, 0xCB, 0xCC, 0xCD, 0xCE, 0xD0]

end Sys2Proof.Machine
end

