-- ==== Sys2Proof/Machine/Fields.lean ====
section
/-!
DEFINITION. The host registers of the spec's register tables: their word addresses (`R.<NAME>`), their fields
(`F.<NAME>_<FIELD>`), how each field is written (R6) and the class of each written field (R5). An index `n`, `m` or `k`
is the instance number of the name, as in the spec.
-/

namespace Sys2Proof.Machine

open Sys2Proof

/-! ### Word addresses -/

/-! R35 -/
def R.DEV_ID : Nat := 0x0
def R.DEV_SERIAL_HI : Nat := 0x1
def R.DEV_SERIAL_LO : Nat := 0x2
def R.DEV_CAP : Nat := 0x3
def R.DEV_STAT : Nat := 0x4
def R.DEV_ORPHAN : Nat := 0x5

/-! R62 -/
def R.BOOT_STATUS : Nat := 0x50
def R.BOOT_REASON : Nat := 0x51
def R.BOOT_IMAGE : Nat := 0x52
def R.BOOT_SEQ : Nat := 0x53

/-! R96 -/
def R.SUP_MODE : Nat := 0x40
def R.SUP_CC : Nat := 0x41
def R.SUP_CC_NEED : Nat := 0x42
def R.SUP_DIRECT_QUOTA : Nat := 0x43
def R.SUP_MODE_ALLOW : Nat := 0x44
def R.SUP_MISSED : Nat := 0x45
def R.SUP_TRANS_TIME : Nat := 0x46
def R.SUP_CHECK : Nat := 0x47

/-! R131 -/
def R.HFCn_CTL (n : Nat) : Nat := 0x200 + 0x40 * n
def R.HFCn_STAT (n : Nat) : Nat := 0x201 + 0x40 * n
def R.HFCn_TXCTL (n : Nat) : Nat := 0x202 + 0x40 * n
def R.HFCn_PROTO (n : Nat) : Nat := 0x203 + 0x40 * n
def R.HFCn_BOND (n : Nat) : Nat := 0x205 + 0x40 * n
def R.HFCn_IANT (n : Nat) : Nat := 0x206 + 0x40 * n
def R.HFCn_POWER (n : Nat) : Nat := 0x207 + 0x40 * n
def R.HFCn_RESID (n : Nat) : Nat := 0x208 + 0x40 * n
def R.HFCn_XKm (n : Nat) (m : Nat) : Nat := 0x209 + 0x40 * n + m
def R.HFCn_WAIT (n : Nat) : Nat := 0x20D + 0x40 * n
def R.HFCn_STAG_TIME (n : Nat) : Nat := 0x20E + 0x40 * n

/-! R132 -/
def R.HFSET_SEL : Nat := 0x210
def R.HFSET_Wk (k : Nat) : Nat := 0x211 + k

/-! R133 -/
def R.HFPn_CFG (n : Nat) : Nat := 0x300 + 0x10 * n
def R.HFPn_STAT (n : Nat) : Nat := 0x301 + 0x10 * n
def R.HFPn_TUNE (n : Nat) : Nat := 0x302 + 0x10 * n
def R.HFPn_CNT (n : Nat) : Nat := 0x303 + 0x10 * n
def R.HFPn_PROFk (n : Nat) (k : Nat) : Nat := 0x304 + 0x10 * n + k

/-! R173 -/
def R.HFCn_RXCFG (n : Nat) : Nat := 0x220 + 0x40 * n
def R.HFCn_RXSTAT (n : Nat) : Nat := 0x221 + 0x40 * n
def R.HFCn_RXLVL (n : Nat) : Nat := 0x222 + 0x40 * n
def R.HFCn_RXPH (n : Nat) : Nat := 0x223 + 0x40 * n
def R.HFCn_FDT (n : Nat) : Nat := 0x224 + 0x40 * n
def R.HFCn_NOISE (n : Nat) : Nat := 0x225 + 0x40 * n
def R.HFCn_RXCNT0 (n : Nat) : Nat := 0x226 + 0x40 * n
def R.HFCn_RXCNT1 (n : Nat) : Nat := 0x227 + 0x40 * n
def R.HFCn_RXCNT2 (n : Nat) : Nat := 0x228 + 0x40 * n

/-! R209 -/
def R.UHFCn_CTL (n : Nat) : Nat := 0x400 + 0x80 * n
def R.UHFCn_STAT (n : Nat) : Nat := 0x401 + 0x80 * n
def R.UHFCn_SYN_CFG (n : Nat) : Nat := 0x402 + 0x80 * n
def R.UHFCn_CHAN (n : Nat) : Nat := 0x403 + 0x80 * n
def R.UHFCn_SYN_STAT (n : Nat) : Nat := 0x405 + 0x80 * n
def R.UHFCn_CALMAP_HI (n : Nat) : Nat := 0x406 + 0x80 * n
def R.UHFCn_CALMAP_LO (n : Nat) : Nat := 0x407 + 0x80 * n
def R.UHFCn_TXCFG (n : Nat) : Nat := 0x408 + 0x80 * n
def R.UHFCn_POWER (n : Nat) : Nat := 0x409 + 0x80 * n
def R.UHFCn_PA (n : Nat) : Nat := 0x40A + 0x80 * n
def R.UHFCn_CANC (n : Nat) : Nat := 0x40B + 0x80 * n
def R.UHFCn_LEAK (n : Nat) : Nat := 0x40C + 0x80 * n
def R.UHFCn_RXCFG (n : Nat) : Nat := 0x40D + 0x80 * n
def R.UHFCn_CNT (n : Nat) : Nat := 0x40E + 0x80 * n
def R.UHFCn_QSTAT (n : Nat) : Nat := 0x40F + 0x80 * n

/-! R210 -/
def R.UHF_STEER : Nat := 0x410
def R.UHFPROF_SEL : Nat := 0x411
def R.UHFPROFk (k : Nat) : Nat := 0x412 + k

/-! R211 -/
def R.UHFPn_CFG (n : Nat) : Nat := 0x500 + 0x8 * n
def R.UHFPn_STAT (n : Nat) : Nat := 0x501 + 0x8 * n
def R.UHFPn_CNT (n : Nat) : Nat := 0x502 + 0x8 * n

/-! R245 -/
def R.UHFCn_AIRCFG (n : Nat) : Nat := 0x440 + 0x80 * n
def R.UHFCn_RXSTAT (n : Nat) : Nat := 0x441 + 0x80 * n
def R.UHFCn_RXLVL (n : Nat) : Nat := 0x442 + 0x80 * n
def R.UHFCn_RXPH (n : Nat) : Nat := 0x443 + 0x80 * n
def R.UHFCn_ROUND (n : Nat) : Nat := 0x444 + 0x80 * n
def R.UHFCn_SLOTCNT0 (n : Nat) : Nat := 0x445 + 0x80 * n
def R.UHFCn_SLOTCNT1 (n : Nat) : Nat := 0x446 + 0x80 * n
def R.UHFCn_ERRCNT (n : Nat) : Nat := 0x447 + 0x80 * n
def R.UHFCn_SWEEP (n : Nat) : Nat := 0x448 + 0x80 * n

/-! R268 -/
def R.GOV_REGION : Nat := 0x600
def R.GOV_UHF : Nat := 0x601
def R.GOV_TIME : Nat := 0x602
def R.GOV_HF : Nat := 0x603
def R.GOV_CHMASK_HI : Nat := 0x604
def R.GOV_CHMASK_LO : Nat := 0x605
def R.GOV_CTL : Nat := 0x606
def R.GOV_STAT : Nat := 0x607
def R.GOV_DWELL : Nat := 0x608
def R.GOV_CNT : Nat := 0x609
def R.GOV_ASSUME : Nat := 0x60A

/-! R269 -/
def R.COEX_CFG : Nat := 0x680
def R.COEX_STAT : Nat := 0x681
def R.COEX_CNT : Nat := 0x682
def R.COEX_WAIT : Nat := 0x683
def R.COEX_PWk_CFG (k : Nat) : Nat := 0x684 + 0x2 * k
def R.COEX_PWk_WIN (k : Nat) : Nat := 0x685 + 0x2 * k

/-! R287 -/
def R.WATCH_CTL : Nat := 0x700
def R.WATCH_PULSE : Nat := 0x701
def R.WATCH_THR : Nat := 0x702
def R.WATCH_TIMER : Nat := 0x703
def R.WATCH_PERIODk (k : Nat) : Nat := 0x704 + k
def R.WATCH_WAKE : Nat := 0x708
def R.WATCH_STAT : Nat := 0x709
def R.WATCH_DET : Nat := 0x70A
def R.WATCH_SEL : Nat := 0x70B
def R.WATCH_BASE : Nat := 0x70C

/-! R319 -/
def R.CHN_SEL : Nat := 0x800
def R.CHN_INFO : Nat := 0x801
def R.CHN_PLAN : Nat := 0x802
def R.CHN_RUNCNT : Nat := 0x803
def R.CHN_STEP : Nat := 0x804
def R.CHN_REMAIN : Nat := 0x805
def R.CHN_LAST : Nat := 0x806
def R.CHN_REQ : Nat := 0x807
def R.CHN_CNT0 : Nat := 0x808
def R.CHN_CNT1 : Nat := 0x809
def R.CHN_DUP : Nat := 0x80A
def R.CHN_HSEL : Nat := 0x80B
def R.CHN_HIST : Nat := 0x80C
def R.CHN_TABLE : Nat := 0x80D
def R.CHN_WAITT : Nat := 0x80E

/-! R344 -/
def R.GPIO_IN : Nat := 0xF00
def R.GPIO_OUT : Nat := 0xF01
def R.GPIO_FUNCk (k : Nat) : Nat := 0xF02 + k
def R.GPIO_STRIKE : Nat := 0xF05
def R.GPIO_CNT : Nat := 0xF06

/-! R345 -/
def R.OBJ_SEL : Nat := 0x900
def R.OBJ_Wk (k : Nat) : Nat := 0x901 + k
def R.OBJ_CTL : Nat := 0x909
def R.OBJ_CENSUS : Nat := 0x90A
def R.OBJ_SEEN_HI : Nat := 0x90B
def R.OBJ_SEEN_LO : Nat := 0x90C
def R.OBJ_COUNT : Nat := 0x90D
def R.SVC_OVERRUN : Nat := 0x90E

/-! R382 -/
def R.JRN_STAT : Nat := 0xA00
def R.JRN_LAST_SEQ : Nat := 0xA01
def R.JRN_DURABLE : Nat := 0xA02
def R.JRN_CURSOR : Nat := 0xA03
def R.JRN_CURSOR_SEQ : Nat := 0xA04
def R.JRN_UNACK : Nat := 0xA05
def R.JRN_LARDER : Nat := 0xA06
def R.JRN_LOSS : Nat := 0xA07
def R.JRN_CNT : Nat := 0xA08
def R.JRN_DEVn (n : Nat) : Nat := 0xA09 + n

/-! R383 -/
def R.MEM_CFG : Nat := 0xE00
def R.MEM_STAT : Nat := 0xE01
def R.MEM_SHARE : Nat := 0xE02
def R.MEM_ERR : Nat := 0xE03
def R.MEM_ECC : Nat := 0xE04

/-! R411 -/
def R.VLT_STAT : Nat := 0xB00
def R.VLT_TAMPER_SEEN : Nat := 0xB01
def R.VLT_TAMPER_COUNT : Nat := 0xB02
def R.VLT_TAMPER_JRNL : Nat := 0xB03
def R.VLT_REARM_COUNT : Nat := 0xB0D
def R.VLT_TAMPER_TIME_HI : Nat := 0xB04
def R.VLT_TAMPER_TIME_LO : Nat := 0xB05
def R.VLT_TAMPER_CFG : Nat := 0xB06
def R.VLT_SLOT_SEL : Nat := 0xB07
def R.VLT_SLOT_INFO : Nat := 0xB08
def R.VLT_SLOT_KCV : Nat := 0xB09
def R.VLT_SESSION : Nat := 0xB0A
def R.VLT_DRBG : Nat := 0xB0B
def R.VLT_REARM : Nat := 0xB0C
def R.VLT_CNT : Nat := 0xB0E

/-! R447 -/
def R.HOST_STAT : Nat := 0x80
def R.HOST_LAST_ERR : Nat := 0x81
def R.HOST_IRQ_STAT : Nat := 0x82
def R.HOST_IRQ_EN : Nat := 0x83
def R.HOST_EVT_IRQ : Nat := 0x84
def R.HOST_EVT_STAT : Nat := 0x85
def R.HOST_JRN_STAGED : Nat := 0x86
def R.HOST_CNT : Nat := 0x87
def R.HOST_CHK_CNT : Nat := 0x88
def R.HOST_SESSION_CTR : Nat := 0x89

/-! R473 -/
def R.TIME_LO : Nat := 0x100
def R.TIME_HI : Nat := 0x101
def R.WALL_LO : Nat := 0x102
def R.WALL_HI : Nat := 0x103
def R.SNAP_TIME_LO : Nat := 0x105
def R.SNAP_TIME_HI : Nat := 0x106
def R.SNAP_WALL_LO : Nat := 0x107
def R.SNAP_WALL_HI : Nat := 0x108
def R.TIME_SNAP : Nat := 0x104
def R.TIME_STAT : Nat := 0x109

/-! R474 -/
def R.CVUn_CFG (n : Nat) : Nat := 0xC00 + 0x10 * n
def R.CVUn_ALG (n : Nat) : Nat := 0xC01 + 0x10 * n
def R.CVUn_VALUE (n : Nat) : Nat := 0xC03 + 0x10 * n
def R.CVUn_RESULT (n : Nat) : Nat := 0xC04 + 0x10 * n
def R.CVUn_ALIVE_CFG (n : Nat) : Nat := 0xC05 + 0x10 * n
def R.CVUn_ALIVE_EXP (n : Nat) : Nat := 0xC06 + 0x10 * n
def R.CVUn_STAT (n : Nat) : Nat := 0xC07 + 0x10 * n
def R.CVUn_CNT0 (n : Nat) : Nat := 0xC08 + 0x10 * n
def R.CVUn_CNT1 (n : Nat) : Nat := 0xC09 + 0x10 * n
def R.CVUn_BIND (n : Nat) : Nat := 0xC0A + 0x10 * n

/-! R475 -/
def R.TMRn_CTL (n : Nat) : Nat := 0xD00 + 0x20 * n
def R.TMRn_COUNT (n : Nat) : Nat := 0xD01 + 0x20 * n
def R.TMRn_CAP0 (n : Nat) : Nat := 0xD0B + 0x20 * n
def R.TMRn_CAP1 (n : Nat) : Nat := 0xD0C + 0x20 * n
def R.TMRn_SNAPCNT (n : Nat) : Nat := 0xD0E + 0x20 * n
def R.TMRn_STAT (n : Nat) : Nat := 0xD02 + 0x20 * n
def R.TMRn_RELOAD (n : Nat) : Nat := 0xD03 + 0x20 * n
def R.TMRn_CMPk (n : Nat) (k : Nat) : Nat := 0xD04 + 0x20 * n + k
def R.TMRn_CMPCFG (n : Nat) : Nat := 0xD08 + 0x20 * n
def R.TMRn_CAPCFG (n : Nat) : Nat := 0xD0A + 0x20 * n
def R.TMRn_CAPSTAT (n : Nat) : Nat := 0xD0D + 0x20 * n

/-! R495 -/
def R.FLT_STAT : Nat := 0xF80
def R.FLT_PORTS : Nat := 0xF81
def R.FLT_CLR : Nat := 0xF82
def R.FLT_CNT : Nat := 0xF83
def R.FLT_INT : Nat := 0xF84
def R.FLT_SEL : Nat := 0xF85
def R.FLT_Ek (k : Nat) : Nat := 0xF86 + k
def R.FLT_BOOT : Nat := 0xF8E

/-! R92 -/
def R.HFCn_GROUP0_COMMIT (n : Nat) : Nat := 0x204 + 0x40 * n
def R.UHFCn_GROUP0_COMMIT (n : Nat) : Nat := 0x404 + 0x80 * n
def R.TMRn_GROUP0_COMMIT (n : Nat) : Nat := 0xD09 + 0x20 * n
def R.CVUn_GROUP0_COMMIT (n : Nat) : Nat := 0xC02 + 0x10 * n

/-! ### Fields -/

def F.DEV_ID_PART : Fld := ⟨0x0, 31, 16⟩
def F.DEV_ID_VARIANT : Fld := ⟨0x0, 15, 8⟩
def F.DEV_ID_REV_MAJOR : Fld := ⟨0x0, 7, 4⟩
def F.DEV_ID_REV_MINOR : Fld := ⟨0x0, 3, 0⟩
def F.DEV_SERIAL_HI_SERIAL : Fld := ⟨0x1, 31, 0⟩
def F.DEV_SERIAL_LO_SERIAL : Fld := ⟨0x2, 31, 0⟩
def F.DEV_CAP_REGION_FUSED : Fld := ⟨0x3, 31, 31⟩
def F.DEV_CAP_DEBUG_OFF : Fld := ⟨0x3, 30, 30⟩
def F.DEV_CAP_HF_CHAINS : Fld := ⟨0x3, 23, 20⟩
def F.DEV_CAP_UHF_CHAINS : Fld := ⟨0x3, 19, 16⟩
def F.DEV_CAP_HF_PORTS : Fld := ⟨0x3, 15, 8⟩
def F.DEV_CAP_UHF_PORTS : Fld := ⟨0x3, 7, 0⟩
def F.DEV_STAT_MODE_CUR : Fld := ⟨0x4, 15, 12⟩
def F.DEV_STAT_BOOT_DONE : Fld := ⟨0x4, 11, 11⟩
def F.DEV_STAT_TIME_UNSYNC : Fld := ⟨0x4, 10, 10⟩
def F.DEV_STAT_ATTIC_RC : Fld := ⟨0x4, 9, 9⟩
def F.DEV_STAT_TAMPER : Fld := ⟨0x4, 8, 8⟩
def F.DEV_STAT_FAULT : Fld := ⟨0x4, 7, 7⟩
def F.DEV_ORPHAN_COUNT : Fld := ⟨0x5, 31, 0⟩
def F.BOOT_STATUS_CODE : Fld := ⟨0x50, 23, 16⟩
def F.BOOT_STATUS_STAGE : Fld := ⟨0x50, 11, 8⟩
def F.BOOT_STATUS_STATE : Fld := ⟨0x50, 7, 0⟩
def F.BOOT_REASON_WDOG : Fld := ⟨0x51, 7, 7⟩
def F.BOOT_REASON_REARM : Fld := ⟨0x51, 6, 6⟩
def F.BOOT_REASON_SOFT : Fld := ⟨0x51, 5, 5⟩
def F.BOOT_REASON_PFAIL : Fld := ⟨0x51, 4, 4⟩
def F.BOOT_REASON_RESET_PIN : Fld := ⟨0x51, 3, 3⟩
def F.BOOT_REASON_PGOOD : Fld := ⟨0x51, 2, 2⟩
def F.BOOT_REASON_POR : Fld := ⟨0x51, 1, 1⟩
def F.BOOT_IMAGE_A_CODE : Fld := ⟨0x52, 31, 24⟩
def F.BOOT_IMAGE_B_CODE : Fld := ⟨0x52, 23, 16⟩
def F.BOOT_IMAGE_A_STATE : Fld := ⟨0x52, 11, 10⟩
def F.BOOT_IMAGE_B_STATE : Fld := ⟨0x52, 9, 8⟩
def F.BOOT_IMAGE_STRAP : Fld := ⟨0x52, 1, 0⟩
def F.BOOT_SEQ_SEQ : Fld := ⟨0x53, 31, 0⟩
def F.SUP_MODE_BUSY : Fld := ⟨0x40, 31, 31⟩
def F.SUP_MODE_CODE : Fld := ⟨0x40, 23, 16⟩
def F.SUP_MODE_PREV : Fld := ⟨0x40, 15, 12⟩
def F.SUP_MODE_CUR : Fld := ⟨0x40, 11, 8⟩
def F.SUP_MODE_REQ : Fld := ⟨0x40, 3, 0⟩
def F.SUP_CC_CODE : Fld := ⟨0x41, 31, 24⟩
def F.SUP_CC_SOURCE : Fld := ⟨0x41, 23, 20⟩
def F.SUP_CC_STEP : Fld := ⟨0x41, 19, 16⟩
def F.SUP_CC_SUBJECT : Fld := ⟨0x41, 15, 0⟩
def F.SUP_CC_NEED_NEED : Fld := ⟨0x42, 31, 0⟩
def F.SUP_DIRECT_QUOTA_USED : Fld := ⟨0x43, 15, 8⟩
def F.SUP_DIRECT_QUOTA_QUOTA : Fld := ⟨0x43, 7, 0⟩
def F.SUP_MODE_ALLOW_ALLOW : Fld := ⟨0x44, 5, 0⟩
def F.SUP_MISSED_COUNT : Fld := ⟨0x45, 31, 0⟩
def F.SUP_TRANS_TIME_TIME : Fld := ⟨0x46, 15, 0⟩
def F.SUP_CHECK_BUSY : Fld := ⟨0x47, 31, 31⟩
def F.SUP_CHECK_LAST_CODE : Fld := ⟨0x47, 23, 16⟩
def F.SUP_CHECK_DONE : Fld := ⟨0x47, 15, 0⟩
def F.HFCn_CTL_ENABLE (n : Nat) : Fld := ⟨0x200 + 0x40 * n, 0, 0⟩
def F.HFCn_STAT_LAST_CODE (n : Nat) : Fld := ⟨0x201 + 0x40 * n, 31, 24⟩
def F.HFCn_STAT_FIELD_ON (n : Nat) : Fld := ⟨0x201 + 0x40 * n, 23, 23⟩
def F.HFCn_STAT_MODULATING (n : Nat) : Fld := ⟨0x201 + 0x40 * n, 22, 22⟩
def F.HFCn_STAT_RX_WINDOW (n : Nat) : Fld := ⟨0x201 + 0x40 * n, 21, 21⟩
def F.HFCn_STAT_BONDED (n : Nat) : Fld := ⟨0x201 + 0x40 * n, 20, 20⟩
def F.HFCn_STAT_SPARE (n : Nat) : Fld := ⟨0x201 + 0x40 * n, 19, 19⟩
def F.HFCn_STAT_FAULT (n : Nat) : Fld := ⟨0x201 + 0x40 * n, 18, 18⟩
def F.HFCn_STAT_TIER (n : Nat) : Fld := ⟨0x201 + 0x40 * n, 17, 16⟩
def F.HFCn_STAT_PORT (n : Nat) : Fld := ⟨0x201 + 0x40 * n, 15, 12⟩
def F.HFCn_STAT_PROTO_USE (n : Nat) : Fld := ⟨0x201 + 0x40 * n, 11, 10⟩
def F.HFCn_STAT_MODT_USE (n : Nat) : Fld := ⟨0x201 + 0x40 * n, 9, 9⟩
def F.HFCn_STAT_DEPTH_USE (n : Nat) : Fld := ⟨0x201 + 0x40 * n, 5, 0⟩
def F.HFCn_TXCTL_PHASE (n : Nat) : Fld := ⟨0x202 + 0x40 * n, 25, 16⟩
def F.HFCn_TXCTL_ATT_EXTRA (n : Nat) : Fld := ⟨0x202 + 0x40 * n, 8, 0⟩
def F.HFCn_PROTO_PROTO (n : Nat) : Fld := ⟨0x203 + 0x40 * n, 15, 14⟩
def F.HFCn_PROTO_MODT (n : Nat) : Fld := ⟨0x203 + 0x40 * n, 13, 13⟩
def F.HFCn_PROTO_FALL (n : Nat) : Fld := ⟨0x203 + 0x40 * n, 11, 9⟩
def F.HFCn_PROTO_RISE (n : Nat) : Fld := ⟨0x203 + 0x40 * n, 8, 6⟩
def F.HFCn_PROTO_DEPTH (n : Nat) : Fld := ⟨0x203 + 0x40 * n, 5, 0⟩
def F.HFCn_BOND_EN (n : Nat) : Fld := ⟨0x205 + 0x40 * n, 31, 31⟩
def F.HFCn_BOND_RXSEL (n : Nat) : Fld := ⟨0x205 + 0x40 * n, 30, 30⟩
def F.HFCn_BOND_MEMBER (n : Nat) : Fld := ⟨0x205 + 0x40 * n, 25, 24⟩
def F.HFCn_BOND_PHASE (n : Nat) : Fld := ⟨0x205 + 0x40 * n, 9, 0⟩
def F.HFCn_IANT_CURRENT (n : Nat) : Fld := ⟨0x206 + 0x40 * n, 31, 16⟩
def F.HFCn_IANT_PHASE (n : Nat) : Fld := ⟨0x206 + 0x40 * n, 9, 0⟩
def F.HFCn_POWER_LIMIT_MW (n : Nat) : Fld := ⟨0x207 + 0x40 * n, 31, 16⟩
def F.HFCn_POWER_OUT_MW (n : Nat) : Fld := ⟨0x207 + 0x40 * n, 15, 0⟩
def F.HFCn_RESID_RESID (n : Nat) : Fld := ⟨0x208 + 0x40 * n, 23, 16⟩
def F.HFCn_RESID_DRIFT (n : Nat) : Fld := ⟨0x208 + 0x40 * n, 3, 0⟩
def F.HFCn_XKm_KI (n : Nat) (m : Nat) : Fld := ⟨0x209 + 0x40 * n + m, 31, 16⟩
def F.HFCn_XKm_KQ (n : Nat) (m : Nat) : Fld := ⟨0x209 + 0x40 * n + m, 15, 0⟩
def F.HFCn_WAIT_STAG_CNT (n : Nat) : Fld := ⟨0x20D + 0x40 * n, 31, 16⟩
def F.HFCn_WAIT_FIELD_CNT (n : Nat) : Fld := ⟨0x20D + 0x40 * n, 15, 0⟩
def F.HFCn_STAG_TIME_TIME (n : Nat) : Fld := ⟨0x20E + 0x40 * n, 31, 0⟩
def F.HFSET_SEL_SET : Fld := ⟨0x210, 3, 0⟩
def F.HFSET_Wk_DATA (k : Nat) : Fld := ⟨0x211 + k, 31, 0⟩
def F.HFPn_CFG_ENABLE (n : Nat) : Fld := ⟨0x300 + 0x10 * n, 31, 31⟩
def F.HFPn_CFG_PROFILE (n : Nat) : Fld := ⟨0x300 + 0x10 * n, 4, 0⟩
def F.HFPn_STAT_FAULT (n : Nat) : Fld := ⟨0x301 + 0x10 * n, 31, 31⟩
def F.HFPn_STAT_OPEN (n : Nat) : Fld := ⟨0x301 + 0x10 * n, 30, 30⟩
def F.HFPn_STAT_SHORT (n : Nat) : Fld := ⟨0x301 + 0x10 * n, 29, 29⟩
def F.HFPn_STAT_ACTIVE (n : Nat) : Fld := ⟨0x301 + 0x10 * n, 28, 28⟩
def F.HFPn_STAT_CHAIN (n : Nat) : Fld := ⟨0x301 + 0x10 * n, 27, 26⟩
def F.HFPn_STAT_SET (n : Nat) : Fld := ⟨0x301 + 0x10 * n, 23, 16⟩
def F.HFPn_TUNE_CODE (n : Nat) : Fld := ⟨0x302 + 0x10 * n, 23, 16⟩
def F.HFPn_TUNE_FRES_KHZ (n : Nat) : Fld := ⟨0x302 + 0x10 * n, 15, 0⟩
def F.HFPn_CNT_ONS (n : Nat) : Fld := ⟨0x303 + 0x10 * n, 31, 16⟩
def F.HFPn_CNT_FAULTS (n : Nat) : Fld := ⟨0x303 + 0x10 * n, 15, 0⟩
def F.HFPn_PROFk_DATA (n : Nat) (k : Nat) : Fld := ⟨0x304 + 0x10 * n + k, 31, 0⟩
def F.HFCn_RXCFG_GAIN_OVR (n : Nat) : Fld := ⟨0x220 + 0x40 * n, 31, 31⟩
def F.HFCn_RXCFG_COARSE (n : Nat) : Fld := ⟨0x220 + 0x40 * n, 22, 20⟩
def F.HFCn_RXCFG_FINE (n : Nat) : Fld := ⟨0x220 + 0x40 * n, 18, 16⟩
def F.HFCn_RXSTAT_CODE (n : Nat) : Fld := ⟨0x221 + 0x40 * n, 31, 24⟩
def F.HFCn_RXSTAT_PATTERN (n : Nat) : Fld := ⟨0x221 + 0x40 * n, 19, 16⟩
def F.HFCn_RXSTAT_COLLIDED (n : Nat) : Fld := ⟨0x221 + 0x40 * n, 15, 15⟩
def F.HFCn_RXSTAT_CRC_OK (n : Nat) : Fld := ⟨0x221 + 0x40 * n, 14, 14⟩
def F.HFCn_RXSTAT_CLIP (n : Nat) : Fld := ⟨0x221 + 0x40 * n, 13, 13⟩
def F.HFCn_RXSTAT_LENGTH (n : Nat) : Fld := ⟨0x221 + 0x40 * n, 12, 0⟩
def F.HFCn_RXLVL_RSSI (n : Nat) : Fld := ⟨0x222 + 0x40 * n, 31, 16⟩
def F.HFCn_RXLVL_GAIN (n : Nat) : Fld := ⟨0x222 + 0x40 * n, 7, 0⟩
def F.HFCn_RXPH_RATE_DEV (n : Nat) : Fld := ⟨0x223 + 0x40 * n, 31, 24⟩
def F.HFCn_RXPH_PHASE (n : Nat) : Fld := ⟨0x223 + 0x40 * n, 9, 0⟩
def F.HFCn_FDT_FDT (n : Nat) : Fld := ⟨0x224 + 0x40 * n, 31, 0⟩
def F.HFCn_NOISE_NOISE (n : Nat) : Fld := ⟨0x225 + 0x40 * n, 15, 0⟩
def F.HFCn_RXCNT0_GOOD (n : Nat) : Fld := ⟨0x226 + 0x40 * n, 31, 16⟩
def F.HFCn_RXCNT0_CRC (n : Nat) : Fld := ⟨0x226 + 0x40 * n, 15, 0⟩
def F.HFCn_RXCNT1_NORESP (n : Nat) : Fld := ⟨0x227 + 0x40 * n, 31, 16⟩
def F.HFCn_RXCNT1_COLL (n : Nat) : Fld := ⟨0x227 + 0x40 * n, 15, 0⟩
def F.HFCn_RXCNT2_CLIP (n : Nat) : Fld := ⟨0x228 + 0x40 * n, 21, 16⟩
def F.HFCn_RXCNT2_RATE (n : Nat) : Fld := ⟨0x228 + 0x40 * n, 15, 8⟩
def F.HFCn_RXCNT2_FRAMING (n : Nat) : Fld := ⟨0x228 + 0x40 * n, 7, 0⟩
def F.UHFCn_CTL_ENABLE (n : Nat) : Fld := ⟨0x400 + 0x80 * n, 0, 0⟩
def F.UHFCn_STAT_LAST_CODE (n : Nat) : Fld := ⟨0x401 + 0x80 * n, 31, 24⟩
def F.UHFCn_STAT_STATE (n : Nat) : Fld := ⟨0x401 + 0x80 * n, 23, 21⟩
def F.UHFCn_STAT_LOCKED (n : Nat) : Fld := ⟨0x401 + 0x80 * n, 20, 20⟩
def F.UHFCn_STAT_CALIBRATING (n : Nat) : Fld := ⟨0x401 + 0x80 * n, 19, 19⟩
def F.UHFCn_STAT_TRAINED (n : Nat) : Fld := ⟨0x401 + 0x80 * n, 18, 18⟩
def F.UHFCn_STAT_FAULT (n : Nat) : Fld := ⟨0x401 + 0x80 * n, 17, 17⟩
def F.UHFCn_STAT_ROLE (n : Nat) : Fld := ⟨0x401 + 0x80 * n, 16, 15⟩
def F.UHFCn_STAT_PORT_VALID (n : Nat) : Fld := ⟨0x401 + 0x80 * n, 14, 14⟩
def F.UHFCn_STAT_PORT (n : Nat) : Fld := ⟨0x401 + 0x80 * n, 13, 11⟩
def F.UHFCn_STAT_CH_INDEX (n : Nat) : Fld := ⟨0x401 + 0x80 * n, 5, 0⟩
def F.UHFCn_SYN_CFG_RECAL (n : Nat) : Fld := ⟨0x402 + 0x80 * n, 1, 1⟩
def F.UHFCn_SYN_CFG_CAL_POLICY (n : Nat) : Fld := ⟨0x402 + 0x80 * n, 0, 0⟩
def F.UHFCn_CHAN_CH_INDEX (n : Nat) : Fld := ⟨0x403 + 0x80 * n, 29, 24⟩
def F.UHFCn_CHAN_FREQ_CODE (n : Nat) : Fld := ⟨0x403 + 0x80 * n, 13, 0⟩
def F.UHFCn_SYN_STAT_LOCK_US (n : Nat) : Fld := ⟨0x405 + 0x80 * n, 31, 24⟩
def F.UHFCn_SYN_STAT_TEMP_CAL (n : Nat) : Fld := ⟨0x405 + 0x80 * n, 23, 16⟩
def F.UHFCn_SYN_STAT_TEMP_NOW (n : Nat) : Fld := ⟨0x405 + 0x80 * n, 15, 8⟩
def F.UHFCn_SYN_STAT_ENTRY_VALID (n : Nat) : Fld := ⟨0x405 + 0x80 * n, 7, 7⟩
def F.UHFCn_CALMAP_HI_MAP (n : Nat) : Fld := ⟨0x406 + 0x80 * n, 31, 0⟩
def F.UHFCn_CALMAP_LO_MAP (n : Nat) : Fld := ⟨0x407 + 0x80 * n, 31, 0⟩
def F.UHFCn_TXCFG_PWR_OVR (n : Nat) : Fld := ⟨0x408 + 0x80 * n, 31, 31⟩
def F.UHFCn_TXCFG_TXPWR (n : Nat) : Fld := ⟨0x408 + 0x80 * n, 8, 0⟩
def F.UHFCn_POWER_PERMIT (n : Nat) : Fld := ⟨0x409 + 0x80 * n, 31, 23⟩
def F.UHFCn_POWER_TARGET (n : Nat) : Fld := ⟨0x409 + 0x80 * n, 17, 9⟩
def F.UHFCn_POWER_MEAS (n : Nat) : Fld := ⟨0x409 + 0x80 * n, 8, 0⟩
def F.UHFCn_PA_PAEN (n : Nat) : Fld := ⟨0x40A + 0x80 * n, 31, 31⟩
def F.UHFCn_PA_PABIAS (n : Nat) : Fld := ⟨0x40A + 0x80 * n, 25, 16⟩
def F.UHFCn_PA_DRIVE (n : Nat) : Fld := ⟨0x40A + 0x80 * n, 7, 0⟩
def F.UHFCn_CANC_CI (n : Nat) : Fld := ⟨0x40B + 0x80 * n, 31, 22⟩
def F.UHFCn_CANC_CQ (n : Nat) : Fld := ⟨0x40B + 0x80 * n, 19, 10⟩
def F.UHFCn_LEAK_LEAK (n : Nat) : Fld := ⟨0x40C + 0x80 * n, 31, 24⟩
def F.UHFCn_LEAK_RESID (n : Nat) : Fld := ⟨0x40C + 0x80 * n, 23, 16⟩
def F.UHFCn_LEAK_SUPPR (n : Nat) : Fld := ⟨0x40C + 0x80 * n, 15, 8⟩
def F.UHFCn_RXCFG_GAIN_OVR (n : Nat) : Fld := ⟨0x40D + 0x80 * n, 31, 31⟩
def F.UHFCn_RXCFG_GAIN (n : Nat) : Fld := ⟨0x40D + 0x80 * n, 20, 16⟩
def F.UHFCn_CNT_UNLOCK (n : Nat) : Fld := ⟨0x40E + 0x80 * n, 31, 24⟩
def F.UHFCn_CNT_PALOOP (n : Nat) : Fld := ⟨0x40E + 0x80 * n, 23, 16⟩
def F.UHFCn_CNT_RETRAIN (n : Nat) : Fld := ⟨0x40E + 0x80 * n, 15, 0⟩
def F.UHFCn_QSTAT_DEPTH (n : Nat) : Fld := ⟨0x40F + 0x80 * n, 31, 28⟩
def F.UHFCn_QSTAT_WAIT_MAX (n : Nat) : Fld := ⟨0x40F + 0x80 * n, 15, 0⟩
def F.UHF_STEER_EN : Fld := ⟨0x410, 31, 31⟩
def F.UHF_STEER_MASTER : Fld := ⟨0x410, 30, 30⟩
def F.UHF_STEER_ACTIVE : Fld := ⟨0x410, 29, 29⟩
def F.UHF_STEER_DEGRADED : Fld := ⟨0x410, 28, 28⟩
def F.UHF_STEER_PHASE : Fld := ⟨0x410, 5, 0⟩
def F.UHFPROF_SEL_PROFILE : Fld := ⟨0x411, 4, 0⟩
def F.UHFPROFk_DATA (k : Nat) : Fld := ⟨0x412 + k, 31, 0⟩
def F.UHFPn_CFG_ENABLE (n : Nat) : Fld := ⟨0x500 + 0x8 * n, 31, 31⟩
def F.UHFPn_CFG_PROFILE (n : Nat) : Fld := ⟨0x500 + 0x8 * n, 4, 0⟩
def F.UHFPn_STAT_FAULT (n : Nat) : Fld := ⟨0x501 + 0x8 * n, 31, 31⟩
def F.UHFPn_STAT_ACTIVE (n : Nat) : Fld := ⟨0x501 + 0x8 * n, 30, 30⟩
def F.UHFPn_STAT_CHAIN (n : Nat) : Fld := ⟨0x501 + 0x8 * n, 29, 29⟩
def F.UHFPn_STAT_RL_LOW (n : Nat) : Fld := ⟨0x501 + 0x8 * n, 28, 28⟩
def F.UHFPn_STAT_RL (n : Nat) : Fld := ⟨0x501 + 0x8 * n, 15, 8⟩
def F.UHFPn_CNT_ONS (n : Nat) : Fld := ⟨0x502 + 0x8 * n, 31, 16⟩
def F.UHFPn_CNT_FAULTS (n : Nat) : Fld := ⟨0x502 + 0x8 * n, 15, 0⟩
def F.UHFCn_AIRCFG_CAPTURE_MARGIN (n : Nat) : Fld := ⟨0x440 + 0x80 * n, 3, 0⟩
def F.UHFCn_RXSTAT_CODE (n : Nat) : Fld := ⟨0x441 + 0x80 * n, 31, 24⟩
def F.UHFCn_RXSTAT_HYP (n : Nat) : Fld := ⟨0x441 + 0x80 * n, 23, 21⟩
def F.UHFCn_RXSTAT_ENC (n : Nat) : Fld := ⟨0x441 + 0x80 * n, 20, 19⟩
def F.UHFCn_RXSTAT_TRUNCATED (n : Nat) : Fld := ⟨0x441 + 0x80 * n, 18, 18⟩
def F.UHFCn_RXSTAT_AUTH_OK (n : Nat) : Fld := ⟨0x441 + 0x80 * n, 17, 17⟩
def F.UHFCn_RXSTAT_CAPTURED (n : Nat) : Fld := ⟨0x441 + 0x80 * n, 16, 16⟩
def F.UHFCn_RXSTAT_COLLIDED (n : Nat) : Fld := ⟨0x441 + 0x80 * n, 15, 15⟩
def F.UHFCn_RXSTAT_CRC_OK (n : Nat) : Fld := ⟨0x441 + 0x80 * n, 14, 14⟩
def F.UHFCn_RXSTAT_LENGTH (n : Nat) : Fld := ⟨0x441 + 0x80 * n, 10, 0⟩
def F.UHFCn_RXLVL_RSSI (n : Nat) : Fld := ⟨0x442 + 0x80 * n, 31, 16⟩
def F.UHFCn_RXLVL_GAIN (n : Nat) : Fld := ⟨0x442 + 0x80 * n, 7, 0⟩
def F.UHFCn_RXPH_BLF_DEV (n : Nat) : Fld := ⟨0x443 + 0x80 * n, 31, 24⟩
def F.UHFCn_RXPH_TAG_ERR (n : Nat) : Fld := ⟨0x443 + 0x80 * n, 23, 16⟩
def F.UHFCn_RXPH_PHASE (n : Nat) : Fld := ⟨0x443 + 0x80 * n, 9, 0⟩
def F.UHFCn_ROUND_ROUND (n : Nat) : Fld := ⟨0x444 + 0x80 * n, 31, 24⟩
def F.UHFCn_ROUND_QFP (n : Nat) : Fld := ⟨0x444 + 0x80 * n, 23, 16⟩
def F.UHFCn_ROUND_SLOT (n : Nat) : Fld := ⟨0x444 + 0x80 * n, 15, 0⟩
def F.UHFCn_SLOTCNT0_SINGLE (n : Nat) : Fld := ⟨0x445 + 0x80 * n, 31, 16⟩
def F.UHFCn_SLOTCNT0_EMPTY (n : Nat) : Fld := ⟨0x445 + 0x80 * n, 15, 0⟩
def F.UHFCn_SLOTCNT1_ABANDON (n : Nat) : Fld := ⟨0x446 + 0x80 * n, 31, 16⟩
def F.UHFCn_SLOTCNT1_CAPTURE (n : Nat) : Fld := ⟨0x446 + 0x80 * n, 15, 0⟩
def F.UHFCn_ERRCNT_CRC (n : Nat) : Fld := ⟨0x447 + 0x80 * n, 31, 24⟩
def F.UHFCn_ERRCNT_NOREPLY (n : Nat) : Fld := ⟨0x447 + 0x80 * n, 23, 16⟩
def F.UHFCn_ERRCNT_TAGERR (n : Nat) : Fld := ⟨0x447 + 0x80 * n, 15, 8⟩
def F.UHFCn_ERRCNT_AUTHFAIL (n : Nat) : Fld := ⟨0x447 + 0x80 * n, 7, 0⟩
def F.UHFCn_SWEEP_SWEEPING (n : Nat) : Fld := ⟨0x448 + 0x80 * n, 31, 31⟩
def F.UHFCn_SWEEP_STATE (n : Nat) : Fld := ⟨0x448 + 0x80 * n, 26, 24⟩
def F.UHFCn_SWEEP_CODE (n : Nat) : Fld := ⟨0x448 + 0x80 * n, 5, 0⟩
def F.GOV_REGION_REGION : Fld := ⟨0x600, 31, 24⟩
def F.GOV_REGION_CH_COUNT : Fld := ⟨0x600, 23, 16⟩
def F.GOV_REGION_HOPPING : Fld := ⟨0x600, 15, 15⟩
def F.GOV_REGION_OCC : Fld := ⟨0x600, 14, 14⟩
def F.GOV_UHF_PCOND : Fld := ⟨0x601, 31, 23⟩
def F.GOV_UHF_EIRP : Fld := ⟨0x601, 15, 0⟩
def F.GOV_TIME_DWELL_MAX : Fld := ⟨0x602, 31, 16⟩
def F.GOV_TIME_OFF_MIN : Fld := ⟨0x602, 15, 0⟩
def F.GOV_HF_HF_LIMIT : Fld := ⟨0x603, 31, 16⟩
def F.GOV_HF_HF_TOTAL : Fld := ⟨0x603, 15, 0⟩
def F.GOV_CHMASK_HI_MASK : Fld := ⟨0x604, 31, 0⟩
def F.GOV_CHMASK_LO_MASK : Fld := ⟨0x605, 31, 0⟩
def F.GOV_CTL_RESTORE : Fld := ⟨0x606, 31, 31⟩
def F.GOV_CTL_DUTY_MAX : Fld := ⟨0x606, 9, 0⟩
def F.GOV_STAT_CH0 : Fld := ⟨0x607, 31, 26⟩
def F.GOV_STAT_CH1 : Fld := ⟨0x607, 25, 20⟩
def F.GOV_STAT_HOLD0 : Fld := ⟨0x607, 19, 19⟩
def F.GOV_STAT_HOLD1 : Fld := ⟨0x607, 18, 18⟩
def F.GOV_STAT_INH0 : Fld := ⟨0x607, 17, 17⟩
def F.GOV_STAT_INH1 : Fld := ⟨0x607, 16, 16⟩
def F.GOV_STAT_DUTY_USED : Fld := ⟨0x607, 9, 0⟩
def F.GOV_DWELL_DWELL0 : Fld := ⟨0x608, 31, 16⟩
def F.GOV_DWELL_DWELL1 : Fld := ⟨0x608, 15, 0⟩
def F.GOV_CNT_INHIBIT : Fld := ⟨0x609, 31, 16⟩
def F.GOV_CNT_HOLD : Fld := ⟨0x609, 15, 0⟩
def F.GOV_ASSUME_GAIN_MIN : Fld := ⟨0x60A, 31, 16⟩
def F.GOV_ASSUME_HF_FACTOR_MIN : Fld := ⟨0x60A, 15, 0⟩
def F.COEX_CFG_A_EN : Fld := ⟨0x680, 31, 31⟩
def F.COEX_CFG_A_ALL : Fld := ⟨0x680, 30, 30⟩
def F.COEX_CFG_B_EN : Fld := ⟨0x680, 29, 29⟩
def F.COEX_CFG_PW_ALL : Fld := ⟨0x680, 28, 28⟩
def F.COEX_CFG_LEAD_A : Fld := ⟨0x680, 25, 16⟩
def F.COEX_CFG_LEAD_B : Fld := ⟨0x680, 9, 0⟩
def F.COEX_STAT_REQA : Fld := ⟨0x681, 31, 31⟩
def F.COEX_STAT_PRIA : Fld := ⟨0x681, 30, 30⟩
def F.COEX_STAT_GRANTA : Fld := ⟨0x681, 29, 29⟩
def F.COEX_STAT_ACTA : Fld := ⟨0x681, 28, 28⟩
def F.COEX_STAT_REQB : Fld := ⟨0x681, 27, 27⟩
def F.COEX_STAT_PRIB : Fld := ⟨0x681, 26, 26⟩
def F.COEX_STAT_GRANTB : Fld := ⟨0x681, 25, 25⟩
def F.COEX_STAT_ACTB : Fld := ⟨0x681, 24, 24⟩
def F.COEX_STAT_PW_OPEN : Fld := ⟨0x681, 23, 23⟩
def F.COEX_CNT_PREEMPT : Fld := ⟨0x682, 31, 16⟩
def F.COEX_CNT_WAITS : Fld := ⟨0x682, 15, 0⟩
def F.COEX_WAIT_WAIT_MAX : Fld := ⟨0x683, 31, 0⟩
def F.COEX_PWk_CFG_EN (k : Nat) : Fld := ⟨0x684 + 0x2 * k, 31, 31⟩
def F.COEX_PWk_CFG_SRC (k : Nat) : Fld := ⟨0x684 + 0x2 * k, 30, 30⟩
def F.COEX_PWk_CFG_GPIO (k : Nat) : Fld := ⟨0x684 + 0x2 * k, 28, 24⟩
def F.COEX_PWk_CFG_PERIOD (k : Nat) : Fld := ⟨0x684 + 0x2 * k, 15, 0⟩
def F.COEX_PWk_WIN_OFFSET (k : Nat) : Fld := ⟨0x685 + 0x2 * k, 31, 16⟩
def F.COEX_PWk_WIN_LEN (k : Nat) : Fld := ⟨0x685 + 0x2 * k, 15, 0⟩
def F.WATCH_CTL_FORGET : Fld := ⟨0x700, 31, 31⟩
def F.WATCH_CTL_HOST_MODE : Fld := ⟨0x700, 27, 24⟩
def F.WATCH_CTL_TRACK_SHIFT : Fld := ⟨0x700, 23, 20⟩
def F.WATCH_CTL_WAKE_EN : Fld := ⟨0x700, 19, 16⟩
def F.WATCH_CTL_PORT_EN : Fld := ⟨0x700, 15, 0⟩
def F.WATCH_PULSE_PULSE_ATT : Fld := ⟨0x701, 24, 16⟩
def F.WATCH_THR_APPROACH_THR : Fld := ⟨0x702, 31, 16⟩
def F.WATCH_THR_REMOVAL_THR : Fld := ⟨0x702, 15, 0⟩
def F.WATCH_TIMER_TIMER_S : Fld := ⟨0x703, 31, 0⟩
def F.WATCH_PERIODk_PERIOD (k : Nat) : Fld := ⟨0x704 + k, 31, 0⟩
def F.WATCH_WAKE_TARGET : Fld := ⟨0x708, 23, 20⟩
def F.WATCH_WAKE_PORT : Fld := ⟨0x708, 19, 16⟩
def F.WATCH_WAKE_CAUSE : Fld := ⟨0x708, 4, 0⟩
def F.WATCH_STAT_LOGGED : Fld := ⟨0x709, 31, 24⟩
def F.WATCH_STAT_LOST : Fld := ⟨0x709, 23, 16⟩
def F.WATCH_STAT_BASE_VALID : Fld := ⟨0x709, 15, 0⟩
def F.WATCH_DET_DETECT : Fld := ⟨0x70A, 31, 16⟩
def F.WATCH_DET_REJECT : Fld := ⟨0x70A, 15, 0⟩
def F.WATCH_SEL_PORT : Fld := ⟨0x70B, 3, 0⟩
def F.WATCH_BASE_MAG : Fld := ⟨0x70C, 31, 16⟩
def F.WATCH_BASE_PHASE : Fld := ⟨0x70C, 9, 0⟩
def F.CHN_SEL_DEV : Fld := ⟨0x800, 31, 31⟩
def F.CHN_SEL_SLOT : Fld := ⟨0x800, 7, 0⟩
def F.CHN_INFO_HANDLE : Fld := ⟨0x801, 31, 16⟩
def F.CHN_INFO_STATE : Fld := ⟨0x801, 15, 12⟩
def F.CHN_INFO_KIND : Fld := ⟨0x801, 11, 8⟩
def F.CHN_INFO_HELD : Fld := ⟨0x801, 7, 7⟩
def F.CHN_INFO_PENDING : Fld := ⟨0x801, 6, 6⟩
def F.CHN_INFO_DRAIN : Fld := ⟨0x801, 5, 5⟩
def F.CHN_INFO_MSG_WAIT : Fld := ⟨0x801, 4, 4⟩
def F.CHN_PLAN_PLAN : Fld := ⟨0x802, 24, 16⟩
def F.CHN_PLAN_PRIO : Fld := ⟨0x802, 14, 8⟩
def F.CHN_RUNCNT_RUNS : Fld := ⟨0x803, 31, 0⟩
def F.CHN_STEP_STEP : Fld := ⟨0x804, 31, 29⟩
def F.CHN_STEP_ATTEMPT : Fld := ⟨0x804, 28, 26⟩
def F.CHN_STEP_ACTIVE : Fld := ⟨0x804, 25, 25⟩
def F.CHN_STEP_WAITING : Fld := ⟨0x804, 24, 24⟩
def F.CHN_STEP_PORTCH : Fld := ⟨0x804, 23, 16⟩
def F.CHN_STEP_WAIT : Fld := ⟨0x804, 15, 10⟩
def F.CHN_REMAIN_REMAIN : Fld := ⟨0x805, 31, 0⟩
def F.CHN_LAST_CODE : Fld := ⟨0x806, 31, 24⟩
def F.CHN_LAST_STEP : Fld := ⟨0x806, 23, 21⟩
def F.CHN_LAST_RETRIES : Fld := ⟨0x806, 20, 18⟩
def F.CHN_LAST_LAST_REQ : Fld := ⟨0x806, 15, 0⟩
def F.CHN_REQ_NEWEST : Fld := ⟨0x807, 31, 16⟩
def F.CHN_REQ_COUNT : Fld := ⟨0x807, 4, 0⟩
def F.CHN_CNT0_OK : Fld := ⟨0x808, 31, 16⟩
def F.CHN_CNT0_FAILED : Fld := ⟨0x808, 15, 0⟩
def F.CHN_CNT1_RETRIES : Fld := ⟨0x809, 31, 16⟩
def F.CHN_CNT1_DEADLINES : Fld := ⟨0x809, 15, 0⟩
def F.CHN_DUP_DUP : Fld := ⟨0x80A, 31, 16⟩
def F.CHN_DUP_STALE : Fld := ⟨0x80A, 15, 0⟩
def F.CHN_HSEL_STATE : Fld := ⟨0x80B, 31, 30⟩
def F.CHN_HSEL_ENTRY : Fld := ⟨0x80B, 3, 0⟩
def F.CHN_HIST_ID : Fld := ⟨0x80C, 31, 16⟩
def F.CHN_HIST_CMD : Fld := ⟨0x80C, 15, 8⟩
def F.CHN_HIST_CODE : Fld := ⟨0x80C, 7, 0⟩
def F.CHN_TABLE_USED : Fld := ⟨0x80D, 24, 16⟩
def F.CHN_TABLE_DIRECT : Fld := ⟨0x80D, 11, 8⟩
def F.CHN_TABLE_ORPHAN_SLOT : Fld := ⟨0x80D, 7, 0⟩
def F.CHN_WAITT_WAIT_US : Fld := ⟨0x80E, 31, 0⟩
def F.GPIO_IN_LEVEL : Fld := ⟨0xF00, 23, 0⟩
def F.GPIO_OUT_OUT : Fld := ⟨0xF01, 23, 0⟩
def F.GPIO_FUNCk_FUNC (k : Nat) : Fld := ⟨0xF02 + k, 31, 0⟩
def F.GPIO_STRIKE_ACTIVE : Fld := ⟨0xF05, 23, 0⟩
def F.GPIO_CNT_STRIKES : Fld := ⟨0xF06, 15, 0⟩
def F.OBJ_SEL_INDEX : Fld := ⟨0x900, 11, 0⟩
def F.OBJ_Wk_DATA (k : Nat) : Fld := ⟨0x901 + k, 31, 0⟩
def F.OBJ_CTL_BUSY : Fld := ⟨0x909, 31, 31⟩
def F.OBJ_CTL_CODE : Fld := ⟨0x909, 23, 16⟩
def F.OBJ_CTL_LOAD : Fld := ⟨0x909, 1, 1⟩
def F.OBJ_CTL_WRITE : Fld := ⟨0x909, 0, 0⟩
def F.OBJ_CENSUS_STATE : Fld := ⟨0x90A, 31, 30⟩
def F.OBJ_CENSUS_MISS : Fld := ⟨0x90A, 23, 16⟩
def F.OBJ_CENSUS_LAST_RSSI : Fld := ⟨0x90A, 15, 8⟩
def F.OBJ_CENSUS_LAST_PORT : Fld := ⟨0x90A, 7, 0⟩
def F.OBJ_SEEN_HI_SEEN : Fld := ⟨0x90B, 31, 0⟩
def F.OBJ_SEEN_LO_SEEN : Fld := ⟨0x90C, 31, 0⟩
def F.OBJ_COUNT_VALID : Fld := ⟨0x90D, 12, 0⟩
def F.SVC_OVERRUN_COUNT : Fld := ⟨0x90E, 31, 0⟩
def F.JRN_STAT_STATE : Fld := ⟨0xA00, 31, 28⟩
def F.JRN_STAT_FLUSH_INCOMPLETE : Fld := ⟨0xA00, 27, 27⟩
def F.JRN_STAT_RELOCATING : Fld := ⟨0xA00, 26, 26⟩
def F.JRN_STAT_BATCH : Fld := ⟨0xA00, 25, 25⟩
def F.JRN_STAT_ALL_ACKED : Fld := ⟨0xA00, 24, 24⟩
def F.JRN_STAT_DEV_PRESENT : Fld := ⟨0xA00, 23, 20⟩
def F.JRN_STAT_DEV_FAILED : Fld := ⟨0xA00, 19, 16⟩
def F.JRN_STAT_VOIDS : Fld := ⟨0xA00, 15, 12⟩
def F.JRN_LAST_SEQ_VALUE : Fld := ⟨0xA01, 31, 0⟩
def F.JRN_DURABLE_VALUE : Fld := ⟨0xA02, 31, 0⟩
def F.JRN_CURSOR_VALUE : Fld := ⟨0xA03, 31, 0⟩
def F.JRN_CURSOR_SEQ_VALUE : Fld := ⟨0xA04, 31, 0⟩
def F.JRN_UNACK_COUNT : Fld := ⟨0xA05, 31, 0⟩
def F.JRN_LARDER_USED : Fld := ⟨0xA06, 26, 16⟩
def F.JRN_LARDER_HIGH : Fld := ⟨0xA06, 15, 8⟩
def F.JRN_LARDER_UNDURABLE : Fld := ⟨0xA06, 7, 0⟩
def F.JRN_LOSS_LOSS : Fld := ⟨0xA07, 31, 0⟩
def F.JRN_CNT_COMMITS : Fld := ⟨0xA08, 31, 16⟩
def F.JRN_CNT_RELOCATED : Fld := ⟨0xA08, 15, 0⟩
def F.JRN_DEVn_FREE (n : Nat) : Fld := ⟨0xA09 + n, 31, 16⟩
def F.JRN_DEVn_BAD (n : Nat) : Fld := ⟨0xA09 + n, 15, 0⟩
def F.MEM_CFG_READ_MODE : Fld := ⟨0xE00, 12, 12⟩
def F.MEM_CFG_DUMMY : Fld := ⟨0xE00, 11, 8⟩
def F.MEM_CFG_MEM_DIV : Fld := ⟨0xE00, 3, 0⟩
def F.MEM_STAT_SEL_ACTIVE : Fld := ⟨0xE01, 31, 26⟩
def F.MEM_STAT_DEV_BUSY : Fld := ⟨0xE01, 25, 20⟩
def F.MEM_STAT_FLUSHING : Fld := ⟨0xE01, 19, 19⟩
def F.MEM_STAT_DEPTH : Fld := ⟨0xE01, 13, 8⟩
def F.MEM_STAT_DEPTH_MAX : Fld := ⟨0xE01, 5, 0⟩
def F.MEM_SHARE_BUSY : Fld := ⟨0xE02, 31, 24⟩
def F.MEM_SHARE_COMPACT : Fld := ⟨0xE02, 23, 16⟩
def F.MEM_ERR_SEL : Fld := ⟨0xE03, 31, 29⟩
def F.MEM_ERR_CODE : Fld := ⟨0xE03, 23, 16⟩
def F.MEM_ERR_OP : Fld := ⟨0xE03, 15, 8⟩
def F.MEM_ERR_STATUS : Fld := ⟨0xE03, 7, 0⟩
def F.MEM_ECC_CORRECTED : Fld := ⟨0xE04, 31, 16⟩
def F.MEM_ECC_REFRESH : Fld := ⟨0xE04, 15, 8⟩
def F.MEM_ECC_UNCORR : Fld := ⟨0xE04, 7, 0⟩
def F.VLT_STAT_GATE_OPEN : Fld := ⟨0xB00, 31, 31⟩
def F.VLT_STAT_LATCHED : Fld := ⟨0xB00, 30, 30⟩
def F.VLT_STAT_HARD : Fld := ⟨0xB00, 29, 29⟩
def F.VLT_STAT_HARD_BLOWN : Fld := ⟨0xB00, 28, 28⟩
def F.VLT_STAT_KILL_ACTIVE : Fld := ⟨0xB00, 27, 27⟩
def F.VLT_STAT_DEBUG_OFF : Fld := ⟨0xB00, 26, 26⟩
def F.VLT_STAT_DRBG_OK : Fld := ⟨0xB00, 25, 25⟩
def F.VLT_STAT_SESSION : Fld := ⟨0xB00, 24, 24⟩
def F.VLT_STAT_LAST_CODE : Fld := ⟨0xB00, 23, 16⟩
def F.VLT_STAT_ACTIVE : Fld := ⟨0xB00, 8, 0⟩
def F.VLT_TAMPER_SEEN_SEEN : Fld := ⟨0xB01, 8, 0⟩
def F.VLT_TAMPER_COUNT_VALUE : Fld := ⟨0xB02, 31, 0⟩
def F.VLT_TAMPER_JRNL_VALUE : Fld := ⟨0xB03, 31, 0⟩
def F.VLT_REARM_COUNT_VALUE : Fld := ⟨0xB0D, 31, 0⟩
def F.VLT_TAMPER_TIME_HI_TIME : Fld := ⟨0xB04, 31, 0⟩
def F.VLT_TAMPER_TIME_LO_TIME : Fld := ⟨0xB05, 31, 0⟩
def F.VLT_TAMPER_CFG_SRC_EN : Fld := ⟨0xB06, 31, 28⟩
def F.VLT_TAMPER_CFG_MESH : Fld := ⟨0xB06, 27, 24⟩
def F.VLT_TAMPER_CFG_IDLE : Fld := ⟨0xB06, 23, 20⟩
def F.VLT_TAMPER_CFG_DRV_SEL : Fld := ⟨0xB06, 19, 16⟩
def F.VLT_TAMPER_CFG_FLAGS : Fld := ⟨0xB06, 15, 12⟩
def F.VLT_TAMPER_CFG_FILT : Fld := ⟨0xB06, 11, 8⟩
def F.VLT_SLOT_SEL_SLOT : Fld := ⟨0xB07, 4, 0⟩
def F.VLT_SLOT_INFO_VALID : Fld := ⟨0xB08, 31, 31⟩
def F.VLT_SLOT_INFO_SOURCE : Fld := ⟨0xB08, 30, 29⟩
def F.VLT_SLOT_INFO_PURPOSE : Fld := ⟨0xB08, 28, 24⟩
def F.VLT_SLOT_INFO_KEY_ID : Fld := ⟨0xB08, 15, 0⟩
def F.VLT_SLOT_KCV_KCV : Fld := ⟨0xB09, 23, 0⟩
def F.VLT_SESSION_ACTIVE : Fld := ⟨0xB0A, 31, 31⟩
def F.VLT_SESSION_BASE : Fld := ⟨0xB0A, 28, 24⟩
def F.VLT_SESSION_FAILS : Fld := ⟨0xB0A, 15, 0⟩
def F.VLT_DRBG_HEALTH : Fld := ⟨0xB0B, 23, 16⟩
def F.VLT_DRBG_RESEEDS : Fld := ⟨0xB0B, 15, 0⟩
def F.VLT_REARM_LAST_CODE : Fld := ⟨0xB0C, 31, 24⟩
def F.VLT_REARM_FAILS : Fld := ⟨0xB0C, 23, 16⟩
def F.VLT_CNT_DESTROYED : Fld := ⟨0xB0E, 31, 16⟩
def F.VLT_CNT_EMPTY : Fld := ⟨0xB0E, 15, 0⟩
def F.HOST_STAT_ADDR_END : Fld := ⟨0x80, 31, 31⟩
def F.HOST_STAT_RX_CRC : Fld := ⟨0x80, 30, 30⟩
def F.HOST_STAT_TX_CRC : Fld := ⟨0x80, 29, 29⟩
def F.HOST_STAT_ALIVE : Fld := ⟨0x80, 28, 28⟩
def F.HOST_STAT_MAC_REQ : Fld := ⟨0x80, 27, 24⟩
def F.HOST_STAT_ALIVE_EXP : Fld := ⟨0x80, 23, 16⟩
def F.HOST_STAT_QDEPTH : Fld := ⟨0x80, 12, 8⟩
def F.HOST_STAT_ALIVE_ANY : Fld := ⟨0x80, 7, 7⟩
def F.HOST_LAST_ERR_CODE : Fld := ⟨0x81, 31, 24⟩
def F.HOST_LAST_ERR_OPCODE : Fld := ⟨0x81, 23, 16⟩
def F.HOST_LAST_ERR_ADDR : Fld := ⟨0x81, 15, 0⟩
def F.HOST_IRQ_STAT_ASSERTED : Fld := ⟨0x82, 31, 31⟩
def F.HOST_IRQ_STAT_PENDING : Fld := ⟨0x82, 4, 0⟩
def F.HOST_IRQ_EN_EN : Fld := ⟨0x83, 4, 0⟩
def F.HOST_EVT_IRQ_KINDS : Fld := ⟨0x84, 11, 1⟩
def F.HOST_EVT_STAT_DROPPED : Fld := ⟨0x85, 31, 16⟩
def F.HOST_EVT_STAT_COUNT : Fld := ⟨0x85, 8, 0⟩
def F.HOST_JRN_STAGED_STAGING : Fld := ⟨0x86, 31, 31⟩
def F.HOST_JRN_STAGED_STAGED : Fld := ⟨0x86, 6, 0⟩
def F.HOST_CNT_FRAMES : Fld := ⟨0x87, 31, 16⟩
def F.HOST_CNT_REFUSED : Fld := ⟨0x87, 15, 0⟩
def F.HOST_CHK_CNT_CRC : Fld := ⟨0x88, 31, 24⟩
def F.HOST_CHK_CNT_ALIVE : Fld := ⟨0x88, 23, 16⟩
def F.HOST_CHK_CNT_MAC : Fld := ⟨0x88, 15, 8⟩
def F.HOST_CHK_CNT_ABORTED : Fld := ⟨0x88, 7, 0⟩
def F.HOST_SESSION_CTR_CTR : Fld := ⟨0x89, 31, 0⟩
def F.TIME_LO_VALUE : Fld := ⟨0x100, 31, 0⟩
def F.TIME_HI_VALUE : Fld := ⟨0x101, 31, 0⟩
def F.WALL_LO_VALUE : Fld := ⟨0x102, 31, 0⟩
def F.WALL_HI_VALUE : Fld := ⟨0x103, 31, 0⟩
def F.SNAP_TIME_LO_VALUE : Fld := ⟨0x105, 31, 0⟩
def F.SNAP_TIME_HI_VALUE : Fld := ⟨0x106, 31, 0⟩
def F.SNAP_WALL_LO_VALUE : Fld := ⟨0x107, 31, 0⟩
def F.SNAP_WALL_HI_VALUE : Fld := ⟨0x108, 31, 0⟩
def F.TIME_SNAP_SNAP : Fld := ⟨0x104, 31, 31⟩
def F.TIME_SNAP_COUNT : Fld := ⟨0x104, 7, 0⟩
def F.TIME_STAT_UNSYNC : Fld := ⟨0x109, 31, 31⟩
def F.TIME_STAT_ATTIC_RC : Fld := ⟨0x109, 30, 30⟩
def F.TIME_STAT_LAST_SRC : Fld := ⟨0x109, 29, 28⟩
def F.TIME_STAT_SETS : Fld := ⟨0x109, 15, 0⟩
def F.CVUn_CFG_ENABLE (n : Nat) : Fld := ⟨0xC00 + 0x10 * n, 31, 31⟩
def F.CVUn_CFG_OWNED (n : Nat) : Fld := ⟨0xC00 + 0x10 * n, 30, 30⟩
def F.CVUn_CFG_SRC (n : Nat) : Fld := ⟨0xC00 + 0x10 * n, 29, 26⟩
def F.CVUn_CFG_DIR (n : Nat) : Fld := ⟨0xC00 + 0x10 * n, 25, 25⟩
def F.CVUn_CFG_MODE (n : Nat) : Fld := ⟨0xC00 + 0x10 * n, 24, 24⟩
def F.CVUn_CFG_TRAIL_LE (n : Nat) : Fld := ⟨0xC00 + 0x10 * n, 23, 23⟩
def F.CVUn_CFG_ACT (n : Nat) : Fld := ⟨0xC00 + 0x10 * n, 22, 22⟩
def F.CVUn_CFG_SELMASK (n : Nat) : Fld := ⟨0xC00 + 0x10 * n, 21, 16⟩
def F.CVUn_CFG_SPAN_START (n : Nat) : Fld := ⟨0xC00 + 0x10 * n, 11, 0⟩
def F.CVUn_ALG_POLY (n : Nat) : Fld := ⟨0xC01 + 0x10 * n, 31, 30⟩
def F.CVUn_ALG_PRESET_SEL (n : Nat) : Fld := ⟨0xC01 + 0x10 * n, 29, 29⟩
def F.CVUn_ALG_REFLECT (n : Nat) : Fld := ⟨0xC01 + 0x10 * n, 28, 28⟩
def F.CVUn_ALG_COMPLEMENT (n : Nat) : Fld := ⟨0xC01 + 0x10 * n, 27, 27⟩
def F.CVUn_VALUE_VALUE (n : Nat) : Fld := ⟨0xC03 + 0x10 * n, 31, 0⟩
def F.CVUn_RESULT_VALUE (n : Nat) : Fld := ⟨0xC04 + 0x10 * n, 31, 0⟩
def F.CVUn_ALIVE_CFG_EN (n : Nat) : Fld := ⟨0xC05 + 0x10 * n, 31, 31⟩
def F.CVUn_ALIVE_CFG_RULE (n : Nat) : Fld := ⟨0xC05 + 0x10 * n, 30, 30⟩
def F.CVUn_ALIVE_CFG_WIDTH (n : Nat) : Fld := ⟨0xC05 + 0x10 * n, 29, 28⟩
def F.CVUn_ALIVE_CFG_LE (n : Nat) : Fld := ⟨0xC05 + 0x10 * n, 27, 27⟩
def F.CVUn_ALIVE_CFG_OFFSET (n : Nat) : Fld := ⟨0xC05 + 0x10 * n, 11, 0⟩
def F.CVUn_ALIVE_EXP_EXP (n : Nat) : Fld := ⟨0xC06 + 0x10 * n, 31, 0⟩
def F.CVUn_STAT_BUSY (n : Nat) : Fld := ⟨0xC07 + 0x10 * n, 31, 31⟩
def F.CVUn_STAT_WPEND (n : Nat) : Fld := ⟨0xC07 + 0x10 * n, 30, 30⟩
def F.CVUn_STAT_ANY (n : Nat) : Fld := ⟨0xC07 + 0x10 * n, 29, 29⟩
def F.CVUn_STAT_LAST (n : Nat) : Fld := ⟨0xC07 + 0x10 * n, 12, 8⟩
def F.CVUn_STAT_SHORT (n : Nat) : Fld := ⟨0xC07 + 0x10 * n, 4, 4⟩
def F.CVUn_STAT_BACKWARD (n : Nat) : Fld := ⟨0xC07 + 0x10 * n, 3, 3⟩
def F.CVUn_STAT_SKIP (n : Nat) : Fld := ⟨0xC07 + 0x10 * n, 2, 2⟩
def F.CVUn_STAT_REPEAT (n : Nat) : Fld := ⟨0xC07 + 0x10 * n, 1, 1⟩
def F.CVUn_STAT_CRC_ERR (n : Nat) : Fld := ⟨0xC07 + 0x10 * n, 0, 0⟩
def F.CVUn_CNT0_FRAMES (n : Nat) : Fld := ⟨0xC08 + 0x10 * n, 31, 16⟩
def F.CVUn_CNT0_CRC_ERR (n : Nat) : Fld := ⟨0xC08 + 0x10 * n, 15, 0⟩
def F.CVUn_CNT1_REPEAT (n : Nat) : Fld := ⟨0xC09 + 0x10 * n, 31, 24⟩
def F.CVUn_CNT1_SKIP (n : Nat) : Fld := ⟨0xC09 + 0x10 * n, 23, 16⟩
def F.CVUn_CNT1_BACKWARD (n : Nat) : Fld := ⟨0xC09 + 0x10 * n, 15, 8⟩
def F.CVUn_CNT1_SHORT (n : Nat) : Fld := ⟨0xC09 + 0x10 * n, 7, 0⟩
def F.CVUn_BIND_EN (n : Nat) : Fld := ⟨0xC0A + 0x10 * n, 31, 31⟩
def F.CVUn_BIND_PLAN (n : Nat) : Fld := ⟨0xC0A + 0x10 * n, 24, 16⟩
def F.CVUn_BIND_STEPS (n : Nat) : Fld := ⟨0xC0A + 0x10 * n, 7, 0⟩
def F.TMRn_CTL_ENABLE (n : Nat) : Fld := ⟨0xD00 + 0x20 * n, 31, 31⟩
def F.TMRn_CTL_CLEAR (n : Nat) : Fld := ⟨0xD00 + 0x20 * n, 30, 30⟩
def F.TMRn_CTL_SRC (n : Nat) : Fld := ⟨0xD00 + 0x20 * n, 29, 27⟩
def F.TMRn_CTL_EDGE (n : Nat) : Fld := ⟨0xD00 + 0x20 * n, 26, 25⟩
def F.TMRn_CTL_GPIO (n : Nat) : Fld := ⟨0xD00 + 0x20 * n, 24, 20⟩
def F.TMRn_CTL_DIV (n : Nat) : Fld := ⟨0xD00 + 0x20 * n, 7, 0⟩
def F.TMRn_COUNT_VALUE (n : Nat) : Fld := ⟨0xD01 + 0x20 * n, 31, 0⟩
def F.TMRn_CAP0_VALUE (n : Nat) : Fld := ⟨0xD0B + 0x20 * n, 31, 0⟩
def F.TMRn_CAP1_VALUE (n : Nat) : Fld := ⟨0xD0C + 0x20 * n, 31, 0⟩
def F.TMRn_SNAPCNT_VALUE (n : Nat) : Fld := ⟨0xD0E + 0x20 * n, 31, 0⟩
def F.TMRn_STAT_DIR (n : Nat) : Fld := ⟨0xD02 + 0x20 * n, 31, 31⟩
def F.TMRn_STAT_RUNNING (n : Nat) : Fld := ⟨0xD02 + 0x20 * n, 30, 30⟩
def F.TMRn_STAT_LATE (n : Nat) : Fld := ⟨0xD02 + 0x20 * n, 7, 4⟩
def F.TMRn_STAT_CMP (n : Nat) : Fld := ⟨0xD02 + 0x20 * n, 3, 0⟩
def F.TMRn_RELOAD_VALUE (n : Nat) : Fld := ⟨0xD03 + 0x20 * n, 31, 0⟩
def F.TMRn_CMPk_VALUE (n : Nat) (k : Nat) : Fld := ⟨0xD04 + 0x20 * n + k, 31, 0⟩
def F.TMRn_CMPCFG_DIRS (n : Nat) : Fld := ⟨0xD08 + 0x20 * n, 7, 0⟩
def F.TMRn_CAPCFG_SRC0 (n : Nat) : Fld := ⟨0xD0A + 0x20 * n, 31, 24⟩
def F.TMRn_CAPCFG_EDGE0 (n : Nat) : Fld := ⟨0xD0A + 0x20 * n, 23, 22⟩
def F.TMRn_CAPCFG_SRC1 (n : Nat) : Fld := ⟨0xD0A + 0x20 * n, 15, 8⟩
def F.TMRn_CAPCFG_EDGE1 (n : Nat) : Fld := ⟨0xD0A + 0x20 * n, 7, 6⟩
def F.TMRn_CAPSTAT_NEW0 (n : Nat) : Fld := ⟨0xD0D + 0x20 * n, 31, 31⟩
def F.TMRn_CAPSTAT_PEND0 (n : Nat) : Fld := ⟨0xD0D + 0x20 * n, 30, 30⟩
def F.TMRn_CAPSTAT_DIR0 (n : Nat) : Fld := ⟨0xD0D + 0x20 * n, 29, 29⟩
def F.TMRn_CAPSTAT_NEW1 (n : Nat) : Fld := ⟨0xD0D + 0x20 * n, 27, 27⟩
def F.TMRn_CAPSTAT_PEND1 (n : Nat) : Fld := ⟨0xD0D + 0x20 * n, 26, 26⟩
def F.TMRn_CAPSTAT_DIR1 (n : Nat) : Fld := ⟨0xD0D + 0x20 * n, 25, 25⟩
def F.TMRn_CAPSTAT_OVF0 (n : Nat) : Fld := ⟨0xD0D + 0x20 * n, 15, 8⟩
def F.TMRn_CAPSTAT_OVF1 (n : Nat) : Fld := ⟨0xD0D + 0x20 * n, 7, 0⟩
def F.FLT_STAT_HF_CHAIN : Fld := ⟨0xF80, 31, 28⟩
def F.FLT_STAT_UHF_CHAIN : Fld := ⟨0xF80, 27, 26⟩
def F.FLT_STAT_NO_SPARE : Fld := ⟨0xF80, 25, 25⟩
def F.FLT_STAT_NO_STANDBY : Fld := ⟨0xF80, 24, 24⟩
def F.FLT_STAT_NAND : Fld := ⟨0xF80, 23, 23⟩
def F.FLT_STAT_CLOCK : Fld := ⟨0xF80, 22, 22⟩
def F.FLT_STAT_SEQ : Fld := ⟨0xF80, 21, 21⟩
def F.FLT_STAT_JFULL : Fld := ⟨0xF80, 20, 20⟩
def F.FLT_STAT_OTHER : Fld := ⟨0xF80, 19, 19⟩
def F.FLT_STAT_LAST_CODE : Fld := ⟨0xF80, 15, 8⟩
def F.FLT_STAT_COUNT : Fld := ⟨0xF80, 4, 0⟩
def F.FLT_PORTS_UHF : Fld := ⟨0xF81, 23, 16⟩
def F.FLT_PORTS_HF : Fld := ⟨0xF81, 15, 0⟩
def F.FLT_CLR_BUSY : Fld := ⟨0xF82, 31, 31⟩
def F.FLT_CLR_CODE : Fld := ⟨0xF82, 23, 16⟩
def F.FLT_CLR_UHF : Fld := ⟨0xF82, 5, 4⟩
def F.FLT_CLR_HF : Fld := ⟨0xF82, 3, 0⟩
def F.FLT_CNT_FAULTS : Fld := ⟨0xF83, 31, 16⟩
def F.FLT_CNT_FAILOVERS : Fld := ⟨0xF83, 15, 0⟩
def F.FLT_INT_LAST : Fld := ⟨0xF84, 31, 16⟩
def F.FLT_INT_MAX : Fld := ⟨0xF84, 15, 0⟩
def F.FLT_SEL_ENTRY : Fld := ⟨0xF85, 3, 0⟩
def F.FLT_Ek_DATA (k : Nat) : Fld := ⟨0xF86 + k, 31, 0⟩
def F.FLT_BOOT_VALUE : Fld := ⟨0xF8E, 31, 0⟩
def F.HFCn_GROUP0_COMMIT_PENDING (n : Nat) : Fld := ⟨0x204 + 0x40 * n, 31, 31⟩
def F.HFCn_GROUP0_COMMIT_CHECKING (n : Nat) : Fld := ⟨0x204 + 0x40 * n, 30, 30⟩
def F.HFCn_GROUP0_COMMIT_CODE (n : Nat) : Fld := ⟨0x204 + 0x40 * n, 23, 16⟩
def F.HFCn_GROUP0_COMMIT_COMMIT (n : Nat) : Fld := ⟨0x204 + 0x40 * n, 0, 0⟩
def F.UHFCn_GROUP0_COMMIT_PENDING (n : Nat) : Fld := ⟨0x404 + 0x80 * n, 31, 31⟩
def F.UHFCn_GROUP0_COMMIT_CHECKING (n : Nat) : Fld := ⟨0x404 + 0x80 * n, 30, 30⟩
def F.UHFCn_GROUP0_COMMIT_CODE (n : Nat) : Fld := ⟨0x404 + 0x80 * n, 23, 16⟩
def F.UHFCn_GROUP0_COMMIT_COMMIT (n : Nat) : Fld := ⟨0x404 + 0x80 * n, 0, 0⟩
def F.TMRn_GROUP0_COMMIT_PENDING (n : Nat) : Fld := ⟨0xD09 + 0x20 * n, 31, 31⟩
def F.TMRn_GROUP0_COMMIT_CHECKING (n : Nat) : Fld := ⟨0xD09 + 0x20 * n, 30, 30⟩
def F.TMRn_GROUP0_COMMIT_CODE (n : Nat) : Fld := ⟨0xD09 + 0x20 * n, 23, 16⟩
def F.TMRn_GROUP0_COMMIT_COMMIT (n : Nat) : Fld := ⟨0xD09 + 0x20 * n, 0, 0⟩
def F.CVUn_GROUP0_COMMIT_PENDING (n : Nat) : Fld := ⟨0xC02 + 0x10 * n, 31, 31⟩
def F.CVUn_GROUP0_COMMIT_CHECKING (n : Nat) : Fld := ⟨0xC02 + 0x10 * n, 30, 30⟩
def F.CVUn_GROUP0_COMMIT_CODE (n : Nat) : Fld := ⟨0xC02 + 0x10 * n, 23, 16⟩
def F.CVUn_GROUP0_COMMIT_COMMIT (n : Nat) : Fld := ⟨0xC02 + 0x10 * n, 0, 0⟩

/-! ### Access -/

/-- How the words of one register are accessed: the first address, two instance strides with their counts, and the masks
of the bits that are RW, W1C, W1S, WO and RC (R6), of the RW bits of class L, and of those of class S (R5). -/
structure RegRow where
  base : Nat
  stride1 : Nat
  count1 : Nat
  stride2 : Nat
  count2 : Nat
  rw : Word
  w1c : Word
  w1s : Word
  wo : Word
  rc : Word
  lck : Word
  stg : Word
  deriving DecidableEq, Repr

/-- Registers of the access table, part 0: DEV_ORPHAN, SUP_MODE, SUP_DIRECT_QUOTA, SUP_MISSED, HFCn_CTL, HFCn_TXCTL, HFCn_PROTO, HFCn_BOND, HFCn_WAIT, HFCn_STAG_TIME, HFSET_SEL, HFPn_CFG, HFPn_STAT, HFPn_CNT, HFPn_PROFk, HFCn_RXCFG, HFCn_RXCNT0, HFCn_RXCNT1, HFCn_RXCNT2, UHFCn_CTL. Registers that are not listed are read only. -/
def accessPart0 : List RegRow := [
  ⟨0x5, 0x0, 1, 0x0, 1, 0#32, 0#32, 0#32, 0#32, 0xFFFFFFFF#32, 0#32, 0#32⟩,
  ⟨0x40, 0x0, 1, 0x0, 1, 0xF#32, 0#32, 0#32, 0#32, 0#32, 0#32, 0#32⟩,
  ⟨0x43, 0x0, 1, 0x0, 1, 0xFF#32, 0#32, 0#32, 0#32, 0#32, 0#32, 0#32⟩,
  ⟨0x45, 0x0, 1, 0x0, 1, 0#32, 0#32, 0#32, 0#32, 0xFFFFFFFF#32, 0#32, 0#32⟩,
  ⟨0x200, 0x40, 4, 0x0, 1, 0x1#32, 0#32, 0#32, 0#32, 0#32, 0#32, 0#32⟩,
  ⟨0x202, 0x40, 4, 0x0, 1, 0x3FF01FF#32, 0#32, 0#32, 0#32, 0#32, 0#32, 0#32⟩,
  ⟨0x203, 0x40, 4, 0x0, 1, 0xEFFF#32, 0#32, 0#32, 0#32, 0#32, 0#32, 0xEFFF#32⟩,
  ⟨0x205, 0x40, 4, 0x0, 1, 0xC30003FF#32, 0#32, 0#32, 0#32, 0#32, 0x3000000#32, 0#32⟩,
  ⟨0x20D, 0x40, 4, 0x0, 1, 0#32, 0#32, 0#32, 0#32, 0xFFFFFFFF#32, 0#32, 0#32⟩,
  ⟨0x20E, 0x40, 4, 0x0, 1, 0#32, 0#32, 0#32, 0#32, 0xFFFFFFFF#32, 0#32, 0#32⟩,
  ⟨0x210, 0x0, 1, 0x0, 1, 0xF#32, 0#32, 0#32, 0#32, 0#32, 0#32, 0#32⟩,
  ⟨0x300, 0x10, 16, 0x0, 1, 0x8000001F#32, 0#32, 0#32, 0#32, 0#32, 0x1F#32, 0#32⟩,
  ⟨0x301, 0x10, 16, 0x0, 1, 0#32, 0x80000000#32, 0#32, 0#32, 0#32, 0#32, 0#32⟩,
  ⟨0x303, 0x10, 16, 0x0, 1, 0#32, 0#32, 0#32, 0#32, 0xFFFFFFFF#32, 0#32, 0#32⟩,
  ⟨0x304, 0x10, 16, 0x1, 12, 0xFFFFFFFF#32, 0#32, 0#32, 0#32, 0#32, 0xFFFFFFFF#32, 0#32⟩,
  ⟨0x220, 0x40, 4, 0x0, 1, 0x80770000#32, 0#32, 0#32, 0#32, 0#32, 0#32, 0#32⟩,
  ⟨0x226, 0x40, 4, 0x0, 1, 0#32, 0#32, 0#32, 0#32, 0xFFFFFFFF#32, 0#32, 0#32⟩,
  ⟨0x227, 0x40, 4, 0x0, 1, 0#32, 0#32, 0#32, 0#32, 0xFFFFFFFF#32, 0#32, 0#32⟩,
  ⟨0x228, 0x40, 4, 0x0, 1, 0#32, 0#32, 0#32, 0#32, 0x3FFFFF#32, 0#32, 0#32⟩,
  ⟨0x400, 0x80, 2, 0x0, 1, 0x1#32, 0#32, 0#32, 0#32, 0#32, 0#32, 0#32⟩]

/-- Registers of the access table, part 1: UHFCn_SYN_CFG, UHFCn_CHAN, UHFCn_TXCFG, UHFCn_RXCFG, UHFCn_CNT, UHFCn_QSTAT, UHF_STEER, UHFPROF_SEL, UHFPROFk, UHFPn_CFG, UHFPn_STAT, UHFPn_CNT, UHFCn_AIRCFG, UHFCn_SLOTCNT0, UHFCn_SLOTCNT1, UHFCn_ERRCNT, GOV_UHF, GOV_TIME, GOV_HF, GOV_CHMASK_HI. Registers that are not listed are read only. -/
def accessPart1 : List RegRow := [
  ⟨0x402, 0x80, 2, 0x0, 1, 0x1#32, 0#32, 0#32, 0x2#32, 0#32, 0x1#32, 0#32⟩,
  ⟨0x403, 0x80, 2, 0x0, 1, 0x3F003FFF#32, 0#32, 0#32, 0#32, 0#32, 0#32, 0x3F003FFF#32⟩,
  ⟨0x408, 0x80, 2, 0x0, 1, 0x800001FF#32, 0#32, 0#32, 0#32, 0#32, 0#32, 0#32⟩,
  ⟨0x40D, 0x80, 2, 0x0, 1, 0x801F0000#32, 0#32, 0#32, 0#32, 0#32, 0#32, 0#32⟩,
  ⟨0x40E, 0x80, 2, 0x0, 1, 0#32, 0#32, 0#32, 0#32, 0xFFFFFFFF#32, 0#32, 0#32⟩,
  ⟨0x40F, 0x80, 2, 0x0, 1, 0#32, 0#32, 0#32, 0#32, 0xFFFF#32, 0#32, 0#32⟩,
  ⟨0x410, 0x0, 1, 0x0, 1, 0xC000003F#32, 0x10000000#32, 0#32, 0#32, 0#32, 0x40000000#32, 0#32⟩,
  ⟨0x411, 0x0, 1, 0x0, 1, 0x1F#32, 0#32, 0#32, 0#32, 0#32, 0#32, 0#32⟩,
  ⟨0x412, 0x1, 12, 0x0, 1, 0xFFFFFFFF#32, 0#32, 0#32, 0#32, 0#32, 0xFFFFFFFF#32, 0#32⟩,
  ⟨0x500, 0x8, 8, 0x0, 1, 0x8000001F#32, 0#32, 0#32, 0#32, 0#32, 0x1F#32, 0#32⟩,
  ⟨0x501, 0x8, 8, 0x0, 1, 0#32, 0x80000000#32, 0#32, 0#32, 0#32, 0#32, 0#32⟩,
  ⟨0x502, 0x8, 8, 0x0, 1, 0#32, 0#32, 0#32, 0#32, 0xFFFFFFFF#32, 0#32, 0#32⟩,
  ⟨0x440, 0x80, 2, 0x0, 1, 0xF#32, 0#32, 0#32, 0#32, 0#32, 0#32, 0#32⟩,
  ⟨0x445, 0x80, 2, 0x0, 1, 0#32, 0#32, 0#32, 0#32, 0xFFFFFFFF#32, 0#32, 0#32⟩,
  ⟨0x446, 0x80, 2, 0x0, 1, 0#32, 0#32, 0#32, 0#32, 0xFFFFFFFF#32, 0#32, 0#32⟩,
  ⟨0x447, 0x80, 2, 0x0, 1, 0#32, 0#32, 0#32, 0#32, 0xFFFFFFFF#32, 0#32, 0#32⟩,
  ⟨0x601, 0x0, 1, 0x0, 1, 0xFF80FFFF#32, 0#32, 0#32, 0#32, 0#32, 0#32, 0#32⟩,
  ⟨0x602, 0x0, 1, 0x0, 1, 0xFFFFFFFF#32, 0#32, 0#32, 0#32, 0#32, 0#32, 0#32⟩,
  ⟨0x603, 0x0, 1, 0x0, 1, 0xFFFFFFFF#32, 0#32, 0#32, 0#32, 0#32, 0#32, 0#32⟩,
  ⟨0x604, 0x0, 1, 0x0, 1, 0xFFFFFFFF#32, 0#32, 0#32, 0#32, 0#32, 0#32, 0#32⟩]

/-- Registers of the access table, part 2: GOV_CHMASK_LO, GOV_CTL, GOV_CNT, COEX_CFG, COEX_CNT, COEX_WAIT, COEX_PWk_CFG, COEX_PWk_WIN, WATCH_CTL, WATCH_PULSE, WATCH_THR, WATCH_TIMER, WATCH_PERIODk, WATCH_STAT, WATCH_DET, WATCH_SEL, CHN_SEL, CHN_CNT0, CHN_CNT1, CHN_DUP. Registers that are not listed are read only. -/
def accessPart2 : List RegRow := [
  ⟨0x605, 0x0, 1, 0x0, 1, 0xFFFFFFFF#32, 0#32, 0#32, 0#32, 0#32, 0#32, 0#32⟩,
  ⟨0x606, 0x0, 1, 0x0, 1, 0x3FF#32, 0#32, 0#32, 0x80000000#32, 0#32, 0#32, 0#32⟩,
  ⟨0x609, 0x0, 1, 0x0, 1, 0#32, 0#32, 0#32, 0#32, 0xFFFFFFFF#32, 0#32, 0#32⟩,
  ⟨0x680, 0x0, 1, 0x0, 1, 0xF3FF03FF#32, 0#32, 0#32, 0#32, 0#32, 0x3FF03FF#32, 0#32⟩,
  ⟨0x682, 0x0, 1, 0x0, 1, 0#32, 0#32, 0#32, 0#32, 0xFFFFFFFF#32, 0#32, 0#32⟩,
  ⟨0x683, 0x0, 1, 0x0, 1, 0#32, 0#32, 0#32, 0#32, 0xFFFFFFFF#32, 0#32, 0#32⟩,
  ⟨0x684, 0x2, 4, 0x0, 1, 0xDF00FFFF#32, 0#32, 0#32, 0#32, 0#32, 0x5F00FFFF#32, 0#32⟩,
  ⟨0x685, 0x2, 4, 0x0, 1, 0xFFFFFFFF#32, 0#32, 0#32, 0#32, 0#32, 0xFFFFFFFF#32, 0#32⟩,
  ⟨0x700, 0x0, 1, 0x0, 1, 0xFFFFFFF#32, 0#32, 0#32, 0x80000000#32, 0#32, 0#32, 0#32⟩,
  ⟨0x701, 0x0, 1, 0x0, 1, 0x1FF0000#32, 0#32, 0#32, 0#32, 0#32, 0#32, 0#32⟩,
  ⟨0x702, 0x0, 1, 0x0, 1, 0xFFFFFFFF#32, 0#32, 0#32, 0#32, 0#32, 0#32, 0#32⟩,
  ⟨0x703, 0x0, 1, 0x0, 1, 0xFFFFFFFF#32, 0#32, 0#32, 0#32, 0#32, 0#32, 0#32⟩,
  ⟨0x704, 0x1, 4, 0x0, 1, 0xFFFFFFFF#32, 0#32, 0#32, 0#32, 0#32, 0#32, 0#32⟩,
  ⟨0x709, 0x0, 1, 0x0, 1, 0#32, 0#32, 0#32, 0#32, 0xFF0000#32, 0#32, 0#32⟩,
  ⟨0x70A, 0x0, 1, 0x0, 1, 0#32, 0#32, 0#32, 0#32, 0xFFFFFFFF#32, 0#32, 0#32⟩,
  ⟨0x70B, 0x0, 1, 0x0, 1, 0xF#32, 0#32, 0#32, 0#32, 0#32, 0#32, 0#32⟩,
  ⟨0x800, 0x0, 1, 0x0, 1, 0x800000FF#32, 0#32, 0#32, 0#32, 0#32, 0#32, 0#32⟩,
  ⟨0x808, 0x0, 1, 0x0, 1, 0#32, 0#32, 0#32, 0#32, 0xFFFFFFFF#32, 0#32, 0#32⟩,
  ⟨0x809, 0x0, 1, 0x0, 1, 0#32, 0#32, 0#32, 0#32, 0xFFFFFFFF#32, 0#32, 0#32⟩,
  ⟨0x80A, 0x0, 1, 0x0, 1, 0#32, 0#32, 0#32, 0#32, 0xFFFFFFFF#32, 0#32, 0#32⟩]

/-- Registers of the access table, part 3: CHN_HSEL, GPIO_OUT, GPIO_CNT, OBJ_SEL, OBJ_Wk, OBJ_CTL, SVC_OVERRUN, JRN_LARDER, JRN_CNT, MEM_STAT, MEM_ECC, VLT_SLOT_SEL, VLT_SESSION, VLT_DRBG, VLT_REARM, VLT_CNT, HOST_STAT, HOST_IRQ_EN, HOST_EVT_IRQ, HOST_EVT_STAT. Registers that are not listed are read only. -/
def accessPart3 : List RegRow := [
  ⟨0x80B, 0x0, 1, 0x0, 1, 0xF#32, 0#32, 0#32, 0#32, 0#32, 0#32, 0#32⟩,
  ⟨0xF01, 0x0, 1, 0x0, 1, 0xFFFFFF#32, 0#32, 0#32, 0#32, 0#32, 0#32, 0#32⟩,
  ⟨0xF06, 0x0, 1, 0x0, 1, 0#32, 0#32, 0#32, 0#32, 0xFFFF#32, 0#32, 0#32⟩,
  ⟨0x900, 0x0, 1, 0x0, 1, 0xFFF#32, 0#32, 0#32, 0#32, 0#32, 0#32, 0#32⟩,
  ⟨0x901, 0x1, 8, 0x0, 1, 0xFFFFFFFF#32, 0#32, 0#32, 0#32, 0#32, 0#32, 0#32⟩,
  ⟨0x909, 0x0, 1, 0x0, 1, 0#32, 0#32, 0#32, 0x3#32, 0#32, 0#32, 0#32⟩,
  ⟨0x90E, 0x0, 1, 0x0, 1, 0#32, 0#32, 0#32, 0#32, 0xFFFFFFFF#32, 0#32, 0#32⟩,
  ⟨0xA06, 0x0, 1, 0x0, 1, 0#32, 0#32, 0#32, 0#32, 0xFF00#32, 0#32, 0#32⟩,
  ⟨0xA08, 0x0, 1, 0x0, 1, 0#32, 0#32, 0#32, 0#32, 0xFFFFFFFF#32, 0#32, 0#32⟩,
  ⟨0xE01, 0x0, 1, 0x0, 1, 0#32, 0#32, 0#32, 0#32, 0x3F#32, 0#32, 0#32⟩,
  ⟨0xE04, 0x0, 1, 0x0, 1, 0#32, 0#32, 0#32, 0#32, 0xFFFFFFFF#32, 0#32, 0#32⟩,
  ⟨0xB07, 0x0, 1, 0x0, 1, 0x1F#32, 0#32, 0#32, 0#32, 0#32, 0#32, 0#32⟩,
  ⟨0xB0A, 0x0, 1, 0x0, 1, 0#32, 0#32, 0#32, 0#32, 0xFFFF#32, 0#32, 0#32⟩,
  ⟨0xB0B, 0x0, 1, 0x0, 1, 0#32, 0#32, 0#32, 0#32, 0xFFFFFF#32, 0#32, 0#32⟩,
  ⟨0xB0C, 0x0, 1, 0x0, 1, 0#32, 0#32, 0#32, 0#32, 0xFF0000#32, 0#32, 0#32⟩,
  ⟨0xB0E, 0x0, 1, 0x0, 1, 0#32, 0#32, 0#32, 0#32, 0xFFFFFFFF#32, 0#32, 0#32⟩,
  ⟨0x80, 0x0, 1, 0x0, 1, 0#32, 0x80000000#32, 0#32, 0#32, 0#32, 0#32, 0#32⟩,
  ⟨0x83, 0x0, 1, 0x0, 1, 0x1F#32, 0#32, 0#32, 0#32, 0#32, 0#32, 0#32⟩,
  ⟨0x84, 0x0, 1, 0x0, 1, 0xFFE#32, 0#32, 0#32, 0#32, 0#32, 0#32, 0#32⟩,
  ⟨0x85, 0x0, 1, 0x0, 1, 0#32, 0#32, 0#32, 0#32, 0xFFFF0000#32, 0#32, 0#32⟩]

/-- Registers of the access table, part 4: HOST_CNT, HOST_CHK_CNT, TIME_SNAP, TIME_STAT, CVUn_CFG, CVUn_ALG, CVUn_VALUE, CVUn_ALIVE_CFG, CVUn_ALIVE_EXP, CVUn_STAT, CVUn_CNT0, CVUn_CNT1, CVUn_BIND, TMRn_CTL, TMRn_STAT, TMRn_RELOAD, TMRn_CMPk, TMRn_CMPCFG, TMRn_CAPCFG, TMRn_CAPSTAT. Registers that are not listed are read only. -/
def accessPart4 : List RegRow := [
  ⟨0x87, 0x0, 1, 0x0, 1, 0#32, 0#32, 0#32, 0#32, 0xFFFFFFFF#32, 0#32, 0#32⟩,
  ⟨0x88, 0x0, 1, 0x0, 1, 0#32, 0#32, 0#32, 0#32, 0xFFFFFFFF#32, 0#32, 0#32⟩,
  ⟨0x104, 0x0, 1, 0x0, 1, 0#32, 0#32, 0#32, 0x80000000#32, 0#32, 0#32, 0#32⟩,
  ⟨0x109, 0x0, 1, 0x0, 1, 0#32, 0#32, 0#32, 0#32, 0xFFFF#32, 0#32, 0#32⟩,
  ⟨0xC00, 0x10, 6, 0x0, 1, 0xBFFF0FFF#32, 0#32, 0#32, 0#32, 0#32, 0x3FFF0FFF#32, 0#32⟩,
  ⟨0xC01, 0x10, 6, 0x0, 1, 0xF8000000#32, 0#32, 0#32, 0#32, 0#32, 0#32, 0xF8000000#32⟩,
  ⟨0xC03, 0x10, 6, 0x0, 1, 0xFFFFFFFF#32, 0#32, 0#32, 0#32, 0#32, 0#32, 0#32⟩,
  ⟨0xC05, 0x10, 6, 0x0, 1, 0xF8000FFF#32, 0#32, 0#32, 0#32, 0#32, 0xF8000FFF#32, 0#32⟩,
  ⟨0xC06, 0x10, 6, 0x0, 1, 0xFFFFFFFF#32, 0#32, 0#32, 0#32, 0#32, 0#32, 0#32⟩,
  ⟨0xC07, 0x10, 6, 0x0, 1, 0#32, 0x1F#32, 0x20000000#32, 0#32, 0#32, 0#32, 0#32⟩,
  ⟨0xC08, 0x10, 6, 0x0, 1, 0#32, 0#32, 0#32, 0#32, 0xFFFFFFFF#32, 0#32, 0#32⟩,
  ⟨0xC09, 0x10, 6, 0x0, 1, 0#32, 0#32, 0#32, 0#32, 0xFFFFFFFF#32, 0#32, 0#32⟩,
  ⟨0xC0A, 0x10, 6, 0x0, 1, 0x81FF00FF#32, 0#32, 0#32, 0#32, 0#32, 0x81FF00FF#32, 0#32⟩,
  ⟨0xD00, 0x20, 8, 0x0, 1, 0xBFF000FF#32, 0#32, 0#32, 0x40000000#32, 0#32, 0x3FF000FF#32, 0#32⟩,
  ⟨0xD02, 0x20, 8, 0x0, 1, 0#32, 0xFF#32, 0#32, 0#32, 0#32, 0#32, 0#32⟩,
  ⟨0xD03, 0x20, 8, 0x0, 1, 0xFFFFFFFF#32, 0#32, 0#32, 0#32, 0#32, 0#32, 0xFFFFFFFF#32⟩,
  ⟨0xD04, 0x20, 8, 0x1, 4, 0xFFFFFFFF#32, 0#32, 0#32, 0#32, 0#32, 0#32, 0xFFFFFFFF#32⟩,
  ⟨0xD08, 0x20, 8, 0x0, 1, 0xFF#32, 0#32, 0#32, 0#32, 0#32, 0xFF#32, 0#32⟩,
  ⟨0xD0A, 0x20, 8, 0x0, 1, 0xFFC0FFC0#32, 0#32, 0#32, 0#32, 0#32, 0xFFC0FFC0#32, 0#32⟩,
  ⟨0xD0D, 0x20, 8, 0x0, 1, 0#32, 0#32, 0#32, 0#32, 0xFFFF#32, 0#32, 0#32⟩]

/-- Registers of the access table, part 5: FLT_STAT, FLT_CLR, FLT_CNT, FLT_INT, FLT_SEL, HFCn_GROUP0_COMMIT, UHFCn_GROUP0_COMMIT, TMRn_GROUP0_COMMIT, CVUn_GROUP0_COMMIT. Registers that are not listed are read only. -/
def accessPart5 : List RegRow := [
  ⟨0xF80, 0x0, 1, 0x0, 1, 0#32, 0xE80000#32, 0#32, 0#32, 0#32, 0#32, 0#32⟩,
  ⟨0xF82, 0x0, 1, 0x0, 1, 0#32, 0#32, 0#32, 0x3F#32, 0#32, 0#32, 0#32⟩,
  ⟨0xF83, 0x0, 1, 0x0, 1, 0#32, 0#32, 0#32, 0#32, 0xFFFFFFFF#32, 0#32, 0#32⟩,
  ⟨0xF84, 0x0, 1, 0x0, 1, 0#32, 0#32, 0#32, 0#32, 0xFFFF#32, 0#32, 0#32⟩,
  ⟨0xF85, 0x0, 1, 0x0, 1, 0xF#32, 0#32, 0#32, 0#32, 0#32, 0#32, 0#32⟩,
  ⟨0x204, 0x40, 4, 0x0, 1, 0#32, 0#32, 0#32, 0x1#32, 0#32, 0#32, 0#32⟩,
  ⟨0x404, 0x80, 2, 0x0, 1, 0#32, 0#32, 0#32, 0x1#32, 0#32, 0#32, 0#32⟩,
  ⟨0xD09, 0x20, 8, 0x0, 1, 0#32, 0#32, 0#32, 0x1#32, 0#32, 0#32, 0#32⟩,
  ⟨0xC02, 0x10, 6, 0x0, 1, 0#32, 0#32, 0#32, 0x1#32, 0#32, 0#32, 0#32⟩]

/-- Every register that has a field a host access changes. -/
def accessTable : List RegRow :=
  accessPart0 ++ accessPart1 ++ accessPart2 ++ accessPart3 ++ accessPart4 ++ accessPart5

/-- Whether the row covers word address `a`. -/
def RegRow.covers (r : RegRow) (a : Nat) : Bool :=
  (List.range r.count1).any fun i => (List.range r.count2).any fun j =>
    decide (r.base + r.stride1 * i + r.stride2 * j = a)

/-- A register with no field that a host access changes. -/
def RegRow.readOnly (a : Nat) : RegRow := ⟨a, 0, 1, 0, 1, 0#32, 0#32, 0#32, 0#32, 0#32, 0#32, 0#32⟩

/-- The access of the word at address `a`; an address that carries no register reads 0 and ignores writes (R34). -/
def accessOf (a : Nat) : RegRow := (accessTable.find? (·.covers a)).getD (RegRow.readOnly a)

/-- Reset values, part 0 (R5): word addresses 0x000–0x391. -/
def resetPart0 : RegMap := [
  (0x000, 0x481600A1#32),
  (0x040, 0x0000FF0F#32),
  (0x044, 0x0000003F#32),
  (0x050, 0x00000001#32),
  (0x080, 0x00000080#32),
  (0x083, 0x00000019#32),
  (0x084, 0x00000FFE#32),
  (0x203, 0x00000240#32),
  (0x221, 0x000F0000#32),
  (0x243, 0x00000240#32),
  (0x261, 0x000F0000#32),
  (0x283, 0x00000240#32),
  (0x2A1, 0x000F0000#32),
  (0x2C3, 0x00000240#32),
  (0x2E1, 0x000F0000#32),
  (0x301, 0x00FF0000#32),
  (0x311, 0x00FF0000#32),
  (0x321, 0x00FF0000#32),
  (0x331, 0x00FF0000#32),
  (0x341, 0x00FF0000#32),
  (0x351, 0x00FF0000#32),
  (0x361, 0x00FF0000#32),
  (0x371, 0x00FF0000#32),
  (0x381, 0x00FF0000#32),
  (0x391, 0x00FF0000#32)]

/-- Reset values, part 1 (R5): word addresses 0x3A1–0xC31. -/
def resetPart1 : RegMap := [
  (0x3A1, 0x00FF0000#32),
  (0x3B1, 0x00FF0000#32),
  (0x3C1, 0x00FF0000#32),
  (0x3D1, 0x00FF0000#32),
  (0x3E1, 0x00FF0000#32),
  (0x3F1, 0x00FF0000#32),
  (0x440, 0x00000006#32),
  (0x4C0, 0x00000006#32),
  (0x700, 0x02600000#32),
  (0x701, 0x00C80000#32),
  (0x702, 0x00320032#32),
  (0x704, 0x05050505#32),
  (0x705, 0x05050505#32),
  (0x706, 0x05050505#32),
  (0x707, 0x05050505#32),
  (0xC01, 0x40000000#32),
  (0xC03, 0x0000FFFF#32),
  (0xC07, 0x20000000#32),
  (0xC11, 0x40000000#32),
  (0xC13, 0x0000FFFF#32),
  (0xC17, 0x20000000#32),
  (0xC21, 0x40000000#32),
  (0xC23, 0x0000FFFF#32),
  (0xC27, 0x20000000#32),
  (0xC31, 0x40000000#32)]

/-- Reset values, part 2 (R5): word addresses 0xC33–0xE00. -/
def resetPart2 : RegMap := [
  (0xC33, 0x0000FFFF#32),
  (0xC37, 0x20000000#32),
  (0xC41, 0x40000000#32),
  (0xC43, 0x0000FFFF#32),
  (0xC47, 0x20000000#32),
  (0xC51, 0x40000000#32),
  (0xC53, 0x0000FFFF#32),
  (0xC57, 0x20000000#32),
  (0xD03, 0xFFFFFFFF#32),
  (0xD23, 0xFFFFFFFF#32),
  (0xD43, 0xFFFFFFFF#32),
  (0xD63, 0xFFFFFFFF#32),
  (0xD83, 0xFFFFFFFF#32),
  (0xDA3, 0xFFFFFFFF#32),
  (0xDC3, 0xFFFFFFFF#32),
  (0xDE3, 0xFFFFFFFF#32),
  (0xE00, 0x00000001#32)]

/-- The nonzero reset values of the register tables, by word address. Log 12 DESIGN CHOICE. -/
def regReset : RegMap :=
  resetPart0 ++ resetPart1 ++ resetPart2

end Sys2Proof.Machine
end

