-- ==== Sys2Proof/Machine/State.lean ====
section
/-!
DEFINITION. The state of the block: every register, buffer, table, queue, counter, fuse and pin the spec names, as plain
data, the queue of waiting commands, the reasons a step can stop, and the state after reset.
-/

namespace Sys2Proof.Machine

open Sys2Proof

/-- The reasons a step stops with a fault. No command of the table stops: a command whose precondition the state does not
meet has no effect. Safe: the type has one constructor, which no meaning raises. -/
inductive Fault where
  /-- Raised by no meaning; kept so that the type is inhabited. Safe. -/
  | none
  deriving DecidableEq, Repr

/-- The reasons a step is refused. -/
inductive Refusal where
  /-- Raised by the dispatcher for a command without a meaning yet. Safe: nothing is said about the next state. -/
  | notModelled (mnemonic : String)
  deriving DecidableEq, Repr

/-! ### Frames, tags and results -/

/-- The frame tag of R13, field by field; `portch`, `keyslot`, `jpol` and `cvctx` are bytes 11, 12, 13 and 14–15. -/
structure FrameTag where
  handle : Nat := 0
  reqId : Nat := 0
  step : Nat := 0
  attempt : Nat := 0
  lclass : Bool := false
  level : Nat := 0
  deadline : Nat := 0
  portch : Nat := 0
  keyslot : Nat := 0
  jpol : Nat := 0
  cvctx : Nat := 0
  deriving DecidableEq, Repr

/-- One frame on its way from a chain to its channel (R22): tag, 20-byte status (R171, R237) and payload. `last` marks the
frame that ends the attempt, whose outcome is `code`; `ident` is the identifier of the tag that sent it, where the exchange
shows one (R336, R231); `wall` the wall time at which it reached the transaction engine; `part` marks a piece of an ISO/IEC 14443-4
chain over 1 KiB, which the step's result buffer assembles (R23). -/
structure ResFrame where
  tag : FrameTag
  status : Bytes
  payload : Bytes
  code : Nat
  last : Bool
  ident : Bytes := []
  wall : Nat := 0
  part : Bool := false
  deriving DecidableEq, Repr

/-! ### Host port -/

/-- One entry of the event ring (R445). -/
structure Event where
  kind : Nat
  arg : Nat
  handle : Nat
  time : Nat
  data : Bytes
  deriving DecidableEq, Repr

/-- The state of a history entry (R299). -/
inductive HistState where
  | queued
  | pending
  | done
  deriving DecidableEq, Repr

/-- One history entry (R299, R426). -/
structure HistEntry where
  id : Nat
  cmd : Nat
  st : HistState
  outcome : Nat := 0
  retries : Nat := 0
  result : Bytes := []
  deriving DecidableEq, Repr

/-- A request-ID space (R299, R300): the entries, most recent first, NEWEST, LAST_ID (R426) and the counts of CHN_DUP. -/
structure History where
  entries : List HistEntry := []
  newest : Nat := 0
  lastId : Nat := 0
  dup : Nat := 0
  stale : Nat := 0
  deriving DecidableEq, Repr

/-- One entry of the command queue (R424): its space, code (0xFF for a direct message), request ID and payload, TIME at its
select release (R468), and whether its frame carried a verified CMAC. -/
structure Cmd where
  handle : Nat
  code : Nat
  reqId : Nat
  payload : Bytes
  tr : Nat
  mac : Bool
  deriving DecidableEq, Repr

/-- The host port (Chapter 14): command queue, device history, event ring and drops since the last EVT_RD, the bytes 32–63
of the DEVICE section in force, the expected alive byte (none: any), the status bits RDY, ERR and DUP, the MISO bytes of the
last frame from byte 0, and the holding copies of the register pairs (R465): the member held and its value. -/
structure HostPort where
  cmdq : List Cmd := []
  hist : History := {}
  ring : List Event := []
  dropped : Nat := 0
  opts : Bytes := []
  alive : Option Nat := none
  rdy : Bool := false
  err : Bool := false
  dup : Bool := false
  miso : Bytes := []
  pairs : List (Nat × Word) := []
  deriving DecidableEq, Repr

/-! ### The consistency check -/

/-- An enable that the source 0x1 check judges. -/
inductive Enable where
  | hfc (n : Nat)
  | hfp (n : Nat)
  | hfBond (n : Nat)
  | uhfc (n : Nat)
  | uhfp (n : Nat)
  | steer
  | coexPw (k : Nat)
  | tmr (n : Nat)
  | cvu (n : Nat)
  deriving DecidableEq, Repr

/-- A check that waits for its turn (R86). -/
inductive PendingCheck where
  | enable (e : Enable)
  | commit (g : Group) (copy : List (Nat × Word))
  | value (addr : Nat) (data : Word)
  | object (index : Nat) (entry : Bytes)
  deriving DecidableEq, Repr

/-- A mode transition in progress (R70): target, source (0 host, 1 boot, 2 wake, 3 device) and the instant it began. -/
structure Trans where
  target : Nat
  source : Nat
  start : Nat
  deriving DecidableEq, Repr

/-! ### The Cellar -/

/-- What waits for a record (R360, R402, R405, R468): nothing; a step's outcome; the log entry of a fault; the counts of a
TAMPER record; the TIME_SET that wrote a TIMESYNC record; a relocation pass; the CS_FLT_BOOT record. -/
inductive Ticket where
  | none
  | step (handle : Nat)
  | fault (no : Nat)
  | tamper (countLast : Nat)
  | timeSet (reqId : Nat)
  | reloc
  | fltBoot
  deriving DecidableEq, Repr

/-- What the builder fills in when it takes a record. -/
inductive RecFill where
  | plain
  | checkpoint
  | tamper
  deriving DecidableEq, Repr

/-- A record asked of the builder (R346): everything but sequence, time, MAC and CRC. `jpol` is COMMIT; `lclass`, `level`,
`deadline` and `slot` give its place in the order of R21; `device` marks a record of the device's own. -/
structure RecReq where
  ty : Nat
  flags : Nat := 0
  handle : Nat := 0
  signal : Nat := 0
  portch : Nat := 0
  object : Bytes := []
  payload : Bytes := []
  commit : Nat := 2
  fill : RecFill := .plain
  ticket : Ticket := .none
  device : Bool := true
  lclass : Bool := false
  level : Nat := 0
  deadline : Nat := 0
  slot : Nat := 0
  deriving DecidableEq, Repr

/-- A record in the Larder (R361) or in the builder (R24): sequence, 64 bytes, COMMIT, durability, the device and page
sequence it is assigned to, the instant it entered, and what waits for it. -/
structure LarderRec where
  seq : Nat
  bytes : Bytes
  commit : Nat
  durable : Bool := false
  dev : Option Nat := none
  pseq : Nat := 0
  entered : Nat := 0
  ticket : Ticket := .none
  deriving DecidableEq, Repr

/-- A programmed page (R355): its address (block × 128 + page), PTYPE 1–3, PSEQ, TARGET, and its records, first sequence
`firstSeq`, the others following; a torn page holds nothing readable. -/
structure NandPage where
  addr : Nat
  ptype : Nat
  pseq : Nat
  firstSeq : Nat
  target : Nat
  recs : List Bytes
  torn : Bool := false
  deriving DecidableEq, Repr

/-- A MAIN page that is open, or closed and awaiting its program (R362): PSEQ, page address and the sequences assigned. -/
structure OpenPage where
  pseq : Nat
  addr : Nat
  seqs : List Nat := []
  closed : Bool := false
  deriving DecidableEq, Repr

/-- A program in flight (R359): the page it writes and the PSEQ of the open page it makes durable. -/
structure Prog where
  page : NandPage
  seqs : List Nat
  deriving DecidableEq, Repr

/-- A NAND device (R354): its programmed pages in rising address order, the bad blocks that the manager has met, the blocks whose bad-block
marker is set (R374), its open pages oldest first,
the program in flight, the block being erased, and whether it has failed (R374). Log 16 DESIGN CHOICE. -/
structure NandDev where
  pages : List NandPage := []
  bad : List Nat := []
  marked : List Nat := []
  opens : List OpenPage := []
  prog : Option Prog := none
  erasing : Option Nat := none
  failed : Bool := false
  deriving DecidableEq, Repr

/-- A relocation pass (R372): cause (1 REFRESH, 2 RETIRE), source device and block, the source page to copy next, the page
sequences and record sequences moved, their count, and whether the RELOCATED record has been built. -/
structure Pass where
  cause : Nat
  dev : Nat
  block : Nat
  next : Nat := 0
  pseqFirst : Nat := 0
  pseqLast : Nat := 0
  firstSeq : Nat := 0
  lastSeq : Nat := 0
  count : Nat := 0
  built : Bool := false
  deriving DecidableEq, Repr

/-- The journal manager and the record builder (Chapter 12): the JOURNAL section body in force, the Larder, the record held
in the builder (R24), the records asked for and not yet built, the NAND devices, the chain input of R349, the sequence it
belongs to, the batch (R369) as record positions and sequences, the staged records (R428), the device next in rotation, the
blocks queued for relocation (cause, device, block), the pass in progress, whether the full state is in force (R375), and
the NAND faults whose interruption is not yet known (R480): entry number, instant of detection, sequences to be durable. -/
structure Journal where
  cfg : Bytes := []
  larder : List LarderRec := []
  held : Option LarderRec := none
  reqs : List RecReq := []
  devs : List NandDev := []
  chain : Bytes := []
  chainSeq : Nat := 0
  batch : List (Nat × Nat) := []
  staged : List (Nat × Bytes) := []
  rotation : Nat := 0
  relocs : List (Nat × Nat × Nat) := []
  pass : Option Pass := none
  full : Bool := false
  lost : List (Nat × Nat × List Nat) := []
  deriving DecidableEq, Repr

/-! ### Vault, fuses and Attic -/

/-- A key slot (R388): 16 key bytes, PURPOSE, KEY_ID and SOURCE (1 derived, 2 KEYS section, 3 KEY_IMPORT). -/
structure KeySlot where
  key : Bytes
  purpose : Nat
  keyId : Nat
  source : Nat
  deriving DecidableEq, Repr

/-- The Vault (Chapter 13): its 32 slots, whether the DRBG serves (R399), whether ROOT passed its parity check, and the
instant the re-arm checker last ran (R408). -/
structure Vault where
  slots : List (Option KeySlot) := List.replicate 32 none
  drbgOk : Bool := false
  rearmAt : Option Nat := none
  deriving DecidableEq, Repr

/-- The fuses (R384, R246): ROOT and its parity verdict, the 192-byte region record, whether a REGION_BLOW has been tried,
SERIAL, DEBUG_OFF, POLICY (HARD) and HARD_BLOWN. Log 13 DESIGN CHOICE. -/
structure Fuses where
  root : Bytes := zeros 32
  rootOk : Bool := true
  region : Bytes := zeros 192
  blowTried : Bool := false
  serial : Nat := 0
  debugOff : Bool := true
  hard : Bool := false
  hardBlown : Bool := false
  deriving DecidableEq, Repr

/-- A held presence baseline (R273): the complex value and the profile, TUNE, PULSE_ATT and pulser it was learned under. -/
structure Baseline where
  value : Cplx
  profile : Nat
  tune : Nat
  att : Nat
  pulser : Nat
  deriving DecidableEq, Repr

/-- An open presence candidate (R275): direction (1 APPROACH, 2 REMOVAL), pulses taken, and the deviating measurements. -/
structure Cand where
  dir : Nat
  pulses : Nat
  seen : List Cplx
  deriving DecidableEq, Repr

/-- The presence state of one HF port (R273–R275): baseline, the pulses of a learning in progress, candidate. -/
structure SensePort where
  base : Option Baseline := none
  learn : List Cplx := []
  cand : Option Cand := none
  deriving DecidableEq, Repr

/-- A presence-log entry (R276): port, pulser chain, direction, Δ in 0.1 %, measured and baseline values, pulses, coarse
time, and whether it registered the wake. -/
structure LogEntry where
  port : Nat
  pulser : Nat
  dir : Nat
  delta : Nat
  meas : Cplx
  base : Cplx
  pulses : Nat
  wall : Nat
  woke : Bool
  deriving DecidableEq, Repr

/-- The Attic (R29–R31, R270, R400, R410): whether VATTIC holds; the coarse count in µs of device time; OFFSET in µs and
whether wall time has ever been set; whether the crystal runs; whether the Attic ran on its RC since the last setting;
TAMPER_CONFIG kept, with whether one has been applied since POR; the tamper sources asserting now; the seed that the 31-bit generator of
the mesh pattern took last; the WATCH sequencer's
tick counter, the pulser, the ports' presence state and the presence log; the causes of a registered wake, its target and
the wall time of its registration. Log 18 DESIGN CHOICE, 19 DESIGN CHOICE. -/
structure Attic where
  up : Bool := true
  count : Nat := 0
  offset : Int := 0
  wallSet : Bool := false
  crystal : Bool := true
  rcSpan : Bool := false
  tamperCfg : Bytes := zeros 64
  tamperSet : Bool := false
  sources : Nat := 0
  mesh : Nat := 0
  tick : Nat := 0
  entry : Nat := 0
  pulser : Nat := 0
  ports : List SensePort := List.replicate 16 {}
  log : List LogEntry := []
  wakeCause : Nat := 0
  wakeTarget : Nat := 0
  wakeWall : Nat := 0
  wakeFrom : Nat := 0
  wakeHost : Bool := false
  deriving DecidableEq, Repr

/-! ### Faults -/

/-- One fault-log entry (R493): a number that names it to its FAULT record, its 32 bytes, and the object ID and handle that
the record and the event carry. -/
structure FltEntry where
  no : Nat
  bytes : Bytes
  handle : Nat := 0
  object : Bytes := []
  deriving DecidableEq, Repr

/-! ### Channels -/

/-- The states of a live channel (R294); FREE is the absence of a channel. -/
inductive ChanState where
  | stopped
  | active
  | running
  | stopping
  deriving DecidableEq, Repr

/-- What made a run fall due: its place in the cycle, CHN_RUN with its request ID, or an extra run (R331, R338). -/
inductive Cause where
  | cycle
  | chnRun (reqId : Nat)
  | extra
  deriving DecidableEq, Repr

/-- A run that has fallen due (R328, R329): target (an object index or a port), the entry copied when it fell due, its
device time and wall time, its cause, and the mode in which it fell due. -/
structure Due where
  target : Nat
  entry : Bytes
  at_ : Nat
  wall : Nat
  cause : Cause
  mode : Nat
  deriving DecidableEq, Repr

/-- A run the host or a confirmation has asked for (R331, R338): target, wall-clock due time, cause. -/
structure Extra where
  target : Nat
  slot : Nat
  cause : Cause
  deriving DecidableEq, Repr

/-- The phase of a step in progress. `held` waits for the end of a transition (R71); `ended` waits for ATTEMPT_END;
`reporting` waits for its records (R360). -/
inductive StepPhase where
  | waiting
  | held
  | running
  | ended (code : Nat)
  | reporting (code : Nat)
  deriving DecidableEq, Repr

/-- A saved check-value context (R453): VALUE, expected alive value, ANY. -/
structure CvCtx where
  value : Nat := 0
  exp : Nat := 0
  any : Bool := true
  deriving DecidableEq, Repr

/-- A step in progress (R308): its tag and full deadline, parameter block, template, retries, worst-case attempt time in µs,
reply length, flags RECORD, FILL and CHAL with their offsets, phase, the chain it holds (UHF chains count from 4), whether
its wait for a field has been counted, the instant it began to wait, the attempt's Vault context, its challenge, the frames
handed over, the pieces of a chain assembled so far (R23), whether it has started (R24, R80), the working check-value context, whether the
next attempt re-selects and re-activates the card (R170, R483), whether any chain may serve it (R313), and the phase state that it keeps
once its tag is singulated (R230). -/
structure Step where
  tag : FrameTag
  deadline : Nat
  params : Bytes
  tmpl : Bytes
  tbits : Nat
  retries : Nat
  worst : Nat
  expLen : Nat := 0
  record : Bool := false
  fill : Bool := false
  chal : Bool := false
  fillOff : Nat := 0
  chalOff : Nat := 0
  phase : StepPhase := .waiting
  chain : Option Nat := none
  fieldWait : Bool := false
  waitFrom : Nat := 0
  ctx : Option Bytes := none
  challenge : Bytes := []
  frames : List ResFrame := []
  asm : Bytes := []
  started : Bool := false
  cv : Option CvCtx := none
  react : Bool := false
  recover : Bool := false
  any : Bool := true
  phaseKeep : Option Nat := none
  object : Bytes := []
  deriving DecidableEq, Repr

/-- A run in progress (R308, R336): the due run, its number, run deadline, step index, the bound object's index and
identifier, the port of step 0, and the sequence of its last READING or other record. -/
structure Run where
  due : Due
  reqId : Nat
  deadline : Nat
  step : Nat := 0
  object : Option Nat := none
  ident : Bytes := []
  port : Option Nat := none
  lastSeq : Nat := 0
  readSeq : Nat := 0
  last : Option ResFrame := none
  sightings : List ResFrame := []
  counted : Bool := true
  deriving DecidableEq, Repr

/-- The cycle a channel is in (R329): its index and the targets not yet fallen due, with their slot times. -/
structure CycleSt where
  index : Int := -1
  todo : List (Nat × Bytes × Nat) := []
  first : Option Nat := none
  deriving DecidableEq, Repr

/-- The ISO/IEC 14443-4 session of a channel (R155): the port, block number, FSC, FWI, SFGI and rate codes. -/
structure Session where
  port : Nat
  block : Nat := 0
  fsc : Nat := 32
  fwi : Nat := 4
  sfgi : Nat := 0
  rates : Nat := 0
  deriving DecidableEq, Repr

/-- A live channel (Chapter 10): kind, priority level, plan (0xFFFF for DIRECT), state, DRAIN, whether a DESTROY ends the
STOPPING, the IDs of requests that wait for STOPPED, history, run counter, the run and step in progress, the pending run
(R77), the runs missed (count, first and last wall time, mode code), the cycle, the extra runs asked for, CHN_LAST,
counters, wait of the last run, 14443-4 session, mailbox, whether a message waits, its fragments' CMAC, unread results, the
object a grant was last given to per port (R337), and its check-value context (none: the
unit's preset). -/
structure Chan where
  kind : Nat
  prio : Nat
  plan : Nat
  state : ChanState
  drain : Bool := false
  destroy : Bool := false
  stopIds : List Nat := []
  hist : History := {}
  runs : Nat := 0
  run : Option Run := none
  step : Option Step := none
  pending : Option Due := none
  missed : Nat := 0
  missFirst : Nat := 0
  missLast : Nat := 0
  missMode : Nat := 0
  cycle : CycleSt := {}
  extras : List Extra := []
  last : Word := 0#32
  ok : Nat := 0
  failed : Nat := 0
  retries : Nat := 0
  deadlines : Nat := 0
  waitUs : Nat := 0
  session : Option Session := none
  mailbox : Bytes := []
  msgWait : Bool := false
  msgMac : Bool := true
  accepted : Nat := 0
  results : List Bytes := []
  cv : Option CvCtx := none
  deriving DecidableEq, Repr

/-- Census state of an object (R239): STATE 0–2, MISS, LAST_RSSI, LAST_PORT, LAST_SEEN. -/
structure Census where
  st : Nat := 0
  miss : Nat := 0
  rssi : Nat := 0
  port : Nat := 0
  seen : Nat := 0
  deriving DecidableEq, Repr

/-- An object-table entry (R332) with its census state. -/
structure Obj where
  bytes : Bytes
  census : Census := {}
  deriving DecidableEq, Repr

/-! ### HF chains -/

/-- Where an HF chain's automatic sequence stands (R150, R162–R165, R153): the exchange it is in. -/
inductive HfSeq where
  | plain
  | aReq
  | aAnti
  | aSel
  | bSlot
  | vInv
  | rats
  | pps
  | attrib
  | block
  | deselect
  | recover
  | hlta
  deriving DecidableEq, Repr

/-- Where an HF chain's exchange stands (R123): no attempt; field-on guard; ready, waiting for its stagger partner; command
sent, window not yet open; window open; reply being received. -/
inductive HfPhase where
  | idle
  | guard
  | ready
  | sent
  | window
  | receiving
  deriving DecidableEq, Repr

/-- An attempt on an HF chain: its tag, the parameter block with protocol and modulation as used, the template with fills
and challenge, whether it belongs to a scheduled step, what its automatic sequence is for, and the progress of that
sequence: cascade level, known bits of the level, identifier so far, ATQA or ATQB, collision byte, tags found, slots and
masks left, the reply being assembled with its length and whether pieces of it have been handed over (R23), the slots that held a collision and
were left (R164, R165; log 127), blocks left to send, retransmissions and S(WTX) of the block, whether a card is
selected first (R336), the block of the ACTIVATE that is re-run first (R170, R483), the start of frame acquired, the answer
to activation kept while PPS runs, whether the attempt has waited under R123, and the result frame held until it is known whether another follows. -/
structure HfAttempt where
  tag : FrameTag
  params : Bytes
  tmpl : Bytes
  tbits : Nat
  sched : Bool
  kind : Nat
  proto : Nat
  seq : HfSeq := .plain
  level : Nat := 1
  known : List Bool := []
  uid : Bytes := []
  atq : Bytes := []
  coll : Nat := 0
  found : List Bytes := []
  slot : Nat := 0
  newInRound : Bool := false
  masks : List (List Bool) := []
  mask : List Bool := []
  rx : Bytes := []
  rxLen : Nat := 0
  parted : Bool := false
  collSlots : Nat := 0
  tx : List Bytes := []
  resend : Nat := 0
  wtx : Nat := 0
  select : Bool := false
  react : Option Bytes := none
  sof : Option Sof := none
  chained : Bool := false
  staggered : Bool := false
  ats : Bytes := []
  held : Option ResFrame := none
  deriving DecidableEq, Repr

/-- An HF chain at run time (R98–R130): the slot of the channel whose run holds its field, the port held, bond partner, whether it
is the master, and the PHASE of its bond (R129), the carrier phase in force (R104), phase of the exchange, attempt, the last command
frame (bytes, bits, whether a CRC is appended as it is sent) and when it was sent, the card selected on
the port (identifier), the frame buffers (R23), instants at which the field
came on and at which a stagger wait began (none: no wait), whether that wait lets its STAGGER partner go first (R123), the attempt's
stagger wait, whether R126 forces STAGGER, whether a change of drive waits for the end of the exchange (R105), the tracked couplings
(R125), the gain set at field-on, whether the chain or its port has been withdrawn while it holds a field (R131, R133), and whether the
field of an ended run waits for a STAGGER partner's window (R123). -/
structure HfChain where
  owner : Option Nat := none
  port : Option Nat := none
  partner : Option Nat := none
  master : Bool := true
  bondPhase : Nat := 0
  carrier : Nat := 0
  phase : HfPhase := .idle
  att : Option HfAttempt := none
  tx : Bytes := []
  txBits : Nat := 0
  txCrc : Bool := false
  sentAt : Nat := 0
  card : Option Bytes := none
  bufs : List ResFrame := []
  onAt : Nat := 0
  stagFrom : Option Nat := none
  yields : Bool := false
  staggerUs : Nat := 0
  forced : Bool := false
  txPend : Bool := false
  tracked : List Cplx := List.replicate 4 ⟨0, 0⟩
  gain : Nat := 0
  leaving : Bool := false
  closing : Bool := false
  pulse : Bool := false
  latched : Nat := 0
  deriving DecidableEq, Repr

/-! ### UHF chains -/

/-- A packet of the UHF engine (R212, R218, R225–R234). -/
inductive Pkt where
  | select (entry : Nat)
  | ownSelect
  | query
  | queryRep
  | queryAdjust (up : Bool)
  | ack
  | nak
  | reqRn
  | access
  | auth
  | kill (second : Bool)
  | raw
  deriving DecidableEq, Repr

/-- A command of the radio queue (R184): a channel change, index 0xFF standing for the governor's next channel (R255); a port change; carrier
on; a packet with its bits and AFTER code, its reply window being that of its kind (R215); carrier off. -/
inductive RadioCmd where
  | channel (index : Nat)
  | port (port : Nat)
  | carrierOn
  | packet (p : Pkt) (bits : List Bool) (after : Nat)
  | carrierOff
  deriving DecidableEq, Repr

/-- A latched preamble (R221) with the flags of R223. -/
structure RxPre where
  pre : Preamble
  collided : Bool := false
  captured : Bool := false
  deriving DecidableEq, Repr

/-- An attempt on a UHF chain: its tag, parameter block, template, object ID, whether scheduled, its worst-case time in µs; the
packet awaiting its reply; whether a packet has been sent (R228); round and slot, Q and Qfp (in units of 0.05), slots since
the last Query or QueryAdjust, empty rounds, tags found in the step, whether the present round found one, whether it held a
collision, whether the slot in hand collided and whether it was captured; the capture margin latched at the slot (R245); the preamble
acquired, RN16, handle, ACKs sent in the slot, the frame held back, and the result of the slot that a NAK on its way ends (R227). -/
structure UhfAttempt where
  tag : FrameTag
  params : Bytes
  tmpl : Bytes
  tbits : Nat
  object : Bytes
  sched : Bool
  worst : Nat := 0
  awaiting : Option Pkt := none
  sent : Bool := false
  round : Nat := 1
  slot : Nat := 0
  q : Nat := 0
  qfp : Nat := 0
  slots : Nat := 0
  emptyRounds : Nat := 0
  found : List Bytes := []
  foundNew : Bool := false
  collRound : Bool := false
  slotColl : Bool := false
  slotCapt : Bool := false
  margin : Nat := 6
  rx : Option RxPre := none
  rn16 : Nat := 0
  handle : Nat := 0
  acks : Nat := 0
  held : Option ResFrame := none
  nakResult : Option Nat := none
  deriving DecidableEq, Repr

/-- A synthesiser calibration entry (R186): channel index, temperature in signed °C, stale by RECAL. -/
structure CalEntry where
  index : Nat
  temp : Int
  stale : Bool
  deriving DecidableEq, Repr

/-- A UHF chain at run time: the slot of the channel that holds it, the port held, pair partner, queue (R184) of commands
with the instants they entered and the commands of the producer that waits for room in it, the calibration table, the channel the
synthesiser is going to while it calibrates or settles, when that change began, its lock time and the entry it will store (R186), whether
the canceller must train before the next packet, the attempt, frame buffers, the bits of the last packet sent and when (R183, R215), the member
phase code in force (R205), the output called for in TXPWR encoding (R192), the ANTSEL code driven (R174), UHF_PA_LOOPs since a good
ramp, whether the governor inhibits it, whether a grant or window wait holds its ramp, the instant its carrier came on, and the code of the
chain fault latched last (R491). -/
structure UhfChain where
  owner : Option Nat := none
  port : Option Nat := none
  partner : Option Nat := none
  master : Bool := true
  queue : List (RadioCmd × Nat) := []
  backlog : List RadioCmd := []
  cal : List CalEntry := []
  tuning : Option Nat := none
  tuneFrom : Nat := 0
  tuneUs : Nat := 0
  tuneCal : Option CalEntry := none
  untrained : Bool := true
  att : Option UhfAttempt := none
  bufs : List ResFrame := []
  txBits : List Bool := []
  sentAt : Nat := 0
  phase : Nat := 0
  out : Nat := 0
  antsel : Nat := 0
  paFails : Nat := 0
  inhibited : Bool := false
  waitGrant : Bool := false
  onAt : Nat := 0
  leaving : Bool := false
  latched : Nat := 0
  deriving DecidableEq, Repr

/-! ### Governor, coexistence, pins -/

/-- The limits of R249 in one piece: those of the fused record with REGULATORY_TIGHTEN, the ceilings of R250. -/
structure Limits where
  pcond : Nat := 0
  eirp : Int := 0
  gainMin : Int := 0
  dwellMax : Nat := 0
  offMin : Nat := 0
  occMax : Nat := 0
  tari : Nat := 0
  enc : Nat := 0
  blf : Nat := 0
  hfLimit : Int := 0
  hfFactor : Int := 0
  hfTotal : Nat := 160
  duty : Nat := 0
  chmask : Nat := 0
  deriving DecidableEq, Repr

/-- An entry of the memory port's command queue (R378): SEL, CONT, LANES as coded, DIR (from memory), DUMMY, LENGTH and BUF; `work` is the
order that R380 gives the work it belongs to. -/
structure MemEntry where
  work : Nat := 0
  sel : Nat := 0
  cont : Bool := false
  lanes : Nat := 0
  dir : Bool := false
  dummy : Nat := 0
  length : Nat := 1
  buf : Word := 0#32
  deriving DecidableEq, Repr

/-- A carrier-on span (R256, R257, R259): channel, chain, start, and end if over. -/
structure Span where
  chan : Nat
  chain : Nat
  on : Nat
  off : Option Nat
  deriving DecidableEq, Repr

/-- An occupation of a channel by a chain (R256): channel and start. -/
structure Occ where
  chan : Nat
  start : Nat
  deriving DecidableEq, Repr

/-- The governor (Chapter 8): the region record read at step 3, the ceilings, the hopping permutation held and the place in
the sequence, the occupations of the two chains, and the carrier-on spans. -/
structure Gov where
  region : Bytes := zeros 192
  ceil : Limits := {}
  perm : List Nat := []
  pos : Nat := 0
  occ : List (Option Occ) := [none, none]
  spans : List Span := []
  deriving DecidableEq, Repr

/-- A coexistence set's wires (R262–R264): REQ, PRI, and the levels of GRANT and ACT; the instant a wait began. -/
structure Wires where
  req : Bool := false
  pri : Bool := false
  grant : Bool := false
  act : Bool := false
  waitFrom : Option Nat := none
  deriving DecidableEq, Repr

/-- The RADIO chain block where the image has none: no ANTSEL pins (R182). Log 38 DEDUCED. -/
def noRadio : Bytes := [0x00#8, 0x00#8, 0xFF#8] ++ zeros 61

/-- Tables loaded from the image: profiles, coupling sets, UHF chain blocks, the air-protocol block, GPIO entries, plan
descriptors, objects (sparse, by index, the staging buffer of R335), the unknown list (R240), and the section body of KEYS. -/
structure Tables where
  profiles : List Bytes := List.replicate 32 (zeros 48)
  sets : List Bytes := []
  radio : List Bytes := [noRadio, noRadio]
  air : Bytes := zeros 64
  gpio : Bytes := zeros 256
  plans : Bytes := []
  objects : List (Nat × Obj) := []
  staging : Bytes := zeros 32
  unknown : List Bytes := []
  slopes : List (Nat × Int) := []
  startMode : Nat := 0
  wakeMode : Nat := 0
  deriving DecidableEq, Repr

/-- A strike in progress (R337): pin, end. -/
structure Strike where
  pin : Nat
  until_ : Nat
  deriving DecidableEq, Repr

/-- An open IMAGE_WRITE (R58): target slot, IMAGE_LEN, bytes received, and image bytes 0–255 held on die. -/
structure ImgWrite where
  slot : Slot
  len : Nat
  got : Nat
  head : Bytes
  deriving DecidableEq, Repr

/-! ### The device -/

/-- The life of the device: supplies down or held in reset; booting and stalled before step 8 (R42); ended in
SELFTEST_FAIL (R44); halted under R57; running from step 8; flushed after a power-loss flush (R365) or an abandoned boot
(R43); in WATCH; waking (R75). -/
inductive Phase where
  | down
  | booting
  | failed
  | halted
  | running
  | flushed
  | watch
  | waking
  deriving DecidableEq, Repr

/-- Everything but the NOR flash, the fuses and the queue: `regs` is the home of every register word (R32), `shadow` that
of the commit-group members written (R91), `cs` that of the counter-store words (R358); `time` is device time (R29);
`freeCtr` is the model's own counter that walks the free values; `causes` are the reset causes for the next BOOT_REASON;
`orphan` the slot of the last frame discarded under R20;
`rejected` the slots the watchdog rejected (R42), `stalled` where a boot stopped making progress; `boots` what the boots to come meet, in turn (log 5); `strap` the straps
sampled at t0 (R38);
`bootAt` the TIME of t0, or of the restart of a device that had started (R55), `wdogFrom` that from which the boot watchdog runs (R42);
`pgood` and `resetN` are the levels of PGOOD and RESET_N, `pfail` is PFAIL_N asserted; `vddioA` and `vddioB` the sensed levels of the
VDDIO rails, true for 3.3 V, none while PGOOD is low (R500); `refout` whether REFOUT drives its square wave, else it is high impedance
(R507). Log 17 DESIGN CHOICE. -/
structure Dev where
  regs : RegMap := []
  shadow : RegMap := []
  cs : RegMap := []
  phase : Phase := .down
  boots : List BootEnv := []
  strap : Nat := 0
  time : Nat := 0
  freeCtr : Nat := 0
  causes : Nat := 0
  rejected : List Slot := []
  stalled : Option Stall := none
  bootAt : Nat := 0
  wdogFrom : Nat := 0
  inUse : Option Slot := none
  pgood : Bool := false
  resetN : Bool := true
  pfail : Bool := false
  pfailAt : Nat := 0
  vddioA : Option Bool := none
  vddioB : Option Bool := none
  refout : Bool := false
  seqWdogAt : Option Nat := none
  host : HostPort := {}
  checks : List PendingCheck := []
  applying : List (Group × List (Nat × Word)) := []
  trans : Option Trans := none
  jrn : Journal := {}
  vault : Vault := {}
  attic : Attic := {}
  flt : List FltEntry := []
  fltNo : Nat := 0
  chans : List (Nat × Chan) := []
  gens : List (Nat × Nat) := []
  orphan : Nat := 0
  tables : Tables := {}
  hf : List HfChain := [{}, {}, {}, {}]
  uhf : List UhfChain := [{}, {}]
  gov : Gov := {}
  coexA : Wires := {}
  coexB : Wires := {}
  windows : List (Nat × Nat) := []
  strikes : List Strike := []
  image : Option ImgWrite := none
  recheck : List (Chain × Nat) := []
  quota : List Span := []
  granted : List (Nat × Bytes) := []
  memq : List MemEntry := []
  deriving DecidableEq, Repr

/-- The state: the device, the NOR flash on MEM_CS0, the fuses, and the queue of waiting commands, first in, first out.
Log 119 DESIGN CHOICE. -/
structure State where
  dev : Dev
  nor : Mem
  fuses : Fuses
  pending : List Instr
  deriving DecidableEq, Repr

/-- The state with the device replaced. -/
def State.withDev (s : State) (d : Dev) : State := { s with dev := d }

/-- After reset: supplies down, every register at its reset value (R6, R35 and the register tables), an erased NOR flash, four
empty NAND devices, VATTIC just up with the causes of the next boot holding POR, fuses of a blank CV4816-W part.
Log 1 DESIGN CHOICE, 12 DESIGN CHOICE, 13 DESIGN CHOICE, 14 DESIGN CHOICE, 15 PRESUMED, 16 DESIGN CHOICE, 17 DESIGN CHOICE, 18 DESIGN CHOICE. -/
def State.reset : State where
  dev := { regs := regReset, causes := 2, jrn := { devs := [{}, {}, {}, {}] } }
  nor := []
  fuses := {}
  pending := []

end Sys2Proof.Machine
end

