-- ==== Sys2Proof/Machine/Ops.lean ====
section
/-!
DEFINITION. The named operations over registers, counter store, time, events, request histories, channels and chains.
-/

namespace Sys2Proof.Machine

open Sys2Proof

/-! ### Registers and counter-store words -/

/-- A register word as held. -/
def Dev.reg (d : Dev) (a : Nat) : Word := RegMap.get d.regs a

/-- A register word replaced. -/
def Dev.setReg (d : Dev) (a : Nat) (v : Word) : Dev := { d with regs := RegMap.set d.regs a v }

/-- A register field. -/
def Dev.fld (d : Dev) (f : Fld) : Nat := RegMap.fld d.regs f

/-- A register field written. -/
def Dev.setFld (d : Dev) (f : Fld) (v : Nat) : Dev := { d with regs := RegMap.setFld d.regs f v }

/-- A one-bit field as a truth value. -/
def Dev.flag (d : Dev) (f : Fld) : Bool := d.fld f != 0

/-- A one-bit field written. -/
def Dev.setFlag (d : Dev) (f : Fld) (b : Bool) : Dev := d.setFld f (b2n b)

/-- A counting field raised by `k`, saturating at its largest value (R8). -/
def Dev.bump (d : Dev) (f : Fld) (k : Nat) : Dev := d.setFld f (satAdd (2 ^ (f.hi + 1 - f.lo) - 1) (d.fld f) k)

/-- A field raised to `v` when it is below it, cut at its largest value. -/
def Dev.raiseTo (d : Dev) (f : Fld) (v : Nat) : Dev := d.setFld f (max (d.fld f) (min v (2 ^ (f.hi + 1 - f.lo) - 1)))

/-- A counter-store word (R358). Log 14 DESIGN CHOICE. -/
def Dev.csw (d : Dev) (k : Nat) : Nat := (RegMap.get d.cs k).toNat

/-- A counter-store word written. -/
def Dev.setCs (d : Dev) (k v : Nat) : Dev := { d with cs := RegMap.set d.cs k (BitVec.ofNat 32 v) }

/-! ### Mode and life -/

/-- SUP_MODE.CUR (R96). -/
def Dev.mode (d : Dev) : Nat := d.fld F.SUP_MODE_CUR

/-- COMMISSION, WATCH, LEDGER, SURVEY, SHARED and DIRECT (R64). -/
def Mode.commission : Nat := 0
/-- See `Mode.commission`. -/
def Mode.watch : Nat := 1
/-- See `Mode.commission`. -/
def Mode.ledger : Nat := 2
/-- See `Mode.commission`. -/
def Mode.survey : Nat := 3
/-- See `Mode.commission`. -/
def Mode.shared : Nat := 4
/-- See `Mode.commission`. -/
def Mode.direct : Nat := 5

/-- LEDGER or SHARED. -/
def Mode.strict (m : Nat) : Bool := m == Mode.ledger || m == Mode.shared

/-- DEV_STAT.BOOT_DONE (R35): the start mode has been entered. -/
def Dev.bootDone (d : Dev) : Bool := d.mode != 0xF && d.phase != .down

/-- The device runs: boot step 8 reached, not flushed, not in WATCH, not waking. -/
def Dev.live (d : Dev) : Bool := d.phase == .running

/-- NO_IMAGE or BARE (R45, R48). -/
def Dev.noImage (d : Dev) : Bool :=
  let st := d.fld F.BOOT_STATUS_STATE
  st == 4 || st == 5

/-- The Cellar is journalling: JRN_STAT.STATE is RUNNING, FULL or FAILED. -/
def Dev.journalling (d : Dev) : Bool := d.fld F.JRN_STAT_STATE ≥ 2

/-! ### Time -/

/-- Wall time in ms at device time `t` (R467). -/
def Dev.wallAt (d : Dev) (t : Nat) : Nat := (((t : Int) + d.attic.offset).fdiv 1000 % (2 ^ 48 : Int)).toNat

/-- Wall time in ms now (R30, R467). -/
def Dev.wall (d : Dev) : Nat := d.wallAt d.time

/-- TIME_UNSYNC: wall time unset, or the span of R31 (R30, R31). -/
def Dev.unsync (d : Dev) : Bool := !d.attic.wallSet || d.attic.rcSpan

/-- Time passes by `us`: device time while CORE runs, the coarse count while VATTIC holds (R29).
Log 2 DESIGN CHOICE, 4 DESIGN CHOICE, 19 DESIGN CHOICE. -/
def Dev.tick (d : Dev) (us : Nat) : Dev :=
  let core := d.phase == .running || d.phase == .flushed || d.phase == .halted || d.phase == .failed ||
    d.phase == .booting || d.phase == .waking
  { d with
    time := if core then (d.time + us) % 2 ^ 64 else d.time
    attic := if d.attic.up then { d.attic with count := (d.attic.count + us) % 2 ^ 64 } else d.attic }

/-- Device time has reached at least `t`: a timed event happens no earlier than its instant. Log 4 DESIGN CHOICE. -/
def Dev.reach (d : Dev) (t : Nat) : Dev := d.tick (t - d.time)

/-- Wall time has reached at least `ms`. Log 4 DESIGN CHOICE. -/
def Dev.reachWall (d : Dev) (ms : Nat) : Dev := if ms ≤ d.wall then d else d.tick ((ms - d.wall) * 1000)

/-- A deadline has passed, modulo 2^40 (R18). -/
def passed (time deadline : Nat) : Bool := (time % 2 ^ 40 + 2 ^ 40 - deadline % 2 ^ 40) % 2 ^ 40 < 2 ^ 39

/-! ### Random bytes -/

/-- `n` bytes from the CTR_DRBG (R398): free values. Log 6 DESIGN CHOICE, 7 DESIGN CHOICE. -/
def Dev.drbg (d : Dev) (n : Nat) : Bytes × Dev :=
  ((List.range n).map fun i => Config.freeByte (d.freeCtr + i), { d with freeCtr := d.freeCtr + n })

/-! ### Events (R443, R445) -/

/-- One event enters the ring; a full ring drops its oldest entry and counts it (R443). -/
def Dev.event (d : Dev) (kind arg handle : Nat) (data : Bytes) : Dev :=
  let e : Event := ⟨kind, arg, handle, d.time % 2 ^ 32, fit 8 data⟩
  if d.host.ring.length < 256 then { d with host := { d.host with ring := d.host.ring ++ [e] } }
  else
    { (d.bump F.HOST_EVT_STAT_DROPPED 1) with
      host := { d.host with ring := d.host.ring.drop 1 ++ [e], dropped := satAdd 0xFFFF d.host.dropped 1 } }

/-- The 16 bytes of an event entry (R445). -/
def Event.bytes (e : Event) : Bytes :=
  beBytes 1 e.kind ++ beBytes 1 e.arg ++ beBytes 2 e.handle ++ beBytes 4 e.time ++ fit 8 e.data

/-! ### Refusal record of the check (R82, R96) -/

/-- SUP_CC after a refusal; NEED is 0 but where R96 gives it. -/
def Dev.refuse (d : Dev) (code source step subject need : Nat) : Dev :=
  ((((d.setFld F.SUP_CC_CODE code).setFld F.SUP_CC_SOURCE source).setFld F.SUP_CC_STEP step).setFld
    F.SUP_CC_SUBJECT subject).setFld F.SUP_CC_NEED_NEED (min need 0xFFFFFFFF)

/-- SUP_CHECK after a check has ended (R86). Log 26 DEDUCED. -/
def Dev.checkEnded (d : Dev) (code : Nat) : Dev :=
  (d.setFld F.SUP_CHECK_LAST_CODE code).setFld F.SUP_CHECK_DONE (d.fld F.SUP_CHECK_DONE + 1)

/-! ### Channels -/

/-- The live channel in a slot. -/
def Dev.chan? (d : Dev) (slot : Nat) : Option Chan := (d.chans.find? (·.1 == slot)).map (·.2)

/-- The generation of a slot; 1 until a DESTROY (R289). -/
def Dev.gen (d : Dev) (slot : Nat) : Nat := mapGet 1 d.gens slot

/-- The handle of a slot (R289). -/
def Dev.handle (d : Dev) (slot : Nat) : Nat := d.gen slot * 256 + slot

/-- A channel inserted in ascending slot order, or replaced. -/
def insertChan (slot : Nat) (c : Chan) : List (Nat × Chan) → List (Nat × Chan)
  | [] => [(slot, c)]
  | (k, x) :: t => if slot < k then (slot, c) :: (k, x) :: t
    else if slot = k then (slot, c) :: t else (k, x) :: insertChan slot c t

/-- A channel written. -/
def Dev.setChan (d : Dev) (slot : Nat) (c : Chan) : Dev := { d with chans := insertChan slot c d.chans }

/-- A channel changed, when the slot holds one. -/
def Dev.onChan (d : Dev) (slot : Nat) (f : Chan → Chan) : Dev :=
  match d.chan? slot with
  | some c => d.setChan slot (f c)
  | none => d

/-- The slot of a live handle (R290). -/
def Dev.liveSlot (d : Dev) (handle : Nat) : Option Nat :=
  let slot := handle % 256
  if handle / 256 ≠ 0 && (d.chan? slot).isSome && d.gen slot == handle / 256 then some slot else none

/-- The channel of a live handle. -/
def Dev.byHandle (d : Dev) (handle : Nat) : Option Chan := (d.liveSlot handle).bind d.chan?

/-- CHANNEL kinds (R288). -/
def Kind.meterRead : Nat := 1
/-- See `Kind.meterRead`. -/
def Kind.census : Nat := 2
/-- See `Kind.meterRead`. -/
def Kind.presence : Nat := 3
/-- See `Kind.meterRead`. -/
def Kind.access : Nat := 4
/-- See `Kind.meterRead`. -/
def Kind.direct : Nat := 5

/-- Whether a channel of a kind is held in a mode (R65). Log 49 DEDUCED. -/
def heldIn (kind mode : Nat) : Bool :=
  if kind == Kind.direct then mode == Mode.watch
  else if mode == Mode.watch then kind != Kind.presence
  else mode == Mode.commission || mode == Mode.direct || mode == 0xF

/-! ### Request histories (R299–R302) -/

/-- The history of a space: the device's for handle 0x0000. -/
def Dev.history (d : Dev) (handle : Nat) : History :=
  if handle = 0 then d.host.hist else ((d.byHandle handle).map (·.hist)).getD {}

/-- The history of a space changed. -/
def Dev.onHistory (d : Dev) (handle : Nat) (f : History → History) : Dev :=
  if handle = 0 then { d with host := { d.host with hist := f d.host.hist } }
  else match d.liveSlot handle with
    | some slot => d.onChan slot fun c => { c with hist := f c.hist }
    | none => d

/-- The entry of an ID changed. -/
def History.onEntry (h : History) (id : Nat) (f : HistEntry → HistEntry) : History :=
  { h with entries := h.entries.map fun e => if e.id = id then f e else e }

/-- A request becomes PENDING (R299). -/
def Dev.reqPending (d : Dev) (handle id : Nat) : Dev :=
  d.onHistory handle (·.onEntry id fun e => { e with st := .pending })

/-- A request becomes DONE with its outcome, and the CMD_DONE event is raised (R299, R445). -/
def Dev.reqDone (d : Dev) (handle id outcome retries : Nat) (result : Bytes) : Dev :=
  match (d.history handle).entries.find? (fun e => e.id == id && e.st != .done) with
  | some e =>
    (d.onHistory handle (·.onEntry id fun e =>
      { e with st := .done, outcome := outcome, retries := retries, result := result.take 56 })).event 3 0 handle
      (beBytes 2 id ++ beBytes 1 e.cmd ++ beBytes 1 outcome ++ beBytes 1 retries)
  | none => d

/-! ### Tags (R13) -/

/-- The 16 bytes of a frame tag (R13). -/
def FrameTag.bytes (t : FrameTag) : Bytes :=
  beBytes 2 t.handle ++ beBytes 2 t.reqId ++ beBytes 1 (t.step * 32 + t.attempt * 4) ++
  beBytes 1 (b2n t.lclass * 128 + t.level) ++ beBytes 5 (t.deadline % 2 ^ 40) ++ beBytes 1 t.portch ++
  beBytes 1 t.keyslot ++ beBytes 1 t.jpol ++ beBytes 2 t.cvctx

/-- PORTCH (R14): band, chain, pair, port. Log 89 DEDUCED. -/
def portch (uhf : Bool) (chain : Nat) (pair : Bool) (port : Nat) : Nat :=
  b2n uhf * 128 + (chain % 4) * 32 + b2n pair * 16 + port % 16

/-- BAND of a PORTCH byte. -/
def portchUhf (p : Nat) : Bool := bit p 7
/-- Chain of a PORTCH byte. -/
def portchChain (p : Nat) : Nat := nbits p 6 5
/-- PAIR of a PORTCH byte. -/
def portchPair (p : Nat) : Bool := bit p 4
/-- Port of a PORTCH byte. -/
def portchPort (p : Nat) : Nat := nbits p 3 0

/-- COMMIT of a JPOL byte (R14). -/
def jpolCommit (j : Nat) : Nat := nbits j 7 6
/-- EVT of a JPOL byte (R14). -/
def jpolEvt (j : Nat) : Bool := bit j 5

/-- What R21 orders waiting frames by. -/
structure Order where
  lclass : Bool
  level : Nat
  deadline : Nat
  slot : Nat

/-- A deadline earlier than another, modulo 2^40 (R18). -/
def earlier (a b : Nat) : Bool := a % 2 ^ 40 != b % 2 ^ 40 && !passed a b

/-- The order of R21: LCLASS, then level, then earlier deadline, then lower slot. -/
def Order.before (a b : Order) : Bool :=
  if a.lclass != b.lclass then a.lclass
  else if a.level != b.level then a.level > b.level
  else if a.deadline % 2 ^ 40 != b.deadline % 2 ^ 40 then earlier a.deadline b.deadline
  else a.slot < b.slot

/-- The first element of a list in the order of R21; equal places keep the list's order. -/
def firstBy {α : Type} (ord : α → Order) : List α → Option α
  | [] => none
  | a :: t => match firstBy ord t with
    | none => some a
    | some b => if (ord b).before (ord a) then some b else some a

/-- The list sorted in the order of R21. -/
def sortBy {α : Type} (ord : α → Order) : List α → List α
  | [] => []
  | a :: t =>
    let rec ins (a : α) : List α → List α
      | [] => [a]
      | b :: u => if (ord b).before (ord a) then b :: ins a u else a :: b :: u
    ins a (sortBy ord t)

/-! ### Chains -/

/-- HF chain `n` at run time. -/
def Dev.hfc (d : Dev) (n : Nat) : HfChain := d.hf.getD n {}
/-- HF chain `n` changed. -/
def Dev.onHf (d : Dev) (n : Nat) (f : HfChain → HfChain) : Dev := { d with hf := tableSet 4 {} d.hf n (f (d.hfc n)) }
/-- UHF chain `n` at run time. -/
def Dev.uhfc (d : Dev) (n : Nat) : UhfChain := d.uhf.getD n {}
/-- UHF chain `n` changed. -/
def Dev.onUhf (d : Dev) (n : Nat) (f : UhfChain → UhfChain) : Dev := { d with uhf := tableSet 2 {} d.uhf n (f (d.uhfc n)) }

/-- An HF chain drives a field. -/
def Dev.hfOn (d : Dev) (n : Nat) : Bool := (d.hfc n).port.isSome

/-- The HF chain that drives a port. -/
def Dev.hfChainOn (d : Dev) (port : Nat) : Option Nat :=
  (List.range 4).find? fun n => (d.hfc n).port == some port

/-- An HF chain is enabled and free of a latched fault. -/
def Dev.hfHealthy (d : Dev) (n : Nat) : Bool := d.flag (F.HFCn_CTL_ENABLE n) && !d.flag (F.HFCn_STAT_FAULT n)

/-- A UHF chain is enabled and free of a latched fault. -/
def Dev.uhfHealthy (d : Dev) (n : Nat) : Bool := d.flag (F.UHFCn_CTL_ENABLE n) && !d.flag (F.UHFCn_STAT_FAULT n)

/-- The UHF states (R180). -/
def Ust.off : Nat := 0
/-- See `Ust.off`. -/
def Ust.standby : Nat := 1
/-- See `Ust.off`. -/
def Ust.ready : Nat := 2
/-- See `Ust.off`. -/
def Ust.cw : Nat := 3
/-- See `Ust.off`. -/
def Ust.tx : Nat := 4
/-- See `Ust.off`. -/
def Ust.rx : Nat := 5

/-- UHFCn_STAT.STATE. -/
def Dev.ust (d : Dev) (n : Nat) : Nat := d.fld (F.UHFCn_STAT_STATE n)

/-- UHFCn_STAT.STATE written. -/
def Dev.setUst (d : Dev) (n v : Nat) : Dev := d.setFld (F.UHFCn_STAT_STATE n) v

/-- Fold over a list of numbers. -/
def Dev.forEach (d : Dev) (l : List Nat) (f : Dev → Nat → Dev) : Dev := l.foldl f d

/-! ### Lifting to the state -/

/-- A meaning that touches neither NOR nor fuses. -/
def State.onDev (s : State) (f : Dev → Dev) : Host.Outcome State Fault Refusal := .next (s.withDev (f s.dev))

/-- A meaning of a device that runs; before boot step 8, flushed, in WATCH and while waking the command has no effect.
Log 3 DESIGN CHOICE. -/
def State.onLive (s : State) (f : Dev → Dev) : Host.Outcome State Fault Refusal := s.onDev fun d => if d.live then f d else d

/-- The host port carries register writes out: the device runs, or has flushed after it ran (R41, R365). -/
def Dev.takesWrites (d : Dev) : Bool := d.live || (d.phase == .flushed && d.bootDone)

/-- A meaning of a register write: the host port carries writes out while the device runs and after a power-loss flush (R365).
Log 3 DESIGN CHOICE, 109 DEDUCED. -/
def State.onHost (s : State) (f : Dev → Dev) : Host.Outcome State Fault Refusal :=
  s.onDev fun d => if d.takesWrites then f d else d

/-- The NIST SP 800-108 counter-mode derivation of R386: one iteration, 128 bits. Log 104 PRESUMED. -/
def kdf (key label context : Bytes) : Bytes :=
  cmac key ([0x01#8] ++ label ++ [0x00#8] ++ context ++ [0x00#8, 0x80#8])

end Sys2Proof.Machine
end

