-- ==== Sys2Proof/Machine/Operands.lean ====
section
/-!
DEFINITION. The operand forms: profiles, coupling sets, plan descriptors and step bodies, step parameter blocks, object
entries, direct messages, and the rules that a step parameter block must keep.
-/

namespace Sys2Proof.Machine

open Sys2Proof

/-! ### Profiles (R109, R178) -/

/-- Profile `k`. -/
def Dev.profile (d : Dev) (k : Nat) : Bytes := d.tables.profiles.getD k (zeros 48)
/-- PFLAGS.VALID. -/
def profValid (p : Bytes) : Bool := bit (byteAt p 0) 7
/-- PFLAGS.BAND. -/
def profUhf (p : Bytes) : Bool := bit (byteAt p 0) 0
/-- The profile bound to an HF port. -/
def Dev.hfProfile (d : Dev) (port : Nat) : Bytes := d.profile (d.fld (F.HFPn_CFG_PROFILE port))
/-- The profile bound to a UHF port. -/
def Dev.uhfProfile (d : Dev) (port : Nat) : Bytes := d.profile (d.fld (F.UHFPn_CFG_PROFILE port))
/-- The bound HF profile is a valid HF profile. -/
def hfProfOk (p : Bytes) : Bool := profValid p && !profUhf p
/-- The bound UHF profile is a valid UHF profile. -/
def uhfProfOk (p : Bytes) : Bool := profValid p && profUhf p
/-- ROUTE of a UHF profile: 0 INTERNAL, 1 EXT_MONO, 2 EXT_BI (R174). -/
def profRoute (p : Bytes) : Nat := nbits (byteAt p 1) 7 6
/-- CHAIN of a UHF profile's external route. -/
def profChain (p : Bytes) : Nat := b2n (bit (byteAt p 1) 5)
/-- ANTSEL of a UHF profile. -/
def profAntsel (p : Bytes) : Nat := nbits (byteAt p 1) 2 0
/-- TXPWR of a UHF profile. -/
def profTxpwr (p : Bytes) : Nat := nbits (numAt p 4 2) 8 0
/-- ANT_GAIN of a UHF profile, 0.1 dBi. -/
def profGain (p : Bytes) : Int := sint16At p 6
/-- STEER_TRIM of a UHF profile. -/
def profTrim (p : Bytes) : Nat := nbits (byteAt p 8) 5 0
/-- PABIAS of a UHF profile. -/
def profPabias (p : Bytes) : Nat := nbits (numAt p 10 2) 9 0
/-- ATT of an HF profile. -/
def profAtt (p : Bytes) : Nat := nbits (numAt p 2 2) 8 0
/-- PHASE of an HF profile, in 1/1,024 turn. -/
def profPhase (p : Bytes) : Nat := nbits (numAt p 12 2) 9 0
/-- INOM of an HF profile, mA rms. -/
def profInom (p : Bytes) : Nat := numAt p 14 2
/-- OPEN_THR of an HF profile, per cent. -/
def profOpen (p : Bytes) : Nat := byteAt p 16
/-- SHORT_THR of an HF profile, per cent: the byte counts tens. -/
def profShort (p : Bytes) : Nat := 10 * byteAt p 17
/-- The field-on guard of an HF profile in µs (R156). -/
def profGuard (p : Bytes) : Nat := if byteAt p 25 = 0 then 1000 else byteAt p 25 * 100
/-- ANT_FACTOR of an HF profile. -/
def profFactor (p : Bytes) : Int := sint16At p 8
/-- NEIGHBOUR of an HF profile. -/
def profNeighbour (p : Bytes) : Nat := numAt p 10 2

/-- A valid profile that breaks the layout of its band: R109 for HF, R178 for UHF. -/
def profBad (p : Bytes) : Bool :=
  profValid p && (if profUhf p then
    nbits (byteAt p 0) 5 1 != 0 || profRoute p == 3 || nbits (byteAt p 1) 4 3 != 0 || byteAt p 2 > 30 ||
    (if profRoute p == 0 then byteAt p 3 < 3 || byteAt p 3 > 15 else byteAt p 3 != 0) ||
    numAt p 4 2 > (if profRoute p == 0 then 124 else 160) || nbits (byteAt p 8) 7 6 != 0 || byteAt p 9 != 0 ||
    (if profRoute p == 0 then numAt p 10 2 != 0 else numAt p 10 2 > 1023) || !zeroAt p 12 47
  else
    nbits (byteAt p 0) 5 1 != 0 || nbits (byteAt p 1) 7 3 != 0 || numAt p 2 2 > 300 || bit (byteAt p 5) 7 ||
    bit (byteAt p 5) 3 || nbits (byteAt p 5) 2 0 > 5 || nbits (byteAt p 6) 7 6 != 0 || byteAt p 7 != 0 ||
    nbits (numAt p 12 2) 15 10 != 0 || numAt p 14 2 < 1 || numAt p 14 2 > 4000 || byteAt p 16 < 5 || byteAt p 16 > 75 ||
    byteAt p 17 < 12 || byteAt p 17 > 40 || (byteAt p 25 != 0 && (byteAt p 25 < 2 || byteAt p 25 > 60)) ||
    !zeroAt p 26 47)

/-! ### Coupling sets (R119) -/

/-- The members of a set entry: its used port bytes. -/
def setPorts (e : Bytes) : List Nat := (List.range 4).filterMap fun i => if byteAt e i = 0xFF then none else some (byteAt e i)
/-- MEASURED. -/
def setMeasured (e : Bytes) : Bool := bit (byteAt e 4) 0
/-- Member index of a port in a set. -/
def setMember (e : Bytes) (port : Nat) : Option Nat := (List.range 4).find? fun i => byteAt e i == port
/-- The place of k(i←j) among the twelve coefficients of R119. -/
def pairIndex (i j : Nat) : Nat := 3 * i + (if j < i then j else j - 1)
/-- The stored coefficient k(i←j) of members i and j, Q1.14. -/
def setK (e : Bytes) (i j : Nat) : Cplx := ⟨sint16At e (12 + 4 * pairIndex i j), sint16At e (14 + 4 * pairIndex i j)⟩
/-- The set that holds a port, by number. -/
def Dev.setOf (d : Dev) (port : Nat) : Option Nat :=
  (List.range d.tables.sets.length).find? fun k => (setMember (d.tables.sets.getD k []) port).isSome
/-- A set entry that breaks R119 by itself; a used member after an unused one counts as malformed, since the unused ones stand after the used
ones. Log 128 DEDUCED. -/
def setBad (e : Bytes) : Bool :=
  let ps := setPorts e
  ps.length < 2 || ps.any (· > 15) || !ps.Nodup || nbits (byteAt e 4) 7 1 != 0 || byteAt e 5 != 0 || !zeroAt e 60 63 ||
  (List.range 4).any fun i => byteAt e i == 0xFF && decide (i < ps.length)

/-! ### HF step parameters (R148) -/

/-- PROTO: 0 Type A, 1 Type B, 2 ISO/IEC 15693. -/
def hfProto (p : Bytes) : Nat := nbits (byteAt p 0) 7 6
/-- TXR. -/
def hfTxr (p : Bytes) : Nat := nbits (byteAt p 0) 5 4
/-- RXR. -/
def hfRxr (p : Bytes) : Nat := nbits (byteAt p 0) 3 2
/-- KIND (R150). -/
def hfKind (p : Bytes) : Nat := nbits (byteAt p 1) 7 5
/-- OPT_EOF. -/
def hfOptEof (p : Bytes) : Bool := bit (byteAt p 1) 4
/-- CRC_OFF. -/
def hfCrcOff (p : Bytes) : Bool := bit (byteAt p 1) 3
/-- WAKE. -/
def hfWake (p : Bytes) : Bool := bit (byteAt p 1) 2
/-- MODT. -/
def hfModt (p : Bytes) : Nat := b2n (bit (byteAt p 2) 7)
/-- DEPTH. -/
def hfDepth (p : Bytes) : Nat := nbits (byteAt p 2) 5 0
/-- WAIT.FWI. -/
def hfFwi (p : Bytes) : Nat := nbits (byteAt p 3) 7 4
/-- WAIT.WTX_MAX. -/
def hfWtxMax (p : Bytes) : Nat := nbits (byteAt p 3) 3 0
/-- COLL_PREF. -/
def hfCollPref (p : Bytes) : Bool := bit (byteAt p 4) 7
/-- NSLOT. -/
def hfNslot (p : Bytes) : Nat := nbits (byteAt p 4) 6 4
/-- MAX_TAGS. -/
def hfMaxTags (p : Bytes) : Nat := nbits (byteAt p 4) 3 0
/-- FSDI. -/
def hfFsdi (p : Bytes) : Nat := nbits (byteAt p 5) 3 0

/-- A combination of protocol, modulation type and depth that R107 does not permit. -/
def hfComboBad (proto modt depth : Nat) : Bool :=
  !((proto == 0 && modt == 0 && depth == 0) || (proto == 1 && modt == 1 && 16 ≤ depth && depth ≤ 28) ||
    (proto == 2 && modt == 0 && depth == 0) || (proto == 2 && modt == 1 && 20 ≤ depth && depth ≤ 60))

/-- Whether a KIND is allowed for a protocol (R150). -/
def hfKindOk (kind proto : Nat) : Bool :=
  match kind with
  | 0 => true
  | 1 => proto == 0
  | 2 => proto == 0
  | 3 => true
  | 4 => proto < 2
  | 5 => proto < 2
  | 6 => proto < 2
  | _ => false

/-- A block that R149 refuses, read under protocol `proto`. -/
def hfStepBad (p : Bytes) (proto : Nat) (direct : Bool) : Bool :=
  let k := hfKind p
  proto == 3 || (proto == 2 && (hfTxr p > 1 || hfRxr p > 1)) || k == 7 || !hfKindOk k proto ||
  ((k == 1 || k == 2 || k == 3) && proto < 2 && (hfTxr p != 0 || hfRxr p != 0)) || (hfOptEof p && proto != 2) ||
  (hfWake p && k != 1 && k != 3) || (hfCrcOff p && 3 ≤ k && k ≤ 6) ||
  (k == 3 && (hfMaxTags p == 0 || (proto == 0 && hfNslot p != 0) || (proto == 1 && hfNslot p > 4) ||
    (proto == 2 && hfNslot p != 0 && hfNslot p != 4))) ||
  hfFsdi p > 8 || nbits (byteAt p 0) 1 0 != 0 || nbits (byteAt p 1) 1 0 != 0 || bit (byteAt p 2) 6 ||
  nbits (byteAt p 5) 7 4 != 0 || byteAt p 7 != 0 || nbits (numAt p 8 2) 15 10 != 0 || numAt p 10 2 != 0 ||
  (direct && (hfProto p != 0 || byteAt p 2 != 0)) || (!direct && numAt p 8 2 != 0)

/-! ### UHF step parameters (R217) -/

/-- TARI. -/
def uTari (p : Bytes) : Nat := nbits (byteAt p 0) 7 6
/-- M. -/
def uM (p : Bytes) : Nat := nbits (byteAt p 0) 5 4
/-- DR: 0 for 8, 1 for 64/3. -/
def uDr (p : Bytes) : Nat := b2n (bit (byteAt p 0) 3)
/-- AFTER for the final packet: 0 CW, 1 READY, 2 STANDBY. -/
def uAfter (p : Bytes) : Nat := nbits (byteAt p 0) 1 0
/-- BLF code. -/
def uBlf (p : Bytes) : Nat := byteAt p 1
/-- KIND (R218). -/
def uKind (p : Bytes) : Nat := nbits (byteAt p 2) 7 5
/-- TAM: 0 TAM1, 1 TAM2. -/
def uTam (p : Bytes) : Nat := b2n (bit (byteAt p 2) 0)
/-- SEL_FIRST. -/
def uSelFirst (p : Bytes) : Nat := nbits (byteAt p 3) 5 0
/-- Q_INIT. -/
def uQInit (p : Bytes) : Nat := nbits (byteAt p 4) 7 4
/-- Q_MIN. -/
def uQMin (p : Bytes) : Nat := nbits (byteAt p 4) 3 0
/-- Q_MAX. -/
def uQMax (p : Bytes) : Nat := nbits (byteAt p 5) 7 4
/-- C_CODE. Log 74 DEDUCED. -/
def uC (p : Bytes) : Nat := nbits (byteAt p 5) 3 0
/-- ROUNDS. -/
def uRounds (p : Bytes) : Nat := byteAt p 6
/-- SEL_COUNT. -/
def uSelCount (p : Bytes) : Nat := nbits (byteAt p 7) 7 6
/-- EMPTY_STOP. -/
def uEmptyStop (p : Bytes) : Nat := nbits (byteAt p 7) 3 0
/-- NPHASE. -/
def uNphase (p : Bytes) : Nat := nbits (byteAt p 8) 7 5 + 1
/-- RAW_RX_CRC. -/
def uRawRxCrc (p : Bytes) : Bool := bit (byteAt p 8) 4
/-- PH_START. -/
def uPhStart (p : Bytes) : Nat := nbits (byteAt p 9) 5 0
/-- PH_STEP. -/
def uPhStep (p : Bytes) : Nat := nbits (byteAt p 10) 5 0
/-- BLOCKS. -/
def uBlocks (p : Bytes) : Nat := nbits (byteAt p 11) 7 4
/-- PROT. -/
def uProt (p : Bytes) : Bool := bit (byteAt p 11) 3

/-- TRcal and the link ranges of R213, in ns against a denominator of BLF code times 1 (DR 8) or 3 (DR 64/3). -/
def uTrcalBad (tari dr blf : Nat) : Bool :=
  let rt := match tari with
    | 0 => 18750
    | 1 => 37500
    | _ => 75000
  let num := if dr = 0 then 1600000 else 12800000
  let den := if dr = 0 then blf else 3 * blf
  blf == 0 || 11 * rt * den > 10 * num || num > 3 * rt * den || 17200 * den > num || num > 225000 * den

/-- The command an ACCESS template holds (R218, R232): Read, Write, BlockWrite or Lock, by its leading bits. -/
inductive AccessCmd where
  | read
  | write
  | blockWrite
  | lock
  | kill
  | other
  deriving DecidableEq, Repr

/-- The command code at the head of a template: Read 0xC2, Write 0xC3, Kill 0xC4, Lock 0xC5, BlockWrite 0xC7. Log 77 PRESUMED. -/
def accessCmd (t : Bytes) (tbits : Nat) : AccessCmd :=
  if tbits < 8 then .other else match byteAt t 0 with
    | 0xC2 => .read
    | 0xC3 => .write
    | 0xC4 => .kill
    | 0xC5 => .lock
    | 0xC7 => .blockWrite
    | _ => .other

/-- Bit `i` of a template, first bit sent first. -/
def tbit (t : Bytes) (i : Nat) : Bool := bit (byteAt t (i / 8)) (7 - i % 8)

/-- The number in `n` template bits from bit `i`. -/
def tnum (t : Bytes) (i n : Nat) : Nat := (List.range n).foldl (fun a k => a * 2 + b2n (tbit t (i + k))) 0

/-- The length in bits of an EBV starting at template bit `i`: groups of 8 while the extension bit is 1; `fuel` bounds it.
Log 77 PRESUMED. -/
def ebvLen (t : Bytes) : Nat → Nat → Nat
  | 0, _ => 8
  | f + 1, i => if tbit t i then 8 + ebvLen t f (i + 8) else 8

/-- A Read whose WordCount is 0: the 8 bits after command, MemBank and WordPtr. Not judged on a FILL step, where the device
appends WordPtr and WordCount (R324). -/
def readCountZero (t : Bytes) (fill : Bool) : Bool :=
  accessCmd t 8 == .read && !fill && tnum t (10 + ebvLen t 4 10) 8 == 0

/-- A block that R219 refuses, with R214 under the limits in force; `pair` says that the step names a steered pair. -/
def uhfStepBad (l : Limits) (selTable : Nat) (p t : Bytes) (tbits : Nat) (direct pair fill : Bool) : Bool :=
  let k := uKind p
  uTari p == 3 || uAfter p == 3 || k > 4 || uBlf p < 8 || uBlf p > 128 || uTrcalBad (uTari p) (uDr p) (uBlf p) ||
  !bit l.tari (uTari p) || !bit l.enc (uM p) || uBlf p > l.blf || uQMin p > uQInit p || uQInit p > uQMax p ||
  uC p < 1 || uC p > 10 || uRounds p == 0 || uSelFirst p + uSelCount p > selTable || (uNphase p > 1 && !pair) ||
  (k == 2 && uTam p == 1 && (uBlocks p < 1 || uBlocks p > 3)) ||
  (k == 1 && (accessCmd t tbits == .other || accessCmd t tbits == .kill || readCountZero t fill)) ||
  (k == 4 && !direct) || nbits (byteAt p 7) 5 4 == 3 || nbits (byteAt p 8) 3 0 != 0 || nbits (byteAt p 9) 7 6 != 0 ||
  nbits (byteAt p 10) 7 6 != 0 || nbits (byteAt p 11) 2 0 != 0

/-! ### Objects (R332, R333) -/

/-- The object-table entry of an index; 32 zero bytes where none is listed. -/
def Dev.obj (d : Dev) (k : Nat) : Obj := mapGet ⟨zeros 32, {}⟩ d.tables.objects k
/-- An object written. -/
def Dev.setObj (d : Dev) (k : Nat) (o : Obj) : Dev :=
  { d with tables := { d.tables with objects := mapSet ⟨zeros 32, {}⟩ d.tables.objects k o } }
/-- VALID. -/
def objValid (e : Bytes) : Bool := bit (byteAt e 8) 7
/-- PROTO: 1 Type A, 2 Type B, 3 ISO/IEC 15693, 4 ISO/IEC 18000-63. -/
def objProto (e : Bytes) : Nat := nbits (byteAt e 8) 2 0
/-- OBJECT_ID. -/
def objId (e : Bytes) : Bytes := slice e 0 8
/-- HOME. -/
def objHome (e : Bytes) : Nat := numAt e 10 2
/-- DIV_INDEX, two bytes. -/
def objDiv (e : Bytes) : Bytes := slice e 12 2
/-- GROUPS. -/
def objGroups (e : Bytes) : Nat := numAt e 14 2
/-- REG_ADDR. -/
def objReg (e : Bytes) : Nat := numAt e 16 4
/-- REG_LEN. -/
def objLen (e : Bytes) : Nat := numAt e 20 2

/-- The object ID of an identifier (R333), by object protocol. -/
def objectIdOf (proto : Nat) (ident : Bytes) : Bytes :=
  match proto with
  | 1 => fit 8 ident
  | 2 => fit 8 (ident.take 4)
  | 3 => (fit 8 ident).reverse
  | _ => fit 8 ident

/-- The VALID object with an ID and protocol, by index. -/
def Dev.findObj (d : Dev) (proto : Nat) (oid : Bytes) : Option Nat :=
  (d.tables.objects.find? fun e => objValid e.2.bytes && objProto e.2.bytes == proto && objId e.2.bytes == oid).map (·.1)

/-- An entry that breaks a rule of R334 by itself; LAST_SEQ is judged for the image only. -/
def objBad (e : Bytes) (image : Bool) : Bool :=
  objValid e && (objProto e < 1 || objProto e > 4 || objHome e == 0 || (objProto e == 4 && objHome e > 0xFF) ||
    objLen e < 1 || objLen e > 255 || (objProto e == 3 && objReg e > 255) || allZero (objId e) ||
    nbits (byteAt e 8) 6 3 != 0 || byteAt e 9 != 0 || numAt e 22 2 != 0 || numAt e 28 4 != 0 ||
    (image && numAt e 24 4 != 0)) ||
  (!objValid e && (nbits (byteAt e 8) 6 3 != 0 || byteAt e 9 != 0 || numAt e 22 2 != 0 || numAt e 28 4 != 0))

/-- Band of an object: UHF for ISO/IEC 18000-63. -/
def objUhf (e : Bytes) : Bool := objProto e == 4

/-- An entry that clashes with a VALID entry at another index (R334): same OBJECT_ID and band. -/
def Dev.objClash (d : Dev) (k : Nat) (e : Bytes) : Bool :=
  objValid e && d.tables.objects.any fun x =>
    x.1 != k && objValid x.2.bytes && objId x.2.bytes == objId e && objUhf x.2.bytes == objUhf e

/-! ### Plans (R320–R323) -/

/-- A head descriptor (R321). -/
structure PlanHead where
  kind : Nat
  valid : Bool
  uhf : Bool
  trigger : Bool
  pair : Bool
  rxsel : Bool
  steps : Nat
  mask : Nat
  ports : Nat
  pairPort : Nat
  jpol : Nat
  phase : Nat
  groups : Nat
  period : Nat
  offset : Nat
  spread : Nat
  deadline : Nat
  absent : Nat
  refused : Nat
  other : Nat
  strike : Nat
  cont : Nat
  strikeMs : Nat
  deriving DecidableEq, Repr

/-- A step body (R323). -/
structure PStep where
  keyslot : Nat
  sflags : Nat
  worst : Nat
  params : Bytes
  expLen : Nat
  fillOff : Nat
  chalOff : Nat
  tbits : Nat
  tmpl : Bytes
  deriving DecidableEq, Repr

/-- RETRIES of a step body. -/
def PStep.retries (s : PStep) : Nat := nbits s.sflags 7 5
/-- RECORD. -/
def PStep.record (s : PStep) : Bool := bit s.sflags 4
/-- FILL. -/
def PStep.fill (s : PStep) : Bool := bit s.sflags 3
/-- CHAL. -/
def PStep.chal (s : PStep) : Bool := bit s.sflags 2
/-- KEY_VALID. -/
def PStep.keyValid (s : PStep) : Bool := bit s.keyslot 7

/-- Descriptor `k` of a PLANS body. -/
def descOf (plans : Bytes) (k : Nat) : Bytes := slice plans (128 * k) 128

/-- A descriptor read as a head (R321). -/
def parseHead (b : Bytes) : PlanHead where
  kind := byteAt b 0
  valid := bit (byteAt b 1) 7
  uhf := bit (byteAt b 1) 6
  trigger := bit (byteAt b 1) 5
  pair := bit (byteAt b 1) 4
  rxsel := bit (byteAt b 1) 3
  steps := byteAt b 2
  mask := nbits (byteAt b 3) 3 0
  ports := numAt b 4 2
  pairPort := nbits (byteAt b 6) 3 0
  jpol := byteAt b 7
  phase := nbits (numAt b 8 2) 9 0
  groups := numAt b 10 2
  period := numAt b 12 4
  offset := numAt b 16 4
  spread := numAt b 20 4
  deadline := numAt b 24 4
  absent := byteAt b 28
  refused := byteAt b 29
  other := byteAt b 30
  strike := byteAt b 32
  cont := byteAt b 33
  strikeMs := numAt b 34 2

/-- A continuation descriptor (R322). -/
def isCont (b : Bytes) : Bool := byteAt b 0 == 0x0F && byteAt b 1 == 0x80

/-- A head descriptor: VALID and no continuation. -/
def isHead (b : Bytes) : Bool := bit (byteAt b 1) 7 && !isCont b

/-- The step body at the head of a byte string (R323). -/
def parseStep (b : Bytes) : PStep where
  keyslot := byteAt b 0
  sflags := byteAt b 1
  worst := numAt b 2 2
  params := slice b 4 12
  expLen := byteAt b 16
  fillOff := byteAt b 17
  chalOff := byteAt b 18
  tbits := byteAt b 19
  tmpl := slice b 20 ((byteAt b 19 + 7) / 8)

/-- Length of the step body at the front of a string (R323). -/
def stepBodyLen (b : Bytes) : Nat := 20 + (byteAt b 19 + 7) / 8

/-- The step bodies of a plan from the remaining bytes of its descriptors (R322); none where they are not packed. `fuel`
bounds steps and descriptors together. An all-zero remainder is no body, since WORST 0 is refused. -/
def parseSteps : Nat → Nat → List Bytes → Option (List PStep)
  | _, 0, rest => if rest.all allZero then some [] else none
  | 0, _ + 1, _ => none
  | _ + 1, _ + 1, [] => none
  | f + 1, n + 1, b :: bs =>
    if allZero b then (if stepBodyLen (bs.headD []) ≤ b.length then none else parseSteps f (n + 1) bs)
    else
      let len := stepBodyLen b
      if b.length < len then none
      else (parseSteps f n (b.drop len :: bs)).map (parseStep b :: ·)

/-- The bodies of a plan's descriptors: the head's bytes 40–127 and each continuation's bytes 8–127. -/
def planBodies (plans : Bytes) (k : Nat) : List Bytes :=
  (descOf plans k).drop 40 ::
    (List.range (parseHead (descOf plans k)).cont).map fun i => (descOf plans (k + 1 + i)).drop 8

/-- The steps of plan `k`, if packed under R322. -/
def planSteps? (plans : Bytes) (k : Nat) : Option (List PStep) :=
  parseSteps 16 (parseHead (descOf plans k)).steps (planBodies plans k)

/-- The steps of plan `k`. -/
def Dev.planSteps (d : Dev) (k : Nat) : List PStep := (planSteps? d.tables.plans k).getD []

/-- The head of plan `k`. -/
def Dev.plan (d : Dev) (k : Nat) : PlanHead := parseHead (descOf d.tables.plans k)

/-- Plan `k` is loaded: a head descriptor stands there (R320). -/
def Dev.planLoaded (d : Dev) (k : Nat) : Bool := k < 512 && isHead (descOf d.tables.plans k)

/-- Bits set in a mask of `n` bits, ascending. -/
def bitsSet (n m : Nat) : List Nat := (List.range n).filter (bit m ·)

/-- The candidate ports of an object under a plan (R328). -/
def objPorts (p : PlanHead) (e : Bytes) : List Nat :=
  (bitsSet 16 (objHome e)).filter fun n => p.ports == 0 || bit p.ports n

/-- Whether a plan selects an object (R328). -/
def selects (p : PlanHead) (e : Bytes) : Bool :=
  objValid e && objUhf e == p.uhf && (objGroups e &&& p.groups) != 0 && !(objPorts p e).isEmpty

/-- The targets of a cycle of a plan (R328): object indices or port numbers, ascending. -/
def Dev.targets (d : Dev) (p : PlanHead) : List Nat :=
  if p.kind == Kind.meterRead then
    (d.tables.objects.filter fun e => selects p e.2.bytes).map (·.1)
  else bitsSet 16 p.ports

/-! ### Direct messages (R313) -/

/-- MSG_LEN. -/
def msgLen (m : Bytes) : Nat := numAt m 2 2
/-- PORTCH. -/
def msgPortch (m : Bytes) : Nat := byteAt m 4
/-- OPT.ANY. -/
def msgAny (m : Bytes) : Bool := bit (byteAt m 5) 7
/-- Band of a message. -/
def msgUhf (m : Bytes) : Bool := portchUhf (msgPortch m)
/-- TEMPLATE_BITS. -/
def msgTbits (m : Bytes) : Nat := numAt m 14 2
/-- STEP_PARAMS. -/
def msgParams (m : Bytes) : Bytes := slice m 16 12
/-- TEMPLATE. -/
def msgTmpl (m : Bytes) : Bytes := slice m 40 ((msgTbits m + 7) / 8)
/-- WORST in µs. -/
def msgWorst (m : Bytes) : Nat := numAt m 38 2 * 10
/-- RETRIES. -/
def msgRetries (m : Bytes) : Nat := nbits (byteAt m 13) 2 0

/-- A complete message that R314 discards: template length, WORST 0 or a reserved bit. A COMMIT of 0b11 is
CC_JOURNAL_POLICY and is judged apart (R87). -/
def msgFormatBad (m : Bytes) : Bool :=
  msgTbits m > 8192 || msgLen m != 40 + (msgTbits m + 7) / 8 || numAt m 38 2 == 0 || nbits (byteAt m 5) 6 0 != 0 ||
  nbits (byteAt m 6) 6 5 != 0 || nbits (byteAt m 7) 4 0 != 0 || bit (byteAt m 12) 7 || nbits (byteAt m 13) 7 3 != 0 ||
  nbits (numAt m 36 2) 11 0 != 0 || numAt m 8 4 == 0 || (msgUhf m && bit (msgPortch m) 3)

end Sys2Proof.Machine
end

