-- ==== Sys2Proof/Machine/AirFrames.lean ====
section
/-!
DEFINITION. The command frames of the UHF air protocol (R212, R218, R225, R227, R231–R234): the bits of each command as ISO/IEC 18000-63
and ISO/IEC 29167-10 lay them out, with their CRC-5 or CRC-16, and the step-block options that go into them (R217). Every layout of
the two standards in this file is Log 77 PRESUMED.
-/

namespace Sys2Proof.Machine

open Sys2Proof

/-! ### Options of the step block (R217) -/

/-- TREXT. -/
def uTrext (p : Bytes) : Bool := bit (byteAt p 0) 2
/-- SESSION. -/
def uSession (p : Bytes) : Nat := nbits (byteAt p 2) 4 3
/-- TARGET: false for A, true for B. -/
def uTarget (p : Bytes) : Bool := bit (byteAt p 2) 2
/-- ALT. -/
def uAlt (p : Bytes) : Bool := bit (byteAt p 2) 1
/-- SEL, the Query's Sel field. -/
def uSel (p : Bytes) : Nat := nbits (byteAt p 3) 7 6
/-- RAW_CRC: 0 none, 1 CRC-5, 2 CRC-16. -/
def uRawCrc (p : Bytes) : Nat := nbits (byteAt p 7) 5 4

/-- The target of round `r` (R225): TARGET, or under ALT the other target in even rounds. -/
def roundTarget (p : Bytes) (r : Nat) : Bool := uTarget p != (uAlt p && r % 2 == 0)

/-! ### Bits -/

/-- The low `n` bits of `v`, most significant first. -/
def bitsN (n v : Nat) : List Bool := (List.range n).map fun i => bit v (n - 1 - i)

/-- The extensible bit vector of a word address (R324): 7 bits a group, the first groups carrying the extension bit. -/
def ebvBits (fuel v : Nat) (last : Bool) : List Bool :=
  match fuel with
  | 0 => []
  | f + 1 =>
    let grp := (!last) :: (List.range 7).map fun i => bit v (6 - i)
    if v < 128 then grp else ebvBits f (v / 128) false ++ grp

/-- The bits of a byte string, first bit sent first, as many as `n`. -/
def msbBits (bs : Bytes) (n : Nat) : List Bool := (List.range n).map (tbit bs ·)

/-- Bits packed into bytes, first bit in the top of the first byte. -/
def packMsb (l : List Bool) : Bytes :=
  (List.range ((l.length + 7) / 8)).map fun i =>
    BitVec.ofNat 8 ((List.range 8).foldl (fun a k => a * 2 + b2n (l.getD (8 * i + k) false)) 0)

/-- The CRC-5 of a command: polynomial x^5 + x^3 + 1, preset 01001. Log 77 PRESUMED. -/
def crc5 (l : List Bool) : Nat := l.foldl (crcBit 5 0x09) 0x09

/-- The CRC-16 of a command: preset 0xFFFF, complemented. Log 77 PRESUMED. -/
def crc16Bits (l : List Bool) : Nat := 0xFFFF - l.foldl (crcBit 16 0x1021) 0xFFFF

/-- A command with its CRC-5. -/
def withCrc5 (l : List Bool) : List Bool := l ++ bitsN 5 (crc5 l)
/-- A command with its CRC-16. -/
def withCrc16 (l : List Bool) : List Bool := l ++ bitsN 16 (crc16Bits l)

/-! ### Commands (R212) -/

/-- A Select of target, action, bank, bit pointer, mask and Truncate. -/
def selectFrame (target action bank pointer : Nat) (mask : List Bool) (truncate : Bool) : List Bool :=
  withCrc16 ([true, false, true, false] ++ bitsN 3 target ++ bitsN 3 action ++ bitsN 2 bank ++ ebvBits 5 pointer true ++
    bitsN 8 mask.length ++ mask ++ [truncate])

/-- The Select of a table entry (R244). -/
def selectOf (e : Bytes) : List Bool :=
  selectFrame (nbits (byteAt e 0) 7 5) (nbits (byteAt e 0) 4 2) (nbits (byteAt e 0) 1 0) (numAt e 4 4)
    (msbBits (slice e 12 20) (byteAt e 8)) (bit (byteAt e 1) 7)

/-- The device's own Select (R231): target SL, action 0, bank EPC, pointer 0x20, the object ID as the mask, Truncate 0. -/
def ownSelect (oid : Bytes) : List Bool := selectFrame 4 0 1 0x20 (msbBits oid 64) false

/-- A Query (R225, R231): the step's DR, M, TRext and session, the Sel field, the round's target, and Q. -/
def queryFrame (p : Bytes) (sel : Nat) (target : Bool) (q : Nat) : List Bool :=
  withCrc5 ([true, false, false, false] ++ bitsN 1 (uDr p) ++ bitsN 2 (uM p) ++ [uTrext p] ++ bitsN 2 sel ++ bitsN 2 (uSession p) ++
    [target] ++ bitsN 4 q)

/-- A QueryRep. -/
def queryRepFrame (p : Bytes) : List Bool := [false, false] ++ bitsN 2 (uSession p)

/-- A QueryAdjust, Q up or down by one. -/
def queryAdjustFrame (p : Bytes) (up : Bool) : List Bool :=
  [true, false, false, true] ++ bitsN 2 (uSession p) ++ (if up then [true, true, false] else [false, true, true])

/-- An ACK of an RN16. -/
def ackFrame (rn16 : Nat) : List Bool := [false, true] ++ bitsN 16 rn16
/-- A NAK. -/
def nakFrame : List Bool := bitsN 8 0xC0
/-- A Req_RN of an RN16. -/
def reqRnFrame (rn16 : Nat) : List Bool := withCrc16 (bitsN 8 0xC1 ++ bitsN 16 rn16)

/-- The template of a KIND 1 step with the handle and CRC-16 (R218). Log 77 PRESUMED. -/
def accessFrame (tmpl : Bytes) (tbits handle : Nat) : List Bool := withCrc16 (msbBits tmpl tbits ++ bitsN 16 handle)

/-- The crypto-suite identifier of ISO/IEC 29167-10. -/
def csiAes : Nat := 0

/-- The TAM message of a KIND 2 step (R234): TAM1, or TAM2 with profile and offset from template bytes 1–2, BLOCKS and PROT. -/
def tamMessage (p tmpl challenge : Bytes) : List Bool :=
  let head (custom : Bool) : List Bool := [false, false, custom] ++ bitsN 5 0 ++ bitsN 8 (byteAt tmpl 0) ++ msbBits challenge 80
  if uTam p = 0 then head false
  else head true ++ bitsN 16 (numAt tmpl 1 2) ++ bitsN 4 (uBlocks p - 1) ++ bitsN 4 (b2n (uProt p))

/-- An Authenticate (R234): SenRep 1, IncRepLen 1, CSI, the length of the message, the message, handle and CRC-16.
Log 77 PRESUMED. -/
def authFrame (p tmpl challenge : Bytes) (handle : Nat) : List Bool :=
  let m := tamMessage p tmpl challenge
  withCrc16 (bitsN 8 0xD5 ++ [false, false, true, true] ++ bitsN 8 csiAes ++ bitsN 12 m.length ++ m ++ bitsN 16 handle)

/-- One of the two Kill commands (R233): the half of the 32-bit password that it carries, handle and CRC-16.
Log 77 PRESUMED. -/
def killFrame (password : Bytes) (second : Bool) (handle : Nat) : List Bool :=
  withCrc16 (bitsN 8 0xC4 ++ bitsN 16 (numAt password (if second then 2 else 0) 2) ++ bitsN 3 0 ++ bitsN 16 handle)

/-- The one command frame of a RAW step (R218): the template bits with RAW_CRC appended. -/
def rawFrame (p tmpl : Bytes) (tbits : Nat) : List Bool :=
  let l := msbBits tmpl tbits
  match uRawCrc p with
  | 1 => withCrc5 l
  | 2 => withCrc16 l
  | _ => l

end Sys2Proof.Machine
end

