-- ==== Sys2Proof/Machine/MemPort.lean ====
section
/-!
DEFINITION. The memory port (Chapter 12): the entries of its command queue and their words (R378), chains of entries (R379), the order of
work (R380), and the chains that the journal manager, the image loader and recovery queue for the commands of R354. Log 138 PRESUMED.
-/

namespace Sys2Proof.Machine

open Sys2Proof

/-! ### Entries (R378) -/

/-- Word 0 of an entry. -/
def MemEntry.word0 (e : MemEntry) : Word :=
  BitVec.ofNat 32 (e.sel * 2 ^ 29 + b2n e.cont * 2 ^ 28 + e.lanes * 2 ^ 26 + b2n e.dir * 2 ^ 25 + e.dummy * 2 ^ 21 + e.length)

/-- Word 1 of an entry: BUF. -/
def MemEntry.word1 (e : MemEntry) : Word := e.buf

/-- The entry that two words spell. -/
def memEntryOf (work : Nat) (w0 w1 : Word) : MemEntry :=
  let b := w0.toNat
  {
    work := work, sel := nbits b 31 29, cont := bit b 28, lanes := nbits b 27 26, dir := bit b 25, dummy := nbits b 24 21,
    length := nbits b 12 0, buf := w1 }

/-- An entry within the ranges of R378, on a select that revision A1 drives. -/
def MemEntry.legal (e : MemEntry) : Bool :=
  decide (e.sel ≤ 4) && (e.lanes == 0 || e.lanes == 2) && decide (e.dummy ≤ 15) && decide (1 ≤ e.length ∧ e.length ≤ 4224)

/-! ### Chains (R379) -/

/-- The complete chains of a queue, each up to its entry with CONT 0, and the entries whose last entry is not yet queued. -/
def chainsOf : List MemEntry → List (List MemEntry) × List MemEntry
  | [] => ([], [])
  | e :: q =>
    match chainsOf q with
    | (cs, rest) =>
      if !e.cont then ([e] :: cs, rest)
      else match cs with
        | c :: t => ((e :: c) :: t, rest)
        | [] => ([], e :: rest)

/-- A chain as R379 allows it: at most 8 entries on one select, CONT 1 in all but the last. -/
def chainLegal (c : List MemEntry) : Bool :=
  decide (1 ≤ c.length ∧ c.length ≤ 8) && c.all (·.legal) && (c.dropLast.all (·.cont)) && (c.getLast?.map (·.cont)) == some false &&
    c.all fun e => (c.head?.map (·.sel)) == some e.sel

/-- The queue of the port holds 32 entries. -/
def memQueueMax : Nat := 32

/-- A chain run: what a unit on SRC 3 shows of the bytes sent, and one on SRC 4 of the bytes received, is open, since the spec does not give
the bytes of a chain or how often a busy device is polled (R380, R451). Log 8 DESIGN CHOICE, 98 DEDUCED. -/
def Dev.snoopChain (d : Dev) (c : List MemEntry) : Dev :=
  let sel := (c.head?.map (·.sel)).getD 0
  let heard (src : Nat) : Bool := (src == 3 && c.any (!·.dir)) || (src == 4 && c.any (·.dir))
  d.forEach (List.range 6) fun d u =>
    if d.flag (F.CVUn_CFG_ENABLE u) && heard (d.fld (F.CVUn_CFG_SRC u)) && bit (d.fld (F.CVUn_CFG_SELMASK u)) sel then
      let w (k : Nat) : Word := Config.freeWord (d.freeCtr + k)
      let d := ((d.setReg (R.CVUn_VALUE u) (w 0)).setReg (R.CVUn_RESULT u) (w 1)).setReg (R.CVUn_ALIVE_EXP u) (w 2)
      let d := ((d.setFld (F.CVUn_STAT_LAST u) ((w 3).toNat / 256)).setReg (R.CVUn_STAT u)
        (d.reg (R.CVUn_STAT u) ||| (w 3 &&& 0x1F#32))).setFlag (F.CVUn_STAT_ANY u) ((w 3).getLsbD 31)
      { (d.setReg (R.CVUn_CNT0 u) (w 4)).setReg (R.CVUn_CNT1 u) (w 5) with freeCtr := d.freeCtr + 6 }
    else d

/-- The work a chain belongs to (R380). -/
def chainWork (c : List MemEntry) : Nat := (c.head?.map (·.work)).getD 0

/-- The chain that the port takes at a chain boundary: of the complete ones, the first queued of the work that comes first (R380). -/
def nextChain (cs : List (List MemEntry)) : Option (List MemEntry) :=
  match cs with
  | [] => none
  | c :: t => some (t.foldl (fun a b => if chainWork b < chainWork a then b else a) c)

/-- One chain boundary: the next chain leaves the queue and runs; one whose last entry is not queued does not start (R379). -/
def Dev.portTurn (d : Dev) : Dev :=
  match chainsOf d.memq with
  | (cs, rest) => match nextChain cs with
    | none => d
    | some c => { d with memq := (cs.erase c).flatten ++ rest }.snoopChain c

/-- The port runs every complete chain. -/
def Dev.portDrain (d : Dev) : Dev := d.forEach (List.range d.memq.length) fun d _ => d.portTurn

/-- Entries put at the end of the queue, with DEPTH_MAX (R383); with no room for them their producer waits until the port has run what is
queued. A chain that R379 does not allow, or that finds no room even then, is not queued. Log 138 PRESUMED. -/
def Dev.memWork (d : Dev) (work : Nat) (c : List MemEntry) : Dev :=
  let es := (c.zip (List.range c.length)).map fun (x : MemEntry × Nat) =>
    { x.1 with work := work, buf := Config.freeWord (d.freeCtr + x.2) }
  if !chainLegal c then d
  else
    let d := if d.memq.length + c.length ≤ memQueueMax then d else d.portDrain
    if d.memq.length + c.length > memQueueMax then d
    else { d with memq := d.memq ++ es, freeCtr := d.freeCtr + c.length }.raiseTo F.MEM_STAT_DEPTH_MAX (d.memq.length + c.length)

/-- Chains queued in turn. -/
def Dev.memChains (d : Dev) (work : Nat) (cs : List (List MemEntry)) : Dev := cs.foldl (fun d c => d.memWork work c) d

/-! ### The chains of the commands of R354 (log 138 PRESUMED for the bytes of an opcode and its address) -/

/-- A command sent on one lane: its opcode and address bytes. -/
def cmdEntry (sel len : Nat) (cont : Bool) : MemEntry := { sel := sel, cont := cont, length := len }

/-- Data from memory on one lane. -/
def statusEntry (sel len : Nat) : MemEntry := { sel := sel, dir := true, length := len }

/-- WRITE ENABLE. -/
def chainWriteEnable (sel : Nat) : List MemEntry := [cmdEntry sel 1 false]

/-- GET FEATURE: the status byte of a device. -/
def chainStatus (sel : Nat) : List MemEntry := [cmdEntry sel 2 true, statusEntry sel 1]

/-- READ ID. -/
def chainReadId (sel : Nat) : List MemEntry := [cmdEntry sel 2 true, statusEntry sel 2]

/-- PROGRAM LOAD ×4 and RANDOM PROGRAM LOAD ×4: opcode and column on one lane, data on four. -/
def chainLoad (sel len : Nat) : List MemEntry := [cmdEntry sel 3 true, { sel := sel, lanes := 2, length := len }]

/-- PAGE READ, PROGRAM EXECUTE and BLOCK ERASE: opcode and row address. -/
def chainRow (sel : Nat) : List MemEntry := [cmdEntry sel 4 false]

/-- READ FROM CACHE ×4 in the JOURNAL section's READ_MODE, after its DUMMY cycles (R377, R378): 1-1-4 has opcode and address on one lane,
1-4-4 the address on four. -/
def chainCache (sel : Nat) (quadAddr : Bool) (dummy len : Nat) : List MemEntry :=
  let data : MemEntry := { sel := sel, lanes := 2, dir := true, dummy := dummy, length := len }
  if quadAddr then [cmdEntry sel 1 true, { sel := sel, cont := true, lanes := 2, length := 2 }, data]
  else [cmdEntry sel 3 true, data]

/-- A page program of `count` records on device `n`: WRITE ENABLE, the records, the 24 bytes of the page header (R355), the program itself. -/
def chainsProgram (n count : Nat) : List (List MemEntry) :=
  [chainWriteEnable (n + 1), chainLoad (n + 1) (64 * max 1 count), chainLoad (n + 1) 24, chainRow (n + 1)]

/-- A block erase on device `n`. -/
def chainsErase (n : Nat) : List (List MemEntry) := [chainWriteEnable (n + 1), chainRow (n + 1)]

/-- A page of device `n` read: PAGE READ, its status, the main bytes and the spare area. -/
def Dev.chainsRead (d : Dev) (n : Nat) : List (List MemEntry) :=
  [chainRow (n + 1), chainStatus (n + 1),
   chainCache (n + 1) (byteAt d.jrn.cfg 20 == 1) (byteAt d.jrn.cfg 21 % 16) 2112]

/-- A read of `len` bytes of the NOR flash. -/
def chainNorRead (len : Nat) : List MemEntry := [cmdEntry 0 5 true, statusEntry 0 (max 1 (min 4224 len))]

/-- A NOR operation of an image write: WRITE ENABLE, then opcode, address and data, then its status. -/
def chainsNorWrite (len : Nat) : List (List MemEntry) := [chainWriteEnable 0, [cmdEntry 0 (min 4224 (5 + len)) false], chainStatus 0]

end Sys2Proof.Machine
end

