-- ==== Sys2Proof/Machine/Journal.lean ====
section
/-!
DEFINITION. The Cellar (Chapter 12): records and their builder, the Larder, pages and programs, commit, read order and
cursor, compaction, the full state, the power-loss flush and recovery; and the fault log (Chapter 16), whose records go
through the same builder.
-/

namespace Sys2Proof.Machine

open Sys2Proof

/-! ### Geometry (R356, R377) -/

/-- Pages per block. -/
def Dev.jPages (d : Dev) : Nat := byteAt d.jrn.cfg 2
/-- Blocks of device `n`. -/
def Dev.jBlocks (d : Dev) (n : Nat) : Nat := numAt d.jrn.cfg (4 + 2 * n) 2
/-- Device `n` is declared. -/
def Dev.jPresent (d : Dev) (n : Nat) : Bool := bit (byteAt d.jrn.cfg 1) n
/-- BATCH_MS in µs. -/
def Dev.jBatch (d : Dev) : Nat := byteAt d.jrn.cfg 22 * 1000
/-- NAND device `n`. -/
def Dev.nd (d : Dev) (n : Nat) : NandDev := d.jrn.devs.getD n {}
/-- NAND device `n` changed. -/
def Dev.onNd (d : Dev) (n : Nat) (f : NandDev → NandDev) : Dev :=
  { d with jrn := { d.jrn with devs := tableSet 4 {} d.jrn.devs n (f (d.nd n)) } }
/-- The journal changed. -/
def Dev.onJrn (d : Dev) (f : Journal → Journal) : Dev := { d with jrn := f d.jrn }
/-- The devices present and not failed. -/
def Dev.jDevs (d : Dev) : List Nat := (List.range 4).filter fun n => d.jPresent n && !(d.nd n).failed
/-- Record position of a slot of a page (R356). -/
def posOf (dev addr slot : Nat) : Nat := dev * 2 ^ 30 + addr * 2 ^ 10 + slot
/-- The device of a position. -/
def posDev (p : Nat) : Nat := nbits p 31 30
/-- The page address of a position. -/
def posAddr (p : Nat) : Nat := nbits p 29 10
/-- Block of a page address. -/
def blockOf (addr : Nat) : Nat := addr / 128
/-- CS_HEADn as a page address. -/
def Dev.head (d : Dev) (n : Nat) : Nat := posAddr (d.csw (0x0B + n))
/-- CS_TAILn as a block. -/
def Dev.tail (d : Dev) (n : Nat) : Nat := blockOf (posAddr (d.csw (0x0F + n)))
/-- CS_COMMITn as a block. -/
def Dev.commitBlock (d : Dev) (n : Nat) : Nat := blockOf (posAddr (d.csw (0x13 + n)))
/-- A block is bad, or its marker says so once a head reaches it (R374). -/
def Dev.badBlock (d : Dev) (n b : Nat) : Bool := (d.nd n).bad.contains b || (d.nd n).marked.contains b
/-- A good block from `b` upward, wrapping; `fuel` bounds the bad blocks passed over. -/
def Dev.goodBlock (d : Dev) (n : Nat) : Nat → Nat → Nat
  | 0, b => b
  | f + 1, b => if d.badBlock n b then d.goodBlock n f ((b + 1) % max 1 (d.jBlocks n)) else b
/-- The first page of the next good block. -/
def Dev.nextBlock (d : Dev) (n block : Nat) : Nat :=
  d.goodBlock n ((d.nd n).bad.length + (d.nd n).marked.length + 1) ((block + 1) % max 1 (d.jBlocks n)) * 128
/-- The page that follows in ascending order, bad blocks passed over (R357). -/
def Dev.nextPage (d : Dev) (n addr : Nat) : Nat :=
  if addr % 128 + 1 < d.jPages then addr + 1 else d.nextBlock n (blockOf addr)
/-- The page at an address, if programmed. -/
def Dev.page? (d : Dev) (n addr : Nat) : Option NandPage := (d.nd n).pages.find? (·.addr == addr)
/-- A block in which nothing is programmed and which is not bad nor being erased. -/
def Dev.erasedBlock (d : Dev) (n b : Nat) : Bool :=
  !(d.nd n).pages.any (fun p => blockOf p.addr == b) && !d.badBlock n b && (d.nd n).erasing != some b
/-- A block counted bad (R374). -/
def Dev.meetBad (d : Dev) (n b : Nat) : Dev :=
  d.onNd n fun x => { x with bad := if x.bad.contains b then x.bad else x.bad ++ [b] }
/-- The blocks that a head passes over on its way from block `b` to block `dst`, met as bad (R374); `fuel` bounds the walk. -/
def Dev.meetOn (n dst : Nat) : Nat → Dev → Nat → Dev
  | 0, d, _ => d
  | f + 1, d, b =>
    if b = dst then d
    else Dev.meetOn n dst f (if (d.nd n).marked.contains b then d.meetBad n b else d) ((b + 1) % max 1 (d.jBlocks n))
/-- CS_HEADn moved to a page (R357); marked blocks in between are met (R374). -/
def Dev.setHead (d : Dev) (n addr : Nat) : Dev :=
  (Dev.meetOn n (blockOf addr) ((d.nd n).marked.length + (d.nd n).bad.length + 2) d (blockOf (d.head n))).setCs (0x0B + n) (posOf n addr 0)
/-- Pages inserted in ascending address order. -/
def insertPage (p : NandPage) : List NandPage → List NandPage
  | [] => [p]
  | q :: t => if p.addr < q.addr then p :: q :: t else if p.addr = q.addr then p :: t else q :: insertPage p t

/-! ### Read order and cursor (R357, R369–R371) -/

/-- The void ranges in use (R373). -/
def Dev.voids (d : Dev) : List (Nat × Nat) :=
  (List.range 4).filterMap fun k =>
    if d.csw (0x18 + 2 * k) = 0 then none else some (d.csw (0x17 + 2 * k), d.csw (0x18 + 2 * k))

/-- A page is in the read order: MAIN or RELOC, not torn, outside the void ranges. -/
def Dev.readable (d : Dev) (p : NandPage) : Bool :=
  !p.torn && p.ptype != 2 && !d.voids.any fun v => p.ptype == 3 && v.1 ≤ p.pseq && p.pseq ≤ v.2

/-- One readable page: PSEQ, position of slot 0, first sequence and records. -/
structure ReadPage where
  pseq : Nat
  pos : Nat
  firstSeq : Nat
  recs : List Bytes

/-- A page inserted in ascending PSEQ order. -/
def insertRead (p : ReadPage) : List ReadPage → List ReadPage
  | [] => [p]
  | q :: t => if p.pseq ≤ q.pseq then p :: q :: t else q :: insertRead p t

/-- The durable records of an open page, from slot 0 to the first that is not durable; they stand in the Larder. -/
def Dev.openRecs (d : Dev) (o : OpenPage) : List Bytes :=
  (o.seqs.map fun q => d.jrn.larder.find? (·.seq == q)).takeWhile (fun r => (r.map (·.durable)).getD false) |>.map
    fun r => (r.map (·.bytes)).getD []

/-- The pages of the read order: programmed pages, and open pages as far as their records are durable. -/
def Dev.readPages (d : Dev) : List ReadPage :=
  let progd := (List.range 4).flatMap fun n =>
    ((d.nd n).pages.filter d.readable).map fun p => ReadPage.mk p.pseq (posOf n p.addr 0) p.firstSeq p.recs
  let opens := (List.range 4).flatMap fun n =>
    (d.nd n).opens.map fun o => ReadPage.mk o.pseq (posOf n o.addr 0) (o.seqs.headD 0) (d.openRecs o)
  (progd ++ opens).foldr insertRead []

/-- The read order: positions, sequences and bytes of the durable records. -/
def Dev.readOrder (d : Dev) : List (Nat × Nat × Bytes) :=
  d.readPages.flatMap fun p => (List.range p.recs.length).map fun k => (p.pos + k, p.firstSeq + k, p.recs.getD k [])

/-- The records from the cursor on (R369). -/
def Dev.fromCursor (d : Dev) : List (Nat × Nat × Bytes) :=
  if d.csw 5 = 0 then [] else d.readOrder.dropWhile fun r => r.1 != d.csw 4

/-- The cursor put at the first record of a list; nothing unacknowledged when it is empty. -/
def Dev.setCursor (d : Dev) (l : List (Nat × Nat × Bytes)) : Dev :=
  match l with
  | [] => d.setCs 5 0
  | r :: _ => (d.setCs 4 r.1).setCs 5 r.2.1

/-- Records not durable in the Larder. -/
def Dev.undurable (d : Dev) : Nat := (d.jrn.larder.filter (!·.durable)).length

/-- CS_STATE with ALL_ACKED and FULL set as they stand (R358, R371). -/
def Dev.stateWord (d : Dev) : Dev :=
  let acked := d.csw 5 == 0 && d.undurable == 0 && d.jrn.held.isNone
  let d := d.setCs 7 ((d.csw 7) % 2 + 2 * b2n d.jrn.full + 4 * b2n acked)
  d.setFlag F.JRN_STAT_ALL_ACKED acked

/-- Once records have become durable: the cursor rests on the first of them if nothing was unacknowledged, and CS_DURABLE
rises to the highest sequence up to which every sequence is durable or settled (R358). -/
def Dev.nowDurable (d : Dev) (seqs : List Nat) : Dev :=
  let d := if d.csw 5 = 0 then d.setCursor (d.readOrder.filter fun r => seqs.contains r.2.1) else d
  let wait := (d.jrn.larder.filter (!·.durable)).map (·.seq) ++ (d.jrn.held.toList.map (·.seq))
  let top := wait.foldl min (d.csw 2 + 1)
  (d.setCs 3 (top - 1)).stateWord

/-! ### Assignment and programs (R359, R361, R362) -/

/-- No slot is free, or 128 records are not durable (R361). -/
def Dev.larderFull (d : Dev) : Bool := d.jrn.larder.length ≥ 1024 || d.undurable ≥ 128

/-- A block is erasable: it holds pages, none of them a COMMIT page, and each of its records lies before the cursor in read
order (R371). -/
def Dev.erasable (d : Dev) (n b : Nat) : Bool :=
  let ps := (d.nd n).pages.filter fun p => blockOf p.addr == b
  !ps.isEmpty && ps.all (fun p => p.ptype != 2) &&
    !(d.fromCursor.any fun r => posDev r.1 == n && blockOf (posAddr r.1) == b) &&
    !((d.nd n).opens.any fun o => blockOf o.addr == b) && blockOf (d.head n) != b

/-- Free blocks: erased and erasable (R373). -/
def Dev.freeBlocks (d : Dev) (n : Nat) : Nat :=
  let used := (((d.nd n).pages.map fun p => blockOf p.addr).eraseDups.filter fun b => !d.erasable n b)
  d.jBlocks n - (d.nd n).bad.length - used.length

/-- FREE_MIN (R373). -/
def Dev.freeMin (d : Dev) (n : Nat) : Nat := max (d.jBlocks n / 16 - (d.nd n).bad.length) 2

/-- A device accepts a new MAIN page (R375). -/
def Dev.accepts (d : Dev) (n : Nat) : Bool := d.jPresent n && !(d.nd n).failed && d.freeBlocks n > d.freeMin n

/-- A device holds a record that is not durable. -/
def Dev.holdsUndurable (d : Dev) (n : Nat) : Bool := d.jrn.larder.any fun r => !r.durable && r.dev == some n

/-- The address at which a device's next page opens. -/
def Dev.openAddr (d : Dev) (n : Nat) : Nat :=
  match (d.nd n).opens.getLast? with
  | some o => d.nextPage n o.addr
  | none => match (d.nd n).prog with
    | some p => if p.page.ptype == 3 then d.nextPage n p.page.addr else d.head n
    | none => d.head n

/-- An erased block besides the head block (R362, R375). -/
def Dev.spareBlock (d : Dev) (n : Nat) : Bool :=
  d.jBlocks n > (d.nd n).bad.length + ((d.nd n).pages.map fun p => blockOf p.addr).eraseDups.length +
    b2n (d.erasedBlock n (blockOf (d.head n)))

/-- A device's closed page awaits a MAIN program that has not started (R362). -/
def NandDev.awaiting (n : NandDev) : Bool :=
  n.opens.any fun o => o.closed && (n.prog.map (fun p => p.page.addr != o.addr || p.page.ptype != 1)).getD true

/-- A page may be opened on a device (R362). -/
def Dev.canOpen (d : Dev) (n : Nat) : Bool :=
  let a := d.openAddr n
  (d.nd n).erasing.isNone && (!d.holdsUndurable n || d.jDevs.length == 1) && !(d.nd n).awaiting && (d.page? n a).isNone &&
    (a % 128 != 0 || d.erasedBlock n (blockOf a)) && (d.nd n).opens.length < 2 &&
    (d.accepts n || (d.jrn.full && d.spareBlock n))

/-- The device in rotation at which a page may open (R362). -/
def Dev.rotate (d : Dev) : Option Nat :=
  ((List.range 4).map fun k => (d.jrn.rotation + k) % 4).find? fun n => d.jDevs.contains n && d.canOpen n

/-- The open page with the lowest PSEQ that has a free slot (R362): device and page. -/
def Dev.openRoom (d : Dev) : Option (Nat × OpenPage) :=
  let all := d.jDevs.flatMap fun n =>
    if (d.nd n).awaiting then [] else ((d.nd n).opens.filter fun o => !o.closed && decide (o.seqs.length < 32)).map (n, ·)
  all.foldl (fun a b => match a with
    | none => some b
    | some x => if b.2.pseq < x.2.pseq then some b else some x) none

/-- A record assigned to a page of a device; a page whose 32 slots are full closes. -/
def Dev.place (d : Dev) (n pseq seq : Nat) : Dev :=
  let d := d.onNd n fun x => { x with opens := x.opens.map fun o =>
    if o.pseq == pseq then { o with seqs := o.seqs ++ [seq], closed := decide (o.seqs.length + 1 ≥ 32) } else o }
  d.onJrn fun j => { j with larder := j.larder.map fun r =>
    if r.seq == seq then { r with dev := some n, pseq := pseq } else r }

/-- One unassigned record given its page, opening one if it must (R362); records wait where none may open. -/
def Dev.assignOne (d : Dev) (seq : Nat) : Dev :=
  match d.openRoom with
  | some (n, o) =>
    if o.seqs.isEmpty || o.seqs.getLast? == some (seq - 1) then d.place n o.pseq seq
    else
      -- a page holds consecutive sequences: a page that would break them closes (R351)
      d.onNd n fun x => { x with opens := x.opens.map fun p => if p.pseq == o.pseq then { p with closed := true } else p }
  | none =>
    match d.rotate with
    | none => d
    | some n =>
      let q := d.csw 6 + 1
      let a := d.openAddr n
      let d := (d.setCs 6 q).onNd n fun x => { x with opens := x.opens ++ [{ pseq := q, addr := a }] }
      (d.onJrn fun j => { j with rotation := (n + 1) % 4 }).place n q seq

/-- Every unassigned record in sequence order. -/
def Dev.assign (d : Dev) : Dev :=
  let todo := (d.jrn.larder.filter fun r => r.dev.isNone && !r.durable).map (·.seq)
  let d := d.forEach todo Dev.assignOne
  d.forEach ((d.jrn.larder.filter fun r => r.dev.isNone && !r.durable).map (·.seq)) Dev.assignOne

/-- The bytes of a Larder record. -/
def Dev.larderBytes (d : Dev) (seq : Nat) : Bytes := ((d.jrn.larder.find? (·.seq == seq)).map (·.bytes)).getD (zeros 64)

/-- The MAIN or COMMIT image of an open page. -/
def Dev.imageOf (d : Dev) (o : OpenPage) (ptype addr target : Nat) : NandPage :=
  { addr := addr, ptype := ptype, pseq := o.pseq, firstSeq := o.seqs.headD 0, target := target,
    recs := o.seqs.map d.larderBytes }

/-- A record must be made durable before its main page is full: COMMIT 0b10, or BATCH_MS has passed (R359, R360). -/
def Dev.urgent (d : Dev) (o : OpenPage) : Bool :=
  d.jrn.larder.any fun r => !r.durable && o.seqs.contains r.seq && (r.commit == 2 || d.time ≥ r.entered + d.jBatch)

/-- The erased block of a ring farthest ahead of its head (R359), if there is one besides the head block. -/
def Dev.farthest (d : Dev) (n : Nat) : Option Nat :=
  let b := d.jBlocks n
  let h := blockOf (d.head n)
  ((List.range (min b ((d.nd n).pages.length + (d.nd n).bad.length + (d.nd n).marked.length + 3))).map fun k => (h + b - 1 - k) % max 1 b).find?
    fun x => x != h && d.erasedBlock n x

/-- The next free page of the commit block; a full or absent block gives way to the farthest erased one. -/
def Dev.commitPage (d : Dev) (n : Nat) : Option (Nat × Dev) :=
  let b := d.commitBlock n
  let used := ((d.nd n).pages.filter fun p => blockOf p.addr == b)
  if used.all (·.ptype == 2) && used.length < d.jPages && !d.badBlock n b && b != blockOf (d.head n)
      && (d.nd n).erasing != some b then
    some (b * 128 + used.length, d)
  else match d.farthest n with
    | some x => some (x * 128, d.setCs (0x13 + n) (posOf n (x * 128) 0))
    | none => none

/-- DEV_BUSY of a device (R383). -/
def Dev.busyBit (d : Dev) (n : Nat) : Dev :=
  let f : Fld := ⟨R.MEM_STAT, 21 + n, 21 + n⟩
  d.setFlag f ((d.nd n).prog.isSome || (d.nd n).erasing.isSome)

/-- A page program of device `n` started, and its chains queued (R354, R379): before other programs where an outcome waits for one of its
records (R380). -/
def Dev.launch (d : Dev) (n : Nat) (p : Prog) : Dev :=
  let awaited := d.jrn.larder.any fun r => p.seqs.contains r.seq && !r.durable && r.ticket != .none
  ((d.onNd n fun x => { x with prog := some p }).busyBit n).memChains (if awaited then 2 else 4) (chainsProgram n p.page.recs.length)

/-- A block erase of device `n` started, and its chains queued (R354, R372). -/
def Dev.launchErase (d : Dev) (n b : Nat) : Dev :=
  ((d.onNd n fun x => { x with pages := x.pages.filter (fun p => blockOf p.addr != b), erasing := some b }).busyBit n).memChains 5
    (chainsErase n)

/-- The program that a free device starts (R359, R362): a closed page as MAIN, else the COMMIT image of an open page that
holds an urgent record; with no commit block the page closes early. -/
def Dev.startProg (d : Dev) (n : Nat) : Dev :=
  let x := d.nd n
  if x.prog.isSome || x.erasing.isSome || x.failed || !d.jPresent n then d
  else match x.opens.find? (·.closed) with
    | some o => d.launch n ⟨d.imageOf o 1 o.addr 0, o.seqs⟩
    | none => match x.opens.find? d.urgent with
      | none => d
      | some o => match d.commitPage n with
        | some (a, d) => d.launch n ⟨d.imageOf o 2 a (posOf n o.addr 0), o.seqs⟩
        | none =>
          let o := { o with closed := true }
          (d.onNd n fun x => { x with opens := x.opens.map fun p => if p.pseq == o.pseq then o else p }).launch n
            ⟨d.imageOf o 1 o.addr 0, o.seqs⟩

/-- Assignment and programs brought up to date. -/
def Dev.pump (d : Dev) : Dev := (d.assign.forEach [0, 1, 2, 3] Dev.startProg).stateWord

/-! ### The record builder (R346–R351, R360) -/

/-- Tampered: CS_TAMPER_LATCH.LATCHED. -/
def Dev.latched (d : Dev) : Bool := bit (d.csw 0x20) 31

/-- The root gate (R385). -/
def Dev.gateOpen (d : Dev) (fu : Fuses) : Bool := !fu.hardBlown && fu.rootOk && !d.latched && d.attic.sources == 0

/-- The JOURNAL_MAC key: KS2 (R390). -/
def Dev.journalKey (d : Dev) : Option Bytes := ((d.vault.slots.getD 2 none).filter fun k => bit k.purpose 1).map (·.key)

/-- The sequence space is spent (R351, R376). -/
def Dev.spent (d : Dev) : Bool := d.csw 2 ≥ 0xFFFFFFFE

/-- The lowest sequence still held in the Cellar (R352); with no other record, that of the one being built. DEDUCED. Log 92 DEDUCED. -/
def Dev.tailSeq (d : Dev) : Nat :=
  match d.readOrder.map (·.2.1) with
  | [] => d.csw 2
  | q :: t => t.foldl min q

/-- The payload of a request as the builder takes it: CHAIN_SEQ and TAIL_SEQ of a CHECKPOINT (R352), the counts, times and
gate of a TAMPER record (R405). Log 92 DEDUCED. -/
def Dev.payloadOf (d : Dev) (r : RecReq) : Bytes :=
  match r.fill with
  | .plain => fit 28 r.payload
  | .checkpoint => overlay (overlay (fit 28 r.payload) 10 (beBytes 4 d.jrn.chainSeq)) 22 (beBytes 4 d.tailSeq)
  | .tamper =>
    fit 28 (beBytes 1 (nbits (d.csw 0x21) 20 16) ++ r.payload.take 1 ++ beBytes 2 (nbits (d.csw 0x21) 8 0) ++
      beBytes 4 (d.csw 0x22 + 1) ++ beBytes 4 (d.csw 9) ++ beBytes 2 (d.csw 0x23) ++ beBytes 4 (d.csw 0x24) ++
      beBytes 2 (d.csw 0x25) ++ beBytes 4 (d.csw 0x26) ++
      (if d.latched || d.attic.sources != 0 then [0#8] else slice r.payload 1 1))

/-- The 64 bytes of a record with its sequence (R346, R347, R349, R350, R405). -/
def Dev.recordBytes (d : Dev) (r : RecReq) (seq : Nat) : Bytes :=
  let flags := r.flags ||| (b2n d.unsync * 0x80) ||| (b2n (d.latched || r.ty == 7) * 0x40) ||| (b2n (r.commit == 1) * 4)
  let body := beBytes 1 r.ty ++ beBytes 1 flags ++ beBytes 2 r.handle ++ beBytes 4 seq ++ beBytes 6 d.wall ++
    beBytes 1 r.signal ++ beBytes 1 r.portch ++ fit 8 r.object ++ d.payloadOf r
  let mac := if d.latched || r.ty == 7 then zeros 8 else match d.journalKey with
    | some k => (cmac k (body ++ fit 8 d.jrn.chain)).take 8
    | none => zeros 8
  body ++ mac ++ beBytes 4 (crc32 (body ++ mac))

/-- A record enters the Larder (R360, R361): under 0b01 what waits for it need wait no longer. -/
def Dev.enter (d : Dev) (r : LarderRec) : Dev :=
  let r := { r with entered := d.time, ticket := if r.commit == 1 then .none else r.ticket }
  let d := d.onJrn fun j => { j with larder := j.larder ++ [r] }
  (d.raiseTo F.JRN_LARDER_HIGH (d.jrn.larder.length / 4)).pump

/-- The builder takes a record: sequence, chain and MAC; into the Larder, or held (R24, R351). -/
def Dev.build (d : Dev) (r : RecReq) : Dev :=
  let seq := d.csw 2 + 1
  let d := d.setCs 2 seq
  let bs := d.recordBytes r seq
  let ticket := match r.ticket with
    | .tamper _ => .tamper (d.csw 9)
    | t => t
  let rec_ : LarderRec := { seq := seq, bytes := bs, commit := r.commit, ticket := ticket }
  let d := d.onJrn fun j => { j with chain := slice bs 52 8, chainSeq := seq }
  if d.larderFull then (d.onJrn fun j => { j with held := some { rec_ with entered := d.time } }).stateWord else d.enter rec_

/-- A CHECKPOINT request (R352): KINDS, gap range, loss range, boot reason. -/
def checkpointReq (kinds g1 g2 l1 l2 reason : Nat) : RecReq :=
  {
    ty := 6, fill := .checkpoint,
    payload := beBytes 1 kinds ++ [0#8] ++ beBytes 4 g1 ++ beBytes 4 g2 ++ zeros 4 ++ beBytes 4 l1 ++ beBytes 4 l2 ++
      zeros 4 ++ beBytes 1 reason }

/-- The record builder has stopped for WATCH, where only the Attic writes the counter store (R26). -/
def Dev.builderOff (d : Dev) : Bool := d.phase == .watch || d.phase == .waking

/-- The builder may take a record now: the Cellar journals, the device is neither flushed nor in WATCH, nothing is held, and the sequence
space is not spent. -/
def Dev.canBuild (d : Dev) : Bool :=
  d.journalling && d.jrn.held.isNone && !d.spent && d.phase != .flushed && d.phase != .down && !d.builderOff

/-- The sequence space's last sequence goes to the CHECKPOINT with FULL_ON, and no other record (R351). -/
def Dev.lastSeq (d : Dev) : Dev :=
  let d := d.build (checkpointReq 0x20 0 0 0 0 0)
  ((d.onJrn fun j => { j with full := true, reqs := [] }).setFld F.JRN_STAT_STATE 3).setFld F.FLT_STAT_JFULL 1

/-- A record asked of the builder: built at once, or waiting its turn while the builder holds one (R24) or is off in WATCH (R26). Nothing is built
while the Cellar does not journal (R360), after the flush (R363), or with the sequence space spent (R376). Log 91 DEDUCED. -/
def Dev.post (d : Dev) (r : RecReq) : Dev :=
  if !d.journalling || d.spent || d.phase == .flushed || d.phase == .down then d
  else if d.jrn.held.isSome || d.builderOff then d.onJrn fun j => { j with reqs := j.reqs ++ [r] }
  else if d.csw 2 = 0xFFFFFFFD then d.lastSeq
  else d.build r

/-! ### The fault log (R476–R494) -/

/-- The FAULT record request of an entry (R494), RESTART payload included. -/
def faultReq (e : FltEntry) : RecReq :=
  let b := e.bytes
  {
    ty := 5, handle := e.handle, portch := byteAt b 2, object := e.object, ticket := .fault e.no,
    payload := slice b 0 1 ++ slice b 1 1 ++ slice b 3 1 ++ slice b 10 1 ++ slice b 8 2 ++ zeros 2 ++ slice b 16 16 ++
      slice b 4 4 }

/-- The FAULT event of an entry and the SEQ of its record (R445, R494): raised when the record is built. -/
def Dev.faultEvent (d : Dev) (e : FltEntry) (seq : Nat) : Dev :=
  let upd (x : FltEntry) : FltEntry :=
    if x.no == e.no then { x with bytes := overlay x.bytes 12 (beBytes 4 seq) } else x
  { d with flt := d.flt.map upd }.event 0x0A (byteAt e.bytes 2) e.handle (slice e.bytes 0 1 ++ zeros 3 ++ beBytes 4 seq)

/-- The FAULT record and event of a latched fault (R479, R494): the record where the Cellar journals, the event with its
sequence, or with 0. -/
def Dev.faultReport (d : Dev) (e : FltEntry) : Dev :=
  if d.canBuild && d.csw 2 != 0xFFFFFFFD then
    let seq := d.csw 2 + 1
    (d.post (faultReq e)).faultEvent e seq
  else if d.journalling && !d.spent && d.jrn.held.isSome then d.post (faultReq e)
  else (d.post (faultReq e)).faultEvent e 0

/-- The log entry of a fault (R493), newest first, 16 kept, with FLT_STAT, FLT_CNT and FLT_INT. -/
def Dev.logFault (d : Dev) (code cls pch ff int newp : Nat) (tag : Bytes) (handle : Nat) (object : Bytes) : Dev × FltEntry :=
  let e : FltEntry := {
    no := d.fltNo, handle := handle, object := object,
    bytes := beBytes 1 code ++ beBytes 1 cls ++ beBytes 1 pch ++ beBytes 1 ff ++ beBytes 4 d.time ++
      beBytes 2 (min int 0xFFFF) ++ beBytes 1 newp ++ zeros 1 ++ zeros 4 ++ fit 16 tag }
  let d := { d with flt := (e :: d.flt).take 16, fltNo := d.fltNo + 1 }
  let d := (d.setFld F.FLT_STAT_LAST_CODE code).bump F.FLT_CNT_FAULTS 1
  let d := if bit ff 7 then d.bump F.FLT_CNT_FAILOVERS 1 else d
  ((d.setFld F.FLT_INT_LAST (min int 0xFFFF)).raiseTo F.FLT_INT_MAX int, e)

/-- A fault latched with its interruption known: log entry, record, event. -/
def Dev.fault (d : Dev) (code cls pch ff int newp : Nat) (tag : Bytes) (handle : Nat) (object : Bytes) : Dev :=
  let (d, e) := d.logFault code cls pch ff int newp tag handle object
  d.faultReport e

/-- A class 9 fault (R476): no resource, no interruption; FLT_STAT.OTHER latches three of its codes (R495). Log 101 DEDUCED. -/
def Dev.fault9 (d : Dev) (code : Nat) : Dev :=
  let other := code == Code.FUSE_FAIL || code == Code.DRBG_FAIL || code == Code.KEYS_MISMATCH
  (if other then d.setFlag F.FLT_STAT_OTHER true else d).fault code 9 0 0 0 0xFF [] 0 []

/-- MEM_ERR of a memory operation that failed (R383); the status byte that the device returned is open. Log 8 DESIGN CHOICE. -/
def Dev.memError (d : Dev) (sel code op : Nat) : Dev :=
  let d := ((d.setFld F.MEM_ERR_SEL sel).setFld F.MEM_ERR_CODE code).setFld F.MEM_ERR_OP op
  { d.setFld F.MEM_ERR_STATUS (Config.freeByte d.freeCtr).toNat with freeCtr := d.freeCtr + 1 }

/-- NAND_FAIL latched (R374): FLT_STAT.NAND, MEM_ERR, and an entry whose interruption runs until `seqs` are durable. -/
def Dev.nandFault (d : Dev) (n op : Nat) (seqs : List Nat) : Dev :=
  let d := (d.setFld F.FLT_STAT_NAND 1).memError (n + 1) Code.NAND_FAIL op
  let ff := if seqs.isEmpty then 0 else 0x80
  let (d, e) := d.logFault Code.NAND_FAIL 7 0 ff 0 0xFF [] 0 []
  if seqs.isEmpty then d.faultReport e
  else d.onJrn fun j => { j with lost := j.lost ++ [(e.no, d.time, seqs)] }

/-- Faults whose records have become durable again: INT is the time since detection, and IN_BOUND is set in LEDGER and
SHARED when it is at most 1 ms and no transition runs (R480, R481, R493). -/
def Dev.closeLost (d : Dev) : Dev :=
  let open_ (l : List Nat) : Bool := d.jrn.larder.any fun r => l.contains r.seq && !r.durable
  let done := d.jrn.lost.filter fun x => !open_ x.2.2
  let d := d.onJrn fun j => { j with lost := j.lost.filter fun x => open_ x.2.2 }
  done.foldl (fun d x =>
    let int := d.time - x.2.1
    let inb := Mode.strict d.mode && decide (int ≤ 1000) && !d.flag F.SUP_MODE_BUSY
    let upd (e : FltEntry) : FltEntry := if e.no == x.1 then { e with
      bytes := overlay (overlay e.bytes 8 (beBytes 2 (min int 0xFFFF))) 3 (beBytes 1 (byteAt e.bytes 3 + b2n inb * 0x40)) } else e
    let d := { d with flt := d.flt.map upd }
    let d := (d.setFld F.FLT_INT_LAST (min int 0xFFFF)).raiseTo F.FLT_INT_MAX int
    match d.flt.find? (·.no == x.1) with
    | some e => d.faultReport e
    | none => d) d

/-- The tail of a device moved on from a block that holds no page any more to the next block that does (R357, R372). -/
def Dev.moveTail (d : Dev) (n b : Nat) : Dev :=
  if d.tail n == b then
    let ahead := (d.nd n).pages.filter fun p => p.ptype != 2
    let dist (p : NandPage) : Nat := (blockOf p.addr + d.jBlocks n - b) % max 1 (d.jBlocks n)
    let t := ahead.foldl (fun a p => if dist p < a.1 then (dist p, blockOf p.addr) else a) (d.jBlocks n, blockOf (d.head n))
    d.setCs (0x0F + n) (posOf n (t.2 * 128) 0)
  else d

/-- A relocation pass cut, as recovery finds one (R366, R373): its RELOC pages become a void range, its source block is intact and is queued
again. Log 96 DEDUCED. -/
def Dev.cutPass (d : Dev) : Dev :=
  match d.jrn.pass with
  | none => d
  | some p =>
    let top := (d.jrn.devs.flatMap fun x => (x.pages.filter fun q => q.ptype == 3).map (·.pseq)).foldl max 0
    let d := if top ≥ d.csw 8 then
        match (List.range 4).find? fun k => d.csw (0x18 + 2 * k) == 0 with
        | some k => (d.setCs (0x17 + 2 * k) (d.csw 8)).setCs (0x18 + 2 * k) top
        | none => d
      else d
    let d := (d.setCs 8 0).setFld F.JRN_STAT_VOIDS d.voids.length
    (d.onJrn fun j => { j with pass := none, relocs := j.relocs ++ [(p.cause, p.dev, p.block)] }).setFlag F.JRN_STAT_RELOCATING false

/-- A device that programs no more of its open pages: what is durable of them stays readable, the rest waits for a page again (R374). -/
def Dev.releaseOpens (d : Dev) (n : Nat) : Dev :=
  let ok (q : Nat) : Bool := d.jrn.larder.any fun r => r.seq == q && r.durable
  let d := d.onNd n fun x => { x with
    opens := ((x.opens.map fun o => { o with seqs := o.seqs.takeWhile ok, closed := true }).filter fun o => !o.seqs.isEmpty) }
  d.onJrn fun j => { j with larder := j.larder.map fun (r : LarderRec) => if r.dev == some n && !r.durable then { r with dev := none } else r }

/-! ### Records become durable (R359, R360, R402, R405) -/

/-- What a durable record releases besides a step's outcome. Log 93 DEDUCED, 107 DEDUCED. -/
def Dev.release (d : Dev) (t : Ticket) : Dev :=
  match t with
  | .tamper c => (d.setCs 0x22 c).setCs 0x21 (if c == d.csw 9 then 0 else d.csw 0x21)
  | .timeSet id => d.reqDone 0 id Code.OK 0 []
  | .fltBoot => d.setCs 0x30 0
  | .reloc =>
    match d.jrn.pass with
    | some p =>
      let d := d.setCs 8 0
      let d := (d.onJrn fun j => { j with pass := none }).setFlag F.JRN_STAT_RELOCATING false
      let gone (x : NandDev) : NandDev := { x with pages := x.pages.filter fun q => blockOf q.addr != p.block }
      if p.cause == 2 then
        ((d.onNd p.dev fun x => { gone x with marked := x.marked ++ [p.block] }).meetBad p.dev p.block).moveTail p.dev p.block
      else d.launchErase p.dev p.block
    | none => d
  | _ => d

/-- The sequences of a program that passed are durable. -/
def Dev.markDurable (d : Dev) (seqs : List Nat) : Dev :=
  let tickets := (d.jrn.larder.filter fun r => seqs.contains r.seq && !r.durable).map (·.ticket)
  let d := d.onJrn fun j => { j with
    larder := j.larder.map fun (r : LarderRec) =>
      if seqs.contains r.seq then { r with durable := true, ticket := .none } else r }
  let d := d.nowDurable seqs
  (tickets.foldl Dev.release d).closeLost

/-- Larder slots freed once a MAIN page has passed (R361). -/
def Dev.freeSlots (d : Dev) (seqs : List Nat) : Dev :=
  d.onJrn fun j => { j with larder := j.larder.filter fun r => !seqs.contains r.seq }

/-- A program that passed (R359): the page stands; MAIN moves the head and frees its slots, RELOC moves the head, COMMIT
counts. -/
def Dev.progPassed (d : Dev) (n : Nat) (p : Prog) : Dev :=
  let d := d.onNd n fun x => { x with pages := insertPage p.page x.pages, prog := none }
  match p.page.ptype with
  | 1 =>
    let d := d.markDurable p.seqs
    let d := (d.onNd n fun x => { x with opens := x.opens.filter (·.addr != p.page.addr) }).freeSlots p.seqs
    (d.setHead n (d.nextPage n p.page.addr)).stateWord
  | 3 =>
    let d := d.setHead n (d.nextPage n p.page.addr)
    let d := (d.bump F.JRN_CNT_RELOCATED p.page.recs.length)
    if d.csw 5 = 0 then d.setCursor (d.readOrder.filter fun r => posAddr r.1 == p.page.addr && posDev r.1 == n) else d
  | _ => (d.bump F.JRN_CNT_COMMITS 1).markDurable p.seqs

/-- The next erased block after a device's head block (R374: a fresh block). -/
def Dev.freshBlock (d : Dev) (n : Nat) : Option Nat :=
  let b := d.jBlocks n
  ((List.range (min b ((d.nd n).pages.length + (d.nd n).bad.length + (d.nd n).marked.length + 3))).map fun k =>
    (blockOf (d.head n) + 1 + k) % max 1 b).find? fun x => d.erasedBlock n x && x != d.commitBlock n

/-- A program that failed (R374): its records go to the next page of a fresh block of the same device, the old block is
queued RETIRE, NAND_FAIL is latched. -/
def Dev.progFailed (d : Dev) (n : Nat) (p : Prog) : Dev :=
  let blk := blockOf p.page.addr
  let d := d.onNd n fun x => { x with prog := none, pages := insertPage { p.page with torn := true } x.pages }
  let d := d.onJrn fun j =>
    { j with relocs := if j.relocs.any (fun r => r.2 == (n, blk)) then j.relocs else j.relocs ++ [(2, n, blk)] }
  let d := match p.page.ptype with
    | 2 => match d.farthest n with
      | some b => d.setCs (0x13 + n) (posOf n (b * 128) 0)
      | none => d
    | _ => match d.freshBlock n with
      | some b =>
        let d := d.setHead n (b * 128)
        let k := b2n (p.page.ptype == 3)
        let d := d.onNd n fun x => { x with opens := (x.opens.zip (List.range 2)).map fun (o : OpenPage × Nat) => { o.1 with addr := b * 128 + o.2 + k } }
        if p.page.ptype == 3 then d.launch n { p with page := { p.page with addr := b * 128 } } else d
      | none =>
        -- no fresh block: records not yet durable go to another device as when a device fails
        let d := d.releaseOpens n
        if p.page.ptype == 3 then d.cutPass else d
  let seqs := p.seqs.filter fun q => d.jrn.larder.any fun r => r.seq == q && !r.durable
  (d.nandFault n 0x10 seqs).pump

/-! ### The full state (R375, R376) -/

/-- Some device has FREE_MIN + B/128 free blocks (R375). -/
def Dev.roomAgain (d : Dev) : Bool := d.jDevs.any fun n => d.freeBlocks n ≥ d.freeMin n + d.jBlocks n / 128

/-- A device whose tail block a SURVEY overwrite may erase: not the head block, with no record that is not durable. -/
def Dev.overwritable (d : Dev) (n : Nat) : Bool :=
  d.jDevs.contains n && (d.nd n).erasing.isNone && (d.nd n).prog.isNone && d.tail n != blockOf (d.head n) &&
    !d.holdsUndurable n && (d.nd n).pages.any fun p => blockOf p.addr == d.tail n

/-- The SURVEY overwrite of R375: the tail block of the next device in rotation is erased, its records counted and named,
the batch emptied where it held one of them, and the cursor moved past them. Log 94 DEDUCED. -/
def Dev.overwrite (d : Dev) : Dev :=
  match ((List.range 4).map fun k => (d.jrn.rotation + k) % 4).find? d.overwritable with
  | none => d
  | some n =>
    let b := d.tail n
    let inBlk (r : Nat × Nat × Bytes) : Bool := posDev r.1 == n && blockOf (posAddr r.1) == b
    let seqs := (d.readOrder.filter inBlk).map (·.2.1)
    let cursorIn := (d.fromCursor.head?.map inBlk).getD false
    let rest := d.fromCursor.filter fun r => !inBlk r
    let d := if cursorIn then d.setCursor rest else d
    let d := d.onJrn fun j => { j with
      batch := if j.batch.any (fun x => posDev x.1 == n && blockOf (posAddr x.1) == b) then [] else j.batch
      staged := if cursorIn then [] else j.staged }
    let d := (d.launchErase n b).setFlag F.JRN_STAT_BATCH (!d.jrn.batch.isEmpty)
    let d := d.setCs 0x0A (min 0xFFFFFFFF (d.csw 0x0A + seqs.length))
    match seqs with
    | [] => d
    | q :: t => d.post (checkpointReq 4 0 0 (t.foldl min q) (t.foldl max q) 0)

/-- The full state entered, left, or answered by an overwrite, as the mode in force says (R375, R376). -/
def Dev.checkFull (d : Dev) : Dev :=
  if !d.journalling || d.spent then d
  else if d.jrn.full then
    if d.roomAgain then
      let d := d.onJrn fun j => { j with full := false }
      ((d.setFld F.JRN_STAT_STATE 2).setFld F.FLT_STAT_JFULL 0).post (checkpointReq 0x40 0 0 0 0 0)
    else if d.mode == Mode.survey && !d.jDevs.any d.accepts then d.overwrite
    else d
  else if d.jDevs.any d.accepts then d
  else if d.mode == Mode.survey then d.overwrite
  else
    let d := d.onJrn fun j => { j with full := true }
    let d := (d.setFld F.JRN_STAT_STATE (if d.jDevs.isEmpty then 4 else 3)).setFld F.FLT_STAT_JFULL 1
    let (d, e) := d.logFault Code.JOURNAL_FULL 9 0 0 0 0xFF [] 0 []
    (d.post (checkpointReq 0x20 0 0 0 0 0)).faultEvent e 0

/-- Runs and direct steps whose COMMIT is not 0b00 end with JRNL_NO_ROOM (R375, R376). -/
def Dev.noRoom (d : Dev) : Bool := d.jrn.full && (d.mode != Mode.survey || d.spent)

/-! ### The held record and the waiting requests (R24) -/

/-- The held record enters the Larder once a slot is free. -/
def Dev.enterHeld (d : Dev) : Dev :=
  match d.jrn.held with
  | some r => if d.larderFull then d else (d.onJrn fun j => { j with held := none }).enter r
  | none => d

/-- The place of a request in the order of R21; the device's own records come first. Log 91 DEDUCED. -/
def RecReq.order (r : RecReq) : Order := ⟨r.lclass || r.device, if r.device then 128 else r.level, r.deadline, r.slot⟩

/-- The next waiting request built, if the builder is free. Log 91 DEDUCED. -/
def Dev.buildNext (d : Dev) : Dev :=
  if !d.canBuild then d
  else match firstBy RecReq.order d.jrn.reqs with
    | none => d
    | some r =>
      let d := d.onJrn fun j => { j with reqs := j.reqs.erase r }
      if d.csw 2 = 0xFFFFFFFD then d.lastSeq
      else match r.ticket with
        | .fault no =>
          let seq := d.csw 2 + 1
          let d := d.build r
          match d.flt.find? (·.no == no) with
          | some e => d.faultEvent e seq
          | none => d
        | _ => d.build r

/-- A record of a step or of the device still waits for its place (R360). -/
def Dev.outstanding (d : Dev) (handle : Nat) : Bool :=
  d.jrn.reqs.any (·.ticket == .step handle) || (d.jrn.held.map (·.ticket)) == some (.step handle) ||
    d.jrn.larder.any (·.ticket == .step handle)

/-! ### Batch, staging and acknowledgement (R369–R371, R427–R429) -/

/-- The staged records, re-taken from the cursor: up to 64, stopping at a block under a relocation pass (R369, R428). -/
def Dev.stage (d : Dev) : Dev :=
  let stop (r : Nat × Nat × Bytes) : Bool :=
    ((d.jrn.pass.map fun p => p.dev == posDev r.1 && p.block == blockOf (posAddr r.1)).getD false) ||
      (d.nd (posDev r.1)).failed
  let l := (d.fromCursor.takeWhile fun r => !stop r).take 64
  (d.onJrn fun j => { j with staged := l.map fun r => (r.1, r.2.2) }).setFld F.HOST_JRN_STAGED_STAGED l.length

/-- The records of a page at the cursor proved unreadable (R369): the page leaves the read order, the cursor passes it, one
CHECKPOINT with READ_LOSS names them, CS_LOSS counts them. Log 94 DEDUCED. -/
def Dev.readLoss (d : Dev) : Dev :=
  match d.fromCursor.head? with
  | none => d
  | some r =>
    let n := posDev r.1
    let a := posAddr r.1
    match d.page? n a with
    | none =>
      -- a page still open on a device that failed: what its COMMIT pages hold of it cannot be read
      match (d.nd n).opens.find? (·.addr == a) with
      | none => d
      | some o =>
        let rest := d.fromCursor.filter fun x => !(posDev x.1 == n && posAddr x.1 == a)
        let d := (d.onNd n fun x => { x with opens := x.opens.filter (·.addr != a) }).freeSlots o.seqs
        let d := (d.setCursor rest).setCs 0x0A (min 0xFFFFFFFF (d.csw 0x0A + o.seqs.length))
        d.post (checkpointReq 8 0 0 (o.seqs.headD 0) (o.seqs.getLastD 0) 0)
    | some p =>
      let rest := d.fromCursor.filter fun x => !(posDev x.1 == n && posAddr x.1 == a)
      let d := d.onNd n fun x => { x with pages := x.pages.map fun q => if q.addr == a then { q with torn := true } else q }
      let d := (d.setCursor rest).setCs 0x0A (min 0xFFFFFFFF (d.csw 0x0A + p.recs.length))
      (if (d.nd n).failed then d else d.bump F.MEM_ECC_UNCORR 3).post (checkpointReq 8 0 0 p.firstSeq (p.firstSeq + p.recs.length - 1) 0)

/-- A page-read result counted, and a block queued REFRESH (R372, R383). Log 96 DEDUCED. -/
def Dev.readResult (d : Dev) (n block : Nat) (r : PageRead) : Dev :=
  match r with
  | .good => d
  | .corrected => d.bump F.MEM_ECC_CORRECTED 1
  | .refresh =>
    (d.bump F.MEM_ECC_REFRESH 1).onJrn fun j =>
      { j with relocs := if j.relocs.any (fun x => x.2 == (n, block)) then j.relocs else j.relocs ++ [(1, n, block)] }
  | .torn => d

/-- JRNL_ACK (R370): the cursor past the first `count` records of the batch; none where it is refused. -/
def Dev.ack (d : Dev) (count last : Nat) : Option Dev :=
  if count ≥ 1 && count ≤ d.jrn.batch.length && (d.jrn.batch.getD (count - 1) (0, 0)).2 == last &&
      !d.jrn.batch.isEmpty then
    let done := (d.jrn.batch.take count).map (·.1)
    let rest := d.fromCursor.filter fun r => !done.contains r.1
    let d := (d.setCursor rest).onJrn fun j => { j with batch := [], staged := [] }
    some (((d.setFlag F.JRN_STAT_BATCH false).setFld F.HOST_JRN_STAGED_STAGED 0).stateWord)
  else none

/-! ### Compaction (R372, R373) -/

/-- A device whose tail block, or a full commit block all of whose targets stand as MAIN, may be erased. -/
def Dev.eraseWork (d : Dev) : Option (Nat × Nat) :=
  d.jDevs.findSome? fun n =>
    if (d.nd n).erasing.isSome || (d.nd n).prog.isSome || d.holdsUndurable n then none
    else if d.erasable n (d.tail n) then some (n, d.tail n)
    else
      let commits := (d.nd n).pages.filter (·.ptype == 2)
      let full := (commits.map fun p => blockOf p.addr).eraseDups.find? fun b =>
        decide ((commits.filter fun p => blockOf p.addr == b).length ≥ d.jPages || b != d.commitBlock n) &&
          (commits.filter fun p => blockOf p.addr == b).all fun p =>
            (d.nd n).pages.any fun q => q.ptype == 1 && q.pseq == p.pseq
      full.map fun b => (n, b)

/-- The unacknowledged records of a source page. -/
def Dev.unacked (d : Dev) (n : Nat) (p : NandPage) : List (Nat × Bytes) :=
  ((d.fromCursor.filter fun r => posDev r.1 == n && posAddr r.1 == p.addr).map fun r => (r.2.1, r.2.2))

/-- A relocated record: RELOCATED set and the CRC recomputed (R350, R372). -/
def relocatedBytes (b : Bytes) : Bytes :=
  let b := overlay b 1 (beBytes 1 (byteAt b 1 ||| 0x20))
  b.take 60 ++ beBytes 4 (crc32 (b.take 60))

/-- The next step of a relocation pass: copy a source page, or close the pass with its RELOCATED record (R353, R372). -/
def Dev.passStep (d : Dev) (p : Pass) : Dev :=
  if p.built then d
  else match (d.nd p.dev).pages.find? fun q => blockOf q.addr == p.block && decide (q.addr % 128 ≥ p.next) && d.readable q with
    | some q =>
      let l := d.unacked p.dev q
      let nxt (p : Pass) : Pass := { p with next := q.addr % 128 + 1 }
      match l with
      | [] => d.onJrn fun j => { j with pass := some (nxt p) }
      | (q0, _) :: _ =>
        match d.jDevs.find? fun n => (d.nd n).prog.isNone && (d.nd n).erasing.isNone && (d.nd n).opens.isEmpty &&
            (d.page? n (d.head n)).isNone with
        | none =>
          -- every head is taken by an open page: close the first, so that a head comes free
          match d.jDevs.find? fun n => !(d.nd n).opens.isEmpty && (d.nd n).prog.isNone with
          | some n => (d.onNd n fun x => { x with opens := x.opens.map fun o => { o with closed := true } }).pump
          | none => d
        | some n =>
          let ps := d.csw 6 + 1
          let page : NandPage := {
            addr := d.head n, ptype := 3, pseq := ps, firstSeq := q0, target := 0,
            recs := l.map fun r => relocatedBytes r.2 }
          let last := (l.getLast?.map (·.1)).getD q0
          let d := (d.setCs 6 ps).launch n ⟨page, []⟩
          let d := d.memChains 5 (d.chainsRead p.dev)
          d.onJrn fun j => { j with pass := some { nxt p with
            pseqFirst := if p.count == 0 then ps else p.pseqFirst, pseqLast := ps,
            firstSeq := if p.count == 0 then q0 else min p.firstSeq q0, lastSeq := max p.lastSeq last,
            count := p.count + l.length } }
    | none =>
      let d := d.onJrn fun j => { j with pass := some { p with built := true } }
      d.post {
        ty := 9, ticket := .reloc,
        payload := beBytes 1 p.cause ++ beBytes 1 p.dev ++ beBytes 4 (posOf p.dev (p.block * 128) 0) ++
          beBytes 4 p.firstSeq ++ beBytes 4 p.lastSeq ++ beBytes 4 p.pseqFirst ++ beBytes 4 p.pseqLast ++ beBytes 2 p.count }

/-- One turn of compaction, in the order of R372: erase, keep an erased block ahead, relocation, patrol. -/
def Dev.compact (d : Dev) (r : PageRead) : Dev :=
  match d.eraseWork with
  | some (n, b) => d.launchErase n b
  | none => match d.jrn.pass with
    | some p => d.passStep p
    | none =>
      let ok (x : Nat × Nat × Nat) : Bool :=
        d.voids.length < 4 && !d.jrn.batch.any fun b => posDev b.1 == x.2.1 && blockOf (posAddr b.1) == x.2.2
      match d.jrn.relocs.find? ok with
      | some x =>
        let d := (d.setCs 8 (d.csw 6 + 1)).setFlag F.JRN_STAT_RELOCATING true
        d.onJrn fun j => { j with
          relocs := j.relocs.erase x, pass := some { cause := x.1, dev := x.2.1, block := x.2.2 }
          staged := if j.staged.any (fun s => posDev s.1 == x.2.1 && blockOf (posAddr s.1) == x.2.2) then [] else j.staged }
      | none => match d.fromCursor.head? with
        | none => d
        | some q =>
          let d := d.memChains 5 (if (d.nd (posDev q.1)).failed then [] else d.chainsRead (posDev q.1))
          if r == .torn || (d.nd (posDev q.1)).failed then d.readLoss else d.readResult (posDev q.1) (blockOf (posAddr q.1)) r

/-- An erase that passed (R372): the tail moves to the next block that holds pages, and a void range the tail has passed is
cleared (R373). -/
def Dev.erasePassed (d : Dev) (n b : Nat) : Dev :=
  let d := (d.onNd n fun x => { x with erasing := none, pages := x.pages.filter fun p => blockOf p.addr != b }).busyBit n
  let d := d.moveTail n b
  let used (v : Nat × Nat) : Bool := d.jrn.devs.any fun x => x.pages.any fun p => p.ptype == 3 && v.1 ≤ p.pseq && p.pseq ≤ v.2
  let d := d.forEach (List.range 4) fun d k =>
    if d.csw (0x18 + 2 * k) != 0 && !used (d.csw (0x17 + 2 * k), d.csw (0x18 + 2 * k)) then
      (d.setCs (0x17 + 2 * k) 0).setCs (0x18 + 2 * k) 0 else d
  (d.setFld F.JRN_STAT_VOIDS d.voids.length).pump

/-- An erase that failed (R374): the block's marker byte is programmed, the block is bad, and NAND_FAIL is latched. -/
def Dev.eraseFailed (d : Dev) (n b : Nat) : Dev :=
  let d := (d.onNd n fun x => { x with erasing := none, marked := if x.marked.contains b then x.marked else x.marked ++ [b] }).meetBad n b
  (((d.busyBit n).moveTail n b).nandFault n 0xD8 []).pump

/-- A device failed (R374): its records not yet durable go to other devices; no device left is the FAILED state. -/
def Dev.failDevice (d : Dev) (n : Nat) : Dev :=
  let seqs := (d.jrn.larder.filter fun r => r.dev == some n && !r.durable).map (·.seq)
  let cut := ((d.nd n).prog.map fun p => p.page.ptype == 3).getD false
  let d := (d.onNd n fun x => { x with failed := true, prog := none, erasing := none }).releaseOpens n
  let d := if cut then d.cutPass else d
  let d := (d.setFld F.JRN_STAT_DEV_FAILED (d.fld F.JRN_STAT_DEV_FAILED ||| 2 ^ n)).busyBit n
  let last := d.jDevs.isEmpty
  let d := d.nandFault n 0x0F (if last then [] else seqs)
  if last then (d.setFld F.JRN_STAT_STATE 4).checkFull else d.pump

/-! ### The power-loss flush (R363) -/

/-- The page a device flushes: the closed page awaiting its program, else the open page that holds records not durable. -/
def Dev.flushPage (d : Dev) (n : Nat) : Option OpenPage :=
  (d.nd n).opens.find? fun o => o.seqs.any fun q => d.jrn.larder.any fun r => r.seq == q && !r.durable

/-- One device flushed: a program in flight ends first; then its page is programmed as MAIN by the flush's own chains, or is torn. -/
def Dev.flushDev (ok : Bool) (d : Dev) (n : Nat) : Dev :=
  let d := match (d.nd n).prog with
    | some p => if ok then d.progPassed n p else
        d.onNd n fun x => { x with prog := none, pages := insertPage { p.page with torn := true } x.pages }
    | none => d
  match d.flushPage n with
  | none => d
  | some o =>
    let p : Prog := ⟨d.imageOf o 1 o.addr 0, o.seqs⟩
    let d := d.memChains 1 (chainsProgram n p.page.recs.length)
    if ok then d.progPassed n p
    else d.onNd n fun x => { x with opens := x.opens.filter (·.addr != o.addr), pages := insertPage { p.page with torn := true } x.pages }

/-- Steps 3–6 of R363: the held record and the waiting requests are lost, each device's records programmed, the counter
store written; FLUSH_OK only where every program passed. -/
def Dev.flush (d : Dev) (ok : BitVec 4) : Dev :=
  if !d.journalling then d
  else
    let d := d.onJrn fun j => { j with held := none, reqs := [], batch := [], staged := [] }
    let all := d.jDevs.all fun n => (ok.getLsbD n) || ((d.flushPage n).isNone && (d.nd n).prog.isNone)
    let d := d.forEach d.jDevs fun d n => d.flushDev (ok.getLsbD n) n
    let d := (d.setFlag F.JRN_STAT_BATCH false).stateWord
    d.setCs 7 (d.csw 7 / 2 * 2 + b2n all)

/-! ### Recovery (R366–R368) -/

/-- The geometry CRC of a JOURNAL section (R368). -/
def geomCrc (c : Bytes) : Nat :=
  crc32 (slice c 1 2 ++ slice c 4 16 ++ [if byteAt c 23 = 0 then 4#8 else c.getD 23 0#8])

/-- READ ID checked before anything is written (R366): the silent devices; none for a wrong ID. -/
def checkIds (c : Bytes) (ids : List (Fin 65536)) : Option (List Nat) :=
  (List.range 4).foldl (fun a n => match a with
    | none => none
    | some l =>
      if !bit (byteAt c 1) n then some l
      else
        let id := (ids.getD n 0).val
        let want := numAt c (12 + 2 * n) 2
        if id = 0 || id = 0xFFFF then some (l ++ [n]) else if want != 0 && want != id then none else some l) (some [])

/-- The Cellar formatted (R368): heads, tails and commit blocks of the devices at their first blocks; CS_LAST_SEQ kept. -/
def Dev.format (d : Dev) : Dev :=
  let d := ((d.setCs 0 0x43454C31).setCs 1 (geomCrc d.jrn.cfg)).setCs 8 0
  let d := ((d.setCs 4 0).setCs 5 0).setCs 7 4
  let d := d.forEach [0x17, 0x18, 0x19, 0x1A, 0x1B, 0x1C, 0x1D, 0x1E] fun d k => d.setCs k 0
  d.forEach (List.range 4) fun d n =>
    let d := d.onNd n fun x => { x with pages := if d.jPresent n then [] else x.pages, bad := if d.jPresent n then [] else x.bad }
    if d.jPresent n then
      let first := d.goodBlock n ((d.nd n).marked.length + 1) 0
      let d := Dev.meetOn n first ((d.nd n).marked.length + 1) d 0
      let last := ((List.range ((d.nd n).marked.length + 1)).map fun k => d.jBlocks n - 1 - k).find? fun b => !d.badBlock n b
      ((d.setCs (0x0B + n) (posOf n (first * 128) 0)).setCs (0x0F + n) (posOf n (first * 128) 0)).setCs (0x13 + n)
        (posOf n ((last.getD (d.jBlocks n - 1)) * 128) 0)
    else ((d.setCs (0x0B + n) 0).setCs (0x0F + n) 0).setCs (0x13 + n) 0

/-- The head found again: past every page programmed after CS_HEAD moved; `fuel` bounds the walk. -/
def Dev.walkHead (d : Dev) (n : Nat) : Nat → Nat → Nat
  | 0, a => a
  | f + 1, a => if (d.page? n a).isSome then d.walkHead n f (d.nextPage n a) else a

/-- One device recovered: torn pages leave the read order, the newest good COMMIT image whose target is no accepted MAIN page
is programmed at the head, and a cut erase is done again. -/
def Dev.recoverDev (d : Dev) (n : Nat) : Dev :=
  let d := d.onNd n fun x => { x with opens := [], prog := none, erasing := none }
  let p := d.walkHead n ((d.nd n).pages.length + 1) (d.head n)
  let commits := (d.nd n).pages.filter fun q => q.ptype == 2 && !q.torn && blockOf q.addr == d.commitBlock n
  let newest := commits.getLast?
  match newest with
  | some c =>
    if (d.nd n).pages.any fun q => q.ptype == 1 && !q.torn && posOf n q.addr 0 == c.target then
      d.setHead n p
    else
      let ps := d.csw 6 + 1
      let d := (d.setCs 6 ps).onNd n fun x => { x with pages := insertPage { c with addr := p, ptype := 1, pseq := ps, target := 0 } x.pages }
      d.setHead n (d.nextPage n p)
  | none => d.setHead n p

/-- The runs of sequences in (durable, last] found in no accepted page; `fuel` bounds the walk. -/
def missingRuns (found : List Nat) : Nat → Nat → Nat → List (Nat × Nat)
  | 0, _, _ => []
  | f + 1, q, last =>
    if q > last then []
    else if found.contains q then missingRuns found f (q + 1) last
    else match missingRuns found f (q + 1) last with
      | (a, b) :: t => if a = q + 1 then (q, b) :: t else (q, q) :: (a, b) :: t
      | [] => [(q, q)]

/-- Cellar recovery (R366): the code of a refusal, or the device with the CHECKPOINTs built. `reason` is BOOT_REASON. Log 95 DEDUCED. -/
def Dev.recover (d : Dev) (ids : List (Fin 65536)) (reason : Nat) : Except Nat Dev :=
  match checkIds d.jrn.cfg ids with
  | none => .error Code.CC_JOURNAL_GEOMETRY
  | some silent =>
    let fresh := d.csw 0 != 0x43454C31
    let same := d.csw 1 == geomCrc d.jrn.cfg
    let reformat := bit (byteAt d.jrn.cfg 0) 0 && numAt d.jrn.cfg 28 4 == d.csw 1 && bit (d.csw 7) 2
    if !fresh && !same && !reformat then .error Code.CC_JOURNAL_GEOMETRY
    else
      let d := d.onJrn fun j => { j with
        devs := j.devs.map fun x => { x with failed := false, opens := [], prog := none }
        larder := [], held := none, reqs := [], batch := [], staged := [], relocs := [], pass := none, lost := [], rotation := 0 }
      let d := d.forEach ((List.range 4).filter d.jPresent) fun d n => d.memWork 4 (chainReadId (n + 1))
      let d := d.forEach silent fun d n => d.onNd n fun x => { x with failed := true }
      let format := fresh || !same
      let flushOk := bit (d.csw 7) 0
      let d := if format then d.format else d.forEach d.jDevs fun d n => (d.memChains 4 (d.chainsRead n)).recoverDev n
      let d := d.setFlag F.JRN_STAT_FLUSH_INCOMPLETE (!flushOk)
      let relocPseqs := d.jrn.devs.flatMap fun x => (x.pages.filter fun p => p.ptype == 3).map (·.pseq)
      let d := if d.csw 8 != 0 then
          let top := relocPseqs.foldl max 0
          let d := if top ≥ d.csw 8 then
              match (List.range 4).find? fun k => d.csw (0x18 + 2 * k) == 0 with
              | some k => (d.setCs (0x17 + 2 * k) (d.csw 8)).setCs (0x18 + 2 * k) top
              | none => d
            else d
          d.setCs 8 0
        else d
      let found := d.readOrder
      let last := d.csw 2
      let gaps := if format then [] else missingRuns (found.map (·.2.1)) (last - d.csw 3 + 1) (d.csw 3 + 1) last
      let topRec := found.foldl (fun a r => match a with
        | some (x : Nat × Nat × Bytes) => if r.2.1 > x.2.1 then some r else some x
        | none => some r) none
      let d := d.onJrn fun j => { j with
        chain := (topRec.map fun r => slice r.2.2 52 8).getD (zeros 8), chainSeq := (topRec.map (·.2.1)).getD 0 }
      let d := (d.setCs 3 last).setCs 7 (d.csw 7 / 2 * 2)
      -- the cursor: the first page after CS_CURSOR in read order; with nothing unacknowledged, records above the old durable
      let d := if d.csw 5 != 0 then
          (if d.fromCursor.isEmpty then d.setCursor (found.filter fun r => r.2.1 ≥ d.csw 5) else d)
        else d.setCursor (found.filter fun r => r.2.1 > last)
      let d := d.setFld F.JRN_STAT_STATE (if d.jDevs.isEmpty then 4 else if d.spent then 3 else 2)
      let d := (d.setFld F.JRN_STAT_DEV_PRESENT (byteAt d.jrn.cfg 1)).setFld F.JRN_STAT_DEV_FAILED
        (silent.foldl (fun a n => a + 2 ^ n) 0)
      let d := d.setFld F.JRN_STAT_VOIDS d.voids.length
      let d := if d.spent then (d.onJrn fun j => { j with full := true }).setFld F.FLT_STAT_JFULL 1
        else d.onJrn fun j => { j with full := false }
      let g0 := gaps.headD (0, 0)
      let d := d.post (checkpointReq (1 + 2 * b2n (!gaps.isEmpty) + 16 * b2n format) g0.1 g0.2 0 0 (reason % 256))
      let d := (gaps.drop 1).foldl (fun d g => d.post (checkpointReq 2 g.1 g.2 0 0 0)) d
      let d := d.forEach silent fun d n => d.nandFault n 0x9F []
      .ok d.stateWord

end Sys2Proof.Machine
end

