-- ==== Sys2Proof/Machine/Timers.lean ====
section
/-!
DEFINITION. The timers and snapshots (R458–R466): counts and their turns, compares, captures, and the time snapshot.
-/

namespace Sys2Proof.Machine

open Sys2Proof

/-- The capture fields of a timer: source, NEW, PEND, DIR and OVF of capture `k`. -/
def capSrc (n k : Nat) : Fld := if k = 0 then F.TMRn_CAPCFG_SRC0 n else F.TMRn_CAPCFG_SRC1 n
/-- See `capSrc`. -/
def capNew (n k : Nat) : Fld := if k = 0 then F.TMRn_CAPSTAT_NEW0 n else F.TMRn_CAPSTAT_NEW1 n
/-- See `capSrc`. -/
def capPend (n k : Nat) : Fld := if k = 0 then F.TMRn_CAPSTAT_PEND0 n else F.TMRn_CAPSTAT_PEND1 n
/-- See `capSrc`. -/
def capDir (n k : Nat) : Fld := if k = 0 then F.TMRn_CAPSTAT_DIR0 n else F.TMRn_CAPSTAT_DIR1 n
/-- See `capSrc`. -/
def capOvf (n k : Nat) : Fld := if k = 0 then F.TMRn_CAPSTAT_OVF0 n else F.TMRn_CAPSTAT_OVF1 n
/-- The register of capture `k` of timer `n` (R475). -/
def capReg (n k : Nat) : Nat := 0xD0B + 0x20 * n + k

/-- A capture taken (R464): an unread count that it overwrites is counted. With a read in the same cycle, the count goes through
the pending stage, after the read has cleared NEW. -/
def Dev.capture (d : Dev) (n k : Nat) (coincident : Bool) : Dev :=
  let d := if d.flag (capNew n k) && !coincident then d.bump (capOvf n k) 1 else d
  let d := d.setReg (capReg n k) (d.reg (R.TMRn_COUNT n))
  let d := (d.setFlag (capNew n k) true).setFld (capDir n k) (d.fld (F.TMRn_STAT_DIR n))
  if coincident then d.setFlag (capPend n k) true else d

/-- A read of a capture clears NEW and PEND (R464). -/
def Dev.captureRead (d : Dev) (n k : Nat) : Dev := (d.setFlag (capNew n k) false).setFlag (capPend n k) false

/-- An internal event of R463 occurs: every capture that names it takes its timer's count. Log 100 DEDUCED. -/
def Dev.captureEvent (d : Dev) (src : Nat) : Dev :=
  d.forEach (List.range 16) fun d x => if d.fld (capSrc (x / 2) (x % 2)) = src then d.capture (x / 2) (x % 2) false else d

/-- Direction code of compare `k` (R461). -/
def Dev.cmpDirs (d : Dev) (n k : Nat) : Nat := nbits (d.fld (F.TMRn_CMPCFG_DIRS n)) (2 * k + 1) (2 * k)

/-- Compare `k` fires: CMPk, LATEk where it fires at once, and the capture event it serves as (R461, R462). -/
def Dev.cmpFire (d : Dev) (n k : Nat) (late : Bool) : Dev :=
  let d := d.setFlag ⟨R.TMRn_STAT n, k, k⟩ true
  let d := if late then d.setFlag ⟨R.TMRn_STAT n, 4 + k, 4 + k⟩ true else d
  d.captureEvent (0x20 + 4 * n + k)

/-- The count after one tick and whether it moved up (R458): above RELOAD it counts down; it turns at RELOAD and at 0. Log 99 DEDUCED. -/
def nextCount (count reload : Nat) (down : Bool) : Nat × Bool :=
  if count > reload then (count - 1, false)
  else if down then (if count = 0 then (min 1 reload, true) else (count - 1, false))
  else if count = reload then (count - 1, false) else (count + 1, true)

/-- One tick of an enabled timer's clock (R458, R461). Log 60 DEDUCED, 99 DEDUCED. -/
def Dev.timerTick (d : Dev) (n : Nat) : Dev :=
  if !d.flag (F.TMRn_CTL_ENABLE n) then d
  else
    let reload := (d.reg (R.TMRn_RELOAD n)).toNat
    let (c, up) := nextCount (d.reg (R.TMRn_COUNT n)).toNat reload (d.flag (F.TMRn_STAT_DIR n))
    let d := d.setReg (R.TMRn_COUNT n) (BitVec.ofNat 32 c)
    -- at 0 the timer counts up again, at RELOAD down
    let d := d.setFlag (F.TMRn_STAT_DIR n) (if c = 0 then false else if c ≥ reload then true else !up)
    d.forEach [0, 1, 2, 3] fun d k =>
      if (d.reg (R.TMRn_CMPk n k)).toNat = c && bit (d.cmpDirs n k) (if up then 0 else 1) then d.cmpFire n k false else d

/-- New period values in force while the timer stands mid-way (R462): a compare already passed fires at once. -/
def Dev.lateCompares (d : Dev) (n : Nat) : Dev :=
  let c := (d.reg (R.TMRn_COUNT n)).toNat
  let down := d.flag (F.TMRn_STAT_DIR n)
  d.forEach [0, 1, 2, 3] fun d k =>
    let v := (d.reg (R.TMRn_CMPk n k)).toNat
    let sel := bit (d.cmpDirs n k) (if down then 1 else 0)
    if sel && (if down then decide (v > c) else decide (v < c)) then d.cmpFire n k true else d

/-- CLEAR (R460). -/
def Dev.timerClear (d : Dev) (n : Nat) : Dev := (d.setReg (R.TMRn_COUNT n) 0#32).setFlag (F.TMRn_STAT_DIR n) false

/-- Every timer as after a boot or wake (R460): counts at 0 counting up, flags, captures and snapshots cleared. -/
def Dev.timersRestart (d : Dev) : Dev :=
  d.forEach (List.range 8) fun d n =>
    let d := (d.timerClear n).setReg (R.TMRn_STAT n) (BitVec.ofNat 32 (b2n (d.flag (F.TMRn_CTL_ENABLE n)) * 2 ^ 30))
    ((((d.setReg (capReg n 0) 0#32).setReg (capReg n 1) 0#32).setReg (R.TMRn_CAPSTAT n) 0#32)).setReg (R.TMRn_SNAPCNT n) 0#32

/-- ENABLE of a timer written, its checks passed (R460). -/
def Dev.timerRun (d : Dev) (n : Nat) (on : Bool) : Dev :=
  (d.setFlag (F.TMRn_CTL_ENABLE n) on).setFlag (F.TMRn_STAT_RUNNING n) on

/-- A capture source code that R463 lists. -/
def capSrcOk (s : Nat) : Bool := s == 0 || (1 ≤ s && s ≤ 0x18) || (0x20 ≤ s && s ≤ 0x3F) || (0x40 ≤ s && s ≤ 0x45)

/-- The atomic snapshot (R466). -/
def Dev.timeSnap (d : Dev) : Dev :=
  let d := (d.setReg R.SNAP_TIME_LO (BitVec.ofNat 32 d.time)).setReg R.SNAP_TIME_HI (BitVec.ofNat 32 (d.time / 2 ^ 32))
  let d := (d.setReg R.SNAP_WALL_LO (BitVec.ofNat 32 d.wall)).setReg R.SNAP_WALL_HI (BitVec.ofNat 32 (d.wall / 2 ^ 32))
  let d := d.forEach (List.range 8) fun d n => d.setReg (R.TMRn_SNAPCNT n) (d.reg (R.TMRn_COUNT n))
  d.setFld F.TIME_SNAP_COUNT (d.fld F.TIME_SNAP_COUNT + 1)

end Sys2Proof.Machine
end

