-- ==== Sys2Proof/Machine/Gov.lean ====
section
/-!
DEFINITION. The regulatory governor and the coexistence wires (Chapter 8): the region record, the limits in force, permits,
channels, occupations, duty, and the gating of carriers.
-/

namespace Sys2Proof.Machine

open Sys2Proof

/-! ### Region records (R246, R247) -/

/-- The 192 bytes of a record of R247, from its fields in the order of R246 up to SHAPE, the HF fields, and CHANNELS. -/
def regionBytes (region count flags low high pcond : Nat) (eirp gain : Int) (dwell off win occ shape : Nat)
    (hfLimit hfFactor : Int) (total dist : Nat) (chans : List Nat) : Bytes :=
  beBytes 1 region ++ [0x01#8] ++ beBytes 1 count ++ beBytes 1 flags ++ beBytes 2 low ++ beBytes 2 high ++
  beBytes 2 pcond ++ beBytes 2 (ofInt 16 eirp) ++ beBytes 2 (ofInt 16 gain) ++ beBytes 2 dwell ++ beBytes 2 off ++
  beBytes 2 win ++ beBytes 2 occ ++ [0x07#8, 0x0F#8, 128#8] ++ beBytes 1 shape ++ beBytes 2 (ofInt 16 hfLimit) ++
  beBytes 2 (ofInt 16 hfFactor) ++ beBytes 2 total ++ beBytes 1 dist ++ zeros 31 ++
  (chans.flatMap (beBytes 2 ·)) ++ List.replicate (128 - 2 * chans.length) 0xFF#8

/-- The ETSI record. -/
def regionE : Bytes :=
  regionBytes 0x01 4 0x00 2048 2208 160 351 20 4000 100 0 0 1 420 100 1600 10 [2056, 2104, 2152, 2200]
/-- The FCC and ISED record. -/
def regionN : Bytes :=
  regionBytes 0x02 50 0x03 5020 6980 160 360 60 400 0 20000 400 2 325 (-100) 1600 30
    ((List.range 50).map fun k => 5020 + 40 * k)
/-- The record of a REGION code (R247). -/
def regionOf (code : Nat) : Option Bytes := if code = 1 then some regionE else if code = 2 then some regionN else none

/-- The region record in force is blank (R523). -/
def regionBlank (r : Bytes) : Bool := byteAt r 0 == 0
/-- The region record in force is blank. Log 46 DEDUCED. -/
def Dev.blank (d : Dev) : Bool := regionBlank d.gov.region
/-- CH_COUNT. -/
def Dev.chCount (d : Dev) : Nat := byteAt d.gov.region 2
/-- HOPPING. -/
def Dev.hopping (d : Dev) : Bool := bit (byteAt d.gov.region 3) 0
/-- OCC. -/
def Dev.occRule (d : Dev) : Bool := bit (byteAt d.gov.region 3) 1
/-- FREQ_CODE of a channel index (R185). -/
def Dev.chanFreq (d : Dev) (k : Nat) : Nat := numAt d.gov.region (64 + 2 * k) 2

/-- The limits of a record (R249), or those a blank one leaves (R523). Of the limits R523 does not name (link combinations
and dwell) none is held, since no UHF carrier is emitted. The values 0 that R523 reads are ceilings that REGULATORY_TIGHTEN lowers.
Log 46 DEDUCED, 47 DEDUCED. -/
def fusedLimits (r : Bytes) : Limits :=
  if regionBlank r then { tari := 7, enc := 15, blf := 128, hfTotal := 160 }
  else {
    pcond := numAt r 8 2
    eirp := sint16At r 10
    gainMin := sint16At r 12
    dwellMax := numAt r 14 2
    offMin := numAt r 16 2
    occMax := numAt r 20 2
    tari := byteAt r 22
    enc := byteAt r 23
    blf := byteAt r 24
    hfLimit := sint16At r 26
    hfFactor := sint16At r 28
    hfTotal := numAt r 30 2
    duty := 300
    chmask := 2 ^ byteAt r 2 - 1 }

/-- A REGULATORY_TIGHTEN body with a field looser than the fused limit (R250). -/
def tightenLooser (l : Limits) (b : Bytes) : Bool :=
  (numAt b 0 2 != 0xFFFF && decide (numAt b 0 2 > l.pcond)) ||
  (numAt b 2 2 != 0x7FFF && decide (sint16At b 2 > l.eirp)) ||
  (numAt b 4 2 != 0x8000 && decide (sint16At b 4 < l.gainMin)) ||
  (numAt b 6 2 != 0xFFFF && decide (numAt b 6 2 > l.dwellMax)) ||
  (numAt b 8 2 != 0xFFFF && decide (numAt b 8 2 < l.offMin)) ||
  (numAt b 10 2 != 0xFFFF && decide (numAt b 10 2 > l.occMax)) ||
  (byteAt b 12 != 0x07 && byteAt b 12 &&& l.tari != byteAt b 12) ||
  (byteAt b 13 != 0x0F && byteAt b 13 &&& l.enc != byteAt b 13) ||
  (byteAt b 14 != 0xFF && decide (byteAt b 14 > l.blf)) ||
  (numAt b 16 2 != 0x7FFF && decide (sint16At b 16 > l.hfLimit)) ||
  (numAt b 18 2 != 0x8000 && decide (sint16At b 18 < l.hfFactor)) ||
  (numAt b 20 2 != 0xFFFF && decide (numAt b 20 2 > l.hfTotal)) ||
  (numAt b 22 2 != 0xFFFF && decide (numAt b 22 2 > l.duty)) ||
  (numAt b 24 8 != 2 ^ 64 - 1 && numAt b 24 8 &&& l.chmask != numAt b 24 8)

/-- The limits tightened by a REGULATORY_TIGHTEN body (R249, R250). -/
def tighten (l : Limits) (b : Bytes) : Limits where
  pcond := if numAt b 0 2 = 0xFFFF then l.pcond else min l.pcond (numAt b 0 2)
  eirp := if numAt b 2 2 = 0x7FFF then l.eirp else min l.eirp (sint16At b 2)
  gainMin := if numAt b 4 2 = 0x8000 then l.gainMin else max l.gainMin (sint16At b 4)
  dwellMax := if numAt b 6 2 = 0xFFFF then l.dwellMax else min l.dwellMax (numAt b 6 2)
  offMin := if numAt b 8 2 = 0xFFFF then l.offMin else max l.offMin (numAt b 8 2)
  occMax := if numAt b 10 2 = 0xFFFF then l.occMax else min l.occMax (numAt b 10 2)
  tari := l.tari &&& byteAt b 12
  enc := l.enc &&& byteAt b 13
  blf := if byteAt b 14 = 0xFF then l.blf else min l.blf (byteAt b 14)
  hfLimit := if numAt b 16 2 = 0x7FFF then l.hfLimit else min l.hfLimit (sint16At b 16)
  hfFactor := if numAt b 18 2 = 0x8000 then l.hfFactor else max l.hfFactor (sint16At b 18)
  hfTotal := if numAt b 20 2 = 0xFFFF then l.hfTotal else min l.hfTotal (numAt b 20 2)
  duty := if numAt b 22 2 = 0xFFFF then l.duty else min l.duty (numAt b 22 2)
  chmask := l.chmask &&& numAt b 24 8

/-- The GOV limit registers at their ceilings (R250, R251, R268, R523). -/
def Dev.restoreLimits (d : Dev) : Dev :=
  let l := d.gov.ceil
  let d := (d.setFld F.GOV_UHF_PCOND l.pcond).setFld F.GOV_UHF_EIRP (ofInt 16 l.eirp)
  let d := (d.setFld F.GOV_TIME_DWELL_MAX l.dwellMax).setFld F.GOV_TIME_OFF_MIN l.offMin
  let d := (d.setFld F.GOV_HF_HF_LIMIT (ofInt 16 l.hfLimit)).setFld F.GOV_HF_HF_TOTAL l.hfTotal
  let d := (d.setFld F.GOV_CHMASK_HI_MASK (l.chmask / 2 ^ 32)).setFld F.GOV_CHMASK_LO_MASK (l.chmask % 2 ^ 32)
  d.setFld F.GOV_CTL_DUTY_MAX l.duty

/-- Region and ceilings put in force: GOV_REGION, GOV_ASSUME and every limit register. -/
def Dev.setCeilings (d : Dev) (region : Bytes) (l : Limits) : Dev :=
  let d := { d with gov := { d.gov with region := region, ceil := l } }
  let d := ((d.setFld F.GOV_REGION_REGION (byteAt region 0)).setFld F.GOV_REGION_CH_COUNT (byteAt region 2)).setFld
    F.GOV_REGION_HOPPING (byteAt region 3 % 2)
  let d := d.setFld F.GOV_REGION_OCC (byteAt region 3 / 2 % 2)
  let d := (d.setFld F.GOV_ASSUME_GAIN_MIN (ofInt 16 l.gainMin)).setFld F.GOV_ASSUME_HF_FACTOR_MIN
    (ofInt 16 l.hfFactor)
  d.restoreLimits

/-- The limits in force (R249): the ceilings with the register values. -/
def Dev.limits (d : Dev) : Limits :=
  { d.gov.ceil with
    pcond := d.fld F.GOV_UHF_PCOND
    eirp := toSigned 16 (d.fld F.GOV_UHF_EIRP)
    dwellMax := d.fld F.GOV_TIME_DWELL_MAX
    offMin := d.fld F.GOV_TIME_OFF_MIN
    hfLimit := toSigned 16 (d.fld F.GOV_HF_HF_LIMIT)
    hfTotal := d.fld F.GOV_HF_HF_TOTAL
    duty := d.fld F.GOV_CTL_DUTY_MAX
    chmask := d.fld F.GOV_CHMASK_HI_MASK * 2 ^ 32 + d.fld F.GOV_CHMASK_LO_MASK }

/-- A GOV register write with a field looser than its ceiling (R251), and the fields it writes. -/
def Dev.govLooser (d : Dev) (a : Nat) (v : Word) : Bool :=
  let l := d.gov.ceil
  if a = R.GOV_UHF then
    decide (bitsOf v 31 23 > l.pcond) || decide (toSigned 16 (bitsOf v 15 0) > l.eirp)
  else if a = R.GOV_TIME then decide (bitsOf v 31 16 > l.dwellMax) || decide (bitsOf v 15 0 < l.offMin)
  else if a = R.GOV_HF then
    decide (toSigned 16 (bitsOf v 31 16) > l.hfLimit) || decide (bitsOf v 15 0 > l.hfTotal)
  else if a = R.GOV_CHMASK_HI then v.toNat &&& (l.chmask / 2 ^ 32) != v.toNat
  else if a = R.GOV_CHMASK_LO then v.toNat &&& (l.chmask % 2 ^ 32) != v.toNat
  else if a = R.GOV_CTL then decide (bitsOf v 9 0 > l.duty)
  else false

/-! ### Permits (R253, R260) -/

/-- An HF port's permit in 0.1 dBm (R260, R523). -/
def Dev.hfPermit (d : Dev) (port : Nat) : Int :=
  if d.blank then 100
  else
    let l := d.limits
    min 300 (300 + l.hfLimit - max (profFactor (d.hfProfile port)) l.hfFactor)

/-- The largest number of mW at or below a power in 0.1 dBm: the permit is rounded down (R260). Log 11 DEDUCED. -/
def mwOf (x : Int) : Nat :=
  if x < 0 then 0
  else
    let lim := 10 ^ x.toNat
    (List.range 11).foldl (fun a k => let b := a + 2 ^ (10 - k); if b ^ 100 ≤ lim then b else a) 0

/-- HF_TOTAL in force, mW. Log 11 DEDUCED. -/
def Dev.hfTotal (d : Dev) : Nat := d.limits.hfTotal

/-- ANT_GAIN of a UHF port's profile against GAIN_MIN, 0.1 dBi. -/
def Dev.uhfG (d : Dev) (port : Nat) : Int := max (profGain (d.uhfProfile port)) d.limits.gainMin

/-- A UHF chain's permit in steps of 0.25 dB above −10.00 dBm (R253): `pair` holds the partner's port in a steered pair. The
record in force being blank, no carrier is permitted (R523). Log 47 DEDUCED. -/
def Dev.uhfPermit (d : Dev) (port : Nat) (pair : Option Nat) : Int :=
  if d.blank then -1
  else
    let l := d.limits
    let route : Int := if profRoute (d.uhfProfile port) = 0 then 2100 else 3000
    let pc : Int := -1000 + 25 * (l.pcond : Int)
    let eirp : Int := match pair with
      | none => 10 * (l.eirp - d.uhfG port)
      | some q => 10 * (l.eirp - max (d.uhfG port) (d.uhfG q)) - 600
    ((min (min pc eirp) route) + 1000).fdiv 25

/-! ### Channels, dwell, occupancy, duty (R255–R259) -/

/-- The indices the channel mask in force allows. -/
def Dev.maskedChans (d : Dev) : List Nat := (List.range d.chCount).filter fun k => bit d.limits.chmask k

/-- Carrier-on time of a span within the last `w` µs. -/
def Span.within (s : Span) (now w : Nat) : Nat := (s.off.getD now) - max s.on (now - w)

/-- Carrier-on time on a channel, summed over both chains, in the occupancy window (R257). -/
def Dev.occUsed (d : Dev) (c : Nat) : Nat :=
  ((d.gov.spans.filter (·.chan == c)).map fun s => s.within d.time (numAt d.gov.region 18 2 * 1000)).sum

/-- The occupation of a chain. -/
def Dev.occ (d : Dev) (n : Nat) : Option Occ := d.gov.occ.getD n none

/-- Dwell of a chain's occupation, µs. -/
def Dev.dwell (d : Dev) (n : Nat) : Nat := ((d.occ n).map fun o => d.time - o.start).getD 0

/-- The instant the carrier last went off on a channel; none while it is on. -/
def Dev.offSince (d : Dev) (c : Nat) : Option Nat :=
  (d.gov.spans.filter (·.chan == c)).foldl (fun a s => match a, s.off with
    | some x, some y => some (max x y)
    | _, _ => none) (some 0)

/-- A channel that a chain may take (R255–R257): masked in, not occupied by the other chain, where that is no partner of a steered pair, which takes one channel; on a new occupation OFF_MIN of
carrier-off has passed and the occupancy window grants a full DWELL_MAX; on its own occupation the dwell is not spent. -/
def Dev.chanOk (d : Dev) (n c : Nat) : Bool :=
  let l := d.limits
  let mine := (d.occ n).map (·.chan) == some c
  bit l.chmask c && decide (c < d.chCount) && ((d.uhfc n).partner.isSome || (d.occ (1 - n)).map (·.chan) != some c) &&
  (if mine then decide (d.dwell n < l.dwellMax * 1000)
   else match d.offSince c with
    | none => false
    | some t => t == 0 || decide (d.time ≥ t + l.offMin * 1000)) &&
  (!d.occRule || decide (d.occUsed c + (if mine then 0 else l.dwellMax * 1000) ≤ l.occMax * 1000))

/-- A permutation of the masked channels drawn from the DRBG (R255): the channels in the order of the bytes drawn.
Log 7 DESIGN CHOICE, 73 DEDUCED. -/
def Dev.drawPerm (d : Dev) : Dev :=
  let cs := d.maskedChans
  let (bs, d) := d.drbg cs.length
  let keyed := (cs.zip bs).map fun x => (x.2.toNat * 64 + x.1, x.1)
  let rec ins (x : Nat × Nat) : List (Nat × Nat) → List (Nat × Nat)
    | [] => [x]
    | y :: t => if x.1 ≤ y.1 then x :: y :: t else y :: ins x t
  { d with gov := { d.gov with perm := (keyed.foldr ins []).map (·.2), pos := 0 } }

/-- The permutation of a boot or wake (R255): none is held while the DRBG does not serve. Log 73 DEDUCED. -/
def Dev.firstPerm (d : Dev) : Dev :=
  if !d.hopping then { d with gov := { d.gov with perm := [], pos := 0 } }
  else if d.vault.drbgOk then d.drawPerm else { d with gov := { d.gov with perm := [], pos := 0 } }

/-- The next channel in sequence that a chain may take (R255), and the governor's place after it; none holds the step. Log 73 DEDUCED. -/
def Dev.nextChannel (d : Dev) (n : Nat) : Option (Nat × Dev) :=
  let seek (d : Dev) (l : List Nat) (base : Nat) : Option (Nat × Dev) :=
    ((l.zip (List.range l.length)).find? fun x => d.chanOk n x.1).map fun x =>
      (x.1, { d with gov := { d.gov with pos := base + x.2 + 1 } })
  if d.hopping then
    let rest := d.gov.perm.drop d.gov.pos
    match seek d rest d.gov.pos with
    | some r => some r
    | none => if d.gov.perm.isEmpty && !d.vault.drbgOk then none else
      let d := if d.vault.drbgOk then d.drawPerm else { d with gov := { d.gov with pos := 0 } }
      seek d d.gov.perm 0
  else
    let l := d.maskedChans
    let p := d.gov.pos
    match seek d (l.filter fun c => decide (p ≤ c)) 0 with
    | some r => some (r.1, { r.2 with gov := { r.2.gov with pos := r.1 + 1 } })
    | none => (seek d l 0).map fun r => (r.1, { r.2 with gov := { r.2.gov with pos := r.1 + 1 } })

/-- GOV_STAT.CH and GOV_DWELL of a chain. -/
def Dev.showOcc (d : Dev) (n : Nat) : Dev :=
  d.setFld (if n = 0 then F.GOV_STAT_CH0 else F.GOV_STAT_CH1) (((d.occ n).map (·.chan)).getD 0)

/-- A ramp starts on a channel (R188, R256): a new occupation where the chain holds none of it, and a carrier-on span. -/
def Dev.rampOn (d : Dev) (n c : Nat) : Dev :=
  let fresh : Occ := { chan := c, start := d.time }
  let o := match d.occ n with
    | some o => if o.chan = c then o else fresh
    | none => fresh
  let old := d.gov.spans.filter fun s => match s.off with
    | some t => decide (t + 66000000 ≥ d.time)
    | none => true
  let sp : Span := { chan := c, chain := n, on := d.time, off := none }
  { d with gov := { d.gov with occ := tableSet 2 none d.gov.occ n (some o), spans := old ++ [sp] } }.showOcc n

/-- An occupation ends (R256). -/
def Dev.endOcc (d : Dev) (n : Nat) : Dev :=
  { d with gov := { d.gov with occ := tableSet 2 none d.gov.occ n none } }.showOcc n

/-- A ramp has ended (R256): the span closes, and with OFF_MIN 0 the occupation ends. -/
def Dev.rampOff (d : Dev) (n : Nat) : Dev :=
  let close (s : Span) : Span := if s.chain = n && s.off.isNone then { s with off := some d.time } else s
  let d := { d with gov := { d.gov with spans := d.gov.spans.map close } }
  if d.limits.offMin = 0 then d.endOcc n else d

/-- The union of the carrier-on spans of both chains over the last second, µs (R259); spans stand in order of their start. -/
def Dev.dutyUsed (d : Dev) : Nat :=
  let from_ := d.time - 1000000
  (d.gov.spans.foldl (fun (a : Nat × Nat) s =>
    let lo := max (max s.on from_) a.2
    let hi := s.off.getD d.time
    (a.1 + (hi - lo), max a.2 hi)) (0, 0)).1

/-- The duty budget of R259 is spent. -/
def Dev.dutySpent (d : Dev) : Bool :=
  d.mode == Mode.shared && decide (d.dutyUsed ≥ min d.limits.duty 300 * 1000)

/-- A hold of R258, counted when it begins. -/
def Dev.hold (d : Dev) (n : Nat) : Dev :=
  let f := if n = 0 then F.GOV_STAT_HOLD0 else F.GOV_STAT_HOLD1
  if d.flag f then d else (d.setFlag f true).bump F.GOV_CNT_HOLD 1

/-- A hold ends. -/
def Dev.unhold (d : Dev) (n : Nat) : Dev := d.setFlag (if n = 0 then F.GOV_STAT_HOLD0 else F.GOV_STAT_HOLD1) false

/-- The dwell of a chain is spent (R256). -/
def Dev.dwellSpent (d : Dev) (n : Nat) : Bool := (d.occ n).isSome && decide (d.dwell n ≥ d.limits.dwellMax * 1000)

/-! ### Coexistence (R262–R267) -/

/-- Set A gates every carrier (R262). -/
def Dev.gatedA (d : Dev) : Bool := d.flag F.COEX_CFG_A_EN && (d.mode == Mode.shared || d.flag F.COEX_CFG_A_ALL)
/-- Set B gates the carriers of UHF6 and UHF7 (R262). -/
def Dev.gatedB (d : Dev) (port : Nat) : Bool := d.flag F.COEX_CFG_B_EN && (port == 6 || port == 7)

/-- A set grants (R263). -/
def Wires.grants (w : Wires) : Bool := w.grant && !w.act

/-- COEX_STAT as the wires stand (R269). -/
def Dev.showCoex (d : Dev) : Dev :=
  let d := ((d.setFlag F.COEX_STAT_REQA d.coexA.req).setFlag F.COEX_STAT_PRIA d.coexA.pri).setFlag F.COEX_STAT_GRANTA d.coexA.grant
  let d := ((d.setFlag F.COEX_STAT_ACTA d.coexA.act).setFlag F.COEX_STAT_REQB d.coexB.req).setFlag F.COEX_STAT_PRIB d.coexB.pri
  (d.setFlag F.COEX_STAT_GRANTB d.coexB.grant).setFlag F.COEX_STAT_ACTB d.coexB.act

/-- REQ asserted for a planned ramp (R263, R264). -/
def Dev.coexRequest (d : Dev) (port : Nat) (lclass : Bool) : Dev :=
  let ask (g : Bool) (w : Wires) : Wires :=
    if !g then w else { w with req := true, pri := lclass,
                               waitFrom := if w.grants then w.waitFrom else some (w.waitFrom.getD d.time) }
  { d with coexA := ask d.gatedA d.coexA, coexB := ask (d.gatedB port) d.coexB }.showCoex

/-- Every set that gates a port's carrier grants (R262, R263). -/
def Dev.coexGranted (d : Dev) (port : Nat) : Bool :=
  (!d.gatedA || d.coexA.grants) && (!d.gatedB port || d.coexB.grants)

/-- A ramp that had waited for grant starts: WAITS and WAIT_MAX (R263). -/
def Dev.coexWaited (d : Dev) (port : Nat) : Dev :=
  let waited (g : Bool) (w : Wires) : Option Nat := if g then w.waitFrom else none
  match waited d.gatedA d.coexA, waited (d.gatedB port) d.coexB with
  | none, none => d
  | a, b =>
    let from_ := match a, b with
      | some x, some y => min x y
      | some x, none => x
      | none, some y => y
      | none, none => d.time
    let d := (d.bump F.COEX_CNT_WAITS 1).raiseTo F.COEX_WAIT_WAIT_MAX (d.time - from_)
    { d with coexA := { d.coexA with waitFrom := none }, coexB := { d.coexB with waitFrom := none } }

/-- REQ dropped when no chain asks any more (R263): `a` and `b` say whether a carrier still needs the set. -/
def Dev.coexRelease (d : Dev) (a b : Bool) : Dev :=
  let drop (keep : Bool) (w : Wires) : Wires := if keep then w else { w with req := false, pri := false, waitFrom := none }
  { d with coexA := drop a d.coexA, coexB := drop b d.coexB }.showCoex

/-- Protected windows apply (R267). -/
def Dev.windowsApply (d : Dev) : Bool := d.mode == Mode.shared || d.flag F.COEX_CFG_PW_ALL

/-- A protected window is open and applies. Log 146 DESIGN CHOICE. -/
def Dev.windowOpen (d : Dev) : Bool := d.windowsApply && !d.windows.isEmpty

/-- FUNC of a pin in the GPIO section (R342): 0 INPUT, 1 OUTPUT, 2 STRIKE, 3 ANTSEL. -/
def Dev.gpioFunc (d : Dev) (g : Nat) : Nat := byteAt d.tables.gpio (16 + 8 * g)
/-- The GPIO section drives a pin as an output. -/
def Dev.gpioOut (d : Dev) (g : Nat) : Bool := d.gpioFunc g != 0

/-- A protected-window entry that R266 refuses. Log 40 DEDUCED, 41 DEDUCED. -/
def Dev.windowBad (d : Dev) (cfg win : Word) : Bool :=
  let period := bitsOf cfg 15 0 * 100
  decide (bitsOf win 15 0 ≥ period) ||
  (if bitsOf cfg 30 30 = 0 then decide (bitsOf win 31 16 ≥ period)
   else decide (bitsOf cfg 28 24 > 23) || d.gpioOut (bitsOf cfg 28 24))

end Sys2Proof.Machine
end

