-- ==== Sys2Proof/Machine/HfField.lean ====
section
/-!
DEFINITION. HF fields (Chapter 4): output, coupling and tiers, fields going on and off, the spare, and the limits on fields
at once.
-/

namespace Sys2Proof.Machine

open Sys2Proof

/-! ### Output (R102–R105, R260) -/

/-- A quotient by a positive divisor whose rounding is not stated. Log 9 DESIGN CHOICE. -/
def divOpen (x : Int) (k : Int) : Int := x.fdiv k + (if x.fmod k = 0 then 0 else b2n (Config.roundUp x k))

/-- Output in 0.1 dBm of a chain on a port before the permit (R102); at WATCH_PULSE.PULSE_ATT while it pulses for a PRESENCE run (R338). -/
def Dev.hfDrive (d : Dev) (n port : Nat) : Int :=
  if (d.hfc n).pulse then 300 - (d.fld F.WATCH_PULSE_PULSE_ATT : Int) else 300 - (min 300 (profAtt (d.hfProfile port) + d.fld (F.HFCn_TXCTL_ATT_EXTRA n)) : Nat)

/-- Output of a chain on a port in mW (R103): the lower of the drive and the permit; a bond's permit is scaled (R260). Log 11 DEDUCED. -/
def Dev.hfOutMw (d : Dev) (n port : Nat) (bond : Option Nat) : Nat :=
  let own := min (mwOf (d.hfDrive n port)) (mwOf (d.hfPermit port))
  match bond with
  | none => own
  | some q => min own (Config.bondPermit (d.hfPermit port) (d.hfPermit q) (profFactor (d.hfProfile port)) (profFactor (d.hfProfile q)))

/-- The permit in mW of a port held (R131, R260). Log 11 DEDUCED. -/
def Dev.hfLimitMw (d : Dev) (port : Nat) (bond : Option Nat) : Nat :=
  match bond with
  | none => mwOf (d.hfPermit port)
  | some q => min (mwOf (d.hfPermit port))
      (Config.bondPermit (d.hfPermit port) (d.hfPermit q) (profFactor (d.hfProfile port)) (profFactor (d.hfProfile q)))

/-- The port of a chain's bond partner. -/
def Dev.bondPort (d : Dev) (n : Nat) : Option Nat := (d.hfc n).partner.bind fun m => (d.hfc m).port

/-- The carrier phase that a chain's own settings give on a port (R104). -/
def Dev.ownPhase (d : Dev) (n port : Nat) : Nat := (profPhase (d.hfProfile port) + d.fld (F.HFCn_TXCTL_PHASE n)) % 1024

/-- BOND PHASE of a member chain n of master m (R129): HFCn_BOND of the master where a direct step holds the bond, else the plan's. -/
def Dev.bondPhaseOf (d : Dev) (m n : Nat) : Nat :=
  let direct := ((d.hfc n).owner.bind d.chan?).any (·.kind == Kind.direct)
  if direct && d.flag (F.HFCn_BOND_EN m) && d.fld (F.HFCn_BOND_MEMBER m) == n then d.fld (F.HFCn_BOND_PHASE m) else (d.hfc n).bondPhase

/-- The carrier phase of a chain on its port, 1/1,024 turn (R104, R129). -/
def Dev.carrierPhase (d : Dev) (n port : Nat) : Nat :=
  match (d.hfc n).partner with
  | some m => if (d.hfc n).master then d.ownPhase n port
    else (d.ownPhase m ((d.hfc m).port.getD 0) + d.bondPhaseOf m n) % 1024
  | none => d.ownPhase n port

/-- The drive in force set from the profile, TXCTL and the permit: HFCn_POWER and the carrier phase (R103, R104, R105). -/
def Dev.hfApplyDrive (d : Dev) (n : Nat) : Dev :=
  match (d.hfc n).port with
  | none => d
  | some p =>
    let phase := d.carrierPhase n p
    let d := d.setFld (F.HFCn_POWER_OUT_MW n) (d.hfOutMw n p (d.bondPort n))
    (d.setFld (F.HFCn_POWER_LIMIT_MW n) (d.hfLimitMw p (d.bondPort n))).onHf n fun c => { c with txPend := false, carrier := phase }

/-- The hundredth power of the output in force in mW (R103, R115): exact, since powers stand in 0.1 dBm. Log 11 DEDUCED. -/
def Dev.hfOutPow (d : Dev) (n port : Nat) (bond : Option Nat) : Nat :=
  let own := 10 ^ (min (d.hfDrive n port) (d.hfPermit port)).toNat
  match bond with
  | none => own
  | some q => min own (Config.bondPermit (d.hfPermit port) (d.hfPermit q) (profFactor (d.hfProfile port)) (profFactor (d.hfProfile q)) ^ 100)

/-- The fault that a measured antenna current shows (R115): below OPEN_THR or above SHORT_THR of the expected current, INOM scaled from the
profile's ATT to the output in force; 0 for none. Currents go as the square root of powers. -/
def Dev.hfVerdict (d : Dev) (n ma : Nat) : Nat :=
  match (d.hfc n).port with
  | none => 0
  | some p =>
    let f := d.hfProfile p
    let got := (100 * ma) ^ 200 * 10 ^ (300 - min 300 (profAtt f))
    let at_ (pct : Nat) : Nat := (pct * profInom f) ^ 200 * d.hfOutPow n p (d.bondPort n)
    if got < at_ (profOpen f) then Code.HF_PORT_OPEN else if at_ (profShort f) < got then Code.HF_PORT_SHORT else 0

/-- Output of the fields that are on, mW (R103). -/
def Dev.hfPowerOn (d : Dev) : Nat :=
  ((List.range 4).map fun n => if d.hfOn n then d.fld (F.HFCn_POWER_OUT_MW n) else 0).sum

/-- The power limit on fields at once, mW (R103). -/
def Dev.hfPowerMax (d : Dev) : Nat := min 1600 d.hfTotal

/-! ### Coupling and tiers (R118–R122, R126, R127) -/

/-- |k|² of a Q1.14 coefficient, in units of 2^−28. Log 10 DESIGN CHOICE. -/
def sqMag (k : Cplx) : Nat := (k.re * k.re + k.im * k.im).toNat

/-- The tier code of a pair by its stronger |k|² (R121): −10.0 dB or weaker FREE, down to −6.0 dB STAGGER, else EXCLUSIVE.
Log 10 DESIGN CHOICE. -/
def tierOfSq (m : Nat) : Nat := if 10 * m ≤ 2 ^ 28 then 1 else if m ^ 5 * 1000 ≤ 2 ^ 140 then 2 else 3

/-- The set, with MEASURED 1, that holds two ports, and their member indices. -/
def Dev.measuredSet (d : Dev) (p q : Nat) : Option (Bytes × Nat × Nat) :=
  d.tables.sets.findSome? fun e => match setMember e p, setMember e q with
    | some i, some j => if setMeasured e then some (e, i, j) else none
    | _, _ => none

/-- A port's profile names another (R121). -/
def Dev.names (d : Dev) (p q : Nat) : Bool := bit (profNeighbour (d.hfProfile p)) q

/-- The tier of two ports (R121): tracked values while both fields are on, stored ones otherwise. -/
def Dev.tier (d : Dev) (p q : Nat) : Nat :=
  match d.measuredSet p q with
  | some (e, i, j) => match d.hfChainOn p, d.hfChainOn q with
    | some n, some m =>
      tierOfSq (max (sqMag ((d.hfc n).tracked.getD m ⟨0, 0⟩)) (sqMag ((d.hfc m).tracked.getD n ⟨0, 0⟩)))
    | _, _ => tierOfSq (max (sqMag (setK e i j)) (sqMag (setK e j i)))
  | none => if d.names p q || d.names q p then 3 else 1

/-- The tier with the forcing of R126 for chains with a field on. -/
def Dev.tierNow (d : Dev) (n m : Nat) (p q : Nat) : Nat :=
  let t := d.tier p q
  if ((d.hfc n).forced || (d.hfc m).forced) && t < 2 then 2 else t

/-- Two chains with fields on whose ports form a pair: not the chains of one bond (R121, R129). -/
def Dev.paired (d : Dev) (n m : Nat) : Bool := n != m && d.hfOn n && d.hfOn m && (d.hfc n).partner != some m

/-- The tier between two chains with fields on; 0 where they form no pair. -/
def Dev.chainTier (d : Dev) (n m : Nat) : Nat :=
  match (d.hfc n).port, (d.hfc m).port with
  | some p, some q => if d.paired n m then d.tierNow n m p q else 0
  | _, _ => 0

/-- HFCn_STAT.TIER (R127). -/
def Dev.showTiers (d : Dev) : Dev :=
  d.forEach (List.range 4) fun d n =>
    d.setFld (F.HFCn_STAT_TIER n) (((List.range 4).map fun m => d.chainTier n m).foldl max 0)

/-- HFCn_XKm as tracked (R131). -/
def Dev.showTracked (d : Dev) (n : Nat) : Dev :=
  d.forEach (List.range 4) fun d m =>
    let k := (d.hfc n).tracked.getD m ⟨0, 0⟩
    (d.setFld (F.HFCn_XKm_KI n m) (ofInt 16 k.re)).setFld (F.HFCn_XKm_KQ n m) (ofInt 16 k.im)

/-- The stored coupling from chain m's port into chain n's, when both are in one set. -/
def Dev.storedK (d : Dev) (n m : Nat) : Option Cplx :=
  match (d.hfc n).port, (d.hfc m).port with
  | some p, some q => d.tables.sets.findSome? fun e => match setMember e p, setMember e q with
    | some i, some j => if n == m then none else some (setK e i j)
    | _, _ => none
  | _, _ => none

/-- Tracking begins at the stored value, with no DRIFT, when a pair of fields comes on or a field changes chains, and reads 0 where there is
no pair in a set (R125, R131). Log 130 DESIGN CHOICE. -/
def Dev.initTracking (d : Dev) (n : Nat) : Dev :=
  let d := d.forEach (List.range 4) fun d m =>
    let put (d : Dev) (a b : Nat) : Dev :=
      d.onHf a fun c => { c with tracked := tableSet 4 ⟨0, 0⟩ c.tracked b ((d.storedK a b).getD ⟨0, 0⟩) }
    let d := put (put d n m) m n
    let d := d.setFld (F.HFCn_RESID_DRIFT n) (d.fld (F.HFCn_RESID_DRIFT n) &&& (15 - 2 ^ m))
    d.setFld (F.HFCn_RESID_DRIFT m) (d.fld (F.HFCn_RESID_DRIFT m) &&& (15 - 2 ^ n))
  d.forEach (List.range 4) Dev.showTracked

/-- The XFIELD event of a tier that became more restrictive (R127, R445). -/
def Dev.tierEvent (d : Dev) (n m t : Nat) : Dev :=
  let k := (d.hfc n).tracked.getD m ⟨0, 0⟩
  let k' := (d.hfc m).tracked.getD n ⟨0, 0⟩
  let k := if sqMag k ≥ sqMag k' then k else k'
  d.event 0x05 0x01 0 (beBytes 1 ((d.hfc n).port.getD 0) ++ beBytes 1 ((d.hfc m).port.getD 0) ++ beBytes 1 t ++ [0#8] ++
    beBytes 2 (ofInt 16 (Config.decibelOf k.re k.im)) ++ beBytes 2 (Config.phaseOf k.re k.im).toNat)

/-- After a change, an event for each pair whose tier has become more restrictive while both fields are on (R127). -/
def Dev.tierEvents (d : Dev) (old : Dev) : Dev :=
  (d.forEach [1, 2, 3, 6, 7, 11] fun d x =>
    let n := x / 4
    let m := x % 4
    let t := d.chainTier n m
    if old.paired n m && d.paired n m && decide (t > old.chainTier n m) then d.tierEvent n m t else d).showTiers

/-! ### Exchanges and stagger (R105, R123) -/

/-- A chain is inside an exchange. -/
def Dev.hfBusy (d : Dev) (n : Nat) : Bool :=
  match (d.hfc n).phase with
  | .sent | .window | .receiving => true
  | _ => false

/-- The chains of a chain's field: itself and its bond partner. -/
def Dev.hfTeam (d : Dev) (n : Nat) : List Nat := n :: (d.hfc n).partner.toList

/-- The master of a chain's field. -/
def Dev.hfMaster (d : Dev) (n : Nat) : Nat := if (d.hfc n).master then n else (d.hfc n).partner.getD n

/-- The fields of two chains stand in STAGGER, or in EXCLUSIVE handled as STAGGER (R122, R123). -/
def Dev.stagPair (d : Dev) (n m : Nat) : Bool :=
  (d.hfTeam n).any fun x => (d.hfTeam m).any fun y => decide (d.chainTier x y ≥ 2)

/-- Another chain that stands in STAGGER to this one's field is inside an exchange. -/
def Dev.staggered (d : Dev) (n : Nat) : Bool := (List.range 4).any fun m => d.hfBusy m && d.stagPair n m

/-- A field that would come on at one of the ports stands in STAGGER to a field inside an exchange (R123). -/
def Dev.startStaggered (d : Dev) (ports : List Nat) : Bool :=
  (List.range 4).any fun m => d.hfBusy m && (d.hfTeam m).any fun y => ((d.hfc y).port).any fun q =>
    ports.any fun p => p != q && (decide (d.tier p q ≥ 2) || (d.hfc y).forced)

/-- A stagger wait ends (R127): its length counts, whatever ends it. -/
def Dev.staggerEnd (d : Dev) (n : Nat) : Dev :=
  match (d.hfc n).stagFrom with
  | none => d
  | some t =>
    let w := d.time - t
    (d.onHf n fun c => { c with stagFrom := none, yields := false, staggerUs := min 0xFFFF (c.staggerUs + w) }).bump
      (F.HFCn_STAG_TIME_TIME n) w

/-- A chain's drive may not change now (R105): its field, or a STAGGER partner's, is inside an exchange. -/
def Dev.driveHeld (d : Dev) (n : Nat) : Bool := (d.hfTeam n).any d.hfBusy || d.staggered n

/-- The settings of a chain's drive changed (R105): in force at once, or at the end of the exchange that holds them. In a bond the
member's phase follows the master's (R129). -/
def Dev.driveChanged (d : Dev) (n : Nat) : Dev :=
  d.forEach (d.hfTeam n) fun d m =>
    if !d.hfOn m then d else if d.driveHeld m then d.onHf m fun c => { c with txPend := true } else d.hfApplyDrive m

/-- Changes of drive whose exchange has ended take effect (R105). -/
def Dev.releaseDrives (d : Dev) : Dev :=
  d.forEach (List.range 4) fun d n => if (d.hfc n).txPend && !d.driveHeld n then d.hfApplyDrive n else d

/-! ### Fields on and off (R98–R101, R138, R156) -/

/-- The RXGAIN a chain uses on a port (R138, R140): the override serves direct steps and sweeps. Log 71 DEDUCED. -/
def Dev.hfGain (d : Dev) (n port : Nat) (direct : Bool) : Nat :=
  if direct && d.flag (F.HFCn_RXCFG_GAIN_OVR n) then
    d.fld (F.HFCn_RXCFG_COARSE n) * 16 + d.fld (F.HFCn_RXCFG_FINE n)
  else byteAt (d.hfProfile port) 5

/-- The resonance in kHz (R113): 13,560 kHz shifted by the trim offset between the code in force and that at which the phase would be 0,
found from the phase (1/1,024 turn, signed) and its slope (for 256 codes), 0.0625 % a code. The rounding is open, and so is the estimate
for a slope of 0. Log 9 DESIGN CHOICE, 131 DEDUCED. -/
def resonance (code : Nat) (slope : Int) (phase : Nat) : Nat :=
  if slope = 0 then (Config.resonanceOf code 0 phase).toNat
  else
    let shift := 13560 * 625 * 256 * toSigned 10 phase * (if slope < 0 then -1 else 1)
    (13560 + divOpen shift (1000000 * slope.natAbs)).toNat

/-- The trim in force and the resonance at a field-on (R113). -/
def Dev.showTune (d : Dev) (port phase : Nat) : Dev :=
  let code := byteAt (d.hfProfile port) 4
  let d := d.setFld (F.HFPn_TUNE_CODE port) code
  match d.tables.slopes.find? (·.1 == port) with
  | some s => d.setFld (F.HFPn_TUNE_FRES_KHZ port) (resonance code s.2 phase)
  | none => d.setFld (F.HFPn_TUNE_FRES_KHZ port) 0

/-- A chain takes a port: the registers that show the connection (R101, R131, R133). -/
def Dev.hfConnect (d : Dev) (n port : Nat) (owner : Option Nat) : Dev :=
  let d := d.onHf n fun c => { c with port := some port, owner := owner, onAt := d.time, leaving := false }
  let d := ((d.setFlag (F.HFCn_STAT_FIELD_ON n) true).setFld (F.HFCn_STAT_PORT n) port).setFlag (F.HFPn_STAT_ACTIVE port) true
  d.setFld (F.HFPn_STAT_CHAIN port) n

/-- A field switched on, its current and phase as measured at the open and short verdict (R101). -/
def Dev.hfFieldOn (d : Dev) (n port : Nat) (owner : Option Nat) (direct : Bool) (ma phase : Nat) : Dev :=
  let old := d
  let g := d.hfGain n port direct
  let d := (d.hfConnect n port owner).onHf n fun c => { c with card := none, gain := g }
  let d := ((d.bump (F.HFPn_CNT_ONS port) 1).setFld (F.HFCn_IANT_CURRENT n) ma).setFld (F.HFCn_IANT_PHASE n) phase
  ((((d.showTune port phase).hfApplyDrive n).initTracking n).tierEvents old).captureEvent (0x40 + n)

/-- Sessions of the port end with its field (R155). -/
def Dev.endSessions (d : Dev) (port : Nat) : Dev :=
  let upd (x : Nat × Chan) : Nat × Chan :=
    if (x.2.session.map (·.port)) == some port then (x.1, { x.2 with session := none }) else x
  { d with chans := d.chans.map upd }

/-- One chain's field switched off (R101). What R126 forces stays until the chain's residuals are good again. -/
def Dev.hfOff1 (d : Dev) (n : Nat) : Dev :=
  match (d.hfc n).port with
  | none => d
  | some p =>
    let d := ((d.endSessions p).staggerEnd n).onHf n fun c => { c with
      port := none, owner := none, partner := none, master := true, phase := .idle, att := none, card := none, tx := []
      txBits := 0, txCrc := false, txPend := false, leaving := false, closing := false, pulse := false }
    let d := ((d.setFlag (F.HFCn_STAT_FIELD_ON n) false).setFlag (F.HFCn_STAT_MODULATING n) false).setFlag
      (F.HFCn_STAT_RX_WINDOW n) false
    let d := ((d.setFlag (F.HFCn_STAT_BONDED n) false).setFlag (F.HFPn_STAT_ACTIVE p) false).setReg (R.HFCn_POWER n) 0#32
    (d.setReg (R.HFCn_IANT n) 0#32).initTracking n

/-- The field a chain drives switched off; in a bond, both fields (R101, R129). -/
def Dev.hfFieldOff (d : Dev) (n : Nat) : Dev :=
  let m := (d.hfc n).partner
  let d := d.hfOff1 n
  (match m with
    | some m => d.hfOff1 m
    | none => d).showTiers.releaseDrives

/-- The field of a run that has ended goes off, or stays until a STAGGER partner's window closes (R101, R123). -/
def Dev.hfRelease (d : Dev) (n : Nat) : Dev :=
  if d.staggered n then d.forEach (d.hfTeam n) fun d m => d.onHf m fun c => { c with owner := none, closing := true }
  else d.hfFieldOff n

/-- The spare named (R67, R484, R491): one already named stays while it qualifies; else the highest-numbered enabled chain
that holds no field and has no latched fault. -/
def Dev.respare (d : Dev) : Dev :=
  let ok (n : Nat) : Bool := d.hfHealthy n && !d.hfOn n
  let now := (List.range 4).find? fun n => d.flag (F.HFCn_STAT_SPARE n)
  let want := if !Mode.strict d.mode then none
    else match now.filter ok with
      | some n => some n
      | none => [3, 2, 1, 0].find? ok
  let d := d.forEach (List.range 4) fun d n => d.setFlag (F.HFCn_STAT_SPARE n) (want == some n)
  if want.isSome || !Mode.strict d.mode then d.setFlag F.FLT_STAT_NO_SPARE false else d

/-- The spare. -/
def Dev.hfSpare (d : Dev) : Option Nat := (List.range 4).find? fun n => d.flag (F.HFCn_STAT_SPARE n)

/-- Fields on, a bond counted once (R64, R129). -/
def Dev.hfFields (d : Dev) : Nat := ((List.range 4).filter fun n => d.hfOn n && (d.hfc n).master).length

/-- The fields the mode allows at once (R64); COMMISSION and DIRECT are bounded by the chains alone. -/
def hfFieldLimit (mode : Nat) : Nat := if Mode.strict mode then 2 else if mode == Mode.watch then 0 else 4

/-- A port that the arbiter may connect (R99). -/
def Dev.hfPortOk (d : Dev) (p : Nat) : Bool :=
  d.flag (F.HFPn_CFG_ENABLE p) && hfProfOk (d.hfProfile p) && !d.flag (F.HFPn_STAT_FAULT p)

/-- A field on `ports` may come on beside those already on: no EXCLUSIVE pair (R122) and the power total (R103). -/
def Dev.hfFieldFits (d : Dev) (chains ports : List Nat) : Bool :=
  let others := (List.range 4).filterMap fun n => if chains.contains n then none else (d.hfc n).port
  let bondOf (p : Nat) : Option Nat := if ports.length = 2 then ports.find? (· != p) else none
  ports.all (fun p => others.all fun q => d.tier p q != 3) &&
    decide (d.hfPowerOn + ((chains.zip ports).map fun x => d.hfOutMw x.1 x.2 (bondOf x.2)).sum ≤ d.hfPowerMax)

/-- The permit allows a field on a port at all (R260). -/
def Dev.hfPermitted (d : Dev) (p : Nat) : Bool := decide (d.hfPermit p ≥ 0)

/-- A bond that R128 refuses: master chain and port, member chain and port. -/
def Dev.bondBad (d : Dev) (n p m q : Nat) : Bool :=
  p == q || n == m || (d.measuredSet p q).isNone || !d.flag (F.HFCn_CTL_ENABLE n) || !d.flag (F.HFCn_CTL_ENABLE m)

end Sys2Proof.Machine
end

