-- ==== Sys2Proof/Machine/Groups.lean ====
section
/-!
DEFINITION. Commit groups (R90–R92): members, shadow, and the replacement of the active values.
-/

namespace Sys2Proof.Machine

open Sys2Proof

/-- The members of a group, by register (R90). -/
def groupMembers (g : Group) : List Nat :=
  match g with
  | .hf n => [R.HFCn_PROTO n]
  | .uhf n => [R.UHFCn_CHAN n]
  | .tmr n => [R.TMRn_RELOAD n, R.TMRn_CMPk n 0, R.TMRn_CMPk n 1, R.TMRn_CMPk n 2, R.TMRn_CMPk n 3]
  | .cvu n => [R.CVUn_ALG n]

/-- The commit register of a group. -/
def groupReg (g : Group) : Nat :=
  match g with
  | .hf n => R.HFCn_GROUP0_COMMIT n
  | .uhf n => R.UHFCn_GROUP0_COMMIT n
  | .tmr n => R.TMRn_GROUP0_COMMIT n
  | .cvu n => R.CVUn_GROUP0_COMMIT n

/-- Every group instance. -/
def allGroups : List Group :=
  [.hf 0, .hf 1, .hf 2, .hf 3, .uhf 0, .uhf 1, .tmr 0, .tmr 1, .tmr 2, .tmr 3, .tmr 4, .tmr 5, .tmr 6, .tmr 7,
    .cvu 0, .cvu 1, .cvu 2, .cvu 3, .cvu 4, .cvu 5]

/-- The group a register belongs to. -/
def groupOf (a : Nat) : Option Group := allGroups.find? fun g => (groupMembers g).contains a

/-- The shadow of a group (R91). -/
def Dev.shadowOf (d : Dev) (g : Group) : List (Nat × Word) := (groupMembers g).map fun a => (a, RegMap.get d.shadow a)

/-- PENDING as it stands: the shadow differs from the active values (R92). -/
def Dev.showPending (d : Dev) (g : Group) : Dev :=
  d.setFlag ⟨groupReg g, 31, 31⟩ ((d.shadowOf g).any fun x => d.reg x.1 != x.2)

/-- A member written: the shadow takes it (R91). -/
def Dev.writeShadow (d : Dev) (g : Group) (a : Nat) (v : Word) : Dev :=
  { d with shadow := RegMap.set d.shadow a v }.showPending g

/-- The shadow loaded with the active values, as after a boot. -/
def Dev.loadShadow (d : Dev) : Dev :=
  { d with shadow := allGroups.foldl (fun m g => (groupMembers g).foldl (fun m a => RegMap.set m a (d.reg a)) m) [] }

/-- CHECKING of a group. -/
def Dev.checking (d : Dev) (g : Group) : Bool := d.flag ⟨groupReg g, 30, 30⟩

/-- A commit refused (R91): CHECKING clears and CODE holds the refusal. -/
def Dev.commitEnded (d : Dev) (g : Group) (code : Nat) : Dev :=
  (d.setFlag ⟨groupReg g, 30, 30⟩ false).setFld ⟨groupReg g, 23, 16⟩ code

/-- The checked copy replaces the active values at one instant, and CODE is then 0x00 (R91). -/
def Dev.applyGroup (d : Dev) (g : Group) : Dev :=
  match d.applying.find? (·.1 == g) with
  | none => d
  | some x =>
    let d := x.2.foldl (fun d y => d.setReg y.1 y.2) d
    ({ d with applying := d.applying.filter (·.1 != g) }.setFld ⟨groupReg g, 23, 16⟩ 0).showPending g

end Sys2Proof.Machine
end

