-- ==== Sys2Proof/Machine/HfEngine.lean ====
section
/-!
DEFINITION. The HF protocol engines (Chapter 5): exchanges and stagger, judging of replies, frame status, enumeration,
activation, the ISO/IEC 14443-4 block protocol, and the field events of the table.
-/

namespace Sys2Proof.Machine

open Sys2Proof

/-! ### The attempt, its receiver and its frames (R22, R171, R173) -/

/-- The chain whose receiver serves an attempt: in a bond, the one RXSEL names (R129). -/
def HfAttempt.rxChain (a : HfAttempt) : Nat := portchChain a.tag.portch

/-- The attempt's frame status and payload (R171): a failing frame has LENGTH 0 and no payload. Log 71 DEDUCED. -/
def Dev.hfFrame (d : Dev) (n : Nat) (a : HfAttempt) (payload : Bytes) (code flags lastBits coll : Nat) (last : Bool) :
    ResFrame :=
  let payload := if code = 0 then payload else []
  let pattern := (a.sof.map fun s => s.pattern.val).getD 15
  let meas := match a.sof with
    | some s => beBytes 1 coll ++ beBytes 2 s.rssi.toNat ++ beBytes 2 s.phase.val ++ beBytes 4 s.fdt.toNat ++ [s.rateDev]
    | none => zeros 10
  { tag := a.tag, payload := payload, code := code, last := last, ident := (d.hfc n).card.getD [],
    status := beBytes 2 payload.length ++ beBytes 1 code ++ beBytes 1 flags ++ beBytes 1 (pattern * 16 + lastBits) ++ meas ++
      beBytes 1 (d.hfc a.rxChain).gain ++ beBytes 2 (min 0xFFFF (d.hfc n).staggerUs) ++ zeros 2 }

/-- The registers of the last frame passed on, and the counters of R173. -/
def Dev.hfShowFrame (d : Dev) (n : Nat) (f : ResFrame) : Dev :=
  let s := f.status
  let fl := byteAt s 3
  let d := d.setReg (R.HFCn_RXSTAT n) (BitVec.ofNat 32
    (f.code * 2 ^ 24 + byteAt s 4 / 16 * 2 ^ 16 + (fl / 128 % 2) * 2 ^ 15 + (fl / 64 % 2) * 2 ^ 14 + (fl / 32 % 2) * 2 ^ 13 +
      numAt s 0 2 % 2 ^ 13))
  let d := d.setReg (R.HFCn_RXLVL n) (BitVec.ofNat 32 (numAt s 6 2 * 2 ^ 16 + byteAt s 15))
  let d := d.setReg (R.HFCn_RXPH n) (BitVec.ofNat 32 (byteAt s 14 * 2 ^ 24 + numAt s 8 2))
  let d := d.setReg (R.HFCn_FDT n) (BitVec.ofNat 32 (numAt s 10 4))
  let d := if bit fl 6 then d.bump (F.HFCn_RXCNT0_GOOD n) 1 else d
  let d := if f.code / 16 = 5 then d.setFld (F.HFCn_STAT_LAST_CODE n) f.code else d
  if f.code = Code.HF_CRC_ERROR then d.bump (F.HFCn_RXCNT0_CRC n) 1
  else if f.code = Code.HF_NO_RESPONSE then d.bump (F.HFCn_RXCNT1_NORESP n) 1
  else if f.code = Code.COLLIDED then d.bump (F.HFCn_RXCNT1_COLL n) 1
  else if f.code = Code.HF_GAIN_CLIP then d.bump (F.HFCn_RXCNT2_CLIP n) 1
  else if f.code = Code.HF_RATE_OUT then d.bump (F.HFCn_RXCNT2_RATE n) 1
  else if f.code = Code.HF_FRAMING_ERROR then d.bump (F.HFCn_RXCNT2_FRAMING n) 1
  else d

/-- A frame complete in a buffer of the receiving chain (R22). The registers show whole replies (R173), not the pieces of a chain. -/
def Dev.hfPush (d : Dev) (f : ResFrame) : Dev :=
  let r := portchChain f.tag.portch
  (if f.part then d else d.hfShowFrame r f).onHf r fun c => { c with bufs := c.bufs ++ [f] }

/-- The exchange in progress on a chain closes (R123): window shut, the drives that waited for it applied (R105). -/
def Dev.hfClose (d : Dev) (n : Nat) : Dev :=
  let d := d.forEach (d.hfTeam n) fun d m => (d.setFlag (F.HFCn_STAT_MODULATING m) false).setFlag (F.HFCn_STAT_RX_WINDOW m) false
  (d.onHf n fun c => { c with phase := .idle }).releaseDrives

/-- The attempt ends with its last frame (R309); a frame held back goes first. -/
def Dev.hfEnd (d : Dev) (n : Nat) (a : HfAttempt) (f : ResFrame) : Dev :=
  let d := match a.held with
    | some h => d.hfPush h
    | none => d
  (((d.hfPush f).hfClose n).staggerEnd n).onHf n fun c => { c with att := none }

/-- The attempt ends with a code and no payload. -/
def Dev.hfFail (d : Dev) (n : Nat) (a : HfAttempt) (code flags coll : Nat) : Dev :=
  let d := d.staggerEnd n
  d.hfEnd n a (d.hfFrame n a [] code flags 0 coll true)

/-- The attempt ends OK with the frame held back as its last; MORE says that MAX_TAGS ended it (R162). -/
def Dev.hfEndHeld (d : Dev) (n : Nat) (a : HfAttempt) (more : Bool) : Dev :=
  match a.held with
  | none => d.hfFail n { a with sof := none } Code.HF_NO_RESPONSE 0 0
  | some f =>
    let st := overlay f.status 3 (beBytes 1 (byteAt f.status 3 + b2n more * 8))
    d.hfEnd n { a with held := none } { f with last := true, status := st }

/-- The attempt stopped where it stands (R71, R116, R296): nothing is passed on, and what its chain holds of it is dropped. -/
def Dev.hfAbort (d : Dev) (n : Nat) : Dev :=
  match (d.hfc n).att with
  | none => d
  | some a =>
    let d := d.forEach (List.range 4) fun d k => d.onHf k fun c => { c with bufs := c.bufs.filter fun f => f.tag.handle != a.tag.handle }
    ((d.hfClose n).staggerEnd n).onHf n fun c => { c with att := none }

/-- The frame that an attempt with no reply passes on (R171): the gain in force and the stagger wait stand in it. -/
def Dev.hfBare (d : Dev) (n : Nat) (tag : FrameTag) (code : Nat) : ResFrame :=
  d.hfFrame n { tag := tag, params := [], tmpl := [], tbits := 0, sched := true, kind := 0, proto := 0 } [] code 0 0 0 true

/-- What the transaction engine makes of a frame shows in the registers that describe it (R171, R173), where no later frame has come. -/
def Dev.hfRejudge (d : Dev) (n code : Nat) : Dev :=
  if (d.hfc n).bufs.isEmpty then (d.setFld (F.HFCn_RXSTAT_CODE n) code).setFld (F.HFCn_RXSTAT_LENGTH n) 0 else d

/-! ### Starting a command (R23, R90, R106, R123) -/

/-- The waiting HF groups of a field's chains apply: the frame boundary of R90. -/
def Dev.hfGroups (d : Dev) (n : Nat) : Dev :=
  let mine (g : Group) : Bool := match g with
    | .hf k => (d.hfTeam n).contains k.val
    | _ => false
  (allGroups.filter mine).foldl Dev.applyGroup d

/-- A direct attempt goes by the protocol in force on its chain (R106). -/
def Dev.hfProtoOf (d : Dev) (n : Nat) (a : HfAttempt) : HfAttempt :=
  if a.sched then a else { a with proto := d.fld (F.HFCn_PROTO_PROTO n) }

/-- The frame buffers an attempt fills besides the frames complete in them: the frame held back and the chain being received. -/
def HfAttempt.fills (a : HfAttempt) : Nat := b2n a.held.isSome + b2n (!a.rx.isEmpty)

/-- The command in hand starts, once a frame buffer is free for its reply (R23): the waiting groups apply (R90), and every chain of the
field shows the protocol and modulation in force (R106, R129). -/
def Dev.hfSend (d : Dev) (n : Nat) : Dev :=
  match (d.hfc n).att with
  | none => d
  | some a =>
    if (d.hfc a.rxChain).bufs.length + a.fills ≥ 2 then d
    else
      let d := d.hfGroups n
      let a := d.hfProtoOf n a
      let modt := if a.sched then hfModt a.params else d.fld (F.HFCn_PROTO_MODT n)
      let depth := if a.sched then hfDepth a.params else d.fld (F.HFCn_PROTO_DEPTH n)
      let d := d.forEach (d.hfTeam n) fun d m =>
        (((d.setFld (F.HFCn_STAT_PROTO_USE m) a.proto).setFld (F.HFCn_STAT_MODT_USE m) modt).setFld (F.HFCn_STAT_DEPTH_USE m)
          depth).setFlag (F.HFCn_STAT_MODULATING m) true
      let d := d.forEach (List.range 4) fun d m => if d.stagPair n m then d.onHf m fun c => { c with yields := false } else d
      d.onHf n fun c =>
        let tx := if c.txCrc then withHfCrc a.proto c.tx else c.tx
        { c with
          phase := .sent, sentAt := d.time, tx := tx, txBits := if c.txCrc then 8 * tx.length else c.txBits, txCrc := false
          att := some { a with sof := none } }

/-- The port a chain holds, or its bond partner's, has been withdrawn (R133). -/
def Dev.hfWithdrawn (d : Dev) (n : Nat) : Bool :=
  (d.hfTeam n).any fun m => (d.hfc m).port.any fun p => !d.flag (F.HFPn_CFG_ENABLE p)

/-- A chain of the field has been taken out of the pool (R131). -/
def Dev.hfLeaving (d : Dev) (n : Nat) : Bool := (d.hfTeam n).any fun m => (d.hfc m).leaving

/-- A STAGGER partner waits to start (R123). -/
def Dev.partnerWaits (d : Dev) (n : Nat) : Bool := (List.range 4).any fun m => (d.hfc m).stagFrom.isSome && d.stagPair n m

/-- The command in hand starts, or waits for a STAGGER partner, which also goes first if it was waiting already; each attempt that waits is
counted once (R123, R127). A withdrawn port takes no further exchange (R133). Log 64 DEDUCED. -/
def Dev.hfGo (d : Dev) (n : Nat) : Dev :=
  match (d.hfc n).att with
  | none => d
  | some a =>
    if d.hfWithdrawn n then d.hfFail n { a with sof := none } Code.HF_PORT_UNAVAILABLE 0 0
    else if !d.staggered n && !d.partnerWaits n then d.hfSend n
    else
      let yields := !d.staggered n
      let d := if a.staggered then d else d.bump (F.HFCn_WAIT_STAG_CNT n) 1
      d.onHf n fun c => { c with att := some { a with staggered := true }, stagFrom := some (c.stagFrom.getD d.time), yields := yields }

/-- The command in hand starts; a chain taken out of the pool first hands its field over, where a chain is free for it (R131). -/
def Dev.hfStart (d : Dev) (n : Nat) : Dev := if d.hfLeaving n then d else d.hfGo n

/-- A command put in hand; `crc` says whether a CRC is appended as it is sent (R150). -/
def Dev.hfCommand (d : Dev) (n : Nat) (a : HfAttempt) (tx : Bytes) (bits : Nat) (crc : Bool) : Dev :=
  (d.onHf n fun c => { c with att := some a, tx := tx, txBits := bits, txCrc := crc, phase := .ready }).hfStart n

/-- Whole bytes as a command, with their CRC. -/
def Dev.hfBytes (d : Dev) (n : Nat) (a : HfAttempt) (tx : Bytes) : Dev := d.hfCommand n a tx (8 * tx.length) true

/-! ### Judging a reply (R141, R146, R167–R169) -/

/-- The protocol of the pattern that acquired a reply (R144, R145, R167). -/
def Sof.proto (s : Sof) : Nat := if s.pattern.val < 4 then 0 else if s.pattern.val < 8 then 1 else 2

/-- The first condition of R169 that a reply meets; 0 for none. A frame is judged as its own pattern's (R145, R167); `crc` says whether its
CRC is checked. Log 65 DEDUCED, 70 DEDUCED. -/
def hfJudge (proto : Nat) (s : Option Sof) (r : HfReply) (crc : Bool) : Nat :=
  let proto := (s.map Sof.proto).getD proto
  let bad := (crc && !r.crcOk) || !r.framed
  let rate := (s.map fun x => x.rateDev.toInt).getD 0
  if r.bytes.length > 1024 then Code.HF_FRAME_TOO_LONG
  else if r.clip && bad then Code.HF_GAIN_CLIP
  else if rate > 30 || rate < -30 then Code.HF_RATE_OUT
  else if r.collided && (proto == 0 || bad) then Code.COLLIDED
  else if !r.framed then Code.HF_FRAMING_ERROR
  else if crc && !r.crcOk then Code.HF_CRC_ERROR
  else 0

/-- FLAGS of a frame (R171): COLLIDED, CRC_OK, CLIP as found. -/
def hfFlags (r : HfReply) (crc : Bool) : Nat :=
  b2n r.collided * 128 + b2n (crc && r.crcOk) * 64 + b2n r.clip * 32

/-! ### Enumeration (R162–R166, R336) -/

/-- The parameters that activation runs with. -/
def HfAttempt.actParams (a : HfAttempt) : Bytes := a.react.getD a.params

/-- The automatic sequence is a selection that serves an ACTIVATE (R336). Log 65 DEDUCED. -/
def HfAttempt.selecting (a : HfAttempt) : Bool := a.kind != 3
/-- WAKE of the enumeration in hand. -/
def HfAttempt.wake (a : HfAttempt) : Bool := a.selecting || hfWake a.params
/-- COLL_PREF of the enumeration in hand. -/
def HfAttempt.collPref (a : HfAttempt) : Bool := a.selecting || hfCollPref a.params
/-- NSLOT of the enumeration in hand. -/
def HfAttempt.nslot (a : HfAttempt) : Nat := if a.selecting then 0 else hfNslot a.params
/-- MAX_TAGS of the enumeration in hand. -/
def HfAttempt.maxTags (a : HfAttempt) : Nat := if a.selecting then 1 else hfMaxTags a.params

/-- Slots of a Type B round, and of an ISO/IEC 15693 inventory. -/
def HfAttempt.slots (a : HfAttempt) : Nat := if a.proto = 2 then (if a.nslot = 4 then 16 else 1) else 2 ^ a.nslot

/-- Bits of a byte string, least significant bit of the first byte first. -/
def lsbBits (bs : Bytes) : List Bool := bs.flatMap fun b => (List.range 8).map b.getLsbD
/-- The byte string that bits spell. -/
def bitsLsb (l : List Bool) : Bytes :=
  (List.range ((l.length + 7) / 8)).map fun i =>
    BitVec.ofNat 8 ((List.range 8).foldl (fun a k => a + b2n (l.getD (8 * i + k) false) * 2 ^ k) 0)

/-- REQA or WUPA (R162). -/
def Dev.sendReqa (d : Dev) (n : Nat) (a : HfAttempt) (wake : Bool) : Dev :=
  d.hfCommand n { a with seq := .aReq, level := 1, known := [], uid := [], coll := 0 } [if wake then 0x52#8 else 0x26#8] 7 false

/-- ANTICOLLISION at the attempt's level with its known bits (R162). -/
def Dev.sendAnti (d : Dev) (n : Nat) (a : HfAttempt) : Dev :=
  let k := a.known.length
  d.hfCommand n { a with seq := .aAnti }
    (beBytes 1 (0x91 + 2 * a.level) ++ beBytes 1 ((2 + k / 8) * 16 + k % 8) ++ bitsLsb a.known) (16 + k) false

/-- SELECT of a complete CLn frame (R162). -/
def Dev.sendSelect (d : Dev) (n : Nat) (a : HfAttempt) (cln : Bytes) : Dev :=
  d.hfBytes n { a with seq := .aSel, known := lsbBits cln } (beBytes 1 (0x91 + 2 * a.level) ++ [0x70#8] ++ cln)

/-- REQB or WUPB (R164); a re-selection goes by the ACTIVATE step's parameters (R170). -/
def Dev.sendReqb (d : Dev) (n : Nat) (a : HfAttempt) : Dev :=
  d.hfBytes n { a with seq := .bSlot, slot := 0, newInRound := false }
    ([0x05#8] ++ beBytes 1 (byteAt a.actParams 6) ++ beBytes 1 (b2n a.wake * 8 + a.nslot))

/-- Slot-MARKER (R164). -/
def Dev.sendMarker (d : Dev) (n : Nat) (a : HfAttempt) : Dev :=
  d.hfBytes n { a with slot := a.slot + 1 } (beBytes 1 ((a.slot + 1) * 16 + 5))

/-- An ISO/IEC 15693 inventory with the attempt's mask (R165). -/
def Dev.sendInventory (d : Dev) (n : Nat) (a : HfAttempt) : Dev :=
  let afi := byteAt a.params 6
  d.hfBytes n { a with seq := .vInv, slot := 0 }
    (beBytes 1 (0x06 + b2n (hfRxr a.params == 1) + b2n (afi != 0) * 0x10 + b2n (a.slots == 1) * 0x20) ++ [0x01#8] ++
      (if afi = 0 then [] else beBytes 1 afi) ++ beBytes 1 a.mask.length ++ bitsLsb a.mask)

/-! ### Activation and the block protocol (R150, R153–R155, R158, R159, R170) -/

/-- Frame sizes by FSCI or FSDI. Log 67 PRESUMED. -/
def frameSize (i : Nat) : Nat := [16, 24, 32, 40, 48, 64, 96, 128, 256].getD i 256

/-- The channel's session on the port of the attempt (R155). -/
def Dev.hfSession (d : Dev) (n : Nat) (a : HfAttempt) : Option Session :=
  ((d.byHandle a.tag.handle).bind (·.session)).filter fun s => some s.port == (d.hfc n).port

/-- The channel's session set. -/
def Dev.setSession (d : Dev) (a : HfAttempt) (s : Option Session) : Dev :=
  match d.liveSlot a.tag.handle with
  | some k => d.onChan k fun c => { c with session := s }
  | none => d

/-- RATS or ATTRIB (R150, R154); an ATTRIB needs the ATQB of the card it names. Log 68 DEDUCED. -/
def Dev.sendActivate (d : Dev) (n : Nat) (a : HfAttempt) : Dev :=
  let p := a.actParams
  if a.proto = 0 then d.hfBytes n { a with seq := .rats } ([0xE0#8] ++ beBytes 1 (hfFsdi p * 16))
  else match (d.hfc n).card with
    | none => d.hfFail n { a with sof := none } Code.HF_PROTOCOL_ERROR 0 0
    | some atqb =>
      let caps := byteAt atqb 8
      let ok (r sh : Nat) : Bool := r == 0 || bit caps (sh + r - 1)
      if !ok (hfTxr p) 0 || !ok (hfRxr p) 4 || (bit caps 7 && hfTxr p != hfRxr p) then
        d.hfFail n { a with sof := none } Code.HF_RATE_UNSUPPORTED 0 0
      else
        d.hfBytes n { a with seq := .attrib } ([0x1D#8] ++ atqb.take 4 ++ [0x00#8] ++
          beBytes 1 (hfRxr p * 64 + hfTxr p * 16 + hfFsdi p) ++ [0x01#8, 0x00#8])

/-- The I-block at the head of what is left to send (R153). Log 67 PRESUMED. -/
def Dev.sendBlock (d : Dev) (n : Nat) (a : HfAttempt) (s : Session) : Dev :=
  let inf := a.tx.headD []
  d.hfBytes n { a with seq := .block } (beBytes 1 (0x02 + b2n (decide (a.tx.length > 1)) * 0x10 + s.block) ++ inf)

/-- A BLOCK exchange from its first block, chained by the card's FSC (R153); with no session nothing is sent (R524). -/
def Dev.beginBlock (d : Dev) (n : Nat) (a : HfAttempt) : Dev :=
  match d.hfSession n a with
  | none => d.hfFail n { a with sof := none } Code.HF_PROTOCOL_ERROR 0 0
  | some s =>
    let parts := chunks (s.fsc - 3) 1100 a.tmpl
    d.sendBlock n { a with tx := if parts.isEmpty then [[]] else parts, rx := [], rxLen := 0, resend := 0, wtx := 0, chained := false } s

/-- S(DESELECT) (R150). -/
def Dev.sendDeselect (d : Dev) (n : Nat) (a : HfAttempt) (q : HfSeq) : Dev := d.hfBytes n { a with seq := q } [0xC2#8]

/-- The activation, with the selection before it where no card is selected (R336). Log 67 PRESUMED. -/
def Dev.beginActivate (d : Dev) (n : Nat) (a : HfAttempt) : Dev :=
  if a.select && (d.hfc n).card.isNone then
    (if a.proto = 0 then d.sendReqa n a true else d.sendReqb n a)
  else d.sendActivate n a

/-- An attempt begins its exchanges on a chain whose field is on and past its guard (R150). Log 68 DEDUCED. -/
def Dev.hfBegin (d : Dev) (n : Nat) : Dev :=
  match (d.hfc n).att with
  | none => d
  | some a =>
    -- a command that starts at once starts at the frame boundary of R90
    let d := if d.staggered n || d.partnerWaits n then d else d.hfGroups n
    let a := d.hfProtoOf n a
    match a.kind with
    | 1 => d.hfCommand n a [if hfWake a.params then 0x52#8 else 0x26#8] 7 false
    | 2 => d.hfCommand n a a.tmpl a.tbits false
    | 3 => match a.proto with
      | 0 => d.sendReqa n a a.wake
      | 1 => d.sendReqb n a
      | _ => d.sendInventory n a
    | 4 => match a.react with
      | some _ => if a.seq = .recover then d.sendDeselect n a .recover else d.beginActivate n a
      | none => d.beginBlock n a
    | 5 => d.beginActivate n a
    | 6 => match a.react with
      | some _ => d.beginActivate n a
      | none => if (d.hfSession n a).isNone then d.hfFail n a Code.HF_PROTOCOL_ERROR 0 0 else d.sendDeselect n a .deselect
    | _ => d.hfCommand n a a.tmpl a.tbits (!hfCrcOff a.params)

/-- Activation done: the session begins, and the attempt goes on to what it activated for. Log 66 DEDUCED. -/
def Dev.activated (d : Dev) (n : Nat) (a : HfAttempt) (s : Session) (lastFlags : Nat) : Dev :=
  let d := d.setSession a (some s)
  match a.kind with
  | 4 => d.beginBlock n { a with react := none }
  | 6 => d.sendDeselect n { a with react := none } .deselect
  | _ => d.hfEnd n a (d.hfFrame n a a.ats 0 lastFlags 0 0 true)

/-- FSCI, TA(1), FWI and SFGI of an ATS; none for a malformed one (R154, R158). Log 67 PRESUMED. -/
def parseAts (b : Bytes) : Option (Nat × Nat × Nat × Nat) :=
  if b.isEmpty || byteAt b 0 != b.length then none
  else if b.length = 1 then some (2, 0, 4, 0)
  else
    let t0 := byteAt b 1
    let ia := 2
    let ib := ia + b2n (bit t0 4)
    let ic := ib + b2n (bit t0 5)
    let need := ic + b2n (bit t0 6)
    if b.length < need then none
    else
      let fwi := if bit t0 5 then byteAt b ib / 16 else 4
      some (t0 % 16, if bit t0 4 then byteAt b ia else 0, if fwi = 15 then 4 else fwi, if bit t0 5 then byteAt b ib % 16 else 0)

/-- A block that failed is recovered with R(NAK), or with R(ACK) inside a chain of the card's, at most twice (R153). -/
def Dev.blockFail (d : Dev) (n : Nat) (a : HfAttempt) (flags : Nat) : Dev :=
  match d.hfSession n a with
  | none => d.hfFail n a Code.HF_PROTOCOL_ERROR flags 0
  | some s =>
    if a.resend ≥ 2 then d.hfFail n a Code.HF_PROTOCOL_ERROR flags 0
    else d.hfBytes n { a with resend := a.resend + 1 } (beBytes 1 ((if a.chained then 0xA2 else 0xB2) + s.block))

/-- The attempt ends with HF_FRAME_TOO_LONG after S(DESELECT), which ends the session (R153, R155). -/
def Dev.blockTooLong (d : Dev) (n : Nat) (a : HfAttempt) (flags : Nat) : Dev :=
  let d := (d.setSession a none).onHf n fun c => { c with tx := withHfCrc a.proto [0xC2#8], txBits := 24, card := none }
  d.hfFail n a Code.HF_FRAME_TOO_LONG flags 0

/-- A piece of a chain handed over (R23). -/
def Dev.hfPart (d : Dev) (n : Nat) (a : HfAttempt) (flags : Nat) : Dev :=
  d.hfPush { d.hfFrame n a a.rx 0 flags 0 0 false with part := true }

/-- A block received (R153, R159). A chain of more than 1 KiB is handed over block by block (R23). Log 67 PRESUMED, 70 DEDUCED. -/
def Dev.blockReply (d : Dev) (n : Nat) (a : HfAttempt) (r : HfReply) : Dev :=
  let flags := hfFlags r true
  let code := hfJudge a.proto a.sof r true
  if r.bytes.length + 2 > frameSize (hfFsdi a.params) then d.blockTooLong n a flags
  else if code = Code.HF_CRC_ERROR || code = Code.HF_FRAMING_ERROR then d.blockFail n a flags
  else if code != 0 then d.hfFail n a code flags 0
  else match d.hfSession n a with
    | none => d.hfFail n a Code.HF_PROTOCOL_ERROR flags 0
    | some s =>
      let pcb := byteAt r.bytes 0
      let inf := r.bytes.drop 1
      let toggled : Session := { s with block := 1 - s.block }
      if r.bytes.isEmpty then d.blockFail n a flags
      else if pcb / 2 % 128 = 0x01 || pcb / 2 % 128 = 0x09 then
        -- an I-block without CID and NAD
        if pcb % 2 != s.block || (a.tx.length > 1) then d.blockFail n a flags
        else
          let d := d.setSession a (some toggled)
          let more := bit pcb 4
          let len := a.rxLen + inf.length
          let a := { a with rxLen := len, resend := 0, wtx := 0, chained := a.chained || more }
          if len > 4096 then d.blockTooLong n a flags
          else
            let cut := len > 1024 && !a.rx.isEmpty
            let d := if cut then d.hfPart n a (flags + 16) else d
            let a := { a with rx := if cut then inf else a.rx ++ inf }
            if more then d.hfBytes n a (beBytes 1 (0xA2 + toggled.block))
            else
              let f := d.hfFrame n a a.rx 0 (flags + b2n a.chained * 16) 0 0 true
              d.hfEnd n a { f with status := overlay f.status 0 (beBytes 2 len) }
      else if pcb / 2 % 128 = 0x51 && !a.chained then
        -- R(ACK)
        if pcb % 2 = s.block then
          if a.tx.length > 1 then
            (d.setSession a (some toggled)).sendBlock n { a with tx := a.tx.drop 1, resend := 0, wtx := 0 } toggled
          else d.blockFail n a flags
        else if byteAt (d.hfc n).tx 0 / 64 = 2 then d.sendBlock n a s
        else if a.resend ≥ 2 then d.hfFail n a Code.HF_PROTOCOL_ERROR flags 0
        else d.sendBlock n { a with resend := a.resend + 1 } s
      else if pcb = 0xF2 && inf.length = 1 then
        let m := byteAt inf 0 % 64
        if m = 0 || m > 59 then d.hfFail n a Code.HF_PROTOCOL_ERROR flags 0
        else if a.wtx + 1 > hfWtxMax a.params then d.hfFail n a Code.HF_WTX_LIMIT flags 0
        else d.hfBytes n { a with wtx := a.wtx + 1 } ([0xF2#8] ++ beBytes 1 m)
      else d.blockFail n a flags

/-- A tag found by an enumeration: the frame found before goes on; the attempt ends at MAX_TAGS (R162, R164–R166). Log 69 DEDUCED. -/
def Dev.tagFound (d : Dev) (n : Nat) (a : HfAttempt) (payload ident : Bytes) (flags : Nat) : Dev × HfAttempt :=
  let d := match a.held with
    | some f => d.hfPush f
    | none => d
  let d := d.onHf n fun c => { c with card := some ident }
  let f := d.hfFrame n a payload 0 flags 0 a.coll false
  (d, { a with held := some f, found := a.found ++ [ident], coll := 0 })

/-- The reply to a Type A exchange of an enumeration (R162, R163). -/
def Dev.aReply (d : Dev) (n : Nat) (a : HfAttempt) (r : HfReply) : Dev :=
  match a.seq with
  | .aReq =>
    let code := hfJudge a.proto a.sof { r with collided := false } false
    if code != 0 then d.hfFail n a code (hfFlags r false) 0
    else if r.bytes.length != 2 then d.hfFail n a Code.HF_PROTOCOL_ERROR (hfFlags r false) 0
    else d.sendAnti n { a with atq := r.bytes, level := 1, known := [], uid := [], coll := 0 }
  | .aAnti =>
    let code := hfJudge a.proto a.sof { r with collided := false } false
    let frame := a.known ++ (lsbBits (fit 5 r.bytes)).drop a.known.length
    if r.collided && (code = 0 || code = Code.HF_FRAMING_ERROR) then
      let coll := if a.coll = 0 then a.level * 64 + r.collBit.val else a.coll
      d.sendAnti n { a with coll := coll, known := frame.take r.collBit.val ++ [a.collPref] }
    else if code != 0 then d.hfFail n a code (hfFlags r false) a.coll
    else
      let cln := bitsLsb frame
      if allZero [(cln.getD 0 0#8) ^^^ (cln.getD 1 0#8) ^^^ (cln.getD 2 0#8) ^^^ (cln.getD 3 0#8) ^^^ (cln.getD 4 0#8)] then
        d.sendSelect n a cln
      else d.sendAnti n a
  | .hlta => d.sendReqa n a false
  | _ =>
    let code := hfJudge a.proto a.sof r true
    let flags := hfFlags r true
    if code != 0 then d.hfFail n a code flags a.coll
    else if r.bytes.length != 1 then d.hfFail n a Code.HF_PROTOCOL_ERROR flags a.coll
    else
      let cln := bitsLsb a.known
      let sak := byteAt r.bytes 0
      if bit sak 2 then
        if a.level ≥ 3 then d.hfFail n a Code.HF_PROTOCOL_ERROR flags a.coll
        else d.sendAnti n { a with uid := a.uid ++ slice cln 1 3, level := a.level + 1, known := [] }
      else
        let uid := a.uid ++ cln.take 4
        if a.selecting then
          (d.onHf n fun c => { c with card := some uid }).sendActivate n a
        else
          let (d, a) := d.tagFound n a (a.atq ++ uid ++ r.bytes) uid flags
          if a.found.length ≥ a.maxTags then d.hfEndHeld n a true
          else
            -- HLTA, whose reply is ignored, then the next round with REQA
            (d.onHf n fun c => { c with card := none }).hfBytes n { a with seq := .hlta } [0x50#8, 0x00#8]

/-- The next slot of a Type B round, or the end of the round (R164). -/
def Dev.bNext (d : Dev) (n : Nat) (a : HfAttempt) : Dev :=
  if a.slot + 1 < a.slots then d.sendMarker n a
  else if a.newInRound then d.sendReqb n a
  else d.hfEndHeld n a false

/-- The reply in a Type B slot (R164): the card that an ACTIVATE addresses is that of the last ATQB. Log 66 DEDUCED, 127 DESIGN CHOICE. -/
def Dev.bReply (d : Dev) (n : Nat) (a : HfAttempt) (r : HfReply) : Dev :=
  let code := hfJudge a.proto a.sof r true
  let flags := hfFlags r true
  if code = Code.COLLIDED then d.bNext n { a with collSlots := a.collSlots + 1 }
  else if code != 0 then d.hfFail n a code flags 0
  else if r.bytes.length != 11 && r.bytes.length != 12 then d.hfFail n a Code.HF_PROTOCOL_ERROR flags 0
  else if a.selecting then (d.onHf n fun c => { c with card := some r.bytes }).sendActivate n a
  else if a.found.any fun x => x.take 4 == r.bytes.take 4 then (d.onHf n fun c => { c with card := some r.bytes }).bNext n a
  else
    let (d, a) := d.tagFound n a r.bytes r.bytes flags
    if a.found.length ≥ a.maxTags then d.hfEndHeld n a true else d.bNext n { a with newInRound := true }

/-- The next slot of an inventory, the next mask, or the end (R165). Log 69 DEDUCED. -/
def Dev.vNext (d : Dev) (n : Nat) (a : HfAttempt) : Dev :=
  if a.slot + 1 < a.slots then d.hfCommand n { a with slot := a.slot + 1 } [] 0 false
  else match a.masks with
    | m :: t => d.sendInventory n { a with mask := m, masks := t }
    | [] => d.hfEndHeld n a false

/-- The four bits of a slot number, least significant first. -/
def slotBits (k : Nat) : List Bool := (List.range 4).map (bit k ·)

/-- A slot whose replies collide extends the mask, depth first, up to 60 bits; beyond that it is counted (R165). Log 127 DESIGN CHOICE. -/
def HfAttempt.collide (a : HfAttempt) : HfAttempt :=
  let m := a.mask ++ slotBits a.slot
  if a.mask.length ≥ 60 then { a with collSlots := a.collSlots + 1 }
  else { a with masks := a.masks.filter (fun x => x.length == m.length) ++ [m] ++ a.masks.filter fun x => x.length != m.length }

/-- The reply in an inventory slot (R165, R167): a frame whose CRC passes is a tag's, whatever collided with it. Log 69 DEDUCED. -/
def Dev.vReply (d : Dev) (n : Nat) (a : HfAttempt) (r : HfReply) : Dev :=
  let code := hfJudge a.proto a.sof r true
  let flags := hfFlags r true
  let clash := code = Code.COLLIDED || code = Code.HF_FRAMING_ERROR
  let a := if clash || (code = 0 && r.collided) then a.collide else a
  if clash then d.vNext n a
  else if code != 0 then d.hfFail n a code flags 0
  else if r.bytes.length != 10 then d.hfFail n a Code.HF_PROTOCOL_ERROR flags 0
  else if a.found.contains (r.bytes.drop 2) then d.vNext n a
  else
    let (d, a) := d.tagFound n a r.bytes (r.bytes.drop 2) flags
    if a.found.length ≥ a.maxTags then d.hfEndHeld n a true else d.vNext n a

/-- The reply to an exchange of activation or deselection (R150, R154). Log 66 DEDUCED. -/
def Dev.actReply (d : Dev) (n : Nat) (a : HfAttempt) (r : HfReply) : Dev :=
  let code := hfJudge a.proto a.sof r true
  let flags := hfFlags r true
  let p := a.actParams
  let port := (d.hfc n).port.getD 0
  if a.seq = .recover then
    -- the answer to S(DESELECT) is awaited and not judged (R170)
    ((d.setSession a none).onHf n fun c => { c with card := none }).beginActivate n a
  else if code != 0 then d.hfFail n a code flags 0
  else match a.seq with
    | .rats => match parseAts r.bytes with
      | none => d.hfFail n a Code.HF_PROTOCOL_ERROR flags 0
      | some (fsci, ta, fwi, sfgi) =>
        let ok (x sh : Nat) : Bool := x == 0 || bit ta (sh + x - 1)
        let s : Session := { port := port, fsc := frameSize fsci, fwi := fwi, sfgi := sfgi }
        if !ok (hfTxr p) 0 || !ok (hfRxr p) 4 || (bit ta 7 && hfTxr p != hfRxr p) then
          d.hfFail n a Code.HF_RATE_UNSUPPORTED flags 0
        else if hfTxr p = 0 && hfRxr p = 0 then d.activated n { a with ats := r.bytes } s flags
        else (d.setSession a (some s)).hfBytes n { a with seq := .pps, ats := r.bytes }
          ([0xD0#8, 0x11#8] ++ beBytes 1 (hfRxr p * 4 + hfTxr p))
    | .pps =>
      if r.bytes != [0xD0#8] then d.hfFail n a Code.HF_PROTOCOL_ERROR flags 0
      else match d.hfSession n a with
        | some s => d.activated n a { s with rates := hfTxr p * 4 + hfRxr p } flags
        | none => d.hfFail n a Code.HF_PROTOCOL_ERROR flags 0
    | .attrib =>
      if r.bytes.isEmpty || byteAt r.bytes 0 % 16 != 0 then d.hfFail n a Code.HF_PROTOCOL_ERROR flags 0
      else
        let q := (d.hfc n).card.getD []
        let fwi := byteAt q 10 / 16
        let s : Session := {
          port := port, fsc := frameSize (byteAt q 9 / 16), fwi := if fwi = 15 then 4 else fwi
          sfgi := if q.length = 12 then byteAt q 11 / 16 else 0, rates := hfTxr p * 4 + hfRxr p }
        d.activated n { a with ats := r.bytes } s flags
    | _ =>
      if byteAt r.bytes 0 != 0xC2 then d.hfFail n a Code.HF_PROTOCOL_ERROR flags 0
      else
        let d := (d.setSession a none).onHf n fun c => { c with card := none }
        d.hfEnd n a (d.hfFrame n a [] 0 flags 0 0 true)

/-- The reply to a frame the template gives (R150, R524). Log 65 DEDUCED. -/
def Dev.plainReply (d : Dev) (n : Nat) (a : HfAttempt) (r : HfReply) : Dev :=
  let crc := a.kind == 0 && !hfCrcOff a.params
  let code := hfJudge a.proto a.sof r crc
  let coll := if code = Code.COLLIDED && (a.sof.map Sof.proto).getD a.proto = 0 then r.collBit.val else 0
  d.hfEnd n a (d.hfFrame n a r.bytes code (hfFlags r crc) r.lastBits.val coll true)

/-! ### The events of an exchange -/

/-- The field-on guard ends and the chain may send (R156). -/
def Dev.fieldGuardEnd (d : Dev) (n : Nat) : Dev :=
  let c := d.hfc n
  let guards := (d.hfTeam n).map fun m => ((d.hfc m).port.map fun p => profGuard (d.hfProfile p)).getD 0
  if c.phase != .guard then d
  else
    let d := d.reach (c.onAt + guards.foldl max 0)
    (d.onHf n fun c => { c with phase := .idle }).hfBegin n

/-- Where a chain stands among those that wait for a STAGGER partner: those that let a partner go first come last, the others in the order
of R21 (R123). -/
def Dev.stagOrder (d : Dev) (n : Nat) : Option (Bool × Order) :=
  match (d.hfc n).att with
  | some a => if (d.hfc n).stagFrom.isSome then
      some ((d.hfc n).yields, ⟨a.tag.lclass, a.tag.level, a.tag.deadline, a.tag.handle % 256⟩) else none
  | none => none

/-- A chain waiting for its STAGGER partner starts (R123). Log 64 DEDUCED. -/
def Dev.staggerRelease (d : Dev) (n : Nat) : Dev :=
  match d.stagOrder n with
  | none => d
  | some (y, o) =>
    let ahead := (List.range 4).any fun m => m != n && d.stagPair n m && ((d.stagOrder m).map fun q =>
      (!q.1 && y) || (q.1 == y && q.2.before o)).getD false
    if (d.hfc n).phase != .ready || d.staggered n || ahead then d
    else
      let d := d.staggerEnd n
      if d.hfLeaving n then d else if d.hfWithdrawn n then d.hfGo n else d.hfSend n

/-- The instant at which the EOF of OPT_EOF follows a command (R157), µs after its end. -/
def eofAfter (fwi : Nat) : Nat := if fwi = 15 then 20000 else 4096 * 2 ^ fwi * 100 / 1356

/-- The attempt sends a write-alike command of ISO/IEC 15693, whose reply an EOF calls for (R152, R157). -/
def HfAttempt.optEof (a : HfAttempt) : Bool := a.kind == 0 && a.proto == 2 && hfOptEof a.params

/-- The reply window opens and the residual is measured on the receiving chain (R126, R129, R157); with OPT_EOF, once the EOF is sent. -/
def Dev.replyWindowOpen (d : Dev) (n resid noise : Nat) : Dev :=
  match (d.hfc n).phase, (d.hfc n).att with
  | .sent, some a =>
    let r := a.rxChain
    let d := if a.optEof then (d.reach ((d.hfc n).sentAt + eofAfter (hfFwi a.params))).onHf n fun c => { c with tx := [], txBits := 0 }
      else d
    let d := d.forEach (d.hfTeam n) fun d m => d.setFlag (F.HFCn_STAT_MODULATING m) false
    let d := d.setFlag (F.HFCn_STAT_RX_WINDOW r) true
    let d := (d.setFld (F.HFCn_RESID_RESID r) resid).setFld (F.HFCn_NOISE_NOISE r) noise
    let d := d.onHf n fun c => { c with phase := .window }
    if resid < 60 then
      let old := d
      let d := ((d.onHf r fun c => { c with forced := true }).tierEvents old)
      d.hfFail n { a with sof := none } Code.HF_XFIELD_RESIDUAL 0 0
    else d
  | _, _ => d

/-- The pattern that a reply is expected on (R144). -/
def HfAttempt.expected (a : HfAttempt) : Nat :=
  let rate := match a.seq with
    | .block | .deselect | .recover => hfRxr a.actParams
    | .plain => if a.kind = 0 || a.kind = 2 then hfRxr a.params else 0
    | .pps | .rats => 0
    | _ => 0
  match a.proto with
  | 0 => rate
  | 1 => 4 + rate
  | _ => 8 + hfRxr a.params % 2

/-- A start-of-frame correlator of the enabled set fires and acquires the reply (R145, R147). -/
def Dev.sofAcquired (d : Dev) (n : Nat) (s : Sof) : Dev :=
  match (d.hfc n).phase, (d.hfc n).att with
  | .window, some a =>
    if s.pattern.val = a.expected || (!a.sched && bit (numAt a.params 8 2) s.pattern.val) then
      d.onHf n fun c => { c with phase := .receiving, att := some { a with sof := some s } }
    else d
  | _, _ => d

/-- The window closes with no start of frame (R160). -/
def Dev.hfNoResponse (d : Dev) (n : Nat) : Dev :=
  match (d.hfc n).phase, (d.hfc n).att with
  | .window, some a =>
    let a := { a with sof := none }
    let d := d.hfClose n
    let none_ := d.hfFail n a Code.HF_NO_RESPONSE 0 0
    match a.seq with
    | .aReq => if a.held.isSome then d.hfEndHeld n a false else none_
    | .hlta => d.sendReqa n a false
    | .bSlot => d.bNext n a
    | .vInv => d.vNext n a
    | .block => d.blockFail n a 0
    | .recover => ((d.setSession a none).onHf n fun c => { c with card := none }).beginActivate n a
    | _ => none_
  | _, _ => d

/-- A reply frame is complete (R137). -/
def Dev.hfFrameEnd (d : Dev) (n : Nat) (r : HfReply) : Dev :=
  match (d.hfc n).phase, (d.hfc n).att with
  | .receiving, some a =>
    let d := d.hfClose n
    match a.seq with
    | .aReq | .aAnti | .aSel | .hlta => d.aReply n a r
    | .bSlot => d.bReply n a r
    | .vInv => d.vReply n a r
    | .rats | .pps | .attrib | .deselect | .recover => d.actReply n a r
    | .block => d.blockReply n a r
    | .plain => d.plainReply n a r
  | _, _ => d

/-- The chain has measured 1 s of residuals at or below −60 dBc: its pairs are no longer forced (R126). -/
def Dev.residualClear (d : Dev) (n : Nat) : Dev :=
  (d.onHf n fun c => { c with forced := false }).showTiers

/-- cos² of 20° and of 10° in units of 10^−18 (R125). Log 10 DESIGN CHOICE. -/
def cosSq20 : Nat := 883022221559489018
/-- See `cosSq20`. Log 10 DESIGN CHOICE. -/
def cosSq10 : Nat := 969846310392954192

/-- Two coefficients differ by more than a ratio r in power, given as r^e = 10^3, or by more than an angle. Log 10 DESIGN CHOICE. -/
def driftBeyond (e cosSq : Nat) (t s : Cplx) : Bool :=
  let mt := sqMag t
  let ms := sqMag s
  let dot := t.re * s.re + t.im * s.im
  decide (mt ^ e > ms ^ e * 1000) || decide (ms ^ e > mt ^ e * 1000) ||
    (decide (0 < mt * ms) && (decide (dot ≤ 0) || decide (dot.toNat * dot.toNat * 10 ^ 18 < cosSq * (mt * ms))))

/-- Tracking of the coupling from chain m into chain n (R125): weight 1/8; DRIFT beyond 3 dB or 20°, cleared within 1.5 dB and
10°; tier and drift changes raise XFIELD events (R127). -/
def Dev.couplingTrack (d : Dev) (n m : Nat) (k : Cplx) : Dev :=
  match d.storedK n m with
  | none => d
  | some s =>
    if (d.hfc n).phase = .window || (d.hfc n).phase = .receiving then d
    else
      let old := d
      let t := (d.hfc n).tracked.getD m ⟨0, 0⟩
      let t : Cplx := ⟨t.re + divOpen (k.re - t.re) 8, t.im + divOpen (k.im - t.im) 8⟩
      let d := (d.onHf n fun c => { c with tracked := tableSet 4 ⟨0, 0⟩ c.tracked m t }).showTracked n
      let f := d.fld (F.HFCn_RESID_DRIFT n)
      let d :=
        if !bit f m && driftBeyond 10 cosSq20 t s then
          (d.setFld (F.HFCn_RESID_DRIFT n) (f + 2 ^ m)).event 0x05 0x02 0
            (beBytes 1 ((d.hfc n).port.getD 0) ++ beBytes 1 n ++ beBytes 1 m ++ [0#8] ++
              beBytes 2 (ofInt 16 (Config.decibelOf t.re t.im)) ++ beBytes 2 (Config.phaseOf t.re t.im).toNat)
        else if bit f m && !driftBeyond 20 cosSq10 t s then d.setFld (F.HFCn_RESID_DRIFT n) (f - 2 ^ m)
        else d
      d.tierEvents old

end Sys2Proof.Machine
end

