-- ==== Sys2Proof/Machine/Presence.lean ====
section
/-!
DEFINITION. Presence sensing (R271–R284): pulses, baselines, candidates, confirmation, the presence log, and the registration
of wakes. WATCH bursts and the PRESENCE runs of R338 share the pulse.
-/

namespace Sys2Proof.Machine

open Sys2Proof

/-- The largest number whose square is at most `x`, for `x` below 2^(2 n). -/
def isqrt (n x : Nat) : Nat :=
  (List.range n).foldl (fun a k => let b := a + 2 ^ (n - 1 - k); if b * b ≤ x then b else a) 0

/-- |a − b|² of two complex values. -/
def sqDist (a b : Cplx) : Nat := sqMag ⟨a.re - b.re, a.im - b.im⟩

/-- The deviation Δ of a measurement from a baseline in steps of 0.1 % (R274). -/
def deviation (m b : Cplx) : Nat :=
  let num := 1000000 * sqDist m b
  let den := sqMag b
  if den = 0 then Config.deltaOf (sqDist m b)
  else
    let q := isqrt 32 (num / den)
    if q * q * den = num then q else q + b2n (Config.roundUp num den)

/-- The mean of a list of measurements. Log 9 DESIGN CHOICE. -/
def meanOf (l : List Cplx) : Cplx :=
  let n : Int := l.length
  ⟨divOpen (l.map (·.re)).sum n, divOpen (l.map (·.im)).sum n⟩

/-- A baseline that has taken 2^−shift of the way to a measurement (R274). -/
def track (b m : Cplx) (shift : Nat) : Cplx :=
  ⟨b.re + divOpen (m.re - b.re) (2 ^ shift), b.im + divOpen (m.im - b.im) (2 ^ shift)⟩

/-- The values a baseline is learned under: those of a port and a pulser chain (R273). -/
def Dev.senseKey (d : Dev) (port pulser : Nat) : Baseline :=
  { value := ⟨0, 0⟩, profile := d.fld (F.HFPn_CFG_PROFILE port), tune := byteAt (d.hfProfile port) 4
    att := d.fld F.WATCH_PULSE_PULSE_ATT, pulser := pulser }

/-- Two baselines learned under the same values. Log 86 DEDUCED. -/
def Baseline.same (a b : Baseline) : Bool :=
  a.profile == b.profile && a.tune == b.tune && a.att == b.att && a.pulser == b.pulser

/-- A baseline learned under other values is dropped (R273). Log 86 DEDUCED. -/
def SensePort.keep (p : SensePort) (key : Baseline) : SensePort :=
  match p.base with
  | some b => if b.same key then p else { base := none }
  | none => p

/-- One pulse on a port (R273–R276): the port afterwards, whether a candidate was rejected, and, on a confirmation, the
direction, Δ, the pulses taken and the baseline it was measured against. Log 86 DEDUCED. -/
def SensePort.pulse (p : SensePort) (key : Baseline) (appr remv shift : Nat) (m : Cplx) :
    SensePort × Bool × Option (Nat × Nat × Nat × Cplx) :=
  match p.base with
  | none =>
    let l := p.learn ++ [m]
    if l.length ≥ 4 then ({ base := some { key with value := meanOf l } }, false, none)
    else ({ base := none, learn := l }, false, none)
  | some b =>
    let delta := deviation m b.value
    let dir := if sqMag m < sqMag b.value then 1 else 2
    let dev := decide (delta ≥ if dir = 1 then appr else remv)
    let follow : Baseline := { b with value := track b.value m shift }
    match p.cand with
    | none =>
      if dev then ({ p with cand := some { dir := dir, pulses := 1, seen := [m] } }, false, none)
      else ({ p with base := some follow }, false, none)
    | some c =>
      if dev && dir == c.dir then
        ({ p with base := some { b with value := meanOf (c.seen ++ [m]) }, cand := none }, false,
          some (dir, delta, c.pulses + 1, b.value))
      else if c.pulses ≥ 2 then ({ p with base := some follow, cand := none }, true, none)
      else ({ p with base := some follow, cand := some { c with pulses := c.pulses + 1 } }, false, none)

/-- The presence state of a port. -/
def Dev.sense (d : Dev) (port : Nat) : SensePort := d.attic.ports.getD port {}

/-- The Attic changed. -/
def Dev.onAttic (d : Dev) (f : Attic → Attic) : Dev := { d with attic := f d.attic }

/-- WATCH_STAT.BASE_VALID as the baselines stand (R287). -/
def Dev.showBases (d : Dev) : Dev :=
  d.setFld F.WATCH_STAT_BASE_VALID
    ((List.range 16).foldl (fun a n => a + b2n (d.sense n).base.isSome * 2 ^ n) 0)

/-- A pulse measured on a port with a pulser chain, with the counts of WATCH_DET (R274–R276). Log 86 DEDUCED, 121 DESIGN CHOICE. -/
def Dev.sensePulse (d : Dev) (port pulser : Nat) (m : Cplx) : Dev × Option (Nat × Nat × Nat × Cplx) :=
  let key := d.senseKey port pulser
  let (p, rej, found) := ((d.sense port).keep key).pulse key (d.fld F.WATCH_THR_APPROACH_THR) (d.fld F.WATCH_THR_REMOVAL_THR)
    (d.fld F.WATCH_CTL_TRACK_SHIFT) m
  let d := (d.onAttic fun a => { a with ports := tableSet 16 {} a.ports port p }).showBases
  let d := if rej then d.bump F.WATCH_DET_REJECT 1 else d
  (if found.isSome then d.bump F.WATCH_DET_DETECT 1 else d, found)

/-- Every held baseline discarded (R273). -/
def Dev.forgetBases (d : Dev) : Dev :=
  (d.onAttic fun a => { a with ports := a.ports.map fun _ => {} }).showBases

/-- Two instants fall in the same ATTIC cycle of 32.768 kHz (R279). -/
def sameCycle (a b : Nat) : Bool := a * 32768 / 1000000 == b * 32768 / 1000000

/-- A wake cause registered (R278, R279): the first fixes the target and the instant, and Host in the same ATTIC cycle the target; a later
cause sets its CAUSE bit. Log 85 DEDUCED. -/
def Dev.registerWake (d : Dev) (cause : Nat) : Dev :=
  let d :=
    if d.phase != .watch then
      if bit cause 4 && !d.attic.wakeHost && sameCycle d.attic.count d.attic.wakeFrom then
        (d.setFld F.SUP_MODE_REQ (d.fld F.WATCH_CTL_HOST_MODE)).onAttic fun a =>
          { a with wakeTarget := d.fld F.WATCH_CTL_HOST_MODE, wakeHost := true }
      else d
    else
      let host := bit cause 4
      let target := if host then d.fld F.WATCH_CTL_HOST_MODE else d.tables.wakeMode
      let d := if host then d.setFld F.SUP_MODE_REQ target else d
      { d.onAttic fun a => { a with
          wakeCause := 0, wakeTarget := target, wakeFrom := a.count, wakeWall := d.wallAt a.count, wakeHost := host
          ports := a.ports.map fun p => { p with cand := none } } with phase := .waking }
  d.onAttic fun a => { a with wakeCause := a.wakeCause ||| cause }

/-- A confirmed detection of WATCH (R276): logged, or counted LOST; it registers a wake where WAKE_EN has its direction.
Log 85 DEDUCED. -/
def Dev.detected (d : Dev) (port : Nat) (m : Cplx) (f : Nat × Nat × Nat × Cplx) : Dev :=
  let (dir, delta, pulses, base) := f
  let wakes := bit (d.fld F.WATCH_CTL_WAKE_EN) (dir - 1)
  let e : LogEntry := { port := port, pulser := d.attic.pulser, dir := dir, delta := delta, meas := m, base := base, pulses := pulses
                        wall := d.wallAt d.attic.count, woke := wakes && d.phase == .watch }
  let d := if d.attic.log.length < 16 then d.onAttic fun a => { a with log := a.log ++ [e] } else d.bump F.WATCH_STAT_LOST 1
  if wakes then
    let d := if d.phase == .watch then d.setFld F.WATCH_WAKE_PORT port else d
    d.registerWake (2 ^ (dir - 1))
  else d

/-- A port is pulsed at a tick (R271, R273, R275): it learns, a candidate is open, or its PERIOD divides the tick. Log 85 DEDUCED. -/
def Dev.pulseDue (d : Dev) (tick n : Nat) : Bool :=
  let period := bitsOf (d.reg (R.WATCH_PERIODk (n / 4))) (31 - 8 * (n % 4)) (24 - 8 * (n % 4))
  bit (d.fld F.WATCH_CTL_PORT_EN) n &&
    ((d.sense n).base.isNone || (d.sense n).cand.isSome || (decide (period > 0) && tick % period == 0))

/-- One tick of the sequencer (R271): the due ports in ascending order take their measurements. Once a wake is registered no
pulse starts; registration takes at most 30.5 µs (R278), in which at most three further pulses start. Log 85 DEDUCED. -/
def Dev.watchTick (d : Dev) (ms : List Cplx) : Dev :=
  if d.phase != .watch then d
  else
    let tick := d.attic.tick
    let d := d.tick (d.attic.entry + tick * 50000 - d.attic.count)
    let d := d.onAttic fun a => { a with tick := tick + 1 }
    if d.pfail then d
    else
      let due := (List.range 16).filter (d.pulseDue tick)
      let go (x : Dev × Nat) (pm : Nat × Cplx) : Dev × Nat :=
        let (d, after) := x
        if d.phase != .watch && decide (after ≥ 3) then (d, after)
        else
          let after := if d.phase != .watch then after + 1 else 0
          let (d, found) := d.sensePulse pm.1 d.attic.pulser pm.2
          (match found with
            | some f => d.detected pm.1 pm.2 f
            | none => d, after)
      let d := ((due.zip ms).foldl go (d, 0)).1
      if d.phase == .watch then d
      else d.onAttic fun a => { a with ports := a.ports.map fun p => { p with cand := none } }

/-- The timer wake (R278); after another cause has been registered it still sets its CAUSE bit (R279). -/
def Dev.watchTimer (d : Dev) : Dev :=
  if (d.phase == .watch || d.phase == .waking) && bit (d.fld F.WATCH_CTL_WAKE_EN) 2 && d.fld F.WATCH_TIMER_TIMER_S != 0 then
    let d := d.tick (d.attic.entry + d.fld F.WATCH_TIMER_TIMER_S * 1000000 - d.attic.count)
    d.registerWake 4
  else d

/-- The PRESENCE record payload of R284. -/
def presencePayload (e : LogEntry) : Bytes :=
  beBytes 2 3 ++ beBytes 1 e.dir ++ beBytes 1 e.pulses ++ beBytes 2 e.delta ++ beBytes 6 e.wall ++
    beBytes 2 (Config.magnitudeOf e.base.re e.base.im) ++ beBytes 2 (Config.phaseOf e.base.re e.base.im).toNat ++
    beBytes 2 (Config.magnitudeOf e.meas.re e.meas.im) ++ beBytes 2 (Config.phaseOf e.meas.re e.meas.im).toNat ++
    beBytes 1 (b2n e.woke)

/-- The handle a presence record carries (R284): the live PRESENCE channel of the lowest slot whose plan names the port. -/
def Dev.presenceHandle (d : Dev) (port : Nat) : Nat :=
  match d.chans.find? fun x => x.2.kind == Kind.presence && bit (d.plan x.2.plan).ports port with
  | some x => d.handle x.1
  | none => 0

/-- The PRESENCE event of a log entry (R445). -/
def Dev.presenceEvent (d : Dev) (e : LogEntry) : Dev :=
  d.event 0x09 (portch false e.pulser false e.port) (d.presenceHandle e.port)
    (beBytes 1 e.dir ++ beBytes 1 e.pulses ++ beBytes 2 e.delta ++ beBytes 2 (Config.magnitudeOf e.meas.re e.meas.im) ++
      beBytes 1 (b2n e.woke))

/-- The record of a log entry. -/
def Dev.presenceReq (d : Dev) (e : LogEntry) (commit : Nat) : RecReq :=
  { ty := 3, handle := d.presenceHandle e.port, portch := portch false e.pulser false e.port, payload := presencePayload e
    commit := commit }

/-- The COMMIT of a record written at the completion of a transition or wake into a mode (R521). -/
def entryCommit (mode : Nat) : Nat := if mode == Mode.survey then 1 else 2

/-- The log written and emptied (R282, R284): WAKE, then PRESENCE records and events; `cause` and `target` as registered, under the
policy of the mode entered. Log 53 DEDUCED. -/
def Dev.wakeRecords (d : Dev) (cause target entered wall : Nat) : Dev :=
  let log := d.attic.log
  let commit := entryCommit entered
  let d := d.setFld F.WATCH_STAT_LOGGED log.length
  let d := d.post {
    ty := 3, commit := commit,
    payload := beBytes 2 4 ++ beBytes 1 cause ++ beBytes 1 target ++ beBytes 2 log.length ++ beBytes 6 wall ++
      beBytes 2 (d.fld F.WATCH_STAT_LOST) }
  let d := log.foldl (fun d e => (d.post (d.presenceReq e commit)).presenceEvent e) d
  d.onAttic fun a => { a with log := [] }

end Sys2Proof.Machine
end

