-- ==== Sys2Proof/Machine/Steps.lean ====
section
/-!
DEFINITION. Steps of the transaction engine (Chapters 10 and 11): tags, creation, what a template is filled with, classes of
codes, and the records and messages that a step leaves.
-/

namespace Sys2Proof.Machine

open Sys2Proof

/-! ### Codes (R168, R187, R195, R200, R235, R309, R339) -/

/-- What stands for an attempt to be re-issued with the same number (R71, R207, R483); no reported code. -/
def codeReissue : Nat := 0x100

/-- A code whose attempt spends a retry. -/
def retryCode (c : Nat) : Bool :=
  [Code.HF_XFIELD_RESIDUAL, Code.HF_NO_RESPONSE, Code.HF_CRC_ERROR, Code.HF_FRAMING_ERROR, Code.HF_RATE_OUT, Code.COLLIDED,
    Code.HF_PROTOCOL_ERROR, Code.HF_WTX_LIMIT, Code.HF_GAIN_CLIP, Code.SYNTH_UNLOCK, Code.UHF_PA_LOOP, Code.UHF_LEAK_HIGH,
    Code.UHF_NO_REPLY, Code.UHF_CRC_ERROR, Code.UHF_NOT_FOUND, Code.UHF_WRITE_UNVERIFIED, Code.UHF_FRAMING_ERROR,
    Code.OBJECT_MISMATCH, Code.CV_CHECK_FAIL].contains c

/-- A code whose attempt is re-issued. -/
def reissueCode (c : Nat) : Bool := c == codeReissue || c == Code.COEX_PREEMPT

/-- The class of an outcome (R339): 0 OK, 1 ABSENT, 2 REFUSED, 3 OTHER. -/
def classOf (c : Nat) : Nat :=
  if c = 0 then 0
  else if c = Code.HF_NO_RESPONSE || c = Code.UHF_NO_REPLY || c = Code.UHF_NOT_FOUND then 1
  else if c = Code.TAG_AUTH_FAIL || c = Code.OBJECT_MISMATCH then 2
  else 3

/-- The OUTCOME_MAP byte of a class. -/
def mapByte (p : PlanHead) (cls : Nat) : Nat := if cls = 1 then p.absent else if cls = 2 then p.refused else p.other
/-- REC of an outcome. -/
def mapRec (p : PlanHead) (c : Nat) : Bool := c != 0 && bit (mapByte p (classOf c)) 7
/-- FLOW END_RUN of an outcome. -/
def mapEnds (p : PlanHead) (c : Nat) : Bool := nbits (mapByte p (classOf c)) 5 4 == 1

/-- A security code raised (R392, R411): VLT_STAT.LAST_CODE and the counts of VLT_CNT. -/
def Dev.secCode (d : Dev) (c : Nat) : Dev :=
  if c < 0xA0 || c > 0xBF then d
  else
    let d := d.setFld F.VLT_STAT_LAST_CODE c
    if c = Code.KEY_DESTROYED then d.bump F.VLT_CNT_DESTROYED 1
    else if c = Code.KEY_EMPTY || c = Code.KEY_PURPOSE then d.bump F.VLT_CNT_EMPTY 1
    else d

/-! ### Tags (R13, R66, R308, R452) -/

/-- The journal policy of a scheduled tag (R66). Log 56 DEDUCED. -/
def jpolIn (mode jpol : Nat) : Nat := if Mode.strict mode && jpolCommit jpol == 1 then jpol % 64 + 128 else jpol

/-- CVCTX of a scheduled step (R452): the enabled unit whose binding names the plan and the step. -/
def Dev.cvctxOf (d : Dev) (plan step slot : Nat) : Nat :=
  match (List.range 6).find? fun u => d.flag (F.CVUn_CFG_ENABLE u) && d.flag (F.CVUn_BIND_EN u) &&
      d.fld (F.CVUn_BIND_PLAN u) == plan && bit (d.fld (F.CVUn_BIND_STEPS u)) step with
  | some u => 0x8000 + u * 4096 + slot
  | none => 0

/-- The records of a run may be written, or none is asked for (R360, R375, R376). -/
def Dev.roomFor (d : Dev) (jpol : Nat) : Bool := jpolCommit jpol == 0 || (d.journalling && !d.noRoom)

/-- The next step of a run created (R308): it waits for its grant. Log 89 DEDUCED. -/
def Dev.newStep (d : Dev) (slot : Nat) : Dev :=
  match d.chan? slot with
  | none => d
  | some c => match c.run with
    | none => d
    | some r =>
      let p := d.plan c.plan
      let tag (worst : Nat) (keyslot : Nat) (limit : Nat) : FrameTag :=
        { handle := d.handle slot, reqId := r.reqId, step := r.step, attempt := 0, lclass := Mode.strict d.mode,
          level := c.prio, deadline := min r.deadline (d.time + limit * worst) % 2 ^ 40,
          portch := portch p.uhf 0 false (r.port.getD 0), keyslot := keyslot, jpol := jpolIn d.mode p.jpol,
          cvctx := d.cvctxOf c.plan r.step slot }
      let st : Step := match (d.planSteps c.plan)[r.step]? with
        | some s =>
          { tag := tag (s.worst * 10) s.keyslot (1 + s.retries)
            deadline := min r.deadline (d.time + s.worst * 10 * (1 + s.retries))
            params := s.params, tmpl := s.tmpl, tbits := s.tbits, retries := s.retries, worst := s.worst * 10
            expLen := s.expLen, record := s.record, fill := s.fill, chal := s.chal, fillOff := s.fillOff
            chalOff := s.chalOff, waitFrom := d.time, object := r.ident }
        | none =>
          -- a PRESENCE run exchanges no commands (R338): its one step holds the run's deadline
          { tag := { tag 0 0 0 with deadline := r.deadline % 2 ^ 40 }, deadline := r.deadline, params := zeros 12, tmpl := []
            tbits := 0, retries := 0, worst := 0, waitFrom := d.time }
      let st := if d.trans.isSome then { st with phase := .held } else st
      d.setChan slot { c with step := some st, state := .running }

/-! ### The attempt's template and Vault context (R324, R325, R391, R520) -/

/-- The template with the object's values (R324): bytes and length in bits. -/
def fillTemplate (uhf : Bool) (st : Step) (e : Bytes) : Bytes × Nat :=
  if !st.fill then (st.tmpl, st.tbits)
  else if uhf then
    let bits := msbBits st.tmpl st.tbits ++ ebvBits 5 (objReg e) true ++ (List.range 8).map fun i => bit (objLen e) (7 - i)
    (packMsb bits, bits.length)
  else if objProto e = 3 then
    (overlay st.tmpl st.fillOff ((objId e).reverse ++ beBytes 1 (objReg e) ++ beBytes 1 (objLen e - 1)), st.tbits)
  else (overlay st.tmpl st.fillOff (beBytes 2 (objReg e) ++ beBytes 1 (objLen e)), st.tbits)

/-- The tag key of a slot (R391): the key or KEY_EMPTY, KEY_PURPOSE. -/
def Dev.tagKey (d : Dev) (keyslot : Nat) (oid div : Bytes) : Except Nat Bytes :=
  match d.vault.slots.getD (keyslot % 32) none with
  | none => .error Code.KEY_EMPTY
  | some k => if bit k.purpose 0 then .ok (kdf k.key [0x54#8, 0x41#8, 0x47#8] (fit 8 oid ++ fit 2 div)) else .error Code.KEY_PURPOSE

/-! ### Result messages of direct channels (R316) -/

/-- A result message. -/
def resultMsg (tag : Bytes) (reqId : Nat) (uhf last : Bool) (outcome retries index : Nat) (status payload : Bytes) : Bytes :=
  let status := fit 20 status
  beBytes 2 reqId ++ beBytes 2 (44 + payload.length) ++ fit 16 tag ++ beBytes 1 (b2n last * 128 + b2n uhf * 64) ++
    beBytes 1 outcome ++ beBytes 1 retries ++ beBytes 1 index ++ status ++ payload

/-- The result message of a refused message (R316). -/
def refusedMsg (handle reqId : Nat) (uhf : Bool) (outcome : Nat) : Bytes :=
  resultMsg (beBytes 2 handle ++ beBytes 2 reqId ++ zeros 12) reqId uhf true outcome 0 0 (zeros 20) []

/-- The status of a frame that an attempt with no frame passes on (R171, R237). -/
def emptyStatus (uhf : Bool) (code : Nat) : Bytes := zeros 2 ++ beBytes 1 code ++ [0#8] ++ (if uhf then [0#8] else [0xF0#8]) ++ zeros 15

/-! ### Records of runs (R172, R238, R340, R341) -/

/-- Signal strength of a record taken from a frame (R172, R238): the RSSI of the status rounded to the nearest whole unit, a
signed byte. Log 88 DEDUCED. -/
def signalOf (f : Option ResFrame) : Nat :=
  match f with
  | none => 0
  | some f =>
    let r := sint16At f.status 6
    let q := (r + 5).fdiv 10
    ofInt 8 (max (-128) (min 127 (if r < 0 && (r + 5).fmod 10 = 0 then q - 1 else q)))

/-- COLLIDED of a frame's status, record flag bit 4 (R347). -/
def collidedOf (f : Option ResFrame) : Nat := match f with
  | some f => if bit (byteAt f.status 3) 7 then 0x10 else 0
  | none => 0

/-- A record of a run: header from the tag, the run's last frame and its object (R340). Log 88 DEDUCED. -/
def stepReq (t : FrameTag) (f : Option ResFrame) (object : Bytes) (auth : Bool) (ty : Nat) (payload : Bytes) : RecReq :=
  { ty := ty, flags := collidedOf f + b2n auth * 8, handle := t.handle, signal := signalOf f,
    portch := (f.map (·.tag.portch)).getD t.portch, object := object, payload := payload, commit := jpolCommit t.jpol,
    ticket := .step t.handle, device := false, lclass := t.lclass, level := t.level, deadline := t.deadline, slot := t.handle % 256 }

/-- The READING records of a payload (R341). -/
def readingPayloads (step : Nat) (data : Bytes) : List Bytes :=
  let cut := data.take 832
  let n := (cut.length + 25) / 26
  (List.range n).map fun k =>
    let part := slice cut (26 * k) 26
    let last := k + 1 == n
    beBytes 1 (step * 32 + k) ++ beBytes 1 (b2n (!last) * 128 + b2n (last && decide (data.length > 832)) * 64 + part.length) ++
      fit 26 part

/-- The READ_FAIL payload (R341). Log 88 DEDUCED. -/
def readFail (code step retries wall reqId : Nat) : Bytes :=
  beBytes 2 5 ++ beBytes 1 code ++ beBytes 1 (step * 32 + retries) ++ beBytes 1 (classOf code) ++ [0#8] ++ beBytes 6 wall ++
    beBytes 2 reqId

/-- The ACCESS payload (R341). -/
def accessPayload (granted : Bool) (code pin ms : Nat) (ident : Bytes) : Bytes :=
  beBytes 1 (if granted then 1 else 2) ++ beBytes 1 code ++ beBytes 1 pin ++ [0#8] ++ beBytes 2 ms ++ beBytes 1 ident.length ++
    [0#8] ++ fit 10 ident

/-- A record of a run asked for (R10, R340): none under COMMIT 0b00 or while the Cellar does not journal. Log 91 DEDUCED. -/
def Dev.ask (d : Dev) (r : RecReq) : Dev :=
  if r.commit = 0 || !d.journalling || d.spent then d else d.onJrn fun j => { j with reqs := j.reqs ++ [r] }

end Sys2Proof.Machine
end

