-- ==== Sys2Proof/Machine/Census.lean ====
section
/-!
DEFINITION. The census (R239–R241): what a counted run does to the objects of its groups and to the unknown list, and its records
and events.
-/

namespace Sys2Proof.Machine

open Sys2Proof

/-- MISSING_RUNS (R244). Log 38 DEDUCED. -/
def Dev.missingRuns (d : Dev) : Nat := byteAt d.tables.air 1
/-- REPORT_UNKNOWN (R244). -/
def Dev.reportUnknown (d : Dev) : Bool := bit (byteAt d.tables.air 2) 0

/-- The object protocol of a frame of a run: that of its step (R332). -/
def Dev.frameProto (d : Dev) (plan : Nat) (f : ResFrame) : Nat :=
  if (d.plan plan).uhf then 4 else hfProto (((d.planSteps plan)[f.tag.step]?.map (·.params)).getD []) + 1

/-- The identifier of a frame by protocol: the PUPI of an ATQB (R333). -/
def identOf (proto : Nat) (ident : Bytes) : Bytes := if proto = 2 then ident.take 4 else ident

/-- A CENSUS record payload (R241). -/
def censusPayload (kind miss wall pc steer chan phase : Nat) (ident : Bytes) : Bytes :=
  beBytes 1 kind ++ beBytes 1 miss ++ beBytes 6 wall ++ beBytes 2 pc ++ beBytes 1 steer ++ beBytes 1 chan ++ beBytes 2 phase ++
    fit 14 ident

/-- The payload of a sighting from its frame. -/
def sightPayload (kind proto : Nat) (f : ResFrame) : Bytes :=
  let uhf := proto == 4
  let s := f.status
  let trunc := uhf && bit (byteAt s 3) 2
  let pc := if (uhf && !trunc) || proto == 1 then numAt f.payload 0 2 else 0
  let steer := if uhf && bit (byteAt s 11) 7 then byteAt s 11 else 0xFF
  censusPayload kind 0 f.wall pc steer (if uhf then byteAt s 5 else 0xFF) (numAt s 8 2) (identOf proto f.ident)

/-- A record of a census run. Log 97 DEDUCED. -/
def censusReq (f : ResFrame) (object payload : Bytes) : RecReq :=
  stepReq f.tag (some f) object (bit (byteAt f.status 3) 4 && portchUhf f.tag.portch) 2 payload

/-- One sighting of a counted run (R240). -/
def Dev.sighting (d : Dev) (p : PlanHead) (handle : Nat) (proto : Nat) (f : ResFrame) : Dev :=
  let ident := identOf proto f.ident
  let oid := objectIdOf proto f.ident
  match d.findObj proto oid with
  | some k =>
    let o := d.obj k
    if objGroups o.bytes &&& p.groups = 0 then d
    else
      let new := o.census.st == 2
      let c : Census := { st := 1, miss := 0, rssi := signalOf (some f), port := f.tag.portch, seen := f.wall }
      let d := (d.setObj k { o with census := c }).ask (censusReq f oid (sightPayload (if new then 2 else 1) proto f))
      if new then d.event 0x06 f.tag.portch handle oid else d
  | none =>
    if !d.reportUnknown || d.tables.unknown.contains ident then d
    else
      let l := (d.tables.unknown ++ [ident])
      let d := { d with tables := { d.tables with unknown := l.drop (l.length - 256) } }
      (d.ask (censusReq f (fit 8 ident) (sightPayload 3 proto f))).event 0x07 f.tag.portch handle (fit 8 ident)

/-- One object of the run's groups not sighted (R240). -/
def Dev.unsighted (d : Dev) (t : FrameTag) (k : Nat) : Dev :=
  let o := d.obj k
  let miss := min 255 (o.census.miss + 1)
  let gone := o.census.st != 2 && d.missingRuns != 0 && decide (miss ≥ d.missingRuns)
  let d := d.setObj k { o with census := { o.census with miss := miss, st := if gone then 2 else o.census.st } }
  if !gone then d
  else
    let oid := objId o.bytes
    let req := stepReq { t with portch := o.census.port } none oid false 2
      (censusPayload 4 miss o.census.seen 0 0xFF 0xFF 0 oid)
    (d.ask { req with signal := o.census.rssi }).event 0x08 o.census.port t.handle oid

/-- What a counted CENSUS run does (R240): its sightings, each tag once, then the objects it missed. Log 97 DEDUCED. -/
def Dev.censusRun (d : Dev) (plan : Nat) (t : FrameTag) (target : Nat) (sightings : List ResFrame) : Dev :=
  let p := d.plan plan
  let ports := if p.pair then [target, p.pairPort] else [target]
  let keyed := sightings.map fun f => (d.frameProto plan f, f)
  let once := keyed.foldl (fun (a : List (Nat × ResFrame)) x =>
    if a.any fun y => y.1 == x.1 && identOf y.1 y.2.ident == identOf x.1 x.2.ident then a else a ++ [x]) []
  let seen := once.filterMap fun x => d.findObj x.1 (objectIdOf x.1 x.2.ident)
  let d := once.foldl (fun d x => d.sighting p t.handle x.1 x.2) d
  let missed := (d.tables.objects.filter fun e => objValid e.2.bytes && objUhf e.2.bytes == p.uhf &&
    (objGroups e.2.bytes &&& p.groups) != 0 && ports.any (bit (objHome e.2.bytes) ·) && !seen.contains e.1).map (·.1)
  missed.foldl (fun d k => d.unsighted t k) d

/-- Census state at a boot or wake (R239, R240). -/
def Dev.censusReset (d : Dev) : Dev :=
  let upd (e : Nat × Obj) : Nat × Obj := (e.1, { e.2 with census := {} })
  { d with tables := { d.tables with objects := d.tables.objects.map upd, unknown := [] } }

end Sys2Proof.Machine
end

