-- ==== Sys2Proof/Machine/UhfRadio.lean ====
section
/-!
DEFINITION. The UHF radio (Chapter 6): ports and routes, the synthesisers and their calibration tables, carrier ramps and their
gating, power, cancellation, and frames passed on from a chain.
-/

namespace Sys2Proof.Machine

open Sys2Proof

/-! ### Chains, ports and queues (R174–R177, R184) -/

/-- A byte of a chain's RADIO block. -/
def Dev.radioByte (d : Dev) (n i : Nat) : Nat := byteAt (d.tables.radio.getD n []) i
/-- PA_PRESENT and RXIN_PRESENT of a chain. -/
def Dev.paPresent (d : Dev) (n : Nat) : Bool := d.radioByte n 0 % 4 == 3

/-- A chain can serve a port's route (R174, R177). -/
def Dev.uhfServes (d : Dev) (n p : Nat) : Bool :=
  let b := d.uhfProfile p
  profRoute b == 0 || (profRoute b != 3 && profChain b == n && d.paPresent n)

/-- A port that the arbiter may connect (R177). -/
def Dev.uhfPortOk (d : Dev) (p : Nat) : Bool :=
  d.flag (F.UHFPn_CFG_ENABLE p) && uhfProfOk (d.uhfProfile p) && !d.flag (F.UHFPn_STAT_FAULT p)

/-- Chains `n` and `m` on ports `p` and `q` break R204. -/
def Dev.steerBad (d : Dev) (n p m q : Nat) : Bool :=
  n == m || p == q || !d.uhfHealthy n || !d.uhfHealthy m || !d.uhfServes n p || !d.uhfServes m q ||
    !d.uhfPortOk p || !d.uhfPortOk q

/-- The chains of a chain's emission: itself and its pair partner. -/
def Dev.uhfTeam (d : Dev) (n : Nat) : List Nat := n :: (d.uhfc n).partner.toList

/-- The partner's port. -/
def Dev.uhfPairPort (d : Dev) (n : Nat) : Option Nat := (d.uhfc n).partner.bind fun m => (d.uhfc m).port

/-- The chain's carrier is on: CW, TX or RX (R180). -/
def Dev.uhfOn (d : Dev) (n : Nat) : Bool := decide (d.ust n ≥ Ust.cw)

/-- QSTAT.DEPTH as the queue stands. -/
def Dev.showQueue (d : Dev) (n : Nat) : Dev := d.setFld (F.UHFCn_QSTAT_DEPTH n) (d.uhfc n).queue.length

/-- A command enters the radio queue of 8, or its producer waits with it (R184). -/
def Dev.radioPush (d : Dev) (n : Nat) (c : RadioCmd) : Dev :=
  (d.onUhf n fun u =>
    if u.queue.length < 8 && u.backlog.isEmpty then { u with queue := u.queue ++ [(c, d.time)] }
    else { u with backlog := u.backlog ++ [c] }).showQueue n

/-- The command at the head leaves the queue; a command that waits for room enters (R184). -/
def Dev.radioPop (d : Dev) (n : Nat) : Dev :=
  (d.onUhf n fun u => { u with
    queue := u.queue.drop 1 ++ (u.backlog.take 1).map fun c => (c, d.time), backlog := u.backlog.drop 1 }).showQueue n

/-- A command put before the head of the queue; the last one goes back to its producer where the queue is full. -/
def Dev.radioFront (d : Dev) (n : Nat) (c : RadioCmd) : Dev :=
  (d.onUhf n fun u => { u with
    queue := (c, d.time) :: u.queue.take 7, backlog := (u.queue.drop 7).map (·.1) ++ u.backlog }).showQueue n

/-- The command at the head. -/
def Dev.radioHead (d : Dev) (n : Nat) : Option (RadioCmd × Nat) := (d.uhfc n).queue.head?

/-- REQ of the sets drops where no carrier on or waiting needs it (R263). Log 62 DEDUCED. -/
def Dev.coexIdle (d : Dev) : Dev :=
  let on (n : Nat) : Bool := d.uhfOn n || (d.uhfc n).waitGrant
  let b (n : Nat) : Bool := on n && ((d.uhfc n).port.map d.gatedB).getD false
  d.coexRelease (d.gatedA && (on 0 || on 1)) (b 0 || b 1)

/-- PRI of the sets as the exchanges in hand ask for it (R264): high while REQ is, for an attempt whose tag carries LCLASS 1. -/
def Dev.coexPri (d : Dev) : Dev :=
  let hot (g : Nat → Bool) : Bool := [0, 1].any fun n =>
    let u := d.uhfc n
    u.master && (d.uhfOn n || u.waitGrant) && u.att.any (·.tag.lclass) && (d.uhfTeam n).any fun k => (d.uhfc k).port.any g
  { d with
    coexA := { d.coexA with pri := d.coexA.req && hot fun _ => d.gatedA }
    coexB := { d.coexB with pri := d.coexB.req && hot d.gatedB } }.showCoex

/-- The queue emptied; a ramp that waited for its grant is given up. -/
def Dev.radioClear (d : Dev) (n : Nat) : Dev :=
  let w := (d.uhfc n).waitGrant
  let d := (d.onUhf n fun u => { u with queue := [], backlog := [], waitGrant := false }).showQueue n
  if w then d.coexIdle else d

/-! ### Calibration (R186) -/

/-- The die temperature, signed °C. -/
def Dev.dieTemp (d : Dev) : Int := toSigned 8 (d.fld (F.UHFCn_SYN_STAT_TEMP_NOW 0))

/-- An entry is fresh: not stale by RECAL, and within 8 °C. -/
def Dev.calFresh (d : Dev) (e : CalEntry) : Bool := !e.stale && decide ((d.dieTemp - e.temp).natAbs < 8)

/-- The stored entry of a channel index. -/
def Dev.calEntry (d : Dev) (n k : Nat) : Option CalEntry := (d.uhfc n).cal.find? (·.index == k)

/-- CALMAP, ENTRY_VALID and TEMP_CAL as the table stands (R209). -/
def Dev.showCal (d : Dev) (n : Nat) : Dev :=
  let m := ((d.uhfc n).cal.filter d.calFresh).foldl (fun a e => a ||| 2 ^ e.index) 0
  let d := (d.setFld (F.UHFCn_CALMAP_HI_MAP n) (m / 2 ^ 32)).setFld (F.UHFCn_CALMAP_LO_MAP n) (m % 2 ^ 32)
  match d.calEntry n (d.fld (F.UHFCn_STAT_CH_INDEX n)) with
  | some e => (d.setFlag (F.UHFCn_SYN_STAT_ENTRY_VALID n) true).setFld (F.UHFCn_SYN_STAT_TEMP_CAL n) (ofInt 8 e.temp)
  | none => d.setFlag (F.UHFCn_SYN_STAT_ENTRY_VALID n) false

/-- The temperature is sampled (R186). -/
def Dev.sampleTemp (d : Dev) (t : BitVec 8) : Dev :=
  d.forEach [0, 1] fun d n => (d.setFld (F.UHFCn_SYN_STAT_TEMP_NOW n) t.toNat).showCal n

/-- Every stored entry of a chain made stale (R186). -/
def Dev.recalChain (d : Dev) (n : Nat) : Dev :=
  (d.onUhf n fun u => { u with cal := u.cal.map fun e => { e with stale := true } }).showCal n

/-! ### Carrier (R181, R188, R192–R194, R256, R263) -/

/-- TRAINED as it stands. -/
def Dev.untrain (d : Dev) (n : Nat) : Dev :=
  (d.onUhf n fun u => { u with untrained := true }).setFlag (F.UHFCn_STAT_TRAINED n) false

/-- One chain's carrier ramped down to READY (R181, R193), or cut (R189): its span closes and the PA goes off. -/
def Dev.rampDown1 (d : Dev) (n : Nat) : Dev :=
  if !d.uhfOn n then d
  else
    let d := (d.setUst n Ust.ready).rampOff n
    let d := (d.setFlag (F.UHFCn_PA_PAEN n) false).setFld (F.UHFCn_PA_PABIAS n) 0
    let d := ((d.setFld (F.UHFCn_PA_DRIVE n) 0).setFld (F.UHFCn_POWER_MEAS n) 0).onUhf n fun u => { u with out := 0 }
    match (d.uhfc n).port with
    | some p => d.setFlag (F.UHFPn_STAT_ACTIVE p) false
    | none => d

/-- The carrier of a chain's emission ramped down. -/
def Dev.rampDown (d : Dev) (n : Nat) : Dev :=
  ((d.forEach (d.uhfTeam n) Dev.rampDown1).setFlag F.UHF_STEER_ACTIVE false).coexIdle

/-- A chain goes to STANDBY: its synthesiser is off (R181, R198). -/
def Dev.toStandby (d : Dev) (n : Nat) : Dev :=
  let d := d.rampDown n
  d.forEach (d.uhfTeam n) fun d k =>
    if d.ust k = Ust.off then d
    else
      let d := ((d.setUst k Ust.standby).setFlag (F.UHFCn_STAT_LOCKED k) false).setFlag (F.UHFCn_STAT_CALIBRATING k) false
      (d.onUhf k fun u => { u with tuning := none }).untrain k

/-- A chain goes OFF (R181). -/
def Dev.toOff (d : Dev) (n : Nat) : Dev := ((d.rampDown1 n).coexIdle.toStandby n).setUst n Ust.off

/-- The TXPWR target of a chain on a port (R192, R201). -/
def Dev.uhfTarget (d : Dev) (n p : Nat) (direct : Bool) : Nat :=
  let b := d.uhfProfile p
  if direct && d.flag (F.UHFCn_TXCFG_PWR_OVR n) then
    min (d.fld (F.UHFCn_TXCFG_TXPWR n)) (if profRoute b = 0 then 124 else 160)
  else profTxpwr b

/-- The receive gain of a chain on a port (R201). -/
def Dev.uhfGain (d : Dev) (n p : Nat) (direct : Bool) : Nat :=
  if direct && d.flag (F.UHFCn_RXCFG_GAIN_OVR n) then d.fld (F.UHFCn_RXCFG_GAIN n) else byteAt (d.uhfProfile p) 2 % 32

/-- The permit shown with a port held (R209, R253). -/
def Dev.showPermit (d : Dev) (n : Nat) : Dev :=
  match (d.uhfc n).port with
  | none => d.setFld (F.UHFCn_POWER_PERMIT n) 0
  | some p => d.setFld (F.UHFCn_POWER_PERMIT n) (d.uhfPermit p (d.uhfPairPort n)).toNat

/-- The open-loop PAOUT drive in 0.25 dB steps above −20 dBm for an output in TXPWR encoding (R194). Log 78 DEDUCED. -/
def Dev.openDrive (d : Dev) (n out : Nat) : Nat :=
  let b := d.tables.radio.getD n []
  min ((400 + 10 * (out : Int) - 4 * (numAt b 12 2 : Int)).fdiv 10).toNat (byteAt b 14)

/-- A number of 0.25 dB steps above −10.00 dBm as POWER.MEAS holds it. -/
def measCode (x : Int) : Nat := (max 0 (min 511 x)).toNat

/-- What a chain measures of its output, in TXPWR encoding (R192, R194): the forward detector's reading on an INTERNAL route; on an external
one PDET_ZERO + V / PDET_SLOPE + COUPLING, V being the 10-bit code of 0–1.8 V. Log 78 DEDUCED. -/
def Dev.powerReading (d : Dev) (n p code : Nat) : Nat :=
  if profRoute (d.uhfProfile p) = 0 then measCode code
  else
    let b := d.tables.radio.getD n []
    let slope := sint16At b 6
    if slope = 0 then 0
    else
      let num := (4 * (sint16At b 8 + (numAt b 10 2 : Int)) + 400) * 1024 * slope + 720000 * (code : Int)
      let den := 10240 * slope
      measCode (if den < 0 then divOpen (-num) (-den) else divOpen num den)

/-- The output a chain goes for: the lower of the target in force and the permit, in TXPWR encoding (R192, R194). -/
def Dev.uhfGoal (d : Dev) (n p : Nat) : Nat :=
  min (d.fld (F.UHFCn_POWER_TARGET n)) (d.uhfPermit p (d.uhfPairPort n)).toNat

/-- The return loss measured on a port (R196, R211): open on an INTERNAL route where no event gives it, 0 on an external one.
Log 8 DESIGN CHOICE. -/
def Dev.measureRl (d : Dev) (p : Nat) : Dev :=
  if profRoute (d.uhfProfile p) = 0 then
    { (d.setFld (F.UHFPn_STAT_RL p) ((Config.freeWord d.freeCtr).toNat % 256)) with freeCtr := d.freeCtr + 1 }
  else d.setFld (F.UHFPn_STAT_RL p) 0

/-- One chain's carrier ramped up on its channel (R181, R188, R193, R194, R256): dwell starts, the port counts the ramp, `meas` is the power
reading at its end, with the return loss. -/
def Dev.rampUp1 (d : Dev) (n meas : Nat) (direct : Bool) : Dev :=
  match (d.uhfc n).port with
  | none => d
  | some p =>
    let d := (d.rampOn n (d.fld (F.UHFCn_STAT_CH_INDEX n))).captureEvent (0x44 + n)
    let d := (d.showPermit n).setFld (F.UHFCn_POWER_TARGET n) (d.uhfTarget n p direct)
    let d := (d.setFld (F.UHFCn_POWER_MEAS n) (d.powerReading n p meas)).setFld (F.UHFCn_RXLVL_GAIN n) (d.uhfGain n p direct)
    let d := ((d.setFlag (F.UHFPn_STAT_ACTIVE p) true).setFld (F.UHFPn_STAT_CHAIN p) n).bump (F.UHFPn_CNT_ONS p) 1
    let ext := profRoute (d.uhfProfile p) != 0
    let out := d.uhfGoal n p
    let d := if ext then
        ((d.setFlag (F.UHFCn_PA_PAEN n) true).setFld (F.UHFCn_PA_PABIAS n) (profPabias (d.uhfProfile p))).setFld
          (F.UHFCn_PA_DRIVE n) (d.openDrive n out)
      else d
    ((d.measureRl p).setUst n Ust.cw).onUhf n fun u => { u with onAt := d.time, waitGrant := false, out := out }

/-- The output moves towards the lower of target and permit (R194, R252): at once on an INTERNAL route; on an external one the drive moves by
at most `k` steps of 0.25 dB, up to DRIVE_MAX, by what the reading is off. The reading follows, and the canceller's weights are scaled (R198).
Log 136 DESIGN CHOICE. -/
def Dev.powerStep (k : Nat) (d : Dev) (n : Nat) : Dev :=
  match (d.uhfc n).port with
  | none => d
  | some p =>
    let meas := d.fld (F.UHFCn_POWER_MEAS n)
    let drive := d.fld (F.UHFCn_PA_DRIVE n)
    let most := byteAt (d.tables.radio.getD n []) 14
    let goal : Int := d.uhfGoal n p
    let ext := profRoute (d.uhfProfile p) != 0
    let step : Int :=
      if ext then max (-(drive : Int)) (min ((most : Int) - drive) (max (-(k : Int)) (min k (goal - meas)))) else goal - (d.uhfc n).out
    if !d.uhfOn n || step = 0 then d
    else
      let meas' := measCode (meas + step)
      let scale (f : Fld) (d : Dev) : Dev := d.setFld f (Config.scaleWeight (BitVec.ofNat 10 (d.fld f)) meas meas').toNat
      let d := scale (F.UHFCn_CANC_CQ n) (scale (F.UHFCn_CANC_CI n) (d.setFld (F.UHFCn_POWER_MEAS n) meas'))
      let d := if ext then d.setFld (F.UHFCn_PA_DRIVE n) (drive + step).toNat else d
      d.onUhf n fun u => { u with out := (((u.out : Nat) : Int) + step).toNat }

/-! ### Steering (R205, R206, R230) -/

/-- The member phase code of a pair for a PHASE: the member port's STEER_TRIM added (R205). -/
def Dev.memberPhase (d : Dev) (n phase : Nat) : Nat :=
  match d.uhfPairPort n with
  | some q => (phase + profTrim (d.uhfProfile q)) % 64
  | none => 0

/-- The chains of an emission that is on return to CW. -/
def Dev.teamCw (d : Dev) (n : Nat) : Dev := if d.uhfOn n then d.forEach (d.uhfTeam n) fun d k => d.setUst k Ust.cw else d

/-- The member phase of a pair changed (R206): in CW only, and training follows. -/
def Dev.steerTo (d : Dev) (n code : Nat) : Dev :=
  if (d.uhfc n).partner.isNone || (d.uhfc n).phase = code then d
  else ((d.teamCw n).untrain n).onUhf n fun u => { u with phase := code }

/-! ### What keeps a carrier off (R211, R229, R252, R256, R259, R262, R267) -/

/-- The channel of a chain's occupation has been masked out (R252). -/
def Dev.maskedOut (d : Dev) (n : Nat) : Bool := (d.occ n).any fun o => !bit d.limits.chmask o.chan

/-- A chain's emission lacks a grant it needs (R262, R265). Log 81 DEDUCED. -/
def Dev.ungranted (d : Dev) (n : Nat) : Bool :=
  (d.uhfTeam n).any fun k => ((d.uhfc k).port.map fun p => !d.coexGranted p).getD false

/-- The permit of a chain's emission lets no carrier be emitted (R254). -/
def Dev.unpermitted (d : Dev) (n : Nat) : Bool := (d.uhfc n).port.any fun p => decide (d.uhfPermit p (d.uhfPairPort n) < 0)

/-- The carrier must not stay on at a slot boundary: dwell, a masked channel, no permit, duty budget, a window, or a withdrawn grant (R229,
R252, R254, R256, R259, R267). Log 146 DESIGN CHOICE. -/
def Dev.mustPause (d : Dev) (n : Nat) : Bool :=
  d.dwellSpent n || d.maskedOut n || d.unpermitted n || d.dutySpent || d.windowOpen || d.ungranted n

/-- A carrier that must not stay on comes down. -/
def Dev.pauseIdle (d : Dev) (n : Nat) : Dev := if d.uhfOn n && d.mustPause n then d.rampDown n else d

/-! ### Frames (R237, R238, R245) -/

/-- Fields of a UHF frame that the reply gives: flags without COLLIDED and CAPTURED, valid bits of the last byte, TAG_ERR. -/
def Dev.uhfFrame (d : Dev) (n : Nat) (a : UhfAttempt) (payload ident : Bytes) (code flags lastBits tagErr : Nat) (last : Bool) :
    ResFrame :=
  let payload := if code = 0 then payload else []
  let rest := match a.rx with
    | none => []
    | some x =>
      let fl := b2n (a.slotColl || x.collided) * 128 + b2n (a.slotCapt || x.captured) * 32 + flags
      let steer := if (d.uhfc n).partner.isSome then 128 + (d.uhfc n).phase else 0
      beBytes 1 fl ++ beBytes 1 (x.pre.hyp.val * 32 + uM a.params * 8 + lastBits) ++
        beBytes 1 (d.fld (F.UHFCn_STAT_CH_INDEX n)) ++ beBytes 2 x.pre.rssi.toNat ++ beBytes 2 x.pre.phase.val ++
        beBytes 1 x.pre.blfDev.toNat ++ beBytes 1 steer ++ beBytes 2 a.slot ++ beBytes 1 (min 255 a.round) ++ beBytes 1 a.q ++
        beBytes 1 tagErr ++ beBytes 1 (d.fld (F.UHFCn_RXLVL_GAIN n))
  { tag := a.tag, payload := payload, code := code, last := last, ident := ident,
    status := fit 20 (beBytes 2 payload.length ++ beBytes 1 code ++ rest) }

/-- The registers of the last frame passed on, and the error counts of R245. -/
def Dev.uhfShowFrame (d : Dev) (n : Nat) (f : ResFrame) : Dev :=
  let s := f.status
  let fl := byteAt s 3
  let fm := byteAt s 4
  let d := d.setReg (R.UHFCn_RXSTAT n) (BitVec.ofNat 32
    (f.code * 2 ^ 24 + fm / 32 * 2 ^ 21 + fm / 8 % 4 * 2 ^ 19 + fl / 4 % 2 * 2 ^ 18 + fl / 16 % 2 * 2 ^ 17 + fl / 32 % 2 * 2 ^ 16 +
      fl / 128 * 2 ^ 15 + fl / 64 % 2 * 2 ^ 14 + numAt s 0 2 % 2 ^ 11))
  let d := d.setReg (R.UHFCn_RXLVL n) (BitVec.ofNat 32 (numAt s 6 2 * 2 ^ 16 + d.fld (F.UHFCn_RXLVL_GAIN n)))
  let d := d.setReg (R.UHFCn_RXPH n) (BitVec.ofNat 32 (byteAt s 10 * 2 ^ 24 + byteAt s 16 * 2 ^ 16 + numAt s 8 2))
  let d := if f.code = Code.COLLIDED || (0x60 ≤ f.code && f.code ≤ 0x7F) then d.setFld (F.UHFCn_STAT_LAST_CODE n) f.code else d
  if f.code = Code.UHF_NO_REPLY then d.bump (F.UHFCn_ERRCNT_NOREPLY n) 1
  else if f.code = Code.UHF_TAG_ERROR then d.bump (F.UHFCn_ERRCNT_TAGERR n) 1
  else if f.code = Code.TAG_AUTH_FAIL then d.bump (F.UHFCn_ERRCNT_AUTHFAIL n) 1
  else d

/-- A frame complete in a buffer of the chain (R22). -/
def Dev.uhfPush (d : Dev) (n : Nat) (f : ResFrame) : Dev :=
  (d.uhfShowFrame n f).onUhf n fun u => { u with bufs := u.bufs ++ [f] }

/-- What the transaction engine makes of a frame shows in the registers that describe it (R237, R245), where no later frame has come. -/
def Dev.uhfRejudge (d : Dev) (n code : Nat) : Dev :=
  if (d.uhfc n).bufs.isEmpty then (d.setFld (F.UHFCn_RXSTAT_CODE n) code).setFld (F.UHFCn_RXSTAT_LENGTH n) 0 else d

/-- The frame that an attempt with no frame passes on (R237). -/
def uhfBare (t : FrameTag) (code : Nat) : ResFrame :=
  { tag := t, status := emptyStatus true code, payload := [], code := code, last := true }

/-- The step's AFTER applied (R181, R183). -/
def Dev.applyAfter (d : Dev) (n after : Nat) : Dev :=
  match after with
  | 1 => d.rampDown n
  | 2 => d.toStandby n
  | _ => d.teamCw n

/-- The step an attempt belongs to. -/
def Dev.stepOf (d : Dev) (t : FrameTag) : Option Step := (d.byHandle t.handle).bind (·.step)

/-- The phase state of an attempt in round `r` (R230): that of the round, or the one its step keeps since it singulated its tag.
Log 76 DEDUCED. -/
def Dev.phaseState (d : Dev) (a : UhfAttempt) (r : Nat) : Nat :=
  ((d.stepOf a.tag).bind (·.phaseKeep)).getD ((r - 1) % uNphase a.params)

/-- UHFCn_ROUND and SWEEP as the attempt stands (R245). -/
def Dev.showRound (d : Dev) (n : Nat) : Dev :=
  match (d.uhfc n).att with
  | none => (d.setReg (R.UHFCn_ROUND n) 0#32).setReg (R.UHFCn_SWEEP n) 0#32
  | some a =>
    let d := d.setReg (R.UHFCn_ROUND n) (BitVec.ofNat 32 (min 255 a.round * 2 ^ 24 + a.qfp * 16 / 20 * 2 ^ 16 + a.slot % 2 ^ 16))
    let d := d.setFld (F.UHFCn_SWEEP_CODE n) (if (d.uhfc n).partner.isSome then (d.uhfc n).phase else 0)
    if uNphase a.params > 1 then
      (d.setFlag (F.UHFCn_SWEEP_SWEEPING n) true).setFld (F.UHFCn_SWEEP_STATE n) (d.phaseState a a.round)
    else d

/-- The attempt on a chain put back. -/
def Dev.setUhfAtt (d : Dev) (n : Nat) (a : UhfAttempt) : Dev := (d.onUhf n fun u => { u with att := some a }).showRound n

/-- The attempt ends with its last frame (R309); a frame held back goes first. AFTER is not applied: the synthesiser goes on (R187). -/
def Dev.uhfFinish (d : Dev) (n : Nat) (a : UhfAttempt) (f : ResFrame) : Dev :=
  let d := match a.held with
    | some h => d.uhfPush n h
    | none => d
  let d := (((d.uhfPush n f).radioClear n).unhold n).onUhf n fun u => { u with att := none }
  d.showRound n

/-- The attempt ends with its last frame, AFTER applies (R183), and a carrier that must not stay on comes down. -/
def Dev.uhfEnd (d : Dev) (n : Nat) (a : UhfAttempt) (f : ResFrame) : Dev :=
  ((d.uhfFinish n a f).applyAfter n (uAfter a.params)).pauseIdle n

/-- The attempt ends with a code; only a reply that was judged leaves its measurements in the frame. -/
def Dev.uhfFail (d : Dev) (n : Nat) (a : UhfAttempt) (code : Nat) : Dev :=
  d.uhfEnd n a (d.uhfFrame n a [] [] code 0 0 0 true)

/-- The attempt ends with a code and no frame of its own (R237). -/
def Dev.uhfFailBare (d : Dev) (n : Nat) (a : UhfAttempt) (code : Nat) : Dev := d.uhfFail n { a with rx := none } code

/-- The attempt stopped where it stands: nothing more is passed on; its frames in the chain are dropped. -/
def Dev.uhfCut (d : Dev) (n : Nat) : Dev :=
  match (d.uhfc n).att with
  | none => d
  | some a =>
    let d := ((d.radioClear n).unhold n).onUhf n fun u => { u with
      att := none, bufs := u.bufs.filter fun f => f.tag.handle != a.tag.handle }
    d.showRound n

/-- The attempt stopped where it stands (R71, R296), and its AFTER applied. -/
def Dev.uhfAbort (d : Dev) (n : Nat) : Dev :=
  match (d.uhfc n).att with
  | none => d
  | some a => (d.uhfCut n).applyAfter n (uAfter a.params)

/-- The step singulates its object: KIND 1–3. -/
def UhfAttempt.singulates (a : UhfAttempt) : Bool := 1 ≤ uKind a.params && uKind a.params ≤ 3

/-- The dwell left on the channel is less than the worst case of a step that singulates (R229). Log 146 DESIGN CHOICE. -/
def Dev.dwellShort (d : Dev) (n : Nat) (a : UhfAttempt) : Bool :=
  a.singulates && decide (d.dwell n + a.worst > d.limits.dwellMax * 1000)

/-- The channel index committed for a chain's direct steps and sweeps (R190): that of a checked copy that waits for the next channel change,
else the active one. -/
def Dev.chanWanted (d : Dev) (n : Nat) : Nat :=
  match d.applying.find? (·.1 == Group.uhf (if n = 0 then 0 else 1)) with
  | some x => ((x.2.head?).map fun y => bitsOf y.2 29 24).getD (d.fld (F.UHFCn_CHAN_CH_INDEX n))
  | none => d.fld (F.UHFCn_CHAN_CH_INDEX n)

/-- What an attempt on a chain needs first: the carrier off where it must come down, then port, channel and carrier put in the queue (R176,
R184, R198, R255). A scheduled step takes the governor's next channel unless the chain's occupation goes on; a direct step the committed one
(R190). A pair is tuned together (R205). Log 80 DEDUCED. -/
def Dev.radioSetup (d : Dev) (n : Nat) (a : UhfAttempt) (down : Bool) : Dev :=
  let k := d.fld (F.UHFCn_STAT_CH_INDEX n)
  let want := d.chanWanted n
  let there (c : Nat) : Bool := (d.uhfTeam n).all fun m => match (d.uhfc m).tuning with
    | some t => t == c
    | none => d.flag (F.UHFCn_STAT_LOCKED m) && d.fld (F.UHFCn_STAT_CH_INDEX m) == c
  let stay := if a.sched then there k && (d.occ n).map (·.chan) == some k && d.chanOk n k && !d.dwellShort n a
    else there want && !((d.occ n).any fun o => o.chan == want && (d.dwellSpent n || d.dwellShort n a))
  let portNow := (d.uhfTeam n).all fun m => d.flag (F.UHFCn_STAT_PORT_VALID m) && (d.uhfc m).port == some (d.fld (F.UHFCn_STAT_PORT m))
  let on := (d.uhfTeam n).all fun m => d.uhfOn m
  let d := if down && d.uhfOn n then d.radioPush n .carrierOff else d
  let d := if portNow then d else d.radioPush n (.port ((d.uhfc n).port.getD 0))
  let d := if stay then d else d.radioPush n (.channel (if a.sched then 0xFF else want))
  if stay && portNow && on && !down then d else d.radioPush n .carrierOn

end Sys2Proof.Machine
end

