-- ==== Sys2Proof/Machine/UhfEngine.lean ====
section
/-!
DEFINITION. The UHF protocol engine (Chapter 7): rounds and the Q rule, singulated access, tag authentication, and the radio and
reply events of the table.
-/

namespace Sys2Proof.Machine

open Sys2Proof

/-! ### Rounds (R225, R226, R230) -/

/-- The packet kinds that open a reply window (R212, R225–R234). -/
def Pkt.expects (p : Pkt) : Bool :=
  match p with
  | .select _ | .ownSelect | .nak => false
  | _ => true

/-- The packet kinds whose reply is the RN16 of a slot. -/
def Pkt.slotCmd (p : Pkt) : Bool :=
  match p with
  | .query | .queryRep | .queryAdjust _ => true
  | _ => false

/-- The packets that a spent dwell, an open window or a spent budget holds back: those that start a slot or an exchange of their own
(R229, R256, R259, R267). -/
def Pkt.opens (p : Pkt) : Bool :=
  match p with
  | .select _ | .ownSelect | .raw => true
  | _ => p.slotCmd

/-- The packets whose reply window is that of a delayed reply, 20 ms (R215): Authenticate, the second Kill, and every access command but
Read. -/
def Pkt.delayed (p : Pkt) (a : UhfAttempt) : Bool :=
  match p with
  | .access => accessCmd a.tmpl a.tbits != .read
  | .auth | .kill true => true
  | _ => false

/-! ### Packets and their bits (R183, R184, R212, R218, R225, R231–R234) -/

/-- An entry of the Select table (R244). -/
def Dev.selEntry (d : Dev) (k : Nat) : Bytes := slice d.tables.air (64 + 32 * k) 32

/-- The kill password of an attempt (R233): the first four bytes of the tag's key. -/
def Dev.killPassword (d : Dev) (a : UhfAttempt) : Bytes := (((d.stepOf a.tag).bind (·.ctx)).getD []).take 4

/-- The bits of a packet, with its CRC (R212). For KIND 1–3 the Query's Sel is SL, whatever SEL holds (R231). -/
def Dev.packetBits (d : Dev) (a : UhfAttempt) (p : Pkt) : List Bool :=
  match p with
  | .select k => selectOf (d.selEntry k)
  | .ownSelect => ownSelect a.object
  | .query => queryFrame a.params (if a.singulates then 3 else uSel a.params) (roundTarget a.params a.round) a.q
  | .queryRep => queryRepFrame a.params
  | .queryAdjust up => queryAdjustFrame a.params up
  | .ack => ackFrame a.rn16
  | .nak => nakFrame
  | .reqRn => reqRnFrame a.rn16
  | .access => accessFrame a.tmpl a.tbits a.handle
  | .auth => authFrame a.params a.tmpl (((d.stepOf a.tag).map (·.challenge)).getD []) a.handle
  | .kill second => killFrame (d.killPassword a) second a.handle
  | .raw => rawFrame a.params a.tmpl a.tbits

/-- The AFTER of a packet (R183, R217): that of the step for its final packet, CW for the others. -/
def UhfAttempt.afterOf (a : UhfAttempt) (p : Pkt) : Nat :=
  match p with
  | .access | .auth | .kill true | .raw => uAfter a.params
  | _ => 0

/-- A packet of the attempt put in the radio queue. -/
def Dev.pushPkt (d : Dev) (n : Nat) (a : UhfAttempt) (p : Pkt) : Dev := d.radioPush n (.packet p (d.packetBits a p) (a.afterOf p))

/-- The packets that start a round: the step's Selects, the device's own for KIND 1–3, and the Query (R225, R231). -/
def UhfAttempt.roundPackets (a : UhfAttempt) : List Pkt :=
  ((List.range (uSelCount a.params)).map fun k => Pkt.select (uSelFirst a.params + k)) ++
    (if uKind a.params = 0 then [] else [.ownSelect]) ++ [.query]

/-- The PHASE of an attempt on a pair (R205, R230): that of its phase state; of a RAW step, which begins no round, UHF_STEER.PHASE.
Log 76 DEDUCED. -/
def Dev.phaseOf (d : Dev) (a : UhfAttempt) : Nat :=
  if uKind a.params = 4 then d.fld F.UHF_STEER_PHASE
  else (uPhStart a.params + d.phaseState a a.round * uPhStep a.params) % 64

/-- A round begins (R225, R230): the phase is changed in CW, and its packets enter the queue. Log 76 DEDUCED. -/
def Dev.beginRound (d : Dev) (n : Nat) (a : UhfAttempt) : Dev :=
  let d := d.steerTo n (d.memberPhase n (d.phaseOf a))
  let a := { a with slot := 0, slots := 0, awaiting := none, rx := none, foundNew := false, collRound := false,
                    slotColl := false, slotCapt := false, acks := 0, nakResult := none, q := (a.qfp + 10) / 20 }
  a.roundPackets.foldl (fun d p => d.pushPkt n a p) (d.setUhfAtt n a)

/-- What an attempt sends first: its round, or the frame of a RAW step. -/
def Dev.beginWork (d : Dev) (n : Nat) (a : UhfAttempt) : Dev :=
  if uKind a.params = 4 then (d.steerTo n (d.memberPhase n (d.phaseOf a))).pushPkt n a .raw else d.beginRound n a

/-- The attempt begins (R225, R226): the radio is set up, then the first round, or the RAW frame. -/
def Dev.uhfBegin (d : Dev) (n : Nat) : Dev :=
  match (d.uhfc n).att with
  | none => d
  | some a =>
    let a := { a with qfp := 20 * uQInit a.params, round := 1, margin := d.fld (F.UHFCn_AIRCFG_CAPTURE_MARGIN n) }
    ((d.setUhfAtt n a).radioSetup n a (d.mustPause n)).beginWork n a

/-- A new round with the same number and Qfp, the carrier going off before it where it is on (R184, R229). -/
def Dev.uhfRestart (d : Dev) (n : Nat) : Dev :=
  match (d.uhfc n).att with
  | none => d
  | some a =>
    let a := { a with awaiting := none, rx := none }
    (((d.radioClear n).setUhfAtt n a).radioSetup n a true).beginWork n a

/-- The INVENTORY step ends (R228): OK with the last tag's frame, MORE if ROUNDS ended it on a collision; else UHF_NO_REPLY. -/
def Dev.inventoryEnd (d : Dev) (n : Nat) (a : UhfAttempt) (more : Bool) : Dev :=
  match a.held with
  | none => d.uhfFailBare n a Code.UHF_NO_REPLY
  | some f =>
    d.uhfEnd n { a with held := none }
      { f with last := true, status := overlay f.status 3 (beBytes 1 (byteAt f.status 3 + b2n more * 8)) }

/-- A round has ended (R225, R228, R231): the step's end, or its next round. -/
def Dev.roundEnd (d : Dev) (n : Nat) (a : UhfAttempt) : Dev :=
  let a := { a with emptyRounds := if a.foundNew then 0 else a.emptyRounds + 1 }
  let inv := uKind a.params == 0
  if inv && uEmptyStop a.params != 0 && decide (a.emptyRounds ≥ uEmptyStop a.params) then d.inventoryEnd n a false
  else if a.round ≥ uRounds a.params then
    (if inv then d.inventoryEnd n a a.collRound else d.uhfFailBare n a Code.UHF_NOT_FOUND)
  else
    let a := { a with round := a.round + 1 }
    if d.mustPause n then (d.setUhfAtt n a).uhfRestart n else d.beginRound n a

/-- The Q rule after a slot (R226): its result is 0 single, 1 empty, 2 collided, abandoned or captured. Log 74 DEDUCED. -/
def Dev.slotEnd (d : Dev) (n : Nat) (a : UhfAttempt) (result : Nat) : Dev :=
  let c := uC a.params
  let qfp := match result with
    | 1 => max (20 * uQMin a.params) (a.qfp - c)
    | 2 => min (20 * uQMax a.params) (a.qfp + c)
    | _ => a.qfp
  let d := if result = 1 then d.bump (F.UHFCn_SLOTCNT0_EMPTY n) 1 else d
  let d := if a.slotCapt then d.bump (F.UHFCn_SLOTCNT1_CAPTURE n) 1 else d
  let qn := (qfp + 10) / 20
  let a := { a with qfp := qfp, awaiting := none, rx := none, acks := 0, collRound := a.collRound || result == 2
                    slotColl := false, slotCapt := false, nakResult := none }
  let pause (d : Dev) (a : UhfAttempt) (p : Pkt) : Dev :=
    if d.mustPause n then (d.setUhfAtt n a).uhfRestart n else (d.setUhfAtt n a).pushPkt n a p
  if qn ≠ a.q then
    let up := decide (qn > a.q)
    pause d { a with q := if up then a.q + 1 else a.q - 1, slots := 0 } (.queryAdjust up)
  else if a.slots = 2 ^ a.q then d.roundEnd n a
  else pause d a .queryRep

/-- The result a slot that did not singulate leaves for the Q rule. Log 74 DEDUCED. -/
def UhfAttempt.slotResult (a : UhfAttempt) : Nat := if a.slotColl || a.slotCapt then 2 else 0

/-! ### Identifiers (R227, R231, R237) -/

/-- The EPC in a payload of PC, XPC words and EPC: an XPC_W1 follows a PC with its XI bit set, an XPC_W2 an XPC_W1 with XEB.
Log 77 PRESUMED. -/
def epcOf (payload : Bytes) : Bytes :=
  if bit (byteAt payload 0) 1 then (if bit (byteAt payload 2) 7 then payload.drop 6 else payload.drop 4) else payload.drop 2

/-- The last Select of a round truncates the reply: its entry (R227); the device's own Select never does. -/
def Dev.truncating (d : Dev) (a : UhfAttempt) : Option Bytes :=
  if uKind a.params != 0 || uSelCount a.params = 0 then none
  else
    let e := d.selEntry (uSelFirst a.params + uSelCount a.params - 1)
    if bit (byteAt e 1) 7 then some e else none

/-- The length in bits of a reply's payload. -/
def replyBits (r : UhfReply) : Nat := if r.lastBits.val = 0 then 8 * r.bytes.length else 8 * (r.bytes.length - 1) + r.lastBits.val

/-- Payload, identifier, TRUNCATED flag and LAST_BITS of an identifier reply (R227, R237): a truncated one is rebuilt as the mask and the bits
received. Log 75 DEDUCED. -/
def Dev.identReply (d : Dev) (a : UhfAttempt) (r : UhfReply) : Bytes × Bytes × Nat × Nat :=
  match d.truncating a with
  | none => (r.bytes, epcOf r.bytes, 0, r.lastBits.val)
  | some e =>
    let bits := msbBits (slice e 12 20) (byteAt e 8) ++ msbBits r.bytes (replyBits r)
    (packMsb bits, packMsb bits, 4, bits.length % 8)

/-! ### Access (R231–R234) -/

/-- The step of an attempt changed. -/
def Dev.onStepOf (d : Dev) (t : FrameTag) (f : Step → Step) : Dev :=
  match d.liveSlot t.handle with
  | some s => d.onChan s fun c => { c with step := c.step.map f }
  | none => d

/-- The tag is singulated: its step keeps the phase state of the round (R230), and Req_RN follows (R232). -/
def Dev.singulated (d : Dev) (n : Nat) (a : UhfAttempt) : Dev :=
  let d := if a.slotCapt then d.bump (F.UHFCn_SLOTCNT1_CAPTURE n) 1 else d
  let d := d.onStepOf a.tag fun st => { st with phaseKeep := some (d.phaseState a a.round) }
  let a := { a with awaiting := none, rx := none }
  (d.setUhfAtt n a).pushPkt n a .reqRn

/-- The command that follows Req_RN, by KIND (R218, R232–R234): an Authenticate carries a challenge drawn from the DRBG, and ends the attempt
where there is no key or no random bytes (R390, R399). Log 7 DESIGN CHOICE. -/
def Dev.accessCommand (d : Dev) (n : Nat) (a : UhfAttempt) : Dev :=
  match uKind a.params with
  | 1 => d.pushPkt n a .access
  | 2 =>
    if ((d.stepOf a.tag).bind (·.ctx)).isNone then d.uhfFail n a Code.KEY_EMPTY
    else if !d.vault.drbgOk then d.uhfFail n a Code.DRBG_FAIL
    else
      let (bs, d) := d.drbg 10
      (d.onStepOf a.tag fun st => { st with challenge := bs }).pushPkt n a .auth
  | _ => d.pushPkt n a (.kill false)

/-- The reply to Authenticate (R234): the payload, or none where it does not match. Constants and layout of ISO/IEC 29167-10.
Log 77 PRESUMED. -/
def checkTam (key chal p resp : Bytes) : Option Bytes :=
  let tam2 := uTam p = 1
  let c0 := resp.take 16
  let plain := aesDec key c0
  let const : Bytes := if tam2 then [0xDA#8, 0x83#8] else [0x96#8, 0xC5#8]
  let len := if tam2 then 16 + (if uProt p then (8 * uBlocks p + 15) / 16 * 16 else 8 * uBlocks p) else 16
  if resp.length != len || plain.take 2 != const || slice plain 6 10 != chal then none
  else if !tam2 then some []
  else if uProt p then
    let rest := resp.drop 16
    let c1 := rest.take 16
    let p1 := xorBytes (aesDec key c1) c0
    let p2 := if rest.length > 16 then xorBytes (aesDec key (rest.drop 16)) c1 else []
    some ((p1 ++ p2).take (8 * uBlocks p))
  else some (resp.drop 16)

/-- A reply that must be judged and is not whole (R222, R223, R235, R236): COLLIDED where two replies met and the frame fails, else a framing or
CRC error; only the latter counts in ERRCNT. `crc` says that the CRC is judged. -/
def Dev.badReply (d : Dev) (n : Nat) (a : UhfAttempt) (r : UhfReply) (crc : Bool) : Option Dev :=
  if r.coded && (!crc || r.crcOk) then none
  else if a.rx.any (·.collided) then some (d.uhfFail n a Code.COLLIDED)
  else if !r.coded then some (d.uhfFail n a Code.UHF_FRAMING_ERROR)
  else some ((d.bump (F.UHFCn_ERRCNT_CRC n) 1).uhfFail n a Code.UHF_CRC_ERROR)

/-- The reply to an access, authentication or Kill command (R232–R234). Log 75 DEDUCED. -/
def Dev.accessReply (d : Dev) (n : Nat) (a : UhfAttempt) (p : Pkt) (r : UhfReply) : Dev :=
  let flags := 64
  match d.badReply n a r true with
  | some d => d
  | none =>
  if r.handle.val != a.handle then d.setUhfAtt n { a with rx := none, awaiting := some p }
  else match r.tagError with
    | some e => d.uhfEnd n a (d.uhfFrame n a [] [] Code.UHF_TAG_ERROR flags 0 e.val true)
    | none =>
      if r.lastBits.val != 0 then d.uhfFail n a Code.UHF_FRAMING_ERROR
      else
        let ok (payload : Bytes) (fl : Nat) : Dev := d.uhfEnd n a (d.uhfFrame n a payload a.object 0 fl 0 0 true)
        match p with
        | .access =>
          if accessCmd a.tmpl a.tbits = .read then
            (if r.bytes.length % 2 = 1 then d.uhfFail n a Code.UHF_FRAMING_ERROR else ok r.bytes flags)
          else ok [] flags
        | .auth =>
          match d.stepOf a.tag with
          | some st => match st.ctx with
            | some key => match checkTam key st.challenge a.params r.bytes with
              | some b => ok b (flags + 16)
              | none => d.uhfEnd n a (d.uhfFrame n a [] [] Code.TAG_AUTH_FAIL flags 0 0 true)
            | none => d.uhfFail n a Code.KEY_EMPTY
          | none => d.uhfFail n a Code.KEY_EMPTY
        | .kill false =>
          let a := { a with awaiting := none, rx := none }
          (d.setUhfAtt n a).pushPkt n a (.kill true)
        | _ => ok [] flags

/-- A NAK goes out; the slot ends with its result once it has been sent (R227). -/
def Dev.nakSlot (d : Dev) (n : Nat) (a : UhfAttempt) : Dev :=
  let a := { a with awaiting := none, rx := none, nakResult := some a.slotResult }
  (d.setUhfAtt n a).pushPkt n a .nak

/-- A slot whose identifier was received (R227, R228, R231): reported once a step, or taken to the access sequence; any other tag of a step that
singulates is sent NAK. -/
def Dev.identified (d : Dev) (n : Nat) (a : UhfAttempt) (r : UhfReply) : Dev :=
  let (payload, ident, trunc, last) := d.identReply a r
  let d := d.bump (F.UHFCn_SLOTCNT0_SINGLE n) 1
  if uKind a.params = 0 then
    if a.found.contains ident then d.slotEnd n a a.slotResult
    else
      let d := match a.held with
        | some h => d.uhfPush n h
        | none => d
      let f := d.uhfFrame n a payload ident 0 (64 + trunc) last 0 false
      d.slotEnd n { a with held := some f, found := a.found ++ [ident], foundNew := true } a.slotResult
  else if ident.length ≥ 8 && ident.take 8 == a.object then d.singulated n a
  else d.nakSlot n a

/-- An identifier reply failed: a second ACK, or NAK and the next slot (R227). Log 75 DEDUCED. -/
def Dev.identFailed (d : Dev) (n : Nat) (a : UhfAttempt) (crc : Bool) : Dev :=
  let d := if crc || decide (a.acks ≥ 2) then d.bump (F.UHFCn_ERRCNT_CRC n) 1 else d
  if a.acks ≥ 2 then d.nakSlot n a
  else
    let a := { a with awaiting := none, rx := none }
    (d.setUhfAtt n a).pushPkt n a .ack

/-! ### Packets (R181, R183, R218, R233, R256) -/

/-- What stops a packet as it is about to be released: a Kill, in a RAW step too, outside DIRECT or during a transition, and an Authenticate
or Kill whose key is gone (R233, R234, R390). -/
def Dev.packetStop (d : Dev) (a : UhfAttempt) (p : Pkt) : Nat :=
  let noKey := ((d.stepOf a.tag).bind (·.ctx)).isNone
  let denied := d.mode != Mode.direct || d.flag F.SUP_MODE_BUSY
  match p with
  | .kill second => if noKey then Code.KEY_EMPTY else if !second && denied then Code.UHF_KILL_DENIED else 0
  | .raw => if accessCmd a.tmpl a.tbits == .kill && denied then Code.UHF_KILL_DENIED else 0
  | .auth => if noKey then Code.KEY_EMPTY else 0
  | _ => 0

/-- The port of a chain's emission has been withdrawn (R211). -/
def Dev.uhfWithdrawn (d : Dev) (n : Nat) : Bool :=
  (d.uhfTeam n).any fun m => (d.uhfc m).port.any fun p => !d.flag (F.UHFPn_CFG_ENABLE p)

/-- A packet command released and sent (R183): through TX to RX where a reply is expected, else to CW; the transmission takes no model time.
Its start settles the output (R194, R252) and PRI (R264). The engine starts no slot or exchange that the governor holds back, nor one that
singulates with too little dwell left (R229), but a new round after the carrier has been off; a buffer must be free (R23). A withdrawn port
takes no further exchange (R211). A NAK that has been sent ends its slot. -/
def Dev.sendPacket (d : Dev) (n : Nat) : Dev :=
  match d.radioHead n, (d.uhfc n).att with
  | some (.packet p bits _, _), some a =>
    let u := d.uhfc n
    let ready := (d.ust n == Ust.cw || d.ust n == Ust.rx) && !u.untrained && a.awaiting.isNone && u.tuning.isNone &&
      decide (u.bufs.length + b2n a.held.isSome < 2)
    if !ready then d
    else if d.uhfWithdrawn n then (d.uhfFailBare n a Code.UHF_PORT_UNAVAILABLE).rampDown n
    else if (p.opens && d.mustPause n) || (p.slotCmd && d.dwellShort n a) then d.uhfRestart n
    else
      let stop := d.packetStop a p
      if stop != 0 then d.uhfFailBare n a stop
      else
        let d := d.forEach (d.uhfTeam n) (Dev.powerStep 2)
        let d := ((d.radioPop n).coexPri).onUhf n fun u => { u with paFails := 0, txBits := bits, sentAt := d.time }
        let d := d.forEach (d.uhfTeam n) fun d k => d.setUst k Ust.tx
        let a := { a with sent := true }
        let a := if p.slotCmd then { a with slot := a.slot + 1, slots := a.slots + 1, margin := d.fld (F.UHFCn_AIRCFG_CAPTURE_MARGIN n) } else a
        let a := if p = .ack then { a with acks := a.acks + 1 } else a
        if p.expects then
          (d.forEach (d.uhfTeam n) fun d k => d.setUst k Ust.rx).setUhfAtt n { a with awaiting := some p, rx := none }
        else
          let d := d.forEach (d.uhfTeam n) fun d k => d.setUst k Ust.cw
          match p, a.nakResult with
          | .nak, some r => d.slotEnd n a r
          | _, _ => d.setUhfAtt n a
  | _, _ => d

/-! ### Replies (R220–R224, R227) -/

/-- The slot in hand is abandoned (R224). -/
def Dev.abandon (d : Dev) (n : Nat) (a : UhfAttempt) : Dev :=
  (d.bump (F.UHFCn_SLOTCNT1_ABANDON n) 1).slotEnd n { a with slotColl := true } 2

/-- A preamble peak (R220, R221, R223): the first acquires the reply; a second distinct one is settled by the capture margin. -/
def Dev.uhfPreamble (d : Dev) (n : Nat) (p : Preamble) : Dev :=
  match (d.uhfc n).att with
  | none => d
  | some a => match a.awaiting with
    | none => d
    | some pkt =>
      if d.ust n != Ust.rx then d
      else match a.rx with
        | none => d.setUhfAtt n { a with rx := some { pre := p } }
        | some x =>
          let margin : Int := 10 * (a.margin : Int)
          let diff := p.rssi.toInt - x.pre.rssi.toInt
          let slot := pkt.slotCmd || pkt == .ack
          let mark (x : RxPre) (capt : Bool) : UhfAttempt :=
            { a with rx := some { x with collided := true, captured := x.captured || capt }
                     slotColl := a.slotColl || slot, slotCapt := a.slotCapt || (slot && capt) }
          if p.symbols = 0 then
            if diff < margin && diff > -margin then
              if slot then d.abandon n a
              else (d.setUhfAtt n (mark x false)).uhfFail n (mark x false) Code.COLLIDED
            else d.setUhfAtt n (mark (if diff ≥ margin then { x with pre := p } else x) true)
          else if p.symbols ≤ 24 && diff ≥ margin then d.setUhfAtt n (mark { x with pre := p } true)
          else d.setUhfAtt n (mark x false)

/-- A reply ended (R222, R227, R232): judged by the packet it answers. Log 75 DEDUCED. -/
def Dev.uhfReply (d : Dev) (n : Nat) (r : UhfReply) : Dev :=
  match (d.uhfc n).att with
  | none => d
  | some a => match a.awaiting, a.rx with
    | some p, some _ =>
      let a' := { a with awaiting := none }
      match p with
      | .query | .queryRep | .queryAdjust _ =>
        if !r.coded then d.slotEnd n a' a.slotResult
        else
          let a' := { a' with rn16 := r.handle.val, rx := none }
          (d.setUhfAtt n a').pushPkt n a' .ack
      | .ack =>
        if !r.coded || !r.crcOk || (r.lastBits.val != 0 && (d.truncating a).isNone) then d.identFailed n a' (r.coded && !r.crcOk)
        else d.identified n a' r
      | .reqRn =>
        match d.badReply n a' r true with
        | some d => d
        | none =>
          let a' := { a' with handle := r.handle.val, rx := none }
          (d.setUhfAtt n a').accessCommand n a'
      | .raw =>
        match d.badReply n a' r (uRawRxCrc a.params) with
        | some d => d
        | none => d.uhfEnd n a' (d.uhfFrame n a' r.bytes [] 0 (b2n (uRawRxCrc a.params) * 64) r.lastBits.val 0 true)
      | _ => d.accessReply n a' p r
    | _, _ => d

/-- The reply window closed with no preamble, or a delayed reply's 20 ms passed (R215, R226, R227, R232). -/
def Dev.uhfTimeout (d : Dev) (n : Nat) : Dev :=
  match (d.uhfc n).att with
  | none => d
  | some a => match a.awaiting, a.rx with
    | some p, none =>
      let a' := { a with awaiting := none }
      let d := if p.delayed a then d.reach ((d.uhfc n).sentAt + 20000) else d
      match p with
      | .query | .queryRep | .queryAdjust _ => d.slotEnd n a' 1
      | .ack => d.identFailed n a' false
      | _ => d.uhfFailBare n a' (if p.delayed a then Code.UHF_WRITE_UNVERIFIED else Code.UHF_NO_REPLY)
    | _, _ => d

/-- The deadline of an INVENTORY step passes (R228): it ends with what it has reported. Log 137 DEDUCED. -/
def Dev.uhfDeadline (d : Dev) (n : Nat) : Dev :=
  match (d.uhfc n).att with
  | some a => d.inventoryEnd n a false
  | none => d

/-- An INVENTORY attempt of a tag's step that has sent a packet (R228). -/
def Dev.inventoried (d : Dev) (n : Nat) (t : FrameTag) : Bool :=
  (d.uhfc n).att.any fun a => a.sent && uKind a.params == 0 && a.tag.handle == t.handle

/-! ### Radio events (R181–R200, R254–R267) -/

/-- The chain that serves an emission: the master of a pair. -/
def Dev.uhfMaster (d : Dev) (n : Nat) : Nat := if (d.uhfc n).master then n else (d.uhfc n).partner.getD n

/-- A synthesiser sets out for a channel (R186): its lock time, by CAL_POLICY and by the entry as it stands at the change, and the entry that a
calibration under STORED will leave. Log 79 DEDUCED. -/
def Dev.tuneTo (d : Dev) (n c : Nat) : Dev :=
  let stored := d.flag (F.UHFCn_SYN_CFG_CAL_POLICY n)
  let fresh := stored && ((d.calEntry n c).map d.calFresh).getD false
  let e : CalEntry := { index := c, temp := d.dieTemp, stale := false }
  let d := (d.setFlag (F.UHFCn_STAT_LOCKED n) false).setFlag (F.UHFCn_STAT_CALIBRATING n) true
  (d.onUhf n fun u => { u with
    tuning := some c, tuneFrom := d.time, tuneUs := if fresh then 22 else 60, tuneCal := if stored && !fresh then some e else none }).untrain n

/-- The hot standby (R67): the chain whose ROLE says so. -/
def Dev.uhfStandby (d : Dev) : Option Nat := [0, 1].find? fun n => d.fld (F.UHFCn_STAT_ROLE n) == 3

/-- A channel-change command at the queue head (R181, R190, R191, R255–R258): from CW the carrier ramps down first; with no channel
allowed the step holds, its occupation as it was; the pair and the hot standby follow. -/
def Dev.channelChange (d : Dev) (n : Nat) : Dev :=
  match d.radioHead n with
  | some (.channel k, _) =>
    if d.ust n = Ust.off then d
    else
      let d0 := d.rampDown n
      let d := (d0.forEach (d.uhfTeam n) Dev.endOcc).applyGroup (.uhf (if n = 0 then 0 else 1))
      let pick := if k = 0xFF then d.nextChannel n else if !bit d.limits.chmask k || d.chanOk n k then some (k, d) else none
      match pick with
      | none => d0.hold n
      | some (c, d) =>
        let d := ((d.radioPop n).unhold n).forEach (d.uhfTeam n) fun d m => d.tuneTo m c
        match d.uhfStandby with
        | some s => if s = n then d else d.tuneTo s c
        | none => d
  | _ => d

/-- The lock time of a change (R186): within 1 µs of that of its policy, unless the synthesiser does not lock within 200 µs.
Log 79 DEDUCED. -/
def lockTime (policy us : Nat) : Nat := if us > 200 then us else min (policy + 1) (max (policy - 1) us)

/-- Lock (R181, R186, R187): READY on the channel, with the calibration stored under STORED; a chain that was in STANDBY powers its
synthesiser up first. Log 79 DEDUCED. -/
def Dev.synthLock (d : Dev) (n us : Nat) : Dev :=
  match (d.uhfc n).tuning with
  | none => d
  | some c =>
    let us := lockTime (d.uhfc n).tuneUs us
    let d := d.reach ((d.uhfc n).tuneFrom + us + (if d.ust n = Ust.standby then 8 else 0))
    let d := d.onUhf n fun u => { u with
      tuning := none, tuneCal := none, cal := match u.tuneCal with
        | some e => u.cal.filter (·.index != c) ++ [e]
        | none => u.cal }
    let d := ((d.setFlag (F.UHFCn_STAT_LOCKED n) true).setFlag (F.UHFCn_STAT_CALIBRATING n) false).setFld (F.UHFCn_STAT_CH_INDEX n) c
    let d := if d.ust n = Ust.standby then d.setUst n Ust.ready else d
    let d := (d.setFld (F.UHFCn_SYN_STAT_LOCK_US n) (min 255 us)).showCal n
    match d.radioHead (d.uhfMaster n) with
    | some (.carrierOn, t) | some (.packet _ _ _, t) => d.raiseTo (F.UHFCn_QSTAT_WAIT_MAX n) (d.time - t)
    | _ => d

/-- No lock within 200 µs of the entry of the packet or carrier-on command at the head (R187): it and the rest of its step are dropped, the
attempt ends, and the synthesiser goes on trying. -/
def Dev.synthUnlock (d : Dev) (n : Nat) : Dev :=
  let m := d.uhfMaster n
  match (d.uhfc n).tuning, d.radioHead m with
  | some _, some (.carrierOn, t) | some _, some (.packet _ _ _, t) =>
    let d := (d.reach (t + 200)).bump (F.UHFCn_CNT_UNLOCK n) 1
    match (d.uhfc m).att with
    | some a =>
      let a := { a with rx := none }
      d.uhfFinish m a (d.uhfFrame m a [] [] Code.SYNTH_UNLOCK 0 0 0 true)
    | none => d.radioClear m
  | _, _ => d

/-- One chain put on its port (R174–R176, R198): on an external route its ANTSEL code is driven. -/
def Dev.connectPort (d : Dev) (n : Nat) : Dev :=
  match (d.uhfc n).port with
  | none => d
  | some p =>
    let b := d.uhfProfile p
    let d := ((d.setFld (F.UHFCn_STAT_PORT n) p).setFlag (F.UHFCn_STAT_PORT_VALID n) true).untrain n
    if profRoute b = 0 then d else d.onUhf n fun u => { u with antsel := profAntsel b }

/-- A port or ANTSEL change at the queue head, with the carrier off (R176). -/
def Dev.portChange (d : Dev) (n : Nat) : Dev :=
  match d.radioHead n with
  | some (.port _, _) =>
    if d.ust n = Ust.off then d
    else
      let d := d.rampDown n
      ((d.radioPop n).forEach (d.uhfTeam n) Dev.connectPort).forEach (d.uhfTeam n) Dev.showPermit
  | _ => d

/-- The ramp of a carrier-on command (R181, R193, R263). -/
def Dev.startRamp (d : Dev) (n meas : Nat) : Dev :=
  let direct := ((d.uhfc n).att.map fun a => !a.sched).getD false
  let d := ((d.radioPop n).unhold n).coexWaited ((d.uhfc n).port.getD 0)
  let d := d.forEach (d.uhfTeam n) fun d k => if d.uhfOn k then d else d.rampUp1 k meas direct
  if (d.uhfc n).partner.isSome then d.setFlag F.UHF_STEER_ACTIVE true else d

/-- A carrier-on command at the queue head with lock held (R181, R187, R253–R259, R262–R267): GOV_DENIED without a permit, a new
channel or a hold where the governor allows none now, a wait for the grant, or the ramp. Log 121 DESIGN CHOICE. -/
def Dev.carrierOn (d : Dev) (n meas : Nat) : Dev :=
  match d.radioHead n, (d.uhfc n).att, (d.uhfc n).port with
  | some (.carrierOn, _), some a, some p =>
    let locked := (d.uhfTeam n).all fun k => d.flag (F.UHFCn_STAT_LOCKED k) && (d.uhfc k).tuning.isNone && d.ust k ≥ Ust.ready &&
      (d.uhfc k).port == some (d.fld (F.UHFCn_STAT_PORT k))
    let k := d.fld (F.UHFCn_STAT_CH_INDEX n)
    if !locked || (d.uhfc n).waitGrant then d
    else if d.uhfPermit p (d.uhfPairPort n) < 0 || !bit d.limits.chmask k || (d.uhfc n).inhibited then
      d.uhfFailBare n a Code.GOV_DENIED
    else if d.dutySpent then d.hold n
    else if !d.chanOk n k then
      if a.sched then
        (d.hold n).radioFront n (.channel 0xFF)
      else d.hold n
    else if d.windowOpen then d
    else
      let d := d.coexRequest p a.tag.lclass
      let d := match d.uhfPairPort n with
        | some q => d.coexRequest q a.tag.lclass
        | none => d
      if d.ungranted n then (d.onUhf n fun u => { u with waitGrant := true }).coexPri else (d.startRamp n meas).coexPri
  | _, _, _ => d

/-- A weight of the RF canceller moved towards a measured one by at most 4 steps, as in the first 4 µs of a turnaround (R199). -/
def trackWeight (old new : BitVec 10) : Nat := ofInt 10 (old.toInt + max (-4) (min 4 (new.toInt - old.toInt)))

/-- Training ends in CW, or the vector is tracked and the residual taken in CW or at a turnaround, that is in RX with no window open
(R194, R198–R200). The 12 µs of a training give the power loop six of its steps, the turnaround two. A high residual asks for a training
before the next packet, or after one ends the attempt. Log 78 DEDUCED, 136 DESIGN CHOICE. -/
def Dev.trainingEnd (d : Dev) (n : Nat) (leak resid : BitVec 8) (ci cq : BitVec 10) : Dev :=
  let turn := d.ust n == Ust.rx && !(d.uhfc n).att.any (·.awaiting.isSome)
  if d.ust n != Ust.cw && !turn then d
  else
    let d := d.forEach (d.uhfTeam n) (Dev.powerStep (if turn then 2 else 6))
    let now (f : Fld) (w : BitVec 10) : Nat := if turn then trackWeight (BitVec.ofNat 10 (d.fld f)) w else w.toNat
    let d := (d.setFld (F.UHFCn_CANC_CI n) (now (F.UHFCn_CANC_CI n) ci)).setFld (F.UHFCn_CANC_CQ n) (now (F.UHFCn_CANC_CQ n) cq)
    let d := (d.setFld (F.UHFCn_LEAK_LEAK n) leak.toNat).setFld (F.UHFCn_LEAK_RESID n) resid.toNat
    let d := d.setFld (F.UHFCn_LEAK_SUPPR n) ((leak.toInt - resid.toInt).toNat)
    let high := decide (resid.toInt > -40)
    if (d.uhfc n).untrained then
      if high then
        match (d.uhfc n).att with
        | some a => d.uhfFailBare n a Code.UHF_LEAK_HIGH
        | none => d
      else (d.onUhf n fun u => { u with untrained := false, paFails := 0 }).setFlag (F.UHFCn_STAT_TRAINED n) true
    else if high && turn then ((d.teamCw n).untrain n).bump (F.UHFCn_CNT_RETRAIN n) 1
    else d

/-- A carrier-off command at the queue head (R181). -/
def Dev.carrierOff (d : Dev) (n : Nat) : Dev :=
  match d.radioHead n with
  | some (.carrierOff, _) => (d.radioPop n).rampDown n
  | _ => d

/-- A carrier brought down by the governor at an instant it cannot outlast: the attempt goes on in a new round (R229). -/
def Dev.pauseCarrier (d : Dev) (n : Nat) : Dev :=
  let m := d.uhfMaster n
  if d.uhfOn m then (d.rampDown m).uhfRestart m else d

/-- A chain's attempt and carrier cut for a withdrawn grant (R265). Log 81 DEDUCED. -/
def Dev.preempt (d : Dev) (n : Nat) : Dev :=
  if !d.uhfOn n || !(d.uhfc n).master then d
  else
    let d := d.rampDown n
    match (d.uhfc n).att with
    | some a => (d.uhfFailBare n a Code.COEX_PREEMPT).bump F.COEX_CNT_PREEMPT 1
    | none => d

/-- A chain's carrier cut at the start of a window (R265, R267): COEX_PREEMPT only where an exchange is cut, else a new round follows.
Log 81 DEDUCED. -/
def Dev.cutForWindow (d : Dev) (n : Nat) : Dev :=
  if !(d.uhfc n).master then d else if (d.uhfc n).att.any (·.awaiting.isSome) then d.preempt n else d.pauseCarrier n

/-- The external power loop failed (R195): the carrier ramps down and the attempt ends; the chain's count of failures. -/
def Dev.paLoop (d : Dev) (n : Nat) : Dev :=
  let d := (d.bump (F.UHFCn_CNT_PALOOP n) 1).onUhf n fun u => { u with paFails := u.paFails + 1 }
  let k := (d.uhfc n).paFails
  let m := d.uhfMaster n
  let d := d.rampDown m
  let d := match (d.uhfc m).att with
    | some a => d.uhfFailBare m a Code.UHF_PA_LOOP
    | none => d
  d.onUhf n fun u => { u with paFails := k }

/-- The hot standby named (R67, R191, R484): in LEDGER and SHARED, with both chains healthy and no pair holding them, the chain
already named or else the higher-numbered one that holds nothing; it follows the other chain's channel in READY. Log 80 DEDUCED. -/
def Dev.restandby (d : Dev) : Dev :=
  let free (n : Nat) : Bool := d.uhfHealthy 0 && d.uhfHealthy 1 && (d.uhfc n).owner.isNone && (d.uhfc 0).partner.isNone
  let want := if !Mode.strict d.mode then none else (d.uhfStandby.filter free).orElse fun _ => [1, 0].find? free
  let old := d.uhfStandby
  let d := d.forEach [0, 1] fun d n =>
    if want = some n then d.setFld (F.UHFCn_STAT_ROLE n) 3
    else if d.fld (F.UHFCn_STAT_ROLE n) = 3 then d.setFld (F.UHFCn_STAT_ROLE n) 0 else d
  let d := if want.isSome || !Mode.strict d.mode then d.setFlag F.FLT_STAT_NO_STANDBY false else d
  match want with
  | none => d
  | some n =>
    if old = some n then d
    else
      let d := if d.ust n = Ust.off then d.setUst n Ust.standby else d
      let active := (d.uhfc (1 - n)).tuning
      let k := active.getD (d.fld (F.UHFCn_STAT_CH_INDEX (1 - n)))
      let there := (d.uhfc n).tuning == some k || ((d.uhfc n).tuning.isNone && d.flag (F.UHFCn_STAT_LOCKED n) && d.fld (F.UHFCn_STAT_CH_INDEX n) == k)
      if (active.isSome || d.flag (F.UHFCn_STAT_LOCKED (1 - n))) && !there then d.tuneTo n k else d

end Sys2Proof.Machine
end

