-- ==== Sys2Proof/Machine/Cvu.lean ====
section
/-!
DEFINITION. The check-value units (R448–R457): algorithms, frames, alive counters, flags and contexts.
-/

namespace Sys2Proof.Machine

open Sys2Proof

/-- Width, polynomial and preset of a unit's algorithm (R448); the preset in the form VALUE shows. -/
def Dev.cvuAlg (d : Dev) (u : Nat) : Nat × Nat × Nat :=
  match d.fld (F.CVUn_ALG_POLY u) with
  | 0 => (5, 9, 9)
  | 1 => (16, 0x1021, if d.flag (F.CVUn_ALG_PRESET_SEL u) then 0x6363 else 0xFFFF)
  | _ => (32, 0x04C11DB7, 0xFFFFFFFF)

/-- An algorithm word that R448 refuses. -/
def cvuAlgBad (w : Word) : Bool :=
  let poly := bitsOf w 31 30
  poly == 3 || (poly != 1 && bitsOf w 29 29 != 0) || (poly == 0 && bitsOf w 28 27 != 0)

/-- The bits of a frame in the order they enter the register (R448, R451): `last` valid bits in the last byte (0: 8), its first
sent bits low or high as the band packs them. -/
def cvuBits (refl uhf : Bool) (bs : Bytes) (last : Nat) : List Bool :=
  let order (b : Byte) : List Bool := if refl then (byteBits b.toNat).reverse else byteBits b.toNat
  let full := if last = 0 then bs else bs.dropLast
  let tail : List Bool := if last = 0 then [] else
    let b := byteBits ((bs.getLast?.map (·.toNat)).getD 0)
    let v := if uhf then b.take last else b.drop (8 - last)
    if refl then v.reverse else v
  full.flatMap order ++ tail

/-- A value run over bits, in the form VALUE shows (R449). -/
def Dev.cvuRun (d : Dev) (u value : Nat) (bits : List Bool) : Nat :=
  let (w, poly, _) := d.cvuAlg u
  let refl := d.flag (F.CVUn_ALG_REFLECT u)
  let out := bits.foldl (crcBit w poly) (if refl then reflectBits w value else value)
  if refl then reflectBits w out else out

/-- RESULT of a value (R449). -/
def Dev.cvuResult (d : Dev) (u value : Nat) : Nat :=
  if d.flag (F.CVUn_ALG_COMPLEMENT u) then 2 ^ (d.cvuAlg u).1 - 1 - value else value

/-- A unit's context preset (R453). -/
def Dev.cvuFresh (d : Dev) (u : Nat) : CvCtx := { value := (d.cvuAlg u).2.2, exp := 0, any := true }

/-- The little-endian number of a byte string. -/
def leNat (bs : Bytes) : Nat := beNat bs.reverse

/-- The alive value judged (R455): flags (REPEAT 2, SKIP 4, BACKWARD 8, SHORT 16) and the context after it. -/
def Dev.aliveJudge (d : Dev) (u : Nat) (c : CvCtx) (bs : Bytes) : Nat × CvCtx :=
  if !d.flag (F.CVUn_ALIVE_CFG_EN u) then (0, c)
  else
    let code := d.fld (F.CVUn_ALIVE_CFG_WIDTH u)
    let w := 2 ^ (code + 2)
    let off := d.fld (F.CVUn_ALIVE_CFG_OFFSET u)
    let len := if code = 0 then 1 else w / 8
    if bs.length < off + len then (16, c)
    else
      let raw := slice bs off len
      let a := if code = 0 then byteAt raw 0 % 16 else if d.flag (F.CVUn_ALIVE_CFG_LE u) then leNat raw else beNat raw
      let m := 2 ^ w
      let dist := (a + m - c.exp % m) % m
      let pass : CvCtx := { c with exp := (a + 1) % m, any := false }
      if c.any then (0, pass)
      else
        let mono := d.flag (F.CVUn_ALIVE_CFG_RULE u)
        if dist = 0 || (mono && dist ≤ m / 2 - 1) then (0, pass)
        else if dist = m - 1 then (2, c)
        else if dist ≤ m / 2 - 1 then (4, c)
        else (8, c)

/-- One frame taken by a unit (R449, R454–R456): its flags, RESULT, and the context after it. -/
def Dev.cvuFrame (d : Dev) (u : Nat) (c : CvCtx) (uhf : Bool) (bs : Bytes) (last : Nat) : Nat × Nat × CvCtx :=
  let (w, _, preset) := d.cvuAlg u
  let start := d.fld (F.CVUn_CFG_SPAN_START u)
  let refl := d.flag (F.CVUn_ALG_REFLECT u)
  let (alive, c) := d.aliveJudge u c bs
  if d.flag (F.CVUn_CFG_MODE u) then
    let v := d.cvuRun u c.value (cvuBits refl uhf (bs.drop start) last)
    (alive, d.cvuResult u v, { c with value := v })
  else
    let t := w / 8
    if bs.length < start + t then (alive ||| 16, d.cvuResult u preset, { c with value := preset })
    else
      let v := d.cvuRun u preset (cvuBits refl uhf (slice bs start (bs.length - t - start)) 0)
      let trail := bs.drop (bs.length - t)
      let want := if d.flag (F.CVUn_CFG_TRAIL_LE u) then leNat trail else beNat trail
      (alive ||| b2n (d.cvuResult u v != want), d.cvuResult u v, { c with value := v })

/-- A context shown in a unit's registers. -/
def Dev.cvuLoad (d : Dev) (u : Nat) (c : CvCtx) : Dev :=
  ((d.setFld (F.CVUn_VALUE_VALUE u) c.value).setFld (F.CVUn_ALIVE_EXP_EXP u) c.exp).setFlag (F.CVUn_STAT_ANY u) c.any

/-- The context that a unit's registers hold. -/
def Dev.cvuHeld (d : Dev) (u : Nat) : CvCtx :=
  { value := d.fld (F.CVUn_VALUE_VALUE u), exp := d.fld (F.CVUn_ALIVE_EXP_EXP u), any := d.flag (F.CVUn_STAT_ANY u) }

/-- A frame's flags recorded (R456). -/
def Dev.cvuFlags (d : Dev) (u flags result : Nat) : Dev :=
  let d := (d.setFld (F.CVUn_RESULT_VALUE u) result).bump (F.CVUn_CNT0_FRAMES u) 1
  let d := d.setFld (F.CVUn_STAT_LAST u) flags
  let d := d.setReg (R.CVUn_STAT u) (d.reg (R.CVUn_STAT u) ||| BitVec.ofNat 32 flags)
  let one (d : Dev) (b : Nat) (f : Fld) : Dev := if bit flags b then d.bump f 1 else d
  one (one (one (one (one d 0 (F.CVUn_CNT0_CRC_ERR u)) 1 (F.CVUn_CNT1_REPEAT u)) 2 (F.CVUn_CNT1_SKIP u)) 3
    (F.CVUn_CNT1_BACKWARD u)) 4 (F.CVUn_CNT1_SHORT u)

/-- A frame through a unit with a context: flags, context, and the registers that show it. -/
def Dev.cvuTake (d : Dev) (u : Nat) (c : CvCtx) (uhf : Bool) (bs : Bytes) (last : Nat) : Nat × CvCtx × Dev :=
  let (flags, result, c) := d.cvuFrame u c uhf bs last
  (flags, c, (d.cvuLoad u c).cvuFlags u flags result)

/-- A tap source (R451). -/
def cvuTap (src : Nat) : Bool := [6, 7, 8, 9, 10, 11, 12, 13].contains src

/-- A tap source covers a chain; UHF chains count from 4. -/
def cvuCovers (src chain : Nat) : Bool := src == 8 + chain || (src == 6 && chain < 4) || (src == 7 && chain ≥ 4)

/-- A unit that serves frames of a chain in a direction (R452). -/
def Dev.cvuServes (d : Dev) (u chain : Nat) (cmds : Bool) : Bool :=
  d.flag (F.CVUn_CFG_ENABLE u) && cvuCovers (d.fld (F.CVUn_CFG_SRC u)) chain && d.flag (F.CVUn_CFG_DIR u) == cmds

/-- A tag's CVCTX (R13): the unit named, with CV_VALID 1. -/
def cvctxUnit (t : FrameTag) : Option Nat := if bit t.cvctx 15 then some (nbits t.cvctx 14 12) else none

/-- A frame of a step at its unit (R452, R453, R456): the working copy is carried within the attempt; the result says whether the
unit flagged it with ACT 1. -/
def Dev.cvuStep (d : Dev) (slot : Nat) (st : Step) (chain : Nat) (cmds : Bool) (bs : Bytes) (last : Nat) : Bool × Option CvCtx × Dev :=
  match cvctxUnit st.tag with
  | none => (false, st.cv, d)
  | some u =>
    if !d.cvuServes u chain cmds then (false, st.cv, d)
    else
      let c := st.cv.getD (((d.chan? slot).bind (·.cv)).getD (d.cvuFresh u))
      let (flags, c, d) := d.cvuTake u c (decide (chain ≥ 4)) bs last
      (flags != 0 && d.flag (F.CVUn_CFG_ACT u), some c, d)

/-- A frame of a stream that is no tap (R451): every enabled unit on it takes it. -/
def Dev.cvuStream (d : Dev) (src : Nat) (bs : Bytes) : Dev :=
  d.forEach (List.range 6) fun d u =>
    if d.flag (F.CVUn_CFG_ENABLE u) && d.fld (F.CVUn_CFG_SRC u) == src && !d.flag (F.CVUn_CFG_OWNED u) then
      (d.cvuTake u (d.cvuHeld u) false bs 0).2.2
    else d

/-- A unit enabled, its checks passed (R453–R455): presets and ANY. -/
def Dev.cvuEnable (d : Dev) (u : Nat) (on : Bool) : Dev :=
  let d := d.setFlag (F.CVUn_CFG_ENABLE u) on
  if on then (d.setFld (F.CVUn_VALUE_VALUE u) (d.cvuAlg u).2.2).setFlag (F.CVUn_STAT_ANY u) true else d

/-- A host write to VALUE or ALIVE_EXP (R457): ignored on a tap and on a unit the host port owns. Host frames are whole commands
of the model, so no frame of a host stream is in progress when the write is made but the one that carries it. -/
def Dev.cvuWrite (d : Dev) (u : Nat) (alive : Bool) (v : Word) : Dev :=
  if cvuTap (d.fld (F.CVUn_CFG_SRC u)) || d.flag (F.CVUn_CFG_OWNED u) then d
  else
    let w := if alive then 2 ^ (d.fld (F.CVUn_ALIVE_CFG_WIDTH u) + 2) else (d.cvuAlg u).1
    d.setReg (if alive then R.CVUn_ALIVE_EXP u else R.CVUn_VALUE u) (BitVec.ofNat 32 (v.toNat % 2 ^ w))

/-- Every channel context at its preset (R453): at a boot, at a wake, and at creation of a channel. -/
def Dev.cvReset (d : Dev) : Dev :=
  let upd (x : Nat × Chan) : Nat × Chan := (x.1, { x.2 with cv := none })
  { d.forEach (List.range 6) (fun d u => d.setFlag (F.CVUn_STAT_ANY u) true) with chans := d.chans.map upd }

end Sys2Proof.Machine
end

