-- ==== Sys2Proof/Machine/Engine.lean ====
section
/-!
DEFINITION. The transaction engine and the resource arbiter (Chapter 10): placement and grants, attempts, frames handed over,
the end of attempts, steps and runs, and what waits for records.
-/

namespace Sys2Proof.Machine

open Sys2Proof

/-! ### Requests (R305, R328, R522) -/

/-- A channel of kind DIRECT. -/
def Chan.direct (c : Chan) : Bool := c.kind == Kind.direct

/-- A step is of the UHF band. -/
def Step.uhf (st : Step) : Bool := portchUhf st.tag.portch

/-- The plan head of a channel; none restricts a direct one. -/
def Dev.headOf (d : Dev) (c : Chan) : PlanHead := d.plan c.plan

/-- The step asks for a steered pair or a bond. -/
def Dev.wantsPair (d : Dev) (c : Chan) (st : Step) : Bool := if c.direct then portchPair st.tag.portch else (d.headOf c).pair

/-- A chain may serve the request: CHAIN_MASK, or the chain that a message names (R305, R313). -/
def Dev.chainAsked (d : Dev) (c : Chan) (st : Step) (n : Nat) : Bool :=
  if c.direct then st.any || portchChain st.tag.portch == n
  else (d.headOf c).mask == 0 || bit (d.headOf c).mask n

/-- The candidate ports of a step, in order (R305, R328). -/
def Dev.candPorts (d : Dev) (c : Chan) (st : Step) : List Nat :=
  if c.direct then [portchPort st.tag.portch]
  else match c.run with
    | none => []
    | some r => match r.port with
      | some p => [p]
      | none => if c.kind == Kind.meterRead then objPorts (d.headOf c) r.due.entry else [r.due.target]

/-- A UHF port that some chain the request may use serves. -/
def Dev.uhfUsable (d : Dev) (p : Nat) : Bool := d.uhfPortOk p && [0, 1].any fun n => d.uhfServes n p

/-- The other port of a pair or bond that a step asks for is usable on some choice of it (R99, R128, R177): a plan names it, and a direct
step takes any other port that may stand beside its own. Log 63 DEDUCED. -/
def Dev.mateUsable (d : Dev) (c : Chan) (st : Step) (p : Nat) : Bool :=
  if !d.wantsPair c st then true
  else if st.uhf then
    if c.direct then (List.range 8).any fun q => q != p && d.uhfUsable q else d.uhfUsable (d.headOf c).pairPort
  else if c.direct then (List.range 16).any fun q => q != p && d.hfPortOk q && (d.measuredSet p q).isSome
  else d.hfPortOk (d.headOf c).pairPort

/-- A candidate port is usable (R99, R177, R211, R522). -/
def Dev.portUsable (d : Dev) (c : Chan) (st : Step) (p : Nat) : Bool :=
  d.mateUsable c st p &&
    (if st.uhf then d.uhfPortOk p && [0, 1].any fun n => d.chainAsked c st n && d.uhfServes n p
    else d.hfPortOk p && (c.direct || c.kind == Kind.presence || bit (byteAt (d.hfProfile p) 1) (hfProto st.params)))

/-- A chain's owner lets it go: none, the asking channel, or a direct channel with no step in progress (R305). -/
def Dev.ownerFree (d : Dev) (owner : Option Nat) (slot : Nat) : Bool :=
  match owner with
  | none => true
  | some o => o == slot || (match d.chan? o with
    | some c => c.direct && c.step.isNone
    | none => true)

/-- An HF chain free for a request (R67, R305). -/
def Dev.hfFree (d : Dev) (slot : Nat) (c : Chan) (st : Step) (n : Nat) : Bool :=
  d.chainAsked c st n && d.hfHealthy n && d.hfSpare != some n && d.ownerFree (d.hfc n).owner slot && !(d.hfc n).leaving

/-- The place of a step in the order of R21. -/
def Step.order (st : Step) (slot : Nat) : Order := ⟨st.tag.lclass, st.tag.level, st.deadline, slot⟩

/-- A free chain that can take over the field another run holds on a chain between two of its steps, for a request that stands earlier in
the order of R21 (R307). Log 132 DEDUCED. -/
def Dev.takeOver (d : Dev) (slot : Nat) (c : Chan) (st : Step) (n : Nat) : Option Nat :=
  let h := d.hfc n
  match h.owner, h.owner.bind d.chan? with
  | some o, some y => match y.step with
    | some sy =>
      let between := sy.phase != .running && h.att.isNone
      if o != slot && !y.direct && between && d.chainAsked c st n && d.hfHealthy n && !h.leaving && h.partner.isNone &&
          (st.order slot).before (sy.order o) then
        (List.range 4).find? fun m => m != n && d.hfFree o y sy m && !d.hfOn m
      else none
    | none => none
  | _, _ => none

/-- A UHF chain free for a request (R67, R305). -/
def Dev.uhfFree (d : Dev) (slot : Nat) (c : Chan) (st : Step) (n p : Nat) : Bool :=
  d.chainAsked c st n && d.uhfHealthy n && (d.fld (F.UHFCn_STAT_ROLE n) != 3 || (d.wantsPair c st && !c.direct)) &&
    d.ownerFree (d.uhfc n).owner slot && !(d.uhfc n).leaving && d.uhfServes n p

/-- The member port of a direct bond: the lowest usable other port of the measured set, those with no field first. Log 63 DEDUCED. -/
def Dev.bondPeer (d : Dev) (p : Nat) : Option Nat :=
  let ok (q : Nat) : Bool := q != p && d.hfPortOk q && (d.measuredSet p q).isSome
  ((List.range 16).find? fun q => ok q && (d.hfChainOn q).isNone).orElse fun _ => (List.range 16).find? ok

/-- Where an HF step goes on a port: chain, and partner chain and port of a bond; or the WAIT bits of what it waits for, with 64
beside them where only a mode limit or a STAGGER partner's exchange (R123) stands against it. Log 63 DEDUCED. -/
def Dev.placeHf (d : Dev) (slot : Nat) (c : Chan) (st : Step) (p : Nat) : Except Nat (Nat × Option (Nat × Nat)) :=
  let free := (List.range 4).filter (d.hfFree slot c st)
  let held := d.hfChainOn p
  let mine := held.filter fun n => (d.hfc n).owner == some slot
  match mine, held.filter fun n => !d.ownerFree (d.hfc n).owner slot with
  | some n, _ =>
    if free.contains n then .ok (n, (d.hfc n).partner.bind fun m => (d.hfc m).port.map fun q => (m, q))
    else match free.find? fun m => !d.hfOn m with
      | some m => if d.staggered n then .error 72 else .ok (m, (d.hfc n).partner.bind fun k => (d.hfc k).port.map fun q => (k, q))
      | none => .error 32
  | none, some _ => .error 16
  | none, none =>
    let own (n : Nat) : Bool := d.hfOn n
    let fits (ns ps : List Nat) (r : Nat × Option (Nat × Nat)) : Except Nat (Nat × Option (Nat × Nat)) :=
      let d' := ns.foldl (fun d n => if own n then d.hfFieldOff n else d) (match held with
        | some h => d.hfFieldOff h
        | none => d)
      let d' := ns.foldl (fun d n => d.onHf n fun h => { h with pulse := c.kind == Kind.presence }) d'
      let going := (held.toList ++ ns.filter own).eraseDups
      if d'.hfFields + 1 > hfFieldLimit d.mode || d.startStaggered ps || going.any d.staggered then .error 72
      else if !d'.hfFieldFits ns ps then .error 8
      else .ok r
    if !d.wantsPair c st then
      match free.head?, (List.range 4).find? fun n => (d.takeOver slot c st n).isSome with
      | some n, _ => fits [n] [p] (n, none)
      | none, some n =>
        -- the run on this chain hands its field over first (R307)
        if d.staggered n || d.startStaggered [p] || d.hfFields + 1 > hfFieldLimit d.mode then .error 72
        else if !d.hfFieldFits [] [p] then .error 8 else .ok (n, none)
      | none, none => .error 32
    else
      let pick : Option (Nat × Nat × Nat) := if c.direct then
          match free.find? fun n => d.flag (F.HFCn_BOND_EN n), d.bondPeer p with
          | some n, some q => if free.contains (d.fld (F.HFCn_BOND_MEMBER n)) then some (n, d.fld (F.HFCn_BOND_MEMBER n), q) else none
          | _, _ => none
        else match free with
          | n :: m :: _ => some (n, m, (d.headOf c).pairPort)
          | _ => none
      match pick with
      | none => .error 32
      | some (n, m, q) =>
        if d.bondBad n p m q then .error 16
        else if (d.hfChainOn q).isSome then .error 16
        else fits [n, m] [p, q] (n, some (m, q))

/-- The UHF chain that holds a port. -/
def Dev.uhfChainOn (d : Dev) (p : Nat) : Option Nat := [0, 1].find? fun n => (d.uhfc n).port == some p && (d.uhfc n).owner.isSome

/-- Where a UHF step goes on a port; as `placeHf`. A pair that has degraded goes on as its surviving chain alone (R207); in COMMISSION
only sweeps steer (R64). Log 63 DEDUCED. -/
def Dev.placeUhf (d : Dev) (slot : Nat) (c : Chan) (st : Step) (p : Nat) : Except Nat (Nat × Option (Nat × Nat)) :=
  let free := [0, 1].filter fun n => d.uhfFree slot c st n p
  let blocked := (d.uhfChainOn p).filter fun n => !d.ownerFree (d.uhfc n).owner slot
  let survivor := [0, 1].find? fun n =>
    (d.uhfc n).owner == some slot && (d.uhfc n).port == some p && (d.uhfc n).partner.isNone && free.contains n && !d.uhfHealthy (1 - n)
  if blocked.isSome then .error 16
  else if d.wantsPair c st && d.mode == Mode.commission then .error 32
  else if d.wantsPair c st && survivor.isSome then .ok (survivor.getD 0, none)
  else if !d.wantsPair c st then
    let mine := free.find? fun n => (d.uhfc n).port == some p && (d.uhfc n).owner == some slot
    match mine, free.head? with
    | some n, _ => .ok (n, none)
    | none, some n => .ok (n, none)
    | none, none => .error 32
  else
    let master := if c.direct then (if d.flag F.UHF_STEER_MASTER then 1 else 0) else 0
    let pick (n : Nat) : Option (Nat × Option (Nat × Nat)) :=
      let m := 1 - n
      let q := if c.direct then (List.range 8).find? fun q => q != p && d.uhfPortOk q && d.uhfServes m q else some (d.headOf c).pairPort
      match q with
      | some q => if d.steerBad n p m q || !free.contains n || !d.ownerFree (d.uhfc m).owner slot then none else some (n, some (m, q))
      | none => none
    if c.direct && !d.flag F.UHF_STEER_EN then .error 32
    else match pick master, (if c.direct then none else pick 1) with
      | some r, _ => .ok r
      | none, some r => .ok r
      | none, none => .error 32

/-- Time a chain has spent on direct steps in the last second (R80); UHF chains count from 4. Log 84 DEDUCED. -/
def Dev.directUsed (d : Dev) (chain : Nat) : Nat :=
  ((d.quota.filter (·.chain == chain)).map fun s => s.within d.time 1000000).sum

/-- The quota lets a direct step start on its chains (R80, R81); a step that has started runs to completion. Log 84 DEDUCED. -/
def Dev.quotaOk (d : Dev) (c : Chan) (st : Step) (chains : List Nat) : Bool :=
  !c.direct || st.started || !(Mode.strict d.mode || d.mode == Mode.survey) ||
    chains.all fun ch => decide (d.directUsed ch + st.worst * (1 + st.retries) ≤ d.fld F.SUP_DIRECT_QUOTA_QUOTA * 10000)

/-- A placement: port, chain, partner chain and port. -/
abbrev Place := Nat × Nat × Option (Nat × Nat)

/-- The chains of a placement, UHF chains from 4. -/
def placeChains (uhf : Bool) (n : Nat) (partner : Option (Nat × Nat)) : List Nat :=
  (n :: (partner.map (·.1)).toList).map fun k => if uhf then 4 + k else k

/-- What a request gets: a placement, or what it waits for (R24, R80, R305, R306); 0 where no candidate port is usable. A step that has
started runs on beside a record held in the builder (R24). -/
def Dev.place? (d : Dev) (slot : Nat) (c : Chan) (st : Step) : Except Nat Place :=
  let ports := (d.candPorts c st).filter (d.portUsable c st)
  if ports.isEmpty then .error 0
  else if jpolCommit st.tag.jpol != 0 && d.jrn.held.isSome && !st.started then .error 2
  else
    let tries := ports.map fun p =>
      (p, if st.uhf then d.placeUhf slot c st p else d.placeHf slot c st p)
    let good := tries.findSome? fun x => match x.2 with
      | .ok r => if d.quotaOk c st (placeChains st.uhf r.1 r.2) then some (x.1, r.1, r.2) else none
      | .error _ => none
    match good with
    | some r => .ok r
    | none => .error (tries.foldl (fun a x => match x.2 with
      | .ok _ => a ||| 4
      | .error w => a ||| w) 0)

/-- The channels whose step waits for a grant, with its step. -/
def Dev.waiting (d : Dev) : List (Nat × Chan × Step) :=
  d.chans.filterMap fun x => match x.2.step with
    | some st => if st.phase = .waiting then some (x.1, x.2, st) else none
    | none => none

/-! ### Attempts (R308–R310, R324, R325, R391) -/

/-- The step of a channel put back. -/
def Dev.setStep (d : Dev) (slot : Nat) (st : Step) : Dev := d.onChan slot fun c => { c with step := some st }

/-- The step's phase set. -/
def Dev.setPhase (d : Dev) (slot : Nat) (p : StepPhase) : Dev :=
  d.onChan slot fun c => { c with step := c.step.map fun st => { st with phase := p } }

/-- The object entry a scheduled step works on: that of the due run, or the object an ACCESS run has bound (R327, R336). -/
def Dev.stepObject (d : Dev) (c : Chan) : Bytes :=
  match c.run with
  | some r => if c.kind == Kind.access then ((r.object.map fun k => (d.obj k).bytes).getD (zeros 32)) else r.due.entry
  | none => zeros 32

/-- The Vault context of an attempt, where its work calls for a key (R390, R391, R520). -/
def Dev.attemptKey (d : Dev) (c : Chan) (st : Step) : Except Nat (Option Bytes) :=
  let kind := uKind st.params
  let need := (st.uhf && (kind == 2 || kind == 3)) || (!st.uhf && st.chal)
  if !need || !bit st.tag.keyslot 7 then .ok none
  else
    let purposeOk := !(st.uhf && kind == 3) ||
      (((d.vault.slots.getD (st.tag.keyslot % 32) none).map fun k => bit k.purpose 2).getD true)
    match d.tagKey st.tag.keyslot st.object (if c.direct then zeros 2 else objDiv (d.stepObject c)) with
    | .ok k => if purposeOk then .ok (some k) else .error Code.KEY_PURPOSE
    | .error e => .error e

/-- The ACTIVATE of a run that stands before a step on its port (R170, R483): its parameter block. -/
def Dev.lastActivate (d : Dev) (c : Chan) (step : Nat) : Option Bytes :=
  if c.direct then none
  else (((d.planSteps c.plan).take step).filter fun s => hfKind s.params = 5).getLast?.map (·.params)

/-- The spans of a slot's direct work closed (R80). A span names its slot as its channel. Log 84 DEDUCED. -/
def Dev.quotaClose (d : Dev) (slot : Nat) : Dev :=
  let upd (s : Span) : Span := if s.chan = slot && s.off.isNone then { s with off := some d.time } else s
  { d with quota := d.quota.map upd }

/-- Spans of direct work opened on the chains a slot's step holds (R80). Log 84 DEDUCED. -/
def Dev.quotaOpen (d : Dev) (slot : Nat) (c : Chan) (chains : List Nat) : Dev :=
  if !c.direct then d
  else
    let keep := (d.quotaClose slot).quota.filter fun s => match s.off with
      | some t => decide (t + 2000000 ≥ d.time)
      | none => true
    { d with quota := keep ++ chains.map fun ch => { chan := slot, chain := ch, on := d.time, off := none } }

/-- The chains of an emission: a chain and its bond or pair partner, UHF chains from 4. -/
def Dev.chainsOf (d : Dev) (ch : Nat) : List Nat :=
  ch :: (if ch ≥ 4 then ((d.uhfc (ch - 4)).partner.map (4 + ·)).toList else (d.hfc ch).partner.toList)

/-- The attempt of a step ends with no frame of its own (R19, R169, R171, R237): its chain passes one bare frame on. -/
def Dev.bareEnd (d : Dev) (slot : Nat) (st : Step) (code : Nat) : Dev :=
  match st.chain with
  | none => d.setStep slot { st with phase := .ended code }
  | some ch =>
    if ch ≥ 4 then
      let f := uhfBare st.tag code
      (d.uhfShowFrame (ch - 4) f).setStep slot { st with frames := st.frames ++ [f], phase := .ended code }
    else
      let f := d.hfBare ch st.tag code
      (d.hfShowFrame (portchChain f.tag.portch) f).setStep slot { st with frames := st.frames ++ [f], phase := .ended code }

/-- An attempt begins on the chain its step holds: key and challenge, the filled template, and the protocol engine's first
exchange (R308, R324, R325, R336, R391). -/
def Dev.beginAttempt (d : Dev) (slot : Nat) : Dev :=
  match d.chan? slot with
  | none => d
  | some c => match c.step, c.step.bind (·.chain) with
    | some st, some ch =>
      if passed d.time st.deadline && decide (d.time ≥ st.deadline) then d.setPhase slot (.ended Code.DEADLINE)
      else match d.attemptKey c st with
        | .error e => d.bareEnd slot st e
        | .ok key =>
          let needRand := !st.uhf && st.chal
          if needRand && !d.vault.drbgOk then d.bareEnd slot st Code.DRBG_FAIL
          else
            let d := d.quotaOpen slot c (d.chainsOf ch)
            let (chal, d) := if needRand then d.drbg 8 else ([], d)
            let (tmpl, tbits) := fillTemplate st.uhf st (d.stepObject c)
            let tmpl := if needRand then overlay tmpl st.chalOff chal else tmpl
            let st := { st with phase := .running, ctx := key, challenge := chal, frames := [], asm := [], cv := none }
            let (_, cv, d) := d.cvuStep slot st ch true tmpl (tbits % 8)
            let d := d.setStep slot { st with cv := cv }
            if ch ≥ 4 then
              let n := ch - 4
              let a : UhfAttempt := {
                tag := st.tag, params := st.params, tmpl := tmpl, tbits := tbits, object := fit 8 st.object, sched := !c.direct
                worst := st.worst }
              (d.onUhf n fun u => { u with att := some a }).uhfBegin n
            else
              let proto := if c.direct then d.fld (F.HFCn_PROTO_PROTO ch) else hfProto st.params
              let act := if st.react || st.recover then d.lastActivate c st.tag.step else none
              let bind := !c.direct && st.tag.step = 0 && hfKind st.params = 5
              let a : HfAttempt := {
                tag := st.tag, params := st.params, tmpl := tmpl, tbits := tbits, sched := !c.direct, kind := hfKind st.params
                proto := proto, seq := if st.recover && act.isSome then .recover else .plain
                select := bind || act.isSome, react := act }
              let d := d.onHf ch fun h => { h with att := some a, staggerUs := 0 }
              if (d.hfc ch).phase = .guard then d else (d.onHf ch fun h => { h with phase := .idle }).hfBegin ch
    | _, _ => d

/-! ### Grants (R100, R101, R305–R307) -/

/-- A field handed from one chain to another on the same port (R100): the attempt in hand, the bond, the measured current, what R126 forces
and the direct step's span go with it, and the step's PORTCH follows (R16, R17). -/
def Dev.handover (d : Dev) (old new : Nat) : Dev :=
  match (d.hfc old).port with
  | none => d
  | some p =>
    let c := d.hfc old
    let iant := d.reg (R.HFCn_IANT old)
    let fix (t : FrameTag) : FrameTag :=
      if portchChain t.portch = old then { t with portch := portch false new c.partner.isSome p } else t
    let d := (d.staggerEnd old).onHf old fun h => { h with
      port := none, owner := none, partner := none, master := true, bondPhase := 0, phase := .idle, att := none, card := none, tx := []
      txBits := 0, txCrc := false, txPend := false, leaving := false, closing := false }
    let d := (((d.setFlag (F.HFCn_STAT_FIELD_ON old) false).setFlag (F.HFCn_STAT_BONDED old) false).setReg (R.HFCn_POWER old) 0#32).setReg
      (R.HFCn_IANT old) 0#32
    let d := d.initTracking old
    let d := (d.hfConnect new p c.owner).onHf new fun h => { h with
      partner := c.partner, master := c.master, bondPhase := c.bondPhase, card := c.card, phase := c.phase, gain := c.gain, onAt := c.onAt
      att := c.att.map fun a => { a with tag := fix a.tag }, tx := c.tx, txBits := c.txBits, txCrc := c.txCrc, staggerUs := c.staggerUs
      forced := h.forced || c.forced }
    let d := match c.partner with
      | none => d
      | some m =>
        let d := d.onHf m fun h => { h with partner := some new, att := h.att.map fun (a : HfAttempt) => { a with tag := fix a.tag } }
        d.setFlag (F.HFCn_STAT_BONDED new) true
    let step : Option Step := (c.owner.bind d.chan?).bind fun x => x.step
    let d := match c.owner, step with
      | some o, some st =>
        let upd (s : Span) : Span := if s.chan = o && s.chain = old && s.off.isNone then { s with off := some d.time } else s
        let mine := d.quota.any fun s => s.chan = o && s.chain = old && s.off.isNone
        let d := if mine then
            { d with quota := d.quota.map upd ++ [({ chan := o, chain := new, on := d.time, off := none } : Span)] } else d
        if st.phase = StepPhase.running then
          d.setStep o { st with tag := fix st.tag, chain := if st.chain = some old then some new else st.chain }
        else d
      | _, _ => d
    (((d.hfApplyDrive new).setReg (R.HFCn_IANT new) iant).initTracking new).showTiers

/-- An HF grant takes effect: field on, handover, or the field already there; a run that must give the chain up hands its field over
first (R307). Log 83 DEDUCED. -/
def Dev.grantHf (d : Dev) (slot : Nat) (c : Chan) (st : Step) (p n : Nat) (partner : Option (Nat × Nat)) (ma phase : Nat) : Dev :=
  let d := match d.takeOver slot c st n with
    | some m => if (d.hfc n).port == some p then d else d.handover n m
    | none => d
  match d.hfChainOn p with
  | some h =>
    if (d.hfc h).owner == some slot then (if h = n then d else d.handover h n)
    else on (d.hfFieldOff h)
  | none => on d
where
  on (d : Dev) : Dev :=
    let d := d.hfFieldOff n
    match partner with
    | none => (d.hfFieldOn n p (some slot) c.direct ma phase).onHf n fun h => { h with phase := .guard }
    | some (m, q) =>
      let d := d.hfFieldOff m
      let d := d.onHf n fun h => { h with partner := some m, master := true }
      let d := d.onHf m fun h => { h with partner := some n, master := false, bondPhase := if c.direct then 0 else (d.headOf c).phase % 1024 }
      let d := (d.hfFieldOn n p (some slot) c.direct ma phase).hfFieldOn m q (some slot) c.direct ma phase
      let d := (d.onHf n fun h => { h with phase := .guard }).hfApplyDrive n
      (d.setFlag (F.HFCn_STAT_BONDED n) true).setFlag (F.HFCn_STAT_BONDED m) true

/-- A UHF grant takes effect: the chain, or the pair, is held for the channel on its ports (R204, R206). -/
def Dev.grantUhf (d : Dev) (slot p n : Nat) (partner : Option (Nat × Nat)) : Dev :=
  let take (d : Dev) (k q : Nat) (mate : Option Nat) (master : Bool) (role : Nat) : Dev :=
    let d := if (d.uhfc k).port == some q && (d.uhfc k).partner == mate then d else d.rampDown k
    let d := d.onUhf k fun u => { u with owner := some slot, port := some q, partner := mate, master := master, leaving := false }
    d.setFld (F.UHFCn_STAT_ROLE k) role
  match partner with
  | none => (take d n p none true 0).showPermit n
  | some (m, q) => ((take (take d n p (some m) true 1) m q (some n) false 2).showPermit n).showPermit m

/-- PORTCH as the arbiter writes it (R14, R17): in a bond, the chain of the receiver that RXSEL names (R129).
Log 83 DEDUCED, 89 DEDUCED. -/
def Dev.portchFor (d : Dev) (c : Chan) (st : Step) (p n : Nat) (partner : Option (Nat × Nat)) : Nat :=
  match partner with
  | none => portch st.uhf n false p
  | some (m, q) =>
    if st.uhf then portch true n true p
    else
      let rx := if c.direct then d.flag (F.HFCn_BOND_RXSEL n) else (d.headOf c).rxsel
      if rx then portch false m true q else portch false n true p

/-- A request granted (R305–R307): PORTCH, the wait counted, the field or chain taken, the attempt begun. -/
def Dev.grant (d : Dev) (slot : Nat) (c : Chan) (st : Step) (pl : Place) (ma phase : Nat) : Dev :=
  let (p, n, partner) := pl
  let st' := { st with
    tag := { st.tag with portch := d.portchFor c st p n partner }, chain := some (if st.uhf then 4 + n else n), fieldWait := false
    started := true }
  let d := d.setChan slot { c with
    step := some st', run := c.run.map fun r => { r with port := some p }, waitUs := c.waitUs + (d.time - st.waitFrom) }
  let d := if st.uhf then d.grantUhf slot p n partner else d.grantHf slot c st p n partner ma phase
  d.respare.beginAttempt slot

/-! ### PRESENCE runs (R338) -/

/-- The extra ACCESS runs a confirmed APPROACH asks for (R331). -/
def Dev.triggerAccess (d : Dev) (port dir : Nat) : Dev :=
  if dir != 1 then d
  else
    let upd (x : Nat × Chan) : Nat × Chan :=
      let p := d.plan x.2.plan
      if x.2.kind == Kind.access && p.trigger && bit p.ports port && (x.2.state == .active || x.2.state == .running) then
        (x.1, { x.2 with extras := x.2.extras ++ [{ target := port, slot := d.wall, cause := .extra }] })
      else x
    { d with chans := d.chans.map upd }

/-- The measurement of a PRESENCE run granted (R338): field on at PULSE_ATT, pulse, field off; a candidate asks for two extra runs 50 ms apart, a
confirmation writes its record and event. The run's step ends OK. An open or shorted antenna leaves the field on and the step in hand for
the fault of R115. -/
def Dev.presenceRun (d : Dev) (slot : Nat) (c : Chan) (st : Step) (pl : Place) (ma phase : Nat) : Dev :=
  let (p, n, _) := pl
  let st' := { st with tag := { st.tag with portch := portch false n false p }, chain := none, phase := .ended 0 }
  let d := d.setChan slot { c with
    step := some st', run := c.run.map fun r => { r with port := some p }, waitUs := c.waitUs + (d.time - st.waitFrom) }
  let d := match d.hfChainOn p with
    | some h => d.hfFieldOff h
    | none => d
  let d := ((d.hfFieldOff n).onHf n fun h => { h with pulse := true }).hfFieldOn n p (some slot) false ma phase
  if d.hfVerdict n ma != 0 then d.setStep slot { st' with chain := some n, phase := .running, started := true }
  else
  let d := d.hfFieldOff n
  let (re, im) := Config.rectOf ma phase
  let m : Cplx := ⟨re, im⟩
  let before := (d.sense p).cand.isSome
  let (d, found) := d.sensePulse p n m
  let after := (d.sense p).cand.isSome
  let w := d.wall
  let two : List Extra := [{ target := p, slot := w + 50, cause := .extra }, { target := p, slot := w + 100, cause := .extra }]
  let more (es : List Extra) : List Extra :=
    if after && !before then es ++ two
    else if !after then es.filter (fun (e : Extra) => !(e.target == p && e.cause == .extra)) else es
  let d := d.onChan slot fun c => { c with extras := more c.extras }
  match found with
  | none => d.respare
  | some (dir, delta, pulses, base) =>
    let e : LogEntry := { port := p, pulser := n, dir := dir, delta := delta, meas := m, base := base, pulses := pulses, wall := d.wall
                          woke := false }
    let req := d.presenceReq e (jpolCommit st.tag.jpol)
    let d := d.ask { req with
      ticket := .step st.tag.handle, device := false, lclass := st.tag.lclass, level := st.tag.level, deadline := st.tag.deadline
      slot := slot }
    ((d.presenceEvent e).triggerAccess p dir).respare

/-- The arbiter grants the first request in the order of R21 that can be granted now (R305, R306); none during a transition. A
field that its permit does not allow at all is not switched on: the step ends with GOV_DENIED (R260). A direct step that the group of its
chain no longer allows ends with CC_HF_STEP before anything is emitted (R149). -/
def Dev.arbiterGrant (d : Dev) (ma phase : Nat) : Dev :=
  if d.trans.isSome || !d.live then d
  else
    let ready := d.waiting.filterMap fun x => match d.place? x.1 x.2.1 x.2.2 with
      | .ok pl => some (x, pl)
      | .error _ => none
    match firstBy (fun y => y.1.2.2.order y.1.1) ready with
    | none => d
    | some ((slot, c, st), pl) =>
      if passed d.time st.deadline && decide (d.time ≥ st.deadline) then d.setPhase slot (.ended Code.DEADLINE)
      else if !st.uhf && !(pl.1 :: (pl.2.2.map (·.2)).toList).all d.hfPermitted then
        d.onChan slot fun x => { x with step := x.step.map fun s =>
          { s with tag := { s.tag with portch := d.portchFor c st pl.1 pl.2.1 pl.2.2 }, phase := .ended Code.GOV_DENIED } }
      else if c.direct && !st.uhf && hfStepBad st.params (d.fld (F.HFCn_PROTO_PROTO pl.2.1)) true then
        d.setPhase slot (.ended Code.CC_HF_STEP)
      else if c.kind == Kind.presence then d.presenceRun slot c st pl ma phase
      else d.grant slot c st pl ma phase

/-! ### Frames handed over (R20, R22, R316, R325, R326, R336, R452–R456) -/

/-- What the transaction engine makes of a frame whose protocol outcome is OK (R169, R325, R326, R336): its code and payload. -/
def Dev.judgeFrame (d : Dev) (c : Chan) (st : Step) (f : ResFrame) (cvBad : Bool) : Nat × Bytes :=
  let proto := if st.uhf then 4 else hfProto st.params + 1
  let binds := !c.direct && !st.uhf && st.tag.step = 0 && (c.kind == Kind.meterRead || c.kind == Kind.access)
  let oid := objectIdOf proto f.ident
  let mism := binds && (match c.run with
    | some r => if c.kind == Kind.meterRead then objId r.due.entry != oid || objProto r.due.entry != proto
      else match d.findObj proto oid with
        | some k => objGroups (d.obj k).bytes &&& (d.headOf c).groups = 0
        | none => true
    | none => false)
  let n := f.payload.length
  let body := f.payload.take (n - 8)
  let chal := !st.uhf && st.chal && !c.direct
  let auth := !chal || (match st.ctx with
    | some k => decide (n ≥ 8) && (cmac k (st.challenge ++ body)).take 8 == f.payload.drop (n - 8)
    | none => false)
  let payload := if chal then body else f.payload
  if mism then (Code.OBJECT_MISMATCH, [])
  else if !auth then (Code.TAG_AUTH_FAIL, [])
  else if cvBad then (Code.CV_CHECK_FAIL, [])
  else if st.expLen != 0 && payload.length != st.expLen then (Code.REPLY_LENGTH, [])
  else (0, payload)

/-- The object and identifier a run has bound (R336). -/
def Dev.bindRun (d : Dev) (slot : Nat) (c : Chan) (st : Step) (f : ResFrame) : Dev :=
  if c.direct || st.tag.step != 0 || f.code != 0 then d
  else
    let proto := if st.uhf then 4 else hfProto st.params + 1
    let oid := objectIdOf proto f.ident
    let d := d.onChan slot fun c => { c with run := c.run.map fun r => { r with ident := identOf proto f.ident } }
    if c.kind == Kind.access then
      let k := d.findObj proto oid
      d.onChan slot fun c => { c with run := c.run.map fun (r : Run) => { r with object := k } }
    else d

/-- Bytes of result messages unread and about to be (R317). Log 87 DEDUCED. -/
def Chan.resultBytes (c : Chan) (st : Step) : Nat :=
  (c.results.map List.length).sum + (st.frames.map fun f => 44 + f.payload.length).sum

/-- The attempt on a chain stopped; UHF chains count from 4. -/
def Dev.abortOn (d : Dev) (ch : Nat) : Dev := if ch ≥ 4 then d.uhfAbort (ch - 4) else d.hfAbort ch

/-- One frame at the transaction engine (R20, R311): an orphan is counted, a frame of an earlier attempt is dropped, a piece of a chain is
assembled (R23), and the rest is judged, kept, and ends the attempt if it is the last. Log 87 DEDUCED. -/
def Dev.takeFrame (d : Dev) (chain : Nat) (f : ResFrame) : Dev :=
  match d.liveSlot f.tag.handle with
  | none => { (d.bump F.DEV_ORPHAN_COUNT 1) with orphan := f.tag.handle % 256 }
  | some slot => match d.chan? slot with
    | none => d
    | some c => match c.step with
      | none => d
      | some st =>
        if st.tag.reqId != f.tag.reqId || st.tag.step != f.tag.step || st.tag.attempt != f.tag.attempt || st.phase != .running then d
        else if f.part then d.setStep slot { st with asm := st.asm ++ f.payload }
        else
          let home := st.chain.getD chain
          let dup := f.code = 0 && st.uhf && uKind st.params = 0 && st.frames.any fun g => g.code = 0 && g.ident == f.ident
          let lastBits := if st.uhf then byteAt f.status 4 % 8 else byteAt f.status 4 % 16 % 8
          let f := { f with payload := if f.code = 0 then st.asm ++ f.payload else f.payload }
          let (bad, cv, d) := if f.code = 0 then d.cvuStep slot st chain false f.payload lastBits else (false, st.cv, d)
          let (code, payload) := if f.code = 0 then d.judgeFrame c st f bad else (f.code, [])
          let d := if code = f.code then d else if st.uhf then d.uhfRejudge (chain - 4) code else d.hfRejudge chain code
          let f := { f with
            code := code, payload := payload, wall := d.wall
            status := overlay f.status 0 (beBytes 2 payload.length ++ beBytes 1 code) }
          let st := { st with cv := cv, asm := [] }
          let full := c.direct && decide (c.resultBytes st + 44 + payload.length > 4096) && !st.frames.isEmpty
          if full then
            let upd (g : ResFrame) : ResFrame := { g with status := overlay g.status 3 (beBytes 1 (byteAt g.status 3 ||| 8)) }
            let fs := st.frames.dropLast ++ (st.frames.getLast?.map upd).toList
            (d.setStep slot { st with frames := fs, phase := .ended 0 }).abortOn home
          else
            let st := { st with frames := if dup && !f.last then st.frames else st.frames ++ [f] }
            let d := (d.setStep slot st).bindRun slot c st f
            if f.last || code != 0 then
              let d := d.setPhase slot (.ended code)
              if f.last then d else d.abortOn home
            else d

/-- A command that waited for a frame buffer starts once one is free (R23). -/
def Dev.hfResume (d : Dev) (ch : Nat) : Dev :=
  d.forEach (List.range 4) fun d n =>
    let h := d.hfc n
    if h.phase = .ready && h.stagFrom.isNone && (h.att.map (·.rxChain)) == some ch then d.hfStart n else d

/-- The oldest frame of a chain's buffers by the order of R21 handed to the transaction engine (R22), which frees its buffer (R23). -/
def Dev.frameHandoff (d : Dev) (ch : Nat) : Dev :=
  let bufs := if ch ≥ 4 then (d.uhfc (ch - 4)).bufs else (d.hfc ch).bufs
  match firstBy (fun (f : ResFrame) => ⟨f.tag.lclass, f.tag.level, f.tag.deadline, f.tag.handle % 256⟩) bufs with
  | none => d
  | some f =>
    let d := if ch ≥ 4 then d.onUhf (ch - 4) fun u => { u with bufs := u.bufs.erase f } else d.onHf ch fun h => { h with bufs := h.bufs.erase f }
    let d := d.takeFrame ch f
    if ch ≥ 4 then d else d.hfResume ch

/-! ### Ends of steps and runs (R309–R312, R336–R341) -/

/-- The chain a step holds is released at the end of its run, or of its direct step on UHF (R101, R305). -/
def Dev.releaseChain (d : Dev) (ch : Nat) (at_ : Bool) : Dev :=
  (if ch ≥ 4 then
    let n := ch - 4
    let d := if (d.uhfc n).master then (if (d.uhfc n).owner.isSome then d.toStandby n else d.rampDown n) else d
    let m := (d.uhfc n).partner
    let free (d : Dev) (k : Nat) : Dev :=
      let d := d.onUhf k fun u => { u with owner := none, partner := none, master := true, port := none, leaving := false }
      let d := (d.setFlag (F.UHFCn_STAT_PORT_VALID k) false).setFld (F.UHFCn_POWER_PERMIT k) 0
      if d.fld (F.UHFCn_STAT_ROLE k) = 3 then d else d.setFld (F.UHFCn_STAT_ROLE k) 0
    let d := free d n
    (match m with
    | some m => free d m
    | none => d).restandby
  else if at_ then d.hfFieldOff ch else d.hfRelease ch).respare

/-- Every chain a channel's run holds released; `at_` says that its fields go off at once, whatever a STAGGER partner does (R71, R296). -/
def Dev.releaseRunIf (d : Dev) (slot : Nat) (at_ : Bool) : Dev :=
  let d := d.quotaClose slot
  let d := d.forEach (List.range 4) fun d n => if (d.hfc n).owner == some slot && (d.hfc n).master then d.releaseChain n at_ else d
  d.forEach [0, 1] fun d n => if (d.uhfc n).owner == some slot && (d.uhfc n).master then d.releaseChain (4 + n) at_ else d

/-- A run stopped: what it holds is released at once. -/
def Dev.releaseRun (d : Dev) (slot : Nat) : Dev := d.releaseRunIf slot true

/-- Step 0 failed to bind its object (R336). -/
def Dev.bindFailed (c : Chan) (st : Step) (code : Nat) : Bool :=
  st.tag.step == 0 && (c.kind == Kind.meterRead || c.kind == Kind.access) &&
    (!st.uhf || !([Code.UHF_TAG_ERROR, Code.UHF_WRITE_UNVERIFIED, Code.TAG_AUTH_FAIL, Code.CV_CHECK_FAIL, Code.REPLY_LENGTH].contains code))

/-- A code that ends a run whatever OUTCOME_MAP says (R339), or ends it before it starts (R375). -/
def endsRun (code : Nat) : Bool :=
  [Code.DEADLINE, Code.STOPPED, Code.MODE_ABORT, Code.JRNL_NO_ROOM].contains code

/-- A step's outcome ends its run (R339). -/
def Dev.runEnds (d : Dev) (c : Chan) (st : Step) (code : Nat) : Bool :=
  let p := d.headOf c
  decide (st.tag.step + 1 ≥ p.steps) || (code != 0 && (endsRun code || mapEnds p code || Dev.bindFailed c st code))

/-- The object ID of a run's records (R340). -/
def Dev.runObject (d : Dev) (c : Chan) : Bytes :=
  match c.run with
  | some r => if c.kind == Kind.meterRead then objId r.due.entry else
    if c.kind == Kind.access then ((r.object.map fun k => objId (d.obj k).bytes).getD (zeros 8)) else zeros 8
  | none => zeros 8

/-- The grant of R337 is suppressed: the object was the last that the device granted on that port. Log 141 DEDUCED. -/
def Dev.suppressed (d : Dev) (port : Nat) (oid : Bytes) : Bool := d.granted.contains (port, oid)

/-- The READ_FAIL record of an outcome. -/
def failReq (t : FrameTag) (f : Option ResFrame) (oid : Bytes) (r : Run) (code : Nat) : RecReq :=
  stepReq t f oid false 3 (readFail code t.step t.attempt r.due.wall r.reqId)

/-- The records of a step's outcome, and of its run where it ends it (R240, R340, R341). Log 88 DEDUCED. -/
def Dev.outcomeRecords (d : Dev) (c : Chan) (st : Step) (r : Run) (code : Nat) : Dev :=
  let p := d.headOf c
  let t := st.tag
  let f := st.frames.getLast?.orElse fun _ => r.last
  let oid := d.runObject c
  let fail := if mapRec p code then d.ask (failReq t f oid r code) else d
  let ends := d.runEnds c st code
  if code = Code.JRNL_NO_ROOM then d
  else if c.kind == Kind.meterRead then
    if code = 0 then
      if st.record then
        let auth := if st.uhf then uKind st.params = 2 else st.chal
        (readingPayloads t.step ((f.map (·.payload)).getD [])).foldl (fun d b => d.ask (stepReq t f oid auth 1 b)) d
      else d
    else fail
  else if c.kind == Kind.census then
    let counts := code = 0 || classOf code = 1
    let d := if counts then d else fail
    if ends && counts && r.counted then
      d.censusRun c.plan t r.due.target (r.sightings ++ st.frames.filter (·.code == 0))
    else d
  else if c.kind == Kind.access then
    if code = 0 then
      if ends && !d.suppressed (r.port.getD 0) oid then
        d.ask (stepReq t f oid st.chal 4 (accessPayload true 0 p.strike p.strikeMs r.ident))
      else d
    else if mapRec p code && classOf code = 2 then
      d.ask (stepReq t f oid false 4 (accessPayload false code 0xFF 0 ((f.map (·.ident)).getD r.ident)))
    else fail
  else if code = 0 then d else fail

/-- The records of a direct step whose policy asks for them (R10, R66, R360, R367): READING, the one type that carries a step's payload
(R341), for each frame of a step that ends OK. Log 87 DEDUCED. -/
def Dev.directRecords (d : Dev) (st : Step) (code : Nat) : Dev :=
  if jpolCommit st.tag.jpol == 0 || code != 0 then d
  else st.frames.foldl (fun d f => (readingPayloads st.tag.step f.payload).foldl (fun d b =>
    d.ask (stepReq st.tag (some f) st.object (st.uhf && uKind st.params == 2) 1 b)) d) d

/-- The result messages of a direct step (R316). -/
def resultsOf (st : Step) (code : Nat) : List Bytes :=
  let fs := if st.frames.isEmpty then
      [{ tag := st.tag, status := emptyStatus st.uhf code, payload := [], code := code, last := true }] else st.frames
  (List.range fs.length).map fun i =>
    let last := i + 1 == fs.length
    match fs[i]? with
    | some f => resultMsg f.tag.bytes st.tag.reqId st.uhf last (if last then code else 0) st.tag.attempt i f.status f.payload
    | none => []

/-- CHN_LAST and the counters of a channel (R319). -/
def Dev.showOutcome (d : Dev) (slot : Nat) (t : FrameTag) (code : Nat) : Dev :=
  d.onChan slot fun c => { c with
    last := BitVec.ofNat 32 (code * 2 ^ 24 + t.step * 2 ^ 21 + t.attempt * 2 ^ 18 + t.reqId)
    ok := if code = 0 then satAdd 0xFFFF c.ok 1 else c.ok
    failed := if code = 0 then c.failed else satAdd 0xFFFF c.failed 1
    deadlines := if code = Code.DEADLINE then satAdd 0xFFFF c.deadlines 1 else c.deadlines }

/-- The RUN event of JPOL.EVT (R340, R445). Log 87 DEDUCED. -/
def Dev.runEvent (d : Dev) (t : FrameTag) (code seq : Nat) : Dev :=
  if jpolEvt t.jpol then
    d.event 0x04 0 t.handle (beBytes 2 t.reqId ++ beBytes 1 code ++ beBytes 1 (t.step * 32 + t.attempt) ++ beBytes 4 seq)
  else d

/-- Requests that waited for a channel to stop are DONE (R303). -/
def Dev.stopsDone (d : Dev) (handle : Nat) (ids : List Nat) : Dev := ids.foldl (fun d i => d.reqDone handle i Code.OK 0 []) d

/-- The strike of an access grant (R337): the pin goes active, or its length starts anew. -/
def Dev.strike (d : Dev) (pin ms : Nat) : Dev :=
  let low := bit (byteAt d.tables.gpio (17 + 8 * pin)) 1
  let bit_ : Fld := ⟨R.GPIO_OUT, pin, pin⟩
  let d := { d with strikes := d.strikes.filter (fun (s : Strike) => s.pin != pin) ++ [({ pin := pin, until_ := d.time + ms * 1000 } : Strike)] }
  ((d.setFlag bit_ (!low)).setFlag ⟨R.GPIO_STRIKE, pin, pin⟩ true).bump F.GPIO_CNT_STRIKES 1

/-- A channel at the end of its run (R295): ACTIVE, or STOPPED after DRAIN. -/
def Dev.afterRun (d : Dev) (slot : Nat) : Dev :=
  match d.chan? slot with
  | none => d
  | some c =>
    if c.state = .stopping then d
    else if c.drain then
      (d.setChan slot { c with state := .stopped, drain := false, stopIds := [], pending := none, extras := [], cycle := {} }).stopsDone
        (d.handle slot) c.stopIds
    else d.setChan slot { c with state := .active }

/-- A run ends with its one outcome (R304, R312, R335, R337). A run of any kind that ends ABSENT on an HF port shows that the card has gone.
Log 141 DEDUCED. -/
def Dev.runEnd (d : Dev) (slot : Nat) (c : Chan) (st : Step) (r : Run) (code : Nat) : Dev :=
  let handle := d.handle slot
  let p := d.headOf c
  let d := (d.showOutcome slot st.tag code).runEvent st.tag code r.lastSeq
  let d := if c.kind == Kind.meterRead && code = 0 then
      match r.object with
      | some k =>
        let o := d.obj k
        if objValid o.bytes && objId o.bytes == objId r.due.entry && objProto o.bytes == objProto r.due.entry && r.readSeq != 0 then
          d.setObj k { o with bytes := overlay o.bytes 24 (beBytes 4 r.readSeq) }
        else d
      | none => d
    else d
  let oid := d.runObject c
  let port := r.port.getD 0
  let grants := c.kind == Kind.access && code = 0 && !d.suppressed port oid
  let d := if grants then d.strike p.strike p.strikeMs else d
  let d := if (c.kind == Kind.access && code = 0) || (!p.uhf && r.port.isSome && classOf code = 1) then
      { d with granted := d.granted.filter (·.1 != port) ++ (if code = 0 then [(port, oid)] else []) }
    else d
  let d := d.onChan slot fun c => { c with
    run := none, step := none, session := none }
  let d := match r.due.cause with
    | .chnRun id => d.reqDone handle id code st.tag.attempt []
    | _ => d
  (d.releaseRunIf slot false).afterRun slot

/-- A direct step ends (R304, R315–R317). Log 87 DEDUCED. -/
def Dev.directEnd (d : Dev) (slot : Nat) (c : Chan) (st : Step) (code : Nat) : Dev :=
  let d := (d.showOutcome slot st.tag code).runEvent st.tag code 0
  let stopped := code = Code.STOPPED || code = Code.MODE_ABORT
  let d := d.onChan slot fun c => { c with step := none, results := if stopped then [] else c.results ++ resultsOf st code }
  let d := d.reqDone (d.handle slot) st.tag.reqId code st.tag.attempt []
  let d := match st.chain with
    | some ch => if ch ≥ 4 || stopped then d.releaseRun slot else d.quotaClose slot
    | none => d
  if c.state = .running then d.afterRun slot else d

/-- A channel is held by the mode in force, or by the mode a transition goes to (R65, R71). -/
def Dev.heldNow (d : Dev) (c : Chan) : Bool := heldIn c.kind d.mode || heldIn c.kind ((d.trans.map (·.target)).getD d.mode)

/-- What a step's end leaves behind is reported once its records are where its policy wants them (R360): the next step, or the end
of the run or direct step. -/
def Dev.stepReported (d : Dev) (slot : Nat) : Dev :=
  match d.chan? slot with
  | none => d
  | some c => match c.step with
    | none => d
    | some st => match st.phase with
      | .reporting code =>
        if d.outstanding st.tag.handle then d
        else match c.run with
          | none => d.directEnd slot c st code
          | some r =>
            if d.runEnds c st code then d.runEnd slot c st r code
            else if c.state = .stopping || d.heldNow c then
              -- a step complete before a STOP or a transition keeps its outcome; its run ends with STOPPED or MODE_ABORT (R71, R296)
              let stop := if c.state = .stopping then Code.STOPPED else Code.MODE_ABORT
              let st := { st with phase := .reporting stop }
              let d := (d.setStep slot st).outcomeRecords c st r stop
              if d.outstanding st.tag.handle then d else d.runEnd slot c st r stop
            else
              let r := { r with
                step := st.tag.step + 1, last := st.frames.getLast?.orElse fun _ => r.last
                sightings := r.sightings ++ st.frames.filter (·.code == 0)
                counted := r.counted && (code = 0 || classOf code = 1) }
              (d.setChan slot { c with run := some r, step := none }).newStep slot
      | _ => d

/-- A step has its outcome (R309, R312): the working check-value context is kept on OK (R453), the records are asked for. -/
def Dev.stepDone (d : Dev) (slot : Nat) (code : Nat) : Dev :=
  match d.chan? slot with
  | none => d
  | some c => match c.step with
    | none => d
    | some st =>
      let d := d.quotaClose slot
      let cv := if code = 0 then st.cv.orElse fun _ => c.cv else c.cv
      let st' := { st with phase := .reporting code, ctx := none }
      let d := (d.secCode code).setChan slot { c with step := some st', cv := cv }
      let d := match c.run with
        | some r => d.outcomeRecords c st r code
        | none => d.directRecords st code
      d.stepReported slot

/-- The chain a step holds can take its next attempt at once: healthy, staying, its port usable and, on HF, its field on. -/
def Dev.canRetryOn (d : Dev) (c : Chan) (st : Step) (ch : Nat) : Bool :=
  let p := portchPort st.tag.portch
  if ch ≥ 4 then
    d.uhfHealthy (ch - 4) && !(d.uhfc (ch - 4)).leaving && (d.uhfc (ch - 4)).owner.isSome && d.portUsable c st p
  else d.hfHealthy ch && !(d.hfc ch).leaving && d.hfOn ch && d.portUsable c st (((d.hfc ch).port).getD p)

/-- A BLOCK attempt that leaves the state of its card unknown (R170, R524). -/
def Step.cardLost (st : Step) (code : Nat) : Bool :=
  !st.uhf && (hfKind st.params = 4 || hfKind st.params = 6) && (code = Code.HF_PROTOCOL_ERROR || code = Code.HF_WTX_LIMIT)

/-- An attempt that ends with a code spends a retry (R309): retries remain, the run can re-activate a lost card (R170, R524), and the deadline
has not ended an INVENTORY step (R228). -/
def Dev.retries (d : Dev) (c : Chan) (st : Step) (code : Nat) : Bool :=
  retryCode code && (!st.cardLost code || (d.lastActivate c st.tag.step).isSome) &&
    !(st.uhf && uKind st.params = 0 && decide (d.time ≥ st.deadline)) && decide (st.tag.attempt < st.retries)

/-- What ends a step that may make no further attempt: a STOP, or a mode that holds its channel (R71, R296). -/
def Dev.stopCode (d : Dev) (c : Chan) : Option Nat :=
  if c.state = .stopping then some Code.STOPPED else if d.heldNow c then some Code.MODE_ABORT else none

/-- An attempt has ended with its code (R309, R310): re-issue, retry, or the step's outcome. A step that is being stopped makes no further
attempt (R71, R296). -/
def Dev.attemptEnd (d : Dev) (slot : Nat) : Dev :=
  match d.chan? slot with
  | none => d
  | some c => match c.step with
    | none => d
    | some st => match st.phase with
      | .ended code =>
        let again (d : Dev) (st : Step) : Dev :=
          let d := d.quotaClose slot
          let st := { st with frames := [], asm := [], ctx := none, cv := none }
          if d.trans.isSome then d.setStep slot { st with phase := .held }
          else match st.chain with
            | some ch => if d.canRetryOn c st ch then (d.setStep slot st).beginAttempt slot
              else d.setStep slot { st with phase := .waiting, waitFrom := d.time, chain := none }
            | none => d.setStep slot { st with phase := .waiting, waitFrom := d.time }
        if !reissueCode code && !d.retries c st code then d.stepDone slot code
        else match d.stopCode c with
          | some stop => d.stepDone slot stop
          | none =>
            if reissueCode code then again d st
            else
              let d := d.onChan slot fun c => { c with retries := satAdd 0xFFFF c.retries 1 }
              again d { st with tag := { st.tag with attempt := st.tag.attempt + 1 }, recover := st.cardLost code }
      | _ => d

/-- A wait under R306 that ends without a grant is counted too (R319). -/
def Dev.countWait (d : Dev) (slot : Nat) (st : Step) : Dev :=
  if st.phase = .waiting then d.onChan slot fun c => { c with waitUs := c.waitUs + (d.time - st.waitFrom) } else d

/-- The last frame of a step's attempt, complete in a buffer of its chain (R22, R310). -/
def Dev.lastFrame (d : Dev) (st : Step) : Option ResFrame :=
  st.chain.bind fun ch => (d.chainsOf ch).findSome? fun k =>
    (if k ≥ 4 then (d.uhfc (k - 4)).bufs else (d.hfc k).bufs).find? fun f =>
      f.tag.handle = st.tag.handle && f.tag.reqId = st.tag.reqId && f.tag.step = st.tag.step && f.tag.attempt = st.tag.attempt && f.last

/-- The step's last frame is complete: it has ended, or the frame is in its chain's buffer and its code makes no further attempt (R71, R296). -/
def Dev.stepComplete (d : Dev) (c : Chan) (st : Step) : Bool :=
  let ends (code : Nat) : Bool := !reissueCode code && !d.retries c st code
  match st.phase with
  | .reporting _ => true
  | .ended code => ends code
  | .running => (d.lastFrame st).any fun f => ends f.code
  | _ => false

/-- A step stopped where it stands with a code, unless its last frame is complete (R71, R296): its attempt and what it holds in its chain go. -/
def Dev.stopStep (d : Dev) (slot : Nat) (code : Nat) : Dev :=
  match d.chan? slot with
  | none => d
  | some c => match c.step with
    | none => d
    | some st =>
      if d.stepComplete c st then d
      else
        let d := match st.chain with
          | some ch => d.abortOn ch
          | none => d
        let d := d.countWait slot st
        let d := d.onJrn fun j => { j with reqs := j.reqs.filter fun q => q.ticket != .step st.tag.handle || q.ty == 1 }
        d.setStep slot { st with frames := [], phase := .ended code }

/-- A step's deadline passes (R19, R310): it ends with DEADLINE unless its last frame was complete before. Its chain passes one
emptied frame on, which stands after those the attempt has handed over (R171, R237). An INVENTORY step that has sent a packet ends with what
it has reported (R228). Log 137 DEDUCED. -/
def Dev.deadlinePassed (d : Dev) (slot : Nat) : Dev :=
  match d.chan? slot with
  | none => d
  | some c => match c.step with
    | none => d
    | some st =>
      match st.phase with
      | .waiting => ((d.reach st.deadline).countWait slot st).setPhase slot (.ended Code.DEADLINE)
      | .held => (d.reach st.deadline).setPhase slot (.ended Code.DEADLINE)
      | .running =>
        if (d.lastFrame st).isSome then d
        else
          let d := d.reach st.deadline
          match st.chain with
          | some ch =>
            if ch ≥ 4 && d.inventoried (ch - 4) st.tag then d.uhfDeadline (ch - 4) else (d.abortOn ch).bareEnd slot st Code.DEADLINE
          | none => d.bareEnd slot st Code.DEADLINE
      | _ => d

/-- A field that its chain or port no longer keeps goes off, once no STAGGER partner is inside an exchange (R123): a withdrawn port's
between exchanges (R133), an idle direct field of a chain that leaves the pool (R131), and that of a run that has ended (R101). -/
def Dev.dropLeaving (d : Dev) : Dev :=
  d.forEach (List.range 4) fun d n =>
    let h := d.hfc n
    let idle := match h.owner.bind d.chan? with
      | some c => c.direct && c.step.isNone
      | none => true
    if h.port.isSome && h.master && h.att.isNone && !d.staggered n && (d.hfWithdrawn n || h.closing || (h.leaving && idle)) then
      d.hfFieldOff n
    else d

/-- A chain taken out of the pool hands its field over between two exchanges where a chain is free for it; else the step in progress goes
on where it is (R131). A STAGGER partner's exchange holds the handover (R123). -/
def Dev.moveLeaving (d : Dev) : Dev :=
  d.forEach (List.range 4) fun d n =>
    let h := d.hfc n
    let m := d.hfMaster n
    match h.owner, h.owner.bind d.chan? with
    | some o, some c => match c.step with
      | some st =>
        let a := (d.hfc m).att
        let ready := (d.hfc m).phase = .ready && (d.hfc m).stagFrom.isNone
        if !h.leaving || !(a.isNone || ready) then d
        else if d.staggered m then (if a.isSome then d.hfGo m else d)
        else match (List.range 4).find? fun k => k != n && d.hfFree o c st k && !d.hfOn k with
          | some k =>
            let d := d.handover n k
            if a.isSome then d.hfStart (d.hfMaster k) else d
          | none => if a.isSome then d.hfGo m else d
      | none => d
    | _, _ => d

/-- What stands still until something else moves is brought up to date: steps whose records are where they must be, fields no longer
kept or handed over, requests with no usable port, and the first wait of a request for a field (R99, R103, R122, R131, R133, R177, R360), counted on the lowest chain free for it, or on chain 0 where none is.
Log 133 DESIGN CHOICE. -/
def Dev.settle (d : Dev) : Dev :=
  let d := d.forEach (d.chans.map (·.1)) Dev.stepReported
  let d := d.moveLeaving.dropLeaving.portDrain
  d.waiting.foldl (fun d x =>
    match d.place? x.1 x.2.1 x.2.2 with
    | .ok _ => d
    | .error 0 => d.setPhase x.1 (.ended (if x.2.2.uhf then Code.UHF_PORT_UNAVAILABLE else Code.HF_PORT_UNAVAILABLE))
    | .error w =>
      if bit w 3 && !bit w 6 && !x.2.2.fieldWait then
        let n := ((List.range 4).find? (d.hfFree x.1 x.2.1 x.2.2)).getD 0
        (d.bump (F.HFCn_WAIT_FIELD_CNT n) 1).setStep x.1 { x.2.2 with fieldWait := true }
      else d) d

end Sys2Proof.Machine
end

