-- ==== Sys2Proof/Machine/Checks.lean ====
section
/-!
DEFINITION. The conditions of the consistency check (R82–R89) and of every chapter that adds one: enables, commit groups,
mode requests, plan descriptors, channels and checked register values. Each answers the first code refused, or none.
-/

namespace Sys2Proof.Machine

open Sys2Proof

/-- A refusal: code, step index, channel handle or register at fault (none: the trigger's), computed quantity (R96). -/
structure Refused where
  code : Nat
  step : Nat := 0
  subject : Option Nat := none
  need : Nat := 0
  deriving DecidableEq, Repr

/-- The first code whose condition holds; 0 for none. -/
def firstCode : List (Bool × Nat) → Nat
  | [] => 0
  | (b, c) :: t => if b then c else firstCode t

/-- The first refusal of a list of conditions, in the order given. -/
def firstRefused (l : List (Option Refused)) : Option Refused := l.findSome? id

/-- A code as a refusal with no more to say. Log 26 DEDUCED. -/
def refusedBy (c : Nat) : Option Refused := if c = 0 then none else some { code := c }

/-- The mode a check is evaluated against (R84). Log 42 DEDUCED, 49 DEDUCED. -/
def Dev.checkMode (d : Dev) : Nat := (d.trans.map (·.target)).getD d.mode

/-! ### Enables (R88, R110, R128, R179, R204, R266, R472) -/

/-- The field that an enable writes. -/
def enableFld : Enable → Fld
  | .hfc n => F.HFCn_CTL_ENABLE n
  | .hfp n => F.HFPn_CFG_ENABLE n
  | .hfBond n => F.HFCn_BOND_EN n
  | .uhfc n => F.UHFCn_CTL_ENABLE n
  | .uhfp n => F.UHFPn_CFG_ENABLE n
  | .steer => F.UHF_STEER_EN
  | .coexPw k => F.COEX_PWk_CFG_EN k
  | .tmr n => F.TMRn_CTL_ENABLE n
  | .cvu n => F.CVUn_CFG_ENABLE n

/-- An HF chain is enabled. -/
def Dev.anyHfc (d : Dev) : Bool := (List.range 4).any fun n => d.flag (F.HFCn_CTL_ENABLE n)

/-- A UHF port whose profile's external route, chain and ANTSEL are those of another enabled port (R179). Log 39 DEDUCED. -/
def Dev.routeTaken (d : Dev) (n : Nat) : Bool :=
  let p := d.uhfProfile n
  profRoute p != 0 && (List.range 8).any fun m =>
    let q := d.uhfProfile m
    m != n && d.flag (F.UHFPn_CFG_ENABLE m) && profRoute q == profRoute p && profChain q == profChain p && profAntsel q == profAntsel p

/-- A prerequisite of a unit's or a timer's enable that names a chain (R88): HF chains 0–3, UHF chains 4–5. -/
def Dev.chainEnabled (d : Dev) (c : Nat) : Bool :=
  if c < 4 then d.flag (F.HFCn_CTL_ENABLE c) else d.flag (F.UHFCn_CTL_ENABLE (c - 4))

/-- A capture source that names a chain which is not enabled (R88). -/
def Dev.captureOrder (d : Dev) (s : Nat) : Bool := decide (0x40 ≤ s) && decide (s ≤ 0x45) && !d.chainEnabled (s - 0x40)

/-- A timer's configuration that R472 refuses, EDGE 3 in any of its three fields. Log 40 DEDUCED. -/
def Dev.timerBad (d : Dev) (n : Nat) : Bool :=
  let src := d.fld (F.TMRn_CTL_SRC n)
  let pin := d.fld (F.TMRn_CTL_GPIO n)
  src > 4 || d.fld (F.TMRn_CTL_EDGE n) == 3 || d.fld (F.TMRn_CAPCFG_EDGE0 n) == 3 || d.fld (F.TMRn_CAPCFG_EDGE1 n) == 3 ||
    (src == 4 && (pin > 23 || d.gpioFunc pin != 0)) || !capSrcOk (d.fld (F.TMRn_CAPCFG_SRC0 n)) ||
    !capSrcOk (d.fld (F.TMRn_CAPCFG_SRC1 n))

/-- A source code that R451 reserves. -/
def cvuSrcReserved (src : Nat) : Bool := src == 5 || src ≥ 14

/-- The prerequisite of a check-value unit's enable (R88) fails. -/
def Dev.cvuOrder (d : Dev) (n : Nat) : Bool :=
  let src := d.fld (F.CVUn_CFG_SRC n)
  if src = 6 then !d.anyHfc
  else if src = 7 then !(d.chainEnabled 4 || d.chainEnabled 5)
  else decide (8 ≤ src) && decide (src ≤ 13) && !d.chainEnabled (src - 8)

/-- Two enabled units bound to one plan with a step in common (R472). Log 37 DEDUCED. -/
def Dev.bindClash (d : Dev) (n : Nat) : Bool :=
  d.flag (F.CVUn_BIND_EN n) && (List.range 6).any fun m =>
    m != n && d.flag (F.CVUn_CFG_ENABLE m) && d.flag (F.CVUn_BIND_EN m) && d.fld (F.CVUn_BIND_PLAN m) == d.fld (F.CVUn_BIND_PLAN n) &&
      (d.fld (F.CVUn_BIND_STEPS m) &&& d.fld (F.CVUn_BIND_STEPS n)) != 0

/-- A check-value unit's configuration that R472 refuses. -/
def Dev.cvuBad (d : Dev) (n : Nat) : Bool :=
  let src := d.fld (F.CVUn_CFG_SRC n)
  cvuSrcReserved src || (!d.flag (F.CVUn_CFG_MODE n) && d.fld (F.CVUn_ALG_POLY n) == 0) ||
    (d.fld (F.CVUn_CFG_SELMASK n) != 0 && src != 3 && src != 4) || (d.flag (F.CVUn_CFG_DIR n) && !cvuTap src) ||
    (d.flag (F.CVUn_BIND_EN n) && !cvuTap src) || d.bindClash n

/-- The code that refuses an enable written 1; 0 where it passes. The ports of a direct bond or pair are those of its messages, so here a
bond needs its chains and some measured set (R128), a pair its chains. Log 63 DEDUCED. -/
def Dev.enableCode (d : Dev) (e : Enable) : Nat :=
  match e with
  | .hfc _ => 0
  | .hfp n =>
    let p := d.hfProfile n
    let shared := (List.range 16).any fun m =>
      m != n && d.flag (F.HFPn_CFG_ENABLE m) && d.fld (F.HFPn_CFG_PROFILE m) == d.fld (F.HFPn_CFG_PROFILE n)
    firstCode [(!d.anyHfc, Code.CC_ENABLE_ORDER), (!hfProfOk p || profBad p || shared, Code.CC_HF_PROFILE)]
  | .hfBond n =>
    let m := d.fld (F.HFCn_BOND_MEMBER n)
    firstCode [(m == n || !d.chainEnabled n || !d.chainEnabled m || !d.tables.sets.any setMeasured, Code.CC_HF_BOND)]
  | .uhfc _ => 0
  | .uhfp n =>
    let p := d.uhfProfile n
    let shared := (List.range 8).any fun m =>
      m != n && d.flag (F.UHFPn_CFG_ENABLE m) && d.fld (F.UHFPn_CFG_PROFILE m) == d.fld (F.UHFPn_CFG_PROFILE n)
    firstCode [(!uhfProfOk p || profBad p || shared || d.routeTaken n, Code.CC_UHF_PROFILE)]
  | .steer => firstCode [(!d.uhfHealthy 0 || !d.uhfHealthy 1, Code.CC_UHF_STEER)]
  | .coexPw k => firstCode [(d.windowBad (d.reg (R.COEX_PWk_CFG k)) (d.reg (R.COEX_PWk_WIN k)), Code.CC_COEX_CONFIG)]
  | .tmr n =>
    firstCode [(d.captureOrder (d.fld (F.TMRn_CAPCFG_SRC0 n)) || d.captureOrder (d.fld (F.TMRn_CAPCFG_SRC1 n)), Code.CC_ENABLE_ORDER),
      (d.timerBad n, Code.CC_TIMER_CONFIG)]
  | .cvu n => firstCode [(d.cvuOrder n, Code.CC_ENABLE_ORDER), (d.cvuBad n, Code.CC_CVU_CONFIG)]

/-! ### Commit groups (R107, R190, R448, R462) -/

/-- The value a copy holds for a member. -/
def copyOf (copy : List (Nat × Word)) (a : Nat) : Word := ((copy.find? (·.1 == a)).map (·.2)).getD 0#32

/-- The code that refuses a commit of a copy of the shadow; 0 where it passes. -/
def Dev.groupCode (d : Dev) (g : Group) (copy : List (Nat × Word)) : Nat :=
  match g with
  | .hf n =>
    let w := copyOf copy (R.HFCn_PROTO n)
    firstCode [(hfComboBad (bitsOf w 15 14) (bitsOf w 13 13) (bitsOf w 5 0), Code.CC_GROUP_MISMATCH)]
  | .uhf n =>
    let w := copyOf copy (R.UHFCn_CHAN n)
    let k := bitsOf w 29 24
    firstCode [(decide (k < d.chCount) && bitsOf w 13 0 != d.chanFreq k, Code.CC_GROUP_MISMATCH), (decide (k ≥ d.chCount), Code.CC_UHF_CHANNEL)]
  | .tmr n =>
    let reload := (copyOf copy (R.TMRn_RELOAD n)).toNat
    firstCode [(reload == 0 || [0, 1, 2, 3].any fun k =>
      d.cmpDirs n k != 0 && decide ((copyOf copy (R.TMRn_CMPk n k)).toNat > reload), Code.CC_GROUP_MISMATCH)]
  | .cvu n => firstCode [(cvuAlgBad (copyOf copy (R.CVUn_ALG n)), Code.CC_GROUP_MISMATCH)]

/-- The block of a group is enabled, so that a commit waits for the boundary of R90 (R91). Frames of a unit's stream are whole
events of the model: none is in progress when a commit is judged. -/
def Dev.groupBusy (d : Dev) (g : Group) : Bool :=
  match g with
  | .hf n => d.flag (F.HFCn_CTL_ENABLE n) && d.hfOn n
  | .uhf n => d.flag (F.UHFCn_CTL_ENABLE n)
  | .tmr n => d.flag (F.TMRn_CTL_ENABLE n)
  | .cvu _ => false

/-! ### Checked values (R81, R251, R286) -/

/-- A WATCH register value out of range, with a reserved bit set, or naming a denied mode (R285, R286). Log 41 DEDUCED. -/
def watchBad (allow a : Nat) (w : Word) : Bool :=
  if a = R.WATCH_CTL then
    let hm := bitsOf w 27 24
    let sh := bitsOf w 23 20
    bitsOf w 30 28 != 0 || hm == 1 || hm > 5 || !bit allow hm || sh < 2 || sh > 10
  else if a = R.WATCH_PULSE then
    bitsOf w 31 25 != 0 || bitsOf w 15 0 != 0 || bitsOf w 24 16 < 100 || bitsOf w 24 16 > 300
  else if a = R.WATCH_THR then
    bitsOf w 31 16 < 5 || bitsOf w 31 16 > 500 || bitsOf w 15 0 < 5 || bitsOf w 15 0 > 500
  else if a = R.WATCH_TIMER then decide (w.toNat > 0x00FFFFFF)
  else false

/-- A PERIOD byte out of range for a sensed port (R285): 1–200 for a port that PORT_EN names; at most 200 for any. Log 41 DEDUCED. -/
def periodsBad (portEn : Nat) (k : Nat) (w : Word) : Bool :=
  (List.range 4).any fun i =>
    let v := bitsOf w (31 - 8 * i) (24 - 8 * i)
    v > 200 || (bit portEn (4 * k + i) && v == 0)

/-- The code that refuses a value written to a checked dynamic field; 0 where it passes. -/
def Dev.valueCode (d : Dev) (a : Nat) (w : Word) : Nat :=
  if a = R.SUP_DIRECT_QUOTA then firstCode [(bitsOf w 7 0 > 50, Code.CC_DIRECT_QUOTA)]
  else if R.GOV_UHF ≤ a && a ≤ R.GOV_CTL then firstCode [(d.govLooser a w, Code.CC_REG_LOOSEN)]
  else
    let periods := R.WATCH_PERIODk 0 ≤ a && a ≤ R.WATCH_PERIODk 3 && periodsBad (d.fld F.WATCH_CTL_PORT_EN) (a - R.WATCH_PERIODk 0) w
    firstCode [(watchBad (d.fld F.SUP_MODE_ALLOW_ALLOW) a w || periods, Code.CC_WATCH_CONFIG)]

/-- The code that refuses an object entry (R334). -/
def Dev.objectCode (d : Dev) (k : Nat) (e : Bytes) (image : Bool) : Nat :=
  firstCode [(objBad e image || d.objClash k e, Code.CC_OBJECT)]

/-! ### Plans (R87, R106, R149, R219, R327) -/

/-- Worst case of a plan in µs (R87, R89). -/
def planWorst (ss : List PStep) : Nat := (ss.map fun s => s.worst * 10 * (1 + s.retries)).sum

/-- A step whose template is Kill (R87). -/
def killStep (uhf : Bool) (s : PStep) : Bool := uhf && (uKind s.params == 3 || accessCmd s.tmpl s.tbits == .kill)

/-- FILL, CHAL and EXP_LEN of a step body against R324–R326, its fields and its reserved bits against R323. -/
def stepBodyBad (uhf : Bool) (s : PStep) : Bool :=
  let k := if uhf then uKind s.params else hfKind s.params
  let tlen := (s.tbits + 7) / 8
  let fillLen := if hfProto s.params = 2 then 10 else 3
  let keyed := !uhf && (k == 0 || k == 4)
  s.worst == 0 || nbits s.keyslot 6 5 != 0 || nbits s.sflags 1 0 != 0 || (!uhf && (k == 1 || k == 3) && s.tbits != 0) ||
    (s.fill && !(keyed || (uhf && k == 1 && accessCmd s.tmpl s.tbits == .read))) ||
    (s.fill && uhf && s.tbits != 10) || (s.fill && !uhf && s.fillOff + fillLen > tlen) ||
    (s.chal && !(keyed && s.keyValid)) || (s.chal && s.chalOff + 8 > tlen) || (keyed && s.keyValid && !s.chal) ||
    (s.expLen != 0 && (if uhf then k == 0 || k == 2 else k == 1 || k == 3 || k == 5 || k == 6))

/-- The structure, kinds, ports, schedule and strike of a head descriptor against R327. -/
def Dev.headBad (d : Dev) (plans : Bytes) (k : Nat) : Bool :=
  let b := descOf plans k
  let p := parseHead b
  let ss := (planSteps? plans k).getD []
  let first := ss.headD (parseStep [])
  let bind := hfKind first.params == 5 || (hfKind first.params == 3 && hfMaxTags first.params == 1)
  let access := p.kind == Kind.access
  let conts := (List.range p.cont).map fun i => descOf plans (k + 1 + i)
  let one := (bitsSet 16 p.ports).length == 1
  p.kind < 1 || p.kind > 4 || p.cont > 3 || decide (128 * (k + 1 + p.cont) > plans.length) ||
    conts.any (fun c => !isCont c || !zeroAt c 2 7) ||
    nbits (byteAt b 1) 2 0 != 0 || nbits (byteAt b 3) 7 4 != 0 || nbits (byteAt b 6) 7 4 != 0 || nbits p.jpol 4 0 != 0 ||
    nbits (numAt b 8 2) 15 10 != 0 || (p.uhf && numAt b 8 2 != 0) || byteAt b 31 != 0 || !zeroAt b 36 39 ||
    [p.absent, p.refused, p.other].any (fun m => bit m 6 || nbits m 3 0 != 0 || nbits m 5 4 > 1) ||
    p.steps > 8 || (p.steps == 0) != (p.kind == Kind.presence) || (planSteps? plans k).isNone || ss.any (stepBodyBad p.uhf) ||
    (!p.uhf && (p.kind == Kind.meterRead || access) && !bind) ||
    (p.uhf && p.kind == Kind.meterRead && ss.any fun s => uKind s.params != 1 && uKind s.params != 2) ||
    (p.kind == Kind.census && ss.any fun s => if p.uhf then uKind s.params != 0 else hfKind s.params != 3) ||
    ((access || p.kind == Kind.presence) && (p.uhf || p.pair)) ||
    (p.kind != Kind.meterRead && p.ports == 0) || (p.uhf && (p.ports > 0xFF || p.mask > 3)) ||
    (p.pair && (!one || bit p.ports p.pairPort || (p.uhf && p.pairPort > 7))) ||
    p.period < 1 || p.period > 86400 || p.offset ≥ p.period * 1000 || p.spread > p.period * 1000 ||
    p.deadline < 1 || p.deadline > p.period * 1000000 ||
    (if access then p.strike > 23 || d.gpioFunc p.strike != 2 || p.strikeMs < 1 || p.strikeMs > 10000
     else p.trigger || p.strike != 0 || p.strikeMs != 0)

/-- The number of the head whose continuations include descriptor `k`, if any. -/
def contOf (plans : Bytes) (k : Nat) : Bool :=
  [1, 2, 3].any fun i => decide (i ≤ k) && isHead (descOf plans (k - i)) && decide ((parseHead (descOf plans (k - i))).cont ≥ i) &&
    (List.range (i - 1)).all fun j => isCont (descOf plans (k - 1 - j))

/-- A descriptor against CC_PLAN (R320, R327). -/
def Dev.descBad (d : Dev) (plans : Bytes) (k : Nat) : Bool :=
  let b := descOf plans k
  if isCont b then !contOf plans k
  else if isHead b then d.headBad plans k
  else !allZero b

/-- The first step of a plan that a condition refuses. -/
def firstStep (ss : List PStep) (bad : PStep → Bool) : Option Nat := ss.findIdx? bad

/-- SEL_COUNT of the air-protocol block (R244). -/
def Dev.selTable (d : Dev) : Nat := byteAt d.tables.air 3

/-- The PLANS body against the conditions that depend on a descriptor alone, condition by condition in ascending code, each over
the descriptors in ascending number (R87, R327). -/
def Dev.plansCode (d : Dev) (plans : Bytes) : Option Refused :=
  let ks := List.range (plans.length / 128)
  let heads := ks.filter fun k => isHead (descOf plans k)
  let head (k : Nat) : PlanHead := parseHead (descOf plans k)
  let steps (k : Nat) : List PStep := (planSteps? plans k).getD []
  let byStep (code : Nat) (bad : PlanHead → PStep → Bool) : Option Refused := heads.findSome? fun k =>
    (firstStep (steps k) (bad (head k))).map fun s => { code := code, step := s }
  firstRefused [
    heads.findSome? fun k => if jpolCommit (head k).jpol = 3 then some { code := Code.CC_JOURNAL_POLICY } else none,
    heads.findSome? fun k => if planWorst (steps k) > (head k).deadline then
      some { code := Code.CC_RETRY_EXCEEDS_DEADLINE, need := planWorst (steps k) } else none,
    byStep Code.CC_KILL_STEP fun p s => killStep p.uhf s,
    byStep Code.CC_HF_STEP fun p s => !p.uhf && hfStepBad s.params (hfProto s.params) false,
    byStep Code.CC_UHF_STEP fun p s => p.uhf && uhfStepBad d.limits d.selTable s.params s.tmpl s.tbits false p.pair s.fill,
    ks.findSome? fun k => if d.descBad plans k then some { code := Code.CC_PLAN } else none]

/-! ### Channels (R87, R89, R293, R522) -/

/-- What a channel check judges: the kind and, but for DIRECT, the plan. -/
structure ChanSpec where
  kind : Nat
  plan : Nat

/-- The ports a plan can use at this moment (R522). -/
def Dev.planPorts (d : Dev) (p : PlanHead) : List Nat :=
  if p.ports != 0 then
    let l := bitsSet 16 p.ports
    if p.pair && !l.contains p.pairPort then l ++ [p.pairPort] else l
  else if p.kind == Kind.meterRead then
    let m := (d.tables.objects.filter fun e => selects p e.2.bytes).foldl (fun a e => a ||| objHome e.2.bytes) 0
    bitsSet 16 m
  else []

/-- A chain of the band that a plan may use. -/
def planChains (p : PlanHead) : List Nat := (List.range (if p.uhf then 2 else 4)).filter fun n => p.mask == 0 || bit p.mask n

/-- An HF bond of a plan that R128 refuses: two of the chains it may use must be enabled. -/
def Dev.planBondBad (d : Dev) (p : PlanHead) : Bool :=
  let port := (bitsSet 16 p.ports).headD 0
  port == p.pairPort || (d.measuredSet port p.pairPort).isNone || ((planChains p).filter d.chainEnabled).length < 2

/-- A steered pair of a plan that R204 refuses. -/
def Dev.planSteerBad (d : Dev) (p : PlanHead) : Bool :=
  let port := (bitsSet 16 p.ports).headD 0
  d.steerBad 0 port 1 p.pairPort && d.steerBad 1 port 0 p.pairPort

/-- The key slot of a step is refused by CC_KEY_PURPOSE (R87, R520). -/
def Dev.keyBad (d : Dev) (uhf : Bool) (keyslot : Nat) (params : Bytes) : Bool :=
  if bit keyslot 7 then
    match d.vault.slots.getD (keyslot % 32) none with
    | none => true
    | some k => !bit k.purpose 0
  else uhf && (uKind params == 2 || uKind params == 3)

/-- The conditions that depend on the mode (R89): CC_AUTH_REQUIRED, CC_KEY_PURPOSE, CC_JOURNAL_POLICY. -/
def Dev.modalRefused (d : Dev) (c : ChanSpec) (mode code : Nat) : Option Refused :=
  if c.kind == Kind.direct then none
  else
    let p := d.plan c.plan
    let ss := d.planSteps c.plan
    let keyed := Mode.strict mode && (c.kind == Kind.meterRead || c.kind == Kind.access)
    let at_ (s : Option Nat) : Option Refused := s.map fun s => { code := code, step := s }
    if code = Code.CC_AUTH_REQUIRED then
      if !keyed then none
      else if p.uhf then
        if c.kind == Kind.meterRead && !ss.any (fun s => uKind s.params == 2) then some { code := code } else none
      else at_ (firstStep ss fun s => (hfKind s.params == 0 || hfKind s.params == 4) && !s.keyValid)
    else if code = Code.CC_KEY_PURPOSE then at_ (firstStep ss fun s => d.keyBad p.uhf s.keyslot s.params)
    else if jpolCommit p.jpol = 3 || (keyed && jpolCommit p.jpol = 0) then some { code := code }
    else none

/-- The conditions settled when a channel is created or started, in ascending code (R89, R106, R327, R522). -/
def Dev.chanRefused (d : Dev) (c : ChanSpec) (mode : Nat) : Option Refused :=
  if c.kind == Kind.direct then none
  else
    let p := d.plan c.plan
    let ss := d.planSteps c.plan
    let ports := d.planPorts p
    let profOk (n : Nat) : Bool := if p.uhf then decide (n < 8) && uhfProfOk (d.uhfProfile n) else hfProfOk (d.hfProfile n)
    let at_ (code : Nat) (s : Option Nat) : Option Refused := s.map fun s => { code := code, step := s }
    let when_ (code : Nat) (b : Bool) : Option Refused := if b then some { code := code } else none
    firstRefused [
      d.modalRefused c mode Code.CC_AUTH_REQUIRED,
      d.modalRefused c mode Code.CC_KEY_PURPOSE,
      d.modalRefused c mode Code.CC_JOURNAL_POLICY,
      when_ Code.CC_RESOURCE (ports.any fun n => !profOk n),
      at_ Code.CC_GROUP_MISMATCH (if p.uhf then none else
        firstStep ss fun s => hfComboBad (hfProto s.params) (hfModt s.params) (hfDepth s.params)),
      when_ Code.CC_HF_BOND (!p.uhf && p.pair && d.planBondBad p),
      at_ Code.CC_HF_PROTO (if p.uhf then none else
        firstStep ss fun s => ports.any fun n => !bit (byteAt (d.hfProfile n) 1) (hfProto s.params)),
      when_ Code.CC_UHF_PROFILE (p.uhf && ports.any fun n => !(planChains p).any fun m => d.uhfServes m n),
      when_ Code.CC_UHF_STEER (p.uhf && p.pair && d.planSteerBad p)]

/-- A channel's kind and plan. -/
def Chan.spec (c : Chan) : ChanSpec := { kind := c.kind, plan := c.plan }

/-! ### Mode requests (R87, R89, R266, R286) -/

/-- Too few healthy chains for LEDGER or SHARED (R67, R87). -/
def Dev.spareShort (d : Dev) : Bool :=
  (d.anyHfc && ((List.range 4).filter d.hfHealthy).length < 3) ||
    ((d.chainEnabled 4 || d.chainEnabled 5) && !(d.uhfHealthy 0 && d.uhfHealthy 1))

/-- A sensed port or pulse not usable at entry to WATCH (R286): the pulse output is 1.0 W less PULSE_ATT. -/
def Dev.watchEntryBad (d : Dev) : Bool :=
  let ports := bitsSet 16 (d.fld F.WATCH_CTL_PORT_EN)
  let att : Nat := d.fld F.WATCH_PULSE_PULSE_ATT
  ports.any (fun n => !d.flag (F.HFPn_CFG_ENABLE n) || !hfProfOk (d.hfProfile n) || d.flag (F.HFPn_STAT_FAULT n) ||
    decide ((300 : Int) - att > d.hfPermit n)) ||
  (!ports.isEmpty && (List.range 4).all fun n => d.flag (F.HFCn_STAT_FAULT n))

/-- The refusal of a mode request (R87); `host` says that the host asks, to whom alone MODE_ALLOW applies (R95). CC_MODE_BUSY is
judged before any check runs (R69). -/
def Dev.modeRefused (d : Dev) (target : Nat) (host : Bool) : Option Refused :=
  let live := d.chans
  let modal (code : Nat) : Option Refused := live.findSome? fun x =>
    (d.modalRefused x.2.spec target code).map fun r => { r with subject := some (d.handle x.1) }
  let when_ (code : Nat) (b : Bool) : Option Refused := if b then some { code := code } else none
  firstRefused [
    when_ Code.CC_MODE_INVALID (target > 5),
    when_ Code.CC_MODE_DENIED (host && !bit (d.fld F.SUP_MODE_ALLOW_ALLOW) target),
    when_ Code.CC_NO_CONFIG (target != 0 && d.noImage),
    when_ Code.CC_REGION_UNSET (target != 0 && d.blank),
    when_ Code.CC_SPARE_UNAVAILABLE (Mode.strict target && d.spareShort),
    modal Code.CC_AUTH_REQUIRED,
    modal Code.CC_KEY_PURPOSE,
    modal Code.CC_JOURNAL_POLICY,
    when_ Code.CC_COEX_CONFIG (target == Mode.shared && !d.flag F.COEX_CFG_A_EN),
    when_ Code.CC_WATCH_CONFIG (target == Mode.watch && d.watchEntryBad)]

/-- A channel creation or start refused (R293, R295): the entry's own conditions first. `direct` counts live DIRECT channels. -/
def Dev.createRefused (d : Dev) (e : Bytes) : Option Refused :=
  let slotNo := numAt e 0 2
  let kind := byteAt e 2
  let plan := numAt e 4 2
  let free := (List.range 256).find? fun k => (d.chan? k).isNone
  let full := if slotNo = 0xFFFF then free.isNone else decide (slotNo < 256) && (d.chan? slotNo).isSome
  let planBad := kind < 1 || kind > 5 || (if kind = 5 then plan != 0xFFFF else !d.planLoaded plan || (d.plan plan).kind != kind) ||
    bit (byteAt e 3) 7 || nbits (byteAt e 6) 7 1 != 0 || byteAt e 7 != 0 || (slotNo != 0xFFFF && slotNo > 255)
  let ninth := kind == Kind.direct && (d.chans.filter fun x => x.2.kind == Kind.direct).length ≥ 8
  let slot := if slotNo = 0xFFFF then free.getD 0 else slotNo
  let named (r : Option Refused) : Option Refused := r.map fun r => { r with subject := some (d.handle slot) }
  firstRefused [
    if full then some { code := Code.CC_CHN_FULL } else none,
    if planBad then some { code := Code.CC_CHN_PLAN } else none,
    named (if ninth then some { code := Code.CC_DIRECT_LIMIT } else none),
    named (d.chanRefused { kind := kind, plan := plan } d.checkMode)]

end Sys2Proof.Machine
end

