-- ==== Sys2Proof/Machine/Faults.lean ====
section
/-!
DEFINITION. Faults and failover (R115–R117, R189, R195, R196, R207, R261, R476–R492): what a fault latches, the step it touches,
the replacement it finds, and the entry it leaves.
-/

namespace Sys2Proof.Machine

open Sys2Proof

/-! ### What a fault touches, and its entry (R480, R481, R493) -/

/-- The channel whose step holds a chain, itself or through its partner, with the step; UHF chains count from 4. -/
def Dev.stepOn (d : Dev) (ch : Nat) : Option (Nat × Chan × Step) :=
  d.chans.findSome? fun x => match x.2.step with
    | some st =>
      let mate : Option Nat := st.chain.bind fun m => if m ≥ 4 then (d.uhfc (m - 4)).partner.map (· + 4) else (d.hfc m).partner
      if st.phase = .running && (st.chain == some ch || mate == some ch) then some (x.1, x.2, st) else none
    | none => none

/-- A class is bound to 1 ms in a mode (R481). -/
def faultBound (mode cls : Nat) : Bool :=
  cls != 9 && (Mode.strict mode || (mode == Mode.survey && (cls == 1 || cls == 5)))

/-- What became of the steps a fault touched: a replacement took them over (its PORTCH), they ended, they wait for a resource,
or none was touched. -/
inductive Fate where
  | moved (portch : Nat)
  | ended
  | waits
  | untouched

/-- The log entry, record and event of a fault of classes 1–8 once its interruption of `us` µs is over (R480, R481, R493, R494).
`ext` marks a fault outside the bound (R490). With no step touched the interruption is 0 (R489). Log 90 DEDUCED. -/
def Dev.faultDone (d : Dev) (code cls pch us : Nat) (fate : Fate) (ext : Bool) (touched : Option (Nat × Chan × Step)) : Dev :=
  let int := match fate with
    | .untouched => 0
    | _ => us
  let served := match fate with
    | .waits => false
    | _ => true
  let moved := match fate with
    | .moved _ => true
    | _ => false
  let ended := match fate with
    | .ended => true
    | _ => false
  let newp := match fate with
    | .moved p => p
    | _ => 0xFF
  let inb := faultBound d.mode cls && d.trans.isNone && served && !ext && decide (int ≤ 1000)
  let ff := b2n moved * 0x80 + b2n inb * 0x40 + b2n ended * 0x20
  let (tag, handle, oid) := match touched with
    | some (_, c, st) => (st.tag.bytes, st.tag.handle, d.runObject c)
    | none => ([], 0, [])
  let (d, e) := d.logFault code cls pch ff int newp tag handle oid
  (d.tick int).faultReport e

/-- Two measurements of a field that no operand gives: current in mA and phase. Free values. Log 8 DESIGN CHOICE, 31 DESIGN CHOICE. -/
def Dev.freeMeasure (d : Dev) : Nat × Nat × Dev :=
  let w := (Config.freeWord d.freeCtr).toNat
  (w % 65536, w / 65536 % 1024, { d with freeCtr := d.freeCtr + 1 })

/-- The step of a failed attempt as it is issued again, with the same number (R483). -/
def reissued (st : Step) : Step :=
  { st with
    frames := [], asm := [], ctx := none, cv := none, chain := none, phase := .waiting, fieldWait := false
    react := st.react || (!st.uhf && (hfKind st.params == 4 || hfKind st.params == 6)) }

/-- A step put back to wait for a grant. -/
def Dev.waitAgain (d : Dev) (slot : Nat) (st : Step) : Dev :=
  (d.quotaClose slot).setStep slot { reissued st with waitFrom := d.time, phase := if d.trans.isSome then .held else .waiting }

/-! ### HF (R115–R117, R482, R484, R486) -/

/-- A touched HF step goes on at once on a chain and port: field on under R101, PORTCH written, the attempt re-issued. -/
def Dev.hfMove (d : Dev) (slot : Nat) (c : Chan) (st : Step) (p n : Nat) (partner : Option (Nat × Nat)) : Dev :=
  let (ma, phase, d) := d.freeMeasure
  let st := reissued st
  let st := { st with tag := { st.tag with portch := d.portchFor c st p n partner }, chain := some n }
  let d := d.setChan slot { c with step := some st, run := c.run.map fun r => { r with port := some p } }
  (d.grantHf slot c st p n partner ma phase).beginAttempt slot

/-- NO_SPARE once a chain has been lost (R484). -/
def Dev.spareLost (d : Dev) : Dev :=
  let d := d.respare
  if Mode.strict d.mode && d.hfSpare.isNone then d.setFlag F.FLT_STAT_NO_SPARE true else d

/-- The chain that replaces a faulted HF chain (R482): the spare, which a direct step never takes (R67), or outside LEDGER and SHARED a free
chain. -/
def Dev.hfReplacement (d : Dev) (slot : Nat) (c : Chan) (st : Step) (n : Nat) : Option Nat :=
  if Mode.strict d.mode then (if c.direct then none else d.hfSpare.filter (· != n))
  else (List.range 4).find? fun m => m != n && d.hfFree slot c st m && !d.hfOn m

/-- An HF chain fault (R116, R482, R486): the drive stops, the chain is latched, and the spare takes the port in the same role. -/
def Dev.hfChainFault (d : Dev) (n code us : Nat) : Dev :=
  if d.flag (F.HFCn_STAT_FAULT n) || !d.live then d
  else
    let touched := d.stepOn n
    let h := d.hfc n
    let p := h.port.getD 0
    let pch := portch false n h.partner.isSome p
    let d := ((d.setFlag (F.HFCn_STAT_FAULT n) true).setFld (F.HFCn_STAT_LAST_CODE n) code).setFlag ⟨R.FLT_STAT, 28 + n, 28 + n⟩ true
    let d := d.onHf n fun h => { h with latched := code }
    match touched with
    | none => ((d.hfFieldOff n).spareLost).faultDone code 2 pch us .untouched false none
    | some (slot, c, st) =>
      let r := d.hfReplacement slot c st n
      let mate := h.partner.map fun m => (m, ((d.hfc m).port).getD 0)
      let d := (d.hfAbort (st.chain.getD n)).hfFieldOff n
      let (d, fate) := match r with
        | none => (d.waitAgain slot st, Fate.waits)
        | some k =>
          let d := d.setFlag (F.HFCn_STAT_SPARE k) false
          let d := match mate with
            | none => d.hfMove slot c st p k none
            | some (m, q) => if h.master then d.hfMove slot c st p k (some (m, q)) else d.hfMove slot c st q m (some (k, p))
          (d, Fate.moved (portch false k mate.isSome p))
      (d.spareLost).faultDone code 2 pch us fate false touched

/-- An HF port fault (R116, R482): the port is latched; a run with another candidate port free and allowed at once goes on there,
and any other step ends with HF_PORT_UNAVAILABLE. Log 90 DEDUCED. -/
def Dev.hfPortFault (d : Dev) (p code us : Nat) : Dev :=
  match d.hfChainOn p with
  | none => d
  | some n =>
    let touched := d.stepOn n
    let bond := (d.hfc n).partner.isSome
    let pch := portch false n bond p
    let d := match touched with
      | some (_, _, st) => d.hfAbort (st.chain.getD n)
      | none => d
    let d := d.hfFieldOff n
    let d := (d.setFlag (F.HFPn_STAT_FAULT p) true).setFlag (if code = Code.HF_PORT_OPEN then F.HFPn_STAT_OPEN p else F.HFPn_STAT_SHORT p) true
    let d := (d.bump (F.HFPn_CNT_FAULTS p) 1).setFld (F.HFCn_STAT_LAST_CODE n) code
    match touched with
    | none => d.respare.faultDone code 1 pch us .untouched false none
    | some (slot, c, st) =>
      let c' : Chan := { c with run := c.run.map fun r => { r with port := none } }
      let other := if c.direct || bond then none else
        ((d.candPorts c' st).filter fun q => q != p && d.portUsable c' st q).findSome? fun q => match d.placeHf slot c' st q with
          | .ok (k, none) => if d.hfPermitted q then some (q, k) else none
          | _ => none
      match other with
      | some (q, k) => ((d.hfMove slot c st q k none).respare).faultDone code 1 pch us (.moved (portch false k false q)) false touched
      | none =>
        ((d.setStep slot { st with frames := [], phase := .ended Code.HF_PORT_UNAVAILABLE }).respare).faultDone code 1 pch us .ended false
          touched

/-! ### UHF (R189, R195, R196, R207, R482, R484, R485) -/

/-- A touched UHF step goes on at once on a chain and port. `again` says that its attempt is re-issued; otherwise the attempt has
ended, and the next one finds the chain there. -/
def Dev.uhfMove (d : Dev) (slot : Nat) (c : Chan) (st : Step) (p n : Nat) (again : Bool) : Dev :=
  let st' := if again then reissued st else st
  let st' := { st' with tag := if again then { st'.tag with portch := portch true n false p } else st'.tag, chain := some (4 + n) }
  let d := d.setChan slot { c with step := some st', run := c.run.map fun r => { r with port := some p } }
  let d := d.grantUhf slot p n none
  if again then d.beginAttempt slot else d

/-- NO_STANDBY once a chain has been lost (R484). -/
def Dev.standbyLost (d : Dev) : Dev :=
  let d := d.restandby
  if Mode.strict d.mode && d.uhfStandby.isNone && (d.chainEnabled 4 || d.chainEnabled 5) then d.setFlag F.FLT_STAT_NO_STANDBY true else d

/-- A chain gives up its port and leaves its pair. -/
def Dev.uhfDrop (d : Dev) (n : Nat) : Dev :=
  let d := d.onUhf n fun u => { u with owner := none, port := none, partner := none, master := true, leaving := false }
  let d := (d.setFlag (F.UHFCn_STAT_PORT_VALID n) false).setFld (F.UHFCn_POWER_PERMIT n) 0
  (d.setFld (F.UHFCn_STAT_ROLE n) 0).toStandby n

/-- A steered pair degrades to the chain that stays (R207): it becomes a single chain in the master role, its carrier staying on, its permit
without the pair term, its canceller to be trained. The channel is the survivor's from now on (R255). -/
def Dev.degrade (d : Dev) (n m : Nat) : Dev :=
  let d := (d.rampDown1 n).uhfDrop n
  let d := { d with gov := { d.gov with occ := tableSet 2 none d.gov.occ n none } }.showOcc n
  let d := (d.onUhf m fun u => { u with partner := none, master := true }).setFld (F.UHFCn_STAT_ROLE m) 0
  (((d.teamCw m).showPermit m).untrain m).setFlag F.UHF_STEER_DEGRADED true

/-- The attempt of a step that holds a UHF chain stopped, and the carrier of its emission down. -/
def Dev.uhfStop (d : Dev) (n : Nat) (touched : Option (Nat × Chan × Step)) (again : Bool) : Dev :=
  let d := match touched with
    | some (_, _, st) => if again then d.abortOn (st.chain.getD (4 + n)) else d
    | none => d
  d.rampDown n

/-- A UHF chain leaves its work: in a pair the other chain goes on alone, its carrier staying on (R207); else the hot standby, or outside
LEDGER and SHARED the other chain if free, takes an INTERNAL port and continues the occupation (R482, R485). -/
def Dev.uhfLeave (d : Dev) (n : Nat) (touched : Option (Nat × Chan × Step)) (again : Bool) : Dev × Fate :=
  let u := d.uhfc n
  let p := u.port.getD 0
  match u.partner, touched with
  | some m, none => (d.degrade n m, .untouched)
  | some m, some (slot, c, st) =>
    let q := ((d.uhfc m).port).getD 0
    let d := if again then d.uhfCut (d.uhfMaster n) else d
    ((d.degrade n m).uhfMove slot c st q m again, .moved (portch true m false q))
  | none, none => ((d.uhfStop n touched again).uhfDrop n, .untouched)
  | none, some (slot, c, st) =>
    let d := d.uhfStop n touched again
    let s := 1 - n
    let ok := profRoute (d.uhfProfile p) == 0 && d.uhfHealthy s && (d.uhfc s).owner.isNone && !(d.uhfc s).leaving && d.chainAsked c st s &&
      (!Mode.strict d.mode || (d.uhfStandby == some s && !c.direct))
    let o := d.occ n
    let d := d.uhfDrop n
    if !ok then
      (if again then (d.waitAgain slot st, .waits) else (d, .waits))
    else
      let d := { d with gov := { d.gov with occ := tableSet 2 none (tableSet 2 none d.gov.occ s o) n none } }
      let d := ((d.showOcc n).showOcc s).setFld (F.UHFCn_STAT_ROLE s) 0
      (d.uhfMove slot c st p s again, .moved (portch true s false p))

/-- A UHF chain fault (R181, R189, R195, R482): latched, the chain's work failed over, and the chain OFF. -/
def Dev.uhfChainFault (d : Dev) (n code cls us : Nat) (again : Bool) : Dev :=
  if d.flag (F.UHFCn_STAT_FAULT n) || !d.live then d
  else
    let touched := d.stepOn (4 + n)
    let u := d.uhfc n
    let p := u.port.getD 0
    let pch := portch true n u.partner.isSome p
    let ext := u.port.isSome && profRoute (d.uhfProfile p) != 0
    let d := ((d.setFlag (F.UHFCn_STAT_FAULT n) true).setFld (F.UHFCn_STAT_LAST_CODE n) code).setFlag ⟨R.FLT_STAT, 26 + n, 26 + n⟩ true
    let d := d.onUhf n fun u => { u with latched := code }
    let (d, fate) := d.uhfLeave n touched again
    ((d.toOff n).standbyLost).faultDone code cls pch us fate ext touched

/-- A return loss measured on a port with its carrier on (R196, R211, R482): shown; below RL_THR for 20 µs the port is latched, and a run with
another candidate port of INTERNAL route goes on there. -/
def Dev.uhfPortFault (d : Dev) (p rl us : Nat) : Dev :=
  match [0, 1].find? fun n => (d.uhfc n).port == some p && d.uhfOn n with
  | none => d
  | some n =>
    if profRoute (d.uhfProfile p) != 0 || d.flag (F.UHFPn_STAT_FAULT p) then d
    else if rl ≥ byteAt (d.uhfProfile p) 3 then d.setFld (F.UHFPn_STAT_RL p) rl
    else
      let m := d.uhfMaster n
      let touched := d.stepOn (4 + m)
      let pair := (d.uhfc n).partner.isSome
      let pch := portch true n pair p
      let d := d.uhfStop m touched true
      let d := ((d.setFlag (F.UHFPn_STAT_FAULT p) true).setFlag (F.UHFPn_STAT_RL_LOW p) true).setFld (F.UHFPn_STAT_RL p) rl
      let d := (d.bump (F.UHFPn_CNT_FAULTS p) 1).setFld (F.UHFCn_STAT_LAST_CODE n) Code.UHF_PORT_FAULT
      match touched with
      | none => d.faultDone Code.UHF_PORT_FAULT 5 pch us .untouched false none
      | some (slot, c, st) =>
        let c' : Chan := { c with run := c.run.map fun r => { r with port := none } }
        let other := if c.direct || pair then none else
          (d.candPorts c' st).find? fun q => q != p && d.portUsable c' st q && profRoute (d.uhfProfile q) == 0 &&
            (d.uhfChainOn q).isNone
        match other with
        | some q => (d.uhfMove slot c st q n true).faultDone Code.UHF_PORT_FAULT 5 pch us (.moved (portch true n false q)) false touched
        | none =>
          (d.setStep slot { st with frames := [], phase := .ended Code.UHF_PORT_UNAVAILABLE }).faultDone Code.UHF_PORT_FAULT 5 pch us
            .ended false touched

/-- Output above the permit (R261): the chain is cut, the inhibit counted, GOV_OVERLIMIT latched. -/
def Dev.overlimit (d : Dev) (c : Sys2Proof.Chain) (us : Nat) : Dev :=
  match c with
  | .hf n => if d.hfOn n then (d.bump F.GOV_CNT_INHIBIT 1).hfChainFault n Code.GOV_OVERLIMIT us else d
  | .uhf n =>
    if d.uhfOn n && !d.flag (F.UHFCn_STAT_FAULT n) then
      let d := (d.bump F.GOV_CNT_INHIBIT 1).setFlag (if n = 0 then F.GOV_STAT_INH0 else F.GOV_STAT_INH1) true
      (d.onUhf n fun u => { u with inhibited := true }).uhfChainFault n Code.GOV_OVERLIMIT 4 us true
    else d

/-- UHF_PA_LOOP on an external route; a third without a good ramp between latches the chain fault (R195). -/
def Dev.paLoopFault (d : Dev) (n us : Nat) : Dev :=
  if !d.uhfOn n || !(d.uhfc n).port.any (fun p => profRoute (d.uhfProfile p) != 0) then d
  else
    let d := d.paLoop n
    if (d.uhfc n).paFails ≥ 3 then d.uhfChainFault n Code.UHF_CHAIN_FAULT 4 us false else d

/-! ### Crystal, sequencers and rechecks (R478, R488, R491) -/

/-- The Attic's crystal fails (R31, R478): the Attic runs on its RC; logged while the die is powered. Log 102 DEDUCED. -/
def Dev.clockLoss (d : Dev) (us : Nat) : Dev :=
  if !d.attic.crystal || !d.attic.up then d
  else
    let d := d.onAttic fun a => { a with crystal := false, rcSpan := true }
    if d.live then (d.setFlag F.FLT_STAT_CLOCK true).faultDone Code.CLOCK_LOSS 8 0 us (.moved 0xFF) false none else d

/-- Every step in flight stopped as R71 stops them and issued again (R488): carriers and fields are down. -/
def Dev.restartSteps (d : Dev) : Dev :=
  d.forEach (d.chans.map (·.1)) fun d slot => match (d.chan? slot).bind (·.step) with
    | some st =>
      if st.phase = .running then
        let d := match st.chain with
          | some ch => d.abortOn ch
          | none => d
        (d.releaseRun slot).waitAgain slot st
      else d
    | none => d

/-- The first expiry of a sequencer watchdog (R477, R488). -/
def Dev.seqWdog (d : Dev) (us : Nat) : Dev :=
  let d := { (d.setFlag F.FLT_STAT_SEQ true) with seqWdogAt := some d.time }
  d.restartSteps.faultDone Code.SEQ_WDOG 6 0 us (.moved 0xFF) false none

/-- The recheck of the chain at the head of the list ends (R491): `pass` is the driver's or the synthesiser's verdict. A cleared
UHF chain that is enabled stands by (R181). -/
def Dev.recheckEnd (d : Dev) (pass : Bool) : Dev :=
  match d.recheck with
  | [] => d
  | (c, code) :: rest =>
    let ok := if code = 0 || code = Code.UHF_CHAIN_FAULT then true else if code = Code.GOV_OVERLIMIT then false else pass
    let d := d.setFld F.FLT_CLR_CODE (if ok then 0 else code)
    let d := if !ok then d else match c with
      | .hf n => ((d.setFlag (F.HFCn_STAT_FAULT n) false).setFlag ⟨R.FLT_STAT, 28 + n.val, 28 + n.val⟩ false).respare
      | .uhf n =>
        let d := (d.setFlag (F.UHFCn_STAT_FAULT n) false).setFlag ⟨R.FLT_STAT, 26 + n.val, 26 + n.val⟩ false
        let d := d.onUhf n fun u => { u with paFails := 0 }
        (if d.flag (F.UHFCn_CTL_ENABLE n) then d.setUst n Ust.standby else d).restandby
    { d with recheck := rest }.setFlag F.FLT_CLR_BUSY (!rest.isEmpty)

/-- Chains written to FLT_CLR (R491, R495): a recheck starts for each, in turn; ignored while BUSY is 1. Log 143 DEDUCED. -/
def Dev.recheckStart (d : Dev) (hf uhf : Nat) : Dev :=
  if d.flag F.FLT_CLR_BUSY || (hf = 0 && uhf = 0) then d
  else
    let latched (isUhf : Bool) (n : Nat) : Nat :=
      let f := if isUhf then F.UHFCn_STAT_FAULT n else F.HFCn_STAT_FAULT n
      if !d.flag f then 0
      else if isUhf then (d.uhfc n).latched else (d.hfc n).latched
    let hs : List (Sys2Proof.Chain × Nat) := ([0, 1, 2, 3] : List (Fin 4)).filterMap fun (n : Fin 4) => if bit hf n.val then some (.hf n, latched false n.val) else none
    let us : List (Sys2Proof.Chain × Nat) := ([0, 1] : List (Fin 2)).filterMap fun (n : Fin 2) => if bit uhf n.val then some (.uhf n, latched true n.val) else none
    { d with recheck := hs ++ us }.setFlag F.FLT_CLR_BUSY true

end Sys2Proof.Machine
end

