-- ==== Sys2Proof/Machine/Enables.lean ====
section
/-!
DEFINITION. Enables, commit groups and checked values written (R81, R82, R86, R88, R91, R92, R131, R133, R209, R211, R251, R252,
R286, R335): the check that waits, its end, and what the value does once it is in force.
-/

namespace Sys2Proof.Machine

open Sys2Proof

/-! ### Enables -/

/-- An HF chain enabled: it joins the pool. -/
def Dev.hfcOn (d : Dev) (n : Nat) : Dev := (d.setFlag (F.HFCn_CTL_ENABLE n) true).respare

/-- An HF chain withdrawn (R131): with a field it hands it over after the exchange in hand, where a chain is free, and leaves once it holds
none. -/
def Dev.hfcOff (d : Dev) (n : Nat) : Dev :=
  let d := d.setFlag (F.HFCn_CTL_ENABLE n) false
  let d := if d.hfOn n then d.onHf n fun h => { h with leaving := true } else d
  d.moveLeaving.dropLeaving.respare

/-- An HF port withdrawn (R133): a field between exchanges ends now, one inside an exchange at its end. -/
def Dev.hfpOff (d : Dev) (p : Nat) : Dev :=
  let d := d.setFlag (F.HFPn_CFG_ENABLE p) false
  match d.hfChainOn p with
  | none => d
  | some n =>
    let n := d.hfMaster n
    match (d.hfc n).att, (d.hfc n).phase with
    | some a, .idle => (d.hfFail n { a with sof := none } Code.HF_PORT_UNAVAILABLE 0 0).dropLeaving
    | some a, .guard => (d.hfFail n { a with sof := none } Code.HF_PORT_UNAVAILABLE 0 0).dropLeaving
    | some a, .ready => (d.hfFail n { a with sof := none } Code.HF_PORT_UNAVAILABLE 0 0).dropLeaving
    | some _, _ => d
    | none, _ => d.dropLeaving

/-- A UHF chain enabled: OFF to STANDBY (R181). -/
def Dev.uhfcOn (d : Dev) (n : Nat) : Dev :=
  let d := d.setFlag (F.UHFCn_CTL_ENABLE n) true
  (if d.ust n = Ust.off && !d.flag (F.UHFCn_STAT_FAULT n) then d.setUst n Ust.standby else d).restandby

/-- A UHF chain withdrawn (R209): its exchange ends, its carrier ramps down, it leaves the pool; a pair degrades (R207). What its
attempt had not finished is issued again elsewhere. -/
def Dev.uhfcOff (d : Dev) (n : Nat) : Dev :=
  let d := d.setFlag (F.UHFCn_CTL_ENABLE n) false
  let d := if (d.uhfc n).owner.isSome then (d.uhfLeave n (d.stepOn (4 + n)) true).1 else d
  (d.toOff n).restandby

/-- A UHF port withdrawn (R211): between exchanges its carrier ends now, inside one at its end. -/
def Dev.uhfpOff (d : Dev) (p : Nat) : Dev :=
  let d := d.setFlag (F.UHFPn_CFG_ENABLE p) false
  match [0, 1].find? fun n => (d.uhfc n).port == some p && (d.uhfc n).owner.isSome with
  | none => d
  | some n =>
    let m := d.uhfMaster n
    match (d.uhfc m).att with
    | none => d.rampDown m
    | some a => if a.awaiting.isSome then d else (d.uhfFailBare m a Code.UHF_PORT_UNAVAILABLE).rampDown m

/-- An enable whose check has passed takes effect; one already 1 stays. -/
def Dev.enableOn (d : Dev) (e : Enable) : Dev :=
  if d.flag (enableFld e) then d
  else match e with
    | .hfc n => d.hfcOn n
    | .hfp n => d.setFlag (F.HFPn_CFG_ENABLE n) true
    | .hfBond n => d.setFlag (F.HFCn_BOND_EN n) true
    | .uhfc n => d.uhfcOn n
    | .uhfp n => d.setFlag (F.UHFPn_CFG_ENABLE n) true
    | .steer => d.setFlag F.UHF_STEER_EN true
    | .coexPw k => d.setFlag (F.COEX_PWk_CFG_EN k) true
    | .tmr n => d.timerRun n true
    | .cvu n => d.cvuEnable n true

/-- A window closes (R267): PW_OPEN as the windows stand. -/
def Dev.closeWindow (d : Dev) (k : Nat) : Dev :=
  let d := { d with windows := d.windows.filter (·.1 != k) }
  d.setFlag F.COEX_STAT_PW_OPEN (!d.windows.isEmpty)

/-- An enable written 0. Log 61 DEDUCED. -/
def Dev.enableOff (d : Dev) (e : Enable) : Dev :=
  match e with
  | .hfc n => d.hfcOff n
  | .hfp n => d.hfpOff n
  | .hfBond n => d.setFlag (F.HFCn_BOND_EN n) false
  | .uhfc n => d.uhfcOff n
  | .uhfp n => d.uhfpOff n
  | .steer => d.setFlag F.UHF_STEER_EN false
  | .coexPw k => (d.setFlag (F.COEX_PWk_CFG_EN k) false).closeWindow k
  | .tmr n => d.timerRun n false
  | .cvu n => d.cvuEnable n false

/-! ### Checks that wait (R86) -/

/-- A check joins the queue; the field it guards keeps its value until the check ends. -/
def Dev.trigger (d : Dev) (c : PendingCheck) : Dev := { d with checks := d.checks ++ [c] }.setFlag F.SUP_CHECK_BUSY true

/-- An enable written: 1 is checked under source 0x1, 0 takes effect at once (R88). -/
def Dev.writeEnable (d : Dev) (e : Enable) (on : Bool) : Dev := if on then d.trigger (.enable e) else (d.enableOff e).settle

/-- A write of 1 to COMMIT (R91, R92): a copy of the shadow goes to the check; ignored while CHECKING is 1. -/
def Dev.groupCommit (d : Dev) (g : Group) : Dev :=
  if d.checking g then d else (d.trigger (.commit g (d.shadowOf g))).setFlag ⟨groupReg g, 30, 30⟩ true

/-- A checked dynamic field written (R81, R251, R286). -/
def Dev.writeValue (d : Dev) (a : Nat) (w : Word) : Dev := d.trigger (.value a w)

/-- OBJ_CTL.WRITE (R335): the staging buffer is copied for the check; ignored while BUSY is 1. -/
def Dev.objWrite (d : Dev) : Dev :=
  if d.flag F.OBJ_CTL_BUSY then d
  else (d.trigger (.object (d.fld F.OBJ_SEL_INDEX) d.tables.staging)).setFlag F.OBJ_CTL_BUSY true

/-! ### What a value in force does -/

/-- Limits changed (R105, R252, R253): the permits shown, the drive of fields outside an exchange, and at once the carriers of chains with no
attempt in hand: their output, and those that must not stay on. The others follow at their next turnaround, ramp or slot boundary.
Log 136 DESIGN CHOICE. -/
def Dev.limitsChanged (d : Dev) : Dev :=
  let d := d.forEach (List.range 4) Dev.driveChanged
  d.forEach [0, 1] fun d n =>
    let d := if (d.uhfc n).port.isSome then d.showPermit n else d
    if (d.uhfc (d.uhfMaster n)).att.isSome then d
    else if (d.uhfc n).master then (d.powerStep 512 n).pauseIdle n else d.powerStep 512 n

/-- A checked value takes effect. GOV_CTL keeps no RESTORE bit. -/
def Dev.valueOn (d : Dev) (a : Nat) (w : Word) : Dev :=
  if a = R.SUP_DIRECT_QUOTA then d.setFld F.SUP_DIRECT_QUOTA_QUOTA (bitsOf w 7 0)
  else if R.GOV_UHF ≤ a && a ≤ R.GOV_CTL then
    (d.setReg a ((d.reg a &&& ~~~ (accessOf a).rw) ||| (w &&& (accessOf a).rw))).limitsChanged
  else d.setReg a ((d.reg a &&& ~~~ (accessOf a).rw) ||| (w &&& (accessOf a).rw))

/-- GOV_CTL.RESTORE (R251). Log 61 DEDUCED. -/
def Dev.govRestore (d : Dev) : Dev := d.restoreLimits.limitsChanged

/-- An object entry replaced (R239, R335): census state and LAST_SEQ are kept while OBJECT_ID and PROTO stay and the entry stays VALID. -/
def Dev.putObject (d : Dev) (k : Nat) (e : Bytes) : Dev :=
  let o := d.obj k
  let same := objValid o.bytes && objValid e && objId o.bytes == objId e && objProto o.bytes == objProto e
  let d := d.setObj k { bytes := overlay e 24 (if same then slice o.bytes 24 4 else zeros 4), census := if same then o.census else {} }
  d.setFld F.OBJ_COUNT_VALID (d.tables.objects.filter fun x => objValid x.2.bytes).length

/-- A commit whose check has passed: its copy waits for the boundary of R90, or replaces the active values at once (R91, R462). -/
def Dev.commitPassed (d : Dev) (g : Group) (copy : List (Nat × Word)) : Dev :=
  let d := { d with applying := d.applying.filter (fun x : Group × List (Nat × Word) => x.1 != g) ++ [(g, copy)] }
  let d := d.setFlag ⟨groupReg g, 30, 30⟩ false
  if d.groupBusy g then d
  else
    let d := d.applyGroup g
    match g with
    | .tmr n => d.lateCompares n
    | _ => d

/-- The check at the head of the queue ends (R82, R86). -/
def Dev.checkDone (d : Dev) : Dev :=
  match d.checks with
  | [] => d
  | c :: rest =>
    let d := { d with checks := rest }.setFlag F.SUP_CHECK_BUSY (!rest.isEmpty)
    let code := match c with
      | .enable e => d.enableCode e
      | .commit g copy => d.groupCode g copy
      | .value a w => d.valueCode a w
      | .object k e => d.objectCode k e false
    let d := d.checkEnded code
    if code = 0 then
      (match c with
        | .enable e => d.enableOn e
        | .commit g copy => d.commitPassed g copy
        | .value a w => d.valueOn a w
        | .object k e => ((d.putObject k e).setFlag F.OBJ_CTL_BUSY false).setFld F.OBJ_CTL_CODE 0).settle
    else match c with
      | .enable e => d.refuse code 1 0 (enableFld e).addr 0
      | .commit g _ => (d.refuse code 2 0 (groupReg g) 0).commitEnded g code
      | .value a w => d.refuse code 6 0 a (if code = Code.CC_DIRECT_QUOTA then bitsOf w 7 0 else 0)
      | .object _ _ => ((d.refuse code 6 0 R.OBJ_CTL 0).setFlag F.OBJ_CTL_BUSY false).setFld F.OBJ_CTL_CODE code

/-- Every waiting check ended, oldest first; `fuel` is their number. -/
def Dev.drainChecks (d : Dev) : Nat → Dev
  | 0 => d
  | f + 1 => d.checkDone.drainChecks f

/-- The checks that stand before a check of another kind ended (R86). -/
def Dev.drained (d : Dev) : Dev := d.drainChecks d.checks.length

/-! ### Writes with an effect of their own -/

/-- COEX_CFG.A_EN written (R262, R266): 0 is ignored in SHARED and recorded. Log 62 DEDUCED. -/
def Dev.coexAEn (d : Dev) (on : Bool) : Dev :=
  if !on && d.mode == Mode.shared then d.refuse Code.CC_COEX_CONFIG 1 0 R.COEX_CFG 0
  else (d.setFlag F.COEX_CFG_A_EN on).coexIdle

/-- HFCn_TXCTL written (R102, R104, R105, R131): ATT_EXTRA above 300 is stored as 300; inside an exchange of the chain, its bond or a STAGGER
partner the change waits for its end. -/
def Dev.txctl (d : Dev) (n : Nat) (w : Word) : Dev :=
  let a := R.HFCn_TXCTL n
  let w := putBits w 8 0 (min 300 (bitsOf w 8 0))
  (d.setReg a ((d.reg a &&& ~~~ (accessOf a).rw) ||| (w &&& (accessOf a).rw))).driveChanged n

/-- HFPn_STAT.FAULT written 1 (R117): OPEN and SHORT clear with it. -/
def Dev.hfpClear (d : Dev) (p : Nat) : Dev :=
  (((d.setFlag (F.HFPn_STAT_FAULT p) false).setFlag (F.HFPn_STAT_OPEN p) false).setFlag (F.HFPn_STAT_SHORT p) false).settle

/-- UHFPn_STAT.FAULT written 1 (R196): RL_LOW clears with it. -/
def Dev.uhfpClear (d : Dev) (p : Nat) : Dev :=
  ((d.setFlag (F.UHFPn_STAT_FAULT p) false).setFlag (F.UHFPn_STAT_RL_LOW p) false).settle

/-- Profile word `k` of a view. -/
def profWord (p : Bytes) (k : Nat) : Word := BitVec.ofNat 32 (numAt p (4 * k) 4)

/-- A word of a profile written (R112, R210). -/
def Dev.writeProfile (d : Dev) (prof k : Nat) (w : Word) : Dev :=
  { d with tables := { d.tables with
      profiles := tableSet 32 (zeros 48) d.tables.profiles prof (overlay (d.profile prof) (4 * k) (beBytes 4 w.toNat)) } }

/-- A profile bound to an enabled port is locked (R112, R210). -/
def Dev.profileLocked (d : Dev) (prof : Nat) : Bool :=
  ((List.range 16).any fun n => d.flag (F.HFPn_CFG_ENABLE n) && d.fld (F.HFPn_CFG_PROFILE n) == prof) ||
    (List.range 8).any fun n => d.flag (F.UHFPn_CFG_ENABLE n) && d.fld (F.UHFPn_CFG_PROFILE n) == prof

/-- The snapshot of the object window (R345). Log 117 DEDUCED. -/
def Dev.objSelect (d : Dev) (k : Nat) : Dev :=
  let o := d.obj k
  let d := d.setFld F.OBJ_SEL_INDEX k
  let d := d.forEach (List.range 8) fun d i => d.setReg (R.OBJ_Wk i) (profWord o.bytes i)
  let d := (d.setFld F.OBJ_CENSUS_STATE o.census.st).setFld F.OBJ_CENSUS_MISS o.census.miss
  let d := (d.setFld F.OBJ_CENSUS_LAST_RSSI o.census.rssi).setFld F.OBJ_CENSUS_LAST_PORT o.census.port
  (d.setReg R.OBJ_SEEN_HI (BitVec.ofNat 32 (o.census.seen / 2 ^ 32))).setReg R.OBJ_SEEN_LO (BitVec.ofNat 32 o.census.seen)

/-- OBJ_CTL.LOAD (R345): the selected live entry copied into the staging buffer. -/
def Dev.objLoad (d : Dev) : Dev := { d with tables := { d.tables with staging := (d.obj (d.fld F.OBJ_SEL_INDEX)).bytes } }

end Sys2Proof.Machine
end

