-- ==== Sys2Proof/Machine/Runs.lean ====
section
/-!
DEFINITION. Cycles and runs (R77, R78, R328–R331): slot times, runs that fall due, runs held by a mode and missed.
-/

namespace Sys2Proof.Machine

open Sys2Proof

/-! ### Time as the schedules see it -/

/-- The clock that schedules run on: device time, or in WATCH the Attic's coarse count, from which device time goes on (R29).
Log 19 DESIGN CHOICE, 57 DEDUCED. -/
def Dev.now (d : Dev) : Nat := if d.phase == .watch || d.phase == .waking then d.attic.count else d.time

/-- Wall time as the schedules see it. -/
def Dev.wallNow (d : Dev) : Nat := d.wallAt d.now

/-- Wall time has reached at least `ms`: a run falls due no earlier than its slot. Log 4 DESIGN CHOICE. -/
def Dev.schedReach (d : Dev) (ms : Nat) : Dev := if ms ≤ d.wallNow then d else d.tick ((ms - d.wallNow) * 1000)

/-- Schedules run: the device runs, or sleeps in WATCH (R77). Log 57 DEDUCED. -/
def Dev.schedules (d : Dev) : Bool := d.live || d.phase == .watch

/-! ### Cycles (R329, R330) -/

/-- The index of the cycle that contains a wall time. -/
def cycleAt (p : PlanHead) (wall : Nat) : Int := ((wall : Int) - p.offset).fdiv (p.period * 1000)

/-- The start of cycle `c`. -/
def cycleStart (p : PlanHead) (c : Int) : Nat := (c * (p.period * 1000) + p.offset).toNat

/-- The slot times of cycle `c`: target, the entry it had, wall time. -/
def Dev.slotsOf (d : Dev) (p : PlanHead) (c : Int) : List (Nat × Bytes × Nat) :=
  let ts := d.targets p
  (List.range ts.length).map fun k =>
    let t := ts.getD k 0
    (t, if p.kind == Kind.meterRead then (d.obj t).bytes else [], cycleStart p c + k * p.spread / ts.length)

/-- A channel enters the cycle that contains the wall time at device time `t`, with the targets still to come then (R55, R331). -/
def Dev.enterCycleFrom (d : Dev) (slot t : Nat) : Dev :=
  d.onChan slot fun c =>
    if c.direct then c
    else
      let p := d.plan c.plan
      let k := cycleAt p (d.wallAt t)
      if k < 0 then { c with cycle := {} }
      else
        let all := d.slotsOf p k
        { c with cycle := { index := k, todo := all.filter fun x => decide (d.wallAt t ≤ x.2.2), first := (all.head?).map (·.1) } }

/-- A channel that becomes ACTIVE enters the cycle that contains the present wall time (R331). -/
def Dev.enterCycle (d : Dev) (slot : Nat) : Dev := d.enterCycleFrom slot d.now

/-- Whether a channel's schedule runs. -/
def Chan.scheduled (c : Chan) : Bool := !c.direct && (c.state == .active || c.state == .running)

/-- The next cycle of a channel starts (R329, R330): the cycle of the present wall time, or the next one once it is reached.
Log 57 DEDUCED. -/
def Dev.cycleStarts (d : Dev) (slot : Nat) : Dev :=
  match d.chan? slot with
  | none => d
  | some c =>
    if !d.schedules || !c.scheduled then d
    else
      let p := d.plan c.plan
      let here := cycleAt p d.wallNow
      let k := if here > c.cycle.index then here else c.cycle.index + 1
      let d := d.schedReach (cycleStart p k)
      let dropped := c.cycle.todo.length
      let all := d.slotsOf p k
      let d := d.setChan slot { c with cycle := { index := k, todo := all, first := (all.head?).map (·.1) } }
      if dropped = 0 then d
      else
        let d := d.bump F.SVC_OVERRUN_COUNT dropped
        let commit := jpolCommit (jpolIn d.mode p.jpol)
        if commit = 0 then d
        else d.post {
          ty := 3, handle := d.handle slot, commit := commit
          payload := beBytes 2 6 ++ beBytes 2 (min dropped 0xFFFF) ++ beBytes 6 (cycleStart p k) }

/-! ### Runs -/

/-- A run starts (R308): its first step is created, or ends at once where no record may be written (R375). -/
def Dev.startRun (d : Dev) (slot : Nat) (c : Chan) (due : Due) : Dev :=
  let p := d.plan c.plan
  let runs := (c.runs + 1) % 2 ^ 32
  let reqId := match due.cause with
    | .chnRun id => id
    | _ => runs % 65536
  let r : Run := {
    due := due, reqId := reqId, deadline := due.at_ + p.deadline
    object := if c.kind == Kind.meterRead then some due.target else none }
  let d := (d.setChan slot { c with run := some r, runs := runs, pending := none, waitUs := 0, state := .running }).newStep slot
  if d.roomFor p.jpol then d else d.setPhase slot (.ended Code.JRNL_NO_ROOM)

/-- A run counts as missed (R77); one that CHN_RUN asked for ends as MISSED (R298). -/
def Dev.missRun (d : Dev) (slot : Nat) (due : Due) : Dev :=
  let d := d.onChan slot fun c => { c with
    missed := c.missed + 1, missFirst := if c.missed = 0 then due.wall else c.missFirst, missLast := due.wall, missMode := due.mode }
  match due.cause with
  | .chnRun id => d.reqDone (d.handle slot) id Code.MISSED 0 []
  | _ => d

/-- A kind of channel is held by the mode in force, or by the mode a transition goes to (R65, R71). Log 49 DEDUCED. -/
def Dev.isHeld (d : Dev) (kind : Nat) : Bool := heldIn kind d.mode || heldIn kind d.checkMode

/-- A run falls due now (R77, R329): on a held channel it is pending, and an earlier pending run is missed. -/
def Dev.fallDue (d : Dev) (slot target : Nat) (cause : Cause) : Dev :=
  match d.chan? slot with
  | none => d
  | some c =>
    let due : Due := {
      target := target, entry := if c.kind == Kind.meterRead then (d.obj target).bytes else [], at_ := d.now, wall := d.wallNow
      cause := cause, mode := d.mode }
    if d.isHeld c.kind then
      let d := match c.pending with
        | some old => d.missRun slot old
        | none => d
      d.onChan slot fun c => { c with pending := some due }
    else d.startRun slot c due

/-- A target frozen at its cycle's start still stands: its object is VALID and has kept its object ID (R329). -/
def Dev.stands (d : Dev) (c : Chan) (x : Nat × Bytes × Nat) : Bool :=
  c.kind != Kind.meterRead || (objValid (d.obj x.1).bytes && objId (d.obj x.1).bytes == objId x.2.1)

/-- The next target of the cycle that still stands, and those after it. Log 58 DEDUCED. -/
def Dev.nextTarget (d : Dev) (c : Chan) : Option ((Nat × Bytes × Nat) × List (Nat × Bytes × Nat)) :=
  match c.cycle.todo.dropWhile fun x => !d.stands c x with
  | [] => none
  | x :: rest => some (x, rest)

/-- The first extra run in time, and the others. -/
def firstExtra (es : List Extra) : Option (Extra × List Extra) :=
  (es.foldl (fun (a : Option Extra) e => match a with
    | none => some e
    | some x => if e.slot < x.slot then some e else some x) none).map fun e => (e, es.erase e)

/-- The next run of a channel falls due (R329, R331): no earlier than its slot, and not while a run of the channel is in progress. In
WATCH the presence sequencer stands for the runs of PRESENCE channels (R65). Log 57 DEDUCED. -/
def Dev.runDue (d : Dev) (slot : Nat) : Dev :=
  match d.chan? slot with
  | none => d
  | some c =>
    if !d.schedules || !c.scheduled || c.run.isSome || c.step.isSome then d
    else
      let watch := d.phase == .watch && c.kind == Kind.presence
      let cyc := d.nextTarget c
      match firstExtra c.extras, cyc with
      | some (e, es), t =>
        if t.all fun x => decide (e.slot ≤ x.1.2.2) then
          let d := (d.schedReach e.slot).setChan slot { c with extras := es }
          if watch then d else d.fallDue slot e.target e.cause
        else match t with
          | some (x, rest) =>
            let d := (d.schedReach x.2.2).setChan slot { c with cycle := { c.cycle with todo := rest } }
            if watch then d else d.fallDue slot x.1 .cycle
          | none => d
      | none, some (x, rest) =>
        let d := (d.schedReach x.2.2).setChan slot { c with cycle := { c.cycle with todo := rest } }
        if watch then d else d.fallDue slot x.1 .cycle
      | none, none => d.setChan slot { c with cycle := { c.cycle with todo := [] } }

/-- CHN_RUN taken on an ACTIVE channel (R331): the next target of the cycle, or its target 0 once more. None of the two: the cycle
selects nothing, and the command does nothing. -/
def Dev.runNow (d : Dev) (slot reqId : Nat) : Option Dev :=
  match d.chan? slot with
  | none => none
  | some c => match d.nextTarget c with
    | some (x, rest) => some ((d.setChan slot { c with cycle := { c.cycle with todo := rest } }).fallDue slot x.1 (.chnRun reqId))
    | none => match c.cycle.first with
      | some t => some ((d.setChan slot { c with cycle := { c.cycle with todo := [] } }).fallDue slot t (.chnRun reqId))
      | none => none

/-- The deadline of a pending run. -/
def Dev.pendingDeadline (d : Dev) (c : Chan) : Option Nat := c.pending.map fun x => x.at_ + (d.plan c.plan).deadline

/-- The deadline of a run held by the mode passes (R77): it is missed. -/
def Dev.pendingPassed (d : Dev) (slot : Nat) : Dev :=
  match d.chan? slot with
  | none => d
  | some c => match c.pending, d.pendingDeadline c with
    | some due, some t =>
      let d := if t > d.now then d.tick (t - d.now) else d
      (d.missRun slot due).onChan slot fun c => { c with pending := none }
    | _, _ => d

/-- The pending run of a channel that runs in the mode entered starts (R78). In WATCH the presence sequencer stands for it, and a run that
CHN_RUN asked for waits on. Log 57 DEDUCED. -/
def Dev.startPending (d : Dev) (slot : Nat) : Dev :=
  match d.chan? slot with
  | none => d
  | some c => match c.pending with
    | none => d
    | some due =>
      if d.mode != Mode.watch then d.startRun slot c due
      else match due.cause with
        | .chnRun _ => d
        | _ => d.setChan slot { c with pending := none }

/-- A channel that runs in the mode entered (R78, R79): the MISSED record and count, and its pending run. Log 59 DEDUCED. -/
def Dev.releaseHeld (d : Dev) (slot : Nat) : Dev :=
  match d.chan? slot with
  | none => d
  | some c =>
    if heldIn c.kind d.mode || c.direct then d
    else
      let late := (d.pendingDeadline c).any fun t => decide (t ≤ d.time)
      let d := if late then d.pendingPassed slot else d
      match d.chan? slot with
      | none => d
      | some c =>
        let d := if c.missed = 0 then d else
          let d := (d.setChan slot { c with missed := 0 }).bump F.SUP_MISSED_COUNT c.missed
          d.post {
            ty := 3, handle := d.handle slot, commit := entryCommit d.mode
            payload := beBytes 2 2 ++ beBytes 1 Code.MISSED ++ beBytes 1 c.missMode ++ beBytes 2 (min c.missed 0xFFFF) ++
              beBytes 6 c.missFirst ++ beBytes 6 c.missLast }
        d.startPending slot

end Sys2Proof.Machine
end

