-- ==== Sys2Proof/Machine/Channels.lean ====
section
/-!
DEFINITION. The channel commands and the channel window (R288–R304, R319), and the direct messages of Chapter 10 (R313–R315).
-/

namespace Sys2Proof.Machine

open Sys2Proof

/-! ### The command queue (R299, R303, R424) -/

/-- HOST_STAT.QDEPTH as the queue stands. -/
def Dev.showDepth (d : Dev) : Dev := d.setFld F.HOST_STAT_QDEPTH d.host.cmdq.length

/-- The queue replaced. -/
def Dev.setQueue (d : Dev) (q : List Cmd) : Dev := { d with host := { d.host with cmdq := q } }.showDepth

/-- Direct messages at the head of the queue leave it: each is PENDING and waits in its mailbox (R303, R315, R424). -/
def Dev.passMessages (d : Dev) : Dev :=
  let (ms, rest) := d.host.cmdq.span (·.code == 0xFF)
  ms.foldl (fun d c => d.reqPending c.handle c.reqId) (d.setQueue rest)

/-- The command at the head of the queue taken, if it has code `code` (R303): it is PENDING. One whose channel has gone since is
dropped. Log 3 DESIGN CHOICE. -/
def Dev.takeCmd (d : Dev) (code : Nat) : Option (Cmd × Dev) :=
  let d := d.passMessages
  match d.host.cmdq with
  | [] => none
  | c :: rest =>
    if c.code = code && (d.live || d.phase == .halted) then some (c, (d.setQueue rest).reqPending c.handle c.reqId) else none

/-- A command with its outcome (R299, R312). -/
def Dev.cmdDone (d : Dev) (c : Cmd) (code : Nat) (result : Bytes) : Dev := d.reqDone c.handle c.reqId code 0 result

/-! ### Channel commands (R291–R298) -/

/-- A refusal of a channel check recorded (R82, R86), with SUBJECT 0 where there is no channel yet to name. Log 140 DESIGN CHOICE. -/
def Dev.chanCheck (d : Dev) (r : Option Refused) (source : Nat) : Dev :=
  match r with
  | none => d.checkEnded 0
  | some r => (d.checkEnded r.code).refuse r.code source r.step (r.subject.getD 0) r.need

/-- The slot that a channel entry takes (R292). -/
def Dev.entrySlot (d : Dev) (e : Bytes) : Nat :=
  if numAt e 0 2 = 0xFFFF then ((List.range 256).find? fun k => (d.chan? k).isNone).getD 0 else numAt e 0 2

/-- The channel of an entry (R292). -/
def chanOfEntry (e : Bytes) (st : ChanState) : Chan :=
  { kind := byteAt e 2, prio := nbits (byteAt e 3) 6 0, plan := numAt e 4 2, state := st }

/-- FLAGS.START of an entry. -/
def entryStart (e : Bytes) : Bool := bit (byteAt e 6) 0

/-- CHN_CREATE (R292–R295). -/
def Dev.chnCreate (d : Dev) : Dev :=
  match d.takeCmd 1 with
  | none => d
  | some (c, d) =>
    let d := d.drained
    let r := d.createRefused c.payload
    let d := d.chanCheck r 5
    match r with
    | some r => d.cmdDone c r.code []
    | none =>
      let slot := d.entrySlot c.payload
      let start := entryStart c.payload
      let d := d.setChan slot (chanOfEntry c.payload (if start then .active else .stopped))
      let d := if start then d.enterCycle slot else d
      d.cmdDone c Code.OK (beBytes 2 (d.handle slot))

/-- CHN_START (R295, R298). -/
def Dev.chnStart (d : Dev) : Dev :=
  match d.takeCmd 2 with
  | none => d
  | some (c, d) => match d.liveSlot c.handle, d.byHandle c.handle with
    | some slot, some ch =>
      if ch.state != .stopped then d.cmdDone c Code.CHN_STATE []
      else
        let d := d.drained
        let r := (d.chanRefused ch.spec d.checkMode).map fun r => { r with subject := some c.handle }
        let d := d.chanCheck r 5
        match r with
        | some r => d.cmdDone c r.code []
        | none => ((d.onChan slot fun ch => { ch with state := .active }).enterCycle slot).cmdDone c Code.OK []
    | _, _ => d

/-- A run pending under R77 dropped (R296); the CHN_RUN that asked for it ends with STOPPED. -/
def Dev.dropPending (d : Dev) (slot : Nat) : Dev :=
  match (d.chan? slot).bind (·.pending) with
  | none => d
  | some due =>
    let d := d.onChan slot fun c => { c with pending := none }
    match due.cause with
    | .chnRun id => d.reqDone (d.handle slot) id Code.STOPPED 0 []
    | _ => d

/-- A channel stops where it stands: no step is in progress (R295). Log 147 DEDUCED. -/
def Dev.chanStopped (d : Dev) (slot : Nat) : Dev :=
  ((d.dropPending slot).releaseRun slot).onChan slot fun c => { c with state := .stopped, drain := false, extras := [], cycle := {} }

/-- A channel freed (R289, R297): the slot's generation advances, what it held goes. -/
def Dev.chanFreed (d : Dev) (slot : Nat) : Dev :=
  let d := (d.dropPending slot).releaseRun slot
  let h := d.handle slot
  let g := if d.gen slot = 255 then 1 else d.gen slot + 1
  let d := { d with chans := d.chans.filter (·.1 != slot), gens := mapSet 1 d.gens slot g }
  d.setQueue (d.host.cmdq.filter fun c => !(c.code == 0xFF && c.handle == h))

/-- A running channel told to stop at once (R295, R296). -/
def Dev.chanStopping (d : Dev) (slot : Nat) : Dev :=
  let d := (d.dropPending slot).onChan slot fun c => { c with state := .stopping, drain := false, extras := [], cycle := {} }
  d.stopStep slot Code.STOPPED

/-- CHN_STOP at the head of the queue with DRAIN as given (R291, R295, R298). -/
def Dev.chnStop (d : Dev) (drain : Bool) : Dev :=
  match d.takeCmd 3 with
  | none => d
  | some (c, d') =>
    if bit (byteAt c.payload 0) 0 != drain then d
    else
      let d := d'
      match d.liveSlot c.handle, d.byHandle c.handle with
      | some slot, some ch => match ch.state with
        | .active => ((d.chanStopped slot).cmdDone c Code.OK []).settle
        | .running =>
          if drain then d.onChan slot fun ch => { ch with drain := true, stopIds := ch.stopIds ++ [c.reqId] }
          else (d.chanStopping slot).onChan slot fun ch => { ch with stopIds := ch.stopIds ++ [c.reqId] }
        | _ => d.cmdDone c Code.CHN_STATE []
      | _, _ => d

/-- CHN_RUN (R291, R298, R331). Log 58 DEDUCED. -/
def Dev.chnRun (d : Dev) : Dev :=
  match d.takeCmd 4 with
  | none => d
  | some (c, d) => match d.liveSlot c.handle, d.byHandle c.handle with
    | some slot, some ch =>
      if ch.state != .active || ch.direct then d.cmdDone c Code.CHN_STATE []
      else match d.runNow slot c.reqId with
        | some d => d
        | none => d.cmdDone c Code.CHN_STATE []
    | _, _ => d

/-- CHN_DESTROY (R295–R297): its outcome is reported by the event alone once the handle is stale (R426). -/
def Dev.chnDestroy (d : Dev) : Dev :=
  match d.takeCmd 5 with
  | none => d
  | some (c, d) => match d.liveSlot c.handle, d.byHandle c.handle with
    | some slot, some ch => match ch.state with
      | .running =>
        (d.chanStopping slot).onChan slot fun ch => { ch with stopIds := ch.stopIds ++ [c.reqId], destroy := true }
      | .stopping => d.onChan slot fun ch => { ch with stopIds := ch.stopIds ++ [c.reqId], destroy := true }
      | _ => ((d.cmdDone c Code.OK []).chanFreed slot).settle
    | _, _ => d

/-- A channel's STOPPING ends (R295): its step and run have ended. -/
def Dev.stoppingEnd (d : Dev) (slot : Nat) : Dev :=
  match d.chan? slot with
  | none => d
  | some c =>
    if c.state != .stopping || c.step.isSome || c.run.isSome then d
    else
      let d := (d.onChan slot fun c => { c with state := .stopped, stopIds := [], destroy := false }).stopsDone (d.handle slot) c.stopIds
      (if c.destroy then d.chanFreed slot else d.chanStopped slot).settle

/-! ### Direct messages (R313–R315, R233, R520) -/

/-- A message that asks for Kill (R233). -/
def msgKill (m : Bytes) : Bool :=
  msgUhf m && (uKind (msgParams m) == 3 || (uKind (msgParams m) == 4 && accessCmd (msgTmpl m) (msgTbits m) == .kill))

/-- The conditions of R233 on a Kill message. -/
def Dev.killDenied (d : Dev) (m : Bytes) (mac : Bool) : Bool :=
  let ks := byteAt m 6
  let key := d.vault.slots.getD (ks % 32) none
  !(d.mode == Mode.direct && bit ks 7 && (key.any fun k => bit k.purpose 0 && bit k.purpose 2) && mac)

/-- The code that refuses a message that is well formed, in ascending order (R87, R149, R179, R219, R233, R314, R520). -/
def Dev.msgRefused (d : Dev) (m : Bytes) (mac : Bool) : Nat :=
  let p := msgParams m
  let uhf := msgUhf m
  let port := portchPort (msgPortch m)
  let ch := portchChain (msgPortch m)
  let hfChains := if msgAny m then (List.range 4).filter fun n => d.flag (F.HFCn_CTL_ENABLE n) else [ch]
  let hfBad := if hfChains.isEmpty then [0, 1, 2].all fun k => hfStepBad p k true
    else hfChains.any fun n => hfStepBad p (d.fld (F.HFCn_PROTO_PROTO n)) true
  let serves := if msgAny m then d.uhfServes 0 port || d.uhfServes 1 port else decide (ch < 2) && d.uhfServes ch port
  firstCode [
    (d.keyBad uhf (byteAt m 6) p, Code.CC_KEY_PURPOSE),
    (jpolCommit (byteAt m 7) == 3, Code.CC_JOURNAL_POLICY),
    (!uhf && hfBad, Code.CC_HF_STEP),
    (uhf && !serves, Code.CC_UHF_PROFILE),
    (uhf && uhfStepBad d.limits d.selTable p (msgTmpl m) (msgTbits m) true (portchPair (msgPortch m)) false, Code.CC_UHF_STEP),
    (msgKill m && d.killDenied m mac, Code.CC_KILL_DENIED)]

/-- A message refused: its outcome, its result message, and an empty mailbox (R314, R316). -/
def Dev.msgRefuse (d : Dev) (slot reqId code : Nat) (uhf : Bool) : Dev :=
  let h := d.handle slot
  let d := d.onChan slot fun c => { c with
    mailbox := [], msgWait := false, msgMac := true, results := c.results ++ [refusedMsg h reqId uhf code] }
  d.reqDone h reqId code 0 []

/-- The step of a direct message (R308, R313, R315). -/
def directStep (slot handle now accepted : Nat) (m : Bytes) (held : Bool) : Step :=
  let deadline := accepted + numAt m 8 4
  let cv := numAt m 36 2
  { tag := {
      handle := handle, reqId := numAt m 0 2, level := nbits (byteAt m 12) 6 0, deadline := deadline % 2 ^ 40
      portch := msgPortch m, keyslot := byteAt m 6, jpol := byteAt m 7
      cvctx := if bit cv 15 then 0x8000 + nbits cv 14 12 * 4096 + slot else 0 }
    deadline := deadline, params := msgParams m, tmpl := msgTmpl m, tbits := msgTbits m, retries := msgRetries m
    worst := msgWorst m, phase := if held then .held else .waiting, waitFrom := now, any := msgAny m, object := slice m 28 8 }

/-- The waiting message of a direct channel starts (R315): every result read, no step in progress, and no command accepted before it
still in the queue (R303). Log 147 DEDUCED. -/
def Dev.directStart (d : Dev) (slot : Nat) : Dev :=
  match d.chan? slot with
  | none => d
  | some c =>
    let h := d.handle slot
    let reqId := numAt c.mailbox 0 2
    let before := d.host.cmdq.takeWhile fun q => !(q.code == 0xFF && q.handle == h)
    let clear := before.all (·.code == 0xFF) || before.length == d.host.cmdq.length
    if !d.live || d.isHeld c.kind || !c.direct || c.state != .active || !c.msgWait || c.step.isSome || !c.results.isEmpty || !clear then d
    else
      let d := d.setQueue (d.host.cmdq.filter fun q => !(q.code == 0xFF && q.handle == h))
      let d := d.reqPending h reqId
      let st := directStep slot h d.time c.accepted c.mailbox d.trans.isSome
      let st := if d.roomFor st.tag.jpol then st else { st with phase := .ended Code.JRNL_NO_ROOM }
      (d.onChan slot fun c => { c with
        mailbox := [], msgWait := false, msgMac := true, state := .running, step := some st, waitUs := 0 }).settle

/-! ### The channel window (R319) -/

/-- STATE code of R294. -/
def chanCode : ChanState → Nat
  | .stopped => 1
  | .active => 2
  | .running => 3
  | .stopping => 4

/-- STATE code of CHN_HSEL. -/
def histCode : HistState → Nat
  | .queued => 1
  | .pending => 2
  | .done => 3

/-- What a step waits for, as CHN_STEP.WAIT shows it. -/
def Dev.waitBits (d : Dev) (slot : Nat) (c : Chan) : Nat :=
  match c.step with
  | some st => if st.phase = .waiting then (match d.place? slot c st with
      | .ok _ => 0
      | .error w => w % 64) else 0
  | none => b2n (c.msgWait && !c.results.isEmpty)

/-- CHN_HSEL.STATE and CHN_HIST of the selected entry of a history. -/
def Dev.showEntry (d : Dev) (h : History) (k : Nat) : Dev :=
  let d := d.setFld F.CHN_HSEL_ENTRY k
  match h.entries[k]? with
  | none => (d.setFld F.CHN_HSEL_STATE 0).setReg R.CHN_HIST 0#32
  | some e =>
    ((((d.setFld F.CHN_HSEL_STATE (histCode e.st)).setFld F.CHN_HIST_ID e.id).setFld F.CHN_HIST_CMD e.cmd).setFld F.CHN_HIST_CODE
      (if e.st = .done then e.outcome else 0))

/-- The history that CHN_SEL names. -/
def Dev.selHistory (d : Dev) : History :=
  if d.flag F.CHN_SEL_DEV then d.host.hist else ((d.chan? (d.fld F.CHN_SEL_SLOT)).map (·.hist)).getD {}

/-- CHN_SEL written (R319): the snapshot of 0x801–0x80E. Log 117 DEDUCED. -/
def Dev.chnSelect (d : Dev) (dev : Bool) (slot : Nat) : Dev :=
  let d := (d.setFlag F.CHN_SEL_DEV dev).setFld F.CHN_SEL_SLOT slot
  let entry := d.fld F.CHN_HSEL_ENTRY
  let d := d.forEach (List.range 14) fun d i => if 0x801 + i = R.CHN_HSEL then d else d.setReg (0x801 + i) 0#32
  let h := d.selHistory
  let d := (d.setFld F.CHN_REQ_NEWEST h.newest).setFld F.CHN_REQ_COUNT h.entries.length
  let d := ((d.setFld F.CHN_DUP_DUP h.dup).setFld F.CHN_DUP_STALE h.stale).showEntry h entry
  if dev then d
  else
    let d := (d.setFld F.CHN_TABLE_USED d.chans.length).setFld F.CHN_TABLE_DIRECT (d.chans.filter (·.2.direct)).length
    let d := d.setFld F.CHN_TABLE_ORPHAN_SLOT d.orphan
    match d.chan? slot with
    | none => d
    | some c =>
      let d := ((d.setFld F.CHN_INFO_HANDLE (d.handle slot)).setFld F.CHN_INFO_STATE (chanCode c.state)).setFld F.CHN_INFO_KIND c.kind
      let d := (d.setFlag F.CHN_INFO_HELD (heldIn c.kind d.mode)).setFlag F.CHN_INFO_PENDING c.pending.isSome
      let d := (d.setFlag F.CHN_INFO_DRAIN c.drain).setFlag F.CHN_INFO_MSG_WAIT c.msgWait
      let d := (d.setFld F.CHN_PLAN_PLAN (if c.direct then 0 else c.plan)).setFld F.CHN_PLAN_PRIO c.prio
      let d := (d.setFld F.CHN_RUNCNT_RUNS c.runs).setFld F.CHN_STEP_WAIT (d.waitBits slot c)
      let d := match c.step with
        | none => d
        | some st =>
          let d := (d.setFld F.CHN_STEP_STEP st.tag.step).setFld F.CHN_STEP_ATTEMPT st.tag.attempt
          let d := (d.setFlag F.CHN_STEP_ACTIVE true).setFlag F.CHN_STEP_WAITING (st.phase == StepPhase.waiting)
          (d.setFld F.CHN_STEP_PORTCH st.tag.portch).setFld F.CHN_REMAIN_REMAIN (min 0xFFFFFFFF (st.deadline - d.time))
      let d := (d.setReg R.CHN_LAST c.last).setFld F.CHN_CNT0_OK c.ok
      let d := ((d.setFld F.CHN_CNT0_FAILED c.failed).setFld F.CHN_CNT1_RETRIES c.retries).setFld F.CHN_CNT1_DEADLINES c.deadlines
      d.setFld F.CHN_WAITT_WAIT_US (min 0xFFFFFFFF c.waitUs)

/-- CHN_HSEL written (R319): 0x80B–0x80C alone are refreshed. -/
def Dev.chnHselect (d : Dev) (entry : Nat) : Dev := d.showEntry d.selHistory entry

end Sys2Proof.Machine
end

