-- ==== Sys2Proof/Machine/Vault.lean ====
section
/-!
DEFINITION. The Vault (Chapter 13): derivation, wrapped keys, sessions, re-arming, the generator, and tampers.
-/

namespace Sys2Proof.Machine

open Sys2Proof

/-! ### Slots (R387–R389, R393–R395) -/

/-- The Vault changed. -/
def Dev.onVault (d : Dev) (f : Vault → Vault) : Dev := { d with vault := f d.vault }

/-- A slot written. -/
def Dev.setSlot (d : Dev) (k : Nat) (s : Option KeySlot) : Dev := d.onVault fun v => { v with slots := tableSet 32 none v.slots k s }

/-- The serial number's 8 bytes. -/
def Fuses.serialBytes (f : Fuses) : Bytes := beBytes 8 f.serial

/-- A key derived from ROOT under a label (R387). -/
def Fuses.derive (f : Fuses) (label : Bytes) : Bytes := kdf f.root label f.serialBytes

/-- KS0–KS3 derived, when the root gate is open (R385, R387, R395). -/
def Dev.deriveKeys (d : Dev) (fu : Fuses) : Dev :=
  if !d.gateOpen fu then d
  else
    let put (d : Dev) (k : Nat) (label : Bytes) (purpose : Nat) : Dev :=
      d.setSlot k (some { key := fu.derive label, purpose := purpose, keyId := 0, source := 1 })
    let d := put d 0 [0x49#8, 0x4D#8, 0x41#8, 0x47#8, 0x45#8] 8
    let d := put d 1 [0x54#8, 0x52#8, 0x41#8, 0x4E#8, 0x53#8, 0x50#8, 0x4F#8, 0x52#8, 0x54#8] 16
    let d := put d 2 [0x4A#8, 0x4F#8, 0x55#8, 0x52#8, 0x4E#8, 0x41#8, 0x4C#8] 2
    put d 3 [0x48#8, 0x4F#8, 0x53#8, 0x54#8] 4

/-- Every slot emptied and the session ended (R388, R396, R401). -/
def Dev.emptySlots (d : Dev) : Dev :=
  let d := d.onVault fun v => { v with slots := List.replicate 32 none }
  (d.setFlag F.VLT_SESSION_ACTIVE false).setReg R.HOST_SESSION_CTR 0#32

/-- A key entry's conditions before unwrap (R393). -/
def keyEntryBad (e : Bytes) : Bool :=
  let slot := byteAt e 0
  let p := byteAt e 1
  let w := byteAt e 2
  slot < 8 || slot > 31 || bit p 3 || bit p 1 || nbits p 7 5 != 0 || (bit p 4 && p != 16) || p == 0 || byteAt e 3 != 0 ||
    numAt e 6 2 != 0 || (w != 1 && (w < 8 || w > 31))

/-- A key entry applied (R390, R393): the slot loaded, or the code. `source` is 2 for the KEYS section, 3 for KEY_IMPORT. -/
def Dev.applyKey (d : Dev) (e : Bytes) (source : Nat) : Except Nat Dev :=
  if keyEntryBad e then .error Code.CC_KEYS
  else match d.vault.slots.getD (byteAt e 2) none with
    | none => .error Code.KEY_EMPTY
    | some w =>
      if !bit w.purpose 4 then .error Code.KEY_PURPOSE
      else match keyUnwrap w.key (slice e 8 32) with
        | none => .error Code.UNWRAP_FAIL
        | some t =>
          if slice t 16 8 != slice e 0 2 ++ slice e 4 2 ++ zeros 4 then .error Code.UNWRAP_FAIL
          else .ok (d.setSlot (byteAt e 0) (some { key := t.take 16, purpose := byteAt e 1, keyId := numAt e 4 2, source := source }))

/-- A KEYS body applied entry by entry (R394). -/
def Dev.applyKeys (d : Dev) (body : Bytes) : Except Nat Dev :=
  let n := byteAt body 0
  if body.length = 0 then .ok d
  else if body.length < 16 || n > 32 || body.length != 16 + 40 * n || !zeroAt body 1 15 then .error Code.CC_KEYS
  else (List.range n).foldl (fun (r : Except Nat Dev) k => match r with
    | .ok d => d.applyKey (slice body (16 + 40 * k) 40) 2
    | .error c => .error c) (.ok d)

/-- IMAGE_CMAC of a byte string under KS0 (R390); zeros while KS0 is empty. -/
def Dev.imageCmac (d : Dev) (bs : Bytes) : Bytes :=
  match d.vault.slots.getD 0 none with
  | some k => cmac k.key bs
  | none => zeros 16

/-- CS_KEYS_DIGEST written (R394). -/
def Dev.setDigest (d : Dev) (m : Bytes) : Dev := d.forEach [0, 1, 2, 3] fun d i => d.setCs (0x28 + i) (numAt m (4 * i) 4)

/-- CS_KEYS_DIGEST. -/
def Dev.digest (d : Dev) : Bytes := ([0, 1, 2, 3].map fun i => beBytes 4 (d.csw (0x28 + i))).flatten

/-- The slots rebuilt at a wake (R395); a KEYS body that differs from its digest leaves KS8–KS31 empty and is reported. Log 54 DEDUCED. -/
def Dev.rebuildKeys (d : Dev) (fu : Fuses) (body : Bytes) : Dev :=
  if !d.gateOpen fu then d
  else
    let d := d.deriveKeys fu
    if d.imageCmac body != d.digest then (d.secCode Code.KEYS_MISMATCH).fault9 Code.KEYS_MISMATCH
    else match d.applyKeys body with
      | .ok d' => d'
      | .error _ => d

/-- The key check value of a slot (R389). -/
def Dev.kcv (d : Dev) (k : Nat) : Nat :=
  match d.vault.slots.getD k none with
  | some s => beNat ((aesEnc s.key (zeros 16)).take 3)
  | none => 0

/-- VLT_SLOT_SEL written (R411): the snapshot of a slot. Log 117 DEDUCED. -/
def Dev.slotSelect (d : Dev) (k : Nat) : Dev :=
  let d := ((d.setFld F.VLT_SLOT_SEL_SLOT k).setReg R.VLT_SLOT_INFO 0#32).setFld F.VLT_SLOT_KCV_KCV (d.kcv k)
  match d.vault.slots.getD k none with
  | none => d
  | some s =>
    ((((d.setFlag F.VLT_SLOT_INFO_VALID true).setFld F.VLT_SLOT_INFO_SOURCE s.source).setFld F.VLT_SLOT_INFO_PURPOSE s.purpose).setFld
      F.VLT_SLOT_INFO_KEY_ID s.keyId)

/-! ### Contexts and what an emptied key does to attempts (R391, R401, R404) -/

/-- Every attempt that holds a Vault context and meets a condition ends at its next symbol boundary with a code. -/
def Dev.endContexts (d : Dev) (code : Nat) (hit : Step → Bool) : Dev :=
  d.forEach (d.chans.map (·.1)) fun d slot => match (d.chan? slot).bind (·.step) with
    | some st =>
      if st.phase = .running && st.ctx.isSome && hit st then
        let d := match st.chain with
          | some ch => d.abortOn ch
          | none => d
        d.setStep slot { st with frames := [], ctx := none, phase := .ended code }
      else d
    | none => d

/-! ### Commands (R397) -/

/-- A Vault command's outcome, with its security code shown. -/
def Dev.vaultDone (d : Dev) (c : Cmd) (code : Nat) (result : Bytes) : Dev := (d.secCode code).cmdDone c code result

/-- KEY_IMPORT (R393, R397). -/
def Dev.keyImport (d : Dev) : Dev :=
  match d.takeCmd 0x30 with
  | none => d
  | some (c, d) =>
    let slot := byteAt c.payload 0
    if d.mode != Mode.commission || slot < 8 || slot > 31 then d.vaultDone c Code.CC_KEY_STATE []
    else match d.applyKey c.payload 3 with
      | .error e => d.vaultDone c e []
      | .ok d => d.vaultDone c Code.OK (beBytes 3 (d.kcv slot) ++ [0#8])

/-- KEY_CLEAR (R391, R397): the contexts derived from the slot go with it. -/
def Dev.keyClear (d : Dev) : Dev :=
  match d.takeCmd 0x31 with
  | none => d
  | some (c, d) =>
    let slot := byteAt c.payload 0
    if d.mode != Mode.commission || slot < 8 || slot > 31 then d.vaultDone c Code.CC_KEY_STATE []
    else ((d.setSlot slot none).endContexts Code.KEY_EMPTY fun st => st.tag.keyslot % 32 == slot).vaultDone c Code.OK []

/-- SESSION_OPEN (R396, R439, R442). Log 7 DESIGN CHOICE. -/
def Dev.sessionOpen (d : Dev) : Dev :=
  match d.takeCmd 0x32 with
  | none => d
  | some (c, d) =>
    let base := byteAt c.payload 0
    if base = 4 || base > 31 then d.vaultDone c Code.CC_KEY_STATE []
    else match d.vault.slots.getD base none with
      | none => d.vaultDone c Code.KEY_EMPTY []
      | some k =>
        if !bit k.purpose 2 then d.vaultDone c Code.KEY_PURPOSE []
        else if !d.vault.drbgOk then d.vaultDone c Code.DRBG_FAIL []
        else
          let (nonce, d) := d.drbg 8
          let key := kdf k.key [0x53#8, 0x45#8, 0x53#8, 0x53#8, 0x49#8, 0x4F#8, 0x4E#8] (slice c.payload 4 8 ++ nonce)
          let d := d.setSlot 4 (some { key := key, purpose := 4, keyId := 0, source := 1 })
          let d := ((d.setFlag F.VLT_SESSION_ACTIVE true).setFld F.VLT_SESSION_BASE base).setReg R.HOST_SESSION_CTR 0#32
          let d := { d with host := { d.host with alive := none } }.setFlag F.HOST_STAT_ALIVE_ANY true
          d.vaultDone c Code.OK nonce

/-- SESSION_CLOSE (R396). Log 105 DEDUCED. -/
def Dev.sessionClose (d : Dev) : Dev :=
  match d.takeCmd 0x33 with
  | none => d
  | some (c, d) => (((d.setSlot 4 none).setFlag F.VLT_SESSION_ACTIVE false).setReg R.HOST_SESSION_CTR 0#32).vaultDone c Code.OK []

/-- The message M of a re-arm (R407). -/
def Dev.rearmMsg (d : Dev) (fu : Fuses) : Bytes := fu.serialBytes ++ beBytes 4 (d.csw 9) ++ beBytes 4 (d.csw 0x27)

/-- REARM CHALLENGE (R407, R408). -/
def Dev.rearmChallenge (d : Dev) (fu : Fuses) : Dev :=
  match d.takeCmd 0x34 with
  | none => d
  | some (c, d') =>
    if byteAt c.payload 0 != 1 then d
    else if !d'.latched then d'.vaultDone c Code.REARM_DENIED []
    else d'.vaultDone c Code.OK (d'.rearmMsg fu)

/-- Whether a RESPONSE is refused before the checker runs (R408). Log 34 DEDUCED. -/
def Dev.rearmDenied (d : Dev) (fu : Fuses) : Bool :=
  fu.hard || fu.hardBlown || !d.latched || d.attic.sources != 0 || (d.vault.rearmAt.any fun t => decide (d.time < t + 1000000))

/-- REARM RESPONSE (R407, R408): the device, and whether it re-armed. What a re-armed device does next is its restart. -/
def Dev.rearmResponse (d : Dev) (fu : Fuses) : Dev × Bool :=
  match d.takeCmd 0x34 with
  | none => (d, false)
  | some (c, d') =>
    if byteAt c.payload 0 != 2 then (d, false)
    else if d'.rearmDenied fu then
      ((d'.setFld F.VLT_REARM_LAST_CODE Code.REARM_DENIED).vaultDone c Code.REARM_DENIED [], false)
    else
      let d := d'.onVault fun v => { v with rearmAt := some d'.time }
      if cmac (fu.derive [0x52#8, 0x45#8, 0x41#8, 0x52#8, 0x4D#8]) (d.rearmMsg fu) != slice c.payload 4 16 then
        (((d.setFld F.VLT_REARM_LAST_CODE Code.REARM_FAIL).bump F.VLT_REARM_FAILS 1).vaultDone c Code.REARM_FAIL [], false)
      else
        let d := (d.setCs 0x20 0).setCs 0x27 (d.csw 0x27 + 1)
        ((d.setFld F.VLT_REARM_LAST_CODE Code.OK).vaultDone c Code.OK [], true)

/-! ### The generator (R398, R399) -/

/-- A health test fails: the generator stops serving. -/
def Dev.drbgFailed (d : Dev) : Dev :=
  if !d.vault.drbgOk || !d.live then d
  else
    let d := (d.onVault fun v => { v with drbgOk := false }).bump F.VLT_DRBG_HEALTH 1
    (d.secCode Code.DRBG_FAIL).fault9 Code.DRBG_FAIL

/-- The generator instantiated from the noise source (R398), at boot step 4, at a wake, or again later. -/
def Dev.drbgStart (d : Dev) : Dev := (d.onVault fun v => { v with drbgOk := true }).bump F.VLT_DRBG_RESEEDS 1

/-- An attempt to instantiate it again: after a health failure, or after a key-kill (R399, R401). Log 106 DEDUCED. -/
def Dev.drbgRetry (d : Dev) (pass : Bool) : Dev :=
  if d.vault.drbgOk || !(d.live || d.phase == .halted || d.phase == .flushed) then d
  else if pass then d.drbgStart
  else d

/-- A reseed (R398). -/
def Dev.drbgReseed (d : Dev) : Dev := if d.vault.drbgOk then d.bump F.VLT_DRBG_RESEEDS 1 else d

/-! ### Tamper (R400–R405) -/

/-- The generator of the mesh pattern reseeded from the DRBG, which keeps its sequence while that does not serve (R399, R400).
Log 142 DESIGN CHOICE. -/
def Dev.meshReseed (d : Dev) : Dev :=
  if !d.vault.drbgOk then d
  else
    let (b, d) := d.drbg 4
    { d with attic := { d.attic with mesh := beNat b % 2 ^ 31 } }

/-- The sources armed (R400, R403). Log 107 DEDUCED. -/
def Dev.armed (d : Dev) (fu : Fuses) : Nat :=
  if !d.attic.up then 0
  else
    let core := d.phase != .down && d.phase != .watch && d.phase != .waking
    let pins := if d.attic.tamperSet then nbits (byteAt d.attic.tamperCfg 0) 3 0 else 0
    pins + b2n (core && !d.pfail && d.phase != .flushed) * 16 + 32 + b2n core * 64 + 128 + b2n (!fu.debugOff) * 256

/-- The life stage's bit in CS_TAMPER_PEND (R402). -/
def Dev.stage? (d : Dev) : Nat :=
  match d.phase with
  | .down => 16
  | .flushed => 16
  | .booting => 17
  | .failed => 17
  | .halted => 18
  | .watch => 19
  | .waking => 19
  | .running => 20

/-- The wall time written into the counter store (R401). -/
def Dev.setTamperTime (d : Dev) (k ms : Nat) : Dev := (d.setCs k (ms / 2 ^ 32)).setCs (k + 1) ms

/-- A key-kill assertion in the counter store (R401): a fresh one, or further sources while the line is asserted. -/
def Dev.tamperStore (d : Dev) (src : Nat) : Dev :=
  let fresh := d.attic.sources == 0
  let pend := d.csw 0x21
  let w := d.wallAt (if d.phase == .watch || d.phase == .waking || d.phase == .down then d.attic.count else d.time)
  let d := (d.setCs 0x20 (d.csw 0x20 ||| src ||| 2 ^ 31)).setCs 0x21 (pend ||| src ||| 2 ^ d.stage?)
  let d := if fresh then
      let d := (d.setCs 9 (d.csw 9 + 1)).setTamperTime 0x25 w
      if pend = 0 then d.setTamperTime 0x23 w else d
    else d
  { d with attic := { d.attic with sources := d.attic.sources ||| src } }

/-- The TAMPER record asked for, when counts are not yet journalled and none is asked for already (R405): POLICY, and what the
fuses say of the gate, go with the request. Log 93 DEDUCED. -/
def Dev.tamperRecord (d : Dev) (fu : Fuses) : Dev :=
  if d.csw 0x22 < d.csw 9 && !d.jrn.reqs.any (·.fill == .tamper) then
    d.post { ty := 7, fill := .tamper, ticket := .tamper 0, payload := beBytes 1 (b2n fu.hard) ++ beBytes 1 (b2n (fu.rootOk && !fu.hardBlown)) }
  else d

/-- The TAMPER event (R445). -/
def Dev.tamperEvent (d : Dev) (src : Nat) : Dev :=
  d.event 0x0B 0 0 (beBytes 2 src ++ beBytes 1 (nbits (d.csw 0x21) 20 16) ++ [0#8] ++ beBytes 4 (d.csw 9))

/-- What a fresh assertion destroys (R401, R404). Log 105 DEDUCED, 106 DEDUCED. -/
def Dev.keyDestroy (d : Dev) : Dev :=
  let d := d.emptySlots.onVault fun v => { v with drbgOk := false }
  d.endContexts Code.KEY_DESTROYED fun _ => true

/-- The key-kill line asserts, or a further source meets its condition (R401–R403): everything but the fuse and a boot halt.
Log 30 DEDUCED. -/
def Dev.keyKill (d : Dev) (fu : Fuses) (src : Nat) : Dev :=
  let eff := src &&& d.armed fu
  if eff = 0 then d
  else
    let fresh := d.attic.sources == 0
    let p := d.phase
    let d := d.tamperStore eff
    if !fresh then d
    else
      let d := d.keyDestroy
      match p with
      | .running => ((d.tamperEvent eff).tamperRecord fu).settle
      | .watch => if bit (d.fld F.WATCH_CTL_WAKE_EN) 3 then d.registerWake 8 else d
      | .waking => if bit (d.fld F.WATCH_CTL_WAKE_EN) 3 then d.registerWake 8 else d
      | _ => d

/-- The line deasserts (R401). -/
def Dev.keyKillOff (d : Dev) : Dev := { d with attic := { d.attic with sources := 0 } }

/-! ### The region fuses (R248) -/

/-- REGION_BLOW at the head of the queue: the device and the fuses; `ok` is the read-back's verdict. Log 108 DEDUCED. -/
def Dev.regionBlow (d : Dev) (fu : Fuses) (ok : Bool) : Dev × Fuses :=
  match d.takeCmd 0x28 with
  | none => (d, fu)
  | some (c, d) =>
    match regionOf (byteAt c.payload 0) with
    | none => (d.cmdDone c Code.CC_REGION_STATE [], fu)
    | some rec_ =>
      if d.mode != Mode.commission || !regionBlank fu.region || fu.blowTried || !c.mac then (d.cmdDone c Code.CC_REGION_STATE [], fu)
      else if ok then (d.cmdDone c Code.OK [], { fu with region := rec_, blowTried := true })
      else ((d.fault9 Code.FUSE_FAIL).cmdDone c Code.FUSE_FAIL [], { fu with blowTried := true })

end Sys2Proof.Machine
end

