-- ==== Sys2Proof/Machine/Modes.lean ====
section
/-!
DEFINITION. Modes (R64–R79): requests, transitions, the entry into WATCH, and the wake from it.
-/

namespace Sys2Proof.Machine

open Sys2Proof

/-! ### Requests (R68, R69, R87, R95) -/

/-- The MODE event (R445): `cur` is the mode entered, or the target refused. Log 50 DEDUCED. -/
def Dev.modeEvent (d : Dev) (source cur : Nat) : Dev :=
  d.event 2 source 0 (beBytes 1 (d.fld F.SUP_MODE_PREV) ++ beBytes 1 cur ++ beBytes 1 (d.fld F.SUP_MODE_CODE) ++ [0#8] ++
    beBytes 2 (d.fld F.SUP_TRANS_TIME_TIME))

/-- A mode request refused (R68, R76, R82). Log 50 DEDUCED. -/
def Dev.modeRefuse (d : Dev) (r : Refused) (target source : Nat) : Dev :=
  let d := (d.checkEnded r.code).refuse r.code 3 r.step (r.subject.getD R.SUP_MODE) r.need
  ((d.setFld F.SUP_MODE_REQ target).setFld F.SUP_MODE_CODE r.code).modeEvent source target

/-! ### Steps in flight (R71) -/

/-- A channel holds an HF chain. -/
def Dev.ownsHf (d : Dev) (slot : Nat) : Bool := (List.range 4).any fun n => (d.hfc n).owner == some slot

/-- A channel holds a UHF chain. -/
def Dev.ownsUhf (d : Dev) (slot : Nat) : Bool := [0, 1].any fun n => (d.uhfc n).owner == some slot

/-- The fields and HF chains in use exceed what a mode allows: two fields and a spare in LEDGER and SHARED (R64, R67). -/
def Dev.overHf (d : Dev) (mode : Nat) : Bool :=
  decide (d.hfFields > hfFieldLimit mode) ||
    (Mode.strict mode && d.anyHfc && !(List.range 4).any fun n => d.hfHealthy n && !d.hfOn n)

/-- The UHF chains in use exceed what a mode allows: one active chain, or a steered pair (R64, R67). -/
def Dev.overUhf (d : Dev) (mode : Nat) : Bool :=
  Mode.strict mode && (d.uhfc 0).owner.isSome && (d.uhfc 1).owner.isSome && (d.uhfc 0).partner.isNone

/-- A step stopped to be issued again under the target mode, and what its channel holds released. Log 48 DEDUCED. -/
def Dev.stopAgain (d : Dev) (slot : Nat) : Dev :=
  match (d.chan? slot).bind (·.step) with
  | none => d.releaseRun slot
  | some st => match st.phase with
    | .running =>
      let d := match st.chain with
        | some ch => d.abortOn ch
        | none => d
      (d.releaseRun slot).waitAgain slot st
    | _ => (d.releaseRun slot).setStep slot { st with chain := none }

/-- The channel to give way first: idle direct channels, then the lowest PRIO, the later deadline, the higher slot. -/
def Dev.yields (d : Dev) (owns : Nat → Bool) : Option Nat :=
  let own := d.chans.filter fun x => owns x.1
  match own.find? fun x => x.2.step.isNone with
  | some x => some x.1
  | none =>
    let ord (x : Nat × Chan) : Order := match x.2.step with
      | some st => st.order x.1
      | none => ⟨false, 0, 0, x.1⟩
    ((sortBy ord own).getLast?).map (·.1)

/-- Steps stopped until the limits of a mode hold; `fuel` bounds the chains there are. Log 48 DEDUCED. -/
def Dev.yieldHf (d : Dev) (mode : Nat) : Nat → Dev
  | 0 => d
  | f + 1 =>
    if !d.overHf mode then d
    else match d.yields d.ownsHf with
      | none => d
      | some slot => (d.stopAgain slot).yieldHf mode f

/-- As `yieldHf`, for UHF. Log 48 DEDUCED. -/
def Dev.yieldUhf (d : Dev) (mode : Nat) : Nat → Dev
  | 0 => d
  | f + 1 =>
    if !d.overUhf mode then d
    else match d.yields d.ownsUhf with
      | none => d
      | some slot => (d.stopAgain slot).yieldUhf mode f

/-- A step of a channel that the target mode holds, stopped with MODE_ABORT unless its last frame is complete. Log 48 DEDUCED. -/
def Dev.abortForMode (d : Dev) (mode slot : Nat) : Dev :=
  match d.chan? slot with
  | none => d
  | some c => if heldIn c.kind mode then d.stopStep slot Code.MODE_ABORT else d

/-- The frames that stand in the buffers of a step's chains handed over (R22). -/
def Dev.handFrames (d : Dev) (slot : Nat) : Dev :=
  match ((d.chan? slot).bind (·.step)).bind (·.chain) with
  | none => d
  | some ch => d.forEach (d.chainsOf ch) fun d k => (d.frameHandoff k).frameHandoff k

/-- An accepted transition begins (R70, R71): no new step starts, the stopping of steps is ordered, and an image write is aborted by a
request that leaves COMMISSION (R60, R74). Log 48 DEDUCED. -/
def Dev.beginTransition (d : Dev) (target source : Nat) : Dev :=
  let d := { d with trans := some ⟨target, source, d.time⟩, image := if d.mode = Mode.commission then none else d.image }
  let d := d.setFlag F.SUP_MODE_BUSY true
  let d := d.forEach (d.chans.map (·.1)) fun d slot => d.abortForMode target slot
  ((d.yieldHf target 5).yieldUhf target 3).settle

/-- SUP_MODE.REQ written (R68, R69). Log 51 DEDUCED. -/
def Dev.modeRequest (d : Dev) (target : Nat) : Dev :=
  if !d.live then d
  else if d.flag F.SUP_MODE_BUSY then d.refuse Code.CC_MODE_BUSY 3 0 R.SUP_MODE 0
  else if target = d.mode then (d.setFld F.SUP_MODE_REQ target).setFld F.SUP_MODE_CODE 0
  else
    let d := d.drained
    match d.modeRefused target true with
    | some r => d.modeRefuse r target 0
    | none => ((d.checkEnded 0).setFld F.SUP_MODE_REQ target).beginTransition target 0

/-! ### Completion (R70, R72, R77–R79) -/

/-- CUR changes: PREV, TRANS_TIME, BUSY, CODE, and the MODE event. Log 27 DEDUCED, 53 DEDUCED. -/
def Dev.enterMode (d : Dev) (target source start : Nat) : Dev :=
  let d := { (d.setFld F.SUP_MODE_PREV d.mode).setFld F.SUP_MODE_CUR target with trans := none }
  let d := (d.setFld F.SUP_TRANS_TIME_TIME (min 0xFFFF (d.time - start))).setFlag F.SUP_MODE_BUSY false
  (d.setFld F.SUP_MODE_CODE 0).modeEvent source target

/-- The MODE record (R79, R521). -/
def Dev.modeRecord (d : Dev) : Dev :=
  d.post {
    ty := 3, commit := entryCommit d.mode
    payload := beBytes 2 1 ++ beBytes 1 (d.fld F.SUP_MODE_PREV) ++ beBytes 1 d.mode ++ zeros 14 ++
      beBytes 2 (d.fld F.SUP_TRANS_TIME_TIME) }

/-- Steps that waited for the end of the transition get their tags under the mode entered, and wait for grants (R66, R71, R72). In the tag
of a scheduled step that continues, the service engine writes LCLASS under the mode entered (R17), also where a chain carries the tag.
Log 48 DEDUCED, 56 DEDUCED. -/
def Dev.retag (d : Dev) : Dev :=
  let strict := Mode.strict d.mode
  let upd (x : Nat × Chan) : Nat × Chan :=
    match x.2.step with
    | some st =>
      let tag : FrameTag := { st.tag with lclass := !x.2.direct && strict }
      if st.phase = .held then
        let tag : FrameTag := if x.2.direct then tag else { tag with jpol := jpolIn d.mode (d.plan x.2.plan).jpol }
        (x.1, { x.2 with step := some { st with tag := tag, phase := .waiting, waitFrom := d.time } })
      else (x.1, { x.2 with step := some { st with tag := tag } })
    | none => x
  let d := { d with chans := d.chans.map upd }
  let d := d.forEach (List.range 4) fun d n => d.onHf n fun h =>
    { h with att := h.att.map fun a => { a with tag := { a.tag with lclass := a.sched && strict } } }
  d.forEach [0, 1] fun d n => d.onUhf n fun u =>
    { u with att := u.att.map fun a => { a with tag := { a.tag with lclass := a.sched && strict } } }

/-- Carriers that are on and that the mode entered gates without a grant, or with a window open, are cut as on a withdrawal (R262,
R265, R267). Log 55 DEDUCED. -/
def Dev.gateCarriers (d : Dev) : Dev :=
  d.forEach [0, 1] fun d n =>
    if d.uhfOn n && (d.uhfc n).master then
      let ports := (d.uhfc n).port.toList ++ (d.uhfPairPort n).toList
      if d.ungranted n then d.preempt n
      else if d.windowOpen then d.cutForWindow n
      else (ports.foldl (fun d p => d.coexRequest p (((d.uhfc n).att.map (·.tag.lclass)).getD false)) d).coexPri
    else d

/-- What the mode entered sets going: spare and standby, the steps and runs that waited for it, the full state (R67, R77, R78, R375).
Log 55 DEDUCED, 59 DEDUCED. -/
def Dev.modeSettled (d : Dev) : Dev :=
  let d := (d.respare.restandby).gateCarriers
  let d := d.retag.checkFull
  (d.forEach (d.chans.map (·.1)) Dev.releaseHeld).settle

/-! ### Entry into WATCH (R73, R270–R273) -/

/-- Every waiting record built; `fuel` bounds their number. -/
def Dev.buildAll (d : Dev) : Nat → Dev
  | 0 => d
  | f + 1 => if d.jrn.reqs.isEmpty || !d.canBuild then d else d.buildNext.buildAll f

/-- Nothing is left to program. -/
def Dev.jrnQuiet (d : Dev) : Bool :=
  d.jrn.reqs.isEmpty && d.jrn.held.isNone && d.undurable == 0 &&
    d.jrn.devs.all fun x => x.prog.isNone && x.opens.all (·.seqs.isEmpty)

/-- One round of programming on a device: an erase and a program in flight end, and its open pages close. Log 52 DEDUCED. -/
def Dev.programDev (bad : BitVec 4) (d : Dev) (n : Nat) : Dev :=
  let d := match (d.nd n).erasing with
    | some b => d.erasePassed n b
    | none => d
  let d := match (d.nd n).prog with
    | some p => if bad.getLsbD n then d.progFailed n p else d.progPassed n p
    | none => d
  d.onNd n fun x => { x with opens := x.opens.map fun o => { o with closed := o.closed || !o.seqs.isEmpty } }

/-- The Larder and every open page programmed (R73); a program that fails on a device named by `bad` is done again elsewhere (R374).
`fuel` bounds the rounds. -/
def Dev.programAll (d : Dev) (bad : BitVec 4) : Nat → Dev
  | 0 => d
  | f + 1 =>
    let d := d.enterHeld.buildAll (d.jrn.reqs.length + 1)
    if d.jrnQuiet then d
    else
      let tried : BitVec 4 := BitVec.ofNat 4 (((List.range 4).filter fun n => (d.nd n).prog.isSome).foldl (fun a n => a + 2 ^ n) 0)
      let d := (d.forEach (List.range 4) (Dev.programDev bad)).pump
      d.programAll (bad &&& ~~~tried) f

/-- The flush at entry to WATCH: what ends a step asks for further records, so it goes round while steps end. Log 52 DEDUCED. -/
def Dev.watchFlush (d : Dev) (bad : BitVec 4) : Dev :=
  if !d.journalling then d
  else
    let fuel := 4 * (d.undurable + d.jrn.reqs.length + 16)
    let d := ((d.programAll bad fuel).settle).programAll 0 fuel
    let d := (d.settle).programAll 0 fuel
    let d := (d.onJrn fun j => { j with batch := [], staged := [] }).setFlag F.JRN_STAT_BATCH false
    (d.setFld F.HOST_JRN_STAGED_STAGED 0).setCs 7 (d.csw 7 / 2 * 2 + b2n d.jrnQuiet)

/-- INIT of a pin (R342): the level of an OUTPUT, the inactive level of a STRIKE. Log 103 DEDUCED. -/
def Dev.pinIdle (d : Dev) (pin : Nat) : Bool := bit (byteAt d.tables.gpio (17 + 8 * pin)) 0

/-- Every strike ends with its pin inactive (R343). -/
def Dev.strikesOff (d : Dev) : Dev :=
  let d := d.strikes.foldl (fun d (s : Strike) =>
    (d.setFlag ⟨R.GPIO_OUT, s.pin, s.pin⟩ (d.pinIdle s.pin)).setFlag ⟨R.GPIO_STRIKE, s.pin, s.pin⟩ false) d
  { d with strikes := [] }

/-- Every field and carrier off, every chain given up; UHF chains go OFF. -/
def Dev.radiosOff (d : Dev) : Dev :=
  let d := d.forEach (List.range 4) fun d n => if d.hfOn n then d.hfFieldOff n else d
  d.forEach [0, 1] fun d n => (d.uhfDrop n).toOff n

/-- At entry to WATCH a sensed port whose baseline was learned under other values, or that has none, learns a new one from its first pulse on
(R273), and no candidate is open. -/
def Dev.keepBases (d : Dev) (pulser : Nat) : Dev :=
  let upd (x : SensePort × Nat) : SensePort :=
    let p := { x.1 with learn := [], cand := none }
    if bit (d.fld F.WATCH_CTL_PORT_EN) x.2 then p.keep (d.senseKey x.2 pulser) else p
  (d.onAttic fun a => { a with ports := (a.ports.zip (List.range a.ports.length)).map upd }).showBases

/-- The main domains power down (R270–R273, R396, R400, R443, R493): the Attic's sequencer starts at tick 0 with the pulser it keeps.
Log 52 DEDUCED. -/
def Dev.powerDown (d : Dev) : Dev :=
  let d := d.meshReseed.radiosOff.strikesOff.emptySlots.onVault fun v => { v with drbgOk := false }
  let pulser := ((List.range 4).find? fun n => !d.flag (F.HFCn_STAT_FAULT n)).getD 0
  let d := (d.keepBases pulser).onAttic fun a => { a with tick := 0, entry := a.count, pulser := pulser, wakeCause := 0 }
  { d with phase := .watch, refout := false, flt := [], host := { d.host with ring := [], miso := [], pairs := [] } }

/-- A transition completes (R70): `us` is its time from the reference, `flush` names the devices whose flush program passes.
Log 52 DEDUCED. -/
def Dev.transitionComplete (d : Dev) (us : Nat) (flush : BitVec 4) : Dev :=
  match d.trans with
  | none => d
  | some t =>
    if !d.live then d
    else
      let d := (d.reach (t.start + us)).drained
      let d := d.forEach (d.chans.map (·.1)) fun d slot =>
        match d.chan? slot with
        | some c => if heldIn c.kind t.target then ((d.abortForMode t.target slot).handFrames slot).attemptEnd slot else d
        | none => d
      let d := if d.mode = Mode.commission then { d with image := none } else d
      if t.target = Mode.watch then
        let d := (d.watchFlush (~~~flush)).enterMode t.target t.source t.start
        ((d.modeRecord.forEach (d.chans.map (·.1)) Dev.releaseHeld).watchFlush 0).powerDown
      else (d.enterMode t.target t.source t.start).modeRecord.modeSettled

/-! ### The wake (R75, R76, R239, R255, R279, R284, R331, R395, R453, R460) -/

/-- What was powered down in WATCH starts again: DRBG, keys, timers, contexts, census, hopping, UHF chains and their calibration.
Log 54 DEDUCED. -/
def Dev.powerUp (d : Dev) (fu : Fuses) (keys : Bytes) : Dev :=
  let d := { d with phase := .running, refout := true, time := d.attic.count, host := { d.host with alive := none } }.drbgStart
  let d := ((d.rebuildKeys fu keys).timersRestart.cvReset.censusReset).firstPerm
  let d := { d with tables := { d.tables with slopes := [] } }.forEach (List.range 16) fun d p => d.setFld (F.HFPn_TUNE_FRES_KHZ p) 0
  d.forEach [0, 1] fun d n =>
    let d := (d.onUhf n fun u => { u with cal := [] }).showCal n
    if d.flag (F.UHFCn_CTL_ENABLE n) && !d.flag (F.UHFCn_STAT_FAULT n) then d.setUst n Ust.standby else d

/-- A wake completes (R75): the target's check, CUR, the TAMPER record before the WAKE record, the log, and the runs that waited.
Log 53 DEDUCED. -/
def Dev.wakeComplete (d : Dev) (fu : Fuses) (keys : Bytes) (us : Nat) : Dev :=
  if d.phase != .waking then d
  else
    let a := d.attic
    let d := d.tick (a.wakeFrom + us - a.count)
    let d := d.powerUp fu keys
    let log := d.attic.log
    let target := a.wakeTarget
    let d := (d.setFld F.WATCH_WAKE_CAUSE d.attic.wakeCause).setFld F.WATCH_WAKE_TARGET target
    let old := d.mode
    let took := min 0xFFFF (d.time - a.wakeFrom)
    let d := match d.modeRefused target a.wakeHost with
      | none => ((d.checkEnded 0).setFld F.SUP_MODE_REQ target).enterMode target 2 a.wakeFrom
      | some r =>
        let d := (d.setFld F.SUP_MODE_PREV old).setFld F.SUP_MODE_CUR Mode.commission
        (d.setFld F.SUP_TRANS_TIME_TIME took).modeRefuse r target 2
    let d := (d.tamperRecord fu).wakeRecords d.attic.wakeCause target d.mode a.wakeWall
    let d := log.foldl (fun d e => d.triggerAccess e.port e.dir) d
    let d := d.onAttic fun a => { a with wakeCause := 0 }
    d.modeSettled

end Sys2Proof.Machine
end

