-- ==== Sys2Proof/Machine/Image.lean ====
section
/-!
DEFINITION. The Agloth image (R46–R56): slots in the NOR flash, headers and section tables, and the application of each section with
the checks its home chapter gives.
-/

namespace Sys2Proof.Machine

open Sys2Proof

/-! ### Slots and headers (R46, R47, R50, R52) -/

/-- The NOR offset of a slot. -/
def slotBase : Slot → Nat
  | .a => 0
  | .b => 0x1000000

/-- The other slot. -/
def slotOther : Slot → Slot
  | .a => .b
  | .b => .a

/-- Image bytes of a slot. -/
def slotBytes (nor : Mem) (s : Slot) (off n : Nat) : Bytes := Mem.readN nor (slotBase s + off) n

/-- The header of a slot. -/
def headerOf (nor : Mem) (s : Slot) : Bytes := slotBytes nor s 0 256

/-- IMAGE_LEN. -/
def hdrLen (h : Bytes) : Nat := numAt h 8 4
/-- SEQUENCE. -/
def hdrSeq (h : Bytes) : Nat := numAt h 12 4
/-- START_MODE. -/
def hdrStart (h : Bytes) : Nat := byteAt h 20
/-- SECTION_COUNT. -/
def hdrCount (h : Bytes) : Nat := byteAt h 21

/-- An entry of the section table (R52). -/
structure SecEntry where
  ty : Nat
  version : Nat
  reserved : Nat
  offset : Nat
  length : Nat
  crc : Nat
  deriving DecidableEq, Repr

/-- The entries of a section table. -/
def secEntries (table : Bytes) (n : Nat) : List SecEntry :=
  (List.range n).map fun k =>
    let b := slice table (16 * k) 16
    { ty := byteAt b 0, version := byteAt b 1, reserved := numAt b 2 2, offset := numAt b 4 4, length := numAt b 8 4
      crc := numAt b 12 4 }

/-- The section types in the order of application (R53). -/
def secOrder : List Nat := [0x01, 0x04, 0x02, 0x03, 0x08, 0x09, 0x0A, 0x0B, 0x05, 0x06, 0x07, 0x0C]

/-- Two entries overlap. -/
def secOverlap (a b : SecEntry) : Bool :=
  a.length != 0 && b.length != 0 && decide (a.offset < b.offset + b.length) && decide (b.offset < a.offset + a.length)

/-- A table that breaks its row of R46 or the layout of R52. -/
def tableBad (h table : Bytes) : Bool :=
  let es := secEntries table (hdrCount h)
  crc32 table != numAt h 68 4 ||
  es.any (fun e => decide (e.offset + e.length > hdrLen h) || e.offset % 16 != 0 || decide (e.offset < 256 + 16 * hdrCount h) ||
    !secOrder.contains e.ty || e.reserved != 0 || (e.length == 0 && (e.ty == 0x01 || e.ty == 0x0C))) ||
  (List.range es.length).any (fun i => (List.range i).any fun j => match es[i]?, es[j]? with
    | some a, some b => a.ty == b.ty || secOverlap a b
    | _, _ => false) ||
  !es.any (·.ty == 0x01) || !es.any (·.ty == 0x0C)

/-- The header bytes that R50 reserves. -/
def hdrReservedBad (h : Bytes) : Bool :=
  !zeroAt h 6 7 || !zeroAt h 22 23 || !zeroAt h 34 35 || !zeroAt h 72 223 || !zeroAt h 240 251 || nbits (numAt h 16 4) 31 1 != 0

/-- The code of the first row of R46 that a header fails; 0 for a valid one. `signed` leaves out the rows on SEQUENCE and SIGNED when
an image is judged before it is signed (R58). -/
def headerCode (h table : Bytes) (signed : Bool) : Nat :=
  firstCode [
    (numAt h 0 4 != 0x41474C31 || numAt h 4 2 != 1, Code.CC_IMAGE_FORMAT),
    (crc32 (h.take 252) != numAt h 252 4, Code.CC_IMAGE_FORMAT),
    (signed && (hdrSeq h == 0 || hdrSeq h == 0xFFFFFFFF), Code.CC_IMAGE_FORMAT),
    (signed && !bit (numAt h 16 4) 0, Code.IMAGE_AUTH_FAIL),
    (hdrReservedBad h, Code.CC_IMAGE_FORMAT),
    (hdrLen h < 0x110 || hdrLen h > 0x1000000 || hdrCount h < 1 || hdrCount h > 12, Code.CC_IMAGE_FORMAT),
    (tableBad h table, Code.CC_IMAGE_FORMAT),
    (numAt h 24 2 != 0x4816 || byteAt h 26 != 0 || byteAt h 27 > 0xA1, Code.CC_IMAGE_TARGET)]

/-- The section table of a slot. -/
def tableOf (nor : Mem) (s : Slot) (h : Bytes) : Bytes := slotBytes nor s 256 (16 * min (hdrCount h) 12)

/-- The verdict on a slot's header. -/
def slotCode (nor : Mem) (s : Slot) : Nat := let h := headerOf nor s; headerCode h (tableOf nor s h) true

/-- The entries of a slot whose header is valid. -/
def slotSections (nor : Mem) (s : Slot) : List SecEntry := let h := headerOf nor s; secEntries (tableOf nor s h) (hdrCount h)

/-- The body of a section of a slot; no bytes where it is absent or of LENGTH 0 (R52). -/
def sectionBody (nor : Mem) (s : Slot) (ty : Nat) : Bytes :=
  match (slotSections nor s).find? (·.ty == ty) with
  | some e => slotBytes nor s e.offset e.length
  | none => []

/-- A section's CRC fails. -/
def sectionCrcBad (nor : Mem) (s : Slot) (e : SecEntry) : Bool := crc32 (slotBytes nor s e.offset e.length) != e.crc

/-- The message of IMAGE_CMAC (R51). -/
def cmacMessage (h : Bytes) (nor : Mem) (s : Slot) : Bytes := h.take 224 ++ slotBytes nor s 256 (hdrLen h - 256)

/-- Step 6 (R49): the section CRCs, then the CMAC; 0 where the slot passes. A read of the NOR flash never fails here.
Log 124 DESIGN CHOICE. -/
def Dev.verifySlot (d : Dev) (nor : Mem) (s : Slot) : Nat :=
  let h := headerOf nor s
  firstCode [
    ((slotSections nor s).any (sectionCrcBad nor s), Code.CC_IMAGE_SECTION_CRC),
    ((d.vault.slots.getD 0 none).isNone || d.imageCmac (cmacMessage h nor s) != slice h 224 16, Code.IMAGE_AUTH_FAIL)]

/-! ### Sections (R54) -/

/-- A section applied: the device, or the device with the refusal; what the refused slot did to the Attic and the memories stands. -/
abbrev Applied := Except (Dev × Refused) Dev

/-- The first refusal of a list of conditions, else the section's effect; `need` is the value that CC_DIRECT_QUOTA reports (R96). -/
def applyIf (l : List (Bool × Nat)) (d : Dev) (need : Nat := 0) : Applied :=
  let c := firstCode l
  if c = 0 then .ok d else .error (d, { code := c, need := if c = Code.CC_DIRECT_QUOTA then need else 0 })

/-- SUP_CHECK after the check of a section or of the start mode (R82, R86, R96). Log 26 DEDUCED. -/
def Applied.judged (a : Applied) : Applied :=
  match a with
  | .ok d => .ok (d.checkEnded 0)
  | .error (d, r) => .error (d.checkEnded r.code, r)

/-- A step of an application that follows others. -/
def Applied.andThen (a : Applied) (f : Dev → Applied) : Applied :=
  match a with
  | .ok d => f d
  | .error e => .error e

/-- A step done for each element of a list, up to the first refusal. -/
def Applied.each {α : Type} (a : Applied) (l : List α) (f : Dev → α → Applied) : Applied :=
  l.foldl (fun a x => a.andThen fun d => f d x) a

/-- An enable that a section sets (R82, source 0x4). -/
def Dev.imageEnable (d : Dev) (e : Enable) : Applied :=
  let c := d.enableCode e
  if c = 0 then .ok (d.enableOn e) else .error (d, { code := c, subject := some (enableFld e).addr })

/-- A register image of a section. -/
def imageReg (b : Bytes) (off : Nat) : Word := BitVec.ofNat 32 (numAt b off 4)

/-- A register image with a bit set that the register reserves. Log 36 DEDUCED. -/
def imageReserved (a : Nat) (w : Word) : Bool := (w &&& ~~~((accessOf a).rw ||| (accessOf a).wo)) != 0#32

/-- The writable bits of a register image put in force. -/
def Dev.loadImage (d : Dev) (a : Nat) (w : Word) : Dev :=
  d.setReg a ((d.reg a &&& ~~~ (accessOf a).rw) ||| (w &&& (accessOf a).rw))

/-! #### DEVICE (R93, R94, R285, R286, R410, R436, R437) -/

/-- The WATCH registers that a WATCH_CONFIG loads. -/
def watchImages (w : Bytes) : List (Nat × Word) :=
  [(R.WATCH_CTL, BitVec.ofNat 32 (byteAt w 3 % 16 * 2 ^ 24 + byteAt w 4 % 16 * 2 ^ 20 + byteAt w 2 % 16 * 2 ^ 16 + numAt w 0 2)),
    (R.WATCH_PULSE, BitVec.ofNat 32 (numAt w 6 2 * 2 ^ 16)), (R.WATCH_THR, imageReg w 8), (R.WATCH_TIMER, imageReg w 12),
    (R.WATCH_PERIODk 0, imageReg w 16), (R.WATCH_PERIODk 1, imageReg w 20), (R.WATCH_PERIODk 2, imageReg w 24),
    (R.WATCH_PERIODk 3, imageReg w 28)]

/-- A WATCH_CONFIG that R286 refuses. -/
def watchConfigBad (allow : Nat) (w : Bytes) : Bool :=
  nbits (byteAt w 2) 7 4 != 0 || byteAt w 3 > 5 || nbits (byteAt w 4) 7 4 != 0 || byteAt w 5 != 0 || !zeroAt w 32 63 ||
    (watchImages w).any (fun x => watchBad allow x.1 x.2) ||
    (List.range 16).any fun n => let p := byteAt w (16 + n); if bit (numAt w 0 2) n then p < 1 || p > 200 else p != 0

/-- A TAMPER_CONFIG that R410 refuses. -/
def tamperConfigBad (t : Bytes) : Bool :=
  let en := byteAt t 0
  let mesh := byteAt t 1
  (List.range 6).any (fun i => nbits (byteAt t i) 7 4 != 0) || !zeroAt t 6 63 || (byteAt t 5 == 0 && (en &&& (15 - mesh % 16)) != 0) ||
    (List.range 4).any fun n => bit en n && bit mesh n && !bit (byteAt t 4) (if bit (byteAt t 3) n then 1 else 0)

/-- The host port's receive unit, if HOST_OPTIONS uses one. -/
def optRx (o : Bytes) : Option Nat := if bit (byteAt o 0) 0 || bit (byteAt o 0) 2 then some (nbits (byteAt o 1) 2 0) else none
/-- The host port's transmit unit, if HOST_OPTIONS uses one. -/
def optTx (o : Bytes) : Option Nat := if bit (byteAt o 0) 1 then some (nbits (byteAt o 1) 6 4) else none

/-- HOST_OPTIONS that R437 refuses by themselves. -/
def hostOptionsBad (o : Bytes) : Bool :=
  nbits (byteAt o 0) 7 4 != 0 || bit (byteAt o 1) 3 || bit (byteAt o 1) 7 || nbits (byteAt o 2) 7 4 != 0 ||
    nbits (byteAt o 3) 7 5 != 0 || bit (byteAt o 5) 0 || nbits (numAt o 4 2) 15 12 != 0 || !zeroAt o 6 31 ||
    nbits (byteAt o 1) 2 0 > 5 || nbits (byteAt o 1) 6 4 > 5 || ((optRx o).isSome && optRx o == optTx o)

/-- Wall time set to `ms` as of device time `tr` (R30, R31, R468), with TIME_STAT; `src` is LAST_SRC (R473). Log 22 DEDUCED. -/
def Dev.setWall (d : Dev) (src tr ms : Nat) : Dev :=
  ((d.onAttic fun a => { a with offset := (ms : Int) * 1000 - tr, wallSet := true, rcSpan := !a.crystal }).setFld
    F.TIME_STAT_LAST_SRC src).bump F.TIME_STAT_SETS 1

/-- The DEVICE section. Log 35 DEDUCED. -/
def Dev.applyDevice (d : Dev) (b : Bytes) : Applied :=
  let allow := nbits (numAt b 2 2) 5 0
  let w := slice b 64 64
  (applyIf [
    (b.length != 256 || nbits (numAt b 2 2) 15 6 != 0 || nbits (byteAt b 4) 7 1 != 0 || !zeroAt b 5 7 || !zeroAt b 14 31 ||
      !zeroAt b 192 255, Code.CC_IMAGE_FORMAT),
    (byteAt b 1 < 2 || byteAt b 1 > 5, Code.CC_MODE_INVALID),
    (byteAt b 0 > 50, Code.CC_DIRECT_QUOTA),
    (watchConfigBad allow w, Code.CC_WATCH_CONFIG),
    (tamperConfigBad (slice b 128 64), Code.CC_TAMPER_CONFIG),
    (hostOptionsBad (slice b 32 32), Code.CC_HOST_OPTIONS)] d (byteAt b 0)).andThen fun d =>
    let d := (d.setFld F.SUP_DIRECT_QUOTA_QUOTA (byteAt b 0)).setFld F.SUP_MODE_ALLOW_ALLOW allow
    let d := { d with tables := { d.tables with wakeMode := byteAt b 1 }, host := { d.host with opts := slice b 32 32 } }
    let d := (watchImages w).foldl (fun d (x : Nat × Word) => d.loadImage x.1 x.2) d
    let d := d.onAttic fun a => { a with tamperCfg := slice b 128 64, tamperSet := true }
    .ok (if bit (byteAt b 4) 0 && !d.attic.wallSet then d.setWall 2 d.time (numAt b 8 6) else d)

/-! #### REGULATORY_TIGHTEN (R250, R266) -/

/-- The coexistence registers in the order of bytes 64–99. -/
def coexRegs : List Nat :=
  [R.COEX_CFG, R.COEX_PWk_CFG 0, R.COEX_PWk_WIN 0, R.COEX_PWk_CFG 1, R.COEX_PWk_WIN 1, R.COEX_PWk_CFG 2, R.COEX_PWk_WIN 2,
    R.COEX_PWk_CFG 3, R.COEX_PWk_WIN 3]

/-- The register images of bytes 64–99. -/
def coexImages (b : Bytes) : List (Nat × Word) := (coexRegs.zip (List.range 9)).map fun x => (x.1, imageReg b (64 + 4 * x.2))

/-- The lead times of COEX_CFG above 500 are stored as 500 (R262). -/
def Dev.clampLeads (d : Dev) : Dev :=
  (d.setFld F.COEX_CFG_LEAD_A (min 500 (d.fld F.COEX_CFG_LEAD_A))).setFld F.COEX_CFG_LEAD_B (min 500 (d.fld F.COEX_CFG_LEAD_B))

/-- The REGULATORY_TIGHTEN section. -/
def Dev.applyTighten (d : Dev) (b : Bytes) : Applied :=
  let fused := fusedLimits d.gov.region
  let win (k : Nat) : Bool :=
    let cfg := imageReg b (68 + 8 * k)
    cfg.getLsbD 31 && d.windowBad cfg (imageReg b (72 + 8 * k))
  (applyIf [
    (b.length != 128 || byteAt b 15 != 0 || !zeroAt b 32 63 || !zeroAt b 100 127, Code.CC_IMAGE_FORMAT),
    (tightenLooser fused b, Code.CC_REG_LOOSEN),
    ((coexImages b).any (fun x => imageReserved x.1 x.2) || [0, 1, 2, 3].any win, Code.CC_COEX_CONFIG)] d).andThen fun d =>
    .ok ((coexImages b).foldl (fun d (x : Nat × Word) => d.loadImage x.1 x.2)
      (d.setCeilings d.gov.region (tighten fused b))).clampLeads

/-! #### PORTS (R109–R111, R119, R178, R179) -/

/-- A binding's layout is refused. -/
def bindingBad (e : Bytes) : Bool :=
  nbits (byteAt e 0) 6 4 != 0 || (bit (byteAt e 0) 7 && bit (byteAt e 0) 3) || byteAt e 1 > 31 || nbits (byteAt e 2) 7 1 != 0 ||
    byteAt e 3 != 0

/-- A binding put in force, without its enable. -/
def Dev.bindPort (d : Dev) (e : Bytes) : Dev :=
  let n := nbits (byteAt e 0) 3 0
  if bit (byteAt e 0) 7 then d.setFld (F.UHFPn_CFG_PROFILE n) (byteAt e 1) else d.setFld (F.HFPn_CFG_PROFILE n) (byteAt e 1)

/-- The PORTS section, in the order of R111. -/
def Dev.applyPorts (d : Dev) (b : Bytes) : Applied :=
  let np := byteAt b 0
  let nb := byteAt b 1
  let ns := byteAt b 2
  let profs := (List.range np).map fun k => slice b (16 + 48 * k) 48
  let binds := (List.range nb).map fun k => slice b (16 + 48 * np + 4 * k) 4
  let sets := (List.range ns).map fun k => slice b (16 + 48 * np + 4 * nb + 64 * k) 64
  let members := sets.flatMap setPorts
  (applyIf [
    (np < 1 || np > 32 || nb > 24 || ns > 16 || b.length != 16 + 48 * np + 4 * nb + 64 * ns || nbits (byteAt b 3) 7 4 != 0 ||
      !zeroAt b 4 15 || binds.any bindingBad || !(binds.map fun e => byteAt e 0).Nodup, Code.CC_IMAGE_FORMAT),
    (profs.any (fun p => !profUhf p && profBad p), Code.CC_HF_PROFILE),
    (sets.any setBad || !members.Nodup, Code.CC_HF_SET),
    (profs.any (fun p => profUhf p && profBad p), Code.CC_UHF_PROFILE)] d).andThen fun d =>
    let d := { d with tables := { d.tables with profiles := profs ++ List.replicate (32 - np) (zeros 48), sets := sets } }
    let d := binds.foldl Dev.bindPort d
    Applied.each (Applied.each (.ok d) ((List.range 4).filter fun n => bit (byteAt b 3) n) fun d n => d.imageEnable (.hfc n))
      (binds.filter fun e => bit (byteAt e 2) 0) fun d e =>
        d.imageEnable (if bit (byteAt e 0) 7 then .uhfp (nbits (byteAt e 0) 3 0) else .hfp (nbits (byteAt e 0) 3 0))

/-! #### RADIO (R208, R244) -/

/-- A chain block out of range. Log 39 DEDUCED. -/
def chainBlockBad (c : Bytes) : Bool :=
  let pa := bit (byteAt c 0) 0
  nbits (byteAt c 0) 7 2 != 0 || nbits (byteAt c 1) 7 1 != 0 || (byteAt c 2 > 21 && byteAt c 2 != 0xFF) ||
    (pa && byteAt c 4 == 0) || (!pa && byteAt c 4 != 0) || (pa && numAt c 6 2 == 0) || numAt c 10 2 > 400 || numAt c 12 2 > 400 ||
    byteAt c 14 > 120

/-- The antenna-select pins of a chain block. Log 39 DEDUCED. -/
def antselPins (c : Bytes) : List Nat := if byteAt c 2 > 21 then [] else [byteAt c 2, byteAt c 2 + 1, byteAt c 2 + 2]

/-- A Select entry out of range (R244). -/
def selEntryBad (e : Bytes) : Bool :=
  let bank := nbits (byteAt e 0) 1 0
  nbits (byteAt e 0) 7 5 > 4 || bank == 0 || (bit (byteAt e 1) 7 && bank != 1) || nbits (byteAt e 1) 6 0 != 0 ||
    numAt e 4 4 > 0x00FFFFFF || byteAt e 8 > 160 ||
    (List.range 160).any fun i => decide (i ≥ byteAt e 8) && tbit (slice e 12 20) i

/-- The RADIO section; `gpio` is the GPIO section of the same image, where a FUNC of OUTPUT or STRIKE claims a pin (R208). A body of exactly
256 bytes carries no air-protocol block. Log 38 DEDUCED, 39 DEDUCED. -/
def Dev.applyRadio (d : Dev) (b : Bytes) (gpio : Bytes := []) : Applied :=
  let blocks := [slice b 16 64, slice b 80 64]
  let air := b.drop 256
  let has := !air.isEmpty
  let ns := byteAt air 3
  let sels := (List.range ns).map fun k => slice air (64 + 32 * k) 32
  let external := d.tables.profiles.any fun p => profValid p && profUhf p && profRoute p != 0 &&
    (antselPins (blocks.getD (profChain p) [])).isEmpty
  let claimed := (blocks.flatMap antselPins).any fun n => byteAt gpio (16 + 8 * n) = 1 || byteAt gpio (16 + 8 * n) = 2
  (applyIf [
    (b.length < 256 || b.length > 8192 || nbits (byteAt b 0) 7 2 != 0 || !zeroAt b 1 15 || !zeroAt b 144 255 ||
      blocks.any (fun c => byteAt c 5 != 0 || !zeroAt c 15 63) ||
      (has && (decide (air.length < 64 + 32 * min ns 64) || nbits (byteAt air 2) 7 1 != 0 || !zeroAt air 4 63 ||
        (ns ≤ 64 && !allZero (air.drop (64 + 32 * ns))) || sels.any (fun e => !zeroAt e 2 3 || !zeroAt e 9 11))), Code.CC_IMAGE_FORMAT),
    (blocks.any chainBlockBad || external || claimed || !(blocks.flatMap antselPins).Nodup, Code.CC_UHF_PROFILE),
    (has && (ns > 64 || (byteAt air 0 != 0 && (byteAt air 0 < 3 || byteAt air 0 > 15)) || byteAt air 1 == 0 || sels.any selEntryBad),
      Code.CC_UHF_STEP)] d).andThen fun d =>
    let d := { d with tables := { d.tables with radio := blocks, air := if has then air else zeros 64 } }
    let d := d.forEach [0, 1] fun d n =>
      let d := d.setFlag (F.UHFCn_SYN_CFG_CAL_POLICY n) (bit (byteAt (blocks.getD n []) 1) 0)
      if has then d.setFld (F.UHFCn_AIRCFG_CAPTURE_MARGIN n) (if byteAt air 0 = 0 then 6 else byteAt air 0) else d
    Applied.each (.ok d) ([0, 1].filter fun n => bit (byteAt b 0) n) fun d n => d.imageEnable (.uhfc n)

/-! #### KEYS (R394) -/

/-- The KEYS section, with the digest of the body as applied; an absent body gives that of the empty message. -/
def Dev.applyKeysSection (d : Dev) (b : Bytes) : Applied :=
  match d.applyKeys b with
  | .error c => .error (d, { code := c })
  | .ok d => .ok (d.setDigest (d.imageCmac b))

/-! #### CVU and TIMERS (R470–R472) -/

/-- A group written and committed by a section (R54). -/
def Dev.imageCommit (d : Dev) (g : Group) (copy : List (Nat × Word)) : Applied :=
  let c := d.groupCode g copy
  if c = 0 then .ok (copy.foldl (fun d (x : Nat × Word) => d.setReg x.1 x.2) d)
  else .error (d, { code := c, subject := some (groupReg g) })

/-- Entry `n` of the CVU section. A unit that HOST_OPTIONS uses may be enabled for the host port's own stream alone (R437).
Log 36 DEDUCED. -/
def Dev.applyUnit (d : Dev) (b : Bytes) (n : Nat) : Applied :=
  let e := slice b (64 * n) 64
  let cfg := imageReg e 0
  let own := if optRx d.host.opts == some n then 1 else if optTx d.host.opts == some n then 2 else 0
  (d.imageCommit (.cvu (Fin.ofNat 6 n)) [(R.CVUn_ALG n, imageReg e 4)]).andThen fun d =>
    let d := (d.loadImage (R.CVUn_ALIVE_CFG n) (imageReg e 8)).loadImage (R.CVUn_BIND n) (imageReg e 16)
    let d := d.loadImage (R.CVUn_CFG n) (cfg &&& ~~~ maskOf 31 31)
    let d := d.cvuWrite n false (imageReg e 12)
    if !cfg.getLsbD 31 then .ok d
    else
      let reserved := imageReserved (R.CVUn_CFG n) (cfg &&& ~~~ maskOf 31 31) || imageReserved (R.CVUn_ALG n) (imageReg e 4) ||
        imageReserved (R.CVUn_ALIVE_CFG n) (imageReg e 8) || imageReserved (R.CVUn_BIND n) (imageReg e 16)
      let code := firstCode [(d.cvuOrder n, Code.CC_ENABLE_ORDER), (own != 0 && bitsOf cfg 29 26 != own, Code.CC_HOST_OPTIONS),
        (d.cvuBad n || reserved, Code.CC_CVU_CONFIG)]
      if code = 0 then .ok (d.enableOn (.cvu n)) else .error (d, { code := code, subject := some (R.CVUn_CFG n) })

/-- The CVU section. Log 37 DEDUCED. -/
def Dev.applyCvu (d : Dev) (b : Bytes) : Applied :=
  let k := b.length / 64
  (applyIf [(b.length % 64 != 0 || k < 1 || k > 6 || (List.range k).any fun n => !zeroAt b (64 * n + 20) (64 * n + 63),
    Code.CC_IMAGE_FORMAT)] d).each (List.range k) fun d n => d.applyUnit b n

/-- Entry `n` of the TIMERS section. Log 36 DEDUCED. -/
def Dev.applyTimer (d : Dev) (b : Bytes) (n : Nat) : Applied :=
  let e := slice b (128 * n) 128
  let ctl := imageReg e 0
  let d := (d.loadImage (R.TMRn_CMPCFG n) (imageReg e 24)).loadImage (R.TMRn_CAPCFG n) (imageReg e 28)
  (d.imageCommit (.tmr (Fin.ofNat 8 n)) [(R.TMRn_RELOAD n, imageReg e 4), (R.TMRn_CMPk n 0, imageReg e 8), (R.TMRn_CMPk n 1, imageReg e 12),
    (R.TMRn_CMPk n 2, imageReg e 16), (R.TMRn_CMPk n 3, imageReg e 20)]).andThen fun d =>
    let d := d.loadImage (R.TMRn_CTL n) (ctl &&& ~~~ maskOf 31 31)
    if !ctl.getLsbD 31 then .ok d
    else
      let reserved := imageReserved (R.TMRn_CTL n) (ctl &&& ~~~ maskOf 31 31) || imageReserved (R.TMRn_CMPCFG n) (imageReg e 24) ||
        imageReserved (R.TMRn_CAPCFG n) (imageReg e 28)
      if d.enableCode (.tmr n) = 0 && reserved then .error (d, { code := Code.CC_TIMER_CONFIG, subject := some (R.TMRn_CTL n) })
      else d.imageEnable (.tmr n)

/-- The TIMERS section. -/
def Dev.applyTimers (d : Dev) (b : Bytes) : Applied :=
  let k := b.length / 128
  (applyIf [(b.length % 128 != 0 || k < 1 || k > 8 || (List.range k).any fun n => !zeroAt b (128 * n + 32) (128 * n + 127),
    Code.CC_IMAGE_FORMAT)] d).each (List.range k) fun d n => d.applyTimer b n

/-! #### GPIO, OBJECTS, PLANS, CHANNELS, JOURNAL (R318, R320, R327, R332, R334, R342, R377) -/

/-- The GPIO section: an antenna-select pin that it leaves an INPUT is CC_GPIO here (R342); one that it claims is refused with the RADIO
section (R208). Log 35 DEDUCED, 39 DEDUCED. -/
def Dev.applyGpio (d : Dev) (b : Bytes) : Applied :=
  let pins := d.tables.radio.flatMap antselPins
  let bad (n : Nat) : Bool :=
    let f := byteAt b (16 + 8 * n)
    let o := byteAt b (17 + 8 * n)
    f > 3 || nbits o 4 3 == 3 || (f == 3) != pins.contains n || nbits o 7 5 != 0 || !zeroAt b (18 + 8 * n) (23 + 8 * n)
  (applyIf [(b.length != 256, Code.CC_IMAGE_FORMAT), (!zeroAt b 0 15 || !zeroAt b 208 255 || (List.range 24).any bad, Code.CC_GPIO)]
    d).andThen fun d => .ok { d with tables := { d.tables with gpio := b } }

/-- One object of the image. -/
def Dev.applyObject (d : Dev) (b : Bytes) (k : Nat) : Applied :=
  let e := slice b (32 * k) 32
  let c := d.objectCode k e true
  if c = 0 then .ok (d.setObj k { bytes := e }) else .error (d, { code := c })

/-- The OBJECTS section. -/
def Dev.applyObjects (d : Dev) (b : Bytes) : Applied :=
  let k := b.length / 32
  ((applyIf [(b.length % 32 != 0 || k < 1 || k > 4096, Code.CC_IMAGE_FORMAT)] d).each (List.range k) fun d k =>
    d.applyObject b k).andThen fun d =>
      .ok (d.setFld F.OBJ_COUNT_VALID (d.tables.objects.filter fun x => objValid x.2.bytes).length)

/-- The PLANS section. -/
def Dev.applyPlans (d : Dev) (b : Bytes) : Applied :=
  (applyIf [(b.length % 128 != 0 || b.length < 128 || b.length > 65536, Code.CC_IMAGE_FORMAT)] d).andThen fun d =>
    match d.plansCode b with
    | some r => .error (d, r)
    | none => .ok { d with tables := { d.tables with plans := b } }

/-- One entry of the CHANNELS section (R292, R318): created now, started at step 8 (R55). Log 42 DEDUCED. -/
def Dev.applyChannel (d : Dev) (b : Bytes) (k : Nat) : Applied :=
  let e := slice b (16 + 8 * k) 8
  match d.createRefused e with
  | some r => .error (d, r)
  | none => .ok (d.setChan (d.entrySlot e) (chanOfEntry e (if entryStart e then .active else .stopped)))

/-- The CHANNELS section. Log 42 DEDUCED. -/
def Dev.applyChannels (d : Dev) (b : Bytes) : Applied :=
  let n := numAt b 0 2
  (applyIf [(b.length < 16 || n > 256 || b.length != 16 + 8 * n || !zeroAt b 2 15, Code.CC_IMAGE_FORMAT)] d).each (List.range n)
    fun d k => d.applyChannel b k

/-- A JOURNAL body that R377 refuses. Log 35 DEDUCED. -/
def journalBad (b : Bytes) : Bool :=
  let mask := byteAt b 1
  let dev (n : Nat) : Bool :=
    let blocks := numAt b (4 + 2 * n) 2
    if bit mask n then !([1024, 2048, 4096, 8192].contains blocks) || decide (blocks * byteAt b 2 * 2048 > 2 ^ 30)
    else blocks != 0 || numAt b (12 + 2 * n) 2 != 0
  nbits (byteAt b 0) 7 1 != 0 || mask == 0 || mask > 15 || (byteAt b 2 != 64 && byteAt b 2 != 128) || byteAt b 3 < 1 || byteAt b 3 > 8 ||
    [0, 1, 2, 3].any dev || byteAt b 20 > 1 || byteAt b 21 > 15 || byteAt b 22 < 1 || byteAt b 22 > 100 ||
    (byteAt b 23 != 0 && (byteAt b 23 < 2 || byteAt b 23 > 40)) || numAt b 24 2 < 100 || numAt b 24 2 > 600 ||
    byteAt b 26 < 1 || byteAt b 26 > 100 || byteAt b 27 != 0 || (!bit (byteAt b 0) 0 && numAt b 28 4 != 0) || !zeroAt b 32 255

/-- The JOURNAL section; Cellar recovery follows it (R56). -/
def Dev.applyJournal (d : Dev) (b : Bytes) : Applied :=
  (applyIf [(b.length != 256, Code.CC_IMAGE_FORMAT), (journalBad b, Code.CC_JOURNAL)] d).andThen fun d =>
    .ok (d.onJrn fun j => { j with cfg := b })

/-- A section applied by its type; a VERSION other than 1 is refused, and a LENGTH of 0 is as an absent section (R52, R53). A section
that is there is one check of source 0x4 (R82). Log 26 DEDUCED. -/
def Dev.applySection (d : Dev) (nor : Mem) (s : Slot) (ty : Nat) : Applied :=
  let b := sectionBody nor s ty
  let version := ((slotSections nor s).find? (·.ty == ty)).map (·.version)
  if ty = 0x08 && b.isEmpty then d.applyKeysSection []
  else if b.isEmpty then .ok d
  else if version != some 1 then Applied.judged (.error (d, { code := Code.CC_IMAGE_FORMAT }))
  else Applied.judged <| match ty with
    | 0x01 => d.applyDevice b
    | 0x04 => d.applyTighten b
    | 0x02 => d.applyPorts b
    | 0x03 => d.applyRadio b (sectionBody nor s 0x0B)
    | 0x08 => d.applyKeysSection b
    | 0x09 => d.applyCvu b
    | 0x0A => d.applyTimers b
    | 0x0B => d.applyGpio b
    | 0x05 => d.applyObjects b
    | 0x06 => d.applyPlans b
    | 0x07 => d.applyChannels b
    | _ => d.applyJournal b

/-- Step 7 (R54, R56, R83): the sections in order, Cellar recovery, and the start mode's check. `ids` are the answers of the NAND
devices, `reason` is BOOT_REASON. Log 26 DEDUCED. -/
def Dev.applyImage (d : Dev) (nor : Mem) (s : Slot) (ids : List (Fin 65536)) (reason : Nat) : Applied :=
  let start := hdrStart (headerOf nor s)
  let d := { d with trans := some ⟨start, 1, d.time⟩, tables := { d.tables with startMode := start } }
  (Applied.each (.ok d) secOrder fun d ty => d.applySection nor s ty).andThen fun d =>
    match d.recover ids reason with
    | .error c => Applied.judged (.error (d, { code := c }))
    | .ok d => Applied.judged <| match d.modeRefused start false with
      | some r => .error (d, { r with subject := some (r.subject.getD R.SUP_MODE) })
      | none => .ok { d with trans := none }

/-! ### Writing an image (R58–R61) -/

/-- A slot's header passes the MAGIC, FORMAT and HEADER_CRC checks. -/
def headerCounts (nor : Mem) (s : Slot) : Bool :=
  let h := headerOf nor s
  numAt h 0 4 == 0x41474C31 && numAt h 4 2 == 1 && crc32 (h.take 252) == numAt h 252 4

/-- The slot that a BEGIN writes (R59). -/
def Dev.imageTarget (d : Dev) (nor : Mem) : Slot :=
  match d.inUse with
  | some s => slotOther s
  | none =>
    let va := slotCode nor .a == 0
    let vb := slotCode nor .b == 0
    if va && !vb then .b
    else if vb && !va then .a
    else if !va && !vb then .a
    else if hdrSeq (headerOf nor .a) < hdrSeq (headerOf nor .b) then .a else .b

/-- The NOR sector size: the header sector, and a whole number of them up to IMAGE_LEN. Log 44 DESIGN CHOICE. -/
def norSector : Nat := 4096

/-- The bytes of a slot that BEGIN erases for an image of `len` bytes. Log 44 DESIGN CHOICE. -/
def eraseLen (len : Nat) : Nat := min 0x1000000 ((max 256 len + norSector - 1) / norSector * norSector)

/-- The SEQUENCE that END fixes (R59); 2^32 where a header that counts holds 0xFFFF_FFFF. Log 125 DESIGN CHOICE. -/
def nextSeq (nor : Mem) : Nat :=
  1 + max (if headerCounts nor .a then hdrSeq (headerOf nor .a) else 0) (if headerCounts nor .b then hdrSeq (headerOf nor .b) else 0)

/-- The code that END reports before it signs: header and table, then the section CRCs against a read-back, then the sequence; 0 to
go on (R58, R59). A sequence that does not fit is refused as 0xFFFF_FFFF is. Log 43 DEDUCED, 125 DESIGN CHOICE. -/
def endCode (nor : Mem) (w : ImgWrite) : Nat :=
  let h := w.head
  let table := slotBytes nor w.slot 256 (16 * min (hdrCount h) 12)
  let es := secEntries table (hdrCount h)
  firstCode [
    (decide (w.got < 256), Code.CC_IMAGE_FORMAT),
    (headerCode h table false != 0, headerCode h table false),
    (hdrLen h != w.len || w.got != w.len, Code.CC_IMAGE_FORMAT),
    (es.any (sectionCrcBad nor w.slot), Code.CC_IMAGE_SECTION_CRC),
    (decide (nextSeq nor ≥ 0xFFFFFFFF), Code.CC_IMAGE_FORMAT)]

/-- The signed header (R51, R58). -/
def Dev.signHeader (d : Dev) (nor : Mem) (w : ImgWrite) : Bytes :=
  let h := overlay (overlay w.head 12 (beBytes 4 (nextSeq nor))) 16 (beBytes 4 1)
  let h := overlay h 224 (d.imageCmac (cmacMessage h nor w.slot))
  overlay h 252 (beBytes 4 (crc32 (h.take 252)))

/-- NOR_FAIL latched (R60), with MEM_ERR; the opcode is open, since the spec gives none of the NOR flash's. Log 8 DESIGN CHOICE. -/
def Dev.norFault (d : Dev) : Dev :=
  let op := (Config.freeByte d.freeCtr).toNat
  ({ d with freeCtr := d.freeCtr + 1 }.memError 0 Code.NOR_FAIL op).fault9 Code.NOR_FAIL

/-- IMAGE_WRITE BEGIN at the head of the queue (R58–R61); `ok` is the verdict of the erase. Log 45 DESIGN CHOICE. -/
def Dev.imageBegin (d : Dev) (nor : Mem) (ok : Bool) : Dev × Mem :=
  match d.takeCmd 0x21 with
  | none => (d, nor)
  | some (c, d') =>
    if byteAt c.payload 0 != 1 then (d, nor)
    else
      let len := numAt c.payload 4 4
      if d'.mode != Mode.commission || d'.image.isSome then (d'.cmdDone c Code.CC_IMAGE_STATE [], nor)
      else
        let s := d'.imageTarget nor
        let nor := Mem.erase nor (slotBase s) (eraseLen len)
        if ok then ({ d' with image := some { slot := s, len := len, got := 0, head := [] } }.cmdDone c Code.OK [], nor)
        else (d'.norFault.cmdDone c Code.NOR_FAIL [], nor)

/-- IMAGE_WRITE DATA (R58, R60); `ok` is the verdict of the program. Data beyond the slot are refused; data beyond the IMAGE_LEN of BEGIN
are taken, and END refuses the image. After a program that fails the bytes it named are free values.
Log 43 DEDUCED, 45 DESIGN CHOICE, 126 DESIGN CHOICE. -/
def Dev.imageData (d : Dev) (nor : Mem) (ok : Bool) : Dev × Mem :=
  match d.takeCmd 0x21 with
  | none => (d, nor)
  | some (c, d') =>
    if byteAt c.payload 0 != 2 then (d, nor)
    else match d'.image with
      | none => (d'.cmdDone c Code.CC_IMAGE_STATE [], nor)
      | some w =>
        let data := c.payload.drop 8
        if d'.mode != Mode.commission || numAt c.payload 4 4 != w.got || w.got + data.length > 0x1000000 then
          (d'.cmdDone c Code.CC_IMAGE_STATE [], nor)
        else
          let keep := data.take (256 - w.got)
          let prog := data.drop (256 - w.got)
          let at_ := slotBase w.slot + max 256 w.got
          if ok || prog.isEmpty then
            ({ d' with image := some { w with got := w.got + data.length, head := w.head ++ keep } }.cmdDone c Code.OK [], Mem.writeN nor at_ prog)
          else
            let (left, d') := d'.drbg prog.length
            ({ d' with image := none }.norFault.cmdDone c Code.NOR_FAIL [], Mem.writeN nor at_ left)

/-- IMAGE_WRITE END (R58–R60): the header is signed and programmed; `ok` is the verdict of its program and of the read-backs, and after a
failure the header's bytes are free values.
Log 43 DEDUCED, 45 DESIGN CHOICE. -/
def Dev.imageEnd (d : Dev) (nor : Mem) (ok : Bool) : Dev × Mem :=
  match d.takeCmd 0x21 with
  | none => (d, nor)
  | some (c, d') =>
    if byteAt c.payload 0 != 3 then (d, nor)
    else match d'.image with
      | none => (d'.cmdDone c Code.CC_IMAGE_STATE [], nor)
      | some w =>
        if d'.mode != Mode.commission then (d'.cmdDone c Code.CC_IMAGE_STATE [], nor)
        else
          let code := endCode nor w
          let d' := { d' with image := none }
          if code != 0 then (d'.cmdDone c code [], nor)
          else if (d'.vault.slots.getD 0 none).isNone then (d'.vaultDone c Code.KEY_EMPTY [], nor)
          else if !ok then
            let (left, d') := d'.drbg 256
            (d'.norFault.cmdDone c Code.NOR_FAIL [], Mem.writeN nor (slotBase w.slot) left)
          else (d'.cmdDone c Code.OK [], Mem.writeN nor (slotBase w.slot) (d'.signHeader nor w))

/-- IMAGE_WRITE ABORT (R58). Log 43 DEDUCED. -/
def Dev.imageAbort (d : Dev) : Dev :=
  match d.takeCmd 0x21 with
  | none => d
  | some (c, d') =>
    if byteAt c.payload 0 != 4 then d
    else if d'.mode != Mode.commission then d'.cmdDone c Code.CC_IMAGE_STATE []
    else { d' with image := none }.cmdDone c Code.OK []

end Sys2Proof.Machine
end

