-- ==== Sys2Proof/Machine/Boot.lean ====
section
/-!
DEFINITION. Start-up (R38–R63), resets and restarts, and the power-loss procedure (R363–R365, R488, R512, R513).
-/

namespace Sys2Proof.Machine

open Sys2Proof

/-! ### Reset values (R48, R513) -/

/-- A program of a NAND device that a reset cuts: whether its page is torn or stands is open (R366). -/
def cutProgram (torn : Bool) (x : NandDev) : NandDev :=
  { pages := match x.prog with
      | some p => insertPage { p.page with torn := torn } x.pages
      | none => x.pages
    bad := x.bad, marked := x.marked }

/-- Every block at its reset values. The Attic, the counter store, the memories, the pins, the region record read at t0, the causes of the
next boot and the slots the watchdog rejected stay. REFOUT runs from boot step 2 (R507). -/
def Dev.allReset (d : Dev) (p : Phase) : Dev :=
  let cut (k : Nat) : NandDev := cutProgram ((Config.freeByte (d.freeCtr + k)).getLsbD 0) (d.nd k)
  { regs := regReset, cs := d.cs, phase := p, boots := d.boots, strap := d.strap, time := d.time, freeCtr := d.freeCtr + 4, causes := d.causes
    rejected := d.rejected, bootAt := d.bootAt, wdogFrom := d.wdogFrom, pgood := d.pgood, resetN := d.resetN, pfail := d.pfail
    pfailAt := d.pfailAt, vddioA := d.vddioA, vddioB := d.vddioB, refout := p == .booting, attic := d.attic
    jrn := { devs := [cut 0, cut 1, cut 2, cut 3] }, gov := { region := d.gov.region }
    coexA := { grant := d.coexA.grant, act := d.coexA.act }, coexB := { grant := d.coexB.grant, act := d.coexB.act } }

/-- A cause bit of the next BOOT_REASON (R62). -/
def Dev.cause (d : Dev) (bits : Nat) : Dev := { d with causes := d.causes ||| bits }

/-! ### Ends of a boot (R57, R62, R63) -/

/-- BOOT_STATUS written. -/
def Dev.bootStatus (d : Dev) (state stage : Nat) : Dev := (d.setFld F.BOOT_STATUS_STATE state).setFld F.BOOT_STATUS_STAGE stage

/-- The BOOT event (R63, R445). Log 24 DEDUCED. -/
def Dev.bootEvent (d : Dev) : Dev :=
  d.event 1 0 0 (beBytes 4 (d.reg R.BOOT_STATUS).toNat ++ beBytes 4 (d.reg R.BOOT_IMAGE).toNat)

/-- A boot that halts in the TAMPER state (R57). Log 23 DEDUCED. -/
def Dev.bootHalt (d : Dev) (stage : Nat) : Dev := { (d.bootStatus 6 stage).bootEvent with phase := .halted, stalled := none }

/-- A boot that ends in the SELFTEST_FAIL state (R44, R479). -/
def Dev.bootFail (d : Dev) (stage : Nat) : Dev :=
  let d := (d.setFld F.BOOT_STATUS_CODE Code.SELFTEST_FAIL).fault9 Code.SELFTEST_FAIL
  { (d.bootStatus 7 stage).bootEvent with phase := .failed }

/-! ### Slots (R45–R48) -/

/-- CODE of a slot in BOOT_IMAGE. -/
def slotCodeFld : Slot → Fld
  | .a => F.BOOT_IMAGE_A_CODE
  | .b => F.BOOT_IMAGE_B_CODE

/-- STATE of a slot in BOOT_IMAGE. Log 25 DEDUCED. -/
def slotStateFld : Slot → Fld
  | .a => F.BOOT_IMAGE_A_STATE
  | .b => F.BOOT_IMAGE_B_STATE

/-- A slot marked rejected (R62). Log 25 DEDUCED. -/
def Dev.markRejected (d : Dev) (s : Slot) (code : Nat) : Dev :=
  ((d.setFld (slotStateFld s) 2).setFld (slotCodeFld s) code).setFld F.BOOT_STATUS_CODE code

/-- The slots that the straps let a boot use, and whose headers step 5 examines (R45). Log 122 DEDUCED. -/
def strapSlots (strap : Nat) : List Slot :=
  match strap with
  | 0 => [.a, .b]
  | 1 => [.a]
  | 2 => [.b]
  | _ => []

/-- The code that keeps a slot from being tried: the watchdog's, or its header's (R42, R46). -/
def Dev.headerVerdict (d : Dev) (nor : Mem) (s : Slot) : Nat := if d.rejected.contains s then Code.BOOT_WDOG else slotCode nor s

/-- A slot's header examined. -/
def Dev.examine (nor : Mem) (d : Dev) (s : Slot) : Dev :=
  let d := d.memWork 4 (chainNorRead 256)
  let c := d.headerVerdict nor s
  if c = 0 then d.setFld (slotStateFld s) 1 else d.markRejected s c

/-- The slots to try, in the order of R47. -/
def Dev.tryOrder (d : Dev) (nor : Mem) : List Slot :=
  let ok := (strapSlots d.strap).filter fun s => d.headerVerdict nor s == 0
  if ok == [.a, .b] && hdrSeq (headerOf nor .b) > hdrSeq (headerOf nor .a) then [.b, .a] else ok

/-- Every block but the Attic and the Vault back at its reset values; KS4–KS31 emptied (R48). What the boot has found out so far, the
last refusal, the checks counted, and the region record stay. Log 29 DEDUCED. -/
def Dev.slotReset (d : Dev) : Dev :=
  let keep (a : Nat) : Bool :=
    [R.BOOT_STATUS, R.BOOT_REASON, R.BOOT_IMAGE, R.SUP_CC, R.SUP_CC_NEED, R.SUP_CHECK].contains a || a / 0x100 == 0xB
  let d' := d.allReset .booting
  let kept := d.regs.filter fun (x : Nat × Word) => keep x.1
  let regs := kept.foldl (fun (m : RegMap) (x : Nat × Word) => RegMap.set m x.1 x.2) (d'.regs.filter fun (x : Nat × Word) => !keep x.1)
  let d' := { d' with regs := regs, vault := { d.vault with slots := d.vault.slots.take 4 ++ List.replicate 28 none } }
  d'.setCeilings d.gov.region (fusedLimits d.gov.region)

/-- A tried slot rejected (R48), with a security code shown (R411). Log 29 DEDUCED. -/
def Dev.rejectSlot (d : Dev) (s : Slot) (code : Nat) : Dev := (d.secCode code).slotReset.markRejected s code

/-- A boot that stops making progress (R42). Log 28 DEDUCED. -/
def Dev.stall (d : Dev) (st : Stall) (stage : Nat) : Dev := { d.bootStatus 1 stage with stalled := some st }

/-- The slots tried in turn (R48, R49, R54): one in use, one in hand where the boot stops making progress (R42), or none.
Log 25 DEDUCED, 28 DEDUCED. -/
def Dev.trySlots (d : Dev) (nor : Mem) (env : BootEnv) (reason : Nat) : List Slot → Dev
  | [] => d
  | s :: rest =>
    if env.stall == some (.slot s false) then d.stall (.slot s false) 6
    else
      let code := d.verifySlot nor s
      if code != 0 then (d.rejectSlot s code).trySlots nor env reason rest
      else if env.stall == some (.slot s true) then d.stall (.slot s true) 7
      else match d.applyImage nor s env.nandIds reason with
        | .ok d => { d with inUse := some s }
        | .error (d, r) => ((d.refuse r.code 4 r.step (r.subject.getD 0) r.need).rejectSlot s r.code).trySlots nor env reason rest

/-! ### Step 8 -/

/-- The pins of the GPIO section take their functions and levels (R40, R342, R344). Log 40 DEDUCED. -/
def Dev.pinsOn (d : Dev) : Dev :=
  d.forEach (List.range 24) fun d n =>
    let d := d.setFld ⟨R.GPIO_FUNCk (n / 8), 31 - 4 * (n % 8), 28 - 4 * (n % 8)⟩ (d.gpioFunc n)
    let f := d.gpioFunc n
    if f == 1 || f == 2 then d.setFlag ⟨R.GPIO_OUT, n, n⟩ (d.pinIdle n) else d

/-- A unit the host port takes over (R437, R439–R441): its stream, the CRC-16 of R440, and for the receive unit the alive counter.
Log 37 DEDUCED. -/
def Dev.takeUnit (d : Dev) (u src : Nat) (alive : Bool) : Dev :=
  let d := d.setReg (R.CVUn_CFG u) (BitVec.ofNat 32 (2 ^ 31 + 2 ^ 30 + src * 2 ^ 26))
  let d := d.setReg (R.CVUn_ALG u) (BitVec.ofNat 32 (2 ^ 30 + 2 ^ 28 + 2 ^ 27))
  let d := d.setReg (R.CVUn_ALIVE_CFG u) (if alive then BitVec.ofNat 32 (2 ^ 31 + 2 ^ 28 + 4) else 0#32)
  let d := (d.setReg (R.CVUn_BIND u) 0#32).setFld (F.CVUn_VALUE_VALUE u) 0xFFFF
  d.setFlag (F.CVUn_STAT_ANY u) true

/-- HOST_OPTIONS in force (R436). -/
def Dev.optionsOn (d : Dev) : Dev :=
  let o := d.host.opts
  let d := match optRx o with
    | some u => d.takeUnit u 1 (bit (byteAt o 0) 2)
    | none => d
  let d := match optTx o with
    | some u => d.takeUnit u 2 false
    | none => d
  if bit (byteAt o 0) 3 then (d.setFld F.HOST_IRQ_EN_EN (byteAt o 3)).setFld F.HOST_EVT_IRQ_KINDS (nbits (numAt o 4 2) 11 1) else d

/-- A signed step in ms, saturating at ±0x7FFF_FFFF (R469). -/
def wallStep (old new : Nat) : Nat :=
  if old = 0 then 0 else ofInt 32 (max (-0x7FFFFFFF) (min 0x7FFFFFFF ((new : Int) - old)))

/-- The TIMESYNC record of a setting (R469): source, TIME_UNSYNC and ATTIC_RC before it, the wall times before and after at the TIME of
the setting, that TIME and the REQ_ID. Log 21 DEDUCED. -/
def timesync (src : Nat) (unsync rc : Bool) (old new time id : Nat) (t : Ticket) : RecReq :=
  { ty := 8, commit := 2, ticket := t
    payload := beBytes 1 src ++ beBytes 1 (b2n unsync + 2 * b2n rc) ++ beBytes 6 old ++ beBytes 6 new ++ beBytes 8 time ++
      beBytes 2 id ++ beBytes 4 (wallStep old new) }

/-- The TIMESYNC record of a wall time set from the image (R94, R469); `before` is the Attic as the boot found it. Log 22 DEDUCED. -/
def Dev.imageTimesync (d : Dev) (before : Attic) : Dev :=
  if before.wallSet || !d.attic.wallSet then d else d.post (timesync 2 true before.rcSpan 0 d.wall d.time 0 .none)

/-- The FAULT record, log entry and event of a fault that forced a restart (R494). Its INT and DETECT are open: the counter store keeps
neither. Log 8 DESIGN CHOICE, 31 DESIGN CHOICE. -/
def Dev.restartFault (d : Dev) : Dev :=
  let w := d.csw 0x30
  if !bit w 0 || !d.journalling then d
  else
    let (fb, d) := d.drbg 6
    let (d, e) := d.logFault (nbits w 31 24) (nbits w 23 20) 0 0x10 (numAt fb 0 2) 0xFF [] 0 []
    let e' : FltEntry := { e with bytes := overlay e.bytes 4 (slice fb 2 4) }
    let d := { d with flt := d.flt.map fun (x : FltEntry) => if x.no == e.no then e' else x }
    let seq := if d.canBuild && d.csw 2 != 0xFFFFFFFD then d.csw 2 + 1 else 0
    (d.post { faultReq e' with ticket := .fltBoot }).faultEvent e' seq

/-- The presence log written at step 8 as at a wake, with CAUSE 0 (R282); no registration gives its time, which is open.
Log 8 DESIGN CHOICE, 31 DESIGN CHOICE. -/
def Dev.bootLog (d : Dev) (mode : Nat) : Dev :=
  if d.attic.log.isEmpty || !d.journalling then d
  else
    let log := d.attic.log
    let (fb, d) := d.drbg 6
    log.foldl (fun d (e : LogEntry) => d.triggerAccess e.port e.dir) (d.wakeRecords 0 mode mode (numAt fb 0 6))

/-- Step 8 (R38, R40, R55, R63, R255, R284, R331, R400, R453, R460): the start mode entered, as the request that was accepted last (R68, R96); in
NO_IMAGE and BARE that request is checked now. A slot time since t0 counts as still to come (R55). Log 24 DEDUCED, 27 DEDUCED. -/
def Dev.startUp (d : Dev) (fu : Fuses) (state mode : Nat) (before : Attic) : Dev :=
  let d := { (d.bootStatus state 8).loadShadow.pinsOn.optionsOn with phase := .running }
  let d := d.cvReset.firstPerm.meshReseed.showBases.bootEvent
  let d := (d.imageTimesync before).restartFault
  let d := if state = 4 || state = 5 then d.checkEnded 0 else d
  let d := ((d.tamperRecord fu).setFld F.SUP_MODE_REQ mode).enterMode mode 1 d.time
  let d := (d.setFld F.SUP_MODE_PREV 0xF).modeRecord
  let d := d.forEach ((d.chans.filter fun x => x.2.state == .active).map (·.1)) fun d slot => d.enterCycleFrom slot d.bootAt
  (d.bootLog mode).modeSettled.portDrain

/-! ### A boot from step 2 (R38, R42, R44, R45, R48, R57) -/

/-- How a boot from step 2 comes about: at t0, as a restart of a device that had started, or again in place of a boot that did not reach
step 8. -/
inductive BootKind where
  | t0
  | restart
  | again
  deriving DecidableEq, Repr

/-- The Attic's coarse count, which has 30.5 µs resolution, in µs (R29). Log 19 DESIGN CHOICE. -/
def coarse (count : Nat) : Nat := count * 32768 / 1000000 * 1000000 / 32768

/-- Steps 2 and 3: every block reset, TIME from the Attic's coarse count, or 0 after a loss of VATTIC (R29), the boot watchdog started
(R42), the causes, the straps and the fuses read. The region record is that read at the last t0 (R248). Log 20 DEDUCED, 28 DEDUCED. -/
def Dev.bootBegin (d : Dev) (fu : Fuses) (kind : BootKind) : Dev :=
  let reason := d.causes
  let d := d.allReset .booting
  let d := if bit reason 1 && d.attic.up then { d with attic := { d.attic with count := 0 } } else d
  let d := { d with time := if d.attic.up then coarse d.attic.count else 0, causes := 0, stalled := none }
  let d := { d with wdogFrom := d.time, bootAt := if kind == BootKind.again then min d.bootAt d.time else d.time }
  let d := (d.setReg R.BOOT_REASON (BitVec.ofNat 32 reason)).setFld F.BOOT_IMAGE_STRAP d.strap
  let region := if kind == BootKind.t0 then fu.region else d.gov.region
  (d.setCeilings region (fusedLimits region)).bootStatus 1 3

/-- Steps 5–8: the slots examined and tried, the start mode entered. -/
def Dev.bootSlots (d : Dev) (nor : Mem) (fu : Fuses) (env : BootEnv) : Dev :=
  let before := d.attic
  let reason := (d.reg R.BOOT_REASON).toNat
  let d := (strapSlots d.strap).foldl (Dev.examine nor) (d.bootStatus 1 5)
  let order := d.tryOrder nor
  let d := d.trySlots nor env reason order
  match d.inUse with
  | some s =>
    let d := (d.setFld (slotStateFld s) 3).setFld F.BOOT_SEQ_SEQ (hdrSeq (headerOf nor s))
    d.startUp fu (if d.rejected.isEmpty && order.head? == some s then 2 else 3) d.tables.startMode before
  | none => if d.stalled.isSome then d else d.startUp fu 4 Mode.commission before

/-- What the boot in hand meets, the first of those still to come: the last one stays for every further boot. Log 5 DESIGN CHOICE. -/
def Dev.takeBoot (d : Dev) : BootEnv × Dev :=
  match d.boots with
  | [] => ({}, d)
  | [env] => (env, d)
  | env :: rest => (env, { d with boots := rest })

/-- A boot from step 2. A ROOT parity failure is shown at STAGE 3, any other failure of self-test at STAGE 4.
Log 23 DEDUCED, 28 DEDUCED, 123 DEDUCED. -/
def Dev.bootRun (d : Dev) (nor : Mem) (fu : Fuses)  (kind : BootKind) : Dev :=
  let (env, d) := d.takeBoot
  let d := d.bootBegin fu kind
  let d := if d.rejected.isEmpty then d else d.fault9 Code.BOOT_WDOG
  if env.stall == some (.step 0) then d.stall (.step 0) 2
  else if env.stall == some (.step 1) then d.stall (.step 1) 3
  else if d.latched || fu.hardBlown then d.bootHalt 3
  else if !fu.rootOk then d.bootFail 3
  else if env.stall == some (.step 2) then d.stall (.step 2) 4
  else if !env.selfTestOk then d.bootFail 4
  else
    let d := d.drbgStart.deriveKeys fu
    if d.strap = 3 then d.startUp fu 5 Mode.commission d.attic
    else if env.stall == some (.step 3) then d.stall (.step 3) 5
    else d.bootSlots nor fu env

/-- A restart at step 2 for a cause; the slots the watchdog rejected before are forgotten. -/
def Dev.restart (d : Dev) (nor : Mem) (fu : Fuses)  (bits : Nat) : Dev :=
  ({ d with rejected := [] }.cause bits).bootRun nor fu .restart

/-- The HARD_BLOWN fuse blown where it is due (R402): the device and the fuses; a failure latches FUSE_FAIL. Log 30 DEDUCED. -/
def Dev.blowHard (d : Dev) (fu : Fuses) (ok : Bool) : Dev × Fuses :=
  if !fu.hard || fu.hardBlown || !d.latched then (d, fu)
  else if ok then (d, { fu with hardBlown := true })
  else (d.fault9 Code.FUSE_FAIL, fu)

/-- The VDDIO rails sensed at a rise of PGOOD; the levels hold until it falls (R500). -/
def Dev.senseRails (d : Dev) (up : PowerUp) : Dev :=
  if d.pgood then d else { d with vddioA := some up.vddioA, vddioB := some up.vddioB }

/-- t0 (R38): PGOOD high and RESET_N released with the supplies down before. A blow that a tamper left due is made first (R402).
Log 20 DEDUCED, 30 DEDUCED, 33 DEDUCED. -/
def Dev.powerOn (d : Dev) (nor : Mem) (fu : Fuses) (up : PowerUp)  : Dev × Fuses :=
  if d.phase != .down then (d, fu)
  else
    let due := fu.hard && !fu.hardBlown && d.latched
    let fu' := if due && up.blown then { fu with hardBlown := true } else fu
    let d := { d.senseRails up with boots := up.boots, strap := up.strap, rejected := [], pgood := true, resetN := true, pfail := false }
    let d := d.bootRun nor fu' .t0
    (if due && !up.blown then d.fault9 Code.FUSE_FAIL else d, fu')

/-- The boot watchdog, 1 s after t0 or the restart (R42): a slot in hand counts as rejected in the restarted boot. Log 28 DEDUCED. -/
def Dev.bootWatchdog (d : Dev) (nor : Mem) (fu : Fuses)  : Dev :=
  match d.phase, d.stalled with
  | .booting, some st =>
    let inHand := match st with
      | .slot s _ => [s]
      | .step _ => []
    ({ d.reach (d.wdogFrom + 1000000) with rejected := d.rejected ++ inHand }.cause 128).bootRun nor fu .again
  | _, _ => d

/-! ### Power loss and restarts (R28, R43, R282, R363–R365, R425, R488, R513) -/

/-- Steps still running lose their results and report no outcome (R363). -/
def Dev.dropSteps (d : Dev) : Dev :=
  { d with
    chans := d.chans.map fun (x : Nat × Chan) => (x.1, { x.2 with run := none, step := none, pending := none, extras := [] })
    checks := [], trans := none, host := { d.host with cmdq := [] } }

/-- Steps 2–6 of R363: every chain not yet started is discarded but those of the flush (R381). -/
def Dev.emergency (d : Dev) (ok : BitVec 4) : Dev := ({ d.radiosOff.dropSteps with memq := [] }).flush ok

/-- PFAIL_N falls (`pin`), or the internal supply monitor trips (R43, R282, R363, R501). REFOUT stops at step 6 (R507). Log 33 DEDUCED. -/
def Dev.powerFail (d : Dev) (pin : Bool) (ok : BitVec 4) : Dev :=
  let d := { (if pin then { d with pfail := true, pfailAt := d.time } else d) with refout := false, memq := [] }
  match d.phase with
  | .running => { (d.emergency ok).cause 16 with phase := .flushed, pfailAt := d.time }
  | .booting => { d.cause 16 with phase := .flushed, stalled := none, pfailAt := d.time }
  | .waking => { d.cause 16 with phase := .flushed, pfailAt := d.time }
  | .halted => d.cause 16
  | .failed => d.cause 16
  | _ => d

/-- PFAIL_N has stayed high for 10 ms since it rose, or since the supply monitor tripped (R43, R365, R512): a device that had started
restarts, and a boot that was abandoned begins again. -/
def Dev.powerBack (d : Dev) (nor : Mem) (fu : Fuses)  : Dev :=
  if d.phase != .flushed || d.pfail then d
  else
    let d := d.reach (d.pfailAt + 10000)
    if d.bootDone then d.restart nor fu 0 else d.bootRun nor fu .again

/-- PFAIL_N rises (R43, R282, R365). -/
def Dev.powerRise (d : Dev) : Dev := if d.pfail then { d with pfail := false, pfailAt := d.time } else d

/-- Every block but the Attic resets at once, with no flush (R513). -/
def Dev.hardReset (d : Dev) : Dev := d.allReset .down

/-- PGOOD falls: the sensed levels of the VDDIO rails go with it (R500). -/
def Dev.pgoodFell (d : Dev) : Dev :=
  if !d.pgood then d
  else
    let d := { d with pgood := false, vddioA := none, vddioB := none }
    (if d.attic.up then d.cause 4 else d).hardReset

/-- RESET_N falls. -/
def Dev.resetFell (d : Dev) : Dev := if !d.resetN then d else ({ d with resetN := false }.cause 8).hardReset

/-- The wall time of a fault that forces a restart, and CS_FLT_BOOT (R494). Log 32 DEDUCED. -/
def Dev.fltBoot (d : Dev) (code cls : Nat) : Dev :=
  let d := d.setCs 0x30 (code * 2 ^ 24 + cls * 2 ^ 20 + 1)
  (d.setCs 0x31 (d.wall / 2 ^ 32)).setCs 0x32 (d.wall % 2 ^ 32)

/-- SOFT_RESET (R425). -/
def Dev.softReset (d : Dev) (nor : Mem) (fu : Fuses) (ok : BitVec 4)  : Dev :=
  if !d.live then d
  else match d.takeCmd 0x0F with
    | none => d
    | some (c, d) => ((d.cmdDone c Code.OK []).emergency ok).restart nor fu 32

/-- A sequencer watchdog expires (R477, R488): the second within 10 s restarts the device. -/
def Dev.seqExpired (d : Dev) (nor : Mem) (fu : Fuses) (us : Nat) (ok : BitVec 4)  : Dev :=
  if !d.live then d
  else if d.seqWdogAt.any fun t => decide (d.time < t + 10000000) then
    ((d.fltBoot Code.SEQ_WDOG 6).emergency ok).restart nor fu 0
  else d.seqWdog us

/-- Core-PLL lock lost (R478, R488). Log 32 DEDUCED. -/
def Dev.pllLost (d : Dev) (nor : Mem) (fu : Fuses) (ok : BitVec 4)  : Dev :=
  if !d.live then d else ((d.fltBoot Code.CLOCK_LOSS 8).emergency ok).restart nor fu 0

/-- REARM RESPONSE with its restart (R408): from a boot halt at once, in operation after a flush. -/
def Dev.rearm (d : Dev) (nor : Mem) (fu : Fuses) (ok : BitVec 4)  : Dev :=
  if !(d.live || d.phase == .halted) then d
  else
    let (d', done) := d.rearmResponse fu
    if !done then d'
    else if d'.live then (d'.emergency ok).restart nor fu 64
    else d'.restart nor fu 64

/-- The key-kill line asserts (R57, R401–R403): a boot in steps 2–7 halts, and HARD_BLOWN is blown while the main domains are up. -/
def Dev.tampered (d : Dev) (fu : Fuses) (src : Nat) (blown : Bool) : Dev × Fuses :=
  let fresh := d.attic.sources == 0 && (src &&& d.armed fu) != 0
  let p := d.phase
  let d := d.keyKill fu src
  if !fresh then (d, fu)
  else
    let d := if p == .booting then d.bootHalt (d.fld F.BOOT_STATUS_STAGE) else d
    if p == .down || p == .watch || p == .waking then (d, fu) else d.blowHard fu blown

/-- VATTIC lost (R29, R30, R273, R400): what the Attic holds goes. In WATCH nothing is left that could wake the main domains: the device
is down until the next t0. -/
def Dev.vatticLost (d : Dev) : Dev :=
  if !d.attic.up then d
  else
    let d := { d with attic := { up := false } }.showBases
    if d.phase == .watch || d.phase == .waking then d.allReset .down else d

/-- VATTIC comes up (R62, R409): its contents are lost; while CORE runs its count takes device time. Log 20 DEDUCED. -/
def Dev.vatticUp (d : Dev) : Dev :=
  if d.attic.up then d else { d with attic := { count := if d.phase == Phase.down then 0 else d.time } }.cause 2

end Sys2Proof.Machine
end

