-- ==== Sys2Proof/Machine/Wires.lean ====
section
/-!
DEFINITION. Events of the governor and of the pins: dwell, off time and duty (R256, R259), the coexistence wires (R263–R265), protected
windows (R267), the end of a strike (R337, R343), the die temperature (R186) and the Attic's crystal (R478).
-/

namespace Sys2Proof.Machine

open Sys2Proof

/-! ### Governor instants -/

/-- An occupation reaches DWELL_MAX (R256). -/
def Dev.dwellExpired (d : Dev) (n : Nat) : Dev :=
  match d.occ n with
  | none => d
  | some o => (d.reach (o.start + d.limits.dwellMax * 1000)).pauseCarrier n

/-- The carrier has been off for OFF_MIN on the channel a chain occupies: the occupation ends (R256). -/
def Dev.offExpired (d : Dev) (n : Nat) : Dev :=
  match d.occ n with
  | none => d
  | some o => match d.offSince o.chan with
    | none => d
    | some t => if d.uhfOn n then d else (d.reach (t + d.limits.offMin * 1000)).endOcc n

/-- Time passes until the duty budget is spent with the carriers as they are (R259): a span leaving the one-second window gives time back,
so the remainder is taken again, `fuel` times. Log 82 DEDUCED. -/
def Dev.dutyRunsOut (d : Dev) : Nat → Dev
  | 0 => d
  | f + 1 => if d.dutySpent then d else (d.tick (min d.limits.duty 300 * 1000 - d.dutyUsed)).dutyRunsOut f

/-- The duty budget runs out (R259): between exchanges the carrier comes down now; a slot or exchange in hand ends first and its end
sees the spent budget. Log 82 DEDUCED. -/
def Dev.dutyOut (d : Dev) : Dev :=
  if d.mode != Mode.shared || !(d.uhfOn 0 || d.uhfOn 1) then d
  else
    let d := d.dutyRunsOut 16
    if !d.dutySpent then d
    else d.forEach [0, 1] fun d n =>
      if (d.uhfc n).master && !(d.uhfc n).att.any (·.awaiting.isSome) then d.pauseCarrier n else d

/-! ### Coexistence wires (R263–R265) -/

/-- The wires of a set. -/
def Dev.wires (d : Dev) : CoexSet → Wires
  | .a => d.coexA
  | .b => d.coexB

/-- The wires of a set changed, COEX_STAT following (R269). -/
def Dev.onWires (d : Dev) (k : CoexSet) (f : Wires → Wires) : Dev :=
  (match k with
    | .a => { d with coexA := f d.coexA }
    | .b => { d with coexB := f d.coexB }).showCoex

/-- LEAD of a set, µs. Log 81 DEDUCED. -/
def Dev.coexLead (d : Dev) : CoexSet → Nat
  | .a => d.fld F.COEX_CFG_LEAD_A
  | .b => d.fld F.COEX_CFG_LEAD_B

/-- GRANT high and ACT low (R263): the ramps that waited for it start no earlier than LEAD after REQ and 1 µs after the grant.
Log 81 DEDUCED. -/
def Dev.coexGranting (d : Dev) (k : CoexSet) (meas0 meas1 : Nat) : Dev :=
  let from_ := (d.wires k).waitFrom
  let d := d.onWires k fun w => { w with grant := true, act := false }
  let d := match from_ with
    | none => d
    | some t => d.reach (max (d.time + 1) (t + d.coexLead k))
  d.forEach [0, 1] fun d n =>
    if (d.uhfc n).waitGrant && (d.uhfc n).master then
      (d.onUhf n fun u => { u with waitGrant := false }).carrierOn n (if n = 0 then meas0 else meas1)
    else d

/-- GRANT low, or ACT high (R264, R265): every carrier that needs the set comes down. Log 81 DEDUCED. -/
def Dev.coexWithdrawn (d : Dev) (k : CoexSet) (act : Bool) : Dev :=
  let d := d.onWires k fun w => if act then { w with act := true } else { w with grant := false }
  d.forEach [0, 1] fun d n => if (d.uhfc n).master && d.ungranted n then d.preempt n else d

/-! ### Protected windows (R267) -/

/-- The next device time at which an SRC 0 window of an entry starts. -/
def Dev.windowNext (d : Dev) (k : Nat) : Nat :=
  let period := d.fld (F.COEX_PWk_CFG_PERIOD k) * 1000
  let off := d.fld (F.COEX_PWk_WIN_OFFSET k) * 10
  if period = 0 then d.time else d.time + (off + (period - d.time % period)) % period

/-- A window of entry `k` starts; where windows apply, every carrier on comes down. -/
def Dev.windowStart (d : Dev) (k : Nat) : Dev :=
  if !d.flag (F.COEX_PWk_CFG_EN k) || d.windows.any (·.1 == k) then d
  else
    let d := if d.flag (F.COEX_PWk_CFG_SRC k) then d else d.reach (d.windowNext k)
    let d := { d with windows := d.windows ++ [(k, d.time)] }.setFlag F.COEX_STAT_PW_OPEN true
    if d.windowsApply then d.forEach [0, 1] Dev.cutForWindow else d

/-- A window of entry `k` ends. -/
def Dev.windowEnd (d : Dev) (k : Nat) : Dev :=
  match d.windows.find? (·.1 == k) with
  | none => d
  | some w => (d.reach (w.2 + d.fld (F.COEX_PWk_WIN_LEN k) * 10)).closeWindow k

/-! ### Pins, temperature, crystal -/

/-- A strike ends (R337, R343). Log 103 DEDUCED. -/
def Dev.strikeEnd (d : Dev) (pin : Nat) : Dev :=
  match d.strikes.find? (fun (s : Strike) => s.pin == pin) with
  | none => d
  | some s =>
    let d := d.reach s.until_
    let d := (d.setFlag ⟨R.GPIO_OUT, pin, pin⟩ (d.pinIdle pin)).setFlag ⟨R.GPIO_STRIKE, pin, pin⟩ false
    { d with strikes := d.strikes.filter fun (s : Strike) => s.pin != pin }

/-- The Attic returns to its crystal (R478); the span of R31 lasts until wall time is set. -/
def Dev.crystalBack (d : Dev) : Dev :=
  if d.attic.up then { d with attic := { d.attic with crystal := true } } else d

/-! ### Meanings -/

/-- DWELL_MAX_EXPIRE (R256). -/
def execDwellMaxExpire (n : Fin 2) (s : State) : Host.Outcome State Fault Refusal := s.onLive (·.dwellExpired n)
/-- OFF_MIN_EXPIRE (R256). -/
def execOffMinExpire (n : Fin 2) (s : State) : Host.Outcome State Fault Refusal := s.onLive (·.offExpired n)
/-- DUTY_BUDGET_SPENT (R259). -/
def execDutyBudgetSpent (s : State) : Host.Outcome State Fault Refusal := s.onLive Dev.dutyOut
/-- COEX_GRANT (R263). -/
def execCoexGrant (set : CoexSet) (meas0 meas1 : Fin 1024) (s : State) : Host.Outcome State Fault Refusal :=
  s.onLive (·.coexGranting set meas0 meas1)
/-- COEX_PREEMPT (R265). -/
def execCoexPreempt (set : CoexSet) (act : Bool) (s : State) : Host.Outcome State Fault Refusal := s.onLive (·.coexWithdrawn set act)
/-- PROTECTED_WINDOW_START (R267). -/
def execProtectedWindowStart (k : Fin 4) (s : State) : Host.Outcome State Fault Refusal := s.onLive (·.windowStart k)
/-- PROTECTED_WINDOW_END (R267). -/
def execProtectedWindowEnd (k : Fin 4) (s : State) : Host.Outcome State Fault Refusal := s.onLive (·.windowEnd k)
/-- STRIKE_END (R337). -/
def execStrikeEnd (pin : Fin 24) (s : State) : Host.Outcome State Fault Refusal := s.onLive (·.strikeEnd pin)
/-- TEMP_SAMPLE (R186). -/
def execTempSample (t : BitVec 8) (s : State) : Host.Outcome State Fault Refusal := s.onLive (·.sampleTemp t)
/-- ATTIC_CRYSTAL_RESTORE (R478). -/
def execAtticCrystalRestore (s : State) : Host.Outcome State Fault Refusal := s.onDev Dev.crystalBack

end Sys2Proof.Machine
end

