-- ==== Sys2Proof/Machine/Sweeps.lean ====
section
/-!
DEFINITION. The calibration sweeps of COMMISSION (R114, R120, R142, R203) and TIME_SET (R468). A sweep takes no model time; what it
measures is its operand, one entry for each port or set of its mask in ascending order.
-/

namespace Sys2Proof.Machine

open Sys2Proof

/-! ### What the sweeps share -/

/-- A direct step is in progress on an HF chain. -/
def Dev.hfDirectRuns (d : Dev) : Bool := d.chans.any fun x => x.2.direct && x.2.step.any fun st => st.phase == .running && !st.uhf

/-- The fields that direct channels have left on go off before a sweep (R120, R305). -/
def Dev.clearFields (d : Dev) : Dev :=
  d.forEach (List.range 4) fun d n =>
    let idle := ((d.hfc n).owner.bind d.chan?).all fun c => c.direct && c.step.isNone
    if d.hfOn n && (d.hfc n).master && (d.hfc n).att.isNone && idle then d.hfFieldOff n else d

/-- The HF chains a sweep may take: enabled, healthy, holding no field and no run. -/
def Dev.sweepChains (d : Dev) : List Nat := (List.range 4).filter fun n => d.hfHealthy n && !d.hfOn n && (d.hfc n).owner.isNone

/-- A sweep's drive of an HF port counts as a field-on of it, at the gain that serves sweeps (R140). Log 72 DEDUCED. -/
def Dev.sweepField (d : Dev) (n p : Nat) : Dev :=
  let g := d.hfGain n p true
  (((d.onHf n fun c => { c with gain := g }).bump (F.HFPn_CNT_ONS p) 1).setFld (F.HFPn_STAT_CHAIN p) n).captureEvent (0x40 + n)

/-- A sweep command taken from the queue: refused outside COMMISSION with CC_CAL_STATE, and aborted with that code and nothing written while
a transition leaves COMMISSION (R74); else `run` gives the device after it and the result bytes. Log 72 DEDUCED, 134 DESIGN CHOICE. -/
def Dev.sweep (d : Dev) (code : Nat) (run : Dev → Cmd → Dev × Bytes) : Dev :=
  match d.takeCmd code with
  | none => d
  | some (c, d) =>
    if d.mode != Mode.commission || d.trans.any (·.target != Mode.commission) then d.cmdDone c Code.CC_CAL_STATE []
    else
      let r := run d.clearFields c
      r.1.cmdDone c Code.OK r.2

/-- Each item of a mask with its measurement, results appended. -/
def sweepEach {α : Type} (items : List Nat) (ms : List α) (dflt : α) (f : Dev → Nat → α → Dev × Bytes) (d : Dev) : Dev × Bytes :=
  (items.zip (List.range items.length)).foldl (fun (a : Dev × Bytes) (x : Nat × Nat) =>
    let r := f a.1 x.1 (ms.getD x.2 dflt)
    (r.1, a.2 ++ r.2)) (d, [])

/-! ### HF sweeps -/

/-- The magnitude of a measured phase, 1/1,024 turn. -/
def phaseMag (v : BitVec 10) : Nat := v.toInt.natAbs

/-- The code with the smallest phase magnitude, the lower one on a tie (R114). -/
def tuneCode (m : TuneMeasure) : Nat :=
  (List.range 256).foldl (fun a c => if phaseMag (m.phases.getD c 512#10) < phaseMag (m.phases.getD a 512#10) then c else a) 0

/-- The profile of a port with the fields of a tuning sweep written (R114): TUNE, INOM, CAL_TIME, CAL_TEMP, CAL_DONE. -/
def tuned (p : Bytes) (m : TuneMeasure) (wall : Nat) (temp : Nat) : Bytes :=
  let p := overlay p 0 (beBytes 1 (byteAt p 0 ||| 0x40))
  let p := overlay (overlay p 4 (beBytes 1 (tuneCode m))) 14 (beBytes 2 m.ma.val)
  overlay (overlay p 18 (beBytes 6 wall)) 24 (beBytes 1 temp)

/-- CAL_TUNE of one port (R113, R114): one that ends HF_TUNE_RANGE leaves the code in force as it was. Log 72 DEDUCED, 135 DESIGN CHOICE. -/
def Dev.tunePort (d : Dev) (p : Nat) (m : TuneMeasure) : Dev × Bytes :=
  match d.sweepChains with
  | [] => (d, beBytes 1 Code.HF_PORT_UNAVAILABLE)
  | n :: _ =>
    if !d.hfPortOk p || !d.hfPermitted p || d.hfOn n || (d.hfChainOn p).isSome then (d, beBytes 1 Code.HF_PORT_UNAVAILABLE)
    else
      let d := d.sweepField n p
      let slopes := d.tables.slopes.filter (·.1 != p)
      if tuneCode m = 0 || tuneCode m = 255 then
        ({ d with tables := { d.tables with slopes := slopes } }, beBytes 1 Code.HF_TUNE_RANGE)
      else
        let k := d.fld (F.HFPn_CFG_PROFILE p)
        let wall := if d.attic.wallSet then d.wall else 0
        let prof := tuned (d.profile k) m wall (d.fld (F.UHFCn_SYN_STAT_TEMP_NOW 0))
        let t := { d.tables with profiles := tableSet 32 (zeros 48) d.tables.profiles k prof, slopes := slopes ++ [(p, m.slope.toInt)] }
        ({ d with tables := t }.setFld (F.HFPn_TUNE_CODE p) (tuneCode m), beBytes 1 Code.OK)

/-- The twelve coefficients of a set, zero where a member is unused (R119). -/
def setCoeffs (members : Nat) (ks : List Word) : Bytes :=
  (List.range 4).flatMap fun i => ((List.range 4).filter (· != i)).flatMap fun j =>
    if i < members && j < members then beBytes 4 (ks.getD (pairIndex i j) 0#32).toNat else zeros 4

/-- CAL_COUPLING of one set (R120). Log 72 DEDUCED. -/
def Dev.coupleSet (d : Dev) (s : Nat) (ks : List Word) : Dev × Bytes :=
  match d.tables.sets[s]? with
  | none => (d, beBytes 1 Code.HF_PORT_UNAVAILABLE)
  | some e =>
    let ports := setPorts e
    let ok := decide (d.sweepChains.length ≥ ports.length) &&
      ports.all fun p => d.hfPortOk p && d.hfPermitted p && (d.hfChainOn p).isNone
    if !ok then (d, beBytes 1 Code.HF_PORT_UNAVAILABLE)
    else
      let d := (ports.zip d.sweepChains).foldl (fun d (x : Nat × Nat) => d.sweepField x.2 x.1) d
      let wall := if d.attic.wallSet then d.wall else 0
      let e := overlay e 4 (beBytes 1 (byteAt e 4 ||| 1))
      let e := overlay (overlay e 6 (beBytes 6 wall)) 12 (setCoeffs ports.length ks)
      ({ d with tables := { d.tables with sets := setNth d.tables.sets s e } }.showTiers, beBytes 1 Code.OK)

/-- CAL_RXGAIN of one port (R142): the gain measured in dB, none where the port clips even at 0 dB. Log 72 DEDUCED. -/
def Dev.gainPort (d : Dev) (p : Nat) (g : Option (Fin 48)) : Dev × Bytes :=
  let others := match d.setOf p with
    | some s => (setPorts (d.tables.sets.getD s [])).filter (· != p)
    | none => []
  let ports := p :: others
  let ok := decide (d.sweepChains.length ≥ ports.length) &&
    ports.all fun q => d.hfPortOk q && d.hfPermitted q && (d.hfChainOn q).isNone
  if !ok then (d, beBytes 1 Code.HF_PORT_UNAVAILABLE)
  else
    ((ports.zip d.sweepChains).foldl (fun d (x : Nat × Nat) => d.sweepField x.2 x.1) d,
      match g with
      | none => beBytes 1 Code.HF_GAIN_CLIP
      | some g => beBytes 1 (g.val / 6 * 16 + g.val % 6))

/-! ### The UHF sweep -/

/-- The chains and ports of a leakage sweep of a port (R203, R204): the pair that UHF_STEER names where EN is 1, else the first chain free that
serves the port; none where the port cannot be served. Log 63 DEDUCED, 72 DEDUCED. -/
def Dev.leakTeam (d : Dev) (p : Nat) : Option (Nat × Option (Nat × Nat)) :=
  let free (n : Nat) : Bool := d.uhfHealthy n && (d.uhfc n).owner.isNone && !d.uhfOn n && !(d.uhfc n).inhibited
  let held (q : Nat) : Bool := (d.uhfChainOn q).isSome
  if !d.uhfPortOk p || held p || d.maskedChans.isEmpty then none
  else if d.flag F.UHF_STEER_EN then
    let n := if d.flag F.UHF_STEER_MASTER then 1 else 0
    let m := 1 - n
    match (List.range 8).find? fun q => q != p && d.uhfPortOk q && d.uhfServes m q && !held q with
    | some q => if d.steerBad n p m q || !free n || !free m || d.uhfPermit p (some q) < 0 then none else some (n, some (m, q))
    | none => none
  else match [0, 1].find? fun n => free n && d.uhfServes n p with
    | some n => if d.uhfPermit p none < 0 then none else some (n, none)
    | none => none

/-- The governor grants a sweep's visit to a channel (R11, R256, R257): it waits OFF_MIN out; a channel that the other chain occupies, or whose
time in the occupancy window is spent, cannot be had. Log 72 DEDUCED. -/
def Dev.leakGrant (d : Dev) (n k : Nat) : Option Dev :=
  let taken := (d.uhfc n).partner.isNone && (d.occ (1 - n)).map (·.chan) == some k
  if taken || (d.occRule && decide (d.occUsed k ≥ d.limits.occMax * 1000)) then none
  else match d.offSince k with
    | none => none
    | some t => some (if t = 0 then d else d.reach (t + d.limits.offMin * 1000))

/-- A visit to one channel in a leakage sweep (R203): channel change under EACH_CHANNEL, ramp, training, measurement, ramp-down.
Log 72 DEDUCED. -/
def Dev.leakVisit (d : Dev) (n k : Nat) (m : LeakMeasure) : Dev :=
  let d := (d.forEach (d.uhfTeam n) Dev.endOcc).applyGroup (.uhf (if n = 0 then 0 else 1))
  let d := d.forEach (d.uhfTeam n) fun d c =>
    let d := ((d.tuneTo c k).setFld (F.UHFCn_STAT_CH_INDEX c) k).onUhf c fun u => { u with tuning := none, tuneCal := none }
    let d := ((d.setFlag (F.UHFCn_STAT_LOCKED c) true).setFlag (F.UHFCn_STAT_CALIBRATING c) false).setFld (F.UHFCn_SYN_STAT_LOCK_US c) 60
    ((d.setUst c Ust.ready).rampUp1 c m.meas.val true).showCal c
  let d := if (d.uhfc n).partner.isSome then d.setFlag F.UHF_STEER_ACTIVE true else d
  let d := (d.setFld (F.UHFCn_CANC_CI n) m.ci.toNat).setFld (F.UHFCn_CANC_CQ n) m.cq.toNat
  let d := (d.onUhf n fun u => { u with untrained := !m.trained }).setFlag (F.UHFCn_STAT_TRAINED n) m.trained
  let d := (d.setFld (F.UHFCn_LEAK_LEAK n) m.leak.toNat).setFld (F.UHFCn_LEAK_RESID n) m.resid.toNat
  (d.setFld (F.UHFCn_LEAK_SUPPR n) (m.leak.toInt - m.resid.toInt).toNat).rampDown n

/-- The channels of a leakage sweep visited in turn; false where the governor cannot grant one. -/
def Dev.leakVisits (d : Dev) (n : Nat) (chans : List Nat) (m : Nat → LeakMeasure) : Dev × Bool :=
  chans.foldl (fun (a : Dev × Bool) k =>
    if !a.2 then a else match a.1.leakGrant n k with
      | some d => (d.leakVisit n k (m k), true)
      | none => (a.1, false)) (d, true)

/-- CAL_UHF_LEAK of one port (R203): every channel of the region record that the mask lets be emitted (R254); the chains go back to STANDBY with
no port. Log 72 DEDUCED. -/
def Dev.leakPort (d : Dev) (p : Nat) (ms : List LeakMeasure) : Dev × Bytes :=
  match d.leakTeam p with
  | none => (d, beBytes 1 Code.UHF_PORT_UNAVAILABLE ++ zeros 3)
  | some (n, mate) =>
    let m (k : Nat) : LeakMeasure := ms.getD k ⟨false, 0#8, 0#8, 0, 0, 0#10, 0#10⟩
    let chans := d.maskedChans
    let d := d.onUhf n fun u => { u with port := some p, partner := mate.map (·.1), master := true }
    let d := match mate with
      | some (k, q) => d.onUhf k fun u => { u with port := some q, partner := some n, master := false }
      | none => d
    let d := (d.forEach (d.uhfTeam n) Dev.connectPort).steerTo n (d.memberPhase n (d.fld F.UHF_STEER_PHASE))
    let (d, whole) := d.leakVisits n chans m
    let team := d.uhfTeam n
    let d := (d.toStandby n).forEach team fun d c =>
      ((d.onUhf c fun u => { u with port := none, partner := none, master := true }).setFlag (F.UHFCn_STAT_PORT_VALID c) false).showPermit c
    let worse (a b : Nat) : Nat := if (m b).resid.toInt > (m a).resid.toInt then b else a
    let w := chans.foldl worse (chans.headD 0)
    let leak := chans.foldl (fun (a : Int) k => max a (m k).leak.toInt) (-128)
    (d.restandby,
      if !whole then beBytes 1 Code.UHF_PORT_UNAVAILABLE ++ zeros 3
      else if chans.any fun k => !(m k).trained then beBytes 1 Code.UHF_LEAK_HIGH ++ zeros 3
      else beBytes 1 (ofInt 8 leak) ++ beBytes 1 (m w).resid.toNat ++ beBytes 1 w ++ beBytes 1 (m w).gain.val)

/-- A port of a leakage sweep's mask has a route that no chain can serve (R179). -/
def Dev.leakRouteBad (d : Dev) (mask : Nat) : Bool :=
  (bitsSet 8 mask).any fun p => uhfProfOk (d.uhfProfile p) && !([0, 1].any fun n => d.uhfServes n p)

/-- A leakage sweep at the head of the queue that an open window or a missing grant holds back (R11, R262, R263, R267): REQ is asserted and the
command waits. Log 72 DEDUCED. -/
def Dev.leakHeld (d : Dev) : Option Dev :=
  match d.takeCmd 0x27 with
  | none => none
  | some (c, _) =>
    let ports := (bitsSet 8 (byteAt c.payload 0)).filter fun p => (d.leakTeam p).isSome
    if d.mode != Mode.commission || d.trans.isSome || ports.isEmpty then none
    else if d.windowOpen then some d
    else if ports.all d.coexGranted then none
    else some (ports.foldl (fun d p => d.coexRequest p false) d)

/-- CAL_UHF_LEAK (R179, R203): refused with CC_UHF_PROFILE where it names a port whose route cannot be served. -/
def Dev.leakSweep (d : Dev) (ms : List (List LeakMeasure)) : Dev :=
  match d.leakHeld with
  | some d => d
  | none => match d.takeCmd 0x27 with
    | some (c, e) =>
      let run (d : Dev) : Dev := d.sweep 0x27 fun d c => sweepEach (bitsSet 8 (byteAt c.payload 0)) ms [] Dev.leakPort d
      if d.mode != Mode.commission || d.trans.isSome then run d
      else if d.leakRouteBad (byteAt c.payload 0) then e.cmdDone c Code.CC_UHF_PROFILE []
      else (run ((bitsSet 8 (byteAt c.payload 0)).foldl (fun d p => d.coexWaited p) d)).coexIdle
    | none => d

/-! ### TIME_SET -/

/-- TIME_SET (R468, R469): the Attic takes OFFSET at once; the outcome waits for the TIMESYNC record where the Cellar journals.
Log 21 DEDUCED. -/
def Dev.timeSet (d : Dev) : Dev :=
  match d.takeCmd 0x40 with
  | none => d
  | some (c, d) =>
    let w := numAt c.payload 0 6
    if w = 0 || !zeroAt c.payload 6 7 then d.cmdDone c Code.CC_TIME_SET []
    else if d.journalling && (d.jrn.full || d.spent) then d.cmdDone c Code.JRNL_NO_ROOM []
    else
      let old := if d.attic.wallSet then d.wallAt c.tr else 0
      let unsync := d.unsync
      let rc := d.attic.rcSpan
      let d := d.setWall 1 c.tr w
      if !d.journalling then d.cmdDone c Code.OK []
      else d.post (timesync 1 unsync rc old w c.tr c.reqId (.timeSet c.reqId))

/-! ### Meanings -/

/-- CAL_TUNE (R114). -/
def execCalTune (ms : List TuneMeasure) (s : State) : Host.Outcome State Fault Refusal :=
  s.onDev fun d => d.sweep 0x24 fun d c => sweepEach (bitsSet 16 (numAt c.payload 0 2)) ms ⟨[], 0, 0⟩ Dev.tunePort d
/-- CAL_COUPLING (R120): no direct step holds an HF chain while it runs, so it waits for one in progress. Log 72 DEDUCED. -/
def execCalCoupling (ks : List (List Word)) (s : State) : Host.Outcome State Fault Refusal :=
  s.onDev fun d => if d.hfDirectRuns then d else d.sweep 0x25 fun d c => sweepEach (bitsSet 16 (numAt c.payload 0 2)) ks [] Dev.coupleSet d
/-- CAL_RXGAIN (R142). -/
def execCalRxgain (gs : List (Option (Fin 48))) (s : State) : Host.Outcome State Fault Refusal :=
  s.onDev fun d => d.sweep 0x26 fun d c => sweepEach (bitsSet 16 (numAt c.payload 0 2)) gs none Dev.gainPort d
/-- CAL_UHF_LEAK (R203). -/
def execCalUhfLeak (ms : List (List LeakMeasure)) (s : State) : Host.Outcome State Fault Refusal :=
  s.onDev (·.leakSweep ms)
/-- TIME_SET (R468). -/
def execTimeSet (s : State) : Host.Outcome State Fault Refusal := s.onDev Dev.timeSet

end Sys2Proof.Machine
end

