-- ==== Sys2Proof/Machine/Flags.lean ====
section
/-!
DEFINITION. The flags and views: what a register word reads as when its value follows other state, the status byte (R433), the
interrupt line (R446) and TAMPER_OUT (R409).
-/

namespace Sys2Proof.Machine

open Sys2Proof

/-- A word built from fields `(hi, lo, value)`; the other bits are 0. -/
def pack (l : List (Nat × Nat × Nat)) : Word := l.foldl (fun w x => putBits w x.1 x.2.1 x.2.2) 0#32

/-- A word with fields `(hi, lo, value)` put into it. -/
def repack (w : Word) (l : List (Nat × Nat × Nat)) : Word := l.foldl (fun w x => putBits w x.1 x.2.1 x.2.2) w

/-- A number as a register word. -/
def wordOf (n : Nat) : Word := BitVec.ofNat 32 n

/-! ### Summary flags -/

/-- Chains of a band whose fault is latched, bit n for chain n. -/
def Dev.faultBits (d : Dev) (n : Nat) (f : Nat → Fld) : Nat := (List.range n).foldl (fun a k => a + b2n (d.flag (f k)) * 2 ^ k) 0

/-- FLT_STAT as it reads (R495). -/
def Dev.fltStat (d : Dev) : Word :=
  repack (d.reg R.FLT_STAT) [(31, 28, d.faultBits 4 F.HFCn_STAT_FAULT), (27, 26, d.faultBits 2 F.UHFCn_STAT_FAULT),
    (4, 0, d.flt.length)]

/-- FLT_PORTS as it reads (R495). -/
def Dev.fltPorts (d : Dev) : Word := pack [(23, 16, d.faultBits 8 F.UHFPn_STAT_FAULT), (15, 0, d.faultBits 16 F.HFPn_STAT_FAULT)]

/-- DEV_STAT.FAULT (R492). -/
def Dev.faulted (d : Dev) : Bool := bitsOf d.fltStat 31 19 != 0 || d.fltPorts != 0#32

/-- DEV_STAT as it reads (R35, R492). -/
def Dev.devStat (d : Dev) : Word :=
  pack [(15, 12, d.mode), (11, 11, b2n d.bootDone), (10, 10, b2n d.unsync), (9, 9, b2n d.attic.rcSpan), (8, 8, b2n d.latched),
    (7, 7, b2n d.faulted)]

/-- The status bit JRN (R371). -/
def Dev.jrnBit (d : Dev) : Bool := !d.fromCursor.isEmpty

/-- The command queue is full (R424). -/
def Dev.queueFull (d : Dev) : Bool := decide (d.host.cmdq.length ≥ 16)

/-- The status byte (R433). -/
def Dev.statusByte (d : Dev) : Byte :=
  BitVec.ofNat 8 (b2n d.host.rdy * 128 + b2n d.host.err * 64 + b2n d.host.dup * 32 + b2n (!d.host.ring.isEmpty) * 16 +
    b2n d.jrnBit * 8 + b2n d.queueFull * 4 + b2n d.faulted * 2 + b2n d.latched)

/-- The sources pending (R446). -/
def Dev.irqPending (d : Dev) : Nat :=
  let evt := d.host.ring.any fun e => bit (d.reg R.HOST_EVT_IRQ).toNat e.kind
  let mbox := d.chans.any fun x => x.2.direct && !x.2.results.isEmpty
  b2n evt + b2n d.jrnBit * 2 + b2n mbox * 4 + b2n d.faulted * 8 + b2n d.latched * 16

/-- IRQ_N is driven low (R446): never before boot step 8 or in WATCH. -/
def Dev.irq (d : Dev) : Bool :=
  (d.phase == .running || d.phase == .flushed) && d.bootDone && d.irqPending &&& d.fld F.HOST_IRQ_EN_EN != 0

/-- The level of TAMPER_OUT (R409). -/
def Dev.tamperOut (d : Dev) : Bool :=
  let fl := byteAt d.attic.tamperCfg 4
  d.attic.up && d.attic.tamperSet && (bit fl 3 == (d.latched && bit fl 2))

/-- HOST_STAT as it reads (R447): ADDR_END is held, the rest follows the port. -/
def Dev.hostStat (d : Dev) : Word :=
  let o := byteAt d.host.opts 0
  repack (d.reg R.HOST_STAT &&& 0x80000000#32) [(30, 30, o % 2), (29, 29, o / 2 % 2), (28, 28, o / 4 % 2),
    (27, 24, byteAt d.host.opts 2), (23, 16, d.host.alive.getD 0), (12, 8, d.host.cmdq.length), (7, 7, b2n d.host.alive.isNone)]

/-! ### Views, window by window -/

/-- Words that follow the fuses, the mode, time and the host port. Log 8 DESIGN CHOICE, 116 DEDUCED. -/
def Dev.viewPort (d : Dev) (fu : Fuses) (a : Nat) : Option Word :=
  if a = R.DEV_SERIAL_HI then some (wordOf (fu.serial / 2 ^ 32))
  else if a = R.DEV_SERIAL_LO then some (wordOf fu.serial)
  else if a = R.DEV_CAP then
    some (repack 0x00421008#32 [(31, 31, b2n (!regionBlank fu.region)), (30, 30, b2n fu.debugOff)])
  else if a = R.DEV_STAT then some d.devStat
  else if a = R.SUP_DIRECT_QUOTA then
    some (repack (d.reg a) [(15, 8, ((List.range 6).foldl (fun m n => max m (d.directUsed n)) 0) / 10000)])
  else if a = R.HOST_STAT then some d.hostStat
  else if a = R.HOST_IRQ_STAT then some (pack [(31, 31, b2n d.irq), (4, 0, d.irqPending)])
  else if a = R.HOST_EVT_STAT then some (repack (d.reg a) [(8, 0, d.host.ring.length)])
  else if a = R.HOST_JRN_STAGED then
    some (pack [(31, 31, b2n (d.journalling && decide (d.jrn.staged.length < min 64 d.fromCursor.length))), (6, 0, d.jrn.staged.length)])
  else if a = R.TIME_LO then some (wordOf d.time)
  else if a = R.TIME_HI then some (wordOf (d.time / 2 ^ 32))
  else if a = R.WALL_LO then some (wordOf d.wall)
  else if a = R.WALL_HI then some (wordOf (d.wall / 2 ^ 32))
  else if a = R.TIME_STAT then some (repack (d.reg a) [(31, 31, b2n d.unsync), (30, 30, b2n d.attic.rcSpan)])
  else none

/-- Words that follow profiles and coupling sets (R132, R133, R210), the governor (R268) and the baselines (R287). -/
def Dev.viewRadio (d : Dev) (a : Nat) : Option Word :=
  if 0x211 ≤ a && a ≤ 0x21F then some (profWord (d.tables.sets.getD (d.fld F.HFSET_SEL_SET) []) (a - 0x211))
  else if 0x300 ≤ a && a ≤ 0x3FF then
    let n := (a - 0x300) / 0x10
    let k := a % 0x10
    if k ≥ 4 then some (profWord (d.hfProfile n) (k - 4))
    else if k = 1 then some (repack (d.reg a) [(23, 16, (d.setOf n).getD 0xFF)])
    else none
  else if 0x412 ≤ a && a ≤ 0x41D then some (profWord (d.profile (d.fld F.UHFPROF_SEL_PROFILE)) (a - 0x412))
  else if a = R.GOV_STAT then some (repack (d.reg a) [(9, 0, d.dutyUsed / 1000)])
  else if a = R.GOV_DWELL then some (pack [(31, 16, d.dwell 0 / 1000), (15, 0, d.dwell 1 / 1000)])
  else if a = R.WATCH_BASE then
    match (d.sense (d.fld F.WATCH_SEL_PORT)).base with
    | none => some 0#32
    | some b =>
      some (pack [(31, 16, Config.magnitudeOf b.value.re b.value.im), (9, 0, (Config.phaseOf b.value.re b.value.im).toNat)])
  else none

/-- Words that follow the Cellar and the counter store (R382, R383); `free` gives what the model leaves open of the memory port's use. -/
def Dev.viewJournal (d : Dev) (free : Word) (a : Nat) : Option Word :=
  if a = R.JRN_LAST_SEQ then some (wordOf (d.csw 2))
  else if a = R.JRN_DURABLE then some (wordOf (d.csw 3))
  else if a = R.JRN_CURSOR then some (wordOf (d.csw 4))
  else if a = R.JRN_CURSOR_SEQ then some (wordOf (d.csw 5))
  else if a = R.JRN_UNACK then some (wordOf d.fromCursor.length)
  else if a = R.JRN_LARDER then some (repack (d.reg a) [(26, 16, d.jrn.larder.length), (7, 0, d.undurable)])
  else if a = R.JRN_LOSS then some (wordOf (d.csw 0x0A))
  else if R.JRN_DEVn 0 ≤ a && a ≤ R.JRN_DEVn 3 then
    let n := a - R.JRN_DEVn 0
    some (repack (d.reg a) [(31, 16, if d.jPresent n then d.freeBlocks n else 0), (15, 0, (d.nd n).bad.length)])
  else if a = R.MEM_CFG then
    let b := d.jrn.cfg
    some (if b.isEmpty then d.reg a else pack [(12, 12, byteAt b 20), (11, 8, byteAt b 21), (3, 0, byteAt b 3)])
  else if a = R.MEM_STAT then
    some (repack (d.reg a) [(31, 26, 0), (13, 8, d.memq.length)])
  else if a = R.MEM_SHARE then some (pack [(31, 24, bitsOf free 31 24 % 101), (23, 16, bitsOf free 23 16 % 101)])
  else none

/-- Words that follow the Vault, the Attic's tamper block and their counter-store words (R411). -/
def Dev.viewVault (d : Dev) (fu : Fuses) (a : Nat) : Option Word :=
  let cfg := d.attic.tamperCfg
  if a = R.VLT_STAT then
    some (repack (d.reg a) [(31, 31, b2n (d.gateOpen fu)), (30, 30, b2n d.latched), (29, 29, b2n fu.hard), (28, 28, b2n fu.hardBlown),
      (27, 27, b2n (d.attic.sources != 0)), (26, 26, b2n fu.debugOff), (25, 25, b2n d.vault.drbgOk),
      (24, 24, b2n (d.vault.slots.getD 4 none).isSome), (8, 0, d.attic.sources)])
  else if a = R.VLT_TAMPER_SEEN then some (wordOf (d.csw 0x20 % 512))
  else if a = R.VLT_TAMPER_COUNT then some (wordOf (d.csw 9))
  else if a = R.VLT_TAMPER_JRNL then some (wordOf (d.csw 0x22))
  else if a = R.VLT_REARM_COUNT then some (wordOf (d.csw 0x27))
  else if a = R.VLT_TAMPER_TIME_HI then some (wordOf (d.csw 0x25))
  else if a = R.VLT_TAMPER_TIME_LO then some (wordOf (d.csw 0x26))
  else if a = R.VLT_TAMPER_CFG then
    some (pack [(31, 28, byteAt cfg 0), (27, 24, byteAt cfg 1), (23, 20, byteAt cfg 2), (19, 16, byteAt cfg 3),
      (15, 12, byteAt cfg 4), (11, 8, byteAt cfg 5)])
  else none

/-- The GPIO pins that the GPIO section drives with FUNC `f`, once pins have functions (R40, R342). -/
def Dev.pinsOf (d : Dev) (f : Nat) : Nat := (List.range 24).foldl (fun a n => a + b2n (d.gpioFunc n == f) * 2 ^ n) 0

/-- The levels that UHF chains drive on the pins of FUNC 3 (R174, R342): the three bits of a chain's ANTSEL code, least significant first from
its ANTSEL_GPIO. -/
def Dev.antselLevels (d : Dev) : Nat :=
  ([0, 1].map fun n => match byteAt (d.tables.radio.getD n []) 2 with
    | 0xFF => 0
    | g => (d.uhfc n).antsel * 2 ^ g).foldl (· ||| ·) 0 &&& d.pinsOf 3

/-- Words that follow pins, objects and the fault log (R344, R345, R495); an input pin's level is open. Log 8 DESIGN CHOICE. -/
def Dev.viewPins (d : Dev) (free : Word) (a : Nat) : Option Word :=
  if a = R.GPIO_IN then
    let held := d.pinsOf 1 + d.pinsOf 2
    let driven := held + d.pinsOf 3
    some (wordOf (((d.reg R.GPIO_OUT).toNat &&& held) ||| d.antselLevels ||| (free.toNat % 2 ^ 24 &&& (2 ^ 24 - 1 - driven))))
  else if a = R.GPIO_OUT then some (wordOf ((d.reg a).toNat &&& d.pinsOf 1))
  else if a = R.OBJ_COUNT then some (wordOf (d.tables.objects.filter fun x => objValid x.2.bytes).length)
  else if a = R.FLT_STAT then some d.fltStat
  else if a = R.FLT_PORTS then some d.fltPorts
  else if a = R.FLT_BOOT then some (wordOf (d.csw 0x30))
  else none

/-- A register word as it reads (R6, R27, R34): a view, or the word held without its WO bits. Log 46 DEDUCED, 84 DEDUCED. -/
def Dev.readWord (d : Dev) (fu : Fuses) (free : Word) (a : Nat) : Word :=
  match d.viewPort fu a with
  | some w => w
  | none => match d.viewRadio a with
    | some w => w
    | none => match d.viewJournal free a with
      | some w => w
      | none => match d.viewVault fu a with
        | some w => w
        | none => (d.viewPins free a).getD (d.reg a)

end Sys2Proof.Machine
end

