-- ==== Sys2Proof/Machine/HostRegs.lean ====
section
/-!
DEFINITION. Register words as the host writes and reads them: block windows (R32, R33, R418), classes and access codes (R5, R6, R420), what a
write sets going, the register pairs (R465), and the fields cleared by a read (R419).
-/

namespace Sys2Proof.Machine

open Sys2Proof

/-! ### Windows -/

/-- The last address of the block window that holds an address (R32, R33). -/
def blockEnd (a : Nat) : Nat :=
  if a < 0x40 then 0x3F
  else if a < 0x80 then 0x7F
  else if a < 0x100 then 0xFF
  else if a < 0x200 then 0x1FF
  else if a < 0x300 then a / 0x40 * 0x40 + 0x3F
  else if a < 0x400 then a / 0x10 * 0x10 + 0xF
  else if a < 0x500 then a / 0x80 * 0x80 + 0x7F
  else if a < 0x540 then a / 8 * 8 + 7
  else if a < 0x600 then 0x5FF
  else if a < 0x680 then 0x67F
  else if a < 0x700 then 0x6FF
  else if a < 0xC00 then a / 0x100 * 0x100 + 0xFF
  else if a < 0xC60 then a / 0x10 * 0x10 + 0xF
  else if a < 0xD00 then 0xCFF
  else if a < 0xE00 then a / 0x20 * 0x20 + 0x1F
  else if a < 0xF00 then 0xEFF
  else if a < 0xF80 then 0xF7F
  else 0xFFF

/-! ### Pairs (R465) -/

/-- The other member of a 64-bit pair. -/
def pairPartner (a : Nat) : Option Nat :=
  let both (x y : Nat) : Option Nat := if a = x then some y else if a = y then some x else none
  [(R.TIME_LO, R.TIME_HI), (R.WALL_LO, R.WALL_HI), (R.SNAP_TIME_LO, R.SNAP_TIME_HI), (R.SNAP_WALL_LO, R.SNAP_WALL_HI),
    (R.DEV_SERIAL_HI, R.DEV_SERIAL_LO), (R.UHFCn_CALMAP_HI 0, R.UHFCn_CALMAP_LO 0), (R.UHFCn_CALMAP_HI 1, R.UHFCn_CALMAP_LO 1),
    (R.GOV_CHMASK_HI, R.GOV_CHMASK_LO), (R.VLT_TAMPER_TIME_HI, R.VLT_TAMPER_TIME_LO)].findSome? fun x => both x.1 x.2

/-- The holding copy of the pair of an address disarmed. -/
def Dev.disarm (d : Dev) (a : Nat) : Dev :=
  match pairPartner a with
  | none => d
  | some b => { d with host := { d.host with pairs := d.host.pairs.filter fun x => x.1 != a && x.1 != b } }

/-- One word read (R27, R464, R465): the holding copy where it is armed for this member; else the word, its partner latched. -/
def Dev.readOne (d : Dev) (fu : Fuses) (a : Nat) : Word × Dev :=
  match d.host.pairs.find? (·.1 == a) with
  | some x => (x.2, d.disarm a)
  | none =>
    let w := d.readWord fu (Config.freeWord d.freeCtr) a
    let d := { d with freeCtr := d.freeCtr + 1 }
    let d := match pairPartner a with
      | none => d
      | some b =>
        let v := d.readWord fu 0#32 b
        let d := d.disarm a
        { d with host := { d.host with pairs := d.host.pairs ++ [(b, v)] } }
    if 0xD00 ≤ a && a ≤ 0xDFF && (a % 0x20 == 0xB || a % 0x20 == 0xC) then
      (w, d.captureRead ((a - 0xD00) / 0x20) (a % 0x20 - 0xB))
    else (w, d)

/-- The words of a burst from `a`, in ascending address; a word beyond the window's end `last` is not addressed and reads 0 (R418). -/
def Dev.readBurst (d : Dev) (fu : Fuses) (last : Nat) : Nat → Nat → List Word × Dev
  | _, 0 => ([], d)
  | a, n + 1 =>
    let (w, d) := if a ≤ last then d.readOne fu a else (0#32, d)
    let (ws, d) := d.readBurst fu last (a + 1) n
    (w :: ws, d)

/-- The RC fields of a word that was read as `w` are cleared by subtracting the value returned (R8, R419); the channel counters behind
the snapshots of 0x808–0x80A with them. -/
def Dev.clearRead (d : Dev) (a : Nat) (w : Word) : Dev :=
  let rc := (accessOf a).rc
  if rc = 0#32 then d
  else
    let slot := d.fld F.CHN_SEL_SLOT
    let hi := bitsOf w 31 16
    let lo := bitsOf w 15 0
    let handle := if d.flag F.CHN_SEL_DEV then 0 else d.handle slot
    let d := if a = R.CHN_CNT0 then d.onChan slot fun c => { c with ok := c.ok - hi, failed := c.failed - lo }
      else if a = R.CHN_CNT1 then d.onChan slot fun c => { c with retries := c.retries - hi, deadlines := c.deadlines - lo }
      else if a = R.CHN_DUP then d.onHistory handle fun h => { h with dup := h.dup - hi, stale := h.stale - lo }
      else d
    d.setReg a (d.reg a &&& ~~~rc)

/-- The RC fields of a burst. -/
def Dev.clearBurst (d : Dev) (last : Nat) : Nat → List Word → Dev
  | _, [] => d
  | a, w :: ws => (if a ≤ last then d.clearRead a w else d).clearBurst last (a + 1) ws

/-! ### Writes: classes and access codes (R5, R6, R420) -/

/-- A word stored by its access codes: RW bits take the word, W1C bits written 1 clear, W1S bits written 1 set. -/
def Dev.store (d : Dev) (a : Nat) (w : Word) : Dev :=
  let r := accessOf a
  d.setReg a ((((d.reg a &&& ~~~r.rw) ||| (w &&& r.rw)) &&& ~~~(w &&& r.w1c)) ||| (w &&& r.w1s))

/-- The class L bits of a word that are locked now (R5, R420, and the register tables). Log 64 DEDUCED, 109 DEDUCED. -/
def Dev.lockMask (d : Dev) (a : Nat) : Word :=
  let lck := (accessOf a).lck
  let held (b : Bool) : Word := if b then lck else 0#32
  if lck = 0#32 then 0#32
  else if a = R.COEX_CFG then
    (if d.flag F.COEX_CFG_A_EN then maskOf 25 16 else 0#32) ||| (if d.flag F.COEX_CFG_B_EN then maskOf 9 0 else 0#32)
  else if a = R.UHF_STEER then held (d.flag F.UHF_STEER_EN)
  else if a < 0x300 then held (d.flag (F.HFCn_BOND_EN ((a - 0x200) / 0x40)))
  else if a < 0x400 then held (d.flag (F.HFPn_CFG_ENABLE ((a - 0x300) / 0x10)))
  else if 0x412 ≤ a && a ≤ 0x41D then held (d.profileLocked (d.fld F.UHFPROF_SEL_PROFILE))
  else if a < 0x500 then held (d.flag (F.UHFCn_CTL_ENABLE ((a - 0x400) / 0x80)))
  else if a < 0x600 then held (d.flag (F.UHFPn_CFG_ENABLE ((a - 0x500) / 8)))
  else if a < 0x700 then held (d.flag (F.COEX_PWk_CFG_EN ((a - 0x684) / 2)))
  else if a < 0xD00 then held (d.flag (F.CVUn_CFG_ENABLE ((a - 0xC00) / 0x10)))
  else held (d.flag (F.TMRn_CTL_ENABLE ((a - 0xD00) / 0x20)))

/-- Values the register tables store as another: HFCn_RXCFG.FINE, UHFCn_TXCFG.TXPWR, UHFCn_RXCFG.GAIN, UHFCn_AIRCFG.CAPTURE_MARGIN and the
leads of COEX_CFG. The route's maximum of TXPWR is that of the port held, 160 with none. Log 64 DEDUCED. -/
def Dev.clampWord (d : Dev) (a : Nat) (w : Word) : Word :=
  if a = R.COEX_CFG then putBits (putBits w 25 16 (min 500 (bitsOf w 25 16))) 9 0 (min 500 (bitsOf w 9 0))
  else if 0x200 ≤ a && a < 0x300 && a % 0x40 = 0x20 then putBits w 18 16 (min 5 (bitsOf w 18 16))
  else if 0x400 ≤ a && a < 0x500 then
    let n := (a - 0x400) / 0x80
    let off := a % 0x80
    let top := match (d.uhfc n).port with
      | some p => if profRoute (d.uhfProfile p) = 0 then 124 else 160
      | none => 160
    if off = 0x08 then putBits w 8 0 (min top (bitsOf w 8 0))
    else if off = 0x0D then putBits w 20 16 (min 30 (bitsOf w 20 16))
    else if off = 0x40 then putBits w 3 0 (max 3 (bitsOf w 3 0))
    else w
  else w

/-- An enable field written (R82, R88): 1 is checked, 0 acts on an enable that is 1. -/
def Dev.setEnable (d : Dev) (e : Enable) (on : Bool) : Dev :=
  if on then d.writeEnable e true else if d.flag (enableFld e) then d.writeEnable e false else d

/-- A word with an enable field: the other fields first, then the enable. -/
def Dev.writeWithEnable (d : Dev) (e : Enable) (w : Word) : Dev :=
  let f := enableFld e
  (d.store f.addr (putBits w f.hi f.lo (b2n (d.flag f)))).setEnable e (bitsOf w f.hi f.lo != 0)

/-- CVUn_STAT.ANY written 1 (R455): the next alive value passes; on the host port's own unit, the port's next value. Log 115 DEDUCED. -/
def Dev.cvuAny (d : Dev) (u : Nat) : Dev :=
  let d := d.setFlag (F.CVUn_STAT_ANY u) true
  if d.flag (F.CVUn_CFG_OWNED u) && optRx d.host.opts == some u then { d with host := { d.host with alive := none } } else d

/-! ### Writes, block by block -/

/-- A word of an HF chain's window (R131, R173). -/
def Dev.writeHfc (d : Dev) (a : Nat) (w : Word) : Dev :=
  let n := (a - 0x200) / 0x40
  match a % 0x40 with
  | 0x00 => d.writeWithEnable (.hfc n) w
  | 0x02 => d.txctl n w
  | 0x04 => if w.getLsbD 0 then d.groupCommit (.hf (Fin.ofNat 4 n)) else d
  | 0x05 => (d.writeWithEnable (.hfBond n) w).driveChanged n
  | _ => d.store a w

/-- A word of an HF port's window (R112, R133). -/
def Dev.writeHfp (d : Dev) (a : Nat) (w : Word) : Dev :=
  let n := (a - 0x300) / 0x10
  match a % 0x10 with
  | 0x00 => d.writeWithEnable (.hfp n) w
  | 0x01 => if w.getLsbD 31 then d.hfpClear n else d
  | 0x02 => d
  | 0x03 => d
  | k => d.writeProfile (d.fld (F.HFPn_CFG_PROFILE n)) (k - 4) w

/-- A word of a UHF chain's window (R209, R210, R245). -/
def Dev.writeUhfc (d : Dev) (a : Nat) (w : Word) : Dev :=
  let n := (a - 0x400) / 0x80
  if a = R.UHF_STEER then
    d.writeWithEnable .steer w
  else if 0x412 ≤ a && a ≤ 0x41D then d.writeProfile (d.fld F.UHFPROF_SEL_PROFILE) (a - 0x412) w
  else match a % 0x80 with
    | 0x00 => d.writeWithEnable (.uhfc n) w
    | 0x02 => if w.getLsbD 1 then (d.store a w).recalChain n else d.store a w
    | 0x04 => if w.getLsbD 0 then d.groupCommit (.uhf (Fin.ofNat 2 n)) else d
    | _ => d.store a w

/-- A word of a UHF port's window (R211). -/
def Dev.writeUhfp (d : Dev) (a : Nat) (w : Word) : Dev :=
  let n := (a - 0x500) / 8
  match a % 8 with
  | 0 => d.writeWithEnable (.uhfp n) w
  | 1 => if w.getLsbD 31 then d.uhfpClear n else d
  | _ => d

/-- COEX_CFG written (R262, R265, R266, R269): carriers on are gated as it now stands, and a ramp that no longer needs a grant waits for
none. Log 62 DEDUCED. -/
def Dev.writeCoexCfg (d : Dev) (w : Word) : Dev :=
  let was := d.flag F.COEX_CFG_A_EN
  let on := w.getLsbD 31
  let d := d.store R.COEX_CFG (putBits w 31 31 (b2n was))
  let d := if on != was then d.coexAEn on else d
  let d := d.forEach [0, 1] fun d n =>
    if (d.uhfc n).waitGrant && !d.ungranted n then d.onUhf n fun u => { u with waitGrant := false } else d
  d.coexIdle.gateCarriers

/-- A word of the governor's or the coexistence window (R251, R268, R269). Log 61 DEDUCED. -/
def Dev.writeGov (d : Dev) (a : Nat) (w : Word) : Dev :=
  if a = R.GOV_CTL && w.getLsbD 31 then d.govRestore
  else if R.GOV_UHF ≤ a && a ≤ R.GOV_CTL then d.writeValue a w
  else if a = R.COEX_CFG then d.writeCoexCfg w
  else if R.COEX_PWk_CFG 0 ≤ a && a ≤ R.COEX_PWk_WIN 3 && a % 2 = 0 then d.writeWithEnable (.coexPw ((a - 0x684) / 2)) w
  else d.store a w

/-- A word of the WATCH window (R273, R286, R287). -/
def Dev.writeWatch (d : Dev) (a : Nat) (w : Word) : Dev :=
  if a = R.WATCH_CTL then (if w.getLsbD 31 then d.forgetBases else d).writeValue a w
  else if a ≤ R.WATCH_PERIODk 3 then d.writeValue a w
  else d.store a w

/-- A word of the channel or the object window (R319, R345). -/
def Dev.writeTables (d : Dev) (a : Nat) (w : Word) : Dev :=
  if a = R.CHN_SEL then d.chnSelect (w.getLsbD 31) (bitsOf w 7 0)
  else if a = R.CHN_HSEL then d.chnHselect (bitsOf w 3 0)
  else if a = R.OBJ_SEL then d.objSelect (bitsOf w 11 0)
  else if R.OBJ_Wk 0 ≤ a && a ≤ R.OBJ_Wk 7 then
    { d with tables := { d.tables with staging := overlay d.tables.staging (4 * (a - R.OBJ_Wk 0)) (beBytes 4 w.toNat) } }
  else if a = R.OBJ_CTL then
    let d := if w.getLsbD 1 then d.objLoad else d
    if w.getLsbD 0 then d.objWrite else d
  else d.store a w

/-- A word of a check-value unit (R457, R475). -/
def Dev.writeCvu (d : Dev) (a : Nat) (w : Word) : Dev :=
  let u := (a - 0xC00) / 0x10
  if u ≥ 6 then d
  else match a % 0x10 with
    | 0x0 => if d.flag (F.CVUn_CFG_OWNED u) then d else d.writeWithEnable (.cvu u) w
    | 0x2 => if w.getLsbD 0 then d.groupCommit (.cvu (Fin.ofNat 6 u)) else d
    | 0x3 => d.cvuWrite u false w
    | 0x5 => if d.flag (F.CVUn_CFG_OWNED u) then d else d.store a w
    | 0x6 => d.cvuWrite u true w
    | 0x7 => if w.getLsbD 29 then (d.store a w).cvuAny u else d.store a w
    | 0xA => if d.flag (F.CVUn_CFG_OWNED u) then d else d.store a w
    | _ => d.store a w

/-- A word of a timer (R460, R475). -/
def Dev.writeTmr (d : Dev) (a : Nat) (w : Word) : Dev :=
  let n := (a - 0xD00) / 0x20
  match a % 0x20 with
  | 0x0 => (if w.getLsbD 30 then d.timerClear n else d).writeWithEnable (.tmr n) w
  | 0x9 => if w.getLsbD 0 then d.groupCommit (.tmr (Fin.ofNat 8 n)) else d
  | _ => d.store a w

/-- FLT_SEL written (R493, R495): the snapshot of an entry, the newest being 0. Log 117 DEDUCED. -/
def Dev.fltSelect (d : Dev) (k : Nat) : Dev :=
  let e := ((d.flt[k]?).map (·.bytes)).getD (zeros 32)
  (d.setFld F.FLT_SEL_ENTRY k).forEach (List.range 8) fun d i => d.setReg (R.FLT_Ek i) (profWord e i)

/-- FLT_STAT's W1C bits (R495). -/
def Dev.fltStatClear (d : Dev) (nand clock seq other : Bool) : Dev :=
  d.store R.FLT_STAT (pack [(23, 23, b2n nand), (22, 22, b2n clock), (21, 21, b2n seq), (19, 19, b2n other)])

/-- GPIO_OUT written (R345): the bits of OUTPUT pins. -/
def Dev.writeGpio (d : Dev) (w : Word) : Dev :=
  let m := BitVec.ofNat 32 (d.pinsOf 1)
  d.setReg R.GPIO_OUT ((d.reg R.GPIO_OUT &&& ~~~m) ||| (w &&& m))

/-- What a write of a word does, its locked bits already at their present values. -/
def Dev.writeWord (d : Dev) (a : Nat) (w : Word) : Dev :=
  let r := accessOf a
  if r.stg != 0#32 then
    match groupOf a with
    | some (.cvu u) => if d.flag (F.CVUn_CFG_OWNED u.val) then d else d.writeShadow (.cvu u) a (w &&& r.stg)
    | some g => d.writeShadow g a (w &&& r.stg)
    | none => d
  else if a = R.SUP_MODE then d.modeRequest (bitsOf w 3 0)
  else if a = R.SUP_DIRECT_QUOTA then d.writeValue a w
  else if a < 0x100 then d.store a w
  else if a < 0x200 then if a = R.TIME_SNAP && w.getLsbD 31 then d.timeSnap else d
  else if a < 0x300 then d.writeHfc a w
  else if a < 0x400 then d.writeHfp a w
  else if a < 0x500 then d.writeUhfc a w
  else if a < 0x540 then d.writeUhfp a w
  else if a < 0x700 then d.writeGov a w
  else if a < 0x800 then d.writeWatch a w
  else if a < 0xA00 then d.writeTables a w
  else if a = R.VLT_SLOT_SEL then d.slotSelect (bitsOf w 4 0)
  else if a < 0xC00 then d.store a w
  else if a < 0xD00 then d.writeCvu a w
  else if a < 0xE00 then d.writeTmr a w
  else if a = R.GPIO_OUT then d.writeGpio w
  else if a = R.FLT_CLR then d.recheckStart (bitsOf w 3 0) (bitsOf w 5 4)
  else if a = R.FLT_SEL then d.fltSelect (bitsOf w 3 0)
  else d.store a w

/-- A class L bit that locks the value of a profile word reads from the profile, any other from the register. -/
def Dev.lockedOld (d : Dev) (a : Nat) : Word := (d.viewRadio a).getD (d.reg a)

/-- The host writes a word (R5, R420, R465): locked class L bits keep their values, and the answer says whether one would have changed. -/
def Dev.hostWrite (d : Dev) (a : Nat) (v : Word) : Dev × Bool :=
  let m := d.lockMask a
  let w := d.clampWord a v
  let old := d.lockedOld a
  let w' := (w &&& ~~~m) ||| (old &&& m)
  (((d.disarm a).writeWord a w'), (w ^^^ old) &&& m != 0#32)

/-- The words of a burst written in ascending address (R418): the device, and the first address refused under R420. -/
def Dev.writeBurst (d : Dev) (last : Nat) : Nat → List Word → Dev × Option Nat
  | _, [] => (d, none)
  | a, w :: ws =>
    if a ≤ last then
      let (d, locked) := d.hostWrite a w
      let (d, first) := d.writeBurst last (a + 1) ws
      (d, if locked then some a else first)
    else (d, none)

end Sys2Proof.Machine
end

