-- ==== Sys2Proof/Machine/Host.lean ====
section
/-!
DEFINITION. The host port (Chapter 14): frames, their refusals, protection and effects. A frame is the string of its MOSI bytes; byte 0
holds M and the opcode.
-/

namespace Sys2Proof.Machine

open Sys2Proof

/-! ### Headers (R414, R415) -/

/-- The MOSI bytes of a frame with an opcode. -/
def mosiOf (op : Nat) (f : Frame) : Bytes := BitVec.ofNat 8 (b2n f.m * 128 + op % 128) :: f.rest

/-- The opcode. -/
def frOp (b : Bytes) : Nat := byteAt b 0 % 128
/-- The M bit. -/
def frM (b : Bytes) : Bool := bit (byteAt b 0) 7
/-- ADDR. -/
def frAddr (b : Bytes) : Nat := numAt b 1 2
/-- LEN. -/
def frLen (b : Bytes) : Nat := byteAt b 3

/-- The opcodes of R415. -/
def Op.regRd : Nat := 0x01
/-- See `Op.regRd`. -/
def Op.regWr : Nat := 0x02
/-- See `Op.regRd`. -/
def Op.cmd : Nat := 0x10
/-- See `Op.regRd`. -/
def Op.cmdResult : Nat := 0x11
/-- See `Op.regRd`. -/
def Op.evtRd : Nat := 0x20
/-- See `Op.regRd`. -/
def Op.jrnlRd : Nat := 0x30
/-- See `Op.regRd`. -/
def Op.jrnlAck : Nat := 0x31
/-- See `Op.regRd`. -/
def Op.mboxWr : Nat := 0x40
/-- See `Op.regRd`. -/
def Op.mboxRd : Nat := 0x41
/-- See `Op.regRd`. -/
def Op.status : Nat := 0x7F

/-- The small write frames. -/
def opWrites (op : Nat) : Bool := [Op.regWr, Op.cmd, Op.jrnlAck, Op.mboxWr].contains op
/-- The read frames. -/
def opReads (op : Nat) : Bool := [Op.regRd, Op.cmdResult, Op.evtRd, Op.jrnlRd, Op.mboxRd].contains op

/-- RX_CRC in force (R436). -/
def Dev.rxCrc (d : Dev) : Bool := bit (byteAt d.host.opts 0) 0
/-- TX_CRC in force. -/
def Dev.txCrc (d : Dev) : Bool := bit (byteAt d.host.opts 0) 1
/-- ALIVE in force. -/
def Dev.aliveOn (d : Dev) : Bool := bit (byteAt d.host.opts 0) 2

/-- The end of a write frame's payload, before its trailers (R415). -/
def writeBase (b : Bytes) : Nat :=
  let op := frOp b
  if op = Op.regWr then 5 + 4 * frLen b else if op = Op.cmd then 9 + frLen b else if op = Op.jrnlAck then 9 else 5 + frLen b

/-- The defined end of a write frame (R416). -/
def Dev.writeEnd (d : Dev) (b : Bytes) : Nat := writeBase b + (if frM b then 8 else 0) + (if d.rxCrc then 2 else 0)

/-! ### The command table (R422, R423) -/

/-- Command codes of R422 and R468. -/
def cmdCodes : List Nat :=
  [0x01, 0x02, 0x03, 0x04, 0x05, 0x0F, 0x21, 0x24, 0x25, 0x26, 0x27, 0x28, 0x30, 0x31, 0x32, 0x33, 0x34, 0x40]

/-- Commands whose ADDR is a handle. -/
def cmdHandled (code : Nat) : Bool := 2 ≤ code && code ≤ 5

/-- A payload length that a command takes; any up to 64 for a code that no chapter defines. -/
def cmdLenOk (code op len : Nat) : Bool :=
  match code with
  | 0x01 => len == 8
  | 0x02 => len == 0
  | 0x03 => len == 4
  | 0x04 => len == 0
  | 0x05 => len == 0
  | 0x0F => len == 0
  | 0x21 =>
    if op = 1 then len == 8 else if op = 2 then 9 ≤ len && len ≤ 64 else if op = 3 || op = 4 then len == 4 else 4 ≤ len && len ≤ 64
  | 0x24 => len == 4
  | 0x25 => len == 4
  | 0x26 => len == 4
  | 0x27 => len == 4
  | 0x28 => len == 4
  | 0x30 => len == 40
  | 0x31 => len == 4
  | 0x32 => len == 12
  | 0x33 => len == 0
  | 0x34 => if op = 1 then len == 4 else if op = 2 then len == 20 else len == 4 || len == 20
  | 0x40 => len == 8
  | _ => len ≤ 64

/-- Payload content that R423 refuses with HOST_BAD_CMD: reserved bits and undefined operations. -/
def cmdPayloadBad (code : Nat) (p : Bytes) : Bool :=
  match code with
  | 0x03 => byteAt p 0 > 1 || !zeroAt p 1 3
  | 0x21 => byteAt p 0 = 0 || byteAt p 0 > 4 || !zeroAt p 1 3
  | 0x24 => !zeroAt p 2 3
  | 0x25 => !zeroAt p 2 3
  | 0x26 => !zeroAt p 2 3
  | 0x27 => !zeroAt p 1 3
  | 0x28 => !zeroAt p 1 3
  | 0x31 => !zeroAt p 1 3
  | 0x32 => !zeroAt p 1 3
  | 0x34 => byteAt p 0 = 0 || byteAt p 0 > 2 || !zeroAt p 1 3
  | _ => false

/-! ### Refusals in the order of R435 -/

/-- 1: opcode and M. -/
def badOpcode (b : Bytes) : Bool :=
  let op := frOp b
  !(opWrites op || opReads op || op == Op.status) || (frM b && opReads op)

/-- 2: LEN. -/
def badLength (b : Bytes) : Bool :=
  let op := frOp b
  let len := frLen b
  if op = Op.regRd || op = Op.regWr then len < 1 || len > 16
  else if op = Op.cmd then len > 64 || !cmdLenOk (byteAt b 5) (byteAt b 9) len
  else if op = Op.cmdResult then len > 0x0F && len != 0x80
  else if op = Op.mboxRd then len < 1
  else len < 1 || len > 64

/-- 3: ADDR. -/
def badAddr (b : Bytes) : Bool :=
  let op := frOp b
  if op = Op.regRd || op = Op.regWr then frAddr b ≥ 0x1000
  else [Op.evtRd, Op.jrnlRd, Op.jrnlAck].contains op && frAddr b != 0

/-- The words a register frame addresses lie in 0x000–0x03F or 0x050–0x053 (R41, R421). -/
def earlyWords (b : Bytes) : Bool :=
  let a := frAddr b
  let last := min (a + frLen b - 1) (blockEnd a)
  last ≤ 0x3F || (0x50 ≤ a && last ≤ 0x53)

/-- The entry a SELECT names (R426). -/
def History.select (h : History) (sel : Nat) : Option HistEntry :=
  if sel = 0x80 then h.entries.find? (·.id == h.lastId) else h.entries[sel]?

/-- A frame that a halted boot serves beside those of R41: the re-arm command and its result (R57, R408). Log 34 DEDUCED. -/
def Dev.rearmFrame (d : Dev) (b : Bytes) : Bool :=
  frAddr b == 0 &&
    ((frOp b == Op.cmd && byteAt b 5 == 0x34) ||
      (frOp b == Op.cmdResult && (d.host.hist.select (frLen b)).any (·.cmd == 0x34)))

/-- 4: HOST_NOT_READY and HOST_BOOT_HALTED (R41, R57, R280, R421, R429); 0 where the frame is served. Log 34 DEDUCED, 109 DEDUCED. -/
def Dev.readyCode (d : Dev) (b : Bytes) : Nat :=
  let op := frOp b
  if d.phase == .waking then Code.HOST_NOT_READY
  else if !d.bootDone then
    if op == Op.regRd && earlyWords b then 0
    else if d.phase == .halted then (if d.rearmFrame b then 0 else Code.HOST_BOOT_HALTED)
    else Code.HOST_NOT_READY
  else if d.phase == .flushed && (op == Op.jrnlRd || op == Op.jrnlAck) then Code.HOST_NOT_READY
  else 0

/-- The verdict of the alive counter (R439): 0 for a pass, else the flag REPEAT 2, SKIP 4 or BACKWARD 8. -/
def Dev.aliveVerdict (d : Dev) (b : Bytes) : Nat :=
  match d.host.alive with
  | none => 0
  | some e =>
    let dist := (byteAt b 4 + 256 - e) % 256
    if !d.aliveOn || dist = 0 then 0 else if dist = 255 then 2 else if dist ≤ 127 then 4 else 8

/-- The checks 1–5, which the header decides for a read frame. -/
def Dev.headCode (d : Dev) (b : Bytes) : Nat :=
  firstCode [(badOpcode b, Code.HOST_BAD_OPCODE), (badLength b, Code.HOST_BAD_LENGTH), (badAddr b, Code.HOST_BAD_ADDR),
    (d.readyCode b != 0, d.readyCode b), (d.aliveVerdict b != 0, Code.HOST_ALIVE)]

/-- 6: the CRC of a frame (R440), over `n` bytes and placed after them. -/
def Dev.crcBad (d : Dev) (b : Bytes) (n : Nat) : Bool := d.rxCrc && numAt b n 2 != crc16X25 (b.take n)

/-- The session CMAC of a frame verifies (R442). -/
def Dev.macOk (d : Dev) (b : Bytes) : Bool :=
  match d.vault.slots.getD 4 none with
  | none => false
  | some k =>
    let n := writeBase b
    slice b n 8 == (cmac k.key (beBytes 4 (d.reg R.HOST_SESSION_CTR).toNat ++ b.take n)).take 8

/-- A frame that must carry a CMAC (R422, R442). Log 108 DEDUCED. -/
def Dev.macNeeded (d : Dev) (b : Bytes) : Bool :=
  let op := frOp b
  let req := byteAt d.host.opts 2
  if op = Op.cmd then
    let code := byteAt b 5
    code == 0x28 || (bit req 1 && code != 0x32 && code != 0x34)
  else (op == Op.regWr && bit req 0) || (op == Op.mboxWr && bit req 2) || (op == Op.jrnlAck && bit req 3)

/-- 7: HOST_MAC. -/
def Dev.macBad (d : Dev) (b : Bytes) : Bool := if frM b then !d.macOk b else d.macNeeded b

/-- 8: HOST_BAD_HANDLE (R290, R423). -/
def Dev.handleBad (d : Dev) (b : Bytes) : Bool :=
  let op := frOp b
  let h := frAddr b
  let dead := (d.liveSlot h).isNone
  if op = Op.cmd then
    let code := byteAt b 5
    if cmdHandled code then dead else !cmdCodes.contains code && h != 0 && dead
  else if op = Op.cmdResult then h != 0 && dead
  else (op == Op.mboxWr || op == Op.mboxRd) && dead

/-- 9: HOST_NOT_DIRECT (R431). -/
def Dev.notDirect (d : Dev) (b : Bytes) : Bool :=
  (frOp b == Op.mboxWr || frOp b == Op.mboxRd) && (d.byHandle (frAddr b)).any (!·.direct)

/-- 10: HOST_BAD_CMD (R422, R423). -/
def cmdBad (b : Bytes) : Bool :=
  let code := byteAt b 5
  frOp b == Op.cmd &&
    (!cmdCodes.contains code || (!cmdHandled code && frAddr b != 0) || byteAt b 6 != 0 ||
      cmdPayloadBad code (slice b 9 (frLen b)))

/-! ### Requests (R300–R302) -/

/-- The verdict of R300: 0 entered, 1 a duplicate, else HOST_STALE or HOST_BUSY. -/
def Dev.requestCode (d : Dev) (handle id : Nat) : Nat :=
  let h := d.history handle
  let ahead := (id + 65536 - h.newest) % 65536
  if h.entries.any (·.id == id) then 1
  else if !h.entries.isEmpty && !(1 ≤ ahead && ahead ≤ 32767) then Code.HOST_STALE
  else if d.queueFull || (decide (h.entries.length ≥ 16) && h.entries.all (·.st != .done)) then Code.HOST_BUSY
  else 0

/-- The history with room for one more entry: at 16, the oldest DONE entry is evicted. -/
def evictDone (l : List HistEntry) : List HistEntry :=
  if l.length < 16 then l else (l.reverse.eraseP (·.st == .done)).reverse

/-- R300 applied for a command that passed the frame checks: the verdict and the device. -/
def Dev.request (d : Dev) (handle id code : Nat) (payload : Bytes) (mac : Bool) : Nat × Dev :=
  let d := d.onHistory handle fun h => { h with lastId := id }
  let r := d.requestCode handle id
  if r = 0 then
    let d := d.onHistory handle fun h =>
      { h with entries := { id := id, cmd := code, st := .queued } :: evictDone h.entries, newest := id }
    (0, d.setQueue (d.host.cmdq ++ [⟨handle, code, id, payload, d.time, mac⟩]))
  else if r = 1 then (1, d.onHistory handle fun h => { h with dup := satAdd 0xFFFF h.dup 1 })
  else if r = Code.HOST_STALE then (r, d.onHistory handle fun h => { h with stale := satAdd 0xFFFF h.stale 1 })
  else (r, d)

/-! ### The mailbox (R314, R315, R430) -/

/-- A message with its last byte: R300, then the conditions of R314; a refused message leaves no command in the queue.
A message in a mailbox stays while its channel stops: Log 147 DEDUCED. -/
def Dev.messageDone (d : Dev) (slot : Nat) (buf : Bytes) (bad mac : Bool) : Nat × Dev :=
  let h := d.handle slot
  let id := numAt buf 0 2
  let (r, d1) := d.request h id 0xFF [] mac
  if r = 1 then (1, d1.onChan slot fun c => { c with mailbox := [], msgMac := true })
  else if r != 0 then (r, d1)
  else
    let stopped := (d.chan? slot).any (·.state == .stopped)
    let code := firstCode [(bad || msgFormatBad buf, Code.CC_DIRECT_FORMAT), (d.msgRefused buf mac != 0, d.msgRefused buf mac),
      (stopped, Code.CHN_STATE)]
    if code != 0 then (0, (d1.setQueue d.host.cmdq).msgRefuse slot id code (msgUhf buf))
    else (0, d1.onChan slot fun c => { c with mailbox := buf, msgWait := true, msgMac := mac, accepted := d.time })

/-- A fragment appended (R314): a verdict as of `request`, 0 also where the message is not yet complete. -/
def Dev.mailboxWrite (d : Dev) (slot : Nat) (payload : Bytes) (mac : Bool) : Nat × Dev :=
  match d.chan? slot with
  | none => (0, d)
  | some c =>
    if c.msgWait then (Code.HOST_BUSY, d)
    else
      let buf := c.mailbox ++ payload
      let len := msgLen buf
      let mac := c.msgMac && mac
      let bad := len < 40 || len > 1064 || buf.length > len
      if buf.length < 4 || (!bad && buf.length < len) then (0, d.onChan slot fun c => { c with mailbox := buf, msgMac := mac })
      else d.messageDone slot buf bad mac

/-! ### Reports (R433, R435, R447) -/

/-- A frame refused, wholly or in part: HOST_LAST_ERR, RDY as given, ERR, and the counts. Log 111 DEDUCED. -/
def Dev.frameRefused (d : Dev) (b : Bytes) (code addr : Nat) (rdy : Bool) : Dev :=
  let d := ((d.setFld F.HOST_LAST_ERR_CODE code).setFld F.HOST_LAST_ERR_OPCODE (byteAt b 0)).setFld F.HOST_LAST_ERR_ADDR addr
  let d := { d with host := { d.host with rdy := rdy, err := true, dup := false } }.bump F.HOST_CNT_REFUSED 1
  if code = Code.HOST_CRC then d.bump F.HOST_CHK_CNT_CRC 1
  else if code = Code.HOST_ALIVE then d.bump F.HOST_CHK_CNT_ALIVE 1
  else if code = Code.HOST_MAC then (d.bump F.HOST_CHK_CNT_MAC 1).bump F.VLT_SESSION_FAILS 1
  else if code = Code.HOST_ABORTED then d.bump F.HOST_CHK_CNT_ABORTED 1
  else d

/-- A frame carried out. -/
def Dev.frameDone (d : Dev) (dup : Bool) : Dev := { d with host := { d.host with rdy := true, err := false, dup := dup } }

/-- The verdict of a request or fragment reported. -/
def Dev.frameJudged (b : Bytes) (x : Nat × Dev) : Dev :=
  if x.1 = 0 then x.2.frameDone false else if x.1 = 1 then x.2.frameDone true else x.2.frameRefused b x.1 (frAddr b) false

/-! ### Write frames -/

/-- The words of a REG_WR payload. -/
def frameWords (b : Bytes) (n : Nat) : List Word := (List.range n).map fun i => BitVec.ofNat 32 (numAt b (5 + 4 * i) 4)

/-- REG_WR (R418, R420). Log 111 DEDUCED. -/
def Dev.regWr (d : Dev) (b : Bytes) : Dev :=
  let a := frAddr b
  let last := blockEnd a
  let (d, locked) := d.writeBurst last a (frameWords b (frLen b))
  let d := if a + frLen b - 1 > last then d.setFlag F.HOST_STAT_ADDR_END true else d
  match locked with
  | none => d.frameDone false
  | some k => d.frameRefused b Code.HOST_FIELD_LOCKED k true

/-- What a write frame that passed the checks 1–10 does. Log 110 DEDUCED. -/
def Dev.writeEffect (d : Dev) (b : Bytes) : Dev :=
  let op := frOp b
  if op = Op.regWr then d.regWr b
  else if op = Op.cmd then
    Dev.frameJudged b (d.request (frAddr b) (numAt b 7 2) (byteAt b 5) (slice b 9 (frLen b)) (frM b))
  else if op = Op.jrnlAck then
    match d.ack (frLen b) (numAt b 5 4) with
    | some d => d.frameDone false
    | none => d.frameRefused b Code.JRNL_ACK_RANGE (frAddr b) false
  else Dev.frameJudged b (d.mailboxWrite (frAddr b % 256) (slice b 5 (frLen b)) (frM b))

/-- A complete write frame: the checks 1–10 in order, then its effect. A CMAC that verifies raises the session counter whatever then
happens to the frame (R442). Log 109 DEDUCED, 112 DEDUCED. -/
def Dev.writeFrame (d : Dev) (b : Bytes) : Dev :=
  let n := writeBase b + (if frM b then 8 else 0)
  let early := firstCode [(d.headCode b != 0, d.headCode b), (d.crcBad b n, Code.HOST_CRC), (d.macBad b, Code.HOST_MAC)]
  if early != 0 then d.frameRefused b early (frAddr b) false
  else
    let d := if frM b then d.setReg R.HOST_SESSION_CTR (d.reg R.HOST_SESSION_CTR + 1#32) else d
    let late := firstCode [(d.handleBad b, Code.HOST_BAD_HANDLE), (d.notDirect b, Code.HOST_NOT_DIRECT), (cmdBad b, Code.HOST_BAD_CMD)]
    if late != 0 then d.frameRefused b late (frAddr b) false else d.writeEffect b

/-! ### Read frames -/

/-- The eight bytes and the result payload of a history entry (R426). -/
def entryBytes (lastId sel : Nat) (e : Option HistEntry) : Bytes :=
  match e with
  | none => beBytes 2 (if sel = 0x80 then lastId else 0) ++ zeros 6
  | some e =>
    let done := e.st == .done
    beBytes 2 e.id ++ beBytes 1 e.cmd ++ beBytes 1 (histCode e.st) ++ beBytes 1 (if done then e.outcome else 0) ++
      beBytes 1 e.result.length ++ beBytes 1 e.retries ++ [0#8] ++ e.result

/-- Whole results, oldest first, at most `n` of them and 4,096 bytes (R431). -/
def wholeResults (room : Nat) : Nat → List Bytes → List Bytes
  | 0, _ => []
  | _, [] => []
  | n + 1, r :: rs => if r.length ≤ room then r :: wholeResults (room - r.length) n rs else []

/-- What a served read frame delivers from MISO byte 5, the device once the frame has been fetched, and the device after its select
release. -/
def Dev.readOut (d : Dev) (fu : Fuses) (b : Bytes) : Bytes × Dev :=
  let op := frOp b
  let len := frLen b
  let a := frAddr b
  if op = Op.regRd then
    let last := blockEnd a
    let (ws, d) := d.readBurst fu last a len
    let d := if a + len - 1 > last then d.setFlag F.HOST_STAT_ADDR_END true else d
    (ws.flatMap fun w => beBytes 4 w.toNat, d.clearBurst last a ws)
  else if op = Op.cmdResult then
    let h := d.history a
    (entryBytes h.lastId len (h.select len), d)
  else if op = Op.evtRd then
    let es := d.host.ring.take len
    (beBytes 1 es.length ++ [0#8] ++ beBytes 2 d.host.dropped ++ es.flatMap (·.bytes),
      { d with host := { d.host with ring := d.host.ring.drop len, dropped := 0 } })
  else if op = Op.jrnlRd then
    let rs := d.jrn.staged.take len
    let order := d.fromCursor
    let seqOf (p : Nat) : Nat := ((order.find? (·.1 == p)).map (·.2.1)).getD 0
    let batch := rs.map fun r => (r.1, seqOf r.1)
    (beBytes 1 rs.length ++ zeros 3 ++ rs.flatMap (·.2),
      (d.onJrn fun j => { j with batch := batch }).setFlag F.JRN_STAT_BATCH (!batch.isEmpty))
  else
    let slot := a % 256
    let rs := wholeResults 4096 len (((d.chan? slot).map (·.results)).getD [])
    (beBytes 1 rs.length ++ [0#8] ++ beBytes 2 (rs.map (·.length)).sum ++ rs.flatten,
      d.onChan slot fun c => { c with results := c.results.drop rs.length })

/-- What a refused read frame delivers: zeros, to the end a frame with nothing to deliver has (R435). Log 113 DEDUCED. -/
def refusedOut (b : Bytes) : Bytes :=
  zeros (if frOp b = Op.regRd then 4 * frLen b else if frOp b = Op.cmdResult then 8 else 4)

/-- A complete JRNL_RD or one cut short leaves no earlier batch behind (R369, R434). Log 114 DEDUCED. -/
def Dev.dropBatch (d : Dev) : Dev := (d.onJrn fun j => { j with batch := [] }).setFlag F.JRN_STAT_BATCH false

/-- A read frame: what it delivers from byte 5 with the TX CRC (R441), and the device after its select release.
Log 110 DEDUCED, 113 DEDUCED, 114 DEDUCED. -/
def Dev.readFrame (d : Dev) (fu : Fuses) (b : Bytes) : Bytes × Dev :=
  let known := firstCode [(d.headCode b != 0, d.headCode b), (d.handleBad b, Code.HOST_BAD_HANDLE),
    (d.notDirect b, Code.HOST_NOT_DIRECT)]
  let (data, d') := if known != 0 then (refusedOut b, d) else d.readOut fu b
  let out := if d.txCrc then data ++ beBytes 2 (if known != 0 then 0 else crc16X25 data) else data
  let code := firstCode [(b.length < 5 + out.length, Code.HOST_ABORTED), (d.headCode b != 0, d.headCode b),
    (d.crcBad b 5, Code.HOST_CRC), (known != 0, known)]
  let d := { d with freeCtr := d'.freeCtr }
  if code = 0 then (out, d'.frameDone false)
  else
    let d := if code = Code.HOST_ABORTED && frOp b = Op.jrnlRd then d.dropBatch else d
    (out, d.frameRefused b code (frAddr b) false)

/-! ### The port's check-value units (R438–R441, R454) -/

/-- The expected alive byte after a frame (R439): one more than the ALIVE byte of a frame that reached the end of byte 4 and was not
refused with HOST_ALIVE. Log 115 DEDUCED. -/
def Dev.aliveMoves (d : Dev) (b : Bytes) (refused : Bool) : Dev :=
  if d.aliveOn && b.length ≥ 5 && !refused then { d with host := { d.host with alive := some ((byteAt b 4 + 1) % 256) } } else d

/-- The receive unit shows the frame: its CRC, the flags, and the alive counter. -/
def Dev.showRx (d : Dev) (b : Bytes) (n flags : Nat) : Dev :=
  match optRx d.host.opts with
  | none => d
  | some u =>
    let short := if d.aliveOn && b.length < 5 then 16 else 0
    let crc := crc16X25 (b.take n)
    let d := (d.setFld (F.CVUn_VALUE_VALUE u) (0xFFFF - crc)).cvuFlags u (flags ||| short) crc
    if d.aliveOn then
      (d.setFld (F.CVUn_ALIVE_EXP_EXP u) (d.host.alive.getD 0)).setFlag (F.CVUn_STAT_ANY u) d.host.alive.isNone
    else d

/-- The transmit unit shows the CRC of the data of a read frame. -/
def Dev.showTx (d : Dev) (data : Bytes) : Dev :=
  match optTx d.host.opts with
  | none => d
  | some u => (d.setFld (F.CVUn_VALUE_VALUE u) (0xFFFF - crc16X25 data)).cvuFlags u 0 (crc16X25 data)

/-! ### A frame at its select release -/

/-- The MISO bytes of a frame (R414): status bytes, the fresh status byte, then `out`. Log 118 DESIGN CHOICE. -/
def misoBytes (n : Nat) (st : Byte) (out : Bytes) : Bytes := fit n ([st, st, st, st, st] ++ out)

/-- The MISO bytes of the last frame. Log 120 DESIGN CHOICE. -/
def Dev.setMiso (d : Dev) (m : Bytes) : Dev := { d with host := { d.host with miso := m } }

/-- Host streams pass the units that snoop them (R451). -/
def Dev.hostStreams (d : Dev) (mosi miso : Bytes) : Dev := (d.cvuStream 1 mosi).cvuStream 2 miso

/-- A STATUS frame (R432): no effect but what it delivers, which is zeros until the core PLL has locked. A boot that hangs in step 2 has no
lock. Log 144 DEDUCED. -/
def Dev.statusFrame (d : Dev) (b : Bytes) : Dev :=
  let words := if d.stalled == some (.step 0) then zeros 8 else beBytes 4 d.devStat.toNat ++ beBytes 4 d.hostStat.toNat
  let m := misoBytes b.length d.statusByte words
  (d.hostStreams b m).setMiso m

/-- A frame that is not STATUS. A unit on SRC 1 or 2 flags the frame first; a write the frame carries, of 1 to that flag too, follows.
Log 110 DEDUCED, 139 DESIGN CHOICE. -/
def Dev.otherFrame (d : Dev) (fu : Fuses) (b : Bytes) : Dev :=
  let st := d.statusByte
  let op := frOp b
  let verdict := d.aliveVerdict b
  let aliveRefused := d.headCode b == Code.HOST_ALIVE
  let whole := writeBase b + (if frM b then 8 else 0)
  let known := opWrites op || opReads op
  let short := b.length < 4 || (opWrites op && b.length < d.writeEnd b)
  if known && short then
    let m := misoBytes b.length st []
    let d := (d.hostStreams b m).aliveMoves b false
    let d := if op = Op.jrnlRd then d.dropBatch else d
    ((d.frameRefused b Code.HOST_ABORTED (frAddr b) false).showRx b (min b.length 5) 0).setMiso m
  else if opReads op then
    let r := d.readFrame fu b
    let m := misoBytes b.length st r.1
    let done := b.length ≥ 5 + r.1.length
    let flags := verdict + b2n (d.crcBad b 5)
    let d' := if done then r.2.bump F.HOST_CNT_FRAMES 1 else r.2
    let d' := (d'.hostStreams b m).aliveMoves b (aliveRefused && done)
    ((d'.showRx b 5 flags).showTx (r.1.take (r.1.length - 2))).setMiso m
  else
    let m := misoBytes b.length st []
    let flags := verdict + b2n (known && d.crcBad b whole)
    let d := d.hostStreams b m
    let d := if known then d.writeFrame b else d.frameRefused b Code.HOST_BAD_OPCODE (frAddr b) false
    ((d.aliveMoves b aliveRefused).bump F.HOST_CNT_FRAMES 1).showRx b (min b.length whole) flags |>.setMiso m

/-- A frame of the host (R412–R435). While the supplies are down, in reset and in WATCH the port answers none and remembers none. -/
def Dev.frame (d : Dev) (fu : Fuses) (b : Bytes) : Dev :=
  if d.phase == .down || d.phase == .watch then d.setMiso []
  else if frOp b = Op.status then d.statusFrame b
  else d.otherFrame fu b

/-- A frame with opcode `op` as a command of the table. Log 118 DESIGN CHOICE, 120 DESIGN CHOICE. -/
def State.frame (s : State) (op : Nat) (f : Frame) : Host.Outcome State Fault Refusal :=
  s.onDev fun d => d.frame s.fuses (mosiOf op f)

end Sys2Proof.Machine
end

