-- ==== Sys2Proof/Machine/Power.lean ====
section
/-!
DEFINITION. Meanings of supplies, resets, boots and restarts (Chapters 2, 12, 13, 16), of image writes and of the mode rows (Chapter 3).
-/

namespace Sys2Proof.Machine

open Sys2Proof

/-- The answer of a meaning that changes the device and the NOR flash. -/
def State.withNor (s : State) (x : Dev × Mem) : Host.Outcome State Fault Refusal := .next { s with dev := x.1, nor := x.2 }

/-- The answer of a meaning that changes the device and the fuses. -/
def State.withFuses (s : State) (x : Dev × Fuses) : Host.Outcome State Fault Refusal := .next { s with dev := x.1, fuses := x.2 }

/-! ### Supplies and resets -/

/-- T0 (R38). -/
def execT0 (up : PowerUp) (s : State) : Host.Outcome State Fault Refusal :=
  s.withFuses (s.dev.powerOn s.nor s.fuses up)
/-- BOOT_WDOG (R42). -/
def execBootWdog (s : State) : Host.Outcome State Fault Refusal := s.onDev (·.bootWatchdog s.nor s.fuses)
/-- PFAIL (R363). -/
def execPfail (flush : BitVec 4) (s : State) : Host.Outcome State Fault Refusal := s.onDev fun d => (d.powerFail true flush).portDrain
/-- SUPPLY_MONITOR_TRIP (R501). Log 33 DEDUCED. -/
def execSupplyMonitorTrip (flush : BitVec 4) (s : State) : Host.Outcome State Fault Refusal :=
  s.onDev fun d => (d.powerFail false flush).portDrain
/-- PFAIL_RESTART (R365). -/
def execPfailRestart (s : State) : Host.Outcome State Fault Refusal := s.onDev (·.powerBack s.nor s.fuses)
/-- PFAIL_DEASSERT (R282). -/
def execPfailDeassert (s : State) : Host.Outcome State Fault Refusal := s.onDev Dev.powerRise
/-- PGOOD_FALL (R513). -/
def execPgoodFall (s : State) : Host.Outcome State Fault Refusal := s.onDev Dev.pgoodFell
/-- RESET_N_FALL (R513). -/
def execResetNFall (s : State) : Host.Outcome State Fault Refusal := s.onDev Dev.resetFell
/-- SOFT_RESET (R425). -/
def execSoftReset (flush : BitVec 4) (s : State) : Host.Outcome State Fault Refusal :=
  s.onDev (·.softReset s.nor s.fuses flush)
/-- SEQ_WDOG (R488). -/
def execSeqWdog (us : Fin 65536) (flush : BitVec 4) (s : State) : Host.Outcome State Fault Refusal :=
  s.onDev (·.seqExpired s.nor s.fuses us flush)
/-- CORE_PLL_UNLOCK (R478). -/
def execCorePllUnlock (flush : BitVec 4) (s : State) : Host.Outcome State Fault Refusal :=
  s.onDev (·.pllLost s.nor s.fuses flush)
/-- CLOCK_LOSS (R478). -/
def execClockLoss (us : Fin 65536) (s : State) : Host.Outcome State Fault Refusal := s.onDev (·.clockLoss us)
/-- VATTIC_LOSS (R29). -/
def execVatticLoss (s : State) : Host.Outcome State Fault Refusal := s.onDev Dev.vatticLost
/-- VATTIC_POR (R409). -/
def execVatticPor (s : State) : Host.Outcome State Fault Refusal := s.onDev Dev.vatticUp

/-! ### Image writes -/

/-- An image write at the head of the queue, with the chains to MEM_CS0 it runs (R451); one that is refused, or has nothing to program,
runs none. -/
def State.imageStep (s : State) (x : Dev × Mem) : Host.Outcome State Fault Refusal :=
  let idle := x.1.image == s.dev.image && x.2 == s.nor && x.1.freeCtr == s.dev.freeCtr
  s.withNor (if idle then x else ((x.1.memChains 4 (chainsNorWrite 256)).portDrain, x.2))

/-- IMAGE_WRITE_BEGIN (R58). -/
def execImageWriteBegin (ok : Bool) (s : State) : Host.Outcome State Fault Refusal := s.imageStep (s.dev.imageBegin s.nor ok)
/-- IMAGE_WRITE_DATA (R58). -/
def execImageWriteData (ok : Bool) (s : State) : Host.Outcome State Fault Refusal := s.imageStep (s.dev.imageData s.nor ok)
/-- IMAGE_WRITE_END (R58). -/
def execImageWriteEnd (ok : Bool) (s : State) : Host.Outcome State Fault Refusal := s.imageStep (s.dev.imageEnd s.nor ok)
/-- IMAGE_WRITE_ABORT (R58). -/
def execImageWriteAbort (s : State) : Host.Outcome State Fault Refusal := s.onDev Dev.imageAbort

/-! ### Modes -/

/-- MODE_REQUEST (R68). -/
def execModeRequest (req : Fin 16) (s : State) : Host.Outcome State Fault Refusal := s.onDev (·.modeRequest req)

/-- MODE_TRANSITION_COMPLETE (R70). -/
def execModeTransitionComplete (us : Fin 65536) (flush : BitVec 4) (s : State) : Host.Outcome State Fault Refusal :=
  s.onDev fun d =>
    (d.transitionComplete us flush).portDrain

/-- WAKE_COMPLETE (R75): the KEYS section of the image in use is read again (R395). -/
def execWakeComplete (us : Fin 65536) (s : State) : Host.Outcome State Fault Refusal :=
  s.onDev fun d =>
    let keys := (d.inUse.map fun k => sectionBody s.nor k 0x08).getD []
    let d' := d.wakeComplete s.fuses keys us
    if d.phase == .waking then (d'.memWork 4 (chainNorRead 256)).portDrain else d'.portDrain

end Sys2Proof.Machine
end

