-- ==== Sys2Proof/Machine/RegRows.lean ====
section
/-!
DEFINITION. Meanings of the register writes that have a row of their own, of the checks they wait for (R86) and of commit groups (R90–R92). Each
is the write as the host port carries it out at a select release; the frame that carries it is a row of Chapter 14.
-/

namespace Sys2Proof.Machine

open Sys2Proof

/-- The boundary at which a group's checked copy replaces the active values by itself (R90, R91): for a timer a count of 0; at once while
the block counts as not enabled. The boundaries of an HF chain with a field, the start of its next command, and of an enabled UHF chain,
its next channel change, come with those (`Dev.hfSend`, `Dev.channelChange`). Log 60 DEDUCED. -/
def Dev.atBoundary (d : Dev) (g : Group) : Bool :=
  !d.groupBusy g || (match g with
    | .tmr n => d.reg (R.TMRn_COUNT n) == 0#32
    | _ => false)

/-- A group's checked copy applied at its boundary (R91, R462). Log 60 DEDUCED. -/
def Dev.applyAtBoundary (d : Dev) (g : Group) : Dev :=
  if !(d.applying.any (·.1 == g)) || !d.atBoundary g then d
  else
    let d := d.applyGroup g
    match g with
    | .tmr n => if d.flag (F.TMRn_CTL_ENABLE n) then d else d.lateCompares n
    | _ => d

/-- The register of a GOV row (R251). -/
def govAddr : GovReg → Nat
  | .uhf => R.GOV_UHF
  | .time => R.GOV_TIME
  | .hf => R.GOV_HF
  | .chmaskHi => R.GOV_CHMASK_HI
  | .chmaskLo => R.GOV_CHMASK_LO
  | .ctl => R.GOV_CTL

/-- The register of a WATCH row (R286). -/
def watchAddr : WatchReg → Nat
  | .ctl => R.WATCH_CTL
  | .pulse => R.WATCH_PULSE
  | .thr => R.WATCH_THR
  | .timer => R.WATCH_TIMER
  | .period k => R.WATCH_PERIODk k

/-- The register of a profile-view row (R112, R210). -/
def viewAddr (v : ProfileView) (k : Nat) : Nat :=
  match v with
  | .port n => R.HFPn_PROFk n k
  | .selected => R.UHFPROFk k

/-! ### Checks and groups -/

/-- CHECK_DONE (R86). -/
def execCheckDone (s : State) : Host.Outcome State Fault Refusal := s.onHost Dev.checkDone
/-- GROUP_COMMIT (R91). -/
def execGroupCommit (g : Group) (s : State) : Host.Outcome State Fault Refusal := s.onHost (·.groupCommit g)
/-- GROUP_APPLY (R90). -/
def execGroupApply (g : Group) (s : State) : Host.Outcome State Fault Refusal := s.onHost (·.applyAtBoundary g)

/-! ### Supervisor and HF -/

/-- SUP_DIRECT_QUOTA_WRITE (R81). -/
def execSupDirectQuotaWrite (v : BitVec 8) (s : State) : Host.Outcome State Fault Refusal :=
  s.onHost (·.writeValue R.SUP_DIRECT_QUOTA (wordOf v.toNat))
/-- HFC_ENABLE (R131). -/
def execHfcEnable (n : Fin 4) (v : Bool) (s : State) : Host.Outcome State Fault Refusal := s.onHost (·.setEnable (.hfc n) v)
/-- HFP_ENABLE (R133). -/
def execHfpEnable (n : Fin 16) (v : Bool) (s : State) : Host.Outcome State Fault Refusal := s.onHost (·.setEnable (.hfp n) v)
/-- HFP_FAULT_CLEAR (R117). -/
def execHfpFaultClear (n : Fin 16) (s : State) : Host.Outcome State Fault Refusal := s.onHost (·.hfpClear n)
/-- HFC_BOND_EN (R128). -/
def execHfcBondEn (n : Fin 4) (v : Bool) (s : State) : Host.Outcome State Fault Refusal := s.onHost (·.setEnable (.hfBond n) v)
/-- HFC_TXCTL_WRITE (R105). -/
def execHfcTxctlWrite (n : Fin 4) (att : Fin 512) (phase : Fin 1024) (s : State) : Host.Outcome State Fault Refusal :=
  s.onHost (·.txctl n (pack [(25, 16, phase), (8, 0, att)]))
/-- PROFILE_VIEW_WRITE (R112, R210). -/
def execProfileViewWrite (view : ProfileView) (k : Fin 12) (data : Word) (s : State) : Host.Outcome State Fault Refusal :=
  s.onHost fun d => (d.hostWrite (viewAddr view k) data).1

/-! ### UHF -/

/-- UHFC_ENABLE (R209). -/
def execUhfcEnable (n : Fin 2) (v : Bool) (s : State) : Host.Outcome State Fault Refusal := s.onHost (·.setEnable (.uhfc n) v)
/-- UHFP_ENABLE (R211). -/
def execUhfpEnable (n : Fin 8) (v : Bool) (s : State) : Host.Outcome State Fault Refusal := s.onHost (·.setEnable (.uhfp n) v)
/-- UHFP_FAULT_CLEAR (R196). -/
def execUhfpFaultClear (n : Fin 8) (s : State) : Host.Outcome State Fault Refusal := s.onHost (·.uhfpClear n)
/-- RECAL (R186). -/
def execRecal (n : Fin 2) (s : State) : Host.Outcome State Fault Refusal := s.onHost (·.recalChain n)
/-- UHF_STEER_EN (R204). -/
def execUhfSteerEn (v : Bool) (s : State) : Host.Outcome State Fault Refusal := s.onHost (·.setEnable .steer v)

/-! ### Governor, coexistence, WATCH -/

/-- GOV_LIMIT_WRITE (R251). -/
def execGovLimitWrite (r : GovReg) (data : Word) (s : State) : Host.Outcome State Fault Refusal :=
  s.onHost fun d => (d.hostWrite (govAddr r) data).1
/-- GOV_RESTORE (R251). -/
def execGovRestore (s : State) : Host.Outcome State Fault Refusal := s.onHost Dev.govRestore
/-- COEX_A_EN_WRITE (R262, R266). -/
def execCoexAEnWrite (v : Bool) (s : State) : Host.Outcome State Fault Refusal :=
  s.onHost fun d => d.writeCoexCfg (putBits (d.reg R.COEX_CFG) 31 31 (b2n v))
/-- COEX_PW_EN (R266). -/
def execCoexPwEn (k : Fin 4) (v : Bool) (s : State) : Host.Outcome State Fault Refusal := s.onHost (·.setEnable (.coexPw k) v)
/-- WATCH_REG_WRITE (R286). -/
def execWatchRegWrite (r : WatchReg) (data : Word) (s : State) : Host.Outcome State Fault Refusal :=
  s.onHost fun d => (d.hostWrite (watchAddr r) data).1
/-- WATCH_FORGET (R273). -/
def execWatchForget (s : State) : Host.Outcome State Fault Refusal := s.onHost Dev.forgetBases

/-! ### Windows with a snapshot -/

/-- CHN_SEL_WRITE (R319). -/
def execChnSelWrite (dev : Bool) (slot : Fin 256) (s : State) : Host.Outcome State Fault Refusal := s.onHost (·.chnSelect dev slot)
/-- CHN_HSEL_WRITE (R319). -/
def execChnHselWrite (entry : Fin 16) (s : State) : Host.Outcome State Fault Refusal := s.onHost (·.chnHselect entry)
/-- OBJ_SEL_WRITE (R345). -/
def execObjSelWrite (index : Fin 4096) (s : State) : Host.Outcome State Fault Refusal := s.onHost (·.objSelect index)
/-- OBJ_LOAD (R335). -/
def execObjLoad (s : State) : Host.Outcome State Fault Refusal := s.onHost Dev.objLoad
/-- OBJ_WRITE (R335). -/
def execObjWrite (s : State) : Host.Outcome State Fault Refusal := s.onHost Dev.objWrite
/-- VLT_SLOT_SEL_WRITE (R411). -/
def execVltSlotSelWrite (slot : Fin 32) (s : State) : Host.Outcome State Fault Refusal := s.onHost (·.slotSelect slot)
/-- FLT_SEL_WRITE (R495). -/
def execFltSelWrite (entry : Fin 16) (s : State) : Host.Outcome State Fault Refusal := s.onHost (·.fltSelect entry)
/-- FLT_STAT_CLEAR (R495). -/
def execFltStatClear (nand clock seq other : Bool) (s : State) : Host.Outcome State Fault Refusal :=
  s.onHost (·.fltStatClear nand clock seq other)
/-- FLT_CLR (R491). -/
def execFltClr (hf : BitVec 4) (uhf : BitVec 2) (s : State) : Host.Outcome State Fault Refusal :=
  s.onHost (·.recheckStart hf.toNat uhf.toNat)
/-- FLT_RECHECK_END (R491). -/
def execFltRecheckEnd (pass : Bool) (s : State) : Host.Outcome State Fault Refusal := s.onLive fun d => (d.recheckEnd pass).settle
/-- TIME_SNAP (R466). -/
def execTimeSnap (s : State) : Host.Outcome State Fault Refusal := s.onHost Dev.timeSnap

/-! ### Timers and check-value units -/

/-- TMR_CLEAR (R460). -/
def execTmrClear (n : Fin 8) (s : State) : Host.Outcome State Fault Refusal := s.onHost (·.timerClear n)
/-- TMR_ENABLE (R460). -/
def execTmrEnable (n : Fin 8) (v : Bool) (s : State) : Host.Outcome State Fault Refusal := s.onHost (·.setEnable (.tmr n) v)
/-- CVU_ENABLE (R472). -/
def execCvuEnable (n : Fin 6) (v : Bool) (s : State) : Host.Outcome State Fault Refusal :=
  s.onHost fun d => if d.flag (F.CVUn_CFG_OWNED n) then d else d.setEnable (.cvu n) v
/-- CVU_VALUE_WRITE (R457). -/
def execCvuValueWrite (n : Fin 6) (alive : Bool) (data : Word) (s : State) : Host.Outcome State Fault Refusal :=
  s.onHost (·.cvuWrite n alive data)
/-- CVU_ANY_SET (R455). -/
def execCvuAnySet (n : Fin 6) (s : State) : Host.Outcome State Fault Refusal := s.onHost (·.cvuAny n)

end Sys2Proof.Machine
end

