-- ==== Sys2Proof/Machine/FrameRows.lean ====
section
/-!
DEFINITION. Meanings of the host frames (Chapter 14) and of the commands taken from the queue (R303, R422).
-/

namespace Sys2Proof.Machine

open Sys2Proof

/-! ### Frames -/

/-- REG_WR (R418). -/
def execRegWr (f : Frame) (s : State) : Host.Outcome State Fault Refusal := s.frame Op.regWr f
/-- REG_RD (R418). -/
def execRegRd (f : Frame) (s : State) : Host.Outcome State Fault Refusal := s.frame Op.regRd f
/-- CMD (R422). -/
def execCmd (f : Frame) (s : State) : Host.Outcome State Fault Refusal := s.frame Op.cmd f
/-- CMD_RESULT (R426). -/
def execCmdResult (f : Frame) (s : State) : Host.Outcome State Fault Refusal := s.frame Op.cmdResult f
/-- STATUS (R432). -/
def execStatus (f : Frame) (s : State) : Host.Outcome State Fault Refusal := s.frame Op.status f
/-- EVT_RD (R444). -/
def execEvtRd (f : Frame) (s : State) : Host.Outcome State Fault Refusal := s.frame Op.evtRd f
/-- JRNL_RD (R427). -/
def execJrnlRd (f : Frame) (s : State) : Host.Outcome State Fault Refusal := s.frame Op.jrnlRd f
/-- JRNL_ACK (R429). -/
def execJrnlAck (f : Frame) (s : State) : Host.Outcome State Fault Refusal := s.frame Op.jrnlAck f
/-- MBOX_WR (R430). -/
def execMboxWr (f : Frame) (s : State) : Host.Outcome State Fault Refusal := s.frame Op.mboxWr f
/-- MBOX_RD (R431). -/
def execMboxRd (f : Frame) (s : State) : Host.Outcome State Fault Refusal := s.frame Op.mboxRd f

/-- HOST_FRAME_UNKNOWN_OPCODE (R435). An opcode of R415 is no such frame: it has its own row. -/
def execHostFrameUnknownOpcode (op : BitVec 7) (f : Frame) (s : State) : Host.Outcome State Fault Refusal :=
  if opWrites op.toNat || opReads op.toNat || op.toNat == Op.status then s.onDev id else s.frame op.toNat f

/-! ### Channel commands -/

/-- CHN_CREATE (R292). -/
def execChnCreate (s : State) : Host.Outcome State Fault Refusal := s.onLive fun d => d.chnCreate.settle
/-- CHN_START (R295). -/
def execChnStart (s : State) : Host.Outcome State Fault Refusal := s.onLive fun d => d.chnStart.settle
/-- CHN_STOP (R295). -/
def execChnStop (s : State) : Host.Outcome State Fault Refusal := s.onLive (·.chnStop false)
/-- CHN_STOP_DRAIN (R295). -/
def execChnStopDrain (s : State) : Host.Outcome State Fault Refusal := s.onLive (·.chnStop true)
/-- CHN_RUN (R331). -/
def execChnRun (s : State) : Host.Outcome State Fault Refusal := s.onLive fun d => d.chnRun.settle
/-- CHN_DESTROY (R297). -/
def execChnDestroy (s : State) : Host.Outcome State Fault Refusal := s.onLive Dev.chnDestroy
/-- STOPPING_END (R295). -/
def execStoppingEnd (slot : Fin 256) (s : State) : Host.Outcome State Fault Refusal := s.onLive (·.stoppingEnd slot)
/-- DIRECT_MESSAGE_START (R315). -/
def execDirectMessageStart (slot : Fin 256) (s : State) : Host.Outcome State Fault Refusal := s.onLive (·.directStart slot)

/-! ### Device commands -/

/-- REGION_BLOW (R248). -/
def execRegionBlow (ok : Bool) (s : State) : Host.Outcome State Fault Refusal := s.withFuses (s.dev.regionBlow s.fuses ok)
/-- KEY_IMPORT (R393). -/
def execKeyImport (s : State) : Host.Outcome State Fault Refusal := s.onLive Dev.keyImport
/-- KEY_CLEAR (R388). -/
def execKeyClear (s : State) : Host.Outcome State Fault Refusal := s.onLive Dev.keyClear
/-- SESSION_OPEN (R396). -/
def execSessionOpen (s : State) : Host.Outcome State Fault Refusal := s.onLive Dev.sessionOpen
/-- SESSION_CLOSE (R396). -/
def execSessionClose (s : State) : Host.Outcome State Fault Refusal := s.onLive Dev.sessionClose
/-- REARM_CHALLENGE (R407). -/
def execRearmChallenge (s : State) : Host.Outcome State Fault Refusal := s.onDev (·.rearmChallenge s.fuses)
/-- REARM_RESPONSE (R408). -/
def execRearmResponse (flush : BitVec 4) (s : State) : Host.Outcome State Fault Refusal :=
  s.onDev (·.rearm s.nor s.fuses flush)

end Sys2Proof.Machine
end

