-- ==== Sys2Proof/Machine/CellarRows.lean ====
section
/-!
DEFINITION. Meanings of channels, the transaction engine and the Cellar (Chapters 10–12).
-/

namespace Sys2Proof.Machine

open Sys2Proof

/-- A meaning of an engine of a running device: what it sets in motion is brought up to date. Log 3 DESIGN CHOICE. -/
def State.onEngine (s : State) (f : Dev → Dev) : Host.Outcome State Fault Refusal := s.onLive fun d => (f d).settle

/-! ### The record builder and the Larder -/

/-- The channel whose record the builder takes next, and whether it is a READING record. -/
def Dev.nextBuilt (d : Dev) : Option (Nat × Bool) :=
  match firstBy RecReq.order d.jrn.reqs with
  | some r => match r.ticket with
    | .step h => (d.liveSlot h).map fun k => (k, r.ty == 1)
    | _ => none
  | none => none

/-- The record builder takes the next waiting record (R24, R351); the run that asked for it keeps the sequence, and that of its last READING
record (R335, R340, R445). -/
def Dev.recordBuilt (d : Dev) : Dev :=
  let e := d.buildNext
  let e := if !d.canBuild || d.jrn.reqs.isEmpty then e else match d.nextBuilt with
    | some (k, reading) => e.onChan k fun c => { c with run := c.run.map fun r =>
        { r with lastSeq := d.csw 2 + 1, readSeq := if reading then d.csw 2 + 1 else r.readSeq } }
    | none => e
  e.checkFull

/-- BATCH_MS has passed for the oldest record that waits for it (R360): its commit program starts. -/
def Dev.batchExpired (d : Dev) : Dev :=
  match d.jrn.larder.find? fun r => !r.durable && r.commit == 1 with
  | none => d
  | some r => (d.reach (r.entered + d.jBatch)).pump

/-- A page program reports its status (R359, R374). -/
def Dev.programDone (d : Dev) (n : Nat) (pass : Bool) : Dev :=
  match (d.nd n).prog with
  | none => d
  | some p =>
    let d := d.memWork 4 (chainStatus (n + 1))
    ((if pass then (d.progPassed n p).pump else d.progFailed n p).busyBit n).checkFull

/-- A block erase reports its status (R372, R374). -/
def Dev.eraseDone (d : Dev) (n : Nat) (pass : Bool) : Dev :=
  match (d.nd n).erasing with
  | none => d
  | some b =>
    let d := d.memWork 5 (chainStatus (n + 1))
    (if pass then d.erasePassed n b else d.eraseFailed n b).checkFull

/-- A device present stays busy beyond twice its declared time (R374). -/
def Dev.deviceTimeout (d : Dev) (n : Nat) : Dev := if d.jPresent n && !(d.nd n).failed then d.failDevice n else d

/-- A turn of compaction (R372). Log 96 DEDUCED. -/
def Dev.compactTurn (d : Dev) (r : PageRead) : Dev := (d.compact r).checkFull

/-- The records from the cursor staged (R369, R428), with what the read of the page at the cursor reported. Log 96 DEDUCED. -/
def Dev.stageRead (d : Dev) (r : PageRead) : Dev :=
  match d.fromCursor.head? with
  | none => d.stage
  | some q =>
    let n := posDev q.1
    let d := d.memChains 3 (if (d.nd n).failed then [] else d.chainsRead n)
    (if r == .torn || (d.nd n).failed then d.readLoss else d.readResult n (blockOf (posAddr q.1)) r).stage

/-- RECORD_BUILD (R351). -/
def execRecordBuild (s : State) : Host.Outcome State Fault Refusal := s.onEngine Dev.recordBuilt
/-- LARDER_SLOT_FREE (R24). -/
def execLarderSlotFree (s : State) : Host.Outcome State Fault Refusal := s.onEngine fun d => d.enterHeld.pump
/-- BATCH_MS_EXPIRE (R360). -/
def execBatchMsExpire (s : State) : Host.Outcome State Fault Refusal := s.onEngine Dev.batchExpired
/-- PAGE_PROGRAM_DONE (R359). -/
def execPageProgramDone (d : Fin 4) (pass : Bool) (s : State) : Host.Outcome State Fault Refusal := s.onEngine (·.programDone d pass)
/-- ERASE_DONE (R372). -/
def execEraseDone (d : Fin 4) (pass : Bool) (s : State) : Host.Outcome State Fault Refusal := s.onEngine (·.eraseDone d pass)
/-- NAND_DEVICE_TIMEOUT (R374). -/
def execNandDeviceTimeout (d : Fin 4) (s : State) : Host.Outcome State Fault Refusal := s.onEngine (·.deviceTimeout d)
/-- COMPACTION (R372). -/
def execCompaction (r : PageRead) (s : State) : Host.Outcome State Fault Refusal := s.onEngine (·.compactTurn r)
/-- JOURNAL_STAGING (R428). -/
def execJournalStaging (r : PageRead) (s : State) : Host.Outcome State Fault Refusal := s.onEngine (·.stageRead r)

/-! ### Runs, grants, attempts -/

/-- A schedule's meaning: the device runs, or sleeps in WATCH (R77). Log 3 DESIGN CHOICE. -/
def State.onSchedule (s : State) (f : Dev → Dev) : Host.Outcome State Fault Refusal :=
  s.onDev fun d => if d.live then (f d).settle else if d.phase == .watch then f d else d

/-- A deadline passes (R19, R77): that of the step in progress, or that of a run held by the mode. -/
def Dev.deadlineOf (d : Dev) (slot : Nat) : Dev :=
  if ((d.chan? slot).bind (·.step)).isSome then (if d.live then d.deadlinePassed slot else d) else d.pendingPassed slot

/-- CYCLE_START (R329). -/
def execCycleStart (slot : Fin 256) (s : State) : Host.Outcome State Fault Refusal := s.onSchedule (·.cycleStarts slot)
/-- RUN_DUE (R331). -/
def execRunDue (slot : Fin 256) (s : State) : Host.Outcome State Fault Refusal := s.onSchedule (·.runDue slot)
/-- DEADLINE_PASSED (R310). -/
def execDeadlinePassed (slot : Fin 256) (s : State) : Host.Outcome State Fault Refusal := s.onSchedule (·.deadlineOf slot)
/-- The open and short verdict on the fields that a grant has switched on (R101, R115): the first that fails is a port fault. -/
def Dev.judgeFields (d old : Dev) (ma : Nat) : Dev :=
  let came (n : Nat) : Bool := d.hfOn n && ((old.hfChainOn ((d.hfc n).port.getD 16)).all fun h => (old.hfc h).owner != (d.hfc n).owner)
  match (List.range 4).find? fun n => came n && d.hfVerdict n ma != 0 with
  | none => d
  | some n =>
    let (us, _, e) := d.freeMeasure
    e.hfPortFault ((d.hfc n).port.getD 0) (d.hfVerdict n ma) us

/-- A grant and the verdict on the fields it switches on (R101, R305). -/
def Dev.grantTurn (d : Dev) (ma phase : Nat) : Dev := (d.arbiterGrant ma phase).judgeFields d ma

/-- ARBITER_GRANT (R305). -/
def execArbiterGrant (ma : Fin 65536) (phase : Fin 1024) (s : State) : Host.Outcome State Fault Refusal :=
  s.onEngine (·.grantTurn ma phase)
/-- ATTEMPT_END (R309). -/
def execAttemptEnd (slot : Fin 256) (s : State) : Host.Outcome State Fault Refusal := s.onEngine (·.attemptEnd slot)
/-- FRAME_HANDOFF (R22). -/
def execFrameHandoff (c : Sys2Proof.Chain) (s : State) : Host.Outcome State Fault Refusal :=
  s.onEngine (·.frameHandoff (match c with
    | .hf n => n
    | .uhf n => 4 + n))

end Sys2Proof.Machine
end

