-- ==== Sys2Proof/Machine/RadioRows.lean ====
section
/-!
DEFINITION. Meanings of the HF chains (Chapters 4 and 5), the UHF chains (Chapters 6 and 7) and their faults (Chapters 8 and 16).
-/

namespace Sys2Proof.Machine

open Sys2Proof

/-! ### HF -/

/-- FIELD_GUARD_END (R100). -/
def execFieldGuardEnd (n : Fin 4) (s : State) : Host.Outcome State Fault Refusal := s.onEngine (·.fieldGuardEnd n)
/-- STAGGER_RELEASE (R123). -/
def execStaggerRelease (n : Fin 4) (s : State) : Host.Outcome State Fault Refusal := s.onEngine (·.staggerRelease n)
/-- REPLY_WINDOW_OPEN (R126). -/
def execReplyWindowOpen (n : Fin 4) (resid : Fin 256) (noise : BitVec 16) (s : State) : Host.Outcome State Fault Refusal :=
  s.onEngine (·.replyWindowOpen n resid noise.toNat)
/-- SOF_ACQUIRED (R145). -/
def execSofAcquired (n : Fin 4) (sof : Sof) (s : State) : Host.Outcome State Fault Refusal := s.onLive (·.sofAcquired n sof)
/-- HF_NO_RESPONSE (R160). -/
def execHfNoResponse (n : Fin 4) (s : State) : Host.Outcome State Fault Refusal := s.onEngine (·.hfNoResponse n)
/-- HF_FRAME_END (R137). -/
def execHfFrameEnd (n : Fin 4) (r : HfReply) (s : State) : Host.Outcome State Fault Refusal := s.onEngine (·.hfFrameEnd n r)
/-- RESIDUAL_CLEAR (R126). -/
def execResidualClear (n : Fin 4) (s : State) : Host.Outcome State Fault Refusal := s.onEngine (·.residualClear n)
/-- COUPLING_TRACK_UPDATE (R125). -/
def execCouplingTrackUpdate (n m : Fin 4) (k : Cplx) (s : State) : Host.Outcome State Fault Refusal := s.onLive (·.couplingTrack n m k)

/-- HF_PORT_OPEN (R116). -/
def execHfPortOpen (n : Fin 16) (us : Fin 65536) (s : State) : Host.Outcome State Fault Refusal :=
  s.onEngine (·.hfPortFault n Code.HF_PORT_OPEN us)
/-- HF_PORT_SHORT (R116). -/
def execHfPortShort (n : Fin 16) (us : Fin 65536) (s : State) : Host.Outcome State Fault Refusal :=
  s.onEngine (·.hfPortFault n Code.HF_PORT_SHORT us)
/-- HF_DRIVER_FAULT (R118). -/
def execHfDriverFault (n : Fin 4) (us : Fin 65536) (s : State) : Host.Outcome State Fault Refusal :=
  s.onEngine (·.hfChainFault n Code.HF_DRIVER_FAULT us)

/-! ### UHF -/

/-- RADIO_CHANNEL_CHANGE (R184, R186). -/
def execRadioChannelChange (n : Fin 2) (s : State) : Host.Outcome State Fault Refusal := s.onLive (·.channelChange n)
/-- SYNTH_LOCK (R187). -/
def execSynthLock (n : Fin 2) (us : Fin 65536) (s : State) : Host.Outcome State Fault Refusal := s.onLive (·.synthLock n us)
/-- SYNTH_UNLOCK (R188). -/
def execSynthUnlock (n : Fin 2) (s : State) : Host.Outcome State Fault Refusal := s.onLive (·.synthUnlock n)
/-- Lock lost in CW, TX or RX, or a channel change that has not locked 1 ms after it began (R189). -/
def Dev.synthFault (d : Dev) (n us : Nat) : Dev :=
  if d.uhfOn n then d.uhfChainFault n Code.UHF_SYNTH_FAULT 3 us true
  else if (d.uhfc n).tuning.isSome then (d.reach ((d.uhfc n).tuneFrom + 1000)).uhfChainFault n Code.UHF_SYNTH_FAULT 3 us true
  else d

/-- UHF_SYNTH_FAULT (R189). -/
def execUhfSynthFault (n : Fin 2) (us : Fin 65536) (s : State) : Host.Outcome State Fault Refusal := s.onEngine (·.synthFault n us)
/-- RADIO_PORT_CHANGE (R175, R184). -/
def execRadioPortChange (n : Fin 2) (s : State) : Host.Outcome State Fault Refusal := s.onLive (·.portChange n)
/-- CARRIER_ON (R193). -/
def execCarrierOn (n : Fin 2) (meas : Fin 1024) (s : State) : Host.Outcome State Fault Refusal := s.onLive (·.carrierOn n meas)
/-- CANCELLER_TRAINING_END (R198). -/
def execCancellerTrainingEnd (n : Fin 2) (leak resid : BitVec 8) (ci cq : BitVec 10) (s : State) : Host.Outcome State Fault Refusal :=
  s.onLive (·.trainingEnd n leak resid ci cq)
/-- PACKET (R184). -/
def execPacket (n : Fin 2) (s : State) : Host.Outcome State Fault Refusal := s.onLive (·.sendPacket n)
/-- CARRIER_OFF (R193). -/
def execCarrierOff (n : Fin 2) (s : State) : Host.Outcome State Fault Refusal := s.onLive (·.carrierOff n)
/-- UHF_PREAMBLE_ACQUIRED (R220). -/
def execUhfPreambleAcquired (n : Fin 2) (p : Preamble) (s : State) : Host.Outcome State Fault Refusal := s.onLive (·.uhfPreamble n p)
/-- UHF_REPLY_TIMEOUT (R225). -/
def execUhfReplyTimeout (n : Fin 2) (s : State) : Host.Outcome State Fault Refusal := s.onLive (·.uhfTimeout n)
/-- UHF_REPLY_END (R222). -/
def execUhfReplyEnd (n : Fin 2) (r : UhfReply) (s : State) : Host.Outcome State Fault Refusal := s.onLive (·.uhfReply n r)
/-- UHF_PA_LOOP (R195). -/
def execUhfPaLoop (n : Fin 2) (us : Fin 65536) (s : State) : Host.Outcome State Fault Refusal := s.onEngine (·.paLoopFault n us)
/-- UHF_PORT_FAULT (R196). -/
def execUhfPortFault (n : Fin 8) (rl : Fin 256) (us : Fin 65536) (s : State) : Host.Outcome State Fault Refusal :=
  s.onEngine (·.uhfPortFault n rl us)
/-- GOV_OVERLIMIT (R261). -/
def execGovOverlimit (c : Sys2Proof.Chain) (us : Fin 65536) (s : State) : Host.Outcome State Fault Refusal := s.onEngine (·.overlimit c us)

end Sys2Proof.Machine
end

