-- ==== Sys2Proof/Machine/AtticRows.lean ====
section
/-!
DEFINITION. Meanings of WATCH and its wakes (Chapter 9), of tamper and the random generator (Chapter 13) and of the timers (Chapter 15).
-/

namespace Sys2Proof.Machine

open Sys2Proof

/-! ### WATCH -/

/-- A meaning of the Attic: it holds while VATTIC does. -/
def State.onVattic (s : State) (f : Dev → Dev) : Host.Outcome State Fault Refusal := s.onDev fun d => if d.attic.up then f d else d

/-- WATCH_TICK (R271). -/
def execWatchTick (ms : List Cplx) (s : State) : Host.Outcome State Fault Refusal := s.onVattic (·.watchTick ms)
/-- WATCH_TIMER_WAKE (R278). -/
def execWatchTimerWake (s : State) : Host.Outcome State Fault Refusal := s.onVattic Dev.watchTimer
/-- The WAKE pin (R278, R279). -/
def Dev.wakePin (d : Dev) : Dev := if d.phase == .watch || d.phase == .waking then d.registerWake 16 else d
/-- WAKE (R278). -/
def execWake (s : State) : Host.Outcome State Fault Refusal := s.onVattic Dev.wakePin

/-! ### Tamper and the generator -/

/-- KEY_KILL (R401, R403). Log 121 DESIGN CHOICE. -/
def execKeyKill (src : BitVec 9) (blown : Bool) (s : State) : Host.Outcome State Fault Refusal :=
  s.withFuses (s.dev.tampered s.fuses src.toNat blown)
/-- KEY_KILL_DEASSERT (R401). -/
def execKeyKillDeassert (s : State) : Host.Outcome State Fault Refusal := s.onDev Dev.keyKillOff
/-- DRBG_FAIL (R399). -/
def execDrbgFail (s : State) : Host.Outcome State Fault Refusal := s.onDev Dev.drbgFailed
/-- DRBG_RETRY (R399). -/
def execDrbgRetry (pass : Bool) (s : State) : Host.Outcome State Fault Refusal := s.onDev (·.drbgRetry pass)
/-- DRBG_RESEED (R398). -/
def execDrbgReseed (s : State) : Host.Outcome State Fault Refusal := s.onDev Dev.drbgReseed

/-! ### Timers -/

/-- A tick of a timer's clock, and at a count of 0 the period group that waits for it (R458, R462). -/
def Dev.timerClock (d : Dev) (n : Fin 8) : Dev :=
  let d := d.timerTick n
  if d.reg (R.TMRn_COUNT n) == 0#32 then d.applyAtBoundary (.tmr n) else d

/-- A capture whose source is a pin (R463): compares and chains capture with their own events. Log 100 DEDUCED. -/
def Dev.pinCapture (d : Dev) (n k : Nat) (coincident : Bool) : Dev :=
  let src := d.fld (capSrc n k)
  if 1 ≤ src && src ≤ 0x18 then d.capture n k coincident else d

/-- TIMER_TICK (R458, R459). The clock is an input: the ticks of a timer on the device-time tick too come as this row, and an advance of TIME
brings none by itself. Log 145 DESIGN CHOICE. -/
def execTimerTick (n : Fin 8) (s : State) : Host.Outcome State Fault Refusal := s.onLive (·.timerClock n)
/-- TIMER_CAPTURE (R464). -/
def execTimerCapture (n : Fin 8) (k : Fin 2) (coincident : Bool) (s : State) : Host.Outcome State Fault Refusal :=
  s.onLive (·.pinCapture n k coincident)

end Sys2Proof.Machine
end

