-- ==== Sys2Proof/Machine/Dispatch.lean ====
section
/-!
DEFINITION. The dispatcher: one arm per command, each a direct call of its meaning.
-/

namespace Sys2Proof.Machine

open Sys2Proof

/-- The effect of a command on everything but the queue. -/
def exec (i : Instr) (s : State) : Host.Outcome State Fault Refusal :=
  match i with
  | .t0 env => Sys2Proof.Machine.execT0 env s
  | .bootWdog => Sys2Proof.Machine.execBootWdog s
  | .pfail flush => Sys2Proof.Machine.execPfail flush s
  | .supplyMonitorTrip flush => Sys2Proof.Machine.execSupplyMonitorTrip flush s
  | .pfailRestart => Sys2Proof.Machine.execPfailRestart s
  | .pgoodFall => Sys2Proof.Machine.execPgoodFall s
  | .resetNFall => Sys2Proof.Machine.execResetNFall s
  | .imageWriteBegin ok => Sys2Proof.Machine.execImageWriteBegin ok s
  | .imageWriteData ok => Sys2Proof.Machine.execImageWriteData ok s
  | .imageWriteEnd ok => Sys2Proof.Machine.execImageWriteEnd ok s
  | .imageWriteAbort => Sys2Proof.Machine.execImageWriteAbort s
  | .modeRequest req => Sys2Proof.Machine.execModeRequest req s
  | .modeTransitionComplete us flush => Sys2Proof.Machine.execModeTransitionComplete us flush s
  | .wakeComplete us => Sys2Proof.Machine.execWakeComplete us s
  | .checkDone => Sys2Proof.Machine.execCheckDone s
  | .groupCommit g => Sys2Proof.Machine.execGroupCommit g s
  | .groupApply g => Sys2Proof.Machine.execGroupApply g s
  | .regWr f => Sys2Proof.Machine.execRegWr f s
  | .regRd f => Sys2Proof.Machine.execRegRd f s
  | .supDirectQuotaWrite v => Sys2Proof.Machine.execSupDirectQuotaWrite v s
  | .hfcEnable n v => Sys2Proof.Machine.execHfcEnable n v s
  | .hfpEnable n v => Sys2Proof.Machine.execHfpEnable n v s
  | .hfpFaultClear n => Sys2Proof.Machine.execHfpFaultClear n s
  | .hfcBondEn n v => Sys2Proof.Machine.execHfcBondEn n v s
  | .hfcTxctlWrite n att phase => Sys2Proof.Machine.execHfcTxctlWrite n att phase s
  | .profileViewWrite view k data => Sys2Proof.Machine.execProfileViewWrite view k data s
  | .uhfcEnable n v => Sys2Proof.Machine.execUhfcEnable n v s
  | .uhfpEnable n v => Sys2Proof.Machine.execUhfpEnable n v s
  | .uhfpFaultClear n => Sys2Proof.Machine.execUhfpFaultClear n s
  | .recal n => Sys2Proof.Machine.execRecal n s
  | .uhfSteerEn v => Sys2Proof.Machine.execUhfSteerEn v s
  | .govLimitWrite r data => Sys2Proof.Machine.execGovLimitWrite r data s
  | .govRestore => Sys2Proof.Machine.execGovRestore s
  | .coexAEnWrite v => Sys2Proof.Machine.execCoexAEnWrite v s
  | .coexPwEn k v => Sys2Proof.Machine.execCoexPwEn k v s
  | .watchRegWrite r data => Sys2Proof.Machine.execWatchRegWrite r data s
  | .watchForget => Sys2Proof.Machine.execWatchForget s
  | .chnSelWrite dev slot => Sys2Proof.Machine.execChnSelWrite dev slot s
  | .chnHselWrite entry => Sys2Proof.Machine.execChnHselWrite entry s
  | .objSelWrite index => Sys2Proof.Machine.execObjSelWrite index s
  | .objLoad => Sys2Proof.Machine.execObjLoad s
  | .objWrite => Sys2Proof.Machine.execObjWrite s
  | .vltSlotSelWrite slot => Sys2Proof.Machine.execVltSlotSelWrite slot s
  | .fltSelWrite entry => Sys2Proof.Machine.execFltSelWrite entry s
  | .fltStatClear nand clock seq other => Sys2Proof.Machine.execFltStatClear nand clock seq other s
  | .fltClr hf uhf => Sys2Proof.Machine.execFltClr hf uhf s
  | .fltRecheckEnd pass => Sys2Proof.Machine.execFltRecheckEnd pass s
  | .timeSnap => Sys2Proof.Machine.execTimeSnap s
  | .tmrClear n => Sys2Proof.Machine.execTmrClear n s
  | .tmrEnable n v => Sys2Proof.Machine.execTmrEnable n v s
  | .cvuEnable n v => Sys2Proof.Machine.execCvuEnable n v s
  | .cvuValueWrite n alive data => Sys2Proof.Machine.execCvuValueWrite n alive data s
  | .cvuAnySet n => Sys2Proof.Machine.execCvuAnySet n s
  | .cmd f => Sys2Proof.Machine.execCmd f s
  | .chnCreate => Sys2Proof.Machine.execChnCreate s
  | .chnStart => Sys2Proof.Machine.execChnStart s
  | .chnStop => Sys2Proof.Machine.execChnStop s
  | .chnStopDrain => Sys2Proof.Machine.execChnStopDrain s
  | .chnRun => Sys2Proof.Machine.execChnRun s
  | .chnDestroy => Sys2Proof.Machine.execChnDestroy s
  | .stoppingEnd slot => Sys2Proof.Machine.execStoppingEnd slot s
  | .softReset flush => Sys2Proof.Machine.execSoftReset flush s
  | .calTune ms => Sys2Proof.Machine.execCalTune ms s
  | .calCoupling ks => Sys2Proof.Machine.execCalCoupling ks s
  | .calRxgain gs => Sys2Proof.Machine.execCalRxgain gs s
  | .calUhfLeak ms => Sys2Proof.Machine.execCalUhfLeak ms s
  | .regionBlow ok => Sys2Proof.Machine.execRegionBlow ok s
  | .keyImport => Sys2Proof.Machine.execKeyImport s
  | .keyClear => Sys2Proof.Machine.execKeyClear s
  | .sessionOpen => Sys2Proof.Machine.execSessionOpen s
  | .sessionClose => Sys2Proof.Machine.execSessionClose s
  | .rearmChallenge => Sys2Proof.Machine.execRearmChallenge s
  | .rearmResponse flush => Sys2Proof.Machine.execRearmResponse flush s
  | .timeSet => Sys2Proof.Machine.execTimeSet s
  | .cmdResult f => Sys2Proof.Machine.execCmdResult f s
  | .status f => Sys2Proof.Machine.execStatus f s
  | .evtRd f => Sys2Proof.Machine.execEvtRd f s
  | .jrnlRd f => Sys2Proof.Machine.execJrnlRd f s
  | .jrnlAck f => Sys2Proof.Machine.execJrnlAck f s
  | .journalStaging r => Sys2Proof.Machine.execJournalStaging r s
  | .mboxWr f => Sys2Proof.Machine.execMboxWr f s
  | .mboxRd f => Sys2Proof.Machine.execMboxRd f s
  | .directMessageStart slot => Sys2Proof.Machine.execDirectMessageStart slot s
  | .cycleStart slot => Sys2Proof.Machine.execCycleStart slot s
  | .runDue slot => Sys2Proof.Machine.execRunDue slot s
  | .arbiterGrant ma phase => Sys2Proof.Machine.execArbiterGrant ma phase s
  | .fieldGuardEnd n => Sys2Proof.Machine.execFieldGuardEnd n s
  | .staggerRelease n => Sys2Proof.Machine.execStaggerRelease n s
  | .replyWindowOpen n resid noise => Sys2Proof.Machine.execReplyWindowOpen n resid noise s
  | .sofAcquired n sof => Sys2Proof.Machine.execSofAcquired n sof s
  | .hfNoResponse n => Sys2Proof.Machine.execHfNoResponse n s
  | .hfFrameEnd n r => Sys2Proof.Machine.execHfFrameEnd n r s
  | .residualClear n => Sys2Proof.Machine.execResidualClear n s
  | .couplingTrackUpdate n m k => Sys2Proof.Machine.execCouplingTrackUpdate n m k s
  | .hfPortOpen n us => Sys2Proof.Machine.execHfPortOpen n us s
  | .hfPortShort n us => Sys2Proof.Machine.execHfPortShort n us s
  | .hfDriverFault n us => Sys2Proof.Machine.execHfDriverFault n us s
  | .attemptEnd slot => Sys2Proof.Machine.execAttemptEnd slot s
  | .deadlinePassed slot => Sys2Proof.Machine.execDeadlinePassed slot s
  | .frameHandoff c => Sys2Proof.Machine.execFrameHandoff c s
  | .recordBuild => Sys2Proof.Machine.execRecordBuild s
  | .larderSlotFree => Sys2Proof.Machine.execLarderSlotFree s
  | .batchMsExpire => Sys2Proof.Machine.execBatchMsExpire s
  | .pageProgramDone d pass => Sys2Proof.Machine.execPageProgramDone d pass s
  | .eraseDone d pass => Sys2Proof.Machine.execEraseDone d pass s
  | .nandDeviceTimeout d => Sys2Proof.Machine.execNandDeviceTimeout d s
  | .compaction r => Sys2Proof.Machine.execCompaction r s
  | .strikeEnd pin => Sys2Proof.Machine.execStrikeEnd pin s
  | .radioChannelChange n => Sys2Proof.Machine.execRadioChannelChange n s
  | .synthLock n us => Sys2Proof.Machine.execSynthLock n us s
  | .synthUnlock n => Sys2Proof.Machine.execSynthUnlock n s
  | .uhfSynthFault n us => Sys2Proof.Machine.execUhfSynthFault n us s
  | .radioPortChange n => Sys2Proof.Machine.execRadioPortChange n s
  | .carrierOn n meas => Sys2Proof.Machine.execCarrierOn n meas s
  | .cancellerTrainingEnd n leak resid ci cq => Sys2Proof.Machine.execCancellerTrainingEnd n leak resid ci cq s
  | .packet n => Sys2Proof.Machine.execPacket n s
  | .carrierOff n => Sys2Proof.Machine.execCarrierOff n s
  | .uhfPreambleAcquired n p => Sys2Proof.Machine.execUhfPreambleAcquired n p s
  | .uhfReplyTimeout n => Sys2Proof.Machine.execUhfReplyTimeout n s
  | .uhfReplyEnd n r => Sys2Proof.Machine.execUhfReplyEnd n r s
  | .uhfPaLoop n us => Sys2Proof.Machine.execUhfPaLoop n us s
  | .uhfPortFault n rl us => Sys2Proof.Machine.execUhfPortFault n rl us s
  | .govOverlimit c us => Sys2Proof.Machine.execGovOverlimit c us s
  | .tempSample t => Sys2Proof.Machine.execTempSample t s
  | .dwellMaxExpire n => Sys2Proof.Machine.execDwellMaxExpire n s
  | .offMinExpire n => Sys2Proof.Machine.execOffMinExpire n s
  | .dutyBudgetSpent => Sys2Proof.Machine.execDutyBudgetSpent s
  | .coexGrant set meas0 meas1 => Sys2Proof.Machine.execCoexGrant set meas0 meas1 s
  | .coexPreempt set act => Sys2Proof.Machine.execCoexPreempt set act s
  | .protectedWindowStart k => Sys2Proof.Machine.execProtectedWindowStart k s
  | .protectedWindowEnd k => Sys2Proof.Machine.execProtectedWindowEnd k s
  | .watchTick ms => Sys2Proof.Machine.execWatchTick ms s
  | .watchTimerWake => Sys2Proof.Machine.execWatchTimerWake s
  | .wake => Sys2Proof.Machine.execWake s
  | .keyKill src blown => Sys2Proof.Machine.execKeyKill src blown s
  | .drbgFail => Sys2Proof.Machine.execDrbgFail s
  | .drbgRetry pass => Sys2Proof.Machine.execDrbgRetry pass s
  | .drbgReseed => Sys2Proof.Machine.execDrbgReseed s
  | .timerTick n => Sys2Proof.Machine.execTimerTick n s
  | .timerCapture n k coincident => Sys2Proof.Machine.execTimerCapture n k coincident s
  | .seqWdog us flush => Sys2Proof.Machine.execSeqWdog us flush s
  | .clockLoss us => Sys2Proof.Machine.execClockLoss us s
  | .atticCrystalRestore => Sys2Proof.Machine.execAtticCrystalRestore s
  | .corePllUnlock flush => Sys2Proof.Machine.execCorePllUnlock flush s
  | .keyKillDeassert => Sys2Proof.Machine.execKeyKillDeassert s
  | .pfailDeassert => Sys2Proof.Machine.execPfailDeassert s
  | .vatticLoss => Sys2Proof.Machine.execVatticLoss s
  | .vatticPor => Sys2Proof.Machine.execVatticPor s
  | .hostFrameUnknownOpcode op f => Sys2Proof.Machine.execHostFrameUnknownOpcode op f s

end Sys2Proof.Machine
end

