-- ==== Sys2Proof/Machine/Step.lean ====
section
/-!
DEFINITION. One step of the block: the command at the front of the queue, or the passing of a microsecond.
-/

namespace Sys2Proof.Machine

open Sys2Proof

/-- A step takes the command at the front of the queue and answers its effect; with no command waiting one microsecond
passes. Log 1 DESIGN CHOICE, 2 DESIGN CHOICE. -/
def step (s : State) : Host.Outcome State Fault Refusal :=
  match s.pending with
  | [] => .next (s.withDev (s.dev.tick 1))
  | c :: rest => exec c { s with pending := rest }

/-- The command a table word spells at the front of the queue; unchanged where the word spells none. Log 1 DESIGN CHOICE. -/
def State.withFetchWord (s : State) (nbits w : Nat) : State :=
  match decodeTableWord nbits w with
  | some c => { s with pending := c :: s.pending }
  | none => s

end Sys2Proof.Machine
end

