-- ==== Sys2Proof/Safety.lean ====
section
/-!
DEFINITION. What counts as a safe state and a safe step, and the terms the statements are written in: how a command answers, and what it
leaves alone.
-/

namespace Sys2Proof.Machine

open Sys2Proof

/-- A safe state: the NOR flash is in canonical form. -/
def State.inv (s : State) : Bool := Mem.wf s.nor

/-- What the fuses may undergo (R246, R248, R384, R402): ROOT, its parity verdict, SERIAL, DEBUG_OFF and POLICY never change; a
HARD_BLOWN fuse stays blown; a region record once tried stays as it is. -/
def Fuses.mayBecome (f g : Fuses) : Prop :=
  g.root = f.root ∧ g.rootOk = f.rootOk ∧ g.serial = f.serial ∧ g.debugOff = f.debugOff ∧ g.hard = f.hard ∧
  (f.hardBlown = true → g.hardBlown = true) ∧ (f.blowTried = true → g.region = f.region ∧ g.blowTried = true)

/-- The command answers a next state in which the device has property `p`, and the NOR flash, the fuses and the queue are as they were. -/
def completes (c : Instr) (s : State) (p : Dev → Prop) : Prop := ∃ e, exec c s = .next (s.withDev e) ∧ p e

/-- The host port carries register writes out: the device runs, or has flushed with its boot done (R41, R365). -/
def Dev.served (d : Dev) : Prop := d.phase = .running ∨ (d.phase = .flushed ∧ d.bootDone = true)

/-- `e` is `d` but for register words at the addresses `l`. -/
def Dev.onlyRegs (d e : Dev) (l : List Nat) : Prop := e = { d with regs := e.regs } ∧ ∀ a, a ∉ l → e.reg a = d.reg a

/-- `e` is `d` but that a check has joined the end of the queue of checks, with SUP_CHECK.BUSY at 1 (R86). -/
def Dev.queued (d e : Dev) (c : PendingCheck) : Prop :=
  e = { d with checks := d.checks ++ [c], regs := e.regs } ∧ e.flag F.SUP_CHECK_BUSY = true ∧
  ∀ a, a ≠ F.SUP_CHECK_BUSY.addr → e.reg a = d.reg a

/-- The host port with none of the options of R436 in force, on a device that runs with its boot done and no step of it hanging; no
check-value unit snoops it (R451). -/
def Dev.plainPort (d : Dev) : Prop :=
  d.phase = .running ∧ d.bootDone = true ∧ d.stalled = none ∧ byteAt d.host.opts 0 = 0 ∧
  ∀ u, u < 6 → d.flag (F.CVUn_CFG_ENABLE u) = true → d.fld (F.CVUn_CFG_SRC u) ≠ 1 ∧ d.fld (F.CVUn_CFG_SRC u) ≠ 2

/-- A frame that no check 1–10 of R435 refuses. -/
def Dev.passes (d : Dev) (b : Bytes) : Prop :=
  d.headCode b = 0 ∧ d.macBad b = false ∧ d.handleBad b = false ∧ d.notDirect b = false ∧ cmdBad b = false

/-- RDY, ERR and DUP after a frame (R433). -/
def Dev.answers (d : Dev) (rdy err dup : Bool) : Prop := d.host.rdy = rdy ∧ d.host.err = err ∧ d.host.dup = dup

/-- `e` reports the frame `b` refused with a code (R435), RDY as given. -/
def Dev.refuses (d e : Dev) (b : Bytes) (code addr : Nat) (rdy : Bool) : Prop :=
  e.answers rdy true false ∧ e.fld F.HOST_LAST_ERR_CODE = code ∧ e.fld F.HOST_LAST_ERR_OPCODE = byteAt b 0 ∧
  e.fld F.HOST_LAST_ERR_ADDR = addr ∧ e.fld F.HOST_CNT_REFUSED = satAdd 0xFFFF (d.fld F.HOST_CNT_REFUSED) 1

/-- The device runs, and the command at the head of its queue is `c` with the code `code`; `d` is the device once it is taken, its request
PENDING (R303). -/
def Dev.takes (s : Dev) (code : Nat) (c : Cmd) (d : Dev) : Prop :=
  s.phase = .running ∧ s.takeCmd code = some (c, d) ∧ ∃ x ∈ (d.history c.handle).entries, x.id = c.reqId ∧ x.st = .pending

/-- As `takes`, for a command of the device: its handle is 0. -/
def Dev.takesOwn (s : Dev) (code : Nat) (c : Cmd) (d : Dev) : Prop := s.takes code c d ∧ c.handle = 0

/-- In `e` the command is DONE with a code and the first 56 bytes of a result, and CMD_DONE is the newest event (R299, R312, R445). -/
def Dev.reports (e : Dev) (c : Cmd) (code : Nat) (result : Bytes) : Prop :=
  (∀ x ∈ (e.history c.handle).entries, x.id = c.reqId → x.st = .done ∧ x.outcome = code ∧ x.result = result.take 56) ∧
  ∃ y, e.host.ring.getLast? = some y ∧ y.kind = 3 ∧ y.handle = c.handle ∧ numAt y.data 0 2 = c.reqId % 65536 ∧
    byteAt y.data 3 = code % 256

/-- `e` is `d` but for the report of a command of the device and register words at the addresses `l`; a full event ring counts what it
drops (R443). -/
def Dev.onlyCmd (d e : Dev) (l : List Nat) : Prop :=
  e = { d with
    regs := e.regs, host := { d.host with hist := e.host.hist, ring := e.host.ring, dropped := e.host.dropped } } ∧
  ∀ a, a ∉ R.HOST_EVT_STAT :: l → e.reg a = d.reg a

/-- A channel holds no chain and has no run pending. -/
def Dev.unattached (d : Dev) (slot : Nat) : Prop :=
  (∀ c, d.chan? slot = some c → c.pending = none) ∧ (∀ n, (d.hfc n).owner ≠ some slot) ∧ ∀ n, (d.uhfc n).owner ≠ some slot

/-- The frame buffers of a chain (R22). -/
def Dev.bufsOf (d : Dev) (c : Sys2Proof.Chain) : List ResFrame :=
  match c with
  | .hf n => (d.hfc n).bufs
  | .uhf n => (d.uhfc n).bufs

/-- `e` is `d` but for the channel in one slot. -/
def Dev.onlyChan (d e : Dev) (slot : Nat) : Prop := e = { d with chans := e.chans } ∧ ∀ k, k ≠ slot → e.chan? k = d.chan? k

/-- The attempt of HF chain `n` has ended with a last frame of a code, in a buffer of the chain that receives for it (R22, R309). -/
def Dev.hfEnded (d e : Dev) (n r code : Nat) : Prop :=
  (e.hfc n).att = none ∧ (e.hfc n).phase = .idle ∧
  ∃ f, (e.hfc r).bufs = (d.hfc r).bufs ++ [f] ∧ f.code = code ∧ f.last = true ∧ (code ≠ 0 → f.payload = [])

/-- The attempt of UHF chain `n` has ended with a last frame of a code (R22, R309); its radio queue is empty. -/
def Dev.uhfEnded (d e : Dev) (n code : Nat) : Prop :=
  (e.uhfc n).att = none ∧ (e.uhfc n).queue = [] ∧
  ∃ f, (e.uhfc n).bufs = (d.uhfc n).bufs ++ [f] ∧ f.code = code ∧ f.last = true ∧ (code ≠ 0 → f.payload = [])

/-- The radio queue of a UHF chain once its head has been taken: a command that waited for room enters it (R184). -/
def Dev.popped (d : Dev) (n : Nat) : List (RadioCmd × Nat) :=
  (d.uhfc n).queue.drop 1 ++ ((d.uhfc n).backlog.take 1).map fun c => (c, d.time)

/-- UHF chain `n` works alone, and the record builder, the timers' groups and the chain's own group ask for nothing of it. -/
def Dev.uhfAlone (d : Dev) (n : Nat) : Prop := (d.uhfc n).partner = none ∧ (d.uhfc n).master = true ∧ d.applying = []

/-- The rows of the UHF radio, its protocol engine, the governor's instants and the coexistence wires, but for those that latch a fault. -/
def uhfRow (c : Instr) : Bool :=
  match c with
  | .radioChannelChange _ | .synthLock _ _ | .synthUnlock _ | .radioPortChange _ | .carrierOn _ _ | .cancellerTrainingEnd .. | .packet _
  | .carrierOff _ | .uhfPreambleAcquired _ _ | .uhfReplyTimeout _ | .uhfReplyEnd _ _ | .dwellMaxExpire _ | .offMinExpire _
  | .dutyBudgetSpent | .coexGrant .. | .coexPreempt _ _ | .protectedWindowStart _ | .protectedWindowEnd _ | .tempSample _ => true
  | _ => false

/-- The rows of an HF exchange that leave the transaction engine as it stands. -/
def hfRow (c : Instr) : Bool :=
  match c with
  | .fieldGuardEnd _ | .staggerRelease _ | .sofAcquired _ _ | .residualClear _ | .couplingTrackUpdate .. => true
  | _ => false

/-- Every chain holds a port of its band and a partner among its fellows, and no group waits for its boundary. -/
def Dev.chainsInRange (d : Dev) : Prop :=
  d.applying = [] ∧ (∀ n, (∀ p ∈ (d.hfc n).port, p < 16) ∧ ∀ m ∈ (d.hfc n).partner, m < 4) ∧
  ∀ n, (∀ p ∈ (d.uhfc n).port, p < 8) ∧ ∀ m ∈ (d.uhfc n).partner, m < 2

end Sys2Proof.Machine
end

