-- ==== Sys2Proof/Certificates/Slice0/Obligations.lean ====
section
/-!
DEFINITION. The statements for the provers.
-/

open Sys2Proof Sys2Proof.Machine

/-- A step with a command at the front of the queue is that command's effect on the state with the rest of the queue. -/
def Obligations.StepRunsFront : Prop :=
  ∀ (s : State) (c : Instr) (rest : List Instr), step { s with pending := c :: rest } = exec c { s with pending := rest }

/-- On an empty queue a step lets one microsecond pass (the model's choice: log entry 2). -/
def Obligations.StepIdles : Prop :=
  ∀ s : State, s.pending = [] → step s = .next (s.withDev (s.dev.tick 1))

/-- No command changes the queue of waiting commands. -/
def Obligations.ExecKeepsQueue : Prop :=
  ∀ (c : Instr) (s t : State), exec c s = .next t → t.pending = s.pending

/-- The state after reset is safe. -/
def Obligations.ResetSafe : Prop := State.reset.inv = true

/-- Every step keeps the NOR flash in canonical form, from every state that has it so. -/
def Obligations.StepKeepsSafe : Prop :=
  ∀ s t : State, s.inv = true → step s = .next t → t.inv = true

/-- Only BEGIN, DATA and END of IMAGE_WRITE change the NOR flash on MEM_CS0.

Only T0, REGION_BLOW and KEY_KILL change the fuses. -/
def Obligations.OnlyTheseChangeNorAndFuses : Prop :=
  (∀ (c : Instr) (s t : State), exec c s = .next t →
    (∀ ok, c ≠ .imageWriteBegin ok ∧ c ≠ .imageWriteData ok ∧ c ≠ .imageWriteEnd ok) → t.nor = s.nor) ∧
  (∀ (c : Instr) (s t : State), exec c s = .next t →
    (∀ env ok src blown, c ≠ .t0 env ∧ c ≠ .regionBlow ok ∧ c ≠ .keyKill src blown) → t.fuses = s.fuses)

/-- No step undoes a fuse: ROOT, SERIAL, DEBUG_OFF and POLICY stay, HARD_BLOWN stays blown, a region record once tried stays. -/
def Obligations.FusesOneWay : Prop :=
  ∀ s t : State, step s = .next t → s.fuses.mayBecome t.fuses

/-- A write of 1 to an enable waits for its check: HFC_ENABLE, HFP_ENABLE, HFC_BOND_EN, UHFC_ENABLE, UHFP_ENABLE, UHF_STEER_EN,
COEX_PW_EN, TMR_ENABLE, and CVU_ENABLE of a unit the host port does not own.

Checked values wait for their check: SUP_DIRECT_QUOTA_WRITE, GOV_LIMIT_WRITE but for RESTORE, WATCH_REG_WRITE but for FORGET. The
holding copy of GOV_CHMASK_HI and LO is disarmed by a write (R465).

A write of 0 to an enable that is 1 clears it with no check: HFC_BOND_EN, UHF_STEER_EN, TMR_ENABLE, CVU_ENABLE, and HFP_ENABLE and
UHFP_ENABLE of a port without a field or carrier; what stood still for it is then brought up to date (`settle`). -/
def Obligations.ChecksWait : Prop :=
  (∀ s : State, s.dev.served →
    (∀ n, completes (.hfcEnable n true) s (s.dev.queued · (.enable (.hfc n)))) ∧
    (∀ n, completes (.hfpEnable n true) s (s.dev.queued · (.enable (.hfp n)))) ∧
    (∀ n, completes (.hfcBondEn n true) s (s.dev.queued · (.enable (.hfBond n)))) ∧
    (∀ n, completes (.uhfcEnable n true) s (s.dev.queued · (.enable (.uhfc n)))) ∧
    (∀ n, completes (.uhfpEnable n true) s (s.dev.queued · (.enable (.uhfp n)))) ∧
    completes (.uhfSteerEn true) s (s.dev.queued · (.enable .steer)) ∧
    (∀ k, completes (.coexPwEn k true) s (s.dev.queued · (.enable (.coexPw k)))) ∧
    (∀ n, completes (.tmrEnable n true) s (s.dev.queued · (.enable (.tmr n)))) ∧
    (∀ n : Fin 6, s.dev.flag (F.CVUn_CFG_OWNED n) = false → completes (.cvuEnable n true) s (s.dev.queued · (.enable (.cvu n))))) ∧
  (∀ s : State, s.dev.served →
    (∀ v, completes (.supDirectQuotaWrite v) s (s.dev.queued · (.value R.SUP_DIRECT_QUOTA (wordOf v.toNat)))) ∧
    (∀ r data, (r = .ctl → data.getLsbD 31 = false) →
      completes (.govLimitWrite r data) s ((s.dev.disarm (govAddr r)).queued · (.value (govAddr r) data))) ∧
    (∀ r data, (r = .ctl → data.getLsbD 31 = false) →
      completes (.watchRegWrite r data) s (s.dev.queued · (.value (watchAddr r) data)))) ∧
  (∀ s : State, s.dev.served →
    (∀ n : Fin 4, s.dev.flag (F.HFCn_BOND_EN n) = true → completes (.hfcBondEn n false) s fun x =>
      ∃ e : Dev, x = e.settle ∧ e.flag (F.HFCn_BOND_EN n) = false ∧ s.dev.onlyRegs e [R.HFCn_BOND n]) ∧
    (s.dev.flag F.UHF_STEER_EN = true → completes (.uhfSteerEn false) s fun x =>
      ∃ e : Dev, x = e.settle ∧ e.flag F.UHF_STEER_EN = false ∧ s.dev.onlyRegs e [R.UHF_STEER]) ∧
    (∀ n : Fin 8, s.dev.flag (F.TMRn_CTL_ENABLE n) = true → completes (.tmrEnable n false) s fun x =>
      ∃ e : Dev, x = e.settle ∧ e.flag (F.TMRn_CTL_ENABLE n) = false ∧ e.flag (F.TMRn_STAT_RUNNING n) = false ∧
        s.dev.onlyRegs e [R.TMRn_CTL n, R.TMRn_STAT n]) ∧
    (∀ n : Fin 6, s.dev.flag (F.CVUn_CFG_OWNED n) = false → s.dev.flag (F.CVUn_CFG_ENABLE n) = true →
      completes (.cvuEnable n false) s fun x =>
        ∃ e : Dev, x = e.settle ∧ e.flag (F.CVUn_CFG_ENABLE n) = false ∧ s.dev.onlyRegs e [R.CVUn_CFG n]) ∧
    (∀ n : Fin 16, s.dev.flag (F.HFPn_CFG_ENABLE n) = true → s.dev.hfChainOn n = none → completes (.hfpEnable n false) s fun x =>
      ∃ e : Dev, x = e.settle ∧ e.flag (F.HFPn_CFG_ENABLE n) = false ∧ s.dev.onlyRegs e [R.HFPn_CFG n]) ∧
    (∀ n : Fin 8, s.dev.flag (F.UHFPn_CFG_ENABLE n) = true → (∀ m, (s.dev.uhfc m).owner = none) →
      completes (.uhfpEnable n false) s fun x =>
        ∃ e : Dev, x = e.settle ∧ e.flag (F.UHFPn_CFG_ENABLE n) = false ∧ s.dev.onlyRegs e [R.UHFPn_CFG n]))

/-- CHECK_DONE for an enable at the head of the queue of checks. A check that fails leaves the enable as it was and writes SUP_CC and
SUP_CHECK; one that passes sets the enable of a port, bond, pair, window or timer. What stood still for it is then brought up to date
(`settle`).

A write of SUP_DIRECT_QUOTA judged: 0–50 takes effect, a larger value leaves the field and is recorded with CC_DIRECT_QUOTA. -/
def Obligations.ChecksEnd : Prop :=
  (∀ (s : State) (e : Enable) (rest : List PendingCheck), s.dev.served → s.dev.checks = .enable e :: rest →
    let code := ({ s.dev with checks := rest }.setFlag F.SUP_CHECK_BUSY (!rest.isEmpty)).enableCode e
    (code ≠ 0 → completes .checkDone s fun x =>
      x.flag (enableFld e) = s.dev.flag (enableFld e) ∧ x.fld F.SUP_CC_CODE = code % 256 ∧ x.fld F.SUP_CC_SOURCE = 1 ∧
      x.fld F.SUP_CC_SUBJECT = (enableFld e).addr % 65536 ∧ x.fld F.SUP_CHECK_LAST_CODE = code % 256 ∧
      x.flag F.SUP_CHECK_BUSY = !rest.isEmpty ∧
      { s.dev with checks := rest }.onlyRegs x [R.SUP_CHECK, R.SUP_CC, R.SUP_CC_NEED]) ∧
    (code = 0 → (∀ n, e ≠ .hfc n ∧ e ≠ .uhfc n ∧ e ≠ .cvu n) → s.dev.flag (enableFld e) = false → completes .checkDone s fun x =>
      ∃ y : Dev, x = y.settle ∧ y.flag (enableFld e) = true ∧ y.fld F.SUP_CHECK_LAST_CODE = 0 ∧
      y.fld F.SUP_CHECK_DONE = (s.dev.fld F.SUP_CHECK_DONE + 1) % 65536 ∧ y.flag F.SUP_CHECK_BUSY = !rest.isEmpty ∧
      { s.dev with checks := rest }.onlyRegs y (R.SUP_CHECK :: (enableFld e).addr :: (List.range 8).map R.TMRn_STAT))) ∧
  (∀ (s : State) (w : Word) (rest : List PendingCheck), s.dev.served → s.dev.checks = .value R.SUP_DIRECT_QUOTA w :: rest →
    (bitsOf w 7 0 ≤ 50 → completes .checkDone s fun x => ∃ y : Dev, x = y.settle ∧
      y.fld F.SUP_DIRECT_QUOTA_QUOTA = bitsOf w 7 0 ∧ y.fld F.SUP_CHECK_LAST_CODE = 0 ∧
      { s.dev with checks := rest }.onlyRegs y [R.SUP_CHECK, R.SUP_DIRECT_QUOTA]) ∧
    (50 < bitsOf w 7 0 → completes .checkDone s fun x =>
      x.fld F.SUP_CC_CODE = 0x0E ∧ x.fld F.SUP_CC_SOURCE = 6 ∧ x.fld F.SUP_CHECK_LAST_CODE = 0x0E ∧
      { s.dev with checks := rest }.onlyRegs x [R.SUP_CHECK, R.SUP_CC, R.SUP_CC_NEED]))

/-- GROUP_COMMIT copies the shadow for a check and sets CHECKING; while CHECKING is 1 it is ignored. GROUP_APPLY puts the checked copy
of an HF, UHF or check-value group in force at its boundary, and before it does nothing. -/
def Obligations.GroupsCommitAndApply : Prop :=
  ∀ (s : State) (g : Group), s.dev.served →
    (s.dev.checking g = true → completes (.groupCommit g) s (· = s.dev)) ∧
    (s.dev.checking g = false → completes (.groupCommit g) s fun x =>
      x.checks = s.dev.checks ++ [.commit g (s.dev.shadowOf g)] ∧ x.checking g = true ∧ x.flag F.SUP_CHECK_BUSY = true ∧
      { s.dev with checks := x.checks }.onlyRegs x [R.SUP_CHECK, groupReg g]) ∧
    (s.dev.atBoundary g = false → completes (.groupApply g) s (· = s.dev)) ∧
    (∀ a w rest, s.dev.applying = (g, [(a, w)]) :: rest → (∀ y ∈ rest, y.1 ≠ g) → s.dev.atBoundary g = true →
      groupMembers g = [a] → completes (.groupApply g) s fun x =>
        x.reg a = w ∧ x.fld ⟨groupReg g, 23, 16⟩ = 0 ∧ x.flag ⟨groupReg g, 31, 31⟩ = (RegMap.get s.dev.shadow a != w) ∧
        { s.dev with applying := rest }.onlyRegs x [a, groupReg g])

/-- PROFILE_VIEW_WRITE: a word of the viewed profile takes the data, every other word of it and every other profile stay; a profile
bound to an enabled port is locked and keeps its bytes.

HFC_TXCTL_WRITE: ATT_EXTRA (at most 300) and PHASE are stored; on a chain that works alone nothing else changes with no field, inside an
exchange the output and the carrier phase wait for its end, and otherwise both are in force at once.

CVU_VALUE_WRITE writes the register cut to the unit's width, and nothing on a tap or a unit the host port owns; CVU_ANY_SET sets
ANY. -/
def Obligations.UnitRegisters : Prop :=
  (∀ (s : State) (view : ProfileView) (k : Fin 12) (data : Word), s.dev.served →
    let prof := match view with
      | .port n => s.dev.fld (F.HFPn_CFG_PROFILE n)
      | .selected => s.dev.fld F.UHFPROF_SEL_PROFILE
    let locked := match view with
      | .port n => s.dev.flag (F.HFPn_CFG_ENABLE n)
      | .selected => s.dev.profileLocked prof
    (s.dev.profile prof).length = 48 →
    completes (.profileViewWrite view k data) s fun x =>
      x.profile prof = (if locked then s.dev.profile prof else overlay (s.dev.profile prof) (4 * k) (beBytes 4 data.toNat)) ∧
      (∀ q, q < 32 → q ≠ prof → x.profile q = s.dev.profile q) ∧
      x = { s.dev with tables := { s.dev.tables with profiles := x.tables.profiles } }) ∧
  (∀ (s : State) (n : Fin 4) (att : Fin 512) (phase : Fin 1024), s.dev.served →
    completes (.hfcTxctlWrite n att phase) s fun x =>
      x.fld (F.HFCn_TXCTL_ATT_EXTRA n) = min 300 att.val ∧ x.fld (F.HFCn_TXCTL_PHASE n) = phase.val ∧
      ((s.dev.hfc n).partner = none →
        (s.dev.hfOn n = false → s.dev.onlyRegs x [R.HFCn_TXCTL n]) ∧
        (s.dev.hfOn n = true → (s.dev.hfc n).phase ∈ [HfPhase.sent, .window, .receiving] →
          x.hfc n = { s.dev.hfc n with txPend := true } ∧ (∀ m, m < 4 → m ≠ n.val → x.hfc m = s.dev.hfc m) ∧
          { s.dev with hf := x.hf }.onlyRegs x [R.HFCn_TXCTL n]) ∧
        (∀ p, (s.dev.hfc n).port = some p → s.dev.driveHeld n = false →
          x.hfc n = { s.dev.hfc n with txPend := false, carrier := (profPhase (s.dev.hfProfile p) + phase) % 1024 } ∧
          x.fld (F.HFCn_POWER_OUT_MW n) = x.hfOutMw n p none % 2 ^ ((F.HFCn_POWER_OUT_MW n).hi + 1 - (F.HFCn_POWER_OUT_MW n).lo) ∧
          (∀ m, m < 4 → m ≠ n.val → x.hfc m = s.dev.hfc m) ∧
          { s.dev with hf := x.hf }.onlyRegs x [R.HFCn_TXCTL n, R.HFCn_POWER n]))) ∧
  (∀ (s : State) (n : Fin 6), s.dev.served →
    (∀ alive data, cvuTap (s.dev.fld (F.CVUn_CFG_SRC n)) = true ∨ s.dev.flag (F.CVUn_CFG_OWNED n) = true →
      completes (.cvuValueWrite n alive data) s (· = s.dev)) ∧
    (∀ data, cvuTap (s.dev.fld (F.CVUn_CFG_SRC n)) = false → s.dev.flag (F.CVUn_CFG_OWNED n) = false →
      completes (.cvuValueWrite n false data) s fun x =>
        x.reg (R.CVUn_VALUE n) = BitVec.ofNat 32 (data.toNat % 2 ^ (s.dev.cvuAlg n).1) ∧ s.dev.onlyRegs x [R.CVUn_VALUE n]) ∧
    (∀ data, cvuTap (s.dev.fld (F.CVUn_CFG_SRC n)) = false → s.dev.flag (F.CVUn_CFG_OWNED n) = false →
      completes (.cvuValueWrite n true data) s fun x =>
        x.reg (R.CVUn_ALIVE_EXP n) = BitVec.ofNat 32 (data.toNat % 2 ^ 2 ^ (s.dev.fld (F.CVUn_ALIVE_CFG_WIDTH n) + 2)) ∧
        s.dev.onlyRegs x [R.CVUn_ALIVE_EXP n]) ∧
    completes (.cvuAnySet n) s fun x => x.flag (F.CVUn_STAT_ANY n) = true ∧ ∀ a, a ≠ R.CVUn_STAT n → x.reg a = s.dev.reg a)

/-- A write of 1 to FAULT of an HF port or UHF port clears it with its causes (what waits for the port is then brought up to date);
FLT_STAT_CLEAR clears the bits written 1 and no other.

A write of 1s to FLT_CLR starts a recheck of each chain named, with the code latched in each; while BUSY is 1 it is ignored. The end
of a recheck of an HF chain or UHF chain that passes clears its FAULT; one that fails leaves it and shows the code. -/
def Obligations.FaultsCleared : Prop :=
  (∀ s : State, s.dev.served →
    (∀ n : Fin 16, completes (.hfpFaultClear n) s fun x => ∃ e : Dev, x = e.settle ∧ e.flag (F.HFPn_STAT_FAULT n) = false ∧
      e.flag (F.HFPn_STAT_OPEN n) = false ∧ e.flag (F.HFPn_STAT_SHORT n) = false ∧ s.dev.onlyRegs e [R.HFPn_STAT n]) ∧
    (∀ n : Fin 8, completes (.uhfpFaultClear n) s fun x => ∃ e : Dev, x = e.settle ∧ e.flag (F.UHFPn_STAT_FAULT n) = false ∧
      e.flag (F.UHFPn_STAT_RL_LOW n) = false ∧ s.dev.onlyRegs e [R.UHFPn_STAT n]) ∧
    (∀ nand clock seq other : Bool, completes (.fltStatClear nand clock seq other) s fun x =>
      x.flag F.FLT_STAT_NAND = (s.dev.flag F.FLT_STAT_NAND && !nand) ∧
      x.flag F.FLT_STAT_CLOCK = (s.dev.flag F.FLT_STAT_CLOCK && !clock) ∧
      x.flag F.FLT_STAT_SEQ = (s.dev.flag F.FLT_STAT_SEQ && !seq) ∧
      x.flag F.FLT_STAT_OTHER = (s.dev.flag F.FLT_STAT_OTHER && !other) ∧
      x.fld F.FLT_STAT_LAST_CODE = s.dev.fld F.FLT_STAT_LAST_CODE ∧ s.dev.onlyRegs x [R.FLT_STAT])) ∧
  (∀ s : State,
    (s.dev.served → ∀ hf uhf, s.dev.flag F.FLT_CLR_BUSY = true → completes (.fltClr hf uhf) s (· = s.dev)) ∧
    (s.dev.served → ∀ (hf : BitVec 4) (uhf : BitVec 2), s.dev.flag F.FLT_CLR_BUSY = false → hf ≠ 0#4 ∨ uhf ≠ 0#2 →
      completes (.fltClr hf uhf) s fun x => x.flag F.FLT_CLR_BUSY = true ∧ { s.dev with recheck := x.recheck }.onlyRegs x [R.FLT_CLR] ∧
        (∀ n : Fin 4, (∃ code, (Chain.hf n, code) ∈ x.recheck) ↔ hf.getLsbD n = true) ∧
        (∀ n : Fin 2, (∃ code, (Chain.uhf n, code) ∈ x.recheck) ↔ uhf.getLsbD n = true) ∧
        (∀ (n : Fin 4) (code : Nat), (Chain.hf n, code) ∈ x.recheck →
          code = if s.dev.flag (F.HFCn_STAT_FAULT n) then (s.dev.hfc n).latched else 0) ∧
        (∀ (n : Fin 2) (code : Nat), (Chain.uhf n, code) ∈ x.recheck →
          code = if s.dev.flag (F.UHFCn_STAT_FAULT n) then (s.dev.uhfc n).latched else 0)) ∧
    (s.dev.phase = .running → ∀ c code rest, s.dev.recheck = (c, code) :: rest → code ≠ 0 → code ≠ Code.UHF_CHAIN_FAULT →
      completes (.fltRecheckEnd false) s fun x => ∃ e : Dev, x = e.settle ∧ e.fld F.FLT_CLR_CODE = code % 256 ∧
        e.flag F.FLT_CLR_BUSY = !rest.isEmpty ∧ { s.dev with recheck := rest }.onlyRegs e [R.FLT_CLR]) ∧
    (s.dev.phase = .running → ∀ n code rest, s.dev.recheck = (Chain.hf n, code) :: rest → code ≠ Code.GOV_OVERLIMIT →
      completes (.fltRecheckEnd true) s fun x => ∃ e : Dev, x = e.settle ∧ e.flag (F.HFCn_STAT_FAULT n) = false ∧
        e.flag ⟨R.FLT_STAT, 28 + n, 28 + n⟩ = false ∧ e.fld F.FLT_CLR_CODE = 0 ∧ e.flag F.FLT_CLR_BUSY = !rest.isEmpty ∧ e.recheck = rest) ∧
    (s.dev.phase = .running → ∀ n code rest, s.dev.recheck = (Chain.uhf n, code) :: rest → code ≠ Code.GOV_OVERLIMIT →
      completes (.fltRecheckEnd true) s fun x => ∃ e : Dev, x = e.settle ∧ e.flag (F.UHFCn_STAT_FAULT n) = false ∧
        e.flag ⟨R.FLT_STAT, 26 + n, 26 + n⟩ = false ∧ (e.uhfc n).paFails = 0 ∧ e.fld F.FLT_CLR_CODE = 0 ∧ e.recheck = rest))

/-- The windows with a snapshot: OBJ_SEL, OBJ_LOAD, VLT_SLOT_SEL, FLT_SEL, CHN_SEL and CHN_HSEL.

OBJ_WRITE sends a copy of the staging buffer to the check; while BUSY is 1 it is ignored. -/
def Obligations.Windows : Prop :=
  (∀ s : State, s.dev.served →
    (∀ k : Fin 4096, completes (.objSelWrite k) s fun x => x.fld F.OBJ_SEL_INDEX = k.val ∧
      (∀ i, i < 8 → x.reg (R.OBJ_Wk i) = profWord (s.dev.obj k).bytes i) ∧
      x.reg R.OBJ_SEEN_LO = BitVec.ofNat 32 (s.dev.obj k).census.seen ∧ x = { s.dev with regs := x.regs }) ∧
    completes .objLoad s (fun x => x.tables.staging = (s.dev.obj (s.dev.fld F.OBJ_SEL_INDEX)).bytes ∧
      x = { s.dev with tables := { s.dev.tables with staging := x.tables.staging } }) ∧
    (∀ k : Fin 32, completes (.vltSlotSelWrite k) s fun x => x.fld F.VLT_SLOT_SEL_SLOT = k.val ∧
      x.flag F.VLT_SLOT_INFO_VALID = (s.dev.vault.slots.getD k none).isSome ∧ x.fld F.VLT_SLOT_KCV_KCV = s.dev.kcv k % 2 ^ 24 ∧
      s.dev.onlyRegs x [R.VLT_SLOT_SEL, R.VLT_SLOT_INFO, R.VLT_SLOT_KCV]) ∧
    (∀ k : Fin 16, completes (.fltSelWrite k) s fun x => x.fld F.FLT_SEL_ENTRY = k.val ∧
      (∀ i, i < 8 → x.reg (R.FLT_Ek i) = profWord (((s.dev.flt[k.val]?).map (·.bytes)).getD (zeros 32)) i) ∧
      x = { s.dev with regs := x.regs }) ∧
    (∀ (dev : Bool) (slot : Fin 256), completes (.chnSelWrite dev slot) s fun x =>
      x.flag F.CHN_SEL_DEV = dev ∧ x.fld F.CHN_SEL_SLOT = slot.val ∧ x = { s.dev with regs := x.regs } ∧
      (∀ c, dev = false → s.dev.chan? slot = some c → x.fld F.CHN_INFO_STATE = chanCode c.state ∧
        x.fld F.CHN_CNT0_OK = c.ok % 65536 ∧ x.reg R.CHN_LAST = c.last)) ∧
    (∀ k : Fin 16, completes (.chnHselWrite k) s fun x => x.fld F.CHN_HSEL_ENTRY = k.val ∧
      (∀ e, s.dev.selHistory.entries[k.val]? = some e → x.fld F.CHN_HSEL_STATE = histCode e.st ∧ x.fld F.CHN_HIST_ID = e.id % 65536) ∧
      s.dev.onlyRegs x [R.CHN_HSEL, R.CHN_HIST])) ∧
  (∀ s : State, s.dev.served →
    (s.dev.flag F.OBJ_CTL_BUSY = true → completes .objWrite s (· = s.dev)) ∧
    (s.dev.flag F.OBJ_CTL_BUSY = false → completes .objWrite s fun x =>
      x.checks = s.dev.checks ++ [.object (s.dev.fld F.OBJ_SEL_INDEX) s.dev.tables.staging] ∧ x.flag F.OBJ_CTL_BUSY = true ∧
      x.flag F.SUP_CHECK_BUSY = true ∧ { s.dev with checks := x.checks }.onlyRegs x [R.SUP_CHECK, R.OBJ_CTL]))

/-- TMR_CLEAR sets the count to 0, counting up. TIMER_CAPTURE from a pin takes the count, sets NEW, and counts an unread value it
overwrites. TIME_SNAP latches TIME, wall time and the counts, and counts itself.

TIMER_TICK of an enabled timer with no compare selected: the count moves by one between 0 and RELOAD and turns at either end; of a
timer not enabled with no period group waiting: nothing. -/
def Obligations.Timers : Prop :=
  (∀ s : State,
    (s.dev.served → ∀ n : Fin 8, completes (.tmrClear n) s fun x => x.reg (R.TMRn_COUNT n) = 0#32 ∧
      x.flag (F.TMRn_STAT_DIR n) = false ∧ s.dev.onlyRegs x [R.TMRn_COUNT n, R.TMRn_STAT n]) ∧
    (s.dev.phase = .running → ∀ (n : Fin 8) (k : Fin 2), 1 ≤ s.dev.fld (capSrc n k) → s.dev.fld (capSrc n k) ≤ 0x18 →
      completes (.timerCapture n k false) s fun x => x.reg (capReg n k) = s.dev.reg (R.TMRn_COUNT n) ∧ x.flag (capNew n k) = true ∧
        x.fld (capDir n k) = s.dev.fld (F.TMRn_STAT_DIR n) ∧
        x.fld (capOvf n k) = (if s.dev.flag (capNew n k) then min 255 (s.dev.fld (capOvf n k) + 1) else s.dev.fld (capOvf n k)) ∧
        s.dev.onlyRegs x [capReg n k, R.TMRn_CAPSTAT n]) ∧
    (s.dev.served → completes .timeSnap s fun x => x.reg R.SNAP_TIME_LO = BitVec.ofNat 32 s.dev.time ∧
      x.reg R.SNAP_TIME_HI = BitVec.ofNat 32 (s.dev.time / 2 ^ 32) ∧ x.reg R.SNAP_WALL_LO = BitVec.ofNat 32 s.dev.wall ∧
      x.reg R.SNAP_WALL_HI = BitVec.ofNat 32 (s.dev.wall / 2 ^ 32) ∧
      (∀ n, n < 8 → x.reg (R.TMRn_SNAPCNT n) = s.dev.reg (R.TMRn_COUNT n)) ∧
      x.fld F.TIME_SNAP_COUNT = (s.dev.fld F.TIME_SNAP_COUNT + 1) % 2 ^ (F.TIME_SNAP_COUNT.hi + 1 - F.TIME_SNAP_COUNT.lo) ∧
      x = { s.dev with regs := x.regs })) ∧
  (∀ (s : State) (n : Fin 8), s.dev.phase = .running → s.dev.applying = [] →
    (s.dev.flag (F.TMRn_CTL_ENABLE n) = false → completes (.timerTick n) s (· = s.dev)) ∧
    (s.dev.flag (F.TMRn_CTL_ENABLE n) = true → s.dev.fld (F.TMRn_CMPCFG_DIRS n) = 0 → completes (.timerTick n) s fun x =>
      let c := (s.dev.reg (R.TMRn_COUNT n)).toNat
      let r := (s.dev.reg (R.TMRn_RELOAD n)).toNat
      let down := s.dev.flag (F.TMRn_STAT_DIR n)
      (0 < c ∧ c < r → (x.reg (R.TMRn_COUNT n)).toNat = if down then c - 1 else c + 1) ∧
      (c = 0 → 0 < r → (x.reg (R.TMRn_COUNT n)).toNat = 1) ∧ (c = r → 0 < r → (x.reg (R.TMRn_COUNT n)).toNat = r - 1) ∧
      (r < c → (x.reg (R.TMRn_COUNT n)).toNat = c - 1) ∧ s.dev.onlyRegs x [R.TMRn_COUNT n, R.TMRn_STAT n]))

/-- WATCH_FORGET discards every baseline, and BASE_VALID reads 0. RECAL makes every calibration entry of its chain stale, so its CALMAP reads
0. GOV_RESTORE puts every limit register back to its ceiling, and the chains follow as after any change of limits (`limitsChanged`).
COEX_A_EN_WRITE of 0 in SHARED, where no carrier is on or waits, is ignored and recorded with CC_COEX_CONFIG. -/
def Obligations.ForgetRecalRestore : Prop :=
  ∀ s : State, s.dev.served →
    completes .watchForget s (fun x => (∀ p, x.sense p = {}) ∧ x.fld F.WATCH_STAT_BASE_VALID = 0 ∧
      x.attic = { s.dev.attic with ports := x.attic.ports } ∧ { s.dev with attic := x.attic }.onlyRegs x [R.WATCH_STAT]) ∧
    (∀ n : Fin 2, completes (.recal n) s fun x => (x.uhfc n).cal = (s.dev.uhfc n).cal.map (fun e => { e with stale := true }) ∧
      x.uhfc n = { s.dev.uhfc n with cal := (x.uhfc n).cal } ∧ (∀ m, m < 2 → m ≠ n.val → x.uhfc m = s.dev.uhfc m) ∧
      x.fld (F.UHFCn_CALMAP_HI_MAP n) = 0 ∧ x.fld (F.UHFCn_CALMAP_LO_MAP n) = 0 ∧
      { s.dev with uhf := x.uhf }.onlyRegs x [R.UHFCn_CALMAP_HI n, R.UHFCn_CALMAP_LO n, R.UHFCn_SYN_STAT n]) ∧
    completes .govRestore s (fun x => ∃ e : Dev, x = e.limitsChanged ∧
      let l := s.dev.gov.ceil
      e.fld F.GOV_UHF_PCOND = l.pcond % 512 ∧ e.fld F.GOV_UHF_EIRP = ofInt 16 l.eirp ∧
      e.fld F.GOV_TIME_DWELL_MAX = l.dwellMax % 65536 ∧ e.fld F.GOV_TIME_OFF_MIN = l.offMin % 65536 ∧
      e.fld F.GOV_HF_HF_LIMIT = ofInt 16 l.hfLimit ∧ e.fld F.GOV_HF_HF_TOTAL = l.hfTotal % 65536 ∧
      e.fld F.GOV_CHMASK_HI_MASK = l.chmask / 2 ^ 32 % 2 ^ 32 ∧ e.fld F.GOV_CHMASK_LO_MASK = l.chmask % 2 ^ 32 ∧
      e.fld F.GOV_CTL_DUTY_MAX = l.duty % 1024 ∧
      s.dev.onlyRegs e [R.GOV_UHF, R.GOV_TIME, R.GOV_HF, R.GOV_CHMASK_HI, R.GOV_CHMASK_LO, R.GOV_CTL]) ∧
    (s.dev.mode = Mode.shared → s.dev.flag F.COEX_CFG_A_EN = true →
      (∀ n, n < 2 → (s.dev.uhfc n).waitGrant = false ∧ s.dev.uhfOn n = false) →
      completes (.coexAEnWrite false) s fun x => x.flag F.COEX_CFG_A_EN = true ∧ x.fld F.SUP_CC_CODE = 0x1D ∧
        x.fld F.SUP_CC_SOURCE = 1 ∧ x.fld F.SUP_CC_SUBJECT = R.COEX_CFG ∧ x.uhf = s.dev.uhf)

/-- STATUS delivers the status byte, DEV_STAT and HOST_STAT and does nothing else; while the supplies are down and in WATCH the port
answers no frame and keeps none.

A frame with an opcode that R415 does not name, a write frame that ends before its defined end, and a write frame that one of the
checks 1–5 refuses, have no effect but the report. -/
def Obligations.PortRefusals : Prop :=
  (∀ (s : State) (f : Frame),
    (s.dev.plainPort → completes (.status f) s (· = { s.dev with host := { s.dev.host with
      miso := misoBytes (f.rest.length + 1) s.dev.statusByte (beBytes 4 s.dev.devStat.toNat ++ beBytes 4 s.dev.hostStat.toNat) } })) ∧
    (s.dev.phase = .down ∨ s.dev.phase = .watch →
      ∀ c ∈ [Instr.regWr f, .regRd f, .cmd f, .cmdResult f, .status f, .evtRd f, .jrnlRd f, .jrnlAck f, .mboxWr f, .mboxRd f],
        completes c s (· = { s.dev with host := { s.dev.host with miso := [] } }))) ∧
  (∀ (s : State) (f : Frame), s.dev.plainPort →
    (∀ op : BitVec 7, let b := mosiOf op.toNat f
      opWrites op.toNat = false → opReads op.toNat = false → op.toNat ≠ Op.status →
      completes (.hostFrameUnknownOpcode op f) s fun x => s.dev.refuses x b Code.HOST_BAD_OPCODE (frAddr b) false ∧
        x = { s.dev with regs := x.regs, host := x.host } ∧
        x.host = { s.dev.host with rdy := false, err := true, dup := false, miso := x.host.miso }) ∧
    (∀ c op, (c, op) ∈ [(Instr.regWr f, Op.regWr), (.cmd f, Op.cmd), (.jrnlAck f, Op.jrnlAck), (.mboxWr f, Op.mboxWr)] →
      let b := mosiOf op f
      let short := b.length < 4 ∨ b.length < s.dev.writeEnd b
      (short ∨ s.dev.headCode b ≠ 0) → completes c s fun x =>
        (∃ code, (short → code = Code.HOST_ABORTED) ∧ (¬short → code = s.dev.headCode b) ∧
          s.dev.refuses x b code (frAddr b) false) ∧
        x = { s.dev with regs := x.regs, host := x.host } ∧
        x.host = { s.dev.host with rdy := false, err := true, dup := false, miso := x.host.miso }))

/-- The read frames. REG_RD of one word delivers it and clears its RC fields; CMD_RESULT delivers a history entry and changes no history;
EVT_RD delivers and consumes the oldest events; an EVT_RD cut short consumes nothing and is reported as HOST_ABORTED. -/
def Obligations.ReadFrames : Prop :=
  ∀ (s : State) (f : Frame), s.dev.plainPort →
    (let b := mosiOf Op.regRd f
     let a := frAddr b
     let w := s.dev.readWord s.fuses (Config.freeWord s.dev.freeCtr) a
     s.dev.passes b → frLen b = 1 → 9 ≤ b.length → pairPartner a = none → (∀ x ∈ s.dev.host.pairs, x.1 ≠ a) → a ≠ R.HOST_CNT →
     ¬(0xD00 ≤ a ∧ a ≤ 0xDFF ∧ (a % 0x20 = 0xB ∨ a % 0x20 = 0xC)) →
     completes (.regRd f) s fun x => x.host.miso = misoBytes b.length s.dev.statusByte (beBytes 4 w.toNat) ∧ x.answers true false false ∧
       x.reg a = s.dev.reg a &&& ~~~(accessOf a).rc ∧ (∀ k, k ≠ a → k ≠ R.HOST_CNT → x.reg k = s.dev.reg k) ∧
       x.fld F.HOST_CNT_FRAMES = satAdd 0xFFFF (s.dev.fld F.HOST_CNT_FRAMES) 1) ∧
    (let b := mosiOf Op.cmdResult f
     let h := s.dev.history (frAddr b)
     let out := entryBytes h.lastId (frLen b) (h.select (frLen b))
     s.dev.passes b → 5 + out.length ≤ b.length →
     completes (.cmdResult f) s fun x => x.host.miso = misoBytes b.length s.dev.statusByte out ∧ x.answers true false false ∧
       x.host.hist = s.dev.host.hist ∧ x.chans = s.dev.chans) ∧
    (let b := mosiOf Op.evtRd f
     let es := s.dev.host.ring.take (frLen b)
     let out := beBytes 1 es.length ++ [0#8] ++ beBytes 2 s.dev.host.dropped ++ es.flatMap (·.bytes)
     s.dev.passes b → 4 ≤ b.length →
     (9 + 16 * es.length ≤ b.length → completes (.evtRd f) s fun x =>
       x.host.miso = misoBytes b.length s.dev.statusByte out ∧ x.answers true false false ∧
       x.host.ring = s.dev.host.ring.drop (frLen b) ∧ x.host.dropped = 0) ∧
     (b.length < 9 + 16 * es.length → completes (.evtRd f) s fun x =>
       x.host.ring = s.dev.host.ring ∧ x.host.dropped = s.dev.host.dropped ∧
       s.dev.refuses x b Code.HOST_ABORTED (frAddr b) false))

/-- JRNL_RD delivers the first staged records and forms the batch of them; one cut short leaves no batch. JRNL_ACK of the batch's first
records moves the cursor past them and empties the batch; any other is refused with JRNL_ACK_RANGE and moves nothing. -/
def Obligations.JournalFrames : Prop :=
  ∀ (s : State) (f : Frame), s.dev.plainPort →
    (let b := mosiOf Op.jrnlRd f
     let rs := s.dev.jrn.staged.take (frLen b)
     let out := beBytes 1 rs.length ++ zeros 3 ++ rs.flatMap (·.2)
     s.dev.passes b → 4 ≤ b.length →
     (5 + out.length ≤ b.length → completes (.jrnlRd f) s fun x =>
       x.host.miso = misoBytes b.length s.dev.statusByte out ∧ x.answers true false false ∧ x.jrn.batch.map (·.1) = rs.map (·.1) ∧
       x.jrn.staged = s.dev.jrn.staged ∧ x.cs = s.dev.cs) ∧
     (b.length < 5 + out.length → completes (.jrnlRd f) s fun x =>
       x.jrn.batch = [] ∧ x.cs = s.dev.cs ∧ s.dev.refuses x b Code.HOST_ABORTED (frAddr b) false)) ∧
    (let b := mosiOf Op.jrnlAck f
     let count := frLen b
     let good := 1 ≤ count ∧ count ≤ s.dev.jrn.batch.length ∧ (s.dev.jrn.batch.getD (count - 1) (0, 0)).2 = numAt b 5 4
     let rest := s.dev.fromCursor.filter fun r => !((s.dev.jrn.batch.take count).map (·.1)).contains r.1
     s.dev.passes b → s.dev.writeEnd b ≤ b.length →
     (good → completes (.jrnlAck f) s fun x => x.jrn.batch = [] ∧ x.answers true false false ∧
       (∀ r, rest.head? = some r → x.csw 4 = r.1 % 2 ^ 32 ∧ x.csw 5 = r.2.1 % 2 ^ 32) ∧ (rest = [] → x.csw 5 = 0)) ∧
     (¬good → completes (.jrnlAck f) s fun x => x.jrn = s.dev.jrn ∧ x.cs = s.dev.cs ∧
       s.dev.refuses x b Code.JRNL_ACK_RANGE (frAddr b) false))

/-- REG_WR of one word is the host's write of it, reported with HOST_FIELD_LOCKED where it would have changed a locked field; a register
of the common, supervisor or host blocks takes its bits by their access codes. -/
def Obligations.RegisterWritten : Prop :=
  ∀ (s : State) (f : Frame), s.dev.plainPort →
    let b := mosiOf Op.regWr f
    let a := frAddr b
    let w : Word := BitVec.ofNat 32 (numAt b 5 4)
    s.dev.passes b → frM b = false → frLen b = 1 → 9 ≤ b.length →
    completes (.regWr f) s fun x =>
      (∃ k, x = ((if (s.dev.hostWrite a w).2 then (s.dev.hostWrite a w).1.frameRefused b Code.HOST_FIELD_LOCKED a true
        else (s.dev.hostWrite a w).1.frameDone false).bump F.HOST_CNT_FRAMES 1).setMiso k) ∧
      (a < 0x100 → a ≠ R.SUP_MODE → a ≠ R.SUP_DIRECT_QUOTA → a ≠ R.HOST_CNT →
        x.reg a = ((s.dev.reg a &&& ~~~(accessOf a).rw ||| w &&& (accessOf a).rw) &&& ~~~(w &&& (accessOf a).w1c) |||
          w &&& (accessOf a).w1s) ∧ x.answers true false false)

/-- A CMD that passes the frame checks (R300): a known request ID sets DUP and executes nothing; an ID that is not 1 to 32,767 ahead of
NEWEST is HOST_STALE; a full queue, or 16 entries none of them DONE, is HOST_BUSY; any other enters the history as QUEUED, becomes NEWEST
and joins the end of the command queue. -/
def Obligations.RequestsEnter : Prop :=
  ∀ (s : State) (f : Frame), s.dev.plainPort →
    let b := mosiOf Op.cmd f
    let h := s.dev.history (frAddr b)
    let id := numAt b 7 2
    let ahead := (id + 65536 - h.newest) % 65536
    let known := ∃ e ∈ h.entries, e.id = id
    let stale := h.entries ≠ [] ∧ ¬(1 ≤ ahead ∧ ahead ≤ 32767)
    let busy := 16 ≤ s.dev.host.cmdq.length ∨ (16 ≤ h.entries.length ∧ ∀ e ∈ h.entries, e.st ≠ .done)
    s.dev.passes b → s.dev.writeEnd b ≤ b.length →
    (known → completes (.cmd f) s fun x => x.host.cmdq = s.dev.host.cmdq ∧ x.answers true false true ∧
      (x.history (frAddr b)).entries = h.entries) ∧
    (¬known → stale → completes (.cmd f) s fun x => x.host.cmdq = s.dev.host.cmdq ∧ (x.history (frAddr b)).entries = h.entries ∧
      s.dev.refuses x b Code.HOST_STALE (frAddr b) false) ∧
    (¬known → ¬stale → busy → completes (.cmd f) s fun x => x.host.cmdq = s.dev.host.cmdq ∧
      (x.history (frAddr b)).entries = h.entries ∧ s.dev.refuses x b Code.HOST_BUSY (frAddr b) false) ∧
    (¬known → ¬stale → ¬busy → completes (.cmd f) s fun x =>
      x.host.cmdq = s.dev.host.cmdq ++ [⟨frAddr b, byteAt b 5, id, slice b 9 (frLen b), s.dev.time, frM b⟩] ∧
      x.answers true false false ∧ (x.history (frAddr b)).newest = id ∧
      (x.history (frAddr b)).entries = { id := id, cmd := byteAt b 5, st := .queued } :: evictDone h.entries)

/-- MBOX_WR adds a fragment to the message of a direct channel, is HOST_BUSY while a message waits; MBOX_RD delivers whole results,
oldest first, and consumes them. -/
def Obligations.MailboxFrames : Prop :=
  ∀ (s : State) (f : Frame) (slot : Nat) (c : Chan), s.dev.plainPort → s.dev.chan? slot = some c →
    (let b := mosiOf Op.mboxWr f
     let buf := c.mailbox ++ slice b 5 (frLen b)
     s.dev.passes b → s.dev.writeEnd b ≤ b.length → frAddr b % 256 = slot →
     (c.msgWait = true → completes (.mboxWr f) s fun x => x.chans = s.dev.chans ∧ x.host.cmdq = s.dev.host.cmdq ∧
       s.dev.refuses x b Code.HOST_BUSY (frAddr b) false) ∧
     (c.msgWait = false → buf.length < 4 ∨ (40 ≤ msgLen buf ∧ msgLen buf ≤ 1064 ∧ buf.length < msgLen buf) →
       completes (.mboxWr f) s fun x => x.answers true false false ∧
         x.chan? slot = some { c with mailbox := buf, msgMac := c.msgMac && frM b } ∧ x.host.cmdq = s.dev.host.cmdq)) ∧
    (let b := mosiOf Op.mboxRd f
     let rs := wholeResults 4096 (frLen b) c.results
     let out := beBytes 1 rs.length ++ [0#8] ++ beBytes 2 (rs.map (·.length)).sum ++ rs.flatten
     s.dev.passes b → 5 + out.length ≤ b.length → frAddr b % 256 = slot →
     completes (.mboxRd f) s fun x => x.host.miso = misoBytes b.length s.dev.statusByte out ∧ x.answers true false false ∧
       x.chan? slot = some { c with results := c.results.drop rs.length })

/-- DEV_STAT.FAULT and the status bit FLT are 1 while a bit of FLT_STAT [31:19] is, or FAULT of an HF port or UHF port. -/
def Obligations.FaultFlag : Prop :=
  ∀ (d : Dev) (fu : Fuses) (free : Word),
    let any := (∃ k, 19 ≤ k ∧ k ≤ 31 ∧ (d.readWord fu free R.FLT_STAT).getLsbD k = true) ∨
      (∃ n, n < 16 ∧ d.flag (F.HFPn_STAT_FAULT n) = true) ∨ (∃ n, n < 8 ∧ d.flag (F.UHFPn_STAT_FAULT n) = true)
    ((d.readWord fu free R.DEV_STAT).getLsbD 7 = true ↔ any) ∧ (d.statusByte.getLsbD 1 = true ↔ any)

/-- Commands leave the queue in order of acceptance: the head is taken by the row of its own code and becomes PENDING, and a row of
another code does nothing until then but bring up to date what stood still (`settle`). -/
def Obligations.CommandsInOrder : Prop :=
  ∀ (s : State) (c : Cmd) (rest : List Cmd), s.dev.phase = .running → s.dev.host.cmdq = c :: rest → c.code ≠ 0xFF →
    (∃ d, s.dev.takeCmd c.code = some (c, d) ∧ d.host.cmdq = rest ∧
      (∀ x ∈ (d.history c.handle).entries, x.id = c.reqId → x.st = .pending) ∧ d.time = s.dev.time ∧ d.vault = s.dev.vault ∧
      d.tables = s.dev.tables ∧ ∀ a, a ≠ R.HOST_STAT → d.reg a = s.dev.reg a) ∧
    (∀ row ∈ [(Instr.chnCreate, 1), (.chnStart, 2), (.chnRun, 4)], row.2 ≠ c.code → completes row.1 s (· = s.dev.settle)) ∧
    (∀ (flush : BitVec 4) (ok : Bool) ms ks gs ls, ∀ row ∈ ([(.chnStop, 3), (.chnStopDrain, 3), (.chnDestroy, 5), (.softReset flush, 0x0F), (.imageWriteBegin ok, 0x21), (.imageWriteData ok, 0x21),
        (.imageWriteEnd ok, 0x21), (.imageWriteAbort, 0x21), (.calTune ms, 0x24), (.calCoupling ks, 0x25), (.calRxgain gs, 0x26),
        (.calUhfLeak ls, 0x27), (.regionBlow ok, 0x28), (.keyImport, 0x30), (.keyClear, 0x31), (.sessionOpen, 0x32),
        (.sessionClose, 0x33), (.rearmChallenge, 0x34), (.rearmResponse flush, 0x34), (.timeSet, 0x40)] : List (Instr × Nat)),
      row.2 ≠ c.code → exec row.1 s = .next s)

/-- CHN_CREATE. An entry that the check passes makes a channel of its kind, priority and plan in its slot, ACTIVE with START and STOPPED
without, and answers the handle; one that it refuses makes none, and SUP_CC names the code.

CHN_START, CHN_STOP without and with DRAIN, on each state of a channel. -/
def Obligations.ChannelsMadeStartedStopped : Prop :=
  (∀ (s : State) (c : Cmd) (d : Dev), s.dev.takesOwn 1 c d → d.checks = [] →
    (d.createRefused c.payload = none → completes .chnCreate s fun x => ∃ e : Dev, x = e.settle ∧
      let slot := d.entrySlot c.payload
      (∃ ch, e.chan? slot = some ch ∧ ch.kind = byteAt c.payload 2 ∧ ch.prio = nbits (byteAt c.payload 3) 6 0 ∧
        ch.plan = numAt c.payload 4 2 ∧ ch.state = (if bit (byteAt c.payload 6) 0 then .active else .stopped) ∧
        ch.run = none ∧ ch.step = none ∧ ch.hist.entries = []) ∧
      (∀ k, k ≠ slot → e.chan? k = d.chan? k) ∧ e.gens = d.gens ∧ e.fld F.SUP_CHECK_LAST_CODE = 0 ∧
      e.reports c Code.OK (beBytes 2 (d.handle slot))) ∧
    (∀ r, d.createRefused c.payload = some r → completes .chnCreate s fun x => ∃ e : Dev, x = e.settle ∧ e.chans = d.chans ∧
      e.fld F.SUP_CC_CODE = r.code % 256 ∧ e.fld F.SUP_CC_SOURCE = 5 ∧ e.fld F.SUP_CC_STEP = r.step % 16 ∧
      e.fld F.SUP_CHECK_LAST_CODE = r.code % 256 ∧ e.reports c r.code [])) ∧
  (∀ (s : State) (c : Cmd) (d : Dev) (slot : Nat) (ch : Chan), d.liveSlot c.handle = some slot → d.chan? slot = some ch →
    (s.dev.takes 2 c d → d.checks = [] → ch.state = .stopped → d.chanRefused ch.spec d.checkMode = none →
      completes .chnStart s fun x => ∃ e : Dev, x = e.settle ∧ (∃ y, e.chan? slot = some y ∧ y.state = .active) ∧
        e.reports c Code.OK []) ∧
    (s.dev.takes 2 c d → ch.state ≠ .stopped → completes .chnStart s fun x => ∃ e : Dev, x = e.settle ∧ e.reports c Code.CHN_STATE [] ∧
      (∃ y, e.chan? slot = some y ∧ y.state = ch.state)) ∧
    (∀ row ∈ [(Instr.chnStop, false), (.chnStopDrain, true)], s.dev.takes 3 c d → bit (byteAt c.payload 0) 0 = row.2 →
      (ch.state = .active → d.unattached slot → completes row.1 s fun x => ∃ e : Dev, x = e.settle ∧ e.reports c Code.OK [] ∧
        ∃ y, e.chan? slot = some y ∧ y.state = .stopped ∧ y.extras = [] ∧ y.cycle = {}) ∧
      (ch.state = .stopped ∨ ch.state = .stopping → completes row.1 s fun x => x.reports c Code.CHN_STATE [] ∧
        ∃ y, x.chan? slot = some y ∧ y.state = ch.state)) ∧
    (s.dev.takes 3 c d → ch.state = .running → bit (byteAt c.payload 0) 0 = true → completes .chnStopDrain s fun x =>
      x = d.setChan slot { ch with drain := true, stopIds := ch.stopIds ++ [c.reqId] }) ∧
    (s.dev.takes 3 c d → ch.state = .running → bit (byteAt c.payload 0) 0 = false → ch.pending = none →
      (∀ st, ch.step = some st → st.chain = none ∧ st.phase = .waiting) → completes .chnStop s fun x =>
        ∃ y, x.chan? slot = some y ∧ y.state = .stopping ∧ y.stopIds = ch.stopIds ++ [c.reqId] ∧
          ∀ st, y.step = some st → st.phase = .ended Code.STOPPED))

/-- CHN_RUN on an ACTIVE channel that no mode holds starts a run of the cycle's next target under its request ID; CHN_DESTROY frees a
channel that is not running, its generation advances, and its handle is no longer live. -/
def Obligations.RunAndDestroy : Prop :=
  ∀ (s : State) (c : Cmd) (d : Dev) (slot : Nat) (ch : Chan), d.liveSlot c.handle = some slot → d.chan? slot = some ch →
    (s.dev.takes 4 c d → ch.state = .active → ch.kind ≠ Kind.direct → d.isHeld ch.kind = false →
      ∀ t rest, d.nextTarget ch = some (t, rest) → completes .chnRun s fun x => ∃ e : Dev, x = e.settle ∧
        ∃ y r, e.chan? slot = some y ∧ y.state = .running ∧ y.run = some r ∧ r.reqId = c.reqId ∧ r.due.target = t.1 ∧
          r.due.at_ = d.now ∧ r.deadline = d.now + (d.plan ch.plan).deadline ∧ y.cycle.todo = rest ∧ y.runs = (ch.runs + 1) % 2 ^ 32) ∧
    (s.dev.takes 4 c d → ch.state ≠ .active ∨ ch.kind = Kind.direct → completes .chnRun s fun x => ∃ e : Dev, x = e.settle ∧
      e.reports c Code.CHN_STATE [] ∧ ∃ y, e.chan? slot = some y ∧ y.run = ch.run ∧ y.state = ch.state) ∧
    (s.dev.takes 5 c d → ch.state = .active ∨ ch.state = .stopped → d.unattached slot → completes .chnDestroy s fun x =>
      ∃ e : Dev, x = e.settle ∧ e.chan? slot = none ∧ e.gen slot = (if d.gen slot = 255 then 1 else d.gen slot + 1) ∧
        e.liveSlot c.handle = none ∧ (∀ k, k ≠ slot → e.chan? k = d.chan? k) ∧
        ∃ y, e.host.ring.getLast? = some y ∧ y.kind = 3 ∧ y.handle = c.handle ∧ byteAt y.data 3 = Code.OK) ∧
    (s.dev.takes 5 c d → ch.state = .stopping → completes .chnDestroy s fun x =>
      x = d.setChan slot { ch with stopIds := ch.stopIds ++ [c.reqId], destroy := true })

/-- KEY_IMPORT in COMMISSION on KS8–KS31: an entry that unwraps under its wrapping key loads the slot and answers its check value, any other
is refused with the code of what fails first and loads nothing. KEY_CLEAR there empties the slot. Outside COMMISSION, or on another slot,
both are refused with CC_KEY_STATE and change no slot.

SESSION_OPEN on a base slot that may hold one derives KS4 from the base key and the two nonces, answers its own nonce and starts the
session counter at 0; on any other, or while the generator does not serve, it is refused and changes no slot. SESSION_CLOSE empties KS4 and
ends the session. -/
def Obligations.KeysAndSessions : Prop :=
  (∀ (s : State) (c : Cmd) (d : Dev),
    let slot := byteAt c.payload 0
    let wrap := d.vault.slots.getD (byteAt c.payload 2) none
    let refused (i : Instr) (code : Nat) : Prop := completes i s fun x =>
      d.onlyCmd x [R.VLT_STAT, R.VLT_CNT] ∧ x.reports c code []
    (s.dev.takesOwn 0x30 c d → d.mode ≠ Mode.commission ∨ slot < 8 ∨ 31 < slot → refused .keyImport Code.CC_KEY_STATE) ∧
    (s.dev.takesOwn 0x31 c d → d.mode ≠ Mode.commission ∨ slot < 8 ∨ 31 < slot → refused .keyClear Code.CC_KEY_STATE) ∧
    (s.dev.takesOwn 0x30 c d → d.mode = Mode.commission → 8 ≤ slot → slot ≤ 31 →
      (keyEntryBad c.payload = true → refused .keyImport Code.CC_KEYS) ∧
      (keyEntryBad c.payload = false → wrap = none → refused .keyImport Code.KEY_EMPTY) ∧
      (∀ w, keyEntryBad c.payload = false → wrap = some w →
        (bit w.purpose 4 = false → refused .keyImport Code.KEY_PURPOSE) ∧
        (bit w.purpose 4 = true → keyUnwrap w.key (slice c.payload 8 32) = none → refused .keyImport Code.UNWRAP_FAIL) ∧
        (∀ t, bit w.purpose 4 = true → keyUnwrap w.key (slice c.payload 8 32) = some t →
          let named := slice c.payload 0 2 ++ slice c.payload 4 2 ++ zeros 4
          (slice t 16 8 ≠ named → refused .keyImport Code.UNWRAP_FAIL) ∧
          (slice t 16 8 = named → completes .keyImport s fun x =>
            x.vault = { d.vault with slots := x.vault.slots } ∧
            x.vault.slots.getD slot none =
              some { key := t.take 16, purpose := byteAt c.payload 1, keyId := numAt c.payload 4 2, source := 3 } ∧
            (∀ k, k < 32 → k ≠ slot → x.vault.slots.getD k none = d.vault.slots.getD k none) ∧
            { d with vault := x.vault }.onlyCmd x [] ∧ x.reports c Code.OK (beBytes 3 (x.kcv slot) ++ [0#8]))))) ∧
    (s.dev.takesOwn 0x31 c d → d.mode = Mode.commission → 8 ≤ slot → slot ≤ 31 →
      (completes .keyClear s fun x => x.vault.slots.getD slot none = none ∧
        (∀ k, k < 32 → k ≠ slot → x.vault.slots.getD k none = d.vault.slots.getD k none) ∧ x.reports c Code.OK []) ∧
      ((∀ y ∈ d.chans, ∀ st, y.2.step = some st → st.ctx = none) → completes .keyClear s fun x =>
        x.vault = { d.vault with slots := x.vault.slots } ∧ { d with vault := x.vault }.onlyCmd x [] ∧ x.reports c Code.OK []))) ∧
  (∀ (s : State) (c : Cmd) (d : Dev),
    let base := byteAt c.payload 0
    let refused (code : Nat) : Prop := completes .sessionOpen s fun x => d.onlyCmd x [R.VLT_STAT, R.VLT_CNT] ∧ x.reports c code []
    (s.dev.takesOwn 0x32 c d → base = 4 ∨ 31 < base → refused Code.CC_KEY_STATE) ∧
    (s.dev.takesOwn 0x32 c d → base ≠ 4 → base ≤ 31 →
      (d.vault.slots.getD base none = none → refused Code.KEY_EMPTY) ∧
      (∀ k, d.vault.slots.getD base none = some k → bit k.purpose 2 = false → refused Code.KEY_PURPOSE) ∧
      (∀ k, d.vault.slots.getD base none = some k → bit k.purpose 2 = true → d.vault.drbgOk = false → refused Code.DRBG_FAIL) ∧
      (∀ k, d.vault.slots.getD base none = some k → bit k.purpose 2 = true → d.vault.drbgOk = true → completes .sessionOpen s fun x =>
        let nonce := (List.range 8).map fun i => Config.freeByte (d.freeCtr + i)
        x.vault.slots.getD 4 none = some (KeySlot.mk
          (kdf k.key [0x53#8, 0x45#8, 0x53#8, 0x53#8, 0x49#8, 0x4F#8, 0x4E#8] (slice c.payload 4 8 ++ nonce)) 4 0 1) ∧
        (∀ j, j < 32 → j ≠ 4 → x.vault.slots.getD j none = d.vault.slots.getD j none) ∧
        x.reg R.HOST_SESSION_CTR = 0#32 ∧ x.flag F.VLT_SESSION_ACTIVE = true ∧ x.fld F.VLT_SESSION_BASE = base ∧
        { d with vault := x.vault, freeCtr := d.freeCtr + 8, host := { d.host with alive := none } }.onlyCmd x
          [R.HOST_SESSION_CTR, R.VLT_SESSION, R.HOST_STAT] ∧ x.reports c Code.OK nonce)) ∧
    (s.dev.takesOwn 0x33 c d → completes .sessionClose s fun x => x.vault.slots.getD 4 none = none ∧
      x.flag F.VLT_SESSION_ACTIVE = false ∧ x.reg R.HOST_SESSION_CTR = 0#32 ∧
      (∀ k, k < 32 → k ≠ 4 → x.vault.slots.getD k none = d.vault.slots.getD k none) ∧
      { d with vault := x.vault }.onlyCmd x [R.HOST_SESSION_CTR, R.VLT_SESSION] ∧ x.reports c Code.OK []))

/-- REARM CHALLENGE answers the message of a latched device and denies it otherwise; a RESPONSE that must not be checked is denied, and
one that does not verify counts a failure, and both leave the latch as it was; one that verifies clears it, counts the re-arm, and
restarts the device with BOOT_REASON.REARM.

TIME_SET makes wall time what the command says at the TIME of its select release; where the Cellar journals, a TIMESYNC record is
asked for and the outcome waits for it. Zero, or reserved bytes, are refused. -/
def Obligations.RearmAndTimeSet : Prop :=
  (∀ (s : State) (c : Cmd) (d : Dev) (flush : BitVec 4), s.dev.takesOwn 0x34 c d →
    (byteAt c.payload 0 = 1 → d.latched = true → completes .rearmChallenge s fun x =>
      x.reports c Code.OK (beBytes 8 s.fuses.serial ++ beBytes 4 (d.csw 9) ++ beBytes 4 (d.csw 0x27)) ∧ x.cs = d.cs) ∧
    (byteAt c.payload 0 = 1 → d.latched = false → completes .rearmChallenge s fun x => x.reports c Code.REARM_DENIED [] ∧ x.cs = d.cs) ∧
    (byteAt c.payload 0 = 2 → d.rearmDenied s.fuses = true → completes (.rearmResponse flush) s fun x =>
      x.reports c Code.REARM_DENIED [] ∧ x.cs = d.cs ∧ x.fld F.VLT_REARM_LAST_CODE = Code.REARM_DENIED) ∧
    (byteAt c.payload 0 = 2 → d.rearmDenied s.fuses = false →
      cmac (s.fuses.derive [0x52#8, 0x45#8, 0x41#8, 0x52#8, 0x4D#8]) (d.rearmMsg s.fuses) ≠ slice c.payload 4 16 →
      completes (.rearmResponse flush) s fun x => x.reports c Code.REARM_FAIL [] ∧ x.cs = d.cs ∧ x.vault.rearmAt = some d.time ∧
        x.fld F.VLT_REARM_FAILS = satAdd 255 (d.fld F.VLT_REARM_FAILS) 1) ∧
    (byteAt c.payload 0 = 2 → d.rearmDenied s.fuses = false →
      cmac (s.fuses.derive [0x52#8, 0x45#8, 0x41#8, 0x52#8, 0x4D#8]) (d.rearmMsg s.fuses) = slice c.payload 4 16 →
      completes (.rearmResponse flush) s fun x => ∃ e : Dev, x = (e.emergency flush).restart s.nor s.fuses 64 ∧ e.latched = false ∧
        e.csw 0x27 = (d.csw 0x27 + 1) % 2 ^ 32 ∧ e.reports c Code.OK [])) ∧
  (∀ (s : State) (c : Cmd) (d : Dev), s.dev.takesOwn 0x40 c d →
    let w := numAt c.payload 0 6
    (w = 0 ∨ zeroAt c.payload 6 7 = false → completes .timeSet s fun x => x.attic = d.attic ∧ x.reports c Code.CC_TIME_SET []) ∧
    (0 < w → zeroAt c.payload 6 7 = true → d.journalling = false → completes .timeSet s fun x =>
      x.wallAt c.tr = w ∧ x.attic.wallSet = true ∧ x.attic.rcSpan = !d.attic.crystal ∧ x.time = d.time ∧
      x.fld F.TIME_STAT_LAST_SRC = 1 ∧ x.reports c Code.OK []) ∧
    (0 < w → zeroAt c.payload 6 7 = true → d.journalling = true → d.jrn.full = false → d.spent = false → completes .timeSet s fun x =>
      ∃ (e : Dev) (r : RecReq), x = e.post r ∧ e.wallAt c.tr = w ∧ e.attic.wallSet = true ∧ e.host = d.host ∧ r.ty = 8 ∧
        r.ticket = .timeSet c.reqId ∧ numAt r.payload 8 6 = w))

/-- The calibration sweeps are refused with CC_CAL_STATE, and change nothing, outside COMMISSION and while a transition leaves it. In
COMMISSION a sweep runs over the ports or sets of its mask in ascending order, with one result for each, and ends OK. CAL_COUPLING waits
for a direct step on HF; CAL_UHF_LEAK waits, its command still at the head of the queue, for a protected window to close and, with REQ
asserted, for a grant, and is refused with CC_UHF_PROFILE where it names a port whose route no chain can serve.

The tuning sweep of a port takes the code with the smallest phase magnitude and stores it in the port's profile; at either end of the range
it ends HF_TUNE_RANGE and stores nothing. -/
def Obligations.Sweeps : Prop :=
  (∀ (s : State) (c : Cmd) (d : Dev) (ms : List TuneMeasure) (ks : List (List Word)) (gs : List (Option (Fin 48)))
    (ls : List (List LeakMeasure)),
    ((d.mode ≠ Mode.commission ∨ ∃ t, d.trans = some t ∧ t.target ≠ Mode.commission) →
      ∀ row ∈ [(Instr.calTune ms, 0x24), (.calCoupling ks, 0x25), (.calRxgain gs, 0x26), (.calUhfLeak ls, 0x27)],
        s.dev.takesOwn row.2 c d → (row.2 = 0x25 → s.dev.hfDirectRuns = false) →
        completes row.1 s fun x => x.reports c Code.CC_CAL_STATE [] ∧ d.onlyCmd x []) ∧
    (s.dev.phase = .running → s.dev.hfDirectRuns = true → completes (.calCoupling ks) s (· = s.dev)) ∧
    (d.mode = Mode.commission → d.trans = none →
      (s.dev.takesOwn 0x24 c d → completes (.calTune ms) s fun x => ∃ e : Dev × Bytes,
        e = sweepEach (bitsSet 16 (numAt c.payload 0 2)) ms ⟨[], 0, 0⟩ Dev.tunePort d.clearFields ∧ x = e.1.cmdDone c Code.OK e.2) ∧
      (s.dev.takesOwn 0x25 c d → s.dev.hfDirectRuns = false → completes (.calCoupling ks) s fun x => ∃ e : Dev × Bytes,
        e = sweepEach (bitsSet 16 (numAt c.payload 0 2)) ks [] Dev.coupleSet d.clearFields ∧ x = e.1.cmdDone c Code.OK e.2) ∧
      (s.dev.takesOwn 0x26 c d → completes (.calRxgain gs) s fun x => ∃ e : Dev × Bytes,
        e = sweepEach (bitsSet 16 (numAt c.payload 0 2)) gs none Dev.gainPort d.clearFields ∧ x = e.1.cmdDone c Code.OK e.2) ∧
      (s.dev.takesOwn 0x27 c d →
        let mask := byteAt c.payload 0
        (s.dev.windowOpen = false → s.dev.gatedA = false → (∀ p, s.dev.gatedB p = false) →
          (s.dev.leakRouteBad mask = true → completes (.calUhfLeak ls) s fun x => x.reports c Code.CC_UHF_PROFILE [] ∧ d.onlyCmd x []) ∧
          (s.dev.leakRouteBad mask = false → completes (.calUhfLeak ls) s fun x => ∃ e : Dev × Bytes,
            e = sweepEach (bitsSet 8 mask) ls [] Dev.leakPort d.clearFields ∧ x = (e.1.cmdDone c Code.OK e.2).coexIdle)) ∧
        (∀ p ∈ bitsSet 8 mask, (s.dev.leakTeam p).isSome = true →
          (s.dev.windowOpen = true → completes (.calUhfLeak ls) s (· = s.dev)) ∧
          (s.dev.windowOpen = false → s.dev.gatedA = true → s.dev.coexA.grants = false → completes (.calUhfLeak ls) s fun x =>
            x.coexA.req = true ∧ x.coexA.pri = false ∧ x.coexA.grants = false ∧
            { s.dev with coexA := x.coexA, coexB := x.coexB }.onlyRegs x [R.COEX_STAT]))))) ∧
  (∀ (d : Dev) (p : Nat) (m : TuneMeasure),
    (∀ k, k < 256 → phaseMag (m.phases.getD (tuneCode m) 512#10) ≤ phaseMag (m.phases.getD k 512#10)) ∧
    (∀ k, k < 256 → phaseMag (m.phases.getD k 512#10) = phaseMag (m.phases.getD (tuneCode m) 512#10) → tuneCode m ≤ k) ∧
    (p < 16 → d.sweepChains ≠ [] → d.hfPortOk p = true → d.hfPermitted p = true → d.hfChainOn p = none →
      (d.profile (d.fld (F.HFPn_CFG_PROFILE p))).length = 48 →
      let x := d.tunePort p m
      (tuneCode m = 0 ∨ tuneCode m = 255 → x.2 = beBytes 1 Code.HF_TUNE_RANGE ∧ x.1.tables.profiles = d.tables.profiles ∧
        x.1.fld (F.HFPn_TUNE_CODE p) = d.fld (F.HFPn_TUNE_CODE p)) ∧
      (tuneCode m ≠ 0 → tuneCode m ≠ 255 → x.2 = [0#8] ∧ x.1.fld (F.HFPn_TUNE_CODE p) = tuneCode m ∧
        byteAt (x.1.profile (d.fld (F.HFPn_CFG_PROFILE p))) 4 = tuneCode m ∧
        (∀ k, k < 32 → k ≠ d.fld (F.HFPn_CFG_PROFILE p) → x.1.profile k = d.profile k))))

/-- REGION_BLOW in COMMISSION, with a CMAC, on blank fuses: the record is fused when the read-back passes; when it fails nothing is, and
either way no other attempt is made. Anything else is refused with CC_REGION_STATE and changes no fuse.

IMAGE_WRITE. BEGIN erases the target slot and opens the write; DATA at the offset reached programs what lies beyond byte 255, holding
the first 256 bytes back; END programs the signed header; ABORT closes the write and leaves NOR alone. An erase or a program that fails ends
NOR_FAIL with the write closed. BEGIN with a write open, DATA and END with none, DATA off its offset or beyond the slot, and any of the four
outside COMMISSION are refused with CC_IMAGE_STATE and change nothing. -/
def Obligations.FlashAndRegion : Prop :=
  (∀ (s : State) (c : Cmd) (d : Dev) (ok : Bool), s.dev.takesOwn 0x28 c d →
    let allowed := d.mode = Mode.commission ∧ regionBlank s.fuses.region = true ∧ s.fuses.blowTried = false ∧ c.mac = true
    (∀ r, regionOf (byteAt c.payload 0) = some r → allowed → ∃ t, exec (.regionBlow true) s = .next t ∧
      t = { s with dev := t.dev, fuses := { s.fuses with region := r, blowTried := true } } ∧ t.dev.reports c Code.OK [] ∧
      d.onlyCmd t.dev []) ∧
    (∀ r, regionOf (byteAt c.payload 0) = some r → allowed → ∃ t, exec (.regionBlow false) s = .next t ∧
      t = { s with dev := (d.fault9 Code.FUSE_FAIL).cmdDone c Code.FUSE_FAIL [], fuses := { s.fuses with blowTried := true } }) ∧
    (regionOf (byteAt c.payload 0) = none ∨ ¬allowed → completes (.regionBlow ok) s fun x =>
      x.reports c Code.CC_REGION_STATE [] ∧ d.onlyCmd x [])) ∧
  (∀ (s : State) (c : Cmd) (d : Dev) (ok : Bool), s.dev.takesOwn 0x21 c d →
    let len := numAt c.payload 4 4
    let data := c.payload.drop 8
    let written (e : Dev) : Dev := (e.memChains 4 (chainsNorWrite 256)).portDrain
    let refused (i : Instr) : Prop := completes i s fun x => x.reports c Code.CC_IMAGE_STATE [] ∧ d.onlyCmd x []
    (d.mode ≠ Mode.commission → ∀ row ∈ [(Instr.imageWriteBegin ok, 1), (.imageWriteData ok, 2), (.imageWriteEnd ok, 3),
      (.imageWriteAbort, 4)], byteAt c.payload 0 = row.2 → refused row.1) ∧
    (byteAt c.payload 0 = 1 → d.image ≠ none → refused (.imageWriteBegin ok)) ∧
    (byteAt c.payload 0 = 2 → d.image = none → refused (.imageWriteData ok)) ∧
    (byteAt c.payload 0 = 3 → d.image = none → refused (.imageWriteEnd ok)) ∧
    (byteAt c.payload 0 = 2 → ∀ w, d.image = some w → len ≠ w.got ∨ 0x1000000 < w.got + data.length → refused (.imageWriteData ok)) ∧
    (d.mode = Mode.commission → byteAt c.payload 0 = 1 → d.image = none →
      let slot := d.imageTarget s.nor
      let nor := Mem.erase s.nor (slotBase slot) (eraseLen len)
      (∃ e : Dev, exec (.imageWriteBegin true) s = .next { s with dev := written e, nor := nor } ∧
        e.image = some { slot := slot, len := len, got := 0, head := [] } ∧ e.reports c Code.OK [] ∧
        { d with image := e.image }.onlyCmd e []) ∧
      (exec (.imageWriteBegin false) s = .next { s with dev := written (d.norFault.cmdDone c Code.NOR_FAIL []), nor := nor })) ∧
    (d.mode = Mode.commission → byteAt c.payload 0 = 2 → ∀ w, d.image = some w → len = w.got → w.got + data.length ≤ 0x1000000 →
      let prog := data.drop (256 - w.got)
      let at_ := slotBase w.slot + max 256 w.got
      (∃ e : Dev, exec (.imageWriteData true) s = .next { s with
          dev := if data = [] then e else written e, nor := Mem.writeN s.nor at_ prog } ∧
        e.image = some { w with got := w.got + data.length, head := w.head ++ data.take (256 - w.got) } ∧ e.reports c Code.OK [] ∧
        { d with image := e.image }.onlyCmd e []) ∧
      (prog ≠ [] → ∃ (e : Dev) (left : Bytes), exec (.imageWriteData false) s = .next { s with
          dev := written (e.norFault.cmdDone c Code.NOR_FAIL []), nor := Mem.writeN s.nor at_ left } ∧ left.length = prog.length ∧
        e = { d with image := none, freeCtr := e.freeCtr })) ∧
    (d.mode = Mode.commission → byteAt c.payload 0 = 3 → ∀ w, d.image = some w →
      (endCode s.nor w ≠ 0 → ∃ e : Dev, exec (.imageWriteEnd ok) s = .next { s with dev := written e } ∧ e.image = none ∧
        e.reports c (endCode s.nor w) [] ∧ { d with image := none }.onlyCmd e []) ∧
      (endCode s.nor w = 0 → d.vault.slots.getD 0 none ≠ none →
        (∃ e : Dev, exec (.imageWriteEnd true) s = .next { s with
            dev := written e, nor := Mem.writeN s.nor (slotBase w.slot) ({ d with image := none }.signHeader s.nor w) } ∧
          e.image = none ∧ e.reports c Code.OK [] ∧ { d with image := none }.onlyCmd e []) ∧
        (∃ (e : Dev) (left : Bytes), exec (.imageWriteEnd false) s = .next { s with
            dev := written (e.norFault.cmdDone c Code.NOR_FAIL []), nor := Mem.writeN s.nor (slotBase w.slot) left } ∧
          left.length = 256 ∧ e = { d with image := none, freeCtr := e.freeCtr }))) ∧
    (d.mode = Mode.commission → byteAt c.payload 0 = 4 → completes .imageWriteAbort s fun x => x.image = none ∧ x.reports c Code.OK [] ∧
      { d with image := none }.onlyCmd x []))

/-- PFAIL_N falling, and a trip of the supply monitor. On a running device: REFOUT stops, radios off, every step, waiting check, command and
transition lost, the Cellar flushed, and the cause kept for the next boot; a boot or a wake in progress is abandoned with the cause kept;
while the supplies are down and in WATCH, neither changes a channel, the Attic or the counter store.

PGOOD falling and RESET_N falling reset every block but the Attic at once, with no flush, and leave their cause; PGOOD takes the sensed rail
levels with it. PFAIL_N rising only starts the 10 ms of R365; the loss of VATTIC empties the Attic, and its return starts it afresh with POR
among the causes. -/
def Obligations.PowerLossAndResets : Prop :=
  (∀ (s : State) (flush : BitVec 4), ∀ row ∈ [(Instr.pfail flush, true), (.supplyMonitorTrip flush, false)],
    (s.dev.phase = .running → completes row.1 s fun x => x.phase = .flushed ∧ x.refout = false ∧
      ∃ e : Dev, x = { (e.flush flush).cause 16 with phase := .flushed, pfailAt := s.dev.time }.portDrain ∧
        e.causes = s.dev.causes ∧ e.pfail = (row.2 || s.dev.pfail) ∧ e.refout = false ∧ e.memq = [] ∧
        e.host.cmdq = [] ∧ e.checks = [] ∧ e.trans = none ∧
        (∀ c ∈ e.chans, c.2.run = none ∧ c.2.step = none ∧ c.2.pending = none ∧ c.2.extras = []) ∧
        (∀ n, n < 4 → e.hfOn n = false) ∧ (∀ n, n < 2 → e.ust n = Ust.off ∧ (e.uhfc n).owner = none)) ∧
    (s.dev.phase = .booting ∨ s.dev.phase = .waking → completes row.1 s fun x => x.phase = .flushed ∧ x.refout = false ∧
      x.causes = s.dev.causes ||| 16 ∧ x.pfailAt = s.dev.time ∧ x.regs = s.dev.regs ∧ x.attic = s.dev.attic ∧ x.cs = s.dev.cs) ∧
    (s.dev.phase = .down ∨ s.dev.phase = .watch → completes row.1 s fun x => x.phase = s.dev.phase ∧ x.causes = s.dev.causes ∧
      x.attic = s.dev.attic ∧ x.cs = s.dev.cs ∧ x.chans = s.dev.chans)) ∧
  (∀ s : State,
    (∀ row ∈ [(Instr.pgoodFall, 4), (.resetNFall, 8)],
      (row.2 = 4 → s.dev.pgood = true ∧ s.dev.attic.up = true) → (row.2 = 8 → s.dev.resetN = true) →
      completes row.1 s fun x => x.phase = .down ∧ x.regs = regReset ∧ x.host = {} ∧ x.chans = [] ∧ x.vault = {} ∧ x.jrn.larder = [] ∧
        x.causes = s.dev.causes ||| row.2 ∧ x.attic = s.dev.attic ∧ x.cs = s.dev.cs ∧
        (row.2 = 4 → x.vddioA = none ∧ x.vddioB = none)) ∧
    (s.dev.pfail = true → completes .pfailDeassert s (· = { s.dev with pfail := false, pfailAt := s.dev.time })) ∧
    (s.dev.pfail = false → completes .pfailDeassert s (· = s.dev)) ∧
    (s.dev.attic.up = true → completes .vatticLoss s fun x => x.attic = { up := false } ∧ x.cs = s.dev.cs ∧
      x.phase = (if s.dev.phase = .watch ∨ s.dev.phase = .waking then .down else s.dev.phase)) ∧
    (s.dev.attic.up = false → completes .vatticPor s fun x => x.attic.up = true ∧ x.attic.wallSet = false ∧ x.attic.offset = 0 ∧
      x.attic.tamperSet = false ∧ x.attic.log = [] ∧ x.causes = s.dev.causes ||| 2))

/-- The restarts. SOFT_RESET is DONE at once; then, as after a second watchdog expiry within 10 s and a loss of the core PLL, radios stop,
the Cellar is flushed and the device boots from step 2, with the fault that forced it kept in the counter store. PFAIL_RESTART, PFAIL_N high,
restarts a device that had started 10 ms after the rise, and boots again one whose boot was abandoned. The boot watchdog boots again 1 s
after a boot that hangs began, with the slot in hand rejected; where no boot hangs it does nothing. -/
def Obligations.Restarts : Prop :=
  ∀ (s : State) (c : Cmd) (d : Dev) (flush : BitVec 4) (us : Fin 65536),
    (s.dev.takesOwn 0x0F c d → completes (.softReset flush) s fun x => ∃ e : Dev,
      x = (e.emergency flush).restart s.nor s.fuses 32 ∧ e.reports c Code.OK [] ∧ d.onlyCmd e []) ∧
    (s.dev.phase = .running → ∀ t, s.dev.seqWdogAt = some t → s.dev.time < t + 10000000 → completes (.seqWdog us flush) s fun x =>
      ∃ e : Dev, x = (e.emergency flush).restart s.nor s.fuses 0 ∧ e.csw 0x30 = Code.SEQ_WDOG * 2 ^ 24 + 6 * 2 ^ 20 + 1 ∧
        e.csw 0x31 = s.dev.wall / 2 ^ 32 % 2 ^ 32 ∧ e.csw 0x32 = s.dev.wall % 2 ^ 32 ∧ e = { s.dev with cs := e.cs }) ∧
    (s.dev.phase = .running → completes (.corePllUnlock flush) s fun x => ∃ e : Dev,
      x = (e.emergency flush).restart s.nor s.fuses 0 ∧ e.csw 0x30 = Code.CLOCK_LOSS * 2 ^ 24 + 8 * 2 ^ 20 + 1 ∧
        e.csw 0x31 = s.dev.wall / 2 ^ 32 % 2 ^ 32 ∧ e.csw 0x32 = s.dev.wall % 2 ^ 32 ∧ e = { s.dev with cs := e.cs }) ∧
    (s.dev.phase = .flushed → s.dev.pfail = false → s.dev.pfailAt + 10000 < 2 ^ 64 → s.dev.time < 2 ^ 64 →
      completes .pfailRestart s fun x => ∃ e : Dev,
        x = (if s.dev.bootDone then e.restart s.nor s.fuses 0 else e.bootRun s.nor s.fuses .again) ∧
        s.dev.pfailAt + 10000 ≤ e.time ∧ e = { s.dev with time := e.time, attic := e.attic } ∧
        e.attic = { s.dev.attic with count := e.attic.count }) ∧
    (s.dev.phase ≠ .flushed ∨ s.dev.pfail = true → completes .pfailRestart s (· = s.dev)) ∧
    (∀ st, s.dev.phase = .booting → s.dev.stalled = some st → s.dev.wdogFrom + 1000000 < 2 ^ 64 → s.dev.time < 2 ^ 64 →
      completes .bootWdog s fun x => ∃ e : Dev, x = e.bootRun s.nor s.fuses .again ∧ s.dev.wdogFrom + 1000000 ≤ e.time ∧
        e.causes = s.dev.causes ||| 128 ∧
        e.rejected = s.dev.rejected ++ (match st with
          | .slot k _ => [k]
          | .step _ => []) ∧
        e = { s.dev with time := e.time, attic := e.attic, causes := e.causes, rejected := e.rejected } ∧
        e.attic = { s.dev.attic with count := e.attic.count }) ∧
    (s.dev.phase ≠ .booting ∨ s.dev.stalled = none → completes .bootWdog s (· = s.dev))

/-- t0 with the supplies down, the boot it finds not hanging before step 5. A latched or blown part halts in the TAMPER state; of the others,
one whose ROOT fails its parity, or whose self-test fails, ends in SELFTEST_FAIL; any other senses its rails, derives its keys while the
root gate is open and goes on at step 5, or with both straps set starts BARE in COMMISSION. A boot that hangs in step 2 or 3 stays there,
with no keys. A blow of HARD_BLOWN that a tamper left due is made at t0.

A boot that finds the device tampered halts at step 3, whatever called for it, with its reset causes shown and every key slot
empty. -/
def Obligations.PowerOnAndHalt : Prop :=
  (∀ (s : State) (up : PowerUp), s.dev.phase = .down → s.fuses.hard = false →
    ∃ t, exec (.t0 up) s = .next t ∧ t.nor = s.nor ∧ t.fuses = s.fuses ∧ t.pending = s.pending ∧
      let env := up.boots.head?.getD {}
      let locked := s.dev.latched = true ∨ s.fuses.hardBlown = true
      let bad := s.fuses.rootOk = false ∨ env.selfTestOk = false
      (env.stall = some (.step 0) ∨ env.stall = some (.step 1) → t.dev.phase = .booting ∧ t.dev.stalled = env.stall ∧
        t.dev.vault = {} ∧ t.dev.cs = s.dev.cs) ∧
      ((∀ k, env.stall ≠ some (.step k)) →
        (locked → t.dev.phase = .halted ∧ t.dev.fld F.BOOT_STATUS_STATE = 6 ∧
          t.dev.reg R.BOOT_REASON = BitVec.ofNat 32 s.dev.causes ∧ t.dev.causes = 0 ∧ t.dev.vault = {} ∧ t.dev.cs = s.dev.cs) ∧
        (¬locked → bad → t.dev.phase = .failed ∧ t.dev.fld F.BOOT_STATUS_STATE = 7 ∧
          t.dev.fld F.BOOT_STATUS_CODE = Code.SELFTEST_FAIL ∧ t.dev.vault = {}) ∧
        (¬locked → ¬bad → ∃ e : Dev,
          t.dev = (if up.strap = 3 then e.startUp s.fuses 5 Mode.commission e.attic else e.bootSlots s.nor s.fuses env) ∧
          e.reg R.BOOT_REASON = BitVec.ofNat 32 s.dev.causes ∧ e.fld F.BOOT_IMAGE_STRAP = up.strap ∧ e.vault.drbgOk = true ∧
          e.cs = s.dev.cs ∧ e.chans = [] ∧ e.refout = true ∧
          (s.dev.pgood = false → e.vddioA = some up.vddioA ∧ e.vddioB = some up.vddioB) ∧
          (s.dev.attic.sources = 0 → (e.vault.slots.getD 2 none).map (·.purpose) = some 2 ∧
            (e.vault.slots.getD 1 none).map (·.key) =
              some (s.fuses.derive [0x54#8, 0x52#8, 0x41#8, 0x4E#8, 0x53#8, 0x50#8, 0x4F#8, 0x52#8, 0x54#8]))))) ∧
  (∀ (s : State) (up : PowerUp), s.dev.phase = .down → s.fuses.hard = true → s.fuses.hardBlown = false → s.dev.latched = true →
    ∃ t, exec (.t0 up) s = .next t ∧ t.nor = s.nor ∧ t.fuses = { s.fuses with hardBlown := up.blown } ∧ t.pending = s.pending) ∧
  (∀ (d : Dev) (nor : Mem) (fu : Fuses) (bits : Nat), d.latched = true ∨ fu.hardBlown = true →
    (∀ k, (d.boots.head?.getD {}).stall ≠ some (.step k)) →
    let x := d.restart nor fu bits
    x.phase = .halted ∧ x.fld F.BOOT_STATUS_STATE = 6 ∧ x.fld F.BOOT_STATUS_STAGE = 3 ∧
    x.reg R.BOOT_REASON = BitVec.ofNat 32 (d.causes ||| bits) ∧ x.causes = 0 ∧ x.vault = {} ∧ x.chans = [] ∧ x.cs = d.cs ∧
    x.host.ring.map (·.kind) = [1])

/-- KEY_KILL. A source that is not armed does nothing. A fresh assertion of armed sources joins them to CS_TAMPER_LATCH with LATCHED, counts
in CS_TAMPER_COUNT, holds the line, empties every key slot and stops the generator: with the supplies down nothing more; while the device
runs with the TAMPER event and record; in a boot, which halts; in WATCH, which wakes where WAKE_EN has its cause. On a HARD part whose main
domains are up the HARD_BLOWN fuse is blown, or FUSE_FAIL latched. A further source while the line is held joins the latch alone. The line's
release clears the sources. -/
def Obligations.Tamper : Prop :=
  ∀ (s : State) (src : BitVec 9) (blown : Bool),
    let eff := src.toNat &&& s.dev.armed s.fuses
    let stored (e : Dev) : Prop := e.latched = true ∧ e.csw 0x20 = (s.dev.csw 0x20 ||| eff ||| 2 ^ 31) % 2 ^ 32
    let fresh (e : Dev) : Prop := stored e ∧ e.csw 9 = (s.dev.csw 9 + 1) % 2 ^ 32 ∧ e.attic.sources = eff ∧
      e.vault.drbgOk = false ∧ ∀ k, k < 32 → e.vault.slots.getD k none = none
    (eff = 0 → ∃ t, exec (.keyKill src blown) s = .next t ∧ t = s) ∧
    (s.dev.attic.sources ≠ 0 → eff ≠ 0 → ∃ t, exec (.keyKill src blown) s = .next t ∧ t = { s with dev := t.dev } ∧ stored t.dev ∧
      t.dev.csw 9 = s.dev.csw 9 ∧ t.dev.attic = { s.dev.attic with sources := s.dev.attic.sources ||| eff } ∧
      t.dev = { s.dev with cs := t.dev.cs, attic := t.dev.attic }) ∧
    (s.dev.attic.sources = 0 → eff ≠ 0 →
      (s.dev.phase = .down → s.dev.chans = [] → ∃ t, exec (.keyKill src blown) s = .next t ∧ t = { s with dev := t.dev } ∧ fresh t.dev ∧
        { s.dev with cs := t.dev.cs, attic := t.dev.attic, vault := t.dev.vault }.onlyRegs t.dev [R.VLT_SESSION, R.HOST_SESSION_CTR]) ∧
      (s.dev.phase = .running → s.fuses.hard = false → ∃ (t : State) (e : Dev), exec (.keyKill src blown) s = .next t ∧
        t = { s with dev := ((e.tamperEvent eff).tamperRecord s.fuses).settle } ∧ fresh e ∧
        (s.dev.chans = [] →
          { s.dev with cs := e.cs, attic := e.attic, vault := e.vault }.onlyRegs e [R.VLT_SESSION, R.HOST_SESSION_CTR])) ∧
      (s.dev.phase = .booting → s.fuses.hard = false → s.dev.chans = [] → ∃ t, exec (.keyKill src blown) s = .next t ∧
        t = { s with dev := t.dev } ∧ fresh t.dev ∧ t.dev.phase = .halted ∧ t.dev.fld F.BOOT_STATUS_STATE = 6) ∧
      (s.dev.phase = .watch → s.dev.chans = [] → ∃ t, exec (.keyKill src blown) s = .next t ∧ t = { s with dev := t.dev } ∧ fresh t.dev ∧
        (bit (s.dev.fld F.WATCH_CTL_WAKE_EN) 3 = false → t.dev.phase = .watch) ∧
        (bit (s.dev.fld F.WATCH_CTL_WAKE_EN) 3 = true → t.dev.phase = .waking ∧ t.dev.attic.wakeCause = 8)) ∧
      (s.dev.phase = .halted → s.dev.chans = [] → s.fuses.hard = true → s.fuses.hardBlown = false →
        (∃ t, exec (.keyKill src true) s = .next t ∧ t = { s with dev := t.dev, fuses := { s.fuses with hardBlown := true } } ∧ fresh t.dev) ∧
        ∃ (t : State) (e : Dev), exec (.keyKill src false) s = .next t ∧ t = { s with dev := e.fault9 Code.FUSE_FAIL } ∧ fresh e)) ∧
    completes .keyKillDeassert s (· = { s.dev with attic := { s.dev.attic with sources := 0 } })

/-- The random generator. A failed health test stops it, and is counted and reported; a retry that passes starts it again and counts a
reseed, one that fails leaves it stopped; a reseed is counted while it serves.

The Attic's crystal lost: the Attic runs on its RC and TIME_UNSYNC's span begins, with CLOCK_LOSS latched on a running device and nothing
more on any other; back, only the crystal runs again. The first expiry of a sequencer watchdog, or one 10 s after another, re-issues the
steps in flight and latches SEQ. -/
def Obligations.GeneratorAndClocks : Prop :=
  (∀ s : State,
    (s.dev.phase = .running → s.dev.vault.drbgOk = true → completes .drbgFail s fun x => ∃ e : Dev, x = e.fault9 Code.DRBG_FAIL ∧
      e.vault = { s.dev.vault with drbgOk := false } ∧
      e.fld F.VLT_DRBG_HEALTH = satAdd (2 ^ (F.VLT_DRBG_HEALTH.hi + 1 - F.VLT_DRBG_HEALTH.lo) - 1) (s.dev.fld F.VLT_DRBG_HEALTH) 1 ∧
      e.fld F.VLT_STAT_LAST_CODE = Code.DRBG_FAIL ∧ { s.dev with vault := e.vault }.onlyRegs e [R.VLT_DRBG, R.VLT_STAT]) ∧
    (s.dev.phase ≠ .running ∨ s.dev.vault.drbgOk = false → completes .drbgFail s (· = s.dev)) ∧
    (s.dev.phase ∈ [Phase.running, .halted, .flushed] → s.dev.vault.drbgOk = false →
      completes (.drbgRetry true) s (fun x => x.vault = { s.dev.vault with drbgOk := true } ∧
        x.fld F.VLT_DRBG_RESEEDS = satAdd (2 ^ (F.VLT_DRBG_RESEEDS.hi + 1 - F.VLT_DRBG_RESEEDS.lo) - 1) (s.dev.fld F.VLT_DRBG_RESEEDS) 1 ∧
        { s.dev with vault := x.vault }.onlyRegs x [R.VLT_DRBG]) ∧
      completes (.drbgRetry false) s (· = s.dev) ∧ completes .drbgReseed s (· = s.dev)) ∧
    (s.dev.vault.drbgOk = true → (∀ pass, completes (.drbgRetry pass) s (· = s.dev)) ∧ completes .drbgReseed s fun x =>
      x.fld F.VLT_DRBG_RESEEDS = satAdd (2 ^ (F.VLT_DRBG_RESEEDS.hi + 1 - F.VLT_DRBG_RESEEDS.lo) - 1) (s.dev.fld F.VLT_DRBG_RESEEDS) 1 ∧
      s.dev.onlyRegs x [R.VLT_DRBG])) ∧
  (∀ (s : State) (us : Fin 65536) (flush : BitVec 4),
    (s.dev.attic.up = true → s.dev.attic.crystal = true →
      (s.dev.phase = .running → completes (.clockLoss us) s fun x => ∃ e : Dev,
        x = e.faultDone Code.CLOCK_LOSS 8 0 us (.moved 0xFF) false none ∧ e.flag F.FLT_STAT_CLOCK = true ∧ e.unsync = true ∧
        e.attic = { s.dev.attic with crystal := false, rcSpan := true } ∧ { s.dev with attic := e.attic }.onlyRegs e [R.FLT_STAT]) ∧
      (s.dev.phase ≠ .running → completes (.clockLoss us) s
        (· = { s.dev with attic := { s.dev.attic with crystal := false, rcSpan := true } }))) ∧
    (s.dev.attic.up = true → completes .atticCrystalRestore s (· = { s.dev with attic := { s.dev.attic with crystal := true } })) ∧
    (s.dev.phase = .running → (∀ t, s.dev.seqWdogAt = some t → t + 10000000 ≤ s.dev.time) → completes (.seqWdog us flush) s fun x =>
      ∃ e : Dev, x = e.restartSteps.faultDone Code.SEQ_WDOG 6 0 us (.moved 0xFF) false none ∧ e.seqWdogAt = some s.dev.time ∧
        e.flag F.FLT_STAT_SEQ = true ∧ { s.dev with seqWdogAt := e.seqWdogAt }.onlyRegs e [R.FLT_STAT]))

/-- R69. A request written while BUSY is 1 is refused with CC_MODE_BUSY, recorded in SUP_CC alone. A request naming the current mode is
accepted with CODE 0 and no event or record. -/
def Obligations.ModeBusyAndSame : Prop :=
  ∀ (s : State) (req : Fin 16), s.dev.phase = .running →
    (s.dev.flag F.SUP_MODE_BUSY = true → completes (.modeRequest req) s fun x => x.fld F.SUP_CC_CODE = 0x02 ∧
      x.fld F.SUP_MODE_REQ = s.dev.fld F.SUP_MODE_REQ ∧ x.fld F.SUP_MODE_CODE = s.dev.fld F.SUP_MODE_CODE ∧
      s.dev.onlyRegs x [R.SUP_CC, R.SUP_CC_NEED]) ∧
    (s.dev.flag F.SUP_MODE_BUSY = false → req.val = s.dev.mode → completes (.modeRequest req) s fun x =>
      x.fld F.SUP_MODE_CODE = 0 ∧ x.mode = s.dev.mode ∧ x.flag F.SUP_MODE_BUSY = false ∧ s.dev.onlyRegs x [R.SUP_MODE])

/-- A mode request that the check refuses leaves the mode, shows the code and raises the MODE event; one that it accepts starts a
transition with BUSY 1, and one that leaves COMMISSION drops an image write. Its completion enters the target with BUSY 0 and the MODE event; into WATCH it powers the main domains down. -/
def Obligations.ModeTransitions : Prop :=
  ∀ (s : State), s.dev.phase = .running →
    (∀ (req : Fin 16) r, s.dev.flag F.SUP_MODE_BUSY = false → req.val ≠ s.dev.mode → s.dev.checks = [] →
      s.dev.modeRefused req true = some r → completes (.modeRequest req) s fun x => x.mode = s.dev.mode ∧ x.trans = s.dev.trans ∧
        x.fld F.SUP_MODE_REQ = req ∧ x.fld F.SUP_MODE_CODE = r.code % 256 ∧ x.fld F.SUP_CC_CODE = r.code % 256 ∧
        x.fld F.SUP_CC_SOURCE = 3 ∧ (x.host.ring.getLast?.map (·.kind)) = some 2 ∧ x.chans = s.dev.chans ∧ x.jrn = s.dev.jrn) ∧
    (∀ (req : Fin 16), s.dev.flag F.SUP_MODE_BUSY = false → req.val ≠ s.dev.mode → s.dev.checks = [] → s.dev.chans = [] →
      s.dev.modeRefused req true = none → completes (.modeRequest req) s fun x => ∃ e : Dev, x = e.settle ∧
        e.trans = some ⟨req, 0, s.dev.time⟩ ∧ e.flag F.SUP_MODE_BUSY = true ∧ e.fld F.SUP_MODE_REQ = req ∧ e.mode = s.dev.mode ∧
        { s.dev with trans := e.trans, image := if s.dev.mode = Mode.commission then none else s.dev.image }.onlyRegs e
          [R.SUP_CHECK, R.SUP_MODE]) ∧
    (∀ t (us : Fin 65536) (flush : BitVec 4), s.dev.trans = some t → t.target ≤ 5 → t.target ≠ Mode.watch →
      completes (.modeTransitionComplete us flush) s fun x => ∃ e : Dev, x = e.modeRecord.modeSettled.portDrain ∧ e.mode = t.target ∧
        e.trans = none ∧ e.flag F.SUP_MODE_BUSY = false ∧ e.fld F.SUP_MODE_CODE = 0 ∧
        (e.host.ring.getLast?.map fun y => (y.kind, y.arg)) = some (2, t.source)) ∧
    (∀ t (us : Fin 65536) (flush : BitVec 4), s.dev.trans = some t → t.target = Mode.watch →
      completes (.modeTransitionComplete us flush) s fun x => x.phase = .watch ∧ x.host.ring = [] ∧ x.flt = [] ∧
        x.vault.drbgOk = false ∧ (∀ k, k < 32 → x.vault.slots.getD k none = none) ∧ (∀ n, n < 4 → x.hfOn n = false) ∧ x.strikes = [] ∧
        x.attic.tick = 0 ∧ x.attic.wakeCause = 0 ∧ x.refout = false)

/-- A wake completes: the die comes up with the Attic's count, the target passes the check or COMMISSION is entered in its place, and the
TAMPER record, the WAKE record and the presence log follow. -/
def Obligations.WakeCompletes : Prop :=
  ∀ (s : State) (us : Fin 65536), s.dev.phase = .waking → s.dev.attic.wakeTarget ≤ 5 →
    completes (.wakeComplete us) s fun x =>
      let a := s.dev.attic
      let keys := (s.dev.inUse.map fun k => sectionBody s.nor k 0x08).getD []
      let up := (s.dev.tick (a.wakeFrom + us - a.count)).powerUp s.fuses keys
      let d := (up.setFld F.WATCH_WAKE_CAUSE up.attic.wakeCause).setFld F.WATCH_WAKE_TARGET a.wakeTarget
      ∃ e : Dev,
        x = (((d.attic.log.foldl (fun d y => d.triggerAccess y.port y.dir)
          ((e.tamperRecord s.fuses).wakeRecords e.attic.wakeCause a.wakeTarget e.mode a.wakeWall)).onAttic
            fun a => { a with wakeCause := 0 }).modeSettled.memWork 4 (chainNorRead 256)).portDrain ∧
        (d.modeRefused a.wakeTarget a.wakeHost = none → e.mode = a.wakeTarget ∧ e.fld F.SUP_MODE_REQ = a.wakeTarget ∧
          e.fld F.SUP_MODE_CODE = 0) ∧
        (∀ r, d.modeRefused a.wakeTarget a.wakeHost = some r → e.mode = Mode.commission ∧ e.fld F.SUP_MODE_CODE = r.code % 256) ∧
        (e.host.ring.getLast?.map fun y => (y.kind, y.arg)) = some (2, 2) ∧ e.attic = d.attic ∧ e.time = d.time

/-- The WAKE pin and the timer in WATCH register a wake: the first cause fixes the target and the instant and wakes the die, a later one only
adds its bit, but that Host in the same cycle of the Attic's clock fixes the target. A tick of the sequencer in which no port is due, or
with PFAIL_N low, only advances. A port that learns keeps the measurement, and its fourth makes the baseline. -/
def Obligations.WatchWakes : Prop :=
  ∀ s : State, s.dev.attic.up = true →
    (s.dev.phase = .watch → completes .wake s fun x => x.phase = .waking ∧ x.fld F.SUP_MODE_REQ = s.dev.fld F.WATCH_CTL_HOST_MODE % 16 ∧
      x.attic = { s.dev.attic with
        wakeCause := 16, wakeHost := true, wakeTarget := s.dev.fld F.WATCH_CTL_HOST_MODE, wakeFrom := s.dev.attic.count
        wakeWall := s.dev.wallAt s.dev.attic.count, ports := x.attic.ports } ∧
      { s.dev with phase := .waking, attic := x.attic }.onlyRegs x [R.SUP_MODE]) ∧
    (s.dev.phase = .waking → s.dev.attic.wakeHost = true ∨ sameCycle s.dev.attic.count s.dev.attic.wakeFrom = false →
      completes .wake s (· = { s.dev with attic := { s.dev.attic with wakeCause := s.dev.attic.wakeCause ||| 16 } })) ∧
    (s.dev.phase = .waking → s.dev.attic.wakeHost = false → sameCycle s.dev.attic.count s.dev.attic.wakeFrom = true →
      completes .wake s fun x => x.fld F.SUP_MODE_REQ = s.dev.fld F.WATCH_CTL_HOST_MODE % 16 ∧
        x.attic = { s.dev.attic with
          wakeCause := s.dev.attic.wakeCause ||| 16, wakeHost := true, wakeTarget := s.dev.fld F.WATCH_CTL_HOST_MODE } ∧
        { s.dev with attic := x.attic }.onlyRegs x [R.SUP_MODE]) ∧
    (s.dev.phase = .watch → bit (s.dev.fld F.WATCH_CTL_WAKE_EN) 2 = true → s.dev.fld F.WATCH_TIMER_TIMER_S ≠ 0 →
      s.dev.attic.entry + s.dev.fld F.WATCH_TIMER_TIMER_S * 1000000 < 2 ^ 64 → s.dev.attic.count < 2 ^ 64 →
      completes .watchTimerWake s fun x =>
        s.dev.attic.entry + s.dev.fld F.WATCH_TIMER_TIMER_S * 1000000 ≤ x.attic.count ∧
        x = { s.dev with phase := .waking, attic := x.attic } ∧
        x.attic = { s.dev.attic with
          wakeCause := 4, wakeHost := false, wakeTarget := s.dev.tables.wakeMode, wakeFrom := x.attic.count
          wakeWall := s.dev.wallAt x.attic.count, count := x.attic.count, ports := x.attic.ports }) ∧
    (s.dev.phase = .watch → bit (s.dev.fld F.WATCH_CTL_WAKE_EN) 2 = false ∨ s.dev.fld F.WATCH_TIMER_TIMER_S = 0 →
      completes .watchTimerWake s (· = s.dev)) ∧
    (∀ ms, s.dev.phase = .watch → s.dev.pfail = true ∨ (List.range 16).filter (s.dev.pulseDue s.dev.attic.tick) = [] →
      completes (.watchTick ms) s fun x =>
        x = { s.dev with attic := { s.dev.attic with tick := s.dev.attic.tick + 1, count := x.attic.count } }) ∧
    (∀ (p : Nat) (m : Cplx), s.dev.phase = .watch → s.dev.pfail = false →
      (List.range 16).filter (s.dev.pulseDue s.dev.attic.tick) = [p] → (s.dev.sense p).base = none →
      completes (.watchTick [m]) s fun x =>
        ((s.dev.sense p).learn.length < 3 → x.sense p = { base := none, learn := (s.dev.sense p).learn ++ [m] }) ∧
        ((s.dev.sense p).learn.length = 3 → x.sense p =
          { base := some { s.dev.senseKey p s.dev.attic.pulser with value := meanOf ((s.dev.sense p).learn ++ [m]) } }) ∧
        (∀ q, q < 16 → q ≠ p → x.sense q = s.dev.sense q) ∧
        x.attic = { s.dev.attic with tick := s.dev.attic.tick + 1, count := x.attic.count, ports := x.attic.ports } ∧
        { s.dev with attic := x.attic }.onlyRegs x [R.WATCH_STAT])

/-- The end of STOPPING leaves a channel STOPPED, or freed where a DESTROY asked for it. A complete message of an idle direct channel, all
its results read, starts its step. -/
def Obligations.StoppingAndMessages : Prop :=
  ∀ (s : State) (slot : Fin 256) (c : Chan), s.dev.phase = .running → s.dev.chan? slot = some c →
    (c.state = .stopping → c.step = none → c.run = none → s.dev.unattached slot → completes (.stoppingEnd slot) s fun x =>
      ∃ e : Dev, x = e.settle ∧ (c.destroy = true → e.chan? slot = none) ∧
        (c.destroy = false → ∃ y, e.chan? slot = some y ∧ y.state = .stopped ∧ y.stopIds = [] ∧
          ∀ i ∈ c.stopIds, ∀ h ∈ y.hist.entries, h.id = i → s.dev.gen slot ≠ 0 → h.st = .done)) ∧
    (c.state ≠ .stopping → completes (.stoppingEnd slot) s (· = s.dev)) ∧
    (c.direct = true → c.state = .active → c.msgWait = true → c.step = none → c.results = [] → s.dev.isHeld c.kind = false →
      (∀ q ∈ s.dev.host.cmdq, q.code = 0xFF) → completes (.directMessageStart slot) s fun x => ∃ e : Dev, x = e.settle ∧
        ∃ y st, e.chan? slot = some y ∧ y.state = .running ∧ y.mailbox = [] ∧ y.msgWait = false ∧ y.step = some st ∧
          st.tag.reqId = numAt c.mailbox 0 2 ∧ st.tag.handle = s.dev.handle slot ∧ st.deadline = c.accepted + numAt c.mailbox 8 4 ∧
          st.tmpl = msgTmpl c.mailbox ∧ st.params = msgParams c.mailbox) ∧
    (c.msgWait = false → completes (.directMessageStart slot) s (· = s.dev))

/-- A cycle starts with its targets at their slot times, and what the old one left is counted; a run falls due at its slot, and starts
with its run number as request ID and its deadline, or waits on a channel that the mode holds. -/
def Obligations.CyclesAndRuns : Prop :=
  ∀ (s : State) (slot : Fin 256) (c : Chan), s.dev.phase = .running → s.dev.chan? slot = some c → c.scheduled = true →
    (let p := s.dev.plan c.plan
     let k := if cycleAt p s.dev.wallNow > c.cycle.index then cycleAt p s.dev.wallNow else c.cycle.index + 1
     c.cycle.todo = [] ∨ jpolCommit (jpolIn s.dev.mode p.jpol) = 0 → completes (.cycleStart slot) s fun x => ∃ e : Dev, x = e.settle ∧
       (∃ y, e.chan? slot = some y ∧ y.cycle.index = k ∧ y.cycle.todo = s.dev.slotsOf p k ∧ y.run = c.run ∧ y.state = c.state) ∧
       e.fld F.SVC_OVERRUN_COUNT = (if c.cycle.todo = [] then s.dev.fld F.SVC_OVERRUN_COUNT else
         satAdd (2 ^ (F.SVC_OVERRUN_COUNT.hi + 1 - F.SVC_OVERRUN_COUNT.lo) - 1) (s.dev.fld F.SVC_OVERRUN_COUNT) c.cycle.todo.length)) ∧
    (∀ t rest, c.run = none → c.step = none → c.extras = [] → s.dev.nextTarget c = some (t, rest) →
      (s.dev.isHeld c.kind = false → completes (.runDue slot) s fun x => ∃ e : Dev, x = e.settle ∧
        ∃ y r, e.chan? slot = some y ∧ y.state = .running ∧ y.run = some r ∧ y.cycle.todo = rest ∧ r.due.target = t.1 ∧
          r.due.cause = .cycle ∧ y.runs = (c.runs + 1) % 2 ^ 32 ∧ r.reqId = y.runs % 65536 ∧
          r.deadline = r.due.at_ + (s.dev.plan c.plan).deadline ∧ y.step.isSome = true) ∧
      (s.dev.isHeld c.kind = true → c.pending = none → completes (.runDue slot) s fun x => ∃ e : Dev, x = e.settle ∧
        ∃ y due, e.chan? slot = some y ∧ y.state = c.state ∧ y.run = none ∧ y.pending = some due ∧ due.target = t.1 ∧
          due.mode = s.dev.mode ∧ y.cycle.todo = rest))

/-- The arbiter grants the first request, in the order of R21, that has a place; none while a mode transition is in progress. A request past
its deadline ends with DEADLINE, one whose HF port the governor does not permit with GOV_DENIED, and a direct one that its chain's group no
longer allows with CC_HF_STEP: none of them emits anything. The grant writes PORTCH and the chain, counts the wait, takes the field or the
chain, and begins the attempt. A PRESENCE run switches its field on, measures and ends, its field off again; an antenna that fails the
verdict of R115 leaves the field on for the fault. Every field that came on is judged open or short (`judgeFields`). -/
def Obligations.Grants : Prop :=
  ∀ (s : State) (ma : Fin 65536) (phase : Fin 1024), s.dev.phase = .running →
    (s.dev.trans ≠ none → completes (.arbiterGrant ma phase) s (· = (s.dev.judgeFields s.dev ma).settle)) ∧
    (s.dev.trans = none → (∀ y ∈ s.dev.waiting, ∃ w, s.dev.place? y.1 y.2.1 y.2.2 = .error w) →
      completes (.arbiterGrant ma phase) s (· = (s.dev.judgeFields s.dev ma).settle)) ∧
    (∀ (slot : Nat) (c : Chan) (st : Step) (p n : Nat) (mate : Option (Nat × Nat)), s.dev.trans = none →
      s.dev.chan? slot = some c → c.step = some st →
      firstBy (fun y : (Nat × Chan × Step) × Place => y.1.2.2.order y.1.1)
        (s.dev.waiting.filterMap fun y => match s.dev.place? y.1 y.2.1 y.2.2 with
          | .ok pl => some (y, pl)
          | .error _ => none) = some ((slot, c, st), (p, n, mate)) →
      let permitted := st.uhf = true ∨ (s.dev.hfPermitted p = true ∧ ∀ q ∈ mate, s.dev.hfPermitted q.2 = true)
      let stepOk := c.direct = true → st.uhf = false → hfStepBad st.params (s.dev.fld (F.HFCn_PROTO_PROTO n)) true = false
      let ends (u : Step) : Prop := completes (.arbiterGrant ma phase) s fun x => ∃ e : Dev,
        x = (e.judgeFields s.dev ma).settle ∧ e.chan? slot = some { c with step := some u } ∧ s.dev.onlyChan e slot
      (passed s.dev.time st.deadline = true → st.deadline ≤ s.dev.time → ends { st with phase := .ended Code.DEADLINE }) ∧
      (s.dev.time < st.deadline → ¬permitted → ends { st with
        tag := { st.tag with portch := s.dev.portchFor c st p n mate }, phase := .ended Code.GOV_DENIED }) ∧
      (s.dev.time < st.deadline → permitted → ¬stepOk → ends { st with phase := .ended Code.CC_HF_STEP }) ∧
      (s.dev.time < st.deadline → permitted → stepOk → c.kind ≠ Kind.presence →
        completes (.arbiterGrant ma phase) s fun x => ∃ e : Dev,
          x = ((((if st.uhf then e.grantUhf slot p n mate
            else e.grantHf slot c st p n mate ma phase).respare).beginAttempt slot).judgeFields s.dev ma).settle ∧
          s.dev.onlyChan e slot ∧ e.chan? slot = some { c with
            step := some { st with
              tag := { st.tag with portch := s.dev.portchFor c st p n mate }, chain := some (if st.uhf then 4 + n else n)
              fieldWait := false, started := true }
            run := c.run.map fun r => { r with port := some p }, waitUs := c.waitUs + (s.dev.time - st.waitFrom) }) ∧
      (s.dev.time < st.deadline → permitted → st.uhf = false → c.kind = Kind.presence →
        let b := s.dev.setChan slot { c with
          step := some { st with
            tag := { st.tag with portch := portch false n false p }, chain := none, phase := .ended 0 }
          run := c.run.map fun r => { r with port := some p }, waitUs := c.waitUs + (s.dev.time - st.waitFrom) }
        let b := match b.hfChainOn p with
          | some h => b.hfFieldOff h
          | none => b
        let on := ((b.hfFieldOff n).onHf n fun h => { h with pulse := true }).hfFieldOn n p (some slot) false ma phase
        (on.hfVerdict n ma = 0 → completes (.arbiterGrant ma phase) s fun x => ∃ e : Dev, x = (e.judgeFields s.dev ma).settle ∧
          e.hfOn n = false ∧ ∃ y u, e.chan? slot = some y ∧ y.step = some u ∧ u.phase = .ended 0 ∧ u.chain = none ∧
            u.tag.portch = portch false n false p ∧ y.waitUs = c.waitUs + (s.dev.time - st.waitFrom)) ∧
        (on.hfVerdict n ma ≠ 0 → completes (.arbiterGrant ma phase) s fun x => ∃ e : Dev, x = (e.judgeFields s.dev ma).settle ∧
          e.hfOn n = true ∧ ∃ y u, e.chan? slot = some y ∧ y.step = some u ∧ u.phase = .running ∧ u.chain = some n ∧
            u.tag.portch = portch false n false p)))

/-- The end of an attempt. A retryable code with retries left makes the next attempt, counted; a code that is
re-issued makes it uncounted. It begins at once on the chain the step holds where that chain can take it, and waits for a grant where not;
during a transition it is held; a step that is being stopped, or whose channel the mode holds, ends with that code in place of being
issued again. Any other code is the outcome of a direct step: its results, CHN_LAST, the counters, and the channel
ACTIVE again. -/
def Obligations.AttemptsEnd : Prop :=
  ∀ (s : State) (slot : Fin 256) (c : Chan) (st : Step) (code : Nat), s.dev.phase = .running → s.dev.chan? slot = some c →
    c.step = some st → st.phase = .ended code →
    let reissue := reissueCode code = true ∧ s.dev.stopCode c = none
    let retry := s.dev.stopCode c = none ∧ retryCode code = true ∧ code ≠ Code.HF_PROTOCOL_ERROR ∧ code ≠ Code.HF_WTX_LIMIT ∧ reissueCode code = false ∧
      st.tag.attempt < st.retries ∧ (st.uhf = true → uKind st.params = 0 → s.dev.time < st.deadline)
    let fresh : Step := { st with frames := [], asm := [], ctx := none, cv := none }
    let again (u : Step) (retries : Nat) : Prop := completes (.attemptEnd slot) s fun x => ∃ e : Dev,
      e = { s.dev with chans := e.chans, quota := e.quota } ∧ (∀ k, k ≠ slot.val → e.chan? k = s.dev.chan? k) ∧
      e.chan? slot = some { c with retries := retries, step := some u } ∧
      (s.dev.trans ≠ none → x = (e.setStep slot { u with phase := .held }).settle) ∧
      (s.dev.trans = none → (∀ ch, st.chain = some ch → s.dev.canRetryOn c u ch = false) →
        x = (e.setStep slot { u with phase := .waiting, waitFrom := s.dev.time, chain := none }).settle) ∧
      (∀ ch, s.dev.trans = none → st.chain = some ch → s.dev.canRetryOn c u ch = true → x = (e.beginAttempt slot).settle)
    (retry → again { fresh with tag := { st.tag with attempt := st.tag.attempt + 1 }, recover := false } (satAdd 0xFFFF c.retries 1)) ∧
    (reissue → again fresh c.retries) ∧
    (∀ stop, reissueCode code = true → s.dev.stopCode c = some stop → completes (.attemptEnd slot) s
      (· = (s.dev.stepDone slot stop).settle)) ∧
    (retryCode code = false ∨ st.retries ≤ st.tag.attempt → reissueCode code = false → c.run = none → c.state = .running →
      c.drain = false → jpolCommit st.tag.jpol = 0 → jpolEvt st.tag.jpol = false → s.dev.outstanding st.tag.handle = false →
      completes (.attemptEnd slot) s fun x => ∃ e : Dev, x = e.settle ∧ e.jrn = s.dev.jrn ∧ e.cs = s.dev.cs ∧
        e.vault = s.dev.vault ∧ e.tables = s.dev.tables ∧ e.time = s.dev.time ∧
        ∃ y, e.chan? slot = some y ∧ y.step = none ∧ y.state = .active ∧
          y.results = (if code = Code.STOPPED ∨ code = Code.MODE_ABORT then [] else c.results ++ resultsOf st code) ∧
          y.last = BitVec.ofNat 32 (code * 2 ^ 24 + st.tag.step * 2 ^ 21 + st.tag.attempt * 2 ^ 18 + st.tag.reqId) ∧
          y.ok = (if code = 0 then satAdd 0xFFFF c.ok 1 else c.ok) ∧
          y.failed = (if code = 0 then c.failed else satAdd 0xFFFF c.failed 1) ∧
          y.deadlines = (if code = Code.DEADLINE then satAdd 0xFFFF c.deadlines 1 else c.deadlines))

/-- A deadline passes: a step that waits, or is held by a transition, ends with DEADLINE; so does one in progress on an HF chain, its
attempt stopped and one emptied frame passed on; a run pending under the mode is missed.

The oldest frame of a chain is handed over and leaves its buffer, on HF with a command that waited for the buffer starting. One for a handle
that is not live is an orphan; a last frame with a code other than OK ends its attempt with it, its payload discarded. With no frame waiting
nothing is handed over. -/
def Obligations.DeadlinesAndFrames : Prop :=
  ∀ (s : State), s.dev.phase = .running →
    (∀ (slot : Fin 256) c st, s.dev.chan? slot = some c → c.step = some st → st.phase = .waiting ∨ st.phase = .held →
      st.deadline < 2 ^ 64 → s.dev.time < 2 ^ 64 → completes (.deadlinePassed slot) s fun x => ∃ e : Dev, x = e.settle ∧
        st.deadline ≤ e.time ∧ e = { s.dev with time := e.time, attic := e.attic, chans := e.chans } ∧
        (∀ k, k ≠ slot.val → e.chan? k = s.dev.chan? k) ∧ e.chan? slot = some { c with
          step := some { st with phase := .ended Code.DEADLINE }
          waitUs := c.waitUs + (if st.phase = .waiting then e.time - st.waitFrom else 0) }) ∧
    (∀ (slot : Fin 256) c st ch, s.dev.chan? slot = some c → c.step = some st → st.phase = .running → st.chain = some ch → ch < 4 →
      (∀ k f, f ∈ (s.dev.hfc k).bufs ∨ f ∈ (s.dev.uhfc k).bufs → f.tag.handle ≠ st.tag.handle) → st.deadline < 2 ^ 64 → s.dev.time < 2 ^ 64 →
      completes (.deadlinePassed slot) s fun x => ∃ e : Dev, x = e.settle ∧ st.deadline ≤ e.time ∧ (e.hfc ch).att = none ∧
        ∃ y u f, e.chan? slot = some y ∧ y.step = some u ∧ u.phase = .ended Code.DEADLINE ∧ u.tag = st.tag ∧
          u.frames = st.frames ++ [f] ∧ f.code = Code.DEADLINE ∧ f.payload = [] ∧ f.tag = st.tag) ∧
    (∀ (slot : Fin 256) c due, s.dev.chan? slot = some c → c.step = none → c.pending = some due →
      (∀ i, due.cause ≠ .chnRun i) → completes (.deadlinePassed slot) s fun x => ∃ e : Dev, x = e.settle ∧
        e = { s.dev with time := e.time, attic := e.attic, chans := e.chans } ∧ (∀ k, k ≠ slot.val → e.chan? k = s.dev.chan? k) ∧
        e.chan? slot = some { c with
          pending := none, missed := c.missed + 1, missFirst := if c.missed = 0 then due.wall else c.missFirst, missLast := due.wall
          missMode := due.mode }) ∧
    (∀ ch : Sys2Proof.Chain,
      let resumed (e : Dev) : Dev := match ch with
        | .hf n => e.hfResume n
        | .uhf _ => e
      (s.dev.bufsOf ch = [] → completes (.frameHandoff ch) s (· = s.dev.settle)) ∧
      (∀ f, s.dev.bufsOf ch = [f] → s.dev.liveSlot f.tag.handle = none → completes (.frameHandoff ch) s fun x =>
        ∃ e : Dev, x = (resumed e).settle ∧ e.bufsOf ch = [] ∧ e.orphan = f.tag.handle % 256 ∧
          e.fld F.DEV_ORPHAN_COUNT = satAdd (2 ^ (F.DEV_ORPHAN_COUNT.hi + 1 - F.DEV_ORPHAN_COUNT.lo) - 1)
            (s.dev.fld F.DEV_ORPHAN_COUNT) 1 ∧
          { s.dev with hf := e.hf, uhf := e.uhf, orphan := e.orphan }.onlyRegs e [R.DEV_ORPHAN]) ∧
      (∀ f slot c st, s.dev.bufsOf ch = [f] → s.dev.liveSlot f.tag.handle = some slot → s.dev.chan? slot = some c →
        c.step = some st → st.phase = .running → st.tag.reqId = f.tag.reqId → st.tag.step = f.tag.step →
        st.tag.attempt = f.tag.attempt → f.code ≠ 0 → f.last = true → f.part = false → st.frames = [] →
        completes (.frameHandoff ch) s fun x => ∃ e : Dev, x = (resumed e).settle ∧ e.bufsOf ch = [] ∧
          e = { s.dev with hf := e.hf, uhf := e.uhf, chans := e.chans } ∧ (∀ k, k ≠ slot → e.chan? k = s.dev.chan? k) ∧
          ∃ g, e.chan? slot = some { c with step := some { st with phase := .ended f.code, frames := [g], asm := [] } } ∧
            g.tag = f.tag ∧ g.payload = [] ∧ g.code = f.code ∧ g.wall = s.dev.wall))

/-- RECORD_BUILD takes the first waiting record in the order of R21, gives it the next sequence and its bytes, and puts it at the end of
the Larder, or holds it where the Larder is full; the run that asked for it keeps the sequence. With none waiting, or the builder not free,
it builds nothing. LARDER_SLOT_FREE lets a held record in. -/
def Obligations.RecordsBuilt : Prop :=
  ∀ s : State, s.dev.phase = .running →
    (s.dev.canBuild = false ∨ s.dev.jrn.reqs = [] → completes .recordBuild s (· = s.dev.checkFull.settle)) ∧
    (∀ r, s.dev.canBuild = true → firstBy RecReq.order s.dev.jrn.reqs = some r → s.dev.csw 2 < 0xFFFFFFFD → r.fill = .plain →
      (∀ no c, r.ticket ≠ .fault no ∧ r.ticket ≠ .tamper c) →
      let seq := s.dev.csw 2 + 1
      let after (e : Dev) : Dev := match s.dev.nextBuilt with
        | some (k, reading) => e.onChan k fun c => { c with run := c.run.map fun x =>
            { x with lastSeq := seq, readSeq := if reading then seq else x.readSeq } }
        | none => e
      (s.dev.larderFull = false → completes .recordBuild s fun x => ∃ (e : Dev) (l : LarderRec),
        x = (after e.pump).checkFull.settle ∧ e.csw 2 = seq ∧ e.jrn.larder = s.dev.jrn.larder ++ [l] ∧ l.seq = seq ∧
        l.bytes = s.dev.recordBytes r seq ∧ l.commit = r.commit ∧ l.entered = s.dev.time ∧ l.durable = false ∧ e.jrn.held = none ∧
        e.jrn.reqs = s.dev.jrn.reqs.erase r ∧ e.jrn.chain = slice l.bytes 52 8 ∧ e.jrn.devs = s.dev.jrn.devs ∧
        { s.dev with jrn := e.jrn, cs := e.cs }.onlyRegs e [R.JRN_LARDER]) ∧
      (s.dev.larderFull = true → completes .recordBuild s fun x => ∃ (e : Dev) (l : LarderRec),
        x = (after e).checkFull.settle ∧ e.csw 2 = seq ∧ e.jrn.larder = s.dev.jrn.larder ∧ e.jrn.held = some l ∧ l.seq = seq ∧
        l.bytes = s.dev.recordBytes r seq ∧ l.commit = r.commit ∧ e.jrn.reqs = s.dev.jrn.reqs.erase r ∧
        e.jrn.devs = s.dev.jrn.devs ∧ { s.dev with jrn := e.jrn, cs := e.cs }.onlyRegs e [R.JRN_STAT])) ∧
    (∀ r, s.dev.jrn.held = some r → s.dev.larderFull = false → completes .larderSlotFree s fun x => ∃ (e : Dev) (l : LarderRec),
      x = e.pump.pump.settle ∧ e.jrn.held = none ∧ e.jrn.larder = s.dev.jrn.larder ++ [l] ∧ l.seq = r.seq ∧ l.bytes = r.bytes ∧
      l.commit = r.commit ∧ l.entered = s.dev.time ∧ e.jrn.devs = s.dev.jrn.devs ∧ { s.dev with jrn := e.jrn }.onlyRegs e [R.JRN_LARDER]) ∧
    (s.dev.jrn.held = none ∨ s.dev.larderFull = true → completes .larderSlotFree s (· = s.dev.pump.settle))

/-- A program's status is read through the memory port. One that passes leaves its page; a MAIN page frees the Larder slots of its records
and moves the head, a COMMIT page makes them durable. One that fails leaves a torn page, queues its block to be retired and latches
NAND_FAIL; a RELOC page that fails is programmed again at the start of the next fresh block of its device, where there is one. With no program
in flight nothing happens. -/
def Obligations.ProgramsEnd : Prop :=
  ∀ (s : State) (n : Fin 4), s.dev.phase = .running →
    ((s.dev.nd n).prog = none → ∀ pass, completes (.pageProgramDone n pass) s (· = s.dev.settle)) ∧
    (∀ p, (s.dev.nd n).prog = some p →
      let q := s.dev.memWork 4 (chainStatus (n + 1))
      ((∀ l ∈ s.dev.jrn.larder, l.seq ∈ p.seqs → l.ticket = .none ∨ ∃ h, l.ticket = .step h) → s.dev.jrn.lost = [] →
        (p.page.ptype = 1 → completes (.pageProgramDone n true) s fun x => ∃ e : Dev,
          x = (e.pump.busyBit n).checkFull.settle ∧ (e.nd n).prog = none ∧
          (e.nd n).pages = insertPage p.page (s.dev.nd n).pages ∧
          e.jrn.larder = (s.dev.jrn.larder.filter fun l => !p.seqs.contains l.seq) ∧
          e.csw (0x0B + n) = posOf n (s.dev.nextPage n p.page.addr) 0 % 2 ^ 32 ∧
          (∀ m, m < 4 → m ≠ n.val → e.nd m = s.dev.nd m) ∧
          { q with jrn := e.jrn, cs := e.cs }.onlyRegs e [R.JRN_STAT]) ∧
        (p.page.ptype = 2 → completes (.pageProgramDone n true) s fun x => ∃ e : Dev,
          x = (e.pump.busyBit n).checkFull.settle ∧ (e.nd n).prog = none ∧
          (e.nd n).pages = insertPage p.page (s.dev.nd n).pages ∧ (e.nd n).opens = (s.dev.nd n).opens ∧
          e.fld F.JRN_CNT_COMMITS = satAdd 0xFFFF (s.dev.fld F.JRN_CNT_COMMITS) 1 ∧
          e.jrn.larder = s.dev.jrn.larder.map (fun l => if p.seqs.contains l.seq then { l with durable := true, ticket := .none } else l) ∧
          (∀ m, m < 4 → m ≠ n.val → e.nd m = s.dev.nd m) ∧
          { q with jrn := e.jrn, cs := e.cs }.onlyRegs e [R.JRN_STAT, R.JRN_CNT])) ∧
      (p.page.ptype ≠ 3 → (∃ l ∈ s.dev.jrn.larder, l.seq ∈ p.seqs ∧ l.durable = false) → completes (.pageProgramDone n false) s fun x => ∃ e : Dev,
        x = (e.pump.busyBit n).checkFull.settle ∧ (e.nd n).prog = none ∧
        (e.nd n).pages = insertPage { p.page with torn := true } (s.dev.nd n).pages ∧
        (∃ y ∈ e.jrn.relocs, y.2 = (n.val, blockOf p.page.addr)) ∧ e.fld F.FLT_STAT_NAND = 1 ∧ e.fld F.MEM_ERR_SEL = n + 1 ∧
        e.fld F.MEM_ERR_CODE = Code.NAND_FAIL ∧ e.fld F.MEM_ERR_OP = 0x10 ∧ e.fld F.FLT_STAT_LAST_CODE = Code.NAND_FAIL ∧
        e.jrn.larder.map (·.bytes) = s.dev.jrn.larder.map (·.bytes) ∧ (∀ m, m < 4 → m ≠ n.val → e.nd m = s.dev.nd m) ∧
        { q with jrn := e.jrn, cs := e.cs, flt := e.flt, fltNo := e.fltNo, freeCtr := q.freeCtr + 1 }.onlyRegs e
          [R.FLT_STAT, R.FLT_CNT, R.FLT_INT, R.MEM_ERR]) ∧
      (∀ b, p.page.ptype = 3 →
        (s.dev.onNd n fun x => { x with prog := none, pages := insertPage { p.page with torn := true } x.pages }).freshBlock n = some b →
        completes (.pageProgramDone n false) s fun x => ∃ e : Dev, x = (e.pump.busyBit n).checkFull.settle ∧
          (e.nd n).prog = some { p with page := { p.page with addr := b * 128 } } ∧ e.csw (0x0B + n) = posOf n (b * 128) 0 % 2 ^ 32))

/-- A block erase that passes leaves the block with no page; one that fails makes it a bad block and latches NAND_FAIL. A device that times
out is FAILED, with nothing in flight, what of its open pages is durable kept, and its other records going to another. A batch time that passes starts the program of the records that
wait for it. -/
def Obligations.DevicesWork : Prop :=
  ∀ s : State, s.dev.phase = .running →
    (∀ n : Fin 4, (s.dev.nd n).erasing = none → ∀ pass, completes (.eraseDone n pass) s (· = s.dev.settle)) ∧
    (∀ (n : Fin 4) b, (s.dev.nd n).erasing = some b →
      let q := s.dev.memWork 5 (chainStatus (n + 1))
      (completes (.eraseDone n true) s fun x => ∃ e : Dev, x = e.pump.checkFull.settle ∧
        (e.nd n).erasing = none ∧ (∀ p ∈ (e.nd n).pages, blockOf p.addr ≠ b) ∧
        (∀ p ∈ (s.dev.nd n).pages, blockOf p.addr ≠ b → p ∈ (e.nd n).pages) ∧ e.jrn.larder = s.dev.jrn.larder ∧
        (∀ m, m < 4 → m ≠ n.val → e.nd m = s.dev.nd m) ∧
        { q with jrn := e.jrn, cs := e.cs }.onlyRegs e [R.MEM_STAT, R.JRN_STAT]) ∧
      (completes (.eraseDone n false) s fun x => ∃ (e : Dev) (f : FltEntry),
        x = ((e.faultReport f).pump).checkFull.settle ∧ e.flt.head? = some f ∧ (e.nd n).erasing = none ∧
        b ∈ (e.nd n).bad ∧ b ∈ (e.nd n).marked ∧ e.fld F.FLT_STAT_NAND = 1 ∧ e.fld F.MEM_ERR_SEL = n + 1 ∧ e.fld F.MEM_ERR_OP = 0xD8 ∧
        e.fld F.FLT_STAT_LAST_CODE = Code.NAND_FAIL ∧ e.jrn.larder = s.dev.jrn.larder ∧ (∀ m, m < 4 → m ≠ n.val → e.nd m = s.dev.nd m) ∧
        (s.dev.tail n ≠ b → e.cs = s.dev.cs) ∧ (∀ k, k ≠ 0x0F + n.val → e.csw k = s.dev.csw k) ∧
        { q with jrn := e.jrn, cs := e.cs, flt := e.flt, fltNo := e.fltNo, freeCtr := q.freeCtr + 1 }.onlyRegs e
          [R.MEM_STAT, R.FLT_STAT, R.FLT_CNT, R.FLT_INT, R.MEM_ERR])) ∧
    (∀ n m : Fin 4, n ≠ m → s.dev.jPresent n = true → s.dev.jPresent m = true → (s.dev.nd n).failed = false →
      (s.dev.nd m).failed = false → (∃ l ∈ s.dev.jrn.larder, l.dev = some n.val ∧ l.durable = false) →
      completes (.nandDeviceTimeout n) s fun x => ∃ e : Dev, x = e.pump.settle ∧
        e.nd n = { s.dev.nd n with failed := true, opens := (e.nd n).opens, prog := none, erasing := none } ∧
        (∀ o ∈ (e.nd n).opens, ∀ q ∈ o.seqs, ∃ l ∈ s.dev.jrn.larder, l.seq = q ∧ l.durable = true) ∧
        (∀ k, k < 4 → k ≠ n.val → e.nd k = s.dev.nd k) ∧
        bit (e.fld F.JRN_STAT_DEV_FAILED) n = true ∧ e.fld F.FLT_STAT_NAND = 1 ∧ e.fld F.FLT_STAT_LAST_CODE = Code.NAND_FAIL ∧
        e.jrn.larder.map (·.bytes) = s.dev.jrn.larder.map (·.bytes) ∧ (∀ l ∈ e.jrn.larder, l.dev = some n.val → l.durable = true) ∧
        { s.dev with jrn := e.jrn, cs := e.cs, flt := e.flt, fltNo := e.fltNo, freeCtr := s.dev.freeCtr + 1 }.onlyRegs e
          [R.JRN_STAT, R.MEM_STAT, R.FLT_STAT, R.FLT_CNT, R.FLT_INT, R.MEM_ERR]) ∧
    (∀ n : Fin 4, s.dev.jPresent n = false ∨ (s.dev.nd n).failed = true → completes (.nandDeviceTimeout n) s (· = s.dev.settle)) ∧
    (∀ l, s.dev.jrn.larder.find? (fun r => !r.durable && r.commit == 1) = some l → s.dev.time < 2 ^ 64 →
      l.entered + s.dev.jBatch < 2 ^ 64 → completes .batchMsExpire s fun x => ∃ e : Dev, x = e.pump.settle ∧
        l.entered + s.dev.jBatch ≤ e.time ∧ e = { s.dev with time := e.time, attic := e.attic } ∧
        e.attic = { s.dev.attic with count := e.attic.count }) ∧
    (s.dev.jrn.larder.find? (fun r => !r.durable && r.commit == 1) = none → completes .batchMsExpire s (· = s.dev.settle))

/-- A turn of compaction starts an erase that is due, before anything else; with no work at all it reads the page at the cursor, and with
nothing to read does nothing. JOURNAL_STAGING reads the page at the cursor and stages up to 64 records from there. Both read and erase
through the memory port. A strike ends with its pin inactive; a pin with no strike stays as it is. -/
def Obligations.CompactionAndStaging : Prop :=
  ∀ s : State, s.dev.phase = .running →
    (∀ r m b, s.dev.eraseWork = some (m, b) → completes (.compaction r) s fun x => ∃ e : Dev,
      x = (e.memChains 5 (chainsErase m)).checkFull.settle ∧ (e.nd m).erasing = some b ∧ (∀ p ∈ (e.nd m).pages, blockOf p.addr ≠ b) ∧
      (∀ p ∈ (s.dev.nd m).pages, blockOf p.addr ≠ b → p ∈ (e.nd m).pages) ∧ (∀ k, k < 4 → k ≠ m → e.nd k = s.dev.nd k) ∧
      e.jrn = { s.dev.jrn with devs := e.jrn.devs } ∧ { s.dev with jrn := e.jrn }.onlyRegs e [R.MEM_STAT]) ∧
    (s.dev.eraseWork = none → s.dev.jrn.pass = none → s.dev.jrn.relocs = [] →
      (∀ q, s.dev.fromCursor.head? = some q → (s.dev.nd (posDev q.1)).failed = false →
        let read := s.dev.memChains 5 (s.dev.chainsRead (posDev q.1))
        completes (.compaction .good) s (· = read.checkFull.settle) ∧
        completes (.compaction .corrected) s fun x => ∃ e : Dev, x = e.checkFull.settle ∧
          e.fld F.MEM_ECC_CORRECTED = satAdd 0xFFFF (read.fld F.MEM_ECC_CORRECTED) 1 ∧ read.onlyRegs e [R.MEM_ECC]) ∧
      (s.dev.fromCursor = [] → ∀ r, completes (.compaction r) s (· = s.dev.checkFull.settle))) ∧
    (s.dev.jrn.pass = none → (∀ n, (s.dev.nd n).failed = false) →
      (∀ q, s.dev.fromCursor.head? = some q → completes (.journalStaging .good) s fun x => ∃ e : Dev,
        x = e.settle ∧ e.jrn = { s.dev.jrn with staged := (s.dev.fromCursor.take 64).map fun r => (r.1, r.2.2) } ∧
        e.fld F.HOST_JRN_STAGED_STAGED = min 64 s.dev.fromCursor.length ∧
        { s.dev.memChains 3 (s.dev.chainsRead (posDev q.1)) with jrn := e.jrn }.onlyRegs e [R.HOST_JRN_STAGED]) ∧
      (s.dev.fromCursor = [] → completes (.journalStaging .good) s fun x => ∃ e : Dev, x = e.settle ∧
        e.jrn = { s.dev.jrn with staged := [] } ∧ e.fld F.HOST_JRN_STAGED_STAGED = 0 ∧
        { s.dev with jrn := e.jrn }.onlyRegs e [R.HOST_JRN_STAGED])) ∧
    (∀ (pin : Fin 24) (t : Strike), s.dev.strikes.find? (fun (k : Strike) => k.pin == pin.val) = some t → s.dev.time < 2 ^ 64 →
      t.until_ < 2 ^ 64 → completes (.strikeEnd pin) s fun x => t.until_ ≤ x.time ∧ x.flag ⟨R.GPIO_STRIKE, pin, pin⟩ = false ∧
        x.flag ⟨R.GPIO_OUT, pin, pin⟩ = s.dev.pinIdle pin ∧ x.strikes = s.dev.strikes.filter (fun (k : Strike) => k.pin != pin.val) ∧
        x.attic = { s.dev.attic with count := x.attic.count } ∧
        (∀ k, k ≠ pin.val → k < 32 → x.flag ⟨R.GPIO_OUT, k, k⟩ = s.dev.flag ⟨R.GPIO_OUT, k, k⟩ ∧
          x.flag ⟨R.GPIO_STRIKE, k, k⟩ = s.dev.flag ⟨R.GPIO_STRIKE, k, k⟩) ∧
        { s.dev with time := x.time, attic := x.attic, strikes := x.strikes }.onlyRegs x [R.GPIO_OUT, R.GPIO_STRIKE]) ∧
    (∀ pin : Fin 24, s.dev.strikes.find? (fun (k : Strike) => k.pin == pin.val) = none → completes (.strikeEnd pin) s (· = s.dev))

/-- R350. The last four bytes of a record are the CRC-32 of its bytes 0–59, when it is built and when compaction relocates it. -/
def Obligations.RecordCrc : Prop :=
  (∀ (d : Dev) (r : RecReq) (seq : Nat), (d.recordBytes r seq).length = 64 →
    (d.recordBytes r seq).drop 60 = beBytes 4 (crc32 ((d.recordBytes r seq).take 60))) ∧
  (∀ b : Bytes, 60 ≤ b.length → (relocatedBytes b).drop 60 = beBytes 4 (crc32 ((relocatedBytes b).take 60)) ∧
    bit (byteAt (relocatedBytes b) 1) 5 = true ∧ ∀ i, i < 60 → i ≠ 1 → byteAt (relocatedBytes b) i = byteAt b i)

/-- An HF exchange. The guard after field-on ends and the attempt in hand sends; a command that waited for a STAGGER partner starts, the wait
counted; the reply window opens on the chain that receives, and a residual under 60 forces STAGGER and ends the attempt; a correlator of the
enabled set acquires the reply. An event that finds nothing to do changes nothing of the exchange. -/
def Obligations.ExchangesBegin : Prop :=
  ∀ (s : State) (n : Fin 4), s.dev.phase = .running →
    ((s.dev.hfc n).phase ≠ .guard → completes (.fieldGuardEnd n) s (· = s.dev.settle)) ∧
    ((s.dev.hfc n).phase = .guard → (s.dev.hfc n).att = none → completes (.fieldGuardEnd n) s fun x => ∃ e : Dev, x = e.settle ∧
      e = { s.dev with hf := e.hf, time := e.time, attic := e.attic } ∧ e.hfc n = { s.dev.hfc n with phase := .idle } ∧
      (∀ p, (s.dev.hfc n).port = some p → (s.dev.hfc n).partner = none → s.dev.time < 2 ^ 64 →
        (s.dev.hfc n).onAt + profGuard (s.dev.hfProfile p) < 2 ^ 64 → (s.dev.hfc n).onAt + profGuard (s.dev.hfProfile p) ≤ e.time)) ∧
    (∀ a, (s.dev.hfc n).phase = .guard → (s.dev.hfc n).att = some a → a.kind = 0 → s.dev.hfWithdrawn n = false →
      s.dev.hfLeaving n = false → s.dev.staggered n = false → s.dev.partnerWaits n = false →
      (s.dev.hfc a.rxChain).bufs.length + a.fills < 2 → s.dev.applying = [] →
      completes (.fieldGuardEnd n) s fun x => ∃ e : Dev, x = e.settle ∧ (e.hfc n).phase = .sent ∧ (e.hfc n).sentAt = e.time ∧
        let proto := if a.sched then a.proto else s.dev.fld (F.HFCn_PROTO_PROTO n)
        (e.hfc n).tx = (if hfCrcOff a.params then a.tmpl else withHfCrc proto a.tmpl) ∧
        e.flag (F.HFCn_STAT_MODULATING n) = true ∧ e.fld (F.HFCn_STAT_PROTO_USE n) = proto % 4) ∧
    ((s.dev.hfc n).stagFrom = none ∨ (s.dev.hfc n).att = none → completes (.staggerRelease n) s (· = s.dev.settle)) ∧
    (∀ t a, (s.dev.hfc n).stagFrom = some t → (s.dev.hfc n).phase = .ready → (s.dev.hfc n).att = some a →
      (s.dev.staggered n = true → completes (.staggerRelease n) s (· = s.dev.settle)) ∧
      (s.dev.staggered n = false → (∀ m, m < 4 → m ≠ n.val → (s.dev.hfc m).stagFrom = none) → s.dev.hfLeaving n = false →
        s.dev.hfWithdrawn n = false → (s.dev.hfc a.rxChain).bufs.length + a.fills < 2 → s.dev.applying = [] →
        completes (.staggerRelease n) s fun x => ∃ e : Dev, x = e.settle ∧ (e.hfc n).phase = .sent ∧ (e.hfc n).stagFrom = none ∧
          e.flag (F.HFCn_STAT_MODULATING n) = true ∧
          e.fld (F.HFCn_STAG_TIME_TIME n) = satAdd (2 ^ 32 - 1) (s.dev.fld (F.HFCn_STAG_TIME_TIME n)) (s.dev.time - t))) ∧
    (∀ (resid : Fin 256) (noise : BitVec 16), ((s.dev.hfc n).phase ≠ .sent ∨ (s.dev.hfc n).att = none →
        completes (.replyWindowOpen n resid noise) s (· = s.dev.settle)) ∧
      ∀ a, (s.dev.hfc n).phase = .sent → (s.dev.hfc n).att = some a →
        (60 ≤ resid.val → completes (.replyWindowOpen n resid noise) s fun x => ∃ e : Dev, x = e.settle ∧
          e = { s.dev with hf := e.hf, regs := e.regs, time := e.time, attic := e.attic } ∧ (e.hfc n).phase = .window ∧
          (e.hfc n).att = some a ∧ e.flag (F.HFCn_STAT_RX_WINDOW a.rxChain) = true ∧ e.flag (F.HFCn_STAT_MODULATING n) = false ∧
          e.fld (F.HFCn_RESID_RESID a.rxChain) = resid ∧ e.fld (F.HFCn_NOISE_NOISE a.rxChain) = noise.toNat ∧
          (a.optEof = true → s.dev.time < 2 ^ 64 → (s.dev.hfc n).sentAt + eofAfter (hfFwi a.params) < 2 ^ 64 →
            (s.dev.hfc n).sentAt + eofAfter (hfFwi a.params) ≤ e.time)) ∧
        (resid.val < 60 → a.held = none → completes (.replyWindowOpen n resid noise) s fun x => ∃ e : Dev, x = e.settle ∧
          (e.hfc a.rxChain).forced = true ∧ s.dev.hfEnded e n a.rxChain Code.HF_XFIELD_RESIDUAL ∧
          e.fld (F.HFCn_RESID_RESID a.rxChain) = resid)) ∧
    (∀ k : Sof, ((s.dev.hfc n).phase ≠ .window ∨ (s.dev.hfc n).att = none → completes (.sofAcquired n k) s (· = s.dev)) ∧
      ∀ a, (s.dev.hfc n).phase = .window → (s.dev.hfc n).att = some a →
        let heard := k.pattern.val = a.expected ∨ (a.sched = false ∧ bit (numAt a.params 8 2) k.pattern.val = true)
        (heard → completes (.sofAcquired n k) s fun x => x = { s.dev with hf := x.hf } ∧
          x.hfc n = { s.dev.hfc n with phase := .receiving, att := some { a with sof := some k } } ∧
          ∀ m, m < 4 → m ≠ n.val → x.hfc m = s.dev.hfc m) ∧
        (¬heard → completes (.sofAcquired n k) s (· = s.dev)))

/-- An HF reply: no start of frame ends a plain attempt with HF_NO_RESPONSE, a complete frame ends it with the judgement of R169. The
coupling follows each measurement by an eighth; a residual that stayed low ends the forcing of R126. -/
def Obligations.RepliesEnd : Prop :=
  ∀ (s : State) (n : Fin 4), s.dev.phase = .running →
    ((s.dev.hfc n).phase ≠ .window ∨ (s.dev.hfc n).att = none → completes (.hfNoResponse n) s (· = s.dev.settle)) ∧
    ((s.dev.hfc n).phase ≠ .receiving ∨ (s.dev.hfc n).att = none → ∀ r, completes (.hfFrameEnd n r) s (· = s.dev.settle)) ∧
    (∀ a, (s.dev.hfc n).att = some a → a.seq = .plain → a.held = none →
      ((s.dev.hfc n).phase = .window → completes (.hfNoResponse n) s fun x => ∃ e : Dev, x = e.settle ∧
        s.dev.hfEnded e n a.rxChain Code.HF_NO_RESPONSE ∧ e.flag (F.HFCn_STAT_RX_WINDOW n) = false ∧
        e.fld (F.HFCn_STAT_LAST_CODE a.rxChain) = Code.HF_NO_RESPONSE) ∧
      (∀ r : HfReply, (s.dev.hfc n).phase = .receiving → completes (.hfFrameEnd n r) s fun x =>
        let code := hfJudge a.proto a.sof r (a.kind == 0 && !hfCrcOff a.params)
        ∃ e : Dev, x = e.settle ∧ s.dev.hfEnded e n a.rxChain code ∧ e.flag (F.HFCn_STAT_RX_WINDOW n) = false ∧
          (code = 0 → ∃ f, (e.hfc a.rxChain).bufs.getLast? = some f ∧ f.payload = r.bytes ∧ f.tag = a.tag))) ∧
    (completes (.residualClear n) s fun x => ∃ e : Dev, x = e.settle ∧ (e.hfc n).forced = false ∧
      (∀ m, m < 4 → m ≠ n.val → e.hfc m = s.dev.hfc m) ∧
      { s.dev with hf := e.hf }.onlyRegs e [R.HFCn_STAT 0, R.HFCn_STAT 1, R.HFCn_STAT 2, R.HFCn_STAT 3]) ∧
    (∀ (m : Fin 4) (k : Cplx), s.dev.storedK n m = none ∨ (s.dev.hfc n).phase = .window ∨ (s.dev.hfc n).phase = .receiving →
      completes (.couplingTrackUpdate n m k) s (· = s.dev)) ∧
    (∀ (m : Fin 4) (k v : Cplx), s.dev.storedK n m = some v → (s.dev.hfc n).phase ≠ .window → (s.dev.hfc n).phase ≠ .receiving →
      completes (.couplingTrackUpdate n m k) s fun x => x = { s.dev with hf := x.hf, regs := x.regs, host := x.host } ∧
        let t := (s.dev.hfc n).tracked.getD m ⟨0, 0⟩
        let u := (x.hfc n).tracked.getD m ⟨0, 0⟩
        (8 * (u.re - t.re) - (k.re - t.re) < 8 ∧ -8 < 8 * (u.re - t.re) - (k.re - t.re)) ∧
        (8 * (u.im - t.im) - (k.im - t.im) < 8 ∧ -8 < 8 * (u.im - t.im) - (k.im - t.im)) ∧
        (∀ i, i < 4 → i ≠ m.val → (x.hfc n).tracked.getD i ⟨0, 0⟩ = (s.dev.hfc n).tracked.getD i ⟨0, 0⟩))

/-- HF faults. An open or short port is latched and its field goes off; a direct step on it ends with HF_PORT_UNAVAILABLE. A driver
fault latches the chain; with no step to touch, the log entry has no interruption; a direct step in LEDGER or SHARED waits, as the spare is
not for it. -/
def Obligations.HfFaults : Prop :=
  ∀ (s : State) (us : Fin 65536), s.dev.phase = .running →
    (∀ (p : Fin 16) c code, (c, code) ∈ [(Instr.hfPortOpen p us, Code.HF_PORT_OPEN), (.hfPortShort p us, Code.HF_PORT_SHORT)] →
      (s.dev.hfChainOn p = none → completes c s (· = s.dev.settle)) ∧
      (∀ n, s.dev.hfChainOn p = some n → s.dev.stepOn n = none → completes c s fun x => ∃ e : Dev,
        x = (e.faultDone code 1 (portch false n (s.dev.hfc n).partner.isSome p) us .untouched false none).settle ∧
        e.flag (F.HFPn_STAT_FAULT p) = true ∧ e.hfOn n = false ∧ e.fld (F.HFCn_STAT_LAST_CODE n) = code ∧
        (code = Code.HF_PORT_OPEN → e.flag (F.HFPn_STAT_OPEN p) = true) ∧ (code = Code.HF_PORT_SHORT → e.flag (F.HFPn_STAT_SHORT p) = true) ∧
        e.fld (F.HFPn_CNT_FAULTS p) = satAdd (2 ^ ((F.HFPn_CNT_FAULTS p).hi + 1 - (F.HFPn_CNT_FAULTS p).lo) - 1)
          (s.dev.fld (F.HFPn_CNT_FAULTS p)) 1) ∧
      (∀ n slot ch st, s.dev.hfChainOn p = some n → s.dev.stepOn n = some (slot, ch, st) → ch.direct = true → completes c s fun x =>
        ∃ e : Dev, x = (e.faultDone code 1 (portch false n (s.dev.hfc n).partner.isSome p) us .ended false (some (slot, ch, st))).settle ∧
          e.flag (F.HFPn_STAT_FAULT p) = true ∧ e.hfOn n = false ∧
          (e.chan? slot).map (·.step) = some (some { st with frames := [], phase := .ended Code.HF_PORT_UNAVAILABLE }))) ∧
    (∀ n : Fin 4, s.dev.flag (F.HFCn_STAT_FAULT n) = true → completes (.hfDriverFault n us) s (· = s.dev.settle)) ∧
    (∀ n : Fin 4, s.dev.flag (F.HFCn_STAT_FAULT n) = false →
      let pch := portch false n (s.dev.hfc n).partner.isSome ((s.dev.hfc n).port.getD 0)
      let latches := fun e : Dev => e.flag (F.HFCn_STAT_FAULT n) = true ∧ e.fld (F.HFCn_STAT_LAST_CODE n) = Code.HF_DRIVER_FAULT ∧
        e.flag ⟨R.FLT_STAT, 28 + n, 28 + n⟩ = true ∧ (e.hfc n).latched = Code.HF_DRIVER_FAULT ∧ e.hfOn n = false
      (s.dev.stepOn n = none → completes (.hfDriverFault n us) s fun x => ∃ e : Dev,
        x = (e.faultDone Code.HF_DRIVER_FAULT 2 pch us .untouched false none).settle ∧ latches e ∧
        e.chans.map (·.1) = s.dev.chans.map (·.1)) ∧
      (∀ slot ch st, s.dev.stepOn n = some (slot, ch, st) → ch.direct = true → Mode.strict s.dev.mode = true → s.dev.trans = none →
        completes (.hfDriverFault n us) s fun x => ∃ e : Dev,
          x = (e.faultDone Code.HF_DRIVER_FAULT 2 pch us .waits false (some (slot, ch, st))).settle ∧ latches e ∧
          (e.chan? slot).map (·.step) = some (some { reissued st with waitFrom := s.dev.time, phase := .waiting })))

/-- The radio queue's channel change, lock, loss of lock and port change. A channel change takes the carrier down and ends the occupation,
then sets out for its channel, or for the governor's next one, or holds where the governor allows none. -/
def Obligations.Synthesisers : Prop :=
  ∀ (s : State) (n : Fin 2), s.dev.phase = .running →
    (∀ k t, s.dev.radioHead n = some (.channel k, t) → s.dev.ust n ≠ Ust.off → s.dev.uhfAlone n →
      let g := (s.dev.rampDown n).endOcc n
      let sets := fun (c : Nat) (x : Dev) => (x.uhfc n).tuning = some c ∧ (x.uhfc n).tuneFrom = s.dev.time ∧
        x.flag (F.UHFCn_STAT_LOCKED n) = false ∧ x.flag (F.UHFCn_STAT_CALIBRATING n) = true ∧
        x.flag (F.UHFCn_STAT_TRAINED n) = false ∧ x.uhfOn n = false ∧ x.occ n = none ∧ (x.uhfc n).queue = s.dev.popped n
      let holds := fun x : Dev => x.flag (if n = 0 then F.GOV_STAT_HOLD0 else F.GOV_STAT_HOLD1) = true ∧ x.uhfOn n = false ∧
        x.occ n = (s.dev.rampDown n).occ n ∧ x.uhfc n = (s.dev.rampDown n).uhfc n ∧ (x.uhfc n).queue = (s.dev.uhfc n).queue
      (k ≠ 0xFF → bit g.limits.chmask k = false ∨ g.chanOk n k = true → completes (.radioChannelChange n) s (sets k)) ∧
      (k ≠ 0xFF → bit g.limits.chmask k = true → g.chanOk n k = false → completes (.radioChannelChange n) s holds) ∧
      (∀ c d, k = 0xFF → g.nextChannel n = some (c, d) → completes (.radioChannelChange n) s (sets c)) ∧
      (k = 0xFF → g.nextChannel n = none → completes (.radioChannelChange n) s holds)) ∧
    ((∀ k t, s.dev.radioHead n ≠ some (.channel k, t)) ∨ s.dev.ust n = Ust.off → completes (.radioChannelChange n) s (· = s.dev)) ∧
    (∀ c (us : Fin 65536), (s.dev.uhfc n).tuning = some c → c < 64 → completes (.synthLock n us) s fun x =>
      let w := lockTime (s.dev.uhfc n).tuneUs us
      let at_ := (s.dev.uhfc n).tuneFrom + w + (if s.dev.ust n = Ust.standby then 8 else 0)
      (x.uhfc n).tuning = none ∧ x.ust n = (if s.dev.ust n = Ust.standby then Ust.ready else s.dev.ust n) ∧
      x.flag (F.UHFCn_STAT_LOCKED n) = true ∧ x.flag (F.UHFCn_STAT_CALIBRATING n) = false ∧ x.fld (F.UHFCn_STAT_CH_INDEX n) = c ∧
      x.fld (F.UHFCn_SYN_STAT_LOCK_US n) = min 255 w ∧ (s.dev.time < 2 ^ 64 → at_ < 2 ^ 64 → at_ ≤ x.time) ∧
      (x.uhfc n).cal = match (s.dev.uhfc n).tuneCal with
        | some e => (s.dev.uhfc n).cal.filter (·.index != c) ++ [e]
        | none => (s.dev.uhfc n).cal) ∧
    (∀ c h t, (s.dev.uhfc n).tuning = some c → s.dev.radioHead n = some (h, t) → s.dev.uhfAlone n →
      (h = .carrierOn ∨ ∃ p b k, h = .packet p b k) → s.dev.time < 2 ^ 64 → t + 200 < 2 ^ 64 →
      (∀ a, (s.dev.uhfc n).att = some a → a.held = none) → completes (.synthUnlock n) s fun x =>
        t + 200 ≤ x.time ∧ (x.uhfc n).tuning = some c ∧ (x.uhfc n).queue = [] ∧
        x.fld (F.UHFCn_CNT_UNLOCK n) = satAdd 255 (s.dev.fld (F.UHFCn_CNT_UNLOCK n)) 1 ∧
        ((s.dev.uhfc n).att ≠ none → s.dev.uhfEnded x n Code.SYNTH_UNLOCK)) ∧
    ((s.dev.uhfc n).tuning = none → (∀ us, completes (.synthLock n us) s (· = s.dev)) ∧ completes (.synthUnlock n) s (· = s.dev)) ∧
    (∀ q t p, s.dev.radioHead n = some (.port q, t) → s.dev.ust n ≠ Ust.off → s.dev.uhfAlone n → (s.dev.uhfc n).port = some p → p < 8 →
      completes (.radioPortChange n) s fun x => x.fld (F.UHFCn_STAT_PORT n) = p ∧ x.flag (F.UHFCn_STAT_PORT_VALID n) = true ∧
        x.flag (F.UHFCn_STAT_TRAINED n) = false ∧ x.uhfOn n = false ∧ (x.uhfc n).queue = s.dev.popped n ∧
        (profRoute (s.dev.uhfProfile p) ≠ 0 → (x.uhfc n).antsel = profAntsel (s.dev.uhfProfile p))) ∧
    ((∀ q t, s.dev.radioHead n ≠ some (.port q, t)) ∨ s.dev.ust n = Ust.off → completes (.radioPortChange n) s (· = s.dev))

/-- A carrier-on command: refused without a permit (GOV_DENIED), held while the duty budget is spent or its channel is not allowed, kept back by
an open window, waiting for a grant where the wires gate it and do not grant, and otherwise ramped: CW, the reading shown, the occupation
begun. A carrier-off command takes the carrier down. -/
def Obligations.Carriers : Prop :=
  ∀ (s : State) (n : Fin 2) (meas : Fin 1024), s.dev.phase = .running →
    (∀ a p t, s.dev.radioHead n = some (.carrierOn, t) → (s.dev.uhfc n).att = some a → (s.dev.uhfc n).port = some p → p < 8 →
      s.dev.fld (F.UHFCn_STAT_PORT n) = p → s.dev.uhfAlone n → a.held = none → s.dev.ust n = Ust.ready →
      s.dev.flag (F.UHFCn_STAT_LOCKED n) = true → (s.dev.uhfc n).tuning = none → (s.dev.uhfc n).waitGrant = false →
      let k := s.dev.fld (F.UHFCn_STAT_CH_INDEX n)
      let denied := s.dev.uhfPermit p none < 0 ∨ bit s.dev.limits.chmask k = false ∨ (s.dev.uhfc n).inhibited = true
      let holds := fun x : Dev => x.flag (if n = 0 then F.GOV_STAT_HOLD0 else F.GOV_STAT_HOLD1) = true ∧ x.uhfOn n = false
      (denied → completes (.carrierOn n meas) s fun x => s.dev.uhfEnded x n Code.GOV_DENIED ∧ x.uhfOn n = false) ∧
      (¬denied → s.dev.dutySpent = true → completes (.carrierOn n meas) s fun x => x.uhfc n = s.dev.uhfc n ∧ holds x) ∧
      (¬denied → s.dev.dutySpent = false → s.dev.chanOk n k = false → completes (.carrierOn n meas) s fun x => holds x ∧
        (a.sched = false → x.uhfc n = s.dev.uhfc n) ∧
        (a.sched = true → x.radioHead n = some (.channel 0xFF, s.dev.time) ∧ (x.uhfc n).att = some a)) ∧
      (¬denied → s.dev.dutySpent = false → s.dev.chanOk n k = true → s.dev.windowOpen = true →
        completes (.carrierOn n meas) s (· = s.dev)) ∧
      (¬denied → s.dev.dutySpent = false → s.dev.chanOk n k = true → s.dev.windowOpen = false →
        (s.dev.coexGranted p = true → completes (.carrierOn n meas) s fun x => x.ust n = Ust.cw ∧
          x.fld (F.UHFCn_POWER_MEAS n) = s.dev.powerReading n p meas ∧ x.flag (F.UHFPn_STAT_ACTIVE p) = true ∧
          x.fld (F.UHFPn_CNT_ONS p) = satAdd 0xFFFF (s.dev.fld (F.UHFPn_CNT_ONS p)) 1 ∧ (x.occ n).map (·.chan) = some k ∧
          (∃ y ∈ x.gov.spans, y.chan = k ∧ y.chain = n ∧ y.on = s.dev.time ∧ y.off = none) ∧
          (x.uhfc n).queue = s.dev.popped n ∧ (x.uhfc n).att = some a) ∧
        (s.dev.coexGranted p = false → completes (.carrierOn n meas) s fun x => (x.uhfc n).waitGrant = true ∧ x.uhfOn n = false ∧
          (x.uhfc n).queue = (s.dev.uhfc n).queue ∧
          (s.dev.gatedA = true → x.coexA.req = true ∧ (a.tag.lclass = true → x.coexA.pri = true)) ∧
          (s.dev.gatedB p = true → x.coexB.req = true ∧ (a.tag.lclass = true → x.coexB.pri = true))))) ∧
    ((∀ t, s.dev.radioHead n ≠ some (.carrierOn, t)) ∨ (s.dev.uhfc n).att = none ∨ (s.dev.uhfc n).port = none ∨
      s.dev.flag (F.UHFCn_STAT_LOCKED n) = false ∨ (s.dev.uhfc n).tuning ≠ none ∨ (s.dev.uhfc n).waitGrant = true →
      completes (.carrierOn n meas) s (· = s.dev)) ∧
    (∀ t, s.dev.radioHead n = some (.carrierOff, t) → s.dev.uhfAlone n → completes (.carrierOff n) s fun x => x.uhfOn n = false ∧
      (x.uhfc n).queue = s.dev.popped n ∧ (x.uhfc n).att = (s.dev.uhfc n).att) ∧
    ((∀ t, s.dev.radioHead n ≠ some (.carrierOff, t)) → completes (.carrierOff n) s (· = s.dev))

/-- The canceller's training ends in CW, or its vector is tracked at a turnaround: at −40 dBm or less an untrained chain is trained; above it an
attempt that trains ends with UHF_LEAK_HIGH, and at a turnaround a trained chain is to be trained again. Weights are tracked at a turnaround
by at most four steps. A sample of the die temperature shows on both chains. -/
def Obligations.CancellerAndTemperature : Prop :=
  ∀ (s : State), s.dev.phase = .running →
    (∀ (n : Fin 2) (leak resid : BitVec 8) (ci cq : BitVec 10),
      let turn := s.dev.ust n = Ust.rx ∧ ∀ a, (s.dev.uhfc n).att = some a → a.awaiting = none
      let ends := completes (.cancellerTrainingEnd n leak resid ci cq) s
      (s.dev.ust n = Ust.cw ∨ turn → ends fun x => x.fld (F.UHFCn_LEAK_LEAK n) = leak.toNat ∧ x.fld (F.UHFCn_LEAK_RESID n) = resid.toNat) ∧
      (s.dev.ust n = Ust.cw → ends fun x => x.fld (F.UHFCn_CANC_CI n) = ci.toNat ∧ x.fld (F.UHFCn_CANC_CQ n) = cq.toNat) ∧
      (turn → s.dev.uhfAlone n → ends fun x =>
        let y := s.dev.powerStep 2 n
        x.fld (F.UHFCn_CANC_CI n) = trackWeight (BitVec.ofNat 10 (y.fld (F.UHFCn_CANC_CI n))) ci ∧
        x.fld (F.UHFCn_CANC_CQ n) = trackWeight (BitVec.ofNat 10 (y.fld (F.UHFCn_CANC_CQ n))) cq) ∧
      (s.dev.ust n = Ust.cw ∨ turn → resid.toInt ≤ -40 → (s.dev.uhfc n).untrained = true → ends fun x =>
        (x.uhfc n).untrained = false ∧ (x.uhfc n).paFails = 0 ∧ x.flag (F.UHFCn_STAT_TRAINED n) = true ∧ x.ust n = s.dev.ust n ∧
        (x.uhfc n).att = (s.dev.uhfc n).att) ∧
      (-40 < resid.toInt → (s.dev.uhfc n).untrained = false →
        (turn → ends fun x => (x.uhfc n).untrained = true ∧ x.flag (F.UHFCn_STAT_TRAINED n) = false ∧ x.ust n = Ust.cw ∧
          (x.uhfc n).att = (s.dev.uhfc n).att ∧ x.fld (F.UHFCn_CNT_RETRAIN n) =
            satAdd (2 ^ ((F.UHFCn_CNT_RETRAIN n).hi + 1 - (F.UHFCn_CNT_RETRAIN n).lo) - 1) (s.dev.fld (F.UHFCn_CNT_RETRAIN n)) 1) ∧
        (s.dev.ust n = Ust.cw → ends fun x => (x.uhfc n).untrained = false ∧ (x.uhfc n).att = (s.dev.uhfc n).att)) ∧
      (∀ a, s.dev.ust n = Ust.cw ∨ turn → -40 < resid.toInt → (s.dev.uhfc n).untrained = true → (s.dev.uhfc n).att = some a →
        a.held = none → ends fun x => s.dev.uhfEnded x n Code.UHF_LEAK_HIGH) ∧
      (s.dev.ust n ≠ Ust.cw → ¬turn → ends (· = s.dev))) ∧
    (∀ t : BitVec 8, completes (.tempSample t) s fun x => x.dieTemp = t.toInt ∧
      (∀ n, n < 2 → x.fld (F.UHFCn_SYN_STAT_TEMP_NOW n) = t.toNat) ∧
      s.dev.onlyRegs x [R.UHFCn_SYN_STAT 0, R.UHFCn_SYN_STAT 1, R.UHFCn_CALMAP_HI 0, R.UHFCn_CALMAP_HI 1, R.UHFCn_CALMAP_LO 0,
        R.UHFCn_CALMAP_LO 1])

/-- Packets and replies of a UHF round. A Query or QueryRep is released and opens its reply window, an ACK too, a Select none; the first
preamble acquires the reply, a second distinct one marks the collision and, with the capture margin, the capture; an RN16 is answered with
ACK; an empty slot is counted and follows the Q rule; a RAW reply ends its attempt; a collided reply that fails is COLLIDED. -/
def Obligations.RoundsAndReplies : Prop :=
  ∀ (s : State) (n : Fin 2) (a : UhfAttempt), s.dev.phase = .running → (s.dev.uhfc n).att = some a →
    (∀ p bits after t, s.dev.radioHead n = some (.packet p bits after, t) → s.dev.uhfAlone n →
      s.dev.ust n = Ust.cw ∨ s.dev.ust n = Ust.rx →
      (s.dev.uhfc n).untrained = false → a.awaiting = none → (s.dev.uhfc n).tuning = none →
      (s.dev.uhfc n).bufs.length + b2n a.held.isSome < 2 → s.dev.uhfWithdrawn n = false →
      let sends := fun (u : Nat) (b : UhfAttempt) => completes (.packet n) s fun x => x.ust n = u ∧ (x.uhfc n).att = some b ∧
        (x.uhfc n).txBits = bits ∧ (x.uhfc n).queue = s.dev.popped n ∧ (x.uhfc n).bufs = (s.dev.uhfc n).bufs
      (p = .query ∨ p = .queryRep → s.dev.mustPause n = false → s.dev.dwellShort n a = false → sends Ust.rx { a with
        slot := a.slot + 1, slots := a.slots + 1, awaiting := some p, rx := none, sent := true
        margin := s.dev.fld (F.UHFCn_AIRCFG_CAPTURE_MARGIN n) }) ∧
      (p = .ack → sends Ust.rx { a with acks := a.acks + 1, awaiting := some .ack, rx := none, sent := true }) ∧
      (∀ k, p = .select k → s.dev.mustPause n = false → sends Ust.cw { a with sent := true })) ∧
    ((∀ p bits after t, s.dev.radioHead n ≠ some (.packet p bits after, t)) → completes (.packet n) s (· = s.dev)) ∧
    (∀ p (k : Preamble), a.awaiting = some p → s.dev.ust n = Ust.rx →
      let slot := p.slotCmd || p == .ack
      (a.rx = none → completes (.uhfPreambleAcquired n k) s fun x => (x.uhfc n).att = some { a with rx := some { pre := k } }) ∧
      (∀ x0, a.rx = some x0 → 24 < k.symbols → completes (.uhfPreambleAcquired n k) s fun x => (x.uhfc n).att =
        some { a with rx := some { x0 with collided := true }, slotColl := a.slotColl || slot }) ∧
      (∀ x0, a.rx = some x0 → 0 < k.symbols → k.symbols ≤ 24 → 10 * (a.margin : Int) ≤ k.rssi.toInt - x0.pre.rssi.toInt →
        completes (.uhfPreambleAcquired n k) s fun x => (x.uhfc n).att = some { a with
          rx := some { pre := k, collided := true, captured := true }, slotColl := a.slotColl || slot
          slotCapt := a.slotCapt || slot })) ∧
    (∀ p x0 (r : UhfReply), a.awaiting = some p → a.rx = some x0 →
      (p = .query ∨ p = .queryRep → r.coded = true → (s.dev.uhfc n).queue.length < 8 → (s.dev.uhfc n).backlog = [] →
        completes (.uhfReplyEnd n r) s fun x =>
          (x.uhfc n).att = some { a with awaiting := none, rn16 := r.handle.val, rx := none } ∧
          (x.uhfc n).queue = (s.dev.uhfc n).queue ++ [(.packet .ack (ackFrame r.handle.val) 0, s.dev.time)]) ∧
      (p = .raw → a.held = none → r.coded = true → (uRawRxCrc a.params = true → r.crcOk = true) →
        completes (.uhfReplyEnd n r) s fun x => s.dev.uhfEnded x n 0 ∧
          ∃ f, (x.uhfc n).bufs.getLast? = some f ∧ f.payload = r.bytes ∧ f.tag = a.tag) ∧
      (p = .reqRn → a.held = none → r.coded = true → r.crcOk = false →
        (x0.collided = true → completes (.uhfReplyEnd n r) s fun x => s.dev.uhfEnded x n Code.COLLIDED) ∧
        (x0.collided = false → completes (.uhfReplyEnd n r) s fun x => s.dev.uhfEnded x n Code.UHF_CRC_ERROR ∧
          x.fld (F.UHFCn_ERRCNT_CRC n) = satAdd 255 (s.dev.fld (F.UHFCn_ERRCNT_CRC n)) 1))) ∧
    (a.rx = none →
      (∀ p, p = Pkt.query ∨ p = Pkt.queryRep → a.awaiting = some p → a.slots ≠ 2 ^ a.q →
        let q := max (20 * uQMin a.params) (a.qfp - uC a.params)
        (q + 10) / 20 = a.q → s.dev.mustPause n = false → (s.dev.uhfc n).queue.length < 8 → (s.dev.uhfc n).backlog = [] →
        completes (.uhfReplyTimeout n) s fun x =>
          (∃ b, (x.uhfc n).att = some b ∧ b.qfp = q ∧ b.q = a.q ∧ b.awaiting = none ∧ b.found = a.found) ∧
          (x.uhfc n).queue = (s.dev.uhfc n).queue ++ [(.packet .queryRep (queryRepFrame a.params) 0, s.dev.time)] ∧
          x.fld (F.UHFCn_SLOTCNT0_EMPTY n) = satAdd 0xFFFF (s.dev.fld (F.UHFCn_SLOTCNT0_EMPTY n)) 1) ∧
      (a.held = none → a.awaiting = some .reqRn → completes (.uhfReplyTimeout n) s fun x => s.dev.uhfEnded x n Code.UHF_NO_REPLY) ∧
      (a.held = none → a.awaiting = some .access → completes (.uhfReplyTimeout n) s fun x =>
        s.dev.uhfEnded x n (if accessCmd a.tmpl a.tbits = .read then Code.UHF_NO_REPLY else Code.UHF_WRITE_UNVERIFIED) ∧
        (accessCmd a.tmpl a.tbits ≠ .read → s.dev.time < 2 ^ 64 → (s.dev.uhfc n).sentAt + 20000 < 2 ^ 64 →
          (s.dev.uhfc n).sentAt + 20000 ≤ x.time)))

/-- UHF faults. With no step touched, a synthesiser and an output above its permit are latched with an entry of no interruption; a
synthesiser that never locked is latched no sooner than 1 ms after its channel change. The third power-loop failure since a good ramp latches
the chain, and those before it only end the attempt; an INTERNAL route has no such loop. A return loss below RL_THR latches an INTERNAL
port; one at or above it only shows. -/
def Obligations.UhfFaults : Prop :=
  ∀ (s : State) (n : Fin 2) (us : Fin 65536), s.dev.phase = .running → s.dev.uhfAlone n →
    let p := (s.dev.uhfc n).port.getD 0
    let pch := portch true n false p
    let ext := (s.dev.uhfc n).port.isSome && profRoute (s.dev.uhfProfile p) != 0
    let latches := fun (code : Nat) (e : Dev) => e.flag (F.UHFCn_STAT_FAULT n) = true ∧ e.fld (F.UHFCn_STAT_LAST_CODE n) = code ∧
      e.flag ⟨R.FLT_STAT, 26 + n, 26 + n⟩ = true ∧ (e.uhfc n).latched = code ∧ e.ust n = Ust.off ∧ (e.uhfc n).owner = none ∧
      (e.uhfc n).port = none
    (s.dev.uhfOn n = false → (s.dev.uhfc n).tuning = none → completes (.uhfSynthFault n us) s (· = s.dev.settle)) ∧
    (s.dev.uhfOn n = true ∨ (s.dev.uhfc n).tuning ≠ none → s.dev.flag (F.UHFCn_STAT_FAULT n) = false → s.dev.stepOn (4 + n) = none →
      completes (.uhfSynthFault n us) s fun x => ∃ e : Dev,
        x = (e.faultDone Code.UHF_SYNTH_FAULT 3 pch us .untouched ext none).settle ∧ latches Code.UHF_SYNTH_FAULT e ∧
        (s.dev.uhfOn n = false → s.dev.time < 2 ^ 64 → (s.dev.uhfc n).tuneFrom + 1000 < 2 ^ 64 →
          (s.dev.uhfc n).tuneFrom + 1000 ≤ e.time)) ∧
    (s.dev.uhfOn n = true → s.dev.flag (F.UHFCn_STAT_FAULT n) = false → s.dev.stepOn (4 + n) = none →
      completes (.govOverlimit (.uhf n) us) s fun x => ∃ e : Dev,
        x = (e.faultDone Code.GOV_OVERLIMIT 4 pch us .untouched ext none).settle ∧ latches Code.GOV_OVERLIMIT e ∧
        e.flag (if n = 0 then F.GOV_STAT_INH0 else F.GOV_STAT_INH1) = true ∧ (e.uhfc n).inhibited = true) ∧
    (s.dev.uhfOn n = false ∨ s.dev.flag (F.UHFCn_STAT_FAULT n) = true → completes (.govOverlimit (.uhf n) us) s (· = s.dev.settle)) ∧
    (s.dev.uhfOn n = false ∨ ext = false → completes (.uhfPaLoop n us) s (· = s.dev.settle)) ∧
    (s.dev.uhfOn n = true → ext = true → (s.dev.uhfc n).paFails < 2 → (∀ a, (s.dev.uhfc n).att = some a → a.held = none) →
      completes (.uhfPaLoop n us) s fun x => ∃ e : Dev, x = e.settle ∧ e.uhfOn n = false ∧ (e.uhfc n).paFails = (s.dev.uhfc n).paFails + 1 ∧
        e.flag (F.UHFCn_STAT_FAULT n) = s.dev.flag (F.UHFCn_STAT_FAULT n) ∧
        e.fld (F.UHFCn_CNT_PALOOP n) = satAdd 255 (s.dev.fld (F.UHFCn_CNT_PALOOP n)) 1 ∧
        ((s.dev.uhfc n).att ≠ none → s.dev.uhfEnded e n Code.UHF_PA_LOOP)) ∧
    (s.dev.uhfOn n = true → ext = true → 2 ≤ (s.dev.uhfc n).paFails → s.dev.flag (F.UHFCn_STAT_FAULT n) = false →
      s.dev.stepOn (4 + n) = none → completes (.uhfPaLoop n us) s fun x => ∃ e : Dev,
        x = (e.faultDone Code.UHF_CHAIN_FAULT 4 pch us .untouched ext none).settle ∧ latches Code.UHF_CHAIN_FAULT e) ∧
    (∀ (q : Fin 8) (rl : Fin 256), (∀ m, m < 2 → m ≠ n.val → (s.dev.uhfc m).port ≠ some q.val) →
      (s.dev.uhfOn n = false → completes (.uhfPortFault q rl us) s (· = s.dev.settle)) ∧
      (s.dev.uhfOn n = true → (s.dev.uhfc n).port = some q.val →
        (profRoute (s.dev.uhfProfile q) ≠ 0 ∨ s.dev.flag (F.UHFPn_STAT_FAULT q) = true →
          completes (.uhfPortFault q rl us) s (· = s.dev.settle)) ∧
        (profRoute (s.dev.uhfProfile q) = 0 → s.dev.flag (F.UHFPn_STAT_FAULT q) = false →
          (byteAt (s.dev.uhfProfile q) 3 ≤ rl.val → completes (.uhfPortFault q rl us) s fun x => ∃ e : Dev, x = e.settle ∧
            e.fld (F.UHFPn_STAT_RL q) = rl ∧ e.flag (F.UHFPn_STAT_FAULT q) = false ∧ s.dev.onlyRegs e [R.UHFPn_STAT q]) ∧
          (rl.val < byteAt (s.dev.uhfProfile q) 3 → s.dev.stepOn (4 + n) = none → completes (.uhfPortFault q rl us) s fun x =>
            ∃ e : Dev, x = (e.faultDone Code.UHF_PORT_FAULT 5 (portch true n false q) us .untouched false none).settle ∧
              e.flag (F.UHFPn_STAT_FAULT q) = true ∧ e.flag (F.UHFPn_STAT_RL_LOW q) = true ∧ e.fld (F.UHFPn_STAT_RL q) = rl ∧
              e.uhfOn n = false ∧ e.fld (F.UHFCn_STAT_LAST_CODE n) = Code.UHF_PORT_FAULT))))

/-- The governor's instants: an occupation that reaches DWELL_MAX takes its carrier down and no earlier; OFF_MIN of carrier-off ends it;
with the duty budget spent no carrier between exchanges stays on. -/
def Obligations.GovernorInstants : Prop :=
  ∀ s : State, s.dev.phase = .running → s.dev.time < 2 ^ 64 →
    (∀ n : Fin 2, s.dev.occ n = none → completes (.dwellMaxExpire n) s (· = s.dev) ∧ completes (.offMinExpire n) s (· = s.dev)) ∧
    (∀ n : Fin 2, s.dev.uhfOn n = true → completes (.offMinExpire n) s (· = s.dev)) ∧
    (∀ (n : Fin 2) (o : Occ), s.dev.occ n = some o → s.dev.uhfAlone n → o.start + s.dev.limits.dwellMax * 1000 < 2 ^ 64 →
      completes (.dwellMaxExpire n) s fun x => o.start + s.dev.limits.dwellMax * 1000 ≤ x.time ∧ x.uhfOn n = false ∧
        x.chans = s.dev.chans ∧ (s.dev.uhfOn n = false → x.uhf = s.dev.uhf)) ∧
    (∀ (n : Fin 2) (o : Occ) t, s.dev.occ n = some o → s.dev.offSince o.chan = some t → s.dev.uhfOn n = false →
      t + s.dev.limits.offMin * 1000 < 2 ^ 64 → completes (.offMinExpire n) s fun x => x.occ n = none ∧
        t + s.dev.limits.offMin * 1000 ≤ x.time ∧ (∀ m, m < 2 → m ≠ n.val → x.occ m = s.dev.occ m) ∧ x.uhf = s.dev.uhf) ∧
    (s.dev.mode ≠ 4 ∨ (s.dev.uhfOn 0 = false ∧ s.dev.uhfOn 1 = false) → completes .dutyBudgetSpent s (· = s.dev)) ∧
    (s.dev.mode = 4 → s.dev.dutySpent = true → s.dev.uhfAlone 0 → s.dev.uhfAlone 1 → s.dev.uhfOn 0 = true ∨ s.dev.uhfOn 1 = true →
      completes .dutyBudgetSpent s fun x => x.time = s.dev.time ∧ ∀ n, n < 2 → (∀ a, (s.dev.uhfc n).att = some a → a.awaiting = none) →
        x.uhfOn n = false)

/-- The coexistence wires and protected windows. A grant sets the wires, and a chain that waited goes on with its carrier-on; a withdrawn
grant takes down a carrier that needs it, its attempt ending with COEX_PREEMPT; a window opens and closes at its instants and, where windows
apply, takes the carriers down, an exchange it cuts ending with COEX_PREEMPT. COEX_CFG.A_EN takes 1 at once. -/
def Obligations.Coexistence : Prop :=
  ∀ s : State, s.dev.phase = .running →
    (∀ (k : CoexSet) (m0 m1 : Fin 1024), completes (.coexGrant k m0 m1) s fun x => ∃ e : Dev,
      (e.wires k).grants = true ∧ (∀ k', k' ≠ k → e.wires k' = s.dev.wires k') ∧
      e.flag (match k with | .a => F.COEX_STAT_GRANTA | .b => F.COEX_STAT_GRANTB) = true ∧ e.uhf = s.dev.uhf ∧ e.chans = s.dev.chans ∧
      (∀ t, (s.dev.wires k).waitFrom = some t → s.dev.time + 1 < 2 ^ 64 → t + s.dev.coexLead k < 2 ^ 64 →
        s.dev.time + 1 ≤ e.time ∧ t + s.dev.coexLead k ≤ e.time) ∧
      ((∀ n, n < 2 → (s.dev.uhfc n).waitGrant = false) → x = e) ∧
      ((s.dev.uhfc 0).waitGrant = true → s.dev.uhfAlone 0 → (s.dev.uhfc 1).waitGrant = false →
        x = (e.onUhf 0 fun u => { u with waitGrant := false }).carrierOn 0 m0) ∧
      ((s.dev.uhfc 1).waitGrant = true → s.dev.uhfAlone 1 → (s.dev.uhfc 0).waitGrant = false →
        x = (e.onUhf 1 fun u => { u with waitGrant := false }).carrierOn 1 m1)) ∧
    (∀ (k : CoexSet) (act : Bool), (∀ n, n < 2 → s.dev.uhfOn n = false) → completes (.coexPreempt k act) s fun x =>
      (x.wires k).grants = false ∧ (∀ k', k' ≠ k → x.wires k' = s.dev.wires k') ∧ x.uhf = s.dev.uhf) ∧
    (∀ (act : Bool) (a : UhfAttempt) p, s.dev.gatedA = true → s.dev.uhfAlone 0 → s.dev.uhfOn 0 = true → s.dev.uhfOn 1 = false →
      (s.dev.uhfc 0).port = some p → (s.dev.uhfc 0).att = some a → a.held = none → completes (.coexPreempt .a act) s fun x =>
        x.coexA.grants = false ∧ x.uhfOn 0 = false ∧ s.dev.uhfEnded x 0 Code.COEX_PREEMPT ∧
        x.fld F.COEX_CNT_PREEMPT = satAdd (2 ^ (F.COEX_CNT_PREEMPT.hi + 1 - F.COEX_CNT_PREEMPT.lo) - 1) (s.dev.fld F.COEX_CNT_PREEMPT) 1) ∧
    (∀ k : Fin 4, s.dev.flag (F.COEX_PWk_CFG_EN k) = false ∨ (∃ w ∈ s.dev.windows, w.1 = k.val) →
      completes (.protectedWindowStart k) s (· = s.dev)) ∧
    (∀ k : Fin 4, s.dev.flag (F.COEX_PWk_CFG_EN k) = true → (∀ w ∈ s.dev.windows, w.1 ≠ k.val) →
      completes (.protectedWindowStart k) s fun x =>
        x.windows = s.dev.windows ++ [(k.val, x.time)] ∧ x.flag F.COEX_STAT_PW_OPEN = true ∧
        (s.dev.flag (F.COEX_PWk_CFG_SRC k) = true → x.time = s.dev.time) ∧
        (s.dev.flag (F.COEX_PWk_CFG_SRC k) = false → s.dev.time < 2 ^ 64 → s.dev.windowNext k < 2 ^ 64 → s.dev.windowNext k ≤ x.time) ∧
        (s.dev.windowsApply = false → x.uhf = s.dev.uhf) ∧
        (s.dev.windowsApply = true → s.dev.uhfAlone 0 → s.dev.uhfAlone 1 → x.uhfOn 0 = false ∧ x.uhfOn 1 = false ∧
          ∀ n a, n < 2 → s.dev.uhfOn n = true → (s.dev.uhfc n).att = some a → a.awaiting ≠ none → a.held = none →
            s.dev.uhfEnded x n Code.COEX_PREEMPT)) ∧
    (∀ k : Fin 4, s.dev.windows.find? (·.1 == k.val) = none → completes (.protectedWindowEnd k) s (· = s.dev)) ∧
    (∀ (k : Fin 4) w, s.dev.windows.find? (·.1 == k.val) = some w → s.dev.time < 2 ^ 64 →
      w.2 + s.dev.fld (F.COEX_PWk_WIN_LEN k) * 10 < 2 ^ 64 → completes (.protectedWindowEnd k) s fun x =>
        x.windows = s.dev.windows.filter (·.1 != k.val) ∧ w.2 + s.dev.fld (F.COEX_PWk_WIN_LEN k) * 10 ≤ x.time ∧
        x.flag F.COEX_STAT_PW_OPEN = !x.windows.isEmpty ∧ x.uhf = s.dev.uhf) ∧
    ((∀ n, n < 2 → (s.dev.uhfc n).waitGrant = false ∧ s.dev.uhfOn n = false) → s.dev.flag F.COEX_CFG_A_EN = false →
      completes (.coexAEnWrite true) s fun x => x.flag F.COEX_CFG_A_EN = true ∧ x.uhf = s.dev.uhf)

/-- What the rows of a UHF chain, the governor and the coexistence wires leave alone: the HF chains, the Cellar, the Vault, the host port,
the tables, the log, the channels (but for a reply, after which a step draws its challenge or keeps its phase state), and every register
outside their own windows and the timers that capture their events. -/
def Obligations.UhfFrames : Prop :=
  ∀ (s : State) (c : Instr), s.dev.phase = .running → s.dev.chainsInRange → uhfRow c = true → completes c s fun x =>
    x = { s.dev with
      regs := x.regs, uhf := x.uhf, gov := x.gov, coexA := x.coexA, coexB := x.coexB, windows := x.windows, time := x.time
      attic := x.attic, freeCtr := x.freeCtr, chans := x.chans } ∧
    x.attic = { s.dev.attic with count := x.attic.count } ∧ ((∀ n r, c ≠ .uhfReplyEnd n r) → x.chans = s.dev.chans) ∧
    ∀ a, a < 0x400 ∨ (0x700 ≤ a ∧ a < 0xD00) ∨ 0xE00 ≤ a → x.reg a = s.dev.reg a

/-- What the rows of an HF exchange leave alone: the UHF chains, the Cellar, the Vault, the tables, the log, the channels but for a
session that begins or ends, and every register outside their own windows but for the count of events dropped; the waiting steps are then
looked at. -/
def Obligations.HfFrames : Prop :=
  ∀ (s : State) (c : Instr), s.dev.phase = .running → s.dev.chainsInRange → hfRow c = true → completes c s fun x => ∃ e : Dev,
    x = (match c with
      | .sofAcquired _ _ | .couplingTrackUpdate .. => e
      | _ => e.settle) ∧
    e = { s.dev with regs := e.regs, hf := e.hf, host := e.host, time := e.time, attic := e.attic, chans := e.chans } ∧
    e.host = { s.dev.host with ring := e.host.ring, dropped := e.host.dropped } ∧
    e.attic = { s.dev.attic with count := e.attic.count } ∧
    e.chans.map (fun y => (y.1, { y.2 with session := none })) = s.dev.chans.map (fun y => (y.1, { y.2 with session := none })) ∧
    ∀ a, a ≠ R.HOST_EVT_STAT → a < 0x200 ∨ 0x400 ≤ a → e.reg a = s.dev.reg a
end

