-- ==== Sys2Proof/Laws/Maps.lean ====
section
/-!
SUPPORT. The laws of the sparse maps, of fields within a word and of tables: reading after writing, and the canonical form kept by
every operation.
-/

namespace Sys2Proof.Machine

open Sys2Proof

/-! ### Sparse maps -/

/-- Addresses strictly rise above a bound. -/
def risesAbove {α : Type} (b : Nat) : List (Nat × α) → Prop
  | [] => True
  | (k, _) :: t => b < k ∧ risesAbove k t

theorem risesAbove_mono {α : Type} {b b' : Nat} (h : b' ≤ b) {m : List (Nat × α)} (hm : risesAbove b m) : risesAbove b' m := by
  cases m with
  | nil => trivial
  | cons x t => exact ⟨Nat.lt_of_le_of_lt h hm.1, hm.2⟩

theorem risesAbove_filter {α : Type} {p : Nat × α → Bool} : ∀ {m : List (Nat × α)} {b : Nat}, risesAbove b m → risesAbove b (m.filter p)
  | [], _, _ => trivial
  | y :: u, b, hb => by
    rw [List.filter_cons]
    split
    · exact ⟨hb.1, risesAbove_filter hb.2⟩
    · exact risesAbove_filter (risesAbove_mono (Nat.le_of_lt hb.1) hb.2)

section
variable {α : Type} [DecidableEq α] {d : α}

/-- The canonical form, one entry at a time. -/
theorem mapWf_cons {k : Nat} {v : α} {t : List (Nat × α)} :
    mapWf d ((k, v) :: t) = true ↔ v ≠ d ∧ risesAbove k t ∧ mapWf d t = true := by
  induction t generalizing k v with
  | nil => simp [mapWf, risesAbove]
  | cons x t ih =>
    obtain ⟨k', v'⟩ := x
    simp only [mapWf, Bool.and_eq_true, decide_eq_true_eq, risesAbove]
    constructor
    · rintro ⟨⟨hv, hk⟩, ht⟩
      exact ⟨hv, ⟨hk, (ih.1 ht).2.1⟩, ht⟩
    · rintro ⟨hv, ⟨hk, _⟩, ht⟩
      exact ⟨⟨hv, hk⟩, ht⟩

/-- The address written reads as what was written, whatever the map. -/
@[simp] theorem mapGet_mapSet_self {a : Nat} {v : α} : ∀ {m : List (Nat × α)}, mapGet d (mapSet d m a v) a = v
  | [] => by
    simp only [mapSet]
    split <;> simp [mapGet, *]
  | (k, x) :: t => by
    simp only [mapSet]
    split
    · split
      · exact mapGet_mapSet_self
      · simp [mapGet]
    · split
      · simp [mapGet]
      · simp only [mapGet, if_neg (fun h : k = a => ‹¬a = k› h.symm)]
        exact mapGet_mapSet_self

/-- Every other address reads as before, whatever the map. -/
theorem mapGet_mapSet_other {a b : Nat} {v : α} (h : b ≠ a) :
    ∀ {m : List (Nat × α)}, mapGet d (mapSet d m a v) b = mapGet d m b
  | [] => by
    simp only [mapSet]
    split <;> simp [mapGet, Ne.symm h]
  | (k, x) :: t => by
    simp only [mapSet]
    split
    · have hk : ¬ k = b := fun e => h (by rw [← e, ‹a = k›])
      split
      · simp only [mapGet, if_neg hk]
        exact mapGet_mapSet_other h
      · simp [mapGet, Ne.symm h, hk]
    · split
      · simp [mapGet, Ne.symm h]
      · simp only [mapGet]
        rw [mapGet_mapSet_other h]

theorem mapSet_risesAbove {b a : Nat} {v : α} : ∀ {m : List (Nat × α)}, risesAbove b m → b < a → risesAbove b (mapSet d m a v)
  | [], _, h => by
    simp only [mapSet]
    split
    · trivial
    · exact ⟨h, trivial⟩
  | (k, x) :: t, hm, h => by
    simp only [mapSet]
    split
    · split
      · exact mapSet_risesAbove (risesAbove_mono (Nat.le_of_lt hm.1) hm.2) h
      · exact ⟨h, by subst a; exact hm.2⟩
    · split
      · have ha : a < k ∧ v ≠ d := by simpa using ‹(decide (a < k) && v != d) = true›
        exact ⟨h, ha.1, hm.2⟩
      · refine ⟨hm.1, ?_⟩
        by_cases hka : k < a
        · exact mapSet_risesAbove hm.2 hka
        · have hlt : a < k := by omega
          have hv : v = d := by simpa [hlt] using ‹¬(decide (a < k) && v != d) = true›
          subst hv
          exact mapSet_default_risesAbove hm.2
where
  mapSet_default_risesAbove {b a : Nat} {d : α} : ∀ {m : List (Nat × α)}, risesAbove b m → risesAbove b (mapSet d m a d)
    | [], _ => by simp [mapSet, risesAbove]
    | (k, x) :: t, hm => by
      simp only [mapSet, bne_self_eq_false, Bool.and_false, Bool.false_eq_true, if_false, if_true]
      split
      · exact mapSet_default_risesAbove (risesAbove_mono (Nat.le_of_lt hm.1) hm.2)
      · exact ⟨hm.1, mapSet_default_risesAbove hm.2⟩

/-- Writing keeps the canonical form. -/
theorem mapSet_wf {a : Nat} {v : α} : ∀ {m : List (Nat × α)}, mapWf d m = true → mapWf d (mapSet d m a v) = true
  | [], _ => by
    simp only [mapSet]
    split
    · rfl
    · simpa [mapWf]
  | (k, x) :: t, hm => by
    have ⟨hx, hr, ht⟩ := mapWf_cons.1 hm
    simp only [mapSet]
    split
    · split
      · exact mapSet_wf ht
      · exact mapWf_cons.2 ⟨‹_›, by subst a; exact hr, ht⟩
    · split
      · have ha : a < k ∧ v ≠ d := by simpa using ‹(decide (a < k) && v != d) = true›
        exact mapWf_cons.2 ⟨ha.2, ⟨ha.1, hr⟩, hm⟩
      · refine mapWf_cons.2 ⟨hx, ?_, mapSet_wf ht⟩
        by_cases hka : k < a
        · exact mapSet_risesAbove hr hka
        · have hlt : a < k := by omega
          have hv : v = d := by simpa [hlt] using ‹¬(decide (a < k) && v != d) = true›
          subst hv
          exact mapSet_risesAbove.mapSet_default_risesAbove hr

theorem mapWf_filter {p : Nat × α → Bool} : ∀ {m : List (Nat × α)}, mapWf d m = true → mapWf d (m.filter p) = true
  | [], _ => rfl
  | (k, v) :: t, hm => by
    have ⟨hv, hr, ht⟩ := mapWf_cons.1 hm
    rw [List.filter_cons]
    split
    · exact mapWf_cons.2 ⟨hv, risesAbove_filter hr, mapWf_filter ht⟩
    · exact mapWf_filter ht

end

/-! ### Flash memories -/

theorem Mem.write_wf {m : Mem} {a : Nat} {b : Byte} (h : Mem.wf m = true) : Mem.wf (Mem.write m a b) = true := mapSet_wf h

theorem Mem.writeN_wf : ∀ {bs : Bytes} {m : Mem} {a : Nat}, Mem.wf m = true → Mem.wf (Mem.writeN m a bs) = true
  | [], _, _, h => h
  | b :: bs, m, a, h => by
    rw [Mem.writeN]
    exact Mem.writeN_wf (Mem.write_wf h)

theorem Mem.erase_wf {m : Mem} {a n : Nat} (h : Mem.wf m = true) : Mem.wf (Mem.erase m a n) = true := mapWf_filter h

@[simp] theorem Mem.read_write_self {m : Mem} {a : Nat} {b : Byte} : Mem.read (Mem.write m a b) a = b := mapGet_mapSet_self

theorem Mem.read_write_other {m : Mem} {a c : Nat} {b : Byte} (h : c ≠ a) : Mem.read (Mem.write m a b) c = Mem.read m c :=
  mapGet_mapSet_other h

/-! ### Register words and fields -/

@[simp] theorem RegMap.get_set_self {m : RegMap} {a : Nat} {v : Word} : RegMap.get (RegMap.set m a v) a = v := mapGet_mapSet_self

theorem RegMap.get_set_other {m : RegMap} {a b : Nat} {v : Word} (h : b ≠ a) : RegMap.get (RegMap.set m a v) b = RegMap.get m b :=
  mapGet_mapSet_other h

theorem RegMap.set_wf {m : RegMap} {a : Nat} {v : Word} (h : RegMap.wf m = true) : RegMap.wf (RegMap.set m a v) = true :=
  mapSet_wf h

/-- Bit `i` of a field's mask. -/
theorem testBit_fieldMask {n i : Nat} : ((2 ^ n - 1 : Nat)).testBit i = decide (i < n) := Nat.testBit_two_pow_sub_one n i

/-- Bit `i` of a word with a field replaced. -/
theorem putBits_getLsbD {w : Word} {hi lo v i : Nat} (h : i < 32) :
    (putBits w hi lo v).getLsbD i =
      if lo ≤ i ∧ i < lo + (hi + 1 - lo) then v.testBit (i - lo) else w.getLsbD i := by
  simp only [putBits, maskOf, BitVec.getLsbD_or, BitVec.getLsbD_and, BitVec.getLsbD_not, BitVec.getLsbD_ofNat, h,
    decide_true, Bool.true_and, Nat.testBit_shiftLeft, Nat.testBit_mod_two_pow, Nat.testBit_two_pow_sub_one]
  by_cases hl : lo ≤ i
  · by_cases hh : i < lo + (hi + 1 - lo)
    · have h1 : i - lo < hi + 1 - lo := by omega
      simp [hl, h1, hh]
    · have h1 : ¬ i - lo < hi + 1 - lo := by omega
      simp [hl, h1, hh]
  · simp [hl]

/-- A field written reads as what was written, cut to its width. -/
theorem bitsOf_putBits_self {w : Word} {hi lo v : Nat} (h : hi < 32) : bitsOf (putBits w hi lo v) hi lo = v % 2 ^ (hi + 1 - lo) := by
  apply Nat.eq_of_testBit_eq
  intro i
  simp only [bitsOf, Nat.testBit_mod_two_pow, Nat.testBit_shiftRight]
  by_cases hi' : i < hi + 1 - lo
  · have hb : lo + i < 32 := by omega
    have := putBits_getLsbD (w := w) (hi := hi) (lo := lo) (v := v) hb
    rw [BitVec.getLsbD] at this
    rw [this]
    have h1 : lo + i < lo + (hi + 1 - lo) := by omega
    simp [hi', h1]
  · simp [hi']

/-- A field that shares no bit with the one written reads as before. -/
theorem bitsOf_putBits_other {w : Word} {hi lo v hi' lo' : Nat} (h : hi' < lo ∨ hi < lo') (h32 : hi' < 32) :
    bitsOf (putBits w hi lo v) hi' lo' = bitsOf w hi' lo' := by
  apply Nat.eq_of_testBit_eq
  intro i
  simp only [bitsOf, Nat.testBit_mod_two_pow, Nat.testBit_shiftRight]
  by_cases hi' : i < hi' + 1 - lo'
  · have hb : lo' + i < 32 := by omega
    have := putBits_getLsbD (w := w) (hi := hi) (lo := lo) (v := v) hb
    rw [BitVec.getLsbD] at this
    rw [this]
    have h1 : ¬ (lo ≤ lo' + i ∧ lo' + i < lo + (hi + 1 - lo)) := by omega
    rw [if_neg h1]
    rfl
  · simp [hi']

@[simp] theorem RegMap.fld_setFld_self {m : RegMap} {f : Fld} {v : Nat} (h : f.hi < 32) :
    RegMap.fld (RegMap.setFld m f v) f = v % 2 ^ (f.hi + 1 - f.lo) := by
  simp [RegMap.fld, RegMap.setFld, bitsOf_putBits_self h]

/-- Another field, of another register or of other bits, reads as before. -/
theorem RegMap.fld_setFld_other {m : RegMap} {f g : Fld} {v : Nat} (h : g.addr ≠ f.addr ∨ g.hi < f.lo ∨ f.hi < g.lo)
    (hg : g.hi < 32) : RegMap.fld (RegMap.setFld m f v) g = RegMap.fld m g := by
  by_cases ha : g.addr = f.addr
  · have hb : g.hi < f.lo ∨ f.hi < g.lo := by simpa [ha] using h
    simp only [RegMap.fld, RegMap.setFld, ha, RegMap.get_set_self]
    exact bitsOf_putBits_other hb hg
  · simp only [RegMap.fld, RegMap.setFld, RegMap.get_set_other ha]

/-! ### Tables -/

theorem tableSet_length {α : Type} {n i : Nat} {e x : α} {l : List α} : (tableSet n e l i x).length = n := by simp [tableSet]

theorem tableSet_getD_self {α : Type} {n i : Nat} {e x : α} {l : List α} (h : i < n) : (tableSet n e l i x).getD i e = x := by
  simp [tableSet, h]

theorem tableSet_getD_other {α : Type} {n i j : Nat} {e x : α} {l : List α} (h : j < n) (hj : j ≠ i) :
    (tableSet n e l i x).getD j e = l.getD j e := by
  simp [tableSet, h, hj]

end Sys2Proof.Machine
end

