-- ==== Sys2Proof/Laws/State.lean ====
section
/-!
SUPPORT. The small lemmas of the state: what each update of `State` and `Dev` leaves alone, field by field, and what it writes.
-/

namespace Sys2Proof.Machine

open Sys2Proof

/-! ### State -/

@[simp] theorem State.withDev_dev (s : State) (d : Dev) : (s.withDev d).dev = d := rfl
@[simp] theorem State.withDev_nor (s : State) (d : Dev) : (s.withDev d).nor = s.nor := rfl
@[simp] theorem State.withDev_fuses (s : State) (d : Dev) : (s.withDev d).fuses = s.fuses := rfl
@[simp] theorem State.withDev_pending (s : State) (d : Dev) : (s.withDev d).pending = s.pending := rfl
@[simp] theorem State.onDev_eq (s : State) (f : Dev → Dev) : s.onDev f = .next (s.withDev (f s.dev)) := rfl

/-- A meaning of a running device runs where the device is live, and changes nothing elsewhere. -/
theorem State.onLive_live {s : State} {f : Dev → Dev} (h : s.dev.live = true) : s.onLive f = .next (s.withDev (f s.dev)) := by
  simp [State.onLive, h]

theorem State.onLive_idle {s : State} {f : Dev → Dev} (h : s.dev.live = false) : s.onLive f = .next s := by
  simp [State.onLive, h, State.withDev]

/-- A register write is carried out while the device runs and after a power-loss flush. -/
theorem State.onHost_on {s : State} {f : Dev → Dev} (h : s.dev.takesWrites = true) :
    s.onHost f = .next (s.withDev (f s.dev)) := by
  simp only [State.onHost, State.onDev_eq, h, if_true]

/-! ### Registers and fields -/

@[simp] theorem Dev.reg_setReg (d : Dev) (a : Nat) (v : Word) : (d.setReg a v).reg a = v := by simp [Dev.reg, Dev.setReg]

theorem Dev.reg_setReg_other {d : Dev} {a b : Nat} {v : Word} (h : b ≠ a) : (d.setReg a v).reg b = d.reg b := by
  simp [Dev.reg, Dev.setReg, RegMap.get_set_other h]

theorem Dev.fld_setFld {d : Dev} {f : Fld} {v : Nat} (h : f.hi < 32) : (d.setFld f v).fld f = v % 2 ^ (f.hi + 1 - f.lo) := by
  simp [Dev.fld, Dev.setFld, RegMap.fld_setFld_self h]

theorem Dev.fld_setFld_other {d : Dev} {f g : Fld} {v : Nat} (h : g.addr ≠ f.addr ∨ g.hi < f.lo ∨ f.hi < g.lo) (hg : g.hi < 32) :
    (d.setFld f v).fld g = d.fld g := by
  simp [Dev.fld, Dev.setFld, RegMap.fld_setFld_other h hg]

theorem Dev.reg_setFld_other {d : Dev} {f : Fld} {v b : Nat} (h : b ≠ f.addr) : (d.setFld f v).reg b = d.reg b := by
  simp [Dev.reg, Dev.setFld, RegMap.setFld, RegMap.get_set_other h]

theorem Dev.flag_setFlag {d : Dev} {f : Fld} {b : Bool} (h : f.hi = f.lo) (h32 : f.hi < 32) : (d.setFlag f b).flag f = b := by
  have hw : f.hi + 1 - f.lo = 1 := by omega
  cases b <;> simp [Dev.flag, Dev.setFlag, Dev.fld_setFld h32, hw, b2n]

theorem Dev.hfc_onHf {d : Dev} {n : Nat} {f : HfChain → HfChain} (h : n < 4) : (d.onHf n f).hfc n = f (d.hfc n) :=
  tableSet_getD_self h

theorem Dev.hfc_onHf_other {d : Dev} {n m : Nat} {f : HfChain → HfChain} (h : m < 4) (hm : m ≠ n) : (d.onHf n f).hfc m = d.hfc m :=
  tableSet_getD_other h hm

theorem Dev.uhfc_onUhf {d : Dev} {n : Nat} {f : UhfChain → UhfChain} (h : n < 2) : (d.onUhf n f).uhfc n = f (d.uhfc n) :=
  tableSet_getD_self h

theorem Dev.uhfc_onUhf_other {d : Dev} {n m : Nat} {f : UhfChain → UhfChain} (h : m < 2) (hm : m ≠ n) :
    (d.onUhf n f).uhfc m = d.uhfc m :=
  tableSet_getD_other h hm

/-! ### What an update leaves alone -/

@[simp] theorem Dev.setReg_shadow (d : Dev) (a : Nat) (v : Word) : (d.setReg a v).shadow = d.shadow := rfl
@[simp] theorem Dev.setReg_cs (d : Dev) (a : Nat) (v : Word) : (d.setReg a v).cs = d.cs := rfl
@[simp] theorem Dev.setReg_phase (d : Dev) (a : Nat) (v : Word) : (d.setReg a v).phase = d.phase := rfl
@[simp] theorem Dev.setReg_boots (d : Dev) (a : Nat) (v : Word) : (d.setReg a v).boots = d.boots := rfl
@[simp] theorem Dev.setReg_strap (d : Dev) (a : Nat) (v : Word) : (d.setReg a v).strap = d.strap := rfl
@[simp] theorem Dev.setReg_time (d : Dev) (a : Nat) (v : Word) : (d.setReg a v).time = d.time := rfl
@[simp] theorem Dev.setReg_freeCtr (d : Dev) (a : Nat) (v : Word) : (d.setReg a v).freeCtr = d.freeCtr := rfl
@[simp] theorem Dev.setReg_causes (d : Dev) (a : Nat) (v : Word) : (d.setReg a v).causes = d.causes := rfl
@[simp] theorem Dev.setReg_rejected (d : Dev) (a : Nat) (v : Word) : (d.setReg a v).rejected = d.rejected := rfl
@[simp] theorem Dev.setReg_stalled (d : Dev) (a : Nat) (v : Word) : (d.setReg a v).stalled = d.stalled := rfl
@[simp] theorem Dev.setReg_bootAt (d : Dev) (a : Nat) (v : Word) : (d.setReg a v).bootAt = d.bootAt := rfl
@[simp] theorem Dev.setReg_wdogFrom (d : Dev) (a : Nat) (v : Word) : (d.setReg a v).wdogFrom = d.wdogFrom := rfl
@[simp] theorem Dev.setReg_inUse (d : Dev) (a : Nat) (v : Word) : (d.setReg a v).inUse = d.inUse := rfl
@[simp] theorem Dev.setReg_pgood (d : Dev) (a : Nat) (v : Word) : (d.setReg a v).pgood = d.pgood := rfl
@[simp] theorem Dev.setReg_resetN (d : Dev) (a : Nat) (v : Word) : (d.setReg a v).resetN = d.resetN := rfl
@[simp] theorem Dev.setReg_pfail (d : Dev) (a : Nat) (v : Word) : (d.setReg a v).pfail = d.pfail := rfl
@[simp] theorem Dev.setReg_pfailAt (d : Dev) (a : Nat) (v : Word) : (d.setReg a v).pfailAt = d.pfailAt := rfl
@[simp] theorem Dev.setReg_vddioA (d : Dev) (a : Nat) (v : Word) : (d.setReg a v).vddioA = d.vddioA := rfl
@[simp] theorem Dev.setReg_vddioB (d : Dev) (a : Nat) (v : Word) : (d.setReg a v).vddioB = d.vddioB := rfl
@[simp] theorem Dev.setReg_refout (d : Dev) (a : Nat) (v : Word) : (d.setReg a v).refout = d.refout := rfl
@[simp] theorem Dev.setReg_seqWdogAt (d : Dev) (a : Nat) (v : Word) : (d.setReg a v).seqWdogAt = d.seqWdogAt := rfl
@[simp] theorem Dev.setReg_host (d : Dev) (a : Nat) (v : Word) : (d.setReg a v).host = d.host := rfl
@[simp] theorem Dev.setReg_checks (d : Dev) (a : Nat) (v : Word) : (d.setReg a v).checks = d.checks := rfl
@[simp] theorem Dev.setReg_applying (d : Dev) (a : Nat) (v : Word) : (d.setReg a v).applying = d.applying := rfl
@[simp] theorem Dev.setReg_trans (d : Dev) (a : Nat) (v : Word) : (d.setReg a v).trans = d.trans := rfl
@[simp] theorem Dev.setReg_jrn (d : Dev) (a : Nat) (v : Word) : (d.setReg a v).jrn = d.jrn := rfl
@[simp] theorem Dev.setReg_vault (d : Dev) (a : Nat) (v : Word) : (d.setReg a v).vault = d.vault := rfl
@[simp] theorem Dev.setReg_attic (d : Dev) (a : Nat) (v : Word) : (d.setReg a v).attic = d.attic := rfl
@[simp] theorem Dev.setReg_flt (d : Dev) (a : Nat) (v : Word) : (d.setReg a v).flt = d.flt := rfl
@[simp] theorem Dev.setReg_fltNo (d : Dev) (a : Nat) (v : Word) : (d.setReg a v).fltNo = d.fltNo := rfl
@[simp] theorem Dev.setReg_chans (d : Dev) (a : Nat) (v : Word) : (d.setReg a v).chans = d.chans := rfl
@[simp] theorem Dev.setReg_gens (d : Dev) (a : Nat) (v : Word) : (d.setReg a v).gens = d.gens := rfl
@[simp] theorem Dev.setReg_orphan (d : Dev) (a : Nat) (v : Word) : (d.setReg a v).orphan = d.orphan := rfl
@[simp] theorem Dev.setReg_tables (d : Dev) (a : Nat) (v : Word) : (d.setReg a v).tables = d.tables := rfl
@[simp] theorem Dev.setReg_hf (d : Dev) (a : Nat) (v : Word) : (d.setReg a v).hf = d.hf := rfl
@[simp] theorem Dev.setReg_uhf (d : Dev) (a : Nat) (v : Word) : (d.setReg a v).uhf = d.uhf := rfl
@[simp] theorem Dev.setReg_gov (d : Dev) (a : Nat) (v : Word) : (d.setReg a v).gov = d.gov := rfl
@[simp] theorem Dev.setReg_coexA (d : Dev) (a : Nat) (v : Word) : (d.setReg a v).coexA = d.coexA := rfl
@[simp] theorem Dev.setReg_coexB (d : Dev) (a : Nat) (v : Word) : (d.setReg a v).coexB = d.coexB := rfl
@[simp] theorem Dev.setReg_windows (d : Dev) (a : Nat) (v : Word) : (d.setReg a v).windows = d.windows := rfl
@[simp] theorem Dev.setReg_strikes (d : Dev) (a : Nat) (v : Word) : (d.setReg a v).strikes = d.strikes := rfl
@[simp] theorem Dev.setReg_image (d : Dev) (a : Nat) (v : Word) : (d.setReg a v).image = d.image := rfl
@[simp] theorem Dev.setReg_recheck (d : Dev) (a : Nat) (v : Word) : (d.setReg a v).recheck = d.recheck := rfl
@[simp] theorem Dev.setReg_quota (d : Dev) (a : Nat) (v : Word) : (d.setReg a v).quota = d.quota := rfl
@[simp] theorem Dev.setReg_granted (d : Dev) (a : Nat) (v : Word) : (d.setReg a v).granted = d.granted := rfl
@[simp] theorem Dev.setReg_memq (d : Dev) (a : Nat) (v : Word) : (d.setReg a v).memq = d.memq := rfl

@[simp] theorem Dev.setFld_shadow (d : Dev) (f : Fld) (v : Nat) : (d.setFld f v).shadow = d.shadow := rfl
@[simp] theorem Dev.setFld_cs (d : Dev) (f : Fld) (v : Nat) : (d.setFld f v).cs = d.cs := rfl
@[simp] theorem Dev.setFld_phase (d : Dev) (f : Fld) (v : Nat) : (d.setFld f v).phase = d.phase := rfl
@[simp] theorem Dev.setFld_boots (d : Dev) (f : Fld) (v : Nat) : (d.setFld f v).boots = d.boots := rfl
@[simp] theorem Dev.setFld_strap (d : Dev) (f : Fld) (v : Nat) : (d.setFld f v).strap = d.strap := rfl
@[simp] theorem Dev.setFld_time (d : Dev) (f : Fld) (v : Nat) : (d.setFld f v).time = d.time := rfl
@[simp] theorem Dev.setFld_freeCtr (d : Dev) (f : Fld) (v : Nat) : (d.setFld f v).freeCtr = d.freeCtr := rfl
@[simp] theorem Dev.setFld_causes (d : Dev) (f : Fld) (v : Nat) : (d.setFld f v).causes = d.causes := rfl
@[simp] theorem Dev.setFld_rejected (d : Dev) (f : Fld) (v : Nat) : (d.setFld f v).rejected = d.rejected := rfl
@[simp] theorem Dev.setFld_stalled (d : Dev) (f : Fld) (v : Nat) : (d.setFld f v).stalled = d.stalled := rfl
@[simp] theorem Dev.setFld_bootAt (d : Dev) (f : Fld) (v : Nat) : (d.setFld f v).bootAt = d.bootAt := rfl
@[simp] theorem Dev.setFld_wdogFrom (d : Dev) (f : Fld) (v : Nat) : (d.setFld f v).wdogFrom = d.wdogFrom := rfl
@[simp] theorem Dev.setFld_inUse (d : Dev) (f : Fld) (v : Nat) : (d.setFld f v).inUse = d.inUse := rfl
@[simp] theorem Dev.setFld_pgood (d : Dev) (f : Fld) (v : Nat) : (d.setFld f v).pgood = d.pgood := rfl
@[simp] theorem Dev.setFld_resetN (d : Dev) (f : Fld) (v : Nat) : (d.setFld f v).resetN = d.resetN := rfl
@[simp] theorem Dev.setFld_pfail (d : Dev) (f : Fld) (v : Nat) : (d.setFld f v).pfail = d.pfail := rfl
@[simp] theorem Dev.setFld_pfailAt (d : Dev) (f : Fld) (v : Nat) : (d.setFld f v).pfailAt = d.pfailAt := rfl
@[simp] theorem Dev.setFld_vddioA (d : Dev) (f : Fld) (v : Nat) : (d.setFld f v).vddioA = d.vddioA := rfl
@[simp] theorem Dev.setFld_vddioB (d : Dev) (f : Fld) (v : Nat) : (d.setFld f v).vddioB = d.vddioB := rfl
@[simp] theorem Dev.setFld_refout (d : Dev) (f : Fld) (v : Nat) : (d.setFld f v).refout = d.refout := rfl
@[simp] theorem Dev.setFld_seqWdogAt (d : Dev) (f : Fld) (v : Nat) : (d.setFld f v).seqWdogAt = d.seqWdogAt := rfl
@[simp] theorem Dev.setFld_host (d : Dev) (f : Fld) (v : Nat) : (d.setFld f v).host = d.host := rfl
@[simp] theorem Dev.setFld_checks (d : Dev) (f : Fld) (v : Nat) : (d.setFld f v).checks = d.checks := rfl
@[simp] theorem Dev.setFld_applying (d : Dev) (f : Fld) (v : Nat) : (d.setFld f v).applying = d.applying := rfl
@[simp] theorem Dev.setFld_trans (d : Dev) (f : Fld) (v : Nat) : (d.setFld f v).trans = d.trans := rfl
@[simp] theorem Dev.setFld_jrn (d : Dev) (f : Fld) (v : Nat) : (d.setFld f v).jrn = d.jrn := rfl
@[simp] theorem Dev.setFld_vault (d : Dev) (f : Fld) (v : Nat) : (d.setFld f v).vault = d.vault := rfl
@[simp] theorem Dev.setFld_attic (d : Dev) (f : Fld) (v : Nat) : (d.setFld f v).attic = d.attic := rfl
@[simp] theorem Dev.setFld_flt (d : Dev) (f : Fld) (v : Nat) : (d.setFld f v).flt = d.flt := rfl
@[simp] theorem Dev.setFld_fltNo (d : Dev) (f : Fld) (v : Nat) : (d.setFld f v).fltNo = d.fltNo := rfl
@[simp] theorem Dev.setFld_chans (d : Dev) (f : Fld) (v : Nat) : (d.setFld f v).chans = d.chans := rfl
@[simp] theorem Dev.setFld_gens (d : Dev) (f : Fld) (v : Nat) : (d.setFld f v).gens = d.gens := rfl
@[simp] theorem Dev.setFld_orphan (d : Dev) (f : Fld) (v : Nat) : (d.setFld f v).orphan = d.orphan := rfl
@[simp] theorem Dev.setFld_tables (d : Dev) (f : Fld) (v : Nat) : (d.setFld f v).tables = d.tables := rfl
@[simp] theorem Dev.setFld_hf (d : Dev) (f : Fld) (v : Nat) : (d.setFld f v).hf = d.hf := rfl
@[simp] theorem Dev.setFld_uhf (d : Dev) (f : Fld) (v : Nat) : (d.setFld f v).uhf = d.uhf := rfl
@[simp] theorem Dev.setFld_gov (d : Dev) (f : Fld) (v : Nat) : (d.setFld f v).gov = d.gov := rfl
@[simp] theorem Dev.setFld_coexA (d : Dev) (f : Fld) (v : Nat) : (d.setFld f v).coexA = d.coexA := rfl
@[simp] theorem Dev.setFld_coexB (d : Dev) (f : Fld) (v : Nat) : (d.setFld f v).coexB = d.coexB := rfl
@[simp] theorem Dev.setFld_windows (d : Dev) (f : Fld) (v : Nat) : (d.setFld f v).windows = d.windows := rfl
@[simp] theorem Dev.setFld_strikes (d : Dev) (f : Fld) (v : Nat) : (d.setFld f v).strikes = d.strikes := rfl
@[simp] theorem Dev.setFld_image (d : Dev) (f : Fld) (v : Nat) : (d.setFld f v).image = d.image := rfl
@[simp] theorem Dev.setFld_recheck (d : Dev) (f : Fld) (v : Nat) : (d.setFld f v).recheck = d.recheck := rfl
@[simp] theorem Dev.setFld_quota (d : Dev) (f : Fld) (v : Nat) : (d.setFld f v).quota = d.quota := rfl
@[simp] theorem Dev.setFld_granted (d : Dev) (f : Fld) (v : Nat) : (d.setFld f v).granted = d.granted := rfl
@[simp] theorem Dev.setFld_memq (d : Dev) (f : Fld) (v : Nat) : (d.setFld f v).memq = d.memq := rfl

@[simp] theorem Dev.setFlag_shadow (d : Dev) (f : Fld) (b : Bool) : (d.setFlag f b).shadow = d.shadow := rfl
@[simp] theorem Dev.setFlag_cs (d : Dev) (f : Fld) (b : Bool) : (d.setFlag f b).cs = d.cs := rfl
@[simp] theorem Dev.setFlag_phase (d : Dev) (f : Fld) (b : Bool) : (d.setFlag f b).phase = d.phase := rfl
@[simp] theorem Dev.setFlag_boots (d : Dev) (f : Fld) (b : Bool) : (d.setFlag f b).boots = d.boots := rfl
@[simp] theorem Dev.setFlag_strap (d : Dev) (f : Fld) (b : Bool) : (d.setFlag f b).strap = d.strap := rfl
@[simp] theorem Dev.setFlag_time (d : Dev) (f : Fld) (b : Bool) : (d.setFlag f b).time = d.time := rfl
@[simp] theorem Dev.setFlag_freeCtr (d : Dev) (f : Fld) (b : Bool) : (d.setFlag f b).freeCtr = d.freeCtr := rfl
@[simp] theorem Dev.setFlag_causes (d : Dev) (f : Fld) (b : Bool) : (d.setFlag f b).causes = d.causes := rfl
@[simp] theorem Dev.setFlag_rejected (d : Dev) (f : Fld) (b : Bool) : (d.setFlag f b).rejected = d.rejected := rfl
@[simp] theorem Dev.setFlag_stalled (d : Dev) (f : Fld) (b : Bool) : (d.setFlag f b).stalled = d.stalled := rfl
@[simp] theorem Dev.setFlag_bootAt (d : Dev) (f : Fld) (b : Bool) : (d.setFlag f b).bootAt = d.bootAt := rfl
@[simp] theorem Dev.setFlag_wdogFrom (d : Dev) (f : Fld) (b : Bool) : (d.setFlag f b).wdogFrom = d.wdogFrom := rfl
@[simp] theorem Dev.setFlag_inUse (d : Dev) (f : Fld) (b : Bool) : (d.setFlag f b).inUse = d.inUse := rfl
@[simp] theorem Dev.setFlag_pgood (d : Dev) (f : Fld) (b : Bool) : (d.setFlag f b).pgood = d.pgood := rfl
@[simp] theorem Dev.setFlag_resetN (d : Dev) (f : Fld) (b : Bool) : (d.setFlag f b).resetN = d.resetN := rfl
@[simp] theorem Dev.setFlag_pfail (d : Dev) (f : Fld) (b : Bool) : (d.setFlag f b).pfail = d.pfail := rfl
@[simp] theorem Dev.setFlag_pfailAt (d : Dev) (f : Fld) (b : Bool) : (d.setFlag f b).pfailAt = d.pfailAt := rfl
@[simp] theorem Dev.setFlag_vddioA (d : Dev) (f : Fld) (b : Bool) : (d.setFlag f b).vddioA = d.vddioA := rfl
@[simp] theorem Dev.setFlag_vddioB (d : Dev) (f : Fld) (b : Bool) : (d.setFlag f b).vddioB = d.vddioB := rfl
@[simp] theorem Dev.setFlag_refout (d : Dev) (f : Fld) (b : Bool) : (d.setFlag f b).refout = d.refout := rfl
@[simp] theorem Dev.setFlag_seqWdogAt (d : Dev) (f : Fld) (b : Bool) : (d.setFlag f b).seqWdogAt = d.seqWdogAt := rfl
@[simp] theorem Dev.setFlag_host (d : Dev) (f : Fld) (b : Bool) : (d.setFlag f b).host = d.host := rfl
@[simp] theorem Dev.setFlag_checks (d : Dev) (f : Fld) (b : Bool) : (d.setFlag f b).checks = d.checks := rfl
@[simp] theorem Dev.setFlag_applying (d : Dev) (f : Fld) (b : Bool) : (d.setFlag f b).applying = d.applying := rfl
@[simp] theorem Dev.setFlag_trans (d : Dev) (f : Fld) (b : Bool) : (d.setFlag f b).trans = d.trans := rfl
@[simp] theorem Dev.setFlag_jrn (d : Dev) (f : Fld) (b : Bool) : (d.setFlag f b).jrn = d.jrn := rfl
@[simp] theorem Dev.setFlag_vault (d : Dev) (f : Fld) (b : Bool) : (d.setFlag f b).vault = d.vault := rfl
@[simp] theorem Dev.setFlag_attic (d : Dev) (f : Fld) (b : Bool) : (d.setFlag f b).attic = d.attic := rfl
@[simp] theorem Dev.setFlag_flt (d : Dev) (f : Fld) (b : Bool) : (d.setFlag f b).flt = d.flt := rfl
@[simp] theorem Dev.setFlag_fltNo (d : Dev) (f : Fld) (b : Bool) : (d.setFlag f b).fltNo = d.fltNo := rfl
@[simp] theorem Dev.setFlag_chans (d : Dev) (f : Fld) (b : Bool) : (d.setFlag f b).chans = d.chans := rfl
@[simp] theorem Dev.setFlag_gens (d : Dev) (f : Fld) (b : Bool) : (d.setFlag f b).gens = d.gens := rfl
@[simp] theorem Dev.setFlag_orphan (d : Dev) (f : Fld) (b : Bool) : (d.setFlag f b).orphan = d.orphan := rfl
@[simp] theorem Dev.setFlag_tables (d : Dev) (f : Fld) (b : Bool) : (d.setFlag f b).tables = d.tables := rfl
@[simp] theorem Dev.setFlag_hf (d : Dev) (f : Fld) (b : Bool) : (d.setFlag f b).hf = d.hf := rfl
@[simp] theorem Dev.setFlag_uhf (d : Dev) (f : Fld) (b : Bool) : (d.setFlag f b).uhf = d.uhf := rfl
@[simp] theorem Dev.setFlag_gov (d : Dev) (f : Fld) (b : Bool) : (d.setFlag f b).gov = d.gov := rfl
@[simp] theorem Dev.setFlag_coexA (d : Dev) (f : Fld) (b : Bool) : (d.setFlag f b).coexA = d.coexA := rfl
@[simp] theorem Dev.setFlag_coexB (d : Dev) (f : Fld) (b : Bool) : (d.setFlag f b).coexB = d.coexB := rfl
@[simp] theorem Dev.setFlag_windows (d : Dev) (f : Fld) (b : Bool) : (d.setFlag f b).windows = d.windows := rfl
@[simp] theorem Dev.setFlag_strikes (d : Dev) (f : Fld) (b : Bool) : (d.setFlag f b).strikes = d.strikes := rfl
@[simp] theorem Dev.setFlag_image (d : Dev) (f : Fld) (b : Bool) : (d.setFlag f b).image = d.image := rfl
@[simp] theorem Dev.setFlag_recheck (d : Dev) (f : Fld) (b : Bool) : (d.setFlag f b).recheck = d.recheck := rfl
@[simp] theorem Dev.setFlag_quota (d : Dev) (f : Fld) (b : Bool) : (d.setFlag f b).quota = d.quota := rfl
@[simp] theorem Dev.setFlag_granted (d : Dev) (f : Fld) (b : Bool) : (d.setFlag f b).granted = d.granted := rfl
@[simp] theorem Dev.setFlag_memq (d : Dev) (f : Fld) (b : Bool) : (d.setFlag f b).memq = d.memq := rfl

@[simp] theorem Dev.setCs_regs (d : Dev) (k v : Nat) : (d.setCs k v).regs = d.regs := rfl
@[simp] theorem Dev.setCs_shadow (d : Dev) (k v : Nat) : (d.setCs k v).shadow = d.shadow := rfl
@[simp] theorem Dev.setCs_phase (d : Dev) (k v : Nat) : (d.setCs k v).phase = d.phase := rfl
@[simp] theorem Dev.setCs_boots (d : Dev) (k v : Nat) : (d.setCs k v).boots = d.boots := rfl
@[simp] theorem Dev.setCs_strap (d : Dev) (k v : Nat) : (d.setCs k v).strap = d.strap := rfl
@[simp] theorem Dev.setCs_time (d : Dev) (k v : Nat) : (d.setCs k v).time = d.time := rfl
@[simp] theorem Dev.setCs_freeCtr (d : Dev) (k v : Nat) : (d.setCs k v).freeCtr = d.freeCtr := rfl
@[simp] theorem Dev.setCs_causes (d : Dev) (k v : Nat) : (d.setCs k v).causes = d.causes := rfl
@[simp] theorem Dev.setCs_rejected (d : Dev) (k v : Nat) : (d.setCs k v).rejected = d.rejected := rfl
@[simp] theorem Dev.setCs_stalled (d : Dev) (k v : Nat) : (d.setCs k v).stalled = d.stalled := rfl
@[simp] theorem Dev.setCs_bootAt (d : Dev) (k v : Nat) : (d.setCs k v).bootAt = d.bootAt := rfl
@[simp] theorem Dev.setCs_wdogFrom (d : Dev) (k v : Nat) : (d.setCs k v).wdogFrom = d.wdogFrom := rfl
@[simp] theorem Dev.setCs_inUse (d : Dev) (k v : Nat) : (d.setCs k v).inUse = d.inUse := rfl
@[simp] theorem Dev.setCs_pgood (d : Dev) (k v : Nat) : (d.setCs k v).pgood = d.pgood := rfl
@[simp] theorem Dev.setCs_resetN (d : Dev) (k v : Nat) : (d.setCs k v).resetN = d.resetN := rfl
@[simp] theorem Dev.setCs_pfail (d : Dev) (k v : Nat) : (d.setCs k v).pfail = d.pfail := rfl
@[simp] theorem Dev.setCs_pfailAt (d : Dev) (k v : Nat) : (d.setCs k v).pfailAt = d.pfailAt := rfl
@[simp] theorem Dev.setCs_vddioA (d : Dev) (k v : Nat) : (d.setCs k v).vddioA = d.vddioA := rfl
@[simp] theorem Dev.setCs_vddioB (d : Dev) (k v : Nat) : (d.setCs k v).vddioB = d.vddioB := rfl
@[simp] theorem Dev.setCs_refout (d : Dev) (k v : Nat) : (d.setCs k v).refout = d.refout := rfl
@[simp] theorem Dev.setCs_seqWdogAt (d : Dev) (k v : Nat) : (d.setCs k v).seqWdogAt = d.seqWdogAt := rfl
@[simp] theorem Dev.setCs_host (d : Dev) (k v : Nat) : (d.setCs k v).host = d.host := rfl
@[simp] theorem Dev.setCs_checks (d : Dev) (k v : Nat) : (d.setCs k v).checks = d.checks := rfl
@[simp] theorem Dev.setCs_applying (d : Dev) (k v : Nat) : (d.setCs k v).applying = d.applying := rfl
@[simp] theorem Dev.setCs_trans (d : Dev) (k v : Nat) : (d.setCs k v).trans = d.trans := rfl
@[simp] theorem Dev.setCs_jrn (d : Dev) (k v : Nat) : (d.setCs k v).jrn = d.jrn := rfl
@[simp] theorem Dev.setCs_vault (d : Dev) (k v : Nat) : (d.setCs k v).vault = d.vault := rfl
@[simp] theorem Dev.setCs_attic (d : Dev) (k v : Nat) : (d.setCs k v).attic = d.attic := rfl
@[simp] theorem Dev.setCs_flt (d : Dev) (k v : Nat) : (d.setCs k v).flt = d.flt := rfl
@[simp] theorem Dev.setCs_fltNo (d : Dev) (k v : Nat) : (d.setCs k v).fltNo = d.fltNo := rfl
@[simp] theorem Dev.setCs_chans (d : Dev) (k v : Nat) : (d.setCs k v).chans = d.chans := rfl
@[simp] theorem Dev.setCs_gens (d : Dev) (k v : Nat) : (d.setCs k v).gens = d.gens := rfl
@[simp] theorem Dev.setCs_orphan (d : Dev) (k v : Nat) : (d.setCs k v).orphan = d.orphan := rfl
@[simp] theorem Dev.setCs_tables (d : Dev) (k v : Nat) : (d.setCs k v).tables = d.tables := rfl
@[simp] theorem Dev.setCs_hf (d : Dev) (k v : Nat) : (d.setCs k v).hf = d.hf := rfl
@[simp] theorem Dev.setCs_uhf (d : Dev) (k v : Nat) : (d.setCs k v).uhf = d.uhf := rfl
@[simp] theorem Dev.setCs_gov (d : Dev) (k v : Nat) : (d.setCs k v).gov = d.gov := rfl
@[simp] theorem Dev.setCs_coexA (d : Dev) (k v : Nat) : (d.setCs k v).coexA = d.coexA := rfl
@[simp] theorem Dev.setCs_coexB (d : Dev) (k v : Nat) : (d.setCs k v).coexB = d.coexB := rfl
@[simp] theorem Dev.setCs_windows (d : Dev) (k v : Nat) : (d.setCs k v).windows = d.windows := rfl
@[simp] theorem Dev.setCs_strikes (d : Dev) (k v : Nat) : (d.setCs k v).strikes = d.strikes := rfl
@[simp] theorem Dev.setCs_image (d : Dev) (k v : Nat) : (d.setCs k v).image = d.image := rfl
@[simp] theorem Dev.setCs_recheck (d : Dev) (k v : Nat) : (d.setCs k v).recheck = d.recheck := rfl
@[simp] theorem Dev.setCs_quota (d : Dev) (k v : Nat) : (d.setCs k v).quota = d.quota := rfl
@[simp] theorem Dev.setCs_granted (d : Dev) (k v : Nat) : (d.setCs k v).granted = d.granted := rfl
@[simp] theorem Dev.setCs_memq (d : Dev) (k v : Nat) : (d.setCs k v).memq = d.memq := rfl

@[simp] theorem Dev.onHf_regs (d : Dev) (n : Nat) (f : HfChain → HfChain) : (d.onHf n f).regs = d.regs := rfl
@[simp] theorem Dev.onHf_shadow (d : Dev) (n : Nat) (f : HfChain → HfChain) : (d.onHf n f).shadow = d.shadow := rfl
@[simp] theorem Dev.onHf_cs (d : Dev) (n : Nat) (f : HfChain → HfChain) : (d.onHf n f).cs = d.cs := rfl
@[simp] theorem Dev.onHf_phase (d : Dev) (n : Nat) (f : HfChain → HfChain) : (d.onHf n f).phase = d.phase := rfl
@[simp] theorem Dev.onHf_boots (d : Dev) (n : Nat) (f : HfChain → HfChain) : (d.onHf n f).boots = d.boots := rfl
@[simp] theorem Dev.onHf_strap (d : Dev) (n : Nat) (f : HfChain → HfChain) : (d.onHf n f).strap = d.strap := rfl
@[simp] theorem Dev.onHf_time (d : Dev) (n : Nat) (f : HfChain → HfChain) : (d.onHf n f).time = d.time := rfl
@[simp] theorem Dev.onHf_freeCtr (d : Dev) (n : Nat) (f : HfChain → HfChain) : (d.onHf n f).freeCtr = d.freeCtr := rfl
@[simp] theorem Dev.onHf_causes (d : Dev) (n : Nat) (f : HfChain → HfChain) : (d.onHf n f).causes = d.causes := rfl
@[simp] theorem Dev.onHf_rejected (d : Dev) (n : Nat) (f : HfChain → HfChain) : (d.onHf n f).rejected = d.rejected := rfl
@[simp] theorem Dev.onHf_stalled (d : Dev) (n : Nat) (f : HfChain → HfChain) : (d.onHf n f).stalled = d.stalled := rfl
@[simp] theorem Dev.onHf_bootAt (d : Dev) (n : Nat) (f : HfChain → HfChain) : (d.onHf n f).bootAt = d.bootAt := rfl
@[simp] theorem Dev.onHf_wdogFrom (d : Dev) (n : Nat) (f : HfChain → HfChain) : (d.onHf n f).wdogFrom = d.wdogFrom := rfl
@[simp] theorem Dev.onHf_inUse (d : Dev) (n : Nat) (f : HfChain → HfChain) : (d.onHf n f).inUse = d.inUse := rfl
@[simp] theorem Dev.onHf_pgood (d : Dev) (n : Nat) (f : HfChain → HfChain) : (d.onHf n f).pgood = d.pgood := rfl
@[simp] theorem Dev.onHf_resetN (d : Dev) (n : Nat) (f : HfChain → HfChain) : (d.onHf n f).resetN = d.resetN := rfl
@[simp] theorem Dev.onHf_pfail (d : Dev) (n : Nat) (f : HfChain → HfChain) : (d.onHf n f).pfail = d.pfail := rfl
@[simp] theorem Dev.onHf_pfailAt (d : Dev) (n : Nat) (f : HfChain → HfChain) : (d.onHf n f).pfailAt = d.pfailAt := rfl
@[simp] theorem Dev.onHf_vddioA (d : Dev) (n : Nat) (f : HfChain → HfChain) : (d.onHf n f).vddioA = d.vddioA := rfl
@[simp] theorem Dev.onHf_vddioB (d : Dev) (n : Nat) (f : HfChain → HfChain) : (d.onHf n f).vddioB = d.vddioB := rfl
@[simp] theorem Dev.onHf_refout (d : Dev) (n : Nat) (f : HfChain → HfChain) : (d.onHf n f).refout = d.refout := rfl
@[simp] theorem Dev.onHf_seqWdogAt (d : Dev) (n : Nat) (f : HfChain → HfChain) : (d.onHf n f).seqWdogAt = d.seqWdogAt := rfl
@[simp] theorem Dev.onHf_host (d : Dev) (n : Nat) (f : HfChain → HfChain) : (d.onHf n f).host = d.host := rfl
@[simp] theorem Dev.onHf_checks (d : Dev) (n : Nat) (f : HfChain → HfChain) : (d.onHf n f).checks = d.checks := rfl
@[simp] theorem Dev.onHf_applying (d : Dev) (n : Nat) (f : HfChain → HfChain) : (d.onHf n f).applying = d.applying := rfl
@[simp] theorem Dev.onHf_trans (d : Dev) (n : Nat) (f : HfChain → HfChain) : (d.onHf n f).trans = d.trans := rfl
@[simp] theorem Dev.onHf_jrn (d : Dev) (n : Nat) (f : HfChain → HfChain) : (d.onHf n f).jrn = d.jrn := rfl
@[simp] theorem Dev.onHf_vault (d : Dev) (n : Nat) (f : HfChain → HfChain) : (d.onHf n f).vault = d.vault := rfl
@[simp] theorem Dev.onHf_attic (d : Dev) (n : Nat) (f : HfChain → HfChain) : (d.onHf n f).attic = d.attic := rfl
@[simp] theorem Dev.onHf_flt (d : Dev) (n : Nat) (f : HfChain → HfChain) : (d.onHf n f).flt = d.flt := rfl
@[simp] theorem Dev.onHf_fltNo (d : Dev) (n : Nat) (f : HfChain → HfChain) : (d.onHf n f).fltNo = d.fltNo := rfl
@[simp] theorem Dev.onHf_chans (d : Dev) (n : Nat) (f : HfChain → HfChain) : (d.onHf n f).chans = d.chans := rfl
@[simp] theorem Dev.onHf_gens (d : Dev) (n : Nat) (f : HfChain → HfChain) : (d.onHf n f).gens = d.gens := rfl
@[simp] theorem Dev.onHf_orphan (d : Dev) (n : Nat) (f : HfChain → HfChain) : (d.onHf n f).orphan = d.orphan := rfl
@[simp] theorem Dev.onHf_tables (d : Dev) (n : Nat) (f : HfChain → HfChain) : (d.onHf n f).tables = d.tables := rfl
@[simp] theorem Dev.onHf_uhf (d : Dev) (n : Nat) (f : HfChain → HfChain) : (d.onHf n f).uhf = d.uhf := rfl
@[simp] theorem Dev.onHf_gov (d : Dev) (n : Nat) (f : HfChain → HfChain) : (d.onHf n f).gov = d.gov := rfl
@[simp] theorem Dev.onHf_coexA (d : Dev) (n : Nat) (f : HfChain → HfChain) : (d.onHf n f).coexA = d.coexA := rfl
@[simp] theorem Dev.onHf_coexB (d : Dev) (n : Nat) (f : HfChain → HfChain) : (d.onHf n f).coexB = d.coexB := rfl
@[simp] theorem Dev.onHf_windows (d : Dev) (n : Nat) (f : HfChain → HfChain) : (d.onHf n f).windows = d.windows := rfl
@[simp] theorem Dev.onHf_strikes (d : Dev) (n : Nat) (f : HfChain → HfChain) : (d.onHf n f).strikes = d.strikes := rfl
@[simp] theorem Dev.onHf_image (d : Dev) (n : Nat) (f : HfChain → HfChain) : (d.onHf n f).image = d.image := rfl
@[simp] theorem Dev.onHf_recheck (d : Dev) (n : Nat) (f : HfChain → HfChain) : (d.onHf n f).recheck = d.recheck := rfl
@[simp] theorem Dev.onHf_quota (d : Dev) (n : Nat) (f : HfChain → HfChain) : (d.onHf n f).quota = d.quota := rfl
@[simp] theorem Dev.onHf_granted (d : Dev) (n : Nat) (f : HfChain → HfChain) : (d.onHf n f).granted = d.granted := rfl
@[simp] theorem Dev.onHf_memq (d : Dev) (n : Nat) (f : HfChain → HfChain) : (d.onHf n f).memq = d.memq := rfl

@[simp] theorem Dev.onUhf_regs (d : Dev) (n : Nat) (f : UhfChain → UhfChain) : (d.onUhf n f).regs = d.regs := rfl
@[simp] theorem Dev.onUhf_shadow (d : Dev) (n : Nat) (f : UhfChain → UhfChain) : (d.onUhf n f).shadow = d.shadow := rfl
@[simp] theorem Dev.onUhf_cs (d : Dev) (n : Nat) (f : UhfChain → UhfChain) : (d.onUhf n f).cs = d.cs := rfl
@[simp] theorem Dev.onUhf_phase (d : Dev) (n : Nat) (f : UhfChain → UhfChain) : (d.onUhf n f).phase = d.phase := rfl
@[simp] theorem Dev.onUhf_boots (d : Dev) (n : Nat) (f : UhfChain → UhfChain) : (d.onUhf n f).boots = d.boots := rfl
@[simp] theorem Dev.onUhf_strap (d : Dev) (n : Nat) (f : UhfChain → UhfChain) : (d.onUhf n f).strap = d.strap := rfl
@[simp] theorem Dev.onUhf_time (d : Dev) (n : Nat) (f : UhfChain → UhfChain) : (d.onUhf n f).time = d.time := rfl
@[simp] theorem Dev.onUhf_freeCtr (d : Dev) (n : Nat) (f : UhfChain → UhfChain) : (d.onUhf n f).freeCtr = d.freeCtr := rfl
@[simp] theorem Dev.onUhf_causes (d : Dev) (n : Nat) (f : UhfChain → UhfChain) : (d.onUhf n f).causes = d.causes := rfl
@[simp] theorem Dev.onUhf_rejected (d : Dev) (n : Nat) (f : UhfChain → UhfChain) : (d.onUhf n f).rejected = d.rejected := rfl
@[simp] theorem Dev.onUhf_stalled (d : Dev) (n : Nat) (f : UhfChain → UhfChain) : (d.onUhf n f).stalled = d.stalled := rfl
@[simp] theorem Dev.onUhf_bootAt (d : Dev) (n : Nat) (f : UhfChain → UhfChain) : (d.onUhf n f).bootAt = d.bootAt := rfl
@[simp] theorem Dev.onUhf_wdogFrom (d : Dev) (n : Nat) (f : UhfChain → UhfChain) : (d.onUhf n f).wdogFrom = d.wdogFrom := rfl
@[simp] theorem Dev.onUhf_inUse (d : Dev) (n : Nat) (f : UhfChain → UhfChain) : (d.onUhf n f).inUse = d.inUse := rfl
@[simp] theorem Dev.onUhf_pgood (d : Dev) (n : Nat) (f : UhfChain → UhfChain) : (d.onUhf n f).pgood = d.pgood := rfl
@[simp] theorem Dev.onUhf_resetN (d : Dev) (n : Nat) (f : UhfChain → UhfChain) : (d.onUhf n f).resetN = d.resetN := rfl
@[simp] theorem Dev.onUhf_pfail (d : Dev) (n : Nat) (f : UhfChain → UhfChain) : (d.onUhf n f).pfail = d.pfail := rfl
@[simp] theorem Dev.onUhf_pfailAt (d : Dev) (n : Nat) (f : UhfChain → UhfChain) : (d.onUhf n f).pfailAt = d.pfailAt := rfl
@[simp] theorem Dev.onUhf_vddioA (d : Dev) (n : Nat) (f : UhfChain → UhfChain) : (d.onUhf n f).vddioA = d.vddioA := rfl
@[simp] theorem Dev.onUhf_vddioB (d : Dev) (n : Nat) (f : UhfChain → UhfChain) : (d.onUhf n f).vddioB = d.vddioB := rfl
@[simp] theorem Dev.onUhf_refout (d : Dev) (n : Nat) (f : UhfChain → UhfChain) : (d.onUhf n f).refout = d.refout := rfl
@[simp] theorem Dev.onUhf_seqWdogAt (d : Dev) (n : Nat) (f : UhfChain → UhfChain) : (d.onUhf n f).seqWdogAt = d.seqWdogAt := rfl
@[simp] theorem Dev.onUhf_host (d : Dev) (n : Nat) (f : UhfChain → UhfChain) : (d.onUhf n f).host = d.host := rfl
@[simp] theorem Dev.onUhf_checks (d : Dev) (n : Nat) (f : UhfChain → UhfChain) : (d.onUhf n f).checks = d.checks := rfl
@[simp] theorem Dev.onUhf_applying (d : Dev) (n : Nat) (f : UhfChain → UhfChain) : (d.onUhf n f).applying = d.applying := rfl
@[simp] theorem Dev.onUhf_trans (d : Dev) (n : Nat) (f : UhfChain → UhfChain) : (d.onUhf n f).trans = d.trans := rfl
@[simp] theorem Dev.onUhf_jrn (d : Dev) (n : Nat) (f : UhfChain → UhfChain) : (d.onUhf n f).jrn = d.jrn := rfl
@[simp] theorem Dev.onUhf_vault (d : Dev) (n : Nat) (f : UhfChain → UhfChain) : (d.onUhf n f).vault = d.vault := rfl
@[simp] theorem Dev.onUhf_attic (d : Dev) (n : Nat) (f : UhfChain → UhfChain) : (d.onUhf n f).attic = d.attic := rfl
@[simp] theorem Dev.onUhf_flt (d : Dev) (n : Nat) (f : UhfChain → UhfChain) : (d.onUhf n f).flt = d.flt := rfl
@[simp] theorem Dev.onUhf_fltNo (d : Dev) (n : Nat) (f : UhfChain → UhfChain) : (d.onUhf n f).fltNo = d.fltNo := rfl
@[simp] theorem Dev.onUhf_chans (d : Dev) (n : Nat) (f : UhfChain → UhfChain) : (d.onUhf n f).chans = d.chans := rfl
@[simp] theorem Dev.onUhf_gens (d : Dev) (n : Nat) (f : UhfChain → UhfChain) : (d.onUhf n f).gens = d.gens := rfl
@[simp] theorem Dev.onUhf_orphan (d : Dev) (n : Nat) (f : UhfChain → UhfChain) : (d.onUhf n f).orphan = d.orphan := rfl
@[simp] theorem Dev.onUhf_tables (d : Dev) (n : Nat) (f : UhfChain → UhfChain) : (d.onUhf n f).tables = d.tables := rfl
@[simp] theorem Dev.onUhf_hf (d : Dev) (n : Nat) (f : UhfChain → UhfChain) : (d.onUhf n f).hf = d.hf := rfl
@[simp] theorem Dev.onUhf_gov (d : Dev) (n : Nat) (f : UhfChain → UhfChain) : (d.onUhf n f).gov = d.gov := rfl
@[simp] theorem Dev.onUhf_coexA (d : Dev) (n : Nat) (f : UhfChain → UhfChain) : (d.onUhf n f).coexA = d.coexA := rfl
@[simp] theorem Dev.onUhf_coexB (d : Dev) (n : Nat) (f : UhfChain → UhfChain) : (d.onUhf n f).coexB = d.coexB := rfl
@[simp] theorem Dev.onUhf_windows (d : Dev) (n : Nat) (f : UhfChain → UhfChain) : (d.onUhf n f).windows = d.windows := rfl
@[simp] theorem Dev.onUhf_strikes (d : Dev) (n : Nat) (f : UhfChain → UhfChain) : (d.onUhf n f).strikes = d.strikes := rfl
@[simp] theorem Dev.onUhf_image (d : Dev) (n : Nat) (f : UhfChain → UhfChain) : (d.onUhf n f).image = d.image := rfl
@[simp] theorem Dev.onUhf_recheck (d : Dev) (n : Nat) (f : UhfChain → UhfChain) : (d.onUhf n f).recheck = d.recheck := rfl
@[simp] theorem Dev.onUhf_quota (d : Dev) (n : Nat) (f : UhfChain → UhfChain) : (d.onUhf n f).quota = d.quota := rfl
@[simp] theorem Dev.onUhf_granted (d : Dev) (n : Nat) (f : UhfChain → UhfChain) : (d.onUhf n f).granted = d.granted := rfl
@[simp] theorem Dev.onUhf_memq (d : Dev) (n : Nat) (f : UhfChain → UhfChain) : (d.onUhf n f).memq = d.memq := rfl

@[simp] theorem Dev.setChan_regs (d : Dev) (k : Nat) (c : Chan) : (d.setChan k c).regs = d.regs := rfl
@[simp] theorem Dev.setChan_shadow (d : Dev) (k : Nat) (c : Chan) : (d.setChan k c).shadow = d.shadow := rfl
@[simp] theorem Dev.setChan_cs (d : Dev) (k : Nat) (c : Chan) : (d.setChan k c).cs = d.cs := rfl
@[simp] theorem Dev.setChan_phase (d : Dev) (k : Nat) (c : Chan) : (d.setChan k c).phase = d.phase := rfl
@[simp] theorem Dev.setChan_boots (d : Dev) (k : Nat) (c : Chan) : (d.setChan k c).boots = d.boots := rfl
@[simp] theorem Dev.setChan_strap (d : Dev) (k : Nat) (c : Chan) : (d.setChan k c).strap = d.strap := rfl
@[simp] theorem Dev.setChan_time (d : Dev) (k : Nat) (c : Chan) : (d.setChan k c).time = d.time := rfl
@[simp] theorem Dev.setChan_freeCtr (d : Dev) (k : Nat) (c : Chan) : (d.setChan k c).freeCtr = d.freeCtr := rfl
@[simp] theorem Dev.setChan_causes (d : Dev) (k : Nat) (c : Chan) : (d.setChan k c).causes = d.causes := rfl
@[simp] theorem Dev.setChan_rejected (d : Dev) (k : Nat) (c : Chan) : (d.setChan k c).rejected = d.rejected := rfl
@[simp] theorem Dev.setChan_stalled (d : Dev) (k : Nat) (c : Chan) : (d.setChan k c).stalled = d.stalled := rfl
@[simp] theorem Dev.setChan_bootAt (d : Dev) (k : Nat) (c : Chan) : (d.setChan k c).bootAt = d.bootAt := rfl
@[simp] theorem Dev.setChan_wdogFrom (d : Dev) (k : Nat) (c : Chan) : (d.setChan k c).wdogFrom = d.wdogFrom := rfl
@[simp] theorem Dev.setChan_inUse (d : Dev) (k : Nat) (c : Chan) : (d.setChan k c).inUse = d.inUse := rfl
@[simp] theorem Dev.setChan_pgood (d : Dev) (k : Nat) (c : Chan) : (d.setChan k c).pgood = d.pgood := rfl
@[simp] theorem Dev.setChan_resetN (d : Dev) (k : Nat) (c : Chan) : (d.setChan k c).resetN = d.resetN := rfl
@[simp] theorem Dev.setChan_pfail (d : Dev) (k : Nat) (c : Chan) : (d.setChan k c).pfail = d.pfail := rfl
@[simp] theorem Dev.setChan_pfailAt (d : Dev) (k : Nat) (c : Chan) : (d.setChan k c).pfailAt = d.pfailAt := rfl
@[simp] theorem Dev.setChan_vddioA (d : Dev) (k : Nat) (c : Chan) : (d.setChan k c).vddioA = d.vddioA := rfl
@[simp] theorem Dev.setChan_vddioB (d : Dev) (k : Nat) (c : Chan) : (d.setChan k c).vddioB = d.vddioB := rfl
@[simp] theorem Dev.setChan_refout (d : Dev) (k : Nat) (c : Chan) : (d.setChan k c).refout = d.refout := rfl
@[simp] theorem Dev.setChan_seqWdogAt (d : Dev) (k : Nat) (c : Chan) : (d.setChan k c).seqWdogAt = d.seqWdogAt := rfl
@[simp] theorem Dev.setChan_host (d : Dev) (k : Nat) (c : Chan) : (d.setChan k c).host = d.host := rfl
@[simp] theorem Dev.setChan_checks (d : Dev) (k : Nat) (c : Chan) : (d.setChan k c).checks = d.checks := rfl
@[simp] theorem Dev.setChan_applying (d : Dev) (k : Nat) (c : Chan) : (d.setChan k c).applying = d.applying := rfl
@[simp] theorem Dev.setChan_trans (d : Dev) (k : Nat) (c : Chan) : (d.setChan k c).trans = d.trans := rfl
@[simp] theorem Dev.setChan_jrn (d : Dev) (k : Nat) (c : Chan) : (d.setChan k c).jrn = d.jrn := rfl
@[simp] theorem Dev.setChan_vault (d : Dev) (k : Nat) (c : Chan) : (d.setChan k c).vault = d.vault := rfl
@[simp] theorem Dev.setChan_attic (d : Dev) (k : Nat) (c : Chan) : (d.setChan k c).attic = d.attic := rfl
@[simp] theorem Dev.setChan_flt (d : Dev) (k : Nat) (c : Chan) : (d.setChan k c).flt = d.flt := rfl
@[simp] theorem Dev.setChan_fltNo (d : Dev) (k : Nat) (c : Chan) : (d.setChan k c).fltNo = d.fltNo := rfl
@[simp] theorem Dev.setChan_gens (d : Dev) (k : Nat) (c : Chan) : (d.setChan k c).gens = d.gens := rfl
@[simp] theorem Dev.setChan_orphan (d : Dev) (k : Nat) (c : Chan) : (d.setChan k c).orphan = d.orphan := rfl
@[simp] theorem Dev.setChan_tables (d : Dev) (k : Nat) (c : Chan) : (d.setChan k c).tables = d.tables := rfl
@[simp] theorem Dev.setChan_hf (d : Dev) (k : Nat) (c : Chan) : (d.setChan k c).hf = d.hf := rfl
@[simp] theorem Dev.setChan_uhf (d : Dev) (k : Nat) (c : Chan) : (d.setChan k c).uhf = d.uhf := rfl
@[simp] theorem Dev.setChan_gov (d : Dev) (k : Nat) (c : Chan) : (d.setChan k c).gov = d.gov := rfl
@[simp] theorem Dev.setChan_coexA (d : Dev) (k : Nat) (c : Chan) : (d.setChan k c).coexA = d.coexA := rfl
@[simp] theorem Dev.setChan_coexB (d : Dev) (k : Nat) (c : Chan) : (d.setChan k c).coexB = d.coexB := rfl
@[simp] theorem Dev.setChan_windows (d : Dev) (k : Nat) (c : Chan) : (d.setChan k c).windows = d.windows := rfl
@[simp] theorem Dev.setChan_strikes (d : Dev) (k : Nat) (c : Chan) : (d.setChan k c).strikes = d.strikes := rfl
@[simp] theorem Dev.setChan_image (d : Dev) (k : Nat) (c : Chan) : (d.setChan k c).image = d.image := rfl
@[simp] theorem Dev.setChan_recheck (d : Dev) (k : Nat) (c : Chan) : (d.setChan k c).recheck = d.recheck := rfl
@[simp] theorem Dev.setChan_quota (d : Dev) (k : Nat) (c : Chan) : (d.setChan k c).quota = d.quota := rfl
@[simp] theorem Dev.setChan_granted (d : Dev) (k : Nat) (c : Chan) : (d.setChan k c).granted = d.granted := rfl
@[simp] theorem Dev.setChan_memq (d : Dev) (k : Nat) (c : Chan) : (d.setChan k c).memq = d.memq := rfl

theorem Dev.setFlag_eq (d : Dev) (f : Fld) (b : Bool) : d.setFlag f b = d.setFld f (b2n b) := rfl

end Sys2Proof.Machine
end

