-- ==== Sys2Proof/Laws/Ops.lean ====
section
/-!
SUPPORT. One lemma for each shared operation: what it writes and what it leaves alone. The statements are proved from these and from the
small lemmas of `Laws/State.lean`, without unfolding the operations again.
-/

namespace Sys2Proof.Machine

open Sys2Proof

/-! ### How a command answers -/

theorem served_host {s : State} (h : s.dev.served) : s.dev.takesWrites = true := by
  rcases h with h | h <;> simp [Dev.takesWrites, Dev.live, h]

/-- A command of a device in any phase completes with what its effect gives. -/
theorem completes_onDev {s : State} {c : Instr} (f : Dev → Dev) {p : Dev → Prop} (he : exec c s = s.onDev f) (hp : p (f s.dev)) :
    completes c s p := ⟨f s.dev, he, hp⟩

/-- A register write completes where the host port serves. -/
theorem completes_onHost {s : State} {c : Instr} (f : Dev → Dev) {p : Dev → Prop} (hs : s.dev.served) (he : exec c s = s.onHost f)
    (hp : p (f s.dev)) : completes c s p := ⟨f s.dev, by rw [he, State.onHost_on (served_host hs)], hp⟩

/-- A command of a running device completes where the device runs. -/
theorem completes_onLive {s : State} {c : Instr} (f : Dev → Dev) {p : Dev → Prop} (hs : s.dev.phase = .running)
    (he : exec c s = s.onLive f) (hp : p (f s.dev)) : completes c s p :=
  ⟨f s.dev, by rw [he, State.onLive_live (by simp [Dev.live, hs])], hp⟩

theorem completes_mono {s : State} {c : Instr} {p q : Dev → Prop} (h : completes c s p) (hpq : ∀ e, p e → q e) : completes c s q :=
  h.elim fun e he => ⟨e, he.1, hpq e he.2⟩

/-! ### Repeated effects -/

/-- A property that each effect of a fold keeps holds after the fold. -/
theorem Dev.forEach_keeps {P : Dev → Prop} {f : Dev → Nat → Dev} : ∀ {l : List Nat} {d : Dev}, P d → (∀ e, ∀ n ∈ l, P e → P (f e n)) →
    P (d.forEach l f)
  | [], _, h, _ => h
  | n :: l, d, h, hf => by
    have h1 : P (f d n) := hf d n (by simp) h
    exact Dev.forEach_keeps (l := l) (d := f d n) h1 fun e m hm he => hf e m (by simp [hm]) he

@[simp] theorem Dev.forEach_nil (d : Dev) (f : Dev → Nat → Dev) : d.forEach [] f = d := rfl

theorem Dev.forEach_cons (d : Dev) (n : Nat) (l : List Nat) (f : Dev → Nat → Dev) : d.forEach (n :: l) f = (f d n).forEach l f := rfl

/-! ### Registers only -/

theorem Dev.onlyRegs_refl (d : Dev) (l : List Nat) : d.onlyRegs d l := ⟨rfl, fun _ _ => rfl⟩

theorem Dev.onlyRegs_trans {d e f : Dev} {l : List Nat} (h : d.onlyRegs e l) (g : e.onlyRegs f l) : d.onlyRegs f l := by
  refine ⟨?_, fun a ha => by rw [g.2 a ha, h.2 a ha]⟩
  have h1 := h.1
  rw [g.1]
  rw [h1]

theorem Dev.onlyRegs_mono {d e : Dev} {l m : List Nat} (h : d.onlyRegs e l) (hl : ∀ a ∈ l, a ∈ m) : d.onlyRegs e m :=
  ⟨h.1, fun a ha => h.2 a fun hx => ha (hl a hx)⟩

theorem Dev.onlyRegs_setReg {d e : Dev} {l : List Nat} (h : d.onlyRegs e l) {a : Nat} {v : Word} (ha : a ∈ l) :
    d.onlyRegs (e.setReg a v) l := by
  refine ⟨?_, fun b hb => ?_⟩
  · have := h.1; rw [this]; rfl
  · rw [Dev.reg_setReg_other (fun x => hb (by rw [x]; exact ha)), h.2 b hb]

theorem Dev.onlyRegs_setFld {d e : Dev} {l : List Nat} (h : d.onlyRegs e l) {f : Fld} {v : Nat} (ha : f.addr ∈ l) :
    d.onlyRegs (e.setFld f v) l := by
  refine ⟨?_, fun b hb => ?_⟩
  · have := h.1; rw [this]; rfl
  · rw [Dev.reg_setFld_other (fun x => hb (by rw [x]; exact ha)), h.2 b hb]

theorem Dev.onlyRegs_setFlag {d e : Dev} {l : List Nat} (h : d.onlyRegs e l) {f : Fld} {v : Bool} (ha : f.addr ∈ l) :
    d.onlyRegs (e.setFlag f v) l := Dev.onlyRegs_setFld h ha

theorem Dev.onlyRegs_bump {d e : Dev} {l : List Nat} (h : d.onlyRegs e l) {f : Fld} {k : Nat} (ha : f.addr ∈ l) :
    d.onlyRegs (e.bump f k) l := Dev.onlyRegs_setFld h ha

theorem Dev.onlyRegs_raiseTo {d e : Dev} {l : List Nat} (h : d.onlyRegs e l) {f : Fld} {v : Nat} (ha : f.addr ∈ l) :
    d.onlyRegs (e.raiseTo f v) l := Dev.onlyRegs_setFld h ha

/-! ### Fields -/

theorem Dev.flag_setFlag_other {d : Dev} {f g : Fld} {b : Bool} (h : g.addr ≠ f.addr ∨ g.hi < f.lo ∨ f.hi < g.lo) (hg : g.hi < 32) :
    (d.setFlag f b).flag g = d.flag g := by simp [Dev.flag, Dev.setFlag, Dev.fld_setFld_other h hg]

theorem Dev.fld_setFlag_other {d : Dev} {f g : Fld} {b : Bool} (h : g.addr ≠ f.addr ∨ g.hi < f.lo ∨ f.hi < g.lo) (hg : g.hi < 32) :
    (d.setFlag f b).fld g = d.fld g := Dev.fld_setFld_other h hg

theorem Dev.flag_setFld_other {d : Dev} {f g : Fld} {v : Nat} (h : g.addr ≠ f.addr ∨ g.hi < f.lo ∨ f.hi < g.lo) (hg : g.hi < 32) :
    (d.setFld f v).flag g = d.flag g := by simp [Dev.flag, Dev.fld_setFld_other h hg]

theorem Dev.fld_setFld_small {d : Dev} {f : Fld} {v : Nat} (h : f.hi < 32) (hv : v < 2 ^ (f.hi + 1 - f.lo)) : (d.setFld f v).fld f = v := by
  rw [Dev.fld_setFld h, Nat.mod_eq_of_lt hv]

/-- A saturating counter counts. -/
theorem Dev.fld_bump {d : Dev} {f : Fld} {k : Nat} (h : f.hi < 32) :
    (d.bump f k).fld f = satAdd (2 ^ (f.hi + 1 - f.lo) - 1) (d.fld f) k := by
  have hp : 0 < 2 ^ (f.hi + 1 - f.lo) := Nat.two_pow_pos _
  exact Dev.fld_setFld_small h (by simp only [satAdd]; omega)

theorem Dev.fld_bump_other {d : Dev} {f g : Fld} {k : Nat} (h : g.addr ≠ f.addr ∨ g.hi < f.lo ∨ f.hi < g.lo) (hg : g.hi < 32) :
    (d.bump f k).fld g = d.fld g := Dev.fld_setFld_other h hg

theorem Dev.reg_bump_other {d : Dev} {f : Fld} {k b : Nat} (h : b ≠ f.addr) : (d.bump f k).reg b = d.reg b := Dev.reg_setFld_other h

theorem Dev.reg_raiseTo_other {d : Dev} {f : Fld} {v b : Nat} (h : b ≠ f.addr) : (d.raiseTo f v).reg b = d.reg b := Dev.reg_setFld_other h

/-! ### The shared operations -/

/-- A check put in the queue (R86). -/
theorem Dev.trigger_queued (d : Dev) (c : PendingCheck) : d.queued (d.trigger c) c :=
  ⟨rfl, Dev.flag_setFlag rfl (by decide), fun _ ha => Dev.reg_setFld_other ha⟩

/-- A refusal recorded changes SUP_CC and SUP_CC_NEED alone. -/
theorem Dev.refuse_onlyRegs (d : Dev) (code source step subject need : Nat) :
    d.onlyRegs (d.refuse code source step subject need) [R.SUP_CC, R.SUP_CC_NEED] := by
  refine Dev.onlyRegs_setFld (Dev.onlyRegs_setFld (Dev.onlyRegs_setFld (Dev.onlyRegs_setFld (Dev.onlyRegs_setFld
    (Dev.onlyRegs_refl d _) ?_) ?_) ?_) ?_) ?_ <;> decide

/-- What a refusal records. -/
theorem Dev.refuse_fields (d : Dev) (code source step subject need : Nat) :
    (d.refuse code source step subject need).fld F.SUP_CC_CODE = code % 256 ∧
    (d.refuse code source step subject need).fld F.SUP_CC_SOURCE = source % 16 ∧
    (d.refuse code source step subject need).fld F.SUP_CC_STEP = step % 16 ∧
    (d.refuse code source step subject need).fld F.SUP_CC_SUBJECT = subject % 65536 := by
  simp only [Dev.refuse]
  refine ⟨?_, ?_, ?_, ?_⟩
  · rw [Dev.fld_setFld_other (by decide) (by decide), Dev.fld_setFld_other (by decide) (by decide),
      Dev.fld_setFld_other (by decide) (by decide), Dev.fld_setFld_other (by decide) (by decide), Dev.fld_setFld (by decide)]
    rfl
  · rw [Dev.fld_setFld_other (by decide) (by decide), Dev.fld_setFld_other (by decide) (by decide),
      Dev.fld_setFld_other (by decide) (by decide), Dev.fld_setFld (by decide)]
    rfl
  · rw [Dev.fld_setFld_other (by decide) (by decide), Dev.fld_setFld_other (by decide) (by decide), Dev.fld_setFld (by decide)]
    rfl
  · rw [Dev.fld_setFld_other (by decide) (by decide), Dev.fld_setFld (by decide)]
    rfl

/-- Time passing changes device time and the Attic's count alone. -/
theorem Dev.tick_frame (d : Dev) (us : Nat) :
    d.tick us = { d with time := (d.tick us).time, attic := { d.attic with count := (d.tick us).attic.count } } := by
  unfold Dev.tick
  by_cases h : d.attic.up = true
  · simp only [if_pos h]
  · simp only [if_neg h]

/-- The time of a running device after `reach`: its instant has come. -/
theorem Dev.reach_time {d : Dev} {t : Nat} (h : d.phase = .running) (ht : t < 2 ^ 64) (hd : d.time < 2 ^ 64) :
    (d.reach t).time = max d.time t := by
  simp only [Dev.reach, Dev.tick, h]
  simp
  omega

@[simp] theorem Dev.reach_regs (d : Dev) (t : Nat) : (d.reach t).regs = d.regs := rfl
@[simp] theorem Dev.reach_chans (d : Dev) (t : Nat) : (d.reach t).chans = d.chans := rfl
@[simp] theorem Dev.reach_hf (d : Dev) (t : Nat) : (d.reach t).hf = d.hf := rfl
@[simp] theorem Dev.reach_uhf (d : Dev) (t : Nat) : (d.reach t).uhf = d.uhf := rfl
@[simp] theorem Dev.reach_gov (d : Dev) (t : Nat) : (d.reach t).gov = d.gov := rfl
@[simp] theorem Dev.reach_jrn (d : Dev) (t : Nat) : (d.reach t).jrn = d.jrn := rfl
@[simp] theorem Dev.reach_host (d : Dev) (t : Nat) : (d.reach t).host = d.host := rfl
@[simp] theorem Dev.reach_applying (d : Dev) (t : Nat) : (d.reach t).applying = d.applying := rfl
@[simp] theorem Dev.reach_tables (d : Dev) (t : Nat) : (d.reach t).tables = d.tables := rfl

/-- An event enters the ring last (R443): the ring, and the count of events dropped, change and nothing else. -/
theorem Dev.event_frame (d : Dev) (kind arg handle : Nat) (data : Bytes) :
    (∃ y, (d.event kind arg handle data).host.ring.getLast? = some y ∧ y.kind = kind ∧ y.arg = arg ∧ y.handle = handle ∧
      y.data = fit 8 data) ∧
    { d with host := (d.event kind arg handle data).host }.onlyRegs (d.event kind arg handle data) [F.HOST_EVT_STAT_DROPPED.addr] ∧
    (d.event kind arg handle data).host = { d.host with
      ring := (d.event kind arg handle data).host.ring, dropped := (d.event kind arg handle data).host.dropped } := by
  unfold Dev.event
  by_cases h : d.host.ring.length < 256
  · rw [if_pos h]
    refine ⟨⟨_, List.getLast?_concat, rfl, rfl, rfl, rfl⟩, ⟨rfl, fun _ _ => rfl⟩, rfl⟩
  · rw [if_neg h]
    refine ⟨⟨_, List.getLast?_concat, rfl, rfl, rfl, rfl⟩, ⟨rfl, fun a ha => ?_⟩, rfl⟩
    exact Dev.reg_setFld_other (by simpa using ha)

/-- A list of channels after one is put in its slot. -/
theorem find?_insertChan (slot : Nat) (c : Chan) (k : Nat) : ∀ l : List (Nat × Chan),
    (insertChan slot c l).find? (·.1 == k) = if k = slot then some (slot, c) else l.find? (·.1 == k)
  | [] => by
    by_cases h : k = slot
    · subst h; simp [insertChan]
    · simp [insertChan, h, Ne.symm h]
  | (j, x) :: t => by
    have ih := find?_insertChan slot c k t
    by_cases h : k = slot
    · subst h
      rw [if_pos rfl] at ih
      simp only [insertChan]
      split
      · simp
      · split
        · simp
        · rename_i h1 h2
          rw [List.find?_cons_of_neg (by simpa using Ne.symm h2), ih]; simp
    · have hs : (slot == k) = false := by simpa using Ne.symm h
      rw [if_neg h] at ih
      simp only [insertChan, if_neg h]
      split
      · rw [List.find?_cons_of_neg (by simpa using hs)]
      · split
        · rename_i h1 h2
          subst h2
          rw [List.find?_cons_of_neg (by simpa using hs), List.find?_cons_of_neg (by simpa using hs)]
        · by_cases hj : (j == k) = true
          · rw [List.find?_cons_of_pos (by simpa using hj), List.find?_cons_of_pos (by simpa using hj)]
          · rw [List.find?_cons_of_neg (by simpa using hj), List.find?_cons_of_neg (by simpa using hj), ih]

theorem Dev.chan?_setChan (d : Dev) (slot : Nat) (c : Chan) : (d.setChan slot c).chan? slot = some c := by
  simp [Dev.chan?, Dev.setChan, find?_insertChan]

theorem Dev.chan?_setChan_other {d : Dev} {slot k : Nat} {c : Chan} (h : k ≠ slot) : (d.setChan slot c).chan? k = d.chan? k := by
  simp [Dev.chan?, Dev.setChan, find?_insertChan, h]

theorem Dev.chan?_onChan {d : Dev} {slot : Nat} {c : Chan} {f : Chan → Chan} (h : d.chan? slot = some c) :
    (d.onChan slot f).chan? slot = some (f c) := by simp only [Dev.onChan, h, Dev.chan?_setChan]

theorem Dev.chan?_onChan_other {d : Dev} {slot k : Nat} {f : Chan → Chan} (h : k ≠ slot) : (d.onChan slot f).chan? k = d.chan? k := by
  simp only [Dev.onChan]
  split
  · exact Dev.chan?_setChan_other h
  · rfl

/-- A channel changed leaves everything but the channels. -/
theorem Dev.onChan_frame (d : Dev) (slot : Nat) (f : Chan → Chan) : d.onChan slot f = { d with chans := (d.onChan slot f).chans } := by
  simp only [Dev.onChan]
  split <;> rfl

theorem Dev.nd_onNd {d : Dev} {n : Nat} {f : NandDev → NandDev} (h : n < 4) : (d.onNd n f).nd n = f (d.nd n) := tableSet_getD_self h

theorem Dev.nd_onNd_other {d : Dev} {n m : Nat} {f : NandDev → NandDev} (h : m < 4) (hm : m ≠ n) : (d.onNd n f).nd m = d.nd m :=
  tableSet_getD_other h hm

/-- A counter-store word as written. -/
theorem Dev.csw_setCs (d : Dev) (k v : Nat) : (d.setCs k v).csw k = v % 2 ^ 32 := by simp [Dev.csw, Dev.setCs]

theorem Dev.csw_setCs_other {d : Dev} {k j v : Nat} (h : j ≠ k) : (d.setCs k v).csw j = d.csw j := by
  simp [Dev.csw, Dev.setCs, RegMap.get_set_other h]

/-- Captures change registers alone (R464). -/
theorem Dev.captureEvent_frame (d : Dev) (src : Nat) : d.captureEvent src = { d with regs := (d.captureEvent src).regs } := by
  refine Dev.forEach_keeps (P := fun e => e = { d with regs := e.regs }) rfl fun e n _ he => ?_
  split
  · unfold Dev.capture
    split <;> (try split) <;> (rw [he]; rfl)
  · exact he

end Sys2Proof.Machine
end

