-- ==== Sys2Proof/WellFormed.lean ====
section
/-!
DEFINITION. Well-formed commands: the lengths of the lists of measurements that an event carries, which the types of
`Instr` do not bound.
-/

namespace Sys2Proof

/-- The opcodes of R415. -/
def knownOpcode (op : BitVec 7) : Bool :=
  [0x01#7, 0x02#7, 0x10#7, 0x11#7, 0x20#7, 0x30#7, 0x31#7, 0x40#7, 0x41#7, 0x7F#7].contains op

/-- A command is well formed: what at least one boot meets, with an answer for each of the four NAND selects (R366), at most one measurement for each HF port
(R114, R127), with a phase for each of the 256 codes, HF chain pair (R127), UHF port and channel (R203, R210), a KEY_KILL source that asserts (R401), at most one
measurement for each sensed port at a WATCH tick (R271), and an opcode outside R415 in the row for unknown opcodes.
Log 5 DESIGN CHOICE. -/
def Instr.wf : Instr → Bool
  | .t0 up => !up.boots.isEmpty && up.boots.all (·.nandIds.length == 4)
  | .calTune ms => ms.length ≤ 16 && ms.all (·.phases.length == 256)
  | .calCoupling ks => ks.length ≤ 16 && ks.all (·.length ≤ 12)
  | .calRxgain gs => gs.length ≤ 16
  | .calUhfLeak ms => ms.length ≤ 8 && ms.all (·.length ≤ 64)
  | .watchTick ms => ms.length ≤ 16
  | .keyKill src _ => src != 0
  | .hostFrameUnknownOpcode op _ => !knownOpcode op
  | _ => true

end Sys2Proof
end

