-- ==== Sys2Proof/Tests/Slice0.lean ====
section
/-!
SUPPORT. Tests: the well-formedness checks; small facts that the spec or a standard it names gives; and for each statement a state and
operands that meet the premises of each of its clauses.
-/

namespace Sys2Proof.Machine

open Sys2Proof

set_option Elab.async false

/-! ### Well-formedness: an ill-formed command for each check -/

theorem test_wf_t0 : (Instr.t0 ⟨0, true, true, true, []⟩).wf = false ∧ (Instr.t0 ⟨0, true, true, true, [{ nandIds := [] }]⟩).wf = false ∧
    (Instr.t0 ⟨0, true, true, true, [{}]⟩).wf = true := by decide

theorem test_wf_calTune : (Instr.calTune (List.replicate 17 ⟨List.replicate 256 0#10, 0, 0#16⟩)).wf = false ∧
    (Instr.calTune [⟨List.replicate 255 0#10, 0, 0#16⟩]).wf = false ∧ (Instr.calTune [⟨List.replicate 256 0#10, 0, 0#16⟩]).wf = true := by
  and_intros <;> decide +kernel

theorem test_wf_calCoupling : (Instr.calCoupling (List.replicate 17 [])).wf = false ∧
    (Instr.calCoupling [List.replicate 13 0#32]).wf = false ∧ (Instr.calCoupling [List.replicate 12 0#32]).wf = true := by decide

theorem test_wf_calRxgain : (Instr.calRxgain (List.replicate 17 none)).wf = false ∧ (Instr.calRxgain [none]).wf = true := by decide

theorem test_wf_calUhfLeak : (Instr.calUhfLeak (List.replicate 9 [])).wf = false ∧
    (Instr.calUhfLeak [List.replicate 65 { trained := true, leak := 0#8, resid := 0#8, gain := 0 }]).wf = false := by decide

theorem test_wf_watchTick : (Instr.watchTick (List.replicate 17 ⟨0, 0⟩)).wf = false ∧ (Instr.watchTick []).wf = true := by decide

theorem test_wf_keyKill : (Instr.keyKill 0#9 false).wf = false ∧ (Instr.keyKill 1#9 false).wf = true := by decide

theorem test_wf_unknownOpcode : (Instr.hostFrameUnknownOpcode 0x7F#7 ⟨false, []⟩).wf = false ∧
    (Instr.hostFrameUnknownOpcode 0x00#7 ⟨false, []⟩).wf = true := by decide

/-! ### States to test on -/

/-- The device as it runs, changed by `f`. -/
def runs (f : Dev → Dev) : State := State.reset.withDev (f { State.reset.dev with phase := .running })

/-- The device result of a command, or the device as it was where the command stops. -/
def after (c : Instr) (s : State) : Dev :=
  match exec c s with
  | .next t => t.dev
  | _ => s.dev

/-- A RAW attempt of a direct step on HFC3 and HF15. -/
def hfA : HfAttempt := { tag := { portch := 0x6F }, params := zeros 32, tmpl := [0x26#8], tbits := 7, sched := false, kind := 0, proto := 0 }

/-- HFC3 with the field of HF15 on, its exchange at `ph`. -/
def hf3 (ph : HfPhase) (d : Dev) : Dev := d.onHf 3 fun h => { h with phase := ph, port := some 15, att := some hfA }

/-- An attempt of a direct step on UHFC1 and UHF7. -/
def uhfA : UhfAttempt := { tag := { portch := 0xA7 }, params := zeros 32, tmpl := [], tbits := 0, object := [], sched := false }

/-- UHFC1 on UHF7 in a state, with a command at the head of its queue. -/
def uhf1 (st : Nat) (q : List RadioCmd) (d : Dev) : Dev :=
  (d.onUhf 1 fun u => { u with port := some 7, att := some uhfA, queue := q.map (·, 0) }).setUst 1 st

/-! ### Facts of the spec and of the standards it names -/

/-- The check value of CRC-32/ISO-HDLC, the CRC-32 of IEEE 802.3 (R350). -/
theorem test_crc32 : crc32 ((List.range 9).map fun k => BitVec.ofNat 8 (0x31 + k)) = 0xCBF43926 := by decide +kernel

/-- The check value of CRC-16/IBM-SDLC, the CRC of X.25 (R440). -/
theorem test_crc16 : crc16X25 ((List.range 9).map fun k => BitVec.ofNat 8 (0x31 + k)) = 0x906E := by decide +kernel

/-- FIPS 197, Appendix C.1. -/
theorem test_aes : aesEnc ((List.range 16).map fun k => BitVec.ofNat 8 k) ((List.range 16).map fun k => BitVec.ofNat 8 (17 * k)) =
    beBytes 16 0x69c4e0d86a7b0430d8cdb78070b4c55a := by decide +kernel

/-- RFC 4493, example 1: the empty message. -/
theorem test_cmac : cmac (beBytes 16 0x2b7e151628aed2a6abf7158809cf4f3c) [] = beBytes 16 0xbb1d6929e95937287fa37d129b756746 := by
  decide +kernel

/-- R18: a deadline passes at its instant, half the circle long. -/
theorem test_passed : passed 5 5 = true ∧ passed 4 5 = false ∧ passed (2 ^ 39 + 4) 5 = true ∧ passed (2 ^ 39 + 5) 5 = false ∧
    passed 2 (2 ^ 40 - 3) = true := by decide

/-- R121: −10.0 dB is FREE, just above it STAGGER; above −6.0 dB EXCLUSIVE. -/
theorem test_tiers : tierOfSq 26843545 = 1 ∧ tierOfSq 26843546 = 2 ∧ tierOfSq (2 ^ 28) = 3 := by and_intros <;> decide +kernel

/-- R103: 30.0 dBm is 1,000 mW, 20.0 dBm 100 mW, 10.0 dBm 10 mW. -/
theorem test_milliwatts : mwOf 300 = 1000 ∧ mwOf 200 = 100 ∧ mwOf 100 = 10 := by and_intros <;> decide +kernel

/-! ### Premises met: the step and its invariants -/

theorem wit_StepIdles : State.reset.pending = [] := rfl

theorem wit_ExecKeepsQueue : ∃ t, exec .timeSnap (runs id) = .next t := ⟨_, rfl⟩

theorem wit_StepKeepsSafe : State.reset.inv = true ∧ ∃ t, step State.reset = .next t := ⟨by decide, _, rfl⟩

theorem wit_OnlyTheseChangeNorAndFuses : (∃ t, exec .timeSnap (runs id) = .next t) ∧
    (∀ ok, Instr.timeSnap ≠ .imageWriteBegin ok ∧ Instr.timeSnap ≠ .imageWriteData ok ∧ Instr.timeSnap ≠ .imageWriteEnd ok) ∧
    ∀ env ok src blown, Instr.timeSnap ≠ .t0 env ∧ Instr.timeSnap ≠ .regionBlow ok ∧ Instr.timeSnap ≠ .keyKill src blown :=
  ⟨⟨_, rfl⟩, by simp, by simp⟩

theorem wit_FusesOneWay : ∃ t, step { runs id with pending := [.regionBlow true] } = .next t := ⟨_, rfl⟩

/-! ### Premises met: registers and checks -/

theorem wit_served : (runs id).dev.served ∧ (runs fun d => { d.setFld F.SUP_MODE_CUR 0 with phase := .flushed }).dev.served :=
  ⟨.inl rfl, .inr ⟨rfl, by decide +kernel⟩⟩

theorem wit_ChecksWait :
    (∀ n : Fin 6, (runs id).dev.flag (F.CVUn_CFG_OWNED n) = false) ∧ (0#32 : Word).getLsbD 31 = false ∧
    (runs (·.setFlag (F.HFCn_BOND_EN 3) true)).dev.flag (F.HFCn_BOND_EN 3) = true ∧
    (runs (·.setFlag F.UHF_STEER_EN true)).dev.flag F.UHF_STEER_EN = true ∧
    (runs (·.setFlag (F.TMRn_CTL_ENABLE 7) true)).dev.flag (F.TMRn_CTL_ENABLE 7) = true ∧
    (runs (·.setFlag (F.CVUn_CFG_ENABLE 5) true)).dev.flag (F.CVUn_CFG_ENABLE 5) = true ∧
    (runs (·.setFlag (F.CVUn_CFG_ENABLE 5) true)).dev.flag (F.CVUn_CFG_OWNED 5) = false ∧
    (runs (·.setFlag (F.HFPn_CFG_ENABLE 15) true)).dev.flag (F.HFPn_CFG_ENABLE 15) = true ∧
    (runs (·.setFlag (F.HFPn_CFG_ENABLE 15) true)).dev.hfChainOn 15 = none ∧
    (runs (·.setFlag (F.UHFPn_CFG_ENABLE 7) true)).dev.flag (F.UHFPn_CFG_ENABLE 7) = true := by and_intros <;> decide +kernel

/-- No UHF chain holds anything, in the states above. -/
theorem wit_ChecksWait_owner : ∀ m, ((runs (·.setFlag (F.UHFPn_CFG_ENABLE 7) true)).dev.uhfc m).owner = none := by
  intro m
  match m with
  | 0 => rfl
  | 1 => rfl
  | _ + 2 => rfl

theorem wit_ChecksEnd :
    (runs fun d => { d with checks := [.enable (.hfp 3), .enable (.tmr 1)] }).dev.checks = [.enable (.hfp 3), .enable (.tmr 1)] ∧
    ({ (runs id).dev with checks := [] }.setFlag F.SUP_CHECK_BUSY false).enableCode (.hfp 3) ≠ 0 ∧
    ({ (runs id).dev with checks := [] }.setFlag F.SUP_CHECK_BUSY false).enableCode (.tmr 7) = 0 ∧
    (runs id).dev.flag (enableFld (.tmr 7)) = false ∧
    (runs fun d => { d with checks := [.value R.SUP_DIRECT_QUOTA 51#32] }).dev.checks = [.value R.SUP_DIRECT_QUOTA 51#32] ∧
    bitsOf 50#32 7 0 ≤ 50 ∧ 50 < bitsOf 51#32 7 0 := by
  and_intros <;> decide +kernel

theorem wit_GroupsCommitAndApply :
    (runs (·.setFlag ⟨groupReg (.uhf 1), 30, 30⟩ true)).dev.checking (.uhf 1) = true ∧ (runs id).dev.checking (.uhf 1) = false ∧
    (runs fun d => (hf3 .window d).setFlag (F.HFCn_CTL_ENABLE 3) true).dev.atBoundary (.hf 3) = false ∧
    (let d := (runs fun d => { d with applying := [(.hf 3, [(R.HFCn_PROTO 3, 7#32)])] }).dev
     d.applying = (.hf 3, [(R.HFCn_PROTO 3, 7#32)]) :: [] ∧ d.atBoundary (.hf 3) = true ∧ groupMembers (.hf 3) = [R.HFCn_PROTO 3]) := by
  and_intros <;> decide +kernel

theorem wit_UnitRegisters :
    ((runs id).dev.profile ((runs id).dev.fld (F.HFPn_CFG_PROFILE 15))).length = 48 ∧
    ((runs id).dev.profile ((runs id).dev.fld F.UHFPROF_SEL_PROFILE)).length = 48 ∧ (runs id).dev.hfOn 3 = false ∧
    ((runs id).dev.hfc 3).partner = none ∧ (runs (hf3 .sent)).dev.hfOn 3 = true ∧ ((runs (hf3 .sent)).dev.hfc 3).partner = none ∧
    ((runs (hf3 .sent)).dev.hfc 3).phase ∈ [HfPhase.sent, .window, .receiving] ∧
    ((runs (hf3 .idle)).dev.hfc 3).port = some 15 ∧ (runs (hf3 .idle)).dev.driveHeld 3 = false ∧
    cvuTap ((runs (·.setFld (F.CVUn_CFG_SRC 5) 6)).dev.fld (F.CVUn_CFG_SRC 5)) = true ∧
    cvuTap ((runs id).dev.fld (F.CVUn_CFG_SRC 5)) = false ∧ (runs id).dev.flag (F.CVUn_CFG_OWNED 5) = false := by and_intros <;> decide +kernel

theorem wit_FaultsCleared :
    (runs (·.setFlag F.FLT_CLR_BUSY true)).dev.flag F.FLT_CLR_BUSY = true ∧ (runs id).dev.flag F.FLT_CLR_BUSY = false ∧
    ((1#4 : BitVec 4) ≠ 0#4 ∨ (0#2 : BitVec 2) ≠ 0#2) ∧
    (runs fun d => { d with recheck := [(.hf 3, 0x4C), (.uhf 1, 0x68)] }).dev.recheck = [(.hf 3, 0x4C), (.uhf 1, 0x68)] ∧
    (0x4C ≠ 0 ∧ 0x4C ≠ Code.UHF_CHAIN_FAULT ∧ 0x4C ≠ Code.GOV_OVERLIMIT ∧ 0 ≠ Code.GOV_OVERLIMIT) ∧
    (runs fun d => { d with recheck := [(.uhf 1, 0)] }).dev.recheck = [(.uhf 1, 0)] ∧
    (runs (·.setFlag (F.HFCn_STAT_FAULT 3) true)).dev.flag (F.HFCn_STAT_FAULT 3) = true := by and_intros <;> decide +kernel

theorem wit_Windows :
    (runs fun d => d.setChan 255 { kind := Kind.meterRead, prio := 1, plan := 0, state := .active }).dev.chan? 255 =
      some { kind := Kind.meterRead, prio := 1, plan := 0, state := .active } ∧
    (runs fun d => { d.setFlag F.CHN_SEL_DEV true with host := { d.host with hist := { entries := [{ id := 9, cmd := 1, st := .done }], newest := 9 } } }).dev.selHistory.entries[0]? =
      some { id := 9, cmd := 1, st := .done } ∧
    (runs (·.setFlag F.OBJ_CTL_BUSY true)).dev.flag F.OBJ_CTL_BUSY = true ∧ (runs id).dev.flag F.OBJ_CTL_BUSY = false := by and_intros <;> decide +kernel

theorem wit_Timers :
    (1 ≤ (runs (·.setFld (capSrc 7 1) 0x18)).dev.fld (capSrc 7 1) ∧ (runs (·.setFld (capSrc 7 1) 0x18)).dev.fld (capSrc 7 1) ≤ 0x18) ∧
    (runs id).dev.applying = [] ∧ (runs id).dev.flag (F.TMRn_CTL_ENABLE 7) = false ∧
    (let d := (runs fun d => ((d.setFlag (F.TMRn_CTL_ENABLE 7) true).setReg (R.TMRn_RELOAD 7) 5#32).setReg (R.TMRn_COUNT 7) 3#32).dev
     d.flag (F.TMRn_CTL_ENABLE 7) = true ∧ d.fld (F.TMRn_CMPCFG_DIRS 7) = 0 ∧ 0 < (d.reg (R.TMRn_COUNT 7)).toNat ∧
     (d.reg (R.TMRn_COUNT 7)).toNat < (d.reg (R.TMRn_RELOAD 7)).toNat) ∧
    (let d := (runs fun d => ((d.setFlag (F.TMRn_CTL_ENABLE 7) true).setReg (R.TMRn_RELOAD 7) 5#32).setReg (R.TMRn_COUNT 7) 9#32).dev
     (d.reg (R.TMRn_RELOAD 7)).toNat < (d.reg (R.TMRn_COUNT 7)).toNat) ∧
    (let d := (runs fun d => ((d.setFlag (F.TMRn_CTL_ENABLE 7) true).setReg (R.TMRn_RELOAD 7) 5#32).setReg (R.TMRn_COUNT 7) 5#32).dev
     (d.reg (R.TMRn_RELOAD 7)).toNat = (d.reg (R.TMRn_COUNT 7)).toNat ∧ (d.reg (R.TMRn_COUNT 6)).toNat = 0) := by
  and_intros <;> decide +kernel

theorem wit_ForgetRecalRestore :
    (runs fun d => (d.setFld F.SUP_MODE_CUR 4).setFlag F.COEX_CFG_A_EN true).dev.mode = 4 ∧
    (runs fun d => (d.setFld F.SUP_MODE_CUR 4).setFlag F.COEX_CFG_A_EN true).dev.flag F.COEX_CFG_A_EN = true := by and_intros <;> decide +kernel

/-- No UHF chain waits or has its carrier on, in a state whose chains and registers stand at reset. -/
theorem wit_idleChains : ∀ n, n < 2 →
    ((runs fun d => (d.setFld F.SUP_MODE_CUR 4).setFlag F.COEX_CFG_A_EN true).dev.uhfc n).waitGrant = false ∧
    (runs fun d => (d.setFld F.SUP_MODE_CUR 4).setFlag F.COEX_CFG_A_EN true).dev.uhfOn n = false := by decide +kernel

/-! ### Premises met: the host port -/

/-- A device whose boot is done, in COMMISSION, changed by `f`. -/
def hosts (f : Dev → Dev) : State := runs fun d => f (d.setFld F.SUP_MODE_CUR 0)

/-- A frame of the bytes after byte 0. -/
def fr (l : List Nat) : Frame := ⟨false, l.map (BitVec.ofNat 8)⟩

theorem wit_plainPort : (hosts id).dev.plainPort := by
  unfold Dev.plainPort
  refine ⟨rfl, by decide +kernel, by decide +kernel, by decide +kernel⟩

theorem wit_PortRefusals :
    (runs fun d => { d with phase := .down }).dev.phase = .down ∧ opWrites 0x00 = false ∧ opReads 0x00 = false ∧ (0x00 : Nat) ≠ Op.status ∧
    opWrites 0x7E = false ∧ opReads 0x7E = false ∧
    (mosiOf Op.regWr (fr [0x0F, 0x01])).length < 4 ∧
    ¬((mosiOf Op.regWr (fr [0x0F, 0xFF, 1, 0, 0, 0, 0, 0])).length < (hosts id).dev.writeEnd (mosiOf Op.regWr (fr [0x0F, 0xFF, 1, 0, 0, 0, 0, 0]))) ∧
    (hosts id).dev.headCode (mosiOf Op.regWr (fr [0xFF, 0xFF, 1, 0, 0, 0, 0, 0])) ≠ 0 := by and_intros <;> decide +kernel

theorem wit_passes (b : Bytes) (h : (hosts id).dev.headCode b = 0 ∧ (hosts id).dev.macBad b = false ∧ (hosts id).dev.handleBad b = false ∧
    (hosts id).dev.notDirect b = false ∧ cmdBad b = false) : (hosts id).dev.passes b := h

theorem wit_ReadFrames_reg :
    let b := mosiOf Op.regRd (fr [0x00, 0x10, 1, 0, 0, 0, 0, 0])
    (hosts id).dev.headCode b = 0 ∧ (hosts id).dev.macBad b = false ∧ (hosts id).dev.handleBad b = false ∧
    (hosts id).dev.notDirect b = false ∧ cmdBad b = false ∧ frLen b = 1 ∧ 9 ≤ b.length ∧ pairPartner 0x10 = none ∧ frAddr b = 0x10 ∧
    (hosts id).dev.host.pairs = [] := by and_intros <;> decide +kernel

theorem wit_ReadFrames_event :
    let s := hosts fun d => d.event 1 0 0 []
    let b := mosiOf Op.evtRd (fr ([0, 0, 16] ++ List.replicate 22 0))
    s.dev.headCode b = 0 ∧ s.dev.macBad b = false ∧ s.dev.handleBad b = false ∧ s.dev.notDirect b = false ∧ cmdBad b = false ∧
    9 + 16 * (s.dev.host.ring.take (frLen b)).length ≤ b.length ∧
    s.dev.headCode (b.take 20) = 0 ∧ (b.take 20).length < 9 + 16 * (s.dev.host.ring.take (frLen (b.take 20))).length := by
  and_intros <;> decide +kernel

theorem wit_ReadFrames_result :
    let b := mosiOf Op.cmdResult (fr ([0, 0, 0x80] ++ List.replicate 12 0))
    (hosts id).dev.headCode b = 0 ∧ (hosts id).dev.macBad b = false ∧ (hosts id).dev.handleBad b = false ∧
    (hosts id).dev.notDirect b = false ∧ cmdBad b = false ∧
    5 + (entryBytes (hosts id).dev.host.hist.lastId (frLen b) ((hosts id).dev.host.hist.select (frLen b))).length ≤ b.length := by
  and_intros <;> decide +kernel

theorem wit_JournalFrames :
    let s := hosts fun d => d.onJrn fun j => { j with cfg := [0x02#8, 0x01#8], batch := [(0, 7)], staged := [(0, zeros 64)] }
    let b := mosiOf Op.jrnlRd (fr ([0, 0, 1] ++ List.replicate 72 0))
    let k := mosiOf Op.jrnlAck (fr [0, 0, 1, 0, 0, 0, 0, 7])
    s.dev.headCode b = 0 ∧ s.dev.macBad b = false ∧ s.dev.handleBad b = false ∧ s.dev.notDirect b = false ∧ cmdBad b = false ∧
    5 + 4 + 64 ≤ b.length ∧ s.dev.headCode (b.take 60) = 0 ∧ s.dev.headCode k = 0 ∧ s.dev.macBad k = false ∧ s.dev.handleBad k = false ∧
    s.dev.notDirect k = false ∧ cmdBad k = false ∧ s.dev.writeEnd k ≤ k.length ∧ 1 ≤ frLen k ∧ frLen k ≤ s.dev.jrn.batch.length ∧
    (s.dev.jrn.batch.getD (frLen k - 1) (0, 0)).2 = numAt k 5 4 := by and_intros <;> decide +kernel

theorem wit_RegisterWritten :
    let b := mosiOf Op.regWr (fr [0x00, 0x40, 1, 0, 0, 0, 0, 1])
    (hosts id).dev.headCode b = 0 ∧ (hosts id).dev.macBad b = false ∧ (hosts id).dev.handleBad b = false ∧
    (hosts id).dev.notDirect b = false ∧ cmdBad b = false ∧ frM b = false ∧ frLen b = 1 ∧ 9 ≤ b.length ∧ frAddr b < 0x100 := by
  and_intros <;> decide +kernel

/-- A request of the device space with ID 7, of a command of the device. -/
def reqFrame : Frame := fr [0, 0, 0, 0, 0x0F, 0, 0, 7]

theorem wit_RequestsEnter :
    let b := mosiOf Op.cmd reqFrame
    let h (k n : Nat) (st : HistState) : State :=
      hosts fun d => { d with host := { d.host with hist := { entries := List.replicate k { id := n, cmd := 0x0F, st := st }, newest := n } } }
    (hosts id).dev.headCode b = 0 ∧ (hosts id).dev.macBad b = false ∧ (hosts id).dev.handleBad b = false ∧
    (hosts id).dev.notDirect b = false ∧ cmdBad b = false ∧ (hosts id).dev.writeEnd b ≤ b.length ∧ numAt b 7 2 = 7 ∧
    ((hosts id).dev.history (frAddr b)).entries = [] ∧
    (∃ e ∈ ((h 1 7 .done).dev.history (frAddr b)).entries, e.id = 7) ∧
    (7 + 65536 - ((h 1 8 .done).dev.history (frAddr b)).newest) % 65536 = 65535 ∧
    (16 ≤ ((h 16 6 .pending).dev.history (frAddr b)).entries.length ∧ (7 + 65536 - ((h 16 6 .pending).dev.history (frAddr b)).newest) % 65536 = 1) := by
  and_intros <;> decide +kernel

theorem wit_MailboxFrames :
    let c : Chan := { kind := Kind.direct, prio := 0, plan := 0xFFFF, state := .active, results := [zeros 24] }
    let s := hosts fun d => (d.setFld F.SUP_MODE_CUR 5).setChan 3 c
    let w := mosiOf Op.mboxWr (fr [1, 3, 4, 0, 0, 0, 0, 40, 0, 0, 0, 0])
    let r := mosiOf Op.mboxRd (fr ([1, 3, 1] ++ List.replicate 40 0))
    s.dev.chan? 3 = some c ∧ s.dev.headCode w = 0 ∧ s.dev.handleBad w = false ∧ s.dev.notDirect w = false ∧ s.dev.macBad w = false ∧
    cmdBad w = false ∧ s.dev.writeEnd w ≤ w.length ∧ frAddr w % 256 = 3 ∧ s.dev.headCode r = 0 ∧ s.dev.handleBad r = false ∧
    s.dev.notDirect r = false ∧ frAddr r % 256 = 3 := by and_intros <;> decide +kernel

/-! ### Premises met: commands -/

/-- A device in COMMISSION with one command in its queue, request 7, changed by `f`. -/
def cmds (handle code : Nat) (payload : Bytes) (f : Dev → Dev) : State :=
  runs fun d => f { d.setFld F.SUP_MODE_CUR 0 with host := { d.host with
    cmdq := [⟨handle, code, 7, payload, 0, true⟩], hist := { entries := [{ id := 7, cmd := code, st := .queued }], newest := 7 } } }

/-- The command at the head of the queue is taken, and it and the device then meet `p`. -/
def taken (s : State) (code : Nat) (p : Cmd → Dev → Bool) : Bool :=
  match s.dev.takeCmd code with
  | none => false
  | some (c, d) => s.dev.phase == .running && ((d.history c.handle).entries.any fun x => x.id == c.reqId && x.st == .pending) && p c d

theorem takes_of_taken {s : State} {code : Nat} {p : Cmd → Dev → Bool} (h : taken s code p = true) :
    ∃ c d, s.dev.takes code c d ∧ p c d = true := by
  unfold taken at h
  split at h
  · cases h
  · rename_i c d hc
    simp only [Bool.and_eq_true, beq_iff_eq, List.any_eq_true] at h
    obtain ⟨⟨hp, x, hx, hi, ht⟩, h⟩ := h
    exact ⟨c, d, ⟨hp, hc, x, hx, hi, ht⟩, h⟩

theorem takesOwn_of_taken {s : State} {code : Nat} {p : Cmd → Dev → Bool} (h : taken s code (fun c d => c.handle == 0 && p c d) = true) :
    ∃ c d, s.dev.takesOwn code c d ∧ p c d = true := by
  obtain ⟨c, d, ht, h⟩ := takes_of_taken h
  simp only [Bool.and_eq_true, beq_iff_eq] at h
  exact ⟨c, d, ⟨ht, h.1⟩, h.2⟩

theorem unattached_of {d : Dev} {slot : Nat} (h1 : (d.chan? slot).all (·.pending == none) = true)
    (h2 : d.hf.all (·.owner != some slot) = true) (h3 : d.uhf.all (·.owner != some slot) = true) : d.unattached slot := by
  refine ⟨fun c hc => by simpa [hc] using h1, fun n => ?_, fun n => ?_⟩
  · unfold Dev.hfc
    rw [List.getD_eq_getElem?_getD]
    cases hn : d.hf[n]? with
    | none => simp
    | some x => simpa using (List.all_eq_true.mp h2) x (List.mem_of_getElem? hn)
  · unfold Dev.uhfc
    rw [List.getD_eq_getElem?_getD]
    cases hn : d.uhf[n]? with
    | none => simp
    | some x => simpa using (List.all_eq_true.mp h3) x (List.mem_of_getElem? hn)

theorem wit_CommandsInOrder : (cmds 0 0x0F [] id).dev.phase = .running ∧
    (cmds 0 0x0F [] id).dev.host.cmdq = [⟨0, 0x0F, 7, [], 0, true⟩] ∧ (0x0F : Nat) ≠ 0xFF ∧ (1 : Nat) ≠ 0x0F ∧ (0x40 : Nat) ≠ 0x0F := by
  and_intros <;> decide +kernel

/-- An entry of CHN_CREATE: slot, kind DIRECT, PLAN 0xFFFF, with START. -/
def entryOf (slot plan : Nat) : Bytes := beBytes 2 slot ++ [5#8, 3#8] ++ beBytes 2 plan ++ [1#8, 0#8]

theorem wit_ChannelsMade :
    (∃ c d, (cmds 0 1 (entryOf 255 0xFFFF) id).dev.takesOwn 1 c d ∧ decide (d.checks = [] ∧ d.createRefused c.payload = none) = true) ∧
    (∃ c d, (cmds 0 1 (entryOf 255 0) id).dev.takesOwn 1 c d ∧
      decide (d.checks = [] ∧ (d.createRefused c.payload).map (·.code) = some Code.CC_CHN_PLAN) = true) := by
  constructor <;> exact takesOwn_of_taken (by decide +kernel)

/-- A device with a command of the channel in slot 3. -/
def chanCmds (code : Nat) (payload : Bytes) (ch : Chan) (f : Dev → Dev) : State :=
  cmds 0x103 code payload fun d => f (d.setChan 3 { ch with hist := { entries := [{ id := 7, cmd := code, st := .queued }], newest := 7 } })

/-- A DIRECT channel in a state. -/
def directChan (st : ChanState) : Chan := { kind := Kind.direct, prio := 1, plan := 0xFFFF, state := st }

/-- The premises about the channel of a command, on the device once it is taken. -/
def chanMet (c : Cmd) (d : Dev) (p : Chan → Bool) : Bool :=
  d.liveSlot c.handle == some 3 && (match d.chan? 3 with | some ch => p ch | none => false) && (d.chan? 3).all (·.pending == none) &&
    d.hf.all (·.owner != some 3) && d.uhf.all (·.owner != some 3)

theorem unattached_of_met {c : Cmd} {d : Dev} {p : Chan → Bool} (h : chanMet c d p = true) :
    d.liveSlot c.handle = some 3 ∧ (∃ ch, d.chan? 3 = some ch ∧ p ch = true) ∧ d.unattached 3 := by
  simp only [chanMet, Bool.and_eq_true, beq_iff_eq] at h
  obtain ⟨⟨⟨⟨h1, h2⟩, h3⟩, h4⟩, h5⟩ := h
  refine ⟨h1, ?_, unattached_of h3 h4 h5⟩
  cases hc : d.chan? 3 with
  | none => simp [hc] at h2
  | some ch => exact ⟨ch, rfl, by simpa [hc] using h2⟩

theorem wit_ChannelsStarted :
    (∃ c d, (chanCmds 2 [] (directChan .stopped) id).dev.takes 2 c d ∧
      chanMet c d (fun ch => ch.state == .stopped && d.checks == [] && (d.chanRefused ch.spec d.checkMode).isNone) = true) ∧
    (∃ c d, (chanCmds 2 [] (directChan .active) id).dev.takes 2 c d ∧ chanMet c d (fun ch => ch.state != .stopped) = true) := by
  constructor <;> exact takes_of_taken (by decide +kernel)

theorem wit_ChannelsStopped :
    (∃ c d, (chanCmds 3 (zeros 4) (directChan .active) id).dev.takes 3 c d ∧
      chanMet c d (fun ch => !bit (byteAt c.payload 0) 0 && ch.state == .active) = true) ∧
    (∃ c d, (chanCmds 3 (1#8 :: zeros 3) (directChan .active) id).dev.takes 3 c d ∧
      chanMet c d (fun ch => bit (byteAt c.payload 0) 0 && ch.state == .active) = true) ∧
    (∃ c d, (chanCmds 3 (zeros 4) (directChan .stopping) id).dev.takes 3 c d ∧
      chanMet c d (fun ch => !bit (byteAt c.payload 0) 0 && ch.state == .stopping) = true) ∧
    (∃ c d, (chanCmds 3 (1#8 :: zeros 3) (directChan .running) id).dev.takes 3 c d ∧
      chanMet c d (fun ch => bit (byteAt c.payload 0) 0 && ch.state == .running) = true) ∧
    (∃ c d, (chanCmds 3 (zeros 4) { directChan .running with step := some { tag := {}, deadline := 9, params := [], tmpl := [], tbits := 0, retries := 0, worst := 0 } } id).dev.takes 3 c d ∧
      chanMet c d (fun ch => !bit (byteAt c.payload 0) 0 && ch.state == .running && ch.pending.isNone &&
        ch.step.any fun st => st.chain.isNone && st.phase == .waiting) = true) := by
  and_intros <;> exact takes_of_taken (by decide +kernel)

/-- A METER_READ channel with one target of its cycle to come. -/
def meterChan (st : ChanState) : Chan :=
  { kind := Kind.presence, prio := 1, plan := 0, state := st, cycle := { index := 0, todo := [(2, [], 40)] } }

theorem wit_RunAndDestroy :
    (∃ c d, (chanCmds 4 [] (meterChan .active) (·.setFld F.SUP_MODE_CUR 3)).dev.takes 4 c d ∧
      chanMet c d (fun ch => ch.state == .active && ch.kind != Kind.direct && !d.isHeld ch.kind && d.nextTarget ch == some ((2, [], 40), [])) = true) ∧
    (∃ c d, (chanCmds 4 [] (directChan .active) id).dev.takes 4 c d ∧ chanMet c d (fun ch => ch.kind == Kind.direct) = true) ∧
    (∃ c d, (chanCmds 5 [] (meterChan .active) id).dev.takes 5 c d ∧ chanMet c d (fun ch => ch.state == .active) = true) ∧
    (∃ c d, (chanCmds 5 [] (meterChan .stopping) id).dev.takes 5 c d ∧ chanMet c d (fun ch => ch.state == .stopping) = true) := by
  and_intros <;> exact takes_of_taken (by decide +kernel)

/-- The Vault with a key in slot 1 of a purpose. -/
def keyed (purpose : Nat) (d : Dev) : Dev :=
  { d with vault := { d.vault with slots := d.vault.slots.set 1 (some ⟨zeros 16, purpose, 0, 1⟩), drbgOk := true } }

/-- KEY_IMPORT of the 16 bytes 0–15 into KS31 with PURPOSE 4 and KEY_ID 0x1234, wrapped (RFC 3394) under a key of zeros in slot 1. -/
def importEntry : Bytes :=
  [31#8, 4#8, 1#8, 0#8, 0x12#8, 0x34#8, 0#8, 0#8] ++
    beBytes 32 76064654829225417697011784309105593475958546982132564744897801614012900762863

/-- What it wraps: the key, then the slot, PURPOSE and KEY_ID. -/
def importPlain : Bytes := (List.range 16).map (BitVec.ofNat 8 ·) ++ [31#8, 4#8, 0x12#8, 0x34#8, 0#8, 0#8, 0#8, 0#8]

/-- The registers of an unwrap as bytes. -/
def regs3 (a x y z : Nat) : Bytes × List Bytes := (beBytes 8 a, [beBytes 8 x, beBytes 8 y, beBytes 8 z])

/-- Three steps of an unwrap of three registers, from counter `t + 3`. -/
def unwrap3 (t : Nat) (p : Bytes × List Bytes) : Bytes × List Bytes :=
  let p := unwrapStep (zeros 16) (t + 3) 3 p.1 p.2
  let p := unwrapStep (zeros 16) (t + 2) 2 p.1 p.2
  unwrapStep (zeros 16) (t + 1) 1 p.1 p.2

theorem unwrapSteps_three (j : Nat) (p : Bytes × List Bytes) :
    unwrapSteps (zeros 16) 3 (3 * j + 3) p.1 p.2 = unwrapSteps (zeros 16) 3 (3 * j) (unwrap3 (3 * j) p).1 (unwrap3 (3 * j) p).2 := by
  have h2 : (3 * j + 2) % 3 + 1 = 3 := by omega
  have h1 : (3 * j + 1) % 3 + 1 = 2 := by omega
  have h0 : 3 * j % 3 + 1 = 1 := by omega
  simp only [unwrapSteps, unwrap3, h2, h1, h0]

theorem unwrap_0 : unwrap3 15 (regs3 12117798633152103606 4155041779940718844 13283278526643393923 1103947551340553455) =
    regs3 8154899209545377027 1398840696566309655 6237984390551405710 13372632148121467868 := by decide +kernel

theorem unwrap_1 : unwrap3 12 (regs3 8154899209545377027 1398840696566309655 6237984390551405710 13372632148121467868) =
    regs3 12181695614545215873 17282525282597237848 16164084133662150266 14705006279423824674 := by decide +kernel

theorem unwrap_2 : unwrap3 9 (regs3 12181695614545215873 17282525282597237848 16164084133662150266 14705006279423824674) =
    regs3 3056649805471238094 1523595235155784245 10413879297555898750 10730616402305977105 := by decide +kernel

theorem unwrap_3 : unwrap3 6 (regs3 3056649805471238094 1523595235155784245 10413879297555898750 10730616402305977105) =
    regs3 11016579235775939712 4473157974832969745 6698180318865097137 1996546213805769953 := by decide +kernel

theorem unwrap_4 : unwrap3 3 (regs3 11016579235775939712 4473157974832969745 6698180318865097137 1996546213805769953) =
    regs3 10824507898633092495 11305155503059106832 4112325933609277899 13919207686989309991 := by decide +kernel

theorem unwrap_5 : unwrap3 0 (regs3 10824507898633092495 11305155503059106832 4112325933609277899 13919207686989309991) =
    regs3 12008468691120727718 283686952306183 579005069656919567 2234931329630208000 := by decide +kernel

theorem wit_KeysAndSessions_unwrap : keyUnwrap (zeros 16) (slice importEntry 8 32) = some importPlain := by
  have h : unwrapSteps (zeros 16) 3 18 (regs3 12117798633152103606 4155041779940718844 13283278526643393923 1103947551340553455).1 (regs3 12117798633152103606 4155041779940718844 13283278526643393923 1103947551340553455).2 = regs3 12008468691120727718 283686952306183 579005069656919567 2234931329630208000 := by
    rw [unwrapSteps_three 5, unwrap_0, unwrapSteps_three 4, unwrap_1, unwrapSteps_three 3, unwrap_2, unwrapSteps_three 2, unwrap_3,
      unwrapSteps_three 1, unwrap_4, unwrapSteps_three 0, unwrap_5]
    rfl
  have ht : (slice importEntry 8 32).take 8 = (regs3 12117798633152103606 4155041779940718844 13283278526643393923 1103947551340553455).1 := by decide +kernel
  have hd : chunks 8 3 ((slice importEntry 8 32).drop 8) = (regs3 12117798633152103606 4155041779940718844 13283278526643393923 1103947551340553455).2 := by decide +kernel
  have hl : (slice importEntry 8 32).length / 8 - 1 = 3 := by decide +kernel
  simp only [keyUnwrap, hl, ht, hd, h]
  decide +kernel

theorem wit_KeysAndSessions_entry : byteAt importEntry 2 = 1 ∧ bit 16 4 = true ∧ 8 ≤ byteAt importEntry 0 ∧ byteAt importEntry 0 ≤ 31 ∧
    keyEntryBad importEntry = false ∧
    slice importPlain 16 8 = slice importEntry 0 2 ++ slice importEntry 4 2 ++ zeros 4 := by and_intros <;> decide +kernel

theorem wit_KeysAndSessions_import :
    (∃ c d, (cmds 0 0x30 importEntry fun d => d.setFld F.SUP_MODE_CUR 5).dev.takesOwn 0x30 c d ∧ decide (d.mode ≠ Mode.commission) = true) ∧
    (∃ c d, (cmds 0 0x30 (7#8 :: importEntry.drop 1) id).dev.takesOwn 0x30 c d ∧ decide (byteAt c.payload 0 < 8) = true) ∧
    (∃ c d, (cmds 0 0x30 importEntry (keyed 16)).dev.takesOwn 0x30 c d ∧
      (d.mode == Mode.commission && c.payload == importEntry && d.vault.slots.getD 1 none == some ⟨zeros 16, 16, 0, 1⟩) = true) ∧
    (∃ c d, (cmds 0 0x31 [8#8, 0#8, 0#8, 0#8] fun d => keyed 4 (d.setChan 3 (directChan .active))).dev.takesOwn 0x31 c d ∧
      (d.mode == Mode.commission && byteAt c.payload 0 == 8 && d.chans.all fun x => x.2.step.isNone) = true) ∧
    (∃ c d, (cmds 0 0x31 [32#8, 0#8, 0#8, 0#8] id).dev.takesOwn 0x31 c d ∧ decide (31 < byteAt c.payload 0) = true) := by
  and_intros <;> exact takesOwn_of_taken (by decide +kernel)

/-- A KEY_IMPORT entry that fails one check after another. -/
theorem wit_KeysAndSessions_refused :
    (∃ c d, (cmds 0 0x30 (overlay importEntry 1 [0#8]) (keyed 16)).dev.takesOwn 0x30 c d ∧
      (d.mode == Mode.commission && byteAt c.payload 0 == 31 && keyEntryBad c.payload) = true) ∧
    (∃ c d, (cmds 0 0x30 (overlay importEntry 2 [9#8]) (keyed 16)).dev.takesOwn 0x30 c d ∧
      (d.mode == Mode.commission && !keyEntryBad c.payload && (d.vault.slots.getD (byteAt c.payload 2) none).isNone) = true) ∧
    (∃ c d, (cmds 0 0x30 importEntry (keyed 4)).dev.takesOwn 0x30 c d ∧
      (d.mode == Mode.commission && !keyEntryBad c.payload && (d.vault.slots.getD (byteAt c.payload 2) none) == some ⟨zeros 16, 4, 0, 1⟩ &&
        !bit 4 4) = true) ∧
    (∃ c d, (cmds 0 0x30 (importEntry.take 16) (keyed 16)).dev.takesOwn 0x30 c d ∧
      (d.mode == Mode.commission && !keyEntryBad c.payload && (d.vault.slots.getD (byteAt c.payload 2) none) == some ⟨zeros 16, 16, 0, 1⟩ &&
        (keyUnwrap (zeros 16) (slice c.payload 8 32)).isNone) = true) ∧
    (∃ c d, (cmds 0 0x30 (overlay importEntry 1 [1#8]) (keyed 16)).dev.takesOwn 0x30 c d ∧
      (d.mode == Mode.commission && !keyEntryBad c.payload && (d.vault.slots.getD (byteAt c.payload 2) none) == some ⟨zeros 16, 16, 0, 1⟩ &&
        slice c.payload 8 32 == slice importEntry 8 32 &&
        slice importPlain 16 8 != slice c.payload 0 2 ++ slice c.payload 4 2 ++ zeros 4) = true) := by
  and_intros <;> exact takesOwn_of_taken (by decide +kernel)

theorem wit_KeysAndSessions_session :
    (∃ c d, (cmds 0 0x32 (1#8 :: zeros 11) (keyed 4)).dev.takesOwn 0x32 c d ∧
      (d.vault.drbgOk && (d.vault.slots.getD (byteAt c.payload 0) none).any fun k => bit k.purpose 2) = true) ∧
    (∃ c d, (cmds 0 0x32 (31#8 :: zeros 11) (keyed 4)).dev.takesOwn 0x32 c d ∧
      (byteAt c.payload 0 == 31 && (d.vault.slots.getD (byteAt c.payload 0) none).isNone) = true) ∧
    (∃ c d, (cmds 0 0x32 (4#8 :: zeros 11) (keyed 4)).dev.takesOwn 0x32 c d ∧ (byteAt c.payload 0 == 4) = true) ∧
    (∃ c d, (cmds 0 0x32 (1#8 :: zeros 11) (keyed 16)).dev.takesOwn 0x32 c d ∧
      ((d.vault.slots.getD (byteAt c.payload 0) none).any fun k => !bit k.purpose 2) = true) ∧
    (∃ c d, (cmds 0 0x32 (1#8 :: zeros 11) fun d => (keyed 4 d).onVault fun v => { v with drbgOk := false }).dev.takesOwn 0x32 c d ∧
      (!d.vault.drbgOk && (d.vault.slots.getD (byteAt c.payload 0) none).any fun k => bit k.purpose 2) = true) ∧
    (∃ c d, (cmds 0 0x33 [] (keyed 4)).dev.takesOwn 0x33 c d ∧ true = true) := by
  and_intros <;> exact takesOwn_of_taken (by decide +kernel)

/-- A latched device. -/
def latch (d : Dev) : Dev := d.setCs 0x20 (2 ^ 31 + 1)

/-- REARM RESPONSE with the tag for serial 0 and counts 0, under the re-arm key of a root of zeros. -/
def rearmOk : Bytes := [2#8, 0#8, 0#8, 0#8] ++ beBytes 16 294438959451614902547118529273627228848

theorem wit_RearmAndTimeSet :
    (∃ c d, (cmds 0 0x34 (1#8 :: zeros 3) latch).dev.takesOwn 0x34 c d ∧ (byteAt c.payload 0 == 1 && d.latched) = true) ∧
    (∃ c d, (cmds 0 0x34 (1#8 :: zeros 3) id).dev.takesOwn 0x34 c d ∧ (byteAt c.payload 0 == 1 && !d.latched) = true) ∧
    (∃ c d, (cmds 0 0x34 (2#8 :: zeros 19) id).dev.takesOwn 0x34 c d ∧ (byteAt c.payload 0 == 2 && d.rearmDenied State.reset.fuses) = true) ∧
    (∃ c d, (cmds 0 0x34 (2#8 :: zeros 19) latch).dev.takesOwn 0x34 c d ∧ (byteAt c.payload 0 == 2 && !d.rearmDenied State.reset.fuses &&
      cmac (State.reset.fuses.derive [0x52#8, 0x45#8, 0x41#8, 0x52#8, 0x4D#8]) (d.rearmMsg State.reset.fuses) != slice c.payload 4 16) = true) ∧
    (∃ c d, (cmds 0 0x34 rearmOk latch).dev.takesOwn 0x34 c d ∧ (byteAt c.payload 0 == 2 && !d.rearmDenied State.reset.fuses &&
      cmac (State.reset.fuses.derive [0x52#8, 0x45#8, 0x41#8, 0x52#8, 0x4D#8]) (d.rearmMsg State.reset.fuses) == slice c.payload 4 16) = true) ∧
    (∃ c d, (cmds 0 0x40 (zeros 8) id).dev.takesOwn 0x40 c d ∧ (numAt c.payload 0 6 == 0) = true) ∧
    (∃ c d, (cmds 0 0x40 (beBytes 6 1 ++ [0#8, 1#8]) id).dev.takesOwn 0x40 c d ∧ (!zeroAt c.payload 6 7) = true) ∧
    (∃ c d, (cmds 0 0x40 (beBytes 6 (2 ^ 48 - 1) ++ zeros 2) id).dev.takesOwn 0x40 c d ∧
      (decide (0 < numAt c.payload 0 6) && zeroAt c.payload 6 7 && !d.journalling) = true) ∧
    (∃ c d, (cmds 0 0x40 (beBytes 6 1 ++ zeros 2) (·.setFld F.JRN_STAT_STATE 2)).dev.takesOwn 0x40 c d ∧
      (decide (0 < numAt c.payload 0 6) && zeroAt c.payload 6 7 && d.journalling && !d.jrn.full && !d.spent) = true) := by
  and_intros <;> exact takesOwn_of_taken (by decide +kernel)

/-- HFC0 enabled and healthy, HF15 bound to a valid profile and enabled, in COMMISSION. -/
def sweepReady (d : Dev) : Dev :=
  { (((d.setFlag (F.HFCn_CTL_ENABLE 0) true).setFlag (F.HFPn_CFG_ENABLE 15) true).setFld (F.HFPn_CFG_PROFILE 15) 1) with
    tables := { d.tables with profiles := d.tables.profiles.set 1 (0x80#8 :: 7#8 :: zeros 46) } }

theorem wit_Sweeps :
    (∀ row ∈ [0x24, 0x25, 0x26, 0x27], ∃ c d, (cmds 0 row [0x80#8, 0#8, 0#8, 0#8] (·.setFld F.SUP_MODE_CUR 3)).dev.takesOwn row c d ∧
      (d.mode != Mode.commission) = true) ∧
    (∃ c d, (cmds 0 0x24 [0x80#8, 0#8, 0#8, 0#8] fun d => { d with trans := some ⟨3, 0, 0⟩ }).dev.takesOwn 0x24 c d ∧
      (d.trans.any fun t => t.target != Mode.commission) = true) ∧
    (∀ row ∈ [0x24, 0x25, 0x26, 0x27], ∃ c d, (cmds 0 row [0x80#8, 0#8, 0#8, 0#8] id).dev.takesOwn row c d ∧
      (d.mode == Mode.commission && d.trans.isNone) = true) ∧
    (cmds 0 0x25 [0x80#8, 0#8, 0#8, 0#8] id).dev.hfDirectRuns = false ∧
    (runs fun d => d.setChan 3 { directChan .running with step := some { tag := {}, deadline := 9, params := [], tmpl := [], tbits := 0, retries := 0, worst := 0, phase := .running } }).dev.hfDirectRuns = true := by
  refine ⟨?_, takesOwn_of_taken (by decide +kernel), ?_, by decide +kernel, by decide +kernel⟩ <;> intro row h <;>
    simp only [List.mem_cons, List.not_mem_nil, or_false] at h <;> obtain rfl | rfl | rfl | rfl := h <;>
    exact takesOwn_of_taken (by decide +kernel)

/-- UHFC0 enabled and healthy, UHF7 bound to a valid profile and enabled, region E in force. -/
def leakReady (d : Dev) : Dev :=
  { (((d.setFlag (F.UHFCn_CTL_ENABLE 0) true).setFlag (F.UHFPn_CFG_ENABLE 7) true).setFld (F.UHFPn_CFG_PROFILE 7) 1).setFld F.GOV_CHMASK_LO_MASK 15 with
    gov := { d.gov with region := regionE }, tables := { d.tables with profiles := d.tables.profiles.set 1 (0x81#8 :: zeros 47) } }

theorem wit_Sweeps_leak :
    (let d := (cmds 0 0x27 [0x80#8, 0#8, 0#8, 0#8] leakReady).dev
     d.windowOpen = false ∧ d.gatedA = false ∧ (∀ p, d.gatedB p = false) ∧ d.leakRouteBad 0x80 = false ∧ 7 ∈ bitsSet 8 0x80 ∧
     (d.leakTeam 7).isSome = true) ∧
    (cmds 0 0x27 [0x80#8, 0#8, 0#8, 0#8] fun d => { leakReady d with
      tables := { d.tables with profiles := d.tables.profiles.set 1 (0x81#8 :: 0x40#8 :: zeros 46) } }).dev.leakRouteBad 0x80 = true ∧
    (let d := (cmds 0 0x27 [0x80#8, 0#8, 0#8, 0#8] fun d => { (leakReady d).setFlag F.COEX_CFG_PW_ALL true with windows := [(0, 0)] }).dev
     d.windowOpen = true ∧ (d.leakTeam 7).isSome = true) ∧
    (let d := (cmds 0 0x27 [0x80#8, 0#8, 0#8, 0#8] fun d => ((leakReady d).setFlag F.COEX_CFG_A_EN true).setFlag F.COEX_CFG_A_ALL true).dev
     d.windowOpen = false ∧ d.gatedA = true ∧ d.coexA.grants = false ∧ (d.leakTeam 7).isSome = true) := by
  have h : (cmds 0 0x27 [0x80#8, 0#8, 0#8, 0#8] leakReady).dev.flag F.COEX_CFG_B_EN = false := by decide +kernel
  refine ⟨⟨by decide +kernel, by decide +kernel, fun p => ?_, by decide +kernel, by decide +kernel, by decide +kernel⟩, by decide +kernel, ?_, ?_⟩
  · simp only [Dev.gatedB, h, Bool.false_and]
  · and_intros <;> decide +kernel
  · and_intros <;> decide +kernel

/-- A tuning measurement whose phase is smallest at one code. -/
def tuneAt (k : Nat) : TuneMeasure := { phases := (List.replicate 256 9#10).set k 1#10, ma := 0, slope := 0#16 }

theorem wit_Sweeps_codes : tuneCode (tuneAt 0) = 0 ∧ tuneCode (tuneAt 255) = 255 ∧ tuneCode (tuneAt 7) = 7 := by and_intros <;> decide +kernel

theorem wit_Sweeps_port :
    let d := (cmds 0 0 [] sweepReady).dev
    d.sweepChains ≠ [] ∧ d.hfPortOk 15 = true ∧ d.hfPermitted 15 = true ∧ d.hfChainOn 15 = none ∧
    (d.profile (d.fld (F.HFPn_CFG_PROFILE 15))).length = 48 := by and_intros <;> decide +kernel

theorem wit_FlashAndRegion_region :
    (∃ c d, (cmds 0 0x28 [1#8, 0#8, 0#8, 0#8] id).dev.takesOwn 0x28 c d ∧
      (regionOf (byteAt c.payload 0) == some regionE && d.mode == Mode.commission && regionBlank State.reset.fuses.region &&
        !State.reset.fuses.blowTried && c.mac) = true) ∧
    (∃ c d, (cmds 0 0x28 [3#8, 0#8, 0#8, 0#8] id).dev.takesOwn 0x28 c d ∧ (regionOf (byteAt c.payload 0)).isNone = true) := by
  and_intros <;> exact takesOwn_of_taken (by decide +kernel)

/-- The table and sections of a smallest image: DEVICE and a section of type 0x0C, 16 bytes each of zeros. -/
def imgRest : Bytes :=
  [0x01#8, 1#8, 0#8, 0#8] ++ beBytes 4 288 ++ beBytes 4 16 ++ beBytes 4 (crc32 (zeros 16)) ++
  [0x0C#8, 1#8, 0#8, 0#8] ++ beBytes 4 304 ++ beBytes 4 16 ++ beBytes 4 (crc32 (zeros 16)) ++ zeros 32

/-- Its header, not yet signed. -/
def imgHead : Bytes :=
  let h := overlay (overlay (overlay (overlay (overlay (zeros 256) 0 (beBytes 4 0x41474C31)) 4 (beBytes 2 1)) 8 (beBytes 4 320)) 21 [2#8])
    24 (beBytes 2 0x4816)
  let h := overlay h 68 (beBytes 4 (crc32 (imgRest.take 32)))
  overlay h 252 (beBytes 4 (crc32 (h.take 252)))

/-- The open write of that image to slot A. -/
def imgWrite (got : Nat) : ImgWrite := { slot := .a, len := 320, got := got, head := imgHead.take got }

/-- NOR flash holding what lies beyond the header. -/
def imgNor : Mem := Mem.writeN [] (slotBase .a + 256) imgRest

set_option maxRecDepth 100000 in
theorem wit_FlashAndRegion_image :
    (∃ c d, (cmds 0 0x21 ([1#8, 0#8, 0#8, 0#8] ++ beBytes 4 0x1000000) id).dev.takesOwn 0x21 c d ∧
      (d.mode == Mode.commission && byteAt c.payload 0 == 1 && d.image.isNone) = true) ∧
    (∃ c d, (cmds 0 0x21 ([2#8, 0#8, 0#8, 0#8] ++ beBytes 4 255 ++ [9#8]) fun d => { d with image := some (imgWrite 255) }).dev.takesOwn 0x21 c d ∧
      (d.mode == Mode.commission && byteAt c.payload 0 == 2 && match d.image with
        | some w => decide (numAt c.payload 4 4 = w.got ∧ w.got + (c.payload.length - 8) ≤ 0x1000000)
        | none => false) = true) ∧
    (∃ c d, (cmds 0 0x21 [3#8, 0#8, 0#8, 0#8] fun d => { d with
        image := some (imgWrite 320), vault := { d.vault with slots := d.vault.slots.set 0 (some ⟨zeros 16, 8, 0, 1⟩) } }).dev.takesOwn 0x21 c d ∧
      (d.mode == Mode.commission && byteAt c.payload 0 == 3 && (d.vault.slots.getD 0 none).isSome && match d.image with
        | some w => endCode imgNor w == 0
        | none => false) = true) ∧
    (∃ c d, (cmds 0 0x21 [4#8, 0#8, 0#8, 0#8] id).dev.takesOwn 0x21 c d ∧ (d.mode == Mode.commission && byteAt c.payload 0 == 4) = true) := by
  and_intros <;> exact takesOwn_of_taken (by decide +kernel)

theorem wit_FlashAndRegion_refused :
    (∀ op ∈ [1#8, 2#8, 3#8, 4#8], ∃ c d, (cmds 0 0x21 (op :: zeros 7) (·.setFld F.SUP_MODE_CUR 5)).dev.takesOwn 0x21 c d ∧
      (d.mode != Mode.commission && byteAt c.payload 0 == op.toNat) = true) ∧
    (∃ c d, (cmds 0 0x21 (1#8 :: zeros 7) fun d => { d with image := some (imgWrite 0) }).dev.takesOwn 0x21 c d ∧
      (byteAt c.payload 0 == 1 && d.image != none) = true) ∧
    (∀ op ∈ [2#8, 3#8], ∃ c d, (cmds 0 0x21 (op :: zeros 7) id).dev.takesOwn 0x21 c d ∧
      (byteAt c.payload 0 == op.toNat && d.image == none) = true) ∧
    (∃ c d, (cmds 0 0x21 ([2#8, 0#8, 0#8, 0#8] ++ beBytes 4 255) fun d => { d with image := some { imgWrite 0 with got := 254 } }).dev.takesOwn 0x21 c d ∧
      (byteAt c.payload 0 == 2 && d.image.any fun w => numAt c.payload 4 4 != w.got) = true) ∧
    (∃ c d, (cmds 0 0x21 [3#8, 0#8, 0#8, 0#8] fun d => { d with image := some { slot := .a, len := 320, got := 0, head := [] } }).dev.takesOwn 0x21 c d ∧
      (d.mode == Mode.commission && byteAt c.payload 0 == 3 && d.image.any fun w => endCode State.reset.nor w != 0) = true) ∧
    (∃ c d, (cmds 0 0x28 [1#8, 0#8, 0#8, 0#8] (·.setFld F.SUP_MODE_CUR 5)).dev.takesOwn 0x28 c d ∧ (d.mode != Mode.commission) = true) := by
  refine ⟨?_, takesOwn_of_taken (by decide +kernel), ?_, takesOwn_of_taken (by decide +kernel), takesOwn_of_taken (by decide +kernel),
    takesOwn_of_taken (by decide +kernel)⟩ <;> intro op h <;> simp only [List.mem_cons, List.not_mem_nil, or_false] at h
  · obtain rfl | rfl | rfl | rfl := h <;> exact takesOwn_of_taken (by decide +kernel)
  · obtain rfl | rfl := h <;> exact takesOwn_of_taken (by decide +kernel)

/-! ### Premises met: power, tamper, modes, WATCH -/

/-- The device in a phase. -/
def inPhase (p : Phase) (f : Dev → Dev) : State := runs fun d => f { d with phase := p }

theorem wit_PowerLossAndResets :
    (runs id).dev.phase = .running ∧ (inPhase .booting id).dev.phase = .booting ∧ (inPhase .waking id).dev.phase = .waking ∧
    State.reset.dev.phase = .down ∧ (inPhase .watch id).dev.phase = .watch ∧
    ((runs fun d => { d with pgood := true }).dev.pgood = true ∧ (runs id).dev.attic.up = true ∧ (runs id).dev.resetN = true) ∧
    (runs fun d => { d with pfail := true }).dev.pfail = true ∧ (runs id).dev.pfail = false ∧
    (runs (·.onAttic fun _ => { up := false })).dev.attic.up = false := by and_intros <;> decide +kernel

theorem wit_Restarts :
    (∃ c d, (cmds 0 0x0F [] id).dev.takesOwn 0x0F c d ∧ true = true) ∧
    (let s := runs fun d => { d with seqWdogAt := some 1, time := 10000000 }
     s.dev.phase = .running ∧ s.dev.seqWdogAt = some 1 ∧ s.dev.time < 1 + 10000000) ∧
    (let s := inPhase .flushed fun d => { d with pfailAt := 2 ^ 64 - 10001 }
     s.dev.phase = .flushed ∧ s.dev.pfail = false ∧ s.dev.pfailAt + 10000 < 2 ^ 64 ∧ s.dev.time < 2 ^ 64) ∧
    (runs id).dev.phase ≠ .flushed ∧ (inPhase .flushed fun d => { d with pfail := true }).dev.pfail = true ∧
    (∀ st ∈ [Stall.slot .b true, .step 3], let s := inPhase .booting fun d => { d with stalled := some st, wdogFrom := 2 ^ 64 - 1000001 }
     s.dev.phase = .booting ∧ s.dev.stalled = some st ∧ s.dev.wdogFrom + 1000000 < 2 ^ 64 ∧ s.dev.time < 2 ^ 64) ∧
    (runs id).dev.phase ≠ .booting ∧ (inPhase .booting id).dev.stalled = none := by
  refine ⟨takesOwn_of_taken (by decide +kernel), ?_⟩
  and_intros <;> decide +kernel

theorem wit_PowerOnAndHalt :
    State.reset.dev.phase = .down ∧ State.reset.fuses.hard = false ∧ State.reset.dev.latched = false ∧ State.reset.fuses.hardBlown = false ∧
    State.reset.fuses.rootOk = true ∧ State.reset.dev.attic.sources = 0 ∧ State.reset.dev.pgood = false ∧
    (cmds 0 0 [] latch).dev.latched = true ∧ (State.reset.withDev (latch State.reset.dev)).dev.phase = .down ∧
    (State.reset.withDev (latch State.reset.dev)).dev.latched = true ∧ ({} : BootEnv).stall = none ∧ ({} : BootEnv).selfTestOk = true ∧
    ({ State.reset.fuses with hard := true }).hardBlown = false ∧ ({ State.reset.fuses with rootOk := false }).rootOk = false ∧
    ∀ k, (((latch State.reset.dev).boots.head?.getD {}).stall ≠ some (.step k)) := by
  refine ⟨?_, ?_, ?_, ?_, ?_, ?_, ?_, ?_, ?_, ?_, ?_, ?_, ?_, ?_, fun k => ?_⟩
  case refine_15 => simp [latch, Dev.setCs, State.reset]
  all_goals decide +kernel

theorem wit_Tamper :
    (0x80#9).toNat &&& (inPhase .down id).dev.armed State.reset.fuses ≠ 0 ∧ (inPhase .down id).dev.chans = [] ∧
    (inPhase .down id).dev.attic.sources = 0 ∧ (0x80#9).toNat &&& (runs id).dev.armed State.reset.fuses ≠ 0 ∧
    State.reset.fuses.hard = false ∧ State.reset.fuses.hardBlown = false ∧
    (0x80#9).toNat &&& (inPhase .halted id).dev.armed { State.reset.fuses with hard := true } ≠ 0 ∧
    (0x80#9).toNat &&& (inPhase .booting id).dev.armed State.reset.fuses ≠ 0 ∧
    (0x80#9).toNat &&& (inPhase .watch id).dev.armed State.reset.fuses ≠ 0 ∧
    bit ((inPhase .watch id).dev.fld F.WATCH_CTL_WAKE_EN) 3 = false ∧
    bit ((inPhase .watch (·.setFld F.WATCH_CTL_WAKE_EN 8)).dev.fld F.WATCH_CTL_WAKE_EN) 3 = true ∧
    (runs (·.onAttic fun a => { a with sources := 128 })).dev.attic.sources ≠ 0 ∧
    (0x20#9).toNat &&& (runs (·.onAttic fun a => { a with sources := 128 })).dev.armed State.reset.fuses ≠ 0 ∧
    (0x100#9).toNat &&& (runs id).dev.armed { State.reset.fuses with debugOff := true } = 0 := by and_intros <;> decide +kernel

theorem wit_GeneratorAndClocks :
    (runs (keyed 4)).dev.vault.drbgOk = true ∧ (runs id).dev.vault.drbgOk = false ∧ (runs id).dev.phase ∈ [Phase.running, .halted, .flushed] ∧
    (runs id).dev.attic.up = true ∧ (runs id).dev.attic.crystal = true ∧ (inPhase .watch id).dev.phase ≠ .running ∧
    (runs id).dev.seqWdogAt = none ∧
    (let d := (runs fun d => { d with seqWdogAt := some 1, time := 10000001 }).dev
     d.seqWdogAt = some 1 ∧ 1 + 10000000 ≤ d.time) := by and_intros <;> decide +kernel

theorem wit_Modes :
    (runs (·.setFlag F.SUP_MODE_BUSY true)).dev.flag F.SUP_MODE_BUSY = true ∧
    (let d := (runs (·.setFld F.SUP_MODE_CUR 5)).dev
     d.flag F.SUP_MODE_BUSY = false ∧ (5 : Fin 16).val = d.mode ∧ (15 : Fin 16).val ≠ d.mode ∧ (d.modeRefused 15 true).isSome = true ∧
     d.checks = [] ∧ d.chans = [] ∧ (0 : Fin 16).val ≠ d.mode ∧ d.modeRefused 0 true = none) ∧
    (runs fun d => { d with trans := some ⟨5, 0, 0⟩ }).dev.trans = some ⟨5, 0, 0⟩ ∧ (5 : Nat) ≠ Mode.watch ∧
    (runs fun d => { d with trans := some ⟨Mode.watch, 0, 0⟩ }).dev.trans = some ⟨Mode.watch, 0, 0⟩ := by and_intros <;> decide +kernel

theorem wit_WakeCompletes :
    (inPhase .waking (·.onAttic fun a => { a with wakeTarget := 5 })).dev.phase = .waking ∧
    (inPhase .waking (·.onAttic fun a => { a with wakeTarget := 5 })).dev.attic.wakeTarget ≤ 5 := by and_intros <;> decide +kernel

/-- A waking device whose wake names a target. -/
def wakes (target : Nat) : State := inPhase .waking (·.onAttic fun a => { a with wakeTarget := target, wakeHost := true })

theorem wit_WakeCompletes_check :
    ((((wakes 0).dev.tick 0).powerUp State.reset.fuses []).setFld F.WATCH_WAKE_CAUSE 0).modeRefused 0 true = none ∧
    ((((wakes 3).dev.tick 0).powerUp State.reset.fuses []).setFld F.WATCH_WAKE_CAUSE 0).modeRefused 3 true ≠ none := by
  and_intros <;> decide +kernel

theorem wit_WatchWakes :
    let w : State := inPhase .watch fun d => (d.setFld F.WATCH_CTL_WAKE_EN 4).setFld F.WATCH_TIMER_TIMER_S 1
    w.dev.attic.up = true ∧ w.dev.phase = .watch ∧ (inPhase .waking id).dev.phase = .waking ∧
    (inPhase .waking (·.onAttic fun a => { a with wakeHost := true })).dev.attic.wakeHost = true ∧
    (inPhase .waking id).dev.attic.wakeHost = false ∧ sameCycle (inPhase .waking id).dev.attic.count (inPhase .waking id).dev.attic.wakeFrom = true ∧
    sameCycle (inPhase .waking (·.onAttic fun a => { a with count := 31 })).dev.attic.count 0 = false ∧
    bit (w.dev.fld F.WATCH_CTL_WAKE_EN) 2 = true ∧ w.dev.fld F.WATCH_TIMER_TIMER_S ≠ 0 ∧
    w.dev.attic.entry + w.dev.fld F.WATCH_TIMER_TIMER_S * 1000000 < 2 ^ 64 ∧ w.dev.attic.count < 2 ^ 64 ∧
    bit ((inPhase .watch id).dev.fld F.WATCH_CTL_WAKE_EN) 2 = false ∧ w.dev.pfail = false ∧
    (inPhase .watch fun d => { d with pfail := true }).dev.pfail = true ∧ (List.range 16).filter (w.dev.pulseDue w.dev.attic.tick) = [] := by
  and_intros <;> decide +kernel

/-- HF15 enabled for pulses, without a baseline, with some measurements of its learning taken. -/
def learning (k : Nat) : State :=
  inPhase .watch fun d => (d.setFld F.WATCH_CTL_PORT_EN 0x8000).onAttic fun a =>
    { a with ports := a.ports.set 15 { learn := List.replicate k ⟨1, 2⟩ } }

theorem wit_WatchWakes_learn : ∀ k ∈ [2, 3], (List.range 16).filter ((learning k).dev.pulseDue (learning k).dev.attic.tick) = [15] ∧
    ((learning k).dev.sense 15).base = none ∧ ((learning k).dev.sense 15).learn.length = k ∧ (learning k).dev.pfail = false := by
  decide +kernel

/-! ### Premises met: channels and steps -/

/-- A step of slot 3's direct channel on HF15 in a phase, of request 7 and deadline `dl`. -/
def stepIn (ph : StepPhase) (dl : Nat) : Step :=
  { tag := { handle := 0x103, reqId := 7, portch := 0x0F }, deadline := dl, params := zeros 12, tmpl := [], tbits := 0, retries := 1, worst := 1, phase := ph }

/-- A device in SURVEY with channel `ch` in slot 3, changed by `f`. -/
def withChan (ch : Chan) (f : Dev → Dev) : State := runs fun d => f ((d.setFld F.SUP_MODE_CUR 3).setChan 3 ch)

theorem wit_StoppingAndMessages :
    (let c := { directChan .stopping with stopIds := [7], destroy := true }
     (withChan c id).dev.chan? 3 = some c ∧ c.state = .stopping ∧ c.step = none ∧ c.run = none) ∧
    (let c := { directChan .active with msgWait := true, mailbox := zeros 40 }
     (withChan c id).dev.chan? 3 = some c ∧ c.direct = true ∧ c.state = .active ∧ c.msgWait = true ∧ c.step = none ∧ c.results = [] ∧
     (withChan c id).dev.isHeld c.kind = false ∧ (withChan c id).dev.host.cmdq = []) ∧
    (let c := directChan .active
     (withChan c id).dev.chan? 3 = some c ∧ c.state ≠ .stopping ∧ c.msgWait = false) := by and_intros <;> decide +kernel

theorem wit_StoppingAndMessages_unattached : (withChan { directChan .stopping with stopIds := [7] } id).dev.unattached 3 :=
  unattached_of (by decide +kernel) (by decide +kernel) (by decide +kernel)

theorem wit_CyclesAndRuns :
    (let c := { meterChan .active with cycle := {} }
     (withChan c id).dev.chan? 3 = some c ∧ c.scheduled = true ∧ c.cycle.todo = []) ∧
    (let c := meterChan .active
     let d := (withChan c id).dev
     d.chan? 3 = some c ∧ c.scheduled = true ∧ c.run = none ∧ c.step = none ∧ c.extras = [] ∧ d.nextTarget c = some ((2, [], 40), []) ∧
     d.isHeld c.kind = false ∧ jpolCommit (jpolIn d.mode (d.plan c.plan).jpol) = 0) ∧
    (let c := meterChan .active
     let d := (withChan c (·.setFld F.SUP_MODE_CUR 0)).dev
     d.isHeld c.kind = true ∧ c.pending = none ∧ d.nextTarget c = some ((2, [], 40), [])) := by and_intros <;> decide +kernel

/-- Slot 3's direct step waits for HF15 with a deadline, and HFC0 is free for it. -/
def grantable (dl : Nat) : State := withChan { directChan .running with step := some (stepIn .waiting dl) } fun d =>
  ((sweepReady d).setFld F.GOV_HF_HF_TOTAL 160).setFld F.SUP_DIRECT_QUOTA_QUOTA 50

/-- Slot 3's step is the first request that has a place: this one. -/
def firstIs (s : State) (c : Chan) (st : Step) (pl : Place) : Bool :=
  (firstBy (fun y : (Nat × Chan × Step) × Place => y.1.2.2.order y.1.1)
    (s.dev.waiting.filterMap fun y => match s.dev.place? y.1 y.2.1 y.2.2 with
      | .ok pl => some (y, pl)
      | .error _ => none)) == some ((3, { c with step := some st }, st), pl)

/-- The direct step of `grantable` is first, for HFC0 on HF15. -/
def firstOf (s : State) (dl : Nat) : Bool := firstIs s (directChan .running) (stepIn .waiting dl) (15, 0, none)

theorem wit_Grants :
    (runs fun d => { d with trans := some ⟨5, 0, 0⟩ }).dev.trans ≠ none ∧ (grantable 0).dev.trans = none ∧
    firstOf (grantable 0) 0 = true ∧ passed (grantable 0).dev.time 0 = true ∧ 0 ≤ (grantable 0).dev.time ∧
    firstOf (grantable 1) 1 = true ∧ (grantable 1).dev.time < 1 ∧ Kind.direct ≠ Kind.presence ∧
    (grantable 1).dev.hfPermitted 15 = true ∧ (stepIn .waiting 1).uhf = false ∧
    hfStepBad (stepIn .waiting 1).params ((grantable 1).dev.fld (F.HFCn_PROTO_PROTO 0)) true = false := by and_intros <;> decide +kernel

/-- `grantable` under region E with a factor of HF15 far above its limit. -/
def unpermitted : State := (grantable 1).withDev { (grantable 1).dev with
  gov := { (grantable 1).dev.gov with region := regionE }
  tables := { (grantable 1).dev.tables with profiles := (grantable 1).dev.tables.profiles.set 1 ([0x80#8, 7#8] ++ zeros 6 ++ [0x7F#8, 0xFF#8] ++ zeros 38) } }

/-- A PRESENCE run on HF15 in slot 3. -/
def pulseChan : Chan :=
  { meterChan .running with run := some { due := { target := 15, entry := [], at_ := 0, wall := 0, cause := .cycle, mode := 3 }, reqId := 7, deadline := 1 } }

theorem wit_Grants_others :
    (let s := unpermitted
     firstOf s 1 = true ∧ s.dev.hfPermitted 15 = false) ∧
    (let s := (grantable 1).withDev ((grantable 1).dev.setFld (F.HFCn_PROTO_PROTO 0) 3)
     firstOf s 1 = true ∧ hfStepBad (stepIn .waiting 1).params (s.dev.fld (F.HFCn_PROTO_PROTO 0)) true = true) ∧
    (let s := withChan { pulseChan with step := some (stepIn .waiting 1) } fun d => (sweepReady d).setFld F.GOV_HF_HF_TOTAL 160
     firstIs s pulseChan (stepIn .waiting 1) (15, 0, none) = true ∧ s.dev.hfPermitted 15 = true ∧
     ((s.dev.onHf 0 fun h => { h with pulse := true }).hfFieldOn 0 15 (some 3) false 0 0).hfVerdict 0 0 = 0 ∧
     ((s.dev.onHf 0 fun h => { h with pulse := true }).hfFieldOn 0 15 (some 3) false 1 0).hfVerdict 0 1 ≠ 0) ∧
    (let st := { stepIn .waiting 1 with tag := { (stepIn .waiting 1).tag with portch := 0x87 } }
     let s := withChan { directChan .running with step := some st } fun d => (leakReady d).setFld F.SUP_DIRECT_QUOTA_QUOTA 50
     firstIs s (directChan .running) st (7, 0, none) = true ∧ st.uhf = true) := by and_intros <;> decide +kernel

theorem wit_AttemptsEnd :
    (∀ code ∈ [Code.HF_NO_RESPONSE, Code.COEX_PREEMPT, 0], let c := { directChan .running with step := some (stepIn (.ended code) 9) }
     let d := (withChan c id).dev
     d.chan? 3 = some c ∧ d.stopCode c = none ∧ (stepIn (.ended code) 9).chain = none ∧ d.trans = none ∧ c.run = none ∧ c.drain = false ∧
     jpolCommit (stepIn (.ended code) 9).tag.jpol = 0 ∧ jpolEvt (stepIn (.ended code) 9).tag.jpol = false ∧ d.outstanding 0x103 = false) ∧
    (retryCode Code.HF_NO_RESPONSE = true ∧ reissueCode Code.HF_NO_RESPONSE = false ∧ (stepIn (.ended 0) 9).tag.attempt < (stepIn (.ended 0) 9).retries) ∧
    reissueCode Code.COEX_PREEMPT = true ∧ retryCode 0 = false ∧ reissueCode 0 = false ∧
    (withChan (directChan .stopping) id).dev.stopCode (directChan .stopping) = some Code.STOPPED ∧
    (withChan (directChan .running) fun d => { d with trans := some ⟨5, 0, 0⟩ }).dev.trans ≠ none ∧
    (let st := { stepIn (.ended Code.HF_NO_RESPONSE) 9 with chain := some 0 }
     let c := { directChan .running with step := some st }
     (withChan c fun d => (sweepReady d).onHf 0 fun h => { h with port := some 15 }).dev.canRetryOn c st 0 = true ∧
     (withChan c sweepReady).dev.canRetryOn c st 0 = false) := by and_intros <;> decide +kernel

/-- A last frame of request 7 for a handle. -/
def lastFrame (handle code : Nat) : ResFrame :=
  { tag := { handle := handle, reqId := 7, portch := 0x0F }, status := zeros 20, payload := [], code := code, last := true }

theorem wit_DeadlinesAndFrames :
    (let c := { directChan .running with step := some (stepIn .held (2 ^ 64 - 1)) }
     (withChan c id).dev.chan? 3 = some c ∧ (stepIn .held (2 ^ 64 - 1)).phase = .held ∧ (stepIn .held (2 ^ 64 - 1)).deadline < 2 ^ 64 ∧
     (withChan c id).dev.time < 2 ^ 64) ∧
    (let c := { meterChan .active with pending := some { target := 2, entry := [], at_ := 0, wall := 0, cause := .cycle, mode := 3 } }
     (withChan c id).dev.chan? 3 = some c ∧ c.step = none) ∧
    (let d := (withChan (directChan .active) (·.onHf 3 fun h => { h with bufs := [lastFrame 0x203 1] })).dev
     (d.hfc 3).bufs = [lastFrame 0x203 1] ∧ d.liveSlot 0x203 = none) ∧
    (let c := { directChan .running with step := some (stepIn .running 9) }
     let d := (withChan c (·.onHf 3 fun h => { h with bufs := [lastFrame 0x103 1] })).dev
     (d.hfc 3).bufs = [lastFrame 0x103 1] ∧ d.liveSlot 0x103 = some 3 ∧ d.chan? 3 = some c ∧
     (stepIn .running 9).tag.reqId = (lastFrame 0x103 1).tag.reqId ∧ (stepIn .running 9).tag.step = (lastFrame 0x103 1).tag.step ∧
     (stepIn .running 9).tag.attempt = (lastFrame 0x103 1).tag.attempt ∧ (stepIn .running 9).frames = [] ∧
     (lastFrame 0x103 1).code ≠ 0 ∧ (lastFrame 0x103 1).last = true ∧ (lastFrame 0x103 1).part = false ∧ (d.hfc 2).bufs = []) ∧
    (let st := { stepIn .running (2 ^ 64 - 1) with chain := some 3 }
     let c := { directChan .running with step := some st }
     (withChan c (hf3 .window)).dev.chan? 3 = some c ∧ st.phase = .running ∧ st.chain = some 3) := by
  and_intros <;> decide +kernel

/-! ### Premises met: the Cellar -/

/-- A device that journals on devices 0 and 1, changed by `f`. -/
def journals (f : Dev → Dev) : State :=
  runs fun d => f ((d.setFld F.JRN_STAT_STATE 2).onJrn fun j => { j with cfg := overlay (zeros 32) 0 [0x03#8, 0x03#8, 0x10#8, 0#8] })

/-- A record asked for, of a step. -/
def asked : RecReq := { ty := 1, handle := 0x103, ticket := .step 0x103, device := false }

/-- A record in the Larder, assigned to device 0. -/
def lard (commit : Nat) : LarderRec := { seq := 5, bytes := zeros 64, commit := commit, dev := some 0 }

theorem wit_RecordsBuilt :
    (let d := (journals (·.onJrn fun j => { j with reqs := [asked] })).dev
     d.canBuild = true ∧ firstBy RecReq.order d.jrn.reqs = some asked ∧ d.csw 2 < 0xFFFFFFFD ∧ asked.fill = .plain ∧ asked.ticket = .step 0x103 ∧
     d.larderFull = false) ∧ (runs id).dev.jrn.reqs = [] ∧
    (let d := (journals (·.onJrn fun j => { j with reqs := [asked], larder := List.replicate 128 (lard 2) })).dev
     d.canBuild = true ∧ firstBy RecReq.order d.jrn.reqs = some asked ∧ d.larderFull = true) ∧
    (let d := (journals (·.onJrn fun j => { j with held := some (lard 1), larder := List.replicate 127 (lard 2) })).dev
     d.jrn.held = some (lard 1) ∧ d.larderFull = false) ∧ (journals id).dev.jrn.held = none := by and_intros <;> decide +kernel

/-- A program of one record into the first page of device 0. -/
def progOf (ptype : Nat) : Prog := { page := { addr := 0, ptype := ptype, pseq := 1, firstSeq := 5, target := 0, recs := [zeros 64] }, seqs := [5] }

theorem wit_ProgramsEnd :
    ∀ t ∈ [1, 2], let d := (journals fun d => (d.onNd 0 fun x => { x with prog := some (progOf t) }).onJrn fun j => { j with larder := [lard 2] }).dev
      (d.nd 0).prog = some (progOf t) ∧ (progOf t).page.ptype = t ∧ (∀ l ∈ d.jrn.larder, l.seq ∈ (progOf t).seqs → l.ticket = .none) ∧
      d.jrn.lost = [] ∧ (∃ l ∈ d.jrn.larder, l.seq ∈ (progOf t).seqs ∧ l.durable = false) ∧ (d.nd 1).prog = none ∧ (d.nd 1).erasing = none := by
  decide +kernel

theorem wit_ProgramsEnd_reloc :
    let d := (journals fun d => (d.onJrn fun j => { j with cfg := overlay j.cfg 4 [0#8, 8#8] }).onNd 0 fun x => { x with prog := some (progOf 3) }).dev
    (d.nd 0).prog = some (progOf 3) ∧ (progOf 3).page.ptype = 3 ∧
      (d.onNd 0 fun x => { x with prog := none, pages := insertPage { (progOf 3).page with torn := true } x.pages }).freshBlock 0 = some 1 := by
  decide +kernel

theorem wit_DevicesWork :
    ((journals (·.onNd 0 fun x => { x with erasing := some 3 })).dev.nd 0).erasing = some 3 ∧
    (let d := (journals (·.onJrn fun j => { j with larder := [lard 1] })).dev
     (0 : Fin 4) ≠ 1 ∧ d.jPresent 0 = true ∧ d.jPresent 1 = true ∧ (d.nd 0).failed = false ∧ (d.nd 1).failed = false ∧
     (∃ l ∈ d.jrn.larder, l.dev = some 0 ∧ l.durable = false) ∧ d.jPresent 2 = false ∧
     d.jrn.larder.find? (fun r => !r.durable && r.commit == 1) = some (lard 1) ∧ d.time < 2 ^ 64 ∧ (lard 1).entered + d.jBatch < 2 ^ 64) := by
  and_intros <;> decide +kernel

/-- A MAIN page of two records in a block of device 0. -/
def mainPage (block : Nat) : NandPage := { addr := block * 128, ptype := 1, pseq := 1, firstSeq := 5, target := 0, recs := [zeros 64, zeros 64] }

/-- Device 0 holds one MAIN page; its tail is at the start of its block, its head in the next. -/
def paged (f : Dev → Dev) : State :=
  journals fun d => f (((d.onNd 0 fun x => { x with pages := [mainPage 0] }).setCs 0x0B (posOf 0 128 0)).setCs 0x0F 0)

theorem wit_CompactionAndStaging :
    (paged id).dev.eraseWork = some (0, 0) ∧
    (let d := (paged fun d => (d.setCs 4 (posOf 0 0 1)).setCs 5 6).dev
     d.eraseWork = none ∧ d.jrn.pass = none ∧ d.jrn.relocs = [] ∧ d.fromCursor.head? = some (posOf 0 0 1, 6, zeros 64) ∧
     (d.nd (posDev (posOf 0 0 1))).failed = false) ∧
    (journals id).dev.fromCursor = [] ∧ (journals id).dev.jrn.pass = none ∧
    (let d := (runs fun d => { d with strikes := [{ pin := 23, until_ := 2 ^ 64 - 1 }] }).dev
     (d.strikes.find? fun (k : Strike) => k.pin == (23 : Fin 24).val).map (·.until_) = some (2 ^ 64 - 1) ∧ d.time < 2 ^ 64 ∧
     d.strikes.find? (fun (k : Strike) => k.pin == (22 : Fin 24).val) = none) := by
  and_intros <;> decide +kernel

/-- No device has failed. -/
theorem wit_noneFailed (n : Nat) : ((paged id).dev.nd n).failed = false := by
  match n with
  | 0 => rfl
  | 1 => rfl
  | 2 => rfl
  | 3 => rfl
  | _ + 4 => rfl

theorem wit_RecordCrc : ((journals id).dev.recordBytes asked 1).length = 64 ∧ 60 ≤ (zeros 64).length := by and_intros <;> decide +kernel

/-! ### Premises met: the HF engine -/

/-- HF15 enabled. -/
def port15 (d : Dev) : Dev := d.setFlag (F.HFPn_CFG_ENABLE 15) true

/-- HF14 and HF15 in a measured set, whose coefficients of 5182 / 2^14 lie just above the STAGGER limit, with fields on both. -/
def coupled (d : Dev) : Dev :=
  { (hf3 .idle d).onHf 0 fun h => { h with port := some 14 } with tables := { d.tables with
      sets := [overlay (overlay ([14#8, 15#8, 0xFF#8, 0xFF#8, 1#8, 0#8] ++ zeros 58) 12 (beBytes 2 5182)) 24 (beBytes 2 5182)] } }

theorem wit_ExchangesBegin :
    ((runs id).dev.hfc 3).phase ≠ .guard ∧ ((runs fun d => d.onHf 3 fun h => { h with phase := .guard }).dev.hfc 3).att = none ∧
    (let d := (runs fun d => port15 (hf3 .guard d)).dev
     (d.hfc 3).phase = .guard ∧ (d.hfc 3).att = some hfA ∧ hfA.kind = 0 ∧ d.hfWithdrawn 3 = false ∧ d.staggered 3 = false ∧
     d.hfLeaving 3 = false ∧ d.partnerWaits 3 = false ∧ (d.hfc hfA.rxChain).bufs.length + hfA.fills < 2 ∧ d.applying = []) ∧
    (let d := (runs fun d => (hf3 .guard d).onHf 3 fun h => { h with att := none }).dev
     (d.hfc 3).phase = .guard ∧ (d.hfc 3).att = none ∧ (d.hfc 3).port = some 15 ∧ (d.hfc 3).partner = none ∧ d.time < 2 ^ 64 ∧
     (d.hfc 3).onAt + profGuard (d.hfProfile 15) < 2 ^ 64) ∧
    (let d := (runs fun d => (port15 (hf3 .ready d)).onHf 3 fun h => { h with stagFrom := some 0 }).dev
     (d.hfc 3).stagFrom = some 0 ∧ (d.hfc 3).phase = .ready ∧ (d.hfc 3).att = some hfA ∧ d.staggered 3 = false ∧ d.hfLeaving 3 = false ∧
     d.hfWithdrawn 3 = false ∧ (d.hfc hfA.rxChain).bufs.length + hfA.fills < 2 ∧ d.applying = [] ∧ (d.hfc 0).stagFrom = none ∧
     (d.hfc 1).stagFrom = none ∧ (d.hfc 2).stagFrom = none) ∧
    (let d := (runs fun d => ((coupled d).onHf 3 fun h => { h with
          phase := .ready, stagFrom := some 0, tracked := [⟨5182, 0⟩, ⟨0, 0⟩, ⟨0, 0⟩, ⟨0, 0⟩] }).onHf 0 fun h =>
        { h with phase := .sent, att := some hfA }).dev
     d.staggered 3 = true ∧ (d.hfc 3).phase = .ready ∧ (d.hfc 3).stagFrom = some 0 ∧ (d.hfc 3).att = some hfA) ∧
    (((runs (hf3 .sent)).dev.hfc 3).phase = .sent ∧ ((runs (hf3 .sent)).dev.hfc 3).att = some hfA ∧ hfA.held = none ∧ 60 ≤ (60 : Fin 256).val ∧
      (59 : Fin 256).val < 60) ∧
    (let a := { hfA with proto := 2, params := overlay (zeros 32) 1 [16#8] }
     let d := (runs fun d => (hf3 .sent d).onHf 3 fun h => { h with att := some a }).dev
     (d.hfc 3).phase = .sent ∧ (d.hfc 3).att = some a ∧ a.optEof = true ∧ d.time < 2 ^ 64 ∧ (d.hfc 3).sentAt + eofAfter (hfFwi a.params) < 2 ^ 64) ∧
    (((runs (hf3 .window)).dev.hfc 3).phase = .window ∧ hfA.expected = 0 ∧ bit (numAt hfA.params 8 2) 2 = false ∧
      (let a := { hfA with params := overlay (zeros 32) 8 (beBytes 2 4) }
       a.sched = false ∧ a.expected = 0 ∧ bit (numAt a.params 8 2) 2 = true)) ∧
    ((runs (hf3 .sent)).dev.hfc 3).phase ≠ .window ∧ ((runs (hf3 .window)).dev.hfc 3).phase ≠ .sent := by
  and_intros <;> decide +kernel

theorem wit_RepliesEnd :
    (∀ ph ∈ [HfPhase.window, .receiving], ((runs (hf3 ph)).dev.hfc 3).att = some hfA ∧ hfA.seq = .plain ∧ hfA.held = none ∧
      ((runs (hf3 ph)).dev.hfc 3).phase = ph) ∧
    ((runs (hf3 .sent)).dev.hfc 3).phase ≠ .window ∧ ((runs (hf3 .sent)).dev.hfc 3).phase ≠ .receiving ∧
    (runs id).dev.storedK 3 0 = none ∧ (runs coupled).dev.storedK 3 0 = some ⟨5182, 0⟩ ∧ ((runs coupled).dev.hfc 3).phase = .idle := by
  and_intros <;> decide +kernel

/-- A direct step of slot 3 in hand on a chain. -/
def onChain (ch : Nat) (d : Dev) : Dev :=
  d.setChan 3 { directChan .running with step := some { stepIn .running 9 with chain := some ch } }

theorem wit_HfFaults :
    (runs id).dev.hfChainOn 15 = none ∧ (runs (hf3 .idle)).dev.hfChainOn 15 = some 3 ∧ (runs (hf3 .idle)).dev.stepOn 3 = none ∧
    (runs (fun d => onChain 3 (hf3 .sent d))).dev.hfChainOn 15 = some 3 ∧
    ((runs (fun d => onChain 3 (hf3 .sent d))).dev.stepOn 3).map (fun x => (x.1, x.2.1.direct)) = some (3, true) ∧
    (runs (·.setFlag (F.HFCn_STAT_FAULT 3) true)).dev.flag (F.HFCn_STAT_FAULT 3) = true ∧
    (runs id).dev.flag (F.HFCn_STAT_FAULT 3) = false ∧ (runs id).dev.stepOn 3 = none ∧
    (let d := (runs fun d => onChain 3 (hf3 .sent (d.setFld F.SUP_MODE_CUR 2))).dev
     (d.stepOn 3).map (fun x => (x.1, x.2.1.direct)) = some (3, true) ∧ Mode.strict d.mode = true ∧ d.trans = none ∧
     d.flag (F.HFCn_STAT_FAULT 3) = false) := by and_intros <;> decide +kernel

/-! ### Premises met: the UHF radio and engine -/

/-- A device in DIRECT with region E and its channels 0–3 masked in. -/
def airs (f : Dev → Dev) : State :=
  runs fun d => f { ((d.setFld F.SUP_MODE_CUR 5).setFld F.GOV_CHMASK_LO_MASK 15) with gov := { d.gov with region := regionE } }

theorem wit_alone : (airs (uhf1 Ust.cw [])).dev.uhfAlone 1 ∧ (airs (uhf1 Ust.cw [])).dev.uhfAlone 0 := by
  unfold Dev.uhfAlone
  and_intros <;> decide +kernel

/-- UHF7 bound to a valid profile of route EXT_MONO on UHFC1, with ANTSEL 5 and RL_THR 60. -/
def external (d : Dev) : Dev :=
  { d.setFld (F.UHFPn_CFG_PROFILE 7) 1 with
    tables := { d.tables with profiles := d.tables.profiles.set 1 (0x81#8 :: 0x65#8 :: 0#8 :: 60#8 :: zeros 44) } }

theorem wit_Synthesisers :
    (let d := (airs (uhf1 Ust.ready [.channel 3])).dev
     let g := (d.rampDown 1).endOcc 1
     d.radioHead 1 = some (.channel 3, 0) ∧ d.ust 1 ≠ Ust.off ∧ (3 : Nat) ≠ 0xFF ∧ bit g.limits.chmask 3 = true ∧ g.chanOk 1 3 = true) ∧
    (let d := (airs fun d => { uhf1 Ust.ready [.channel 3] d with gov := { d.gov with occ := [some ⟨3, 0⟩, none] } }).dev
     let g := (d.rampDown 1).endOcc 1
     bit g.limits.chmask 3 = true ∧ g.chanOk 1 3 = false) ∧
    (airs id).dev.radioHead 1 = none ∧
    (let d := (airs fun d => (uhf1 Ust.standby [.carrierOn] d).onUhf 1 fun u => { u with tuning := some 63 }).dev
     (d.uhfc 1).tuning = some 63 ∧ d.ust 1 = Ust.standby ∧ d.radioHead 1 = some (.carrierOn, 0) ∧ d.time < 2 ^ 64 ∧ uhfA.held = none) ∧
    ((airs id).dev.uhfc 1).tuning = none ∧
    (let d := (airs fun d => (uhf1 Ust.cw [.packet .ack [] 0] d).onUhf 1 fun u => { u with
        tuning := some 0, tuneCal := some { index := 0, temp := -40, stale := false } }).dev
     (d.uhfc 1).tuning = some 0 ∧ d.ust 1 ≠ Ust.standby ∧ d.radioHead 1 = some (.packet .ack [] 0, 0) ∧ (d.uhfc 1).tuneCal ≠ none ∧
     (d.uhfc 1).tuneFrom + 200 < 2 ^ 64) ∧
    (let d := (airs (uhf1 Ust.ready [.channel 0xFF])).dev
     d.radioHead 1 = some (.channel 0xFF, 0) ∧ (((d.rampDown 1).endOcc 1).nextChannel 1).map (·.1) = some 0) ∧
    (let d := (airs fun d => (uhf1 Ust.ready [.channel 0xFF] d).setFld F.GOV_CHMASK_LO_MASK 0).dev
     d.radioHead 1 = some (.channel 0xFF, 0) ∧ (((d.rampDown 1).endOcc 1).nextChannel 1).isNone = true) ∧
    (airs (uhf1 Ust.off [.channel 3])).dev.ust 1 = Ust.off ∧
    (let d := (airs (uhf1 Ust.ready [.port 7])).dev
     d.radioHead 1 = some (.port 7, 0) ∧ (d.uhfc 1).port = some 7 ∧ d.ust 1 ≠ Ust.off) ∧
    profRoute ((airs external).dev.uhfProfile 7) ≠ 0 := by and_intros <;> decide +kernel

/-- UHFC1 ready on channel 0 with a carrier-on command at the head, changed by `f`. -/
def carry (f : Dev → Dev) : State :=
  airs fun d => f (((uhf1 Ust.ready [.carrierOn] d).setFlag (F.UHFCn_STAT_LOCKED 1) true).setFld (F.UHFCn_STAT_PORT 1) 7)

theorem wit_Carriers :
    (let d := (carry id).dev
     d.radioHead 1 = some (.carrierOn, 0) ∧ (d.uhfc 1).att = some uhfA ∧ (d.uhfc 1).port = some 7 ∧ uhfA.held = none ∧ d.ust 1 = Ust.ready ∧
     d.flag (F.UHFCn_STAT_LOCKED 1) = true ∧ (d.uhfc 1).tuning = none ∧ (d.uhfc 1).waitGrant = false ∧ 0 ≤ d.uhfPermit 7 none ∧
     bit d.limits.chmask (d.fld (F.UHFCn_STAT_CH_INDEX 1)) = true ∧ (d.uhfc 1).inhibited = false ∧ d.dutySpent = false ∧
     d.chanOk 1 (d.fld (F.UHFCn_STAT_CH_INDEX 1)) = true ∧ d.windowOpen = false ∧ d.coexGranted 7 = true ∧ d.fld (F.UHFCn_STAT_PORT 1) = 7) ∧
    (let d := (carry fun d => { d with gov := { d.gov with occ := [some ⟨0, 0⟩, none] } }).dev
     d.chanOk 1 (d.fld (F.UHFCn_STAT_CH_INDEX 1)) = false ∧ d.dutySpent = false ∧ uhfA.sched = false ∧ { uhfA with sched := true }.sched = true) ∧
    (carry fun d => { d.setFlag F.COEX_CFG_PW_ALL true with windows := [(0, 0)] }).dev.windowOpen = true ∧
    (let d := (carry fun d => (d.setFlag F.COEX_CFG_B_EN true)).dev
     d.gatedB 7 = true ∧ d.coexGranted 7 = false) ∧
    bit (carry (·.setFld F.GOV_CHMASK_LO_MASK 0)).dev.limits.chmask 0 = false ∧
    (carry (·.setFlag (F.UHFCn_STAT_LOCKED 1) false)).dev.flag (F.UHFCn_STAT_LOCKED 1) = false ∧
    ((carry (·.onUhf 1 fun u => { u with inhibited := true })).dev.uhfc 1).inhibited = true ∧
    (carry (·.setFld F.SUP_MODE_CUR 4)).dev.dutySpent = true ∧ 0 ≤ (carry (·.setFld F.SUP_MODE_CUR 4)).dev.uhfPermit 7 none ∧
    (let d := (carry fun d => (d.setFlag F.COEX_CFG_A_EN true).setFlag F.COEX_CFG_A_ALL true).dev
     d.gatedA = true ∧ d.coexGranted 7 = false ∧ d.chanOk 1 0 = true) ∧
    (airs id).dev.radioHead 1 = none ∧ (airs (uhf1 Ust.cw [.carrierOff])).dev.radioHead 1 = some (.carrierOff, 0) := by
  and_intros <;> decide +kernel

theorem wit_CancellerAndTemperature :
    (airs (uhf1 Ust.cw [])).dev.ust 1 = Ust.cw ∧ (0xD8#8 : BitVec 8).toInt ≤ -40 ∧ -40 < (0xD9#8 : BitVec 8).toInt ∧
    ((airs (uhf1 Ust.cw [])).dev.uhfc 1).untrained = true ∧
    ((airs fun d => (uhf1 Ust.cw [] d).onUhf 1 fun u => { u with untrained := false }).dev.uhfc 1).untrained = false ∧
    ((airs (uhf1 Ust.cw [])).dev.uhfc 1).att = some uhfA ∧ uhfA.held = none ∧ (airs id).dev.ust 1 < Ust.cw ∧
    (airs (uhf1 Ust.rx [])).dev.ust 1 = Ust.rx ∧ ((airs (uhf1 Ust.rx [])).dev.uhfc 1).att = some uhfA ∧ uhfA.awaiting = none ∧
    ((airs fun d => (uhf1 Ust.rx [] d).onUhf 1 fun u => { u with untrained := false }).dev.uhfc 1).untrained = false ∧
    (airs fun d => (uhf1 Ust.rx [] d).onUhf 1 fun u => { u with att := some { uhfA with awaiting := some .ack } }).dev.ust 1 ≠ Ust.cw := by
  and_intros <;> decide +kernel

/-- UHFC1 in CW, trained, with UHF7 enabled, its attempt changed by `f`. -/
def round1 (st : Nat) (q : List RadioCmd) (f : UhfAttempt → UhfAttempt) : State :=
  airs fun d => ((uhf1 st q d).setFlag (F.UHFPn_CFG_ENABLE 7) true).onUhf 1 fun u => { u with
    untrained := false, att := some (f uhfA) }

/-- A preamble of a length in symbols and a level. -/
def preamble (symbols : Nat) (rssi : BitVec 16) : Preamble := { hyp := 0, rssi := rssi, phase := 0, blfDev := 0#8, symbols := symbols }

theorem wit_RoundsAndReplies_packet :
    (∀ p ∈ [Pkt.query, .queryRep, .ack, .select 0], ∀ st ∈ [Ust.cw, Ust.rx], let d := (round1 st [.packet p [true] 0] id).dev
      (d.uhfc 1).att = some uhfA ∧ d.radioHead 1 = some (.packet p [true] 0, 0) ∧ d.ust 1 = st ∧ (d.uhfc 1).untrained = false ∧
      uhfA.awaiting = none ∧ (d.uhfc 1).tuning = none ∧ (d.uhfc 1).bufs.length + b2n uhfA.held.isSome < 2 ∧ d.uhfWithdrawn 1 = false ∧
      d.mustPause 1 = false ∧ d.dwellShort 1 uhfA = false) ∧
    (airs id).dev.radioHead 1 = none := by and_intros <;> decide +kernel

/-- A reply of a number of bytes. -/
def reply (n : Nat) (crcOk coded : Bool) : UhfReply := { bytes := zeros n, lastBits := 0, crcOk := crcOk, coded := coded, tagError := none, handle := 0xFFFF }

theorem wit_RoundsAndReplies_reply :
    (∀ p ∈ [Pkt.query, .queryRep, .reqRn, .raw, .access], let a := { uhfA with awaiting := some p, rx := some { pre := preamble 0 0xFF38#16 } }
      let d := (round1 Ust.rx [] fun _ => a).dev
      (d.uhfc 1).att = some a ∧ d.ust 1 = Ust.rx ∧ a.awaiting = some p ∧ a.held = none ∧ a.rx = some { pre := preamble 0 0xFF38#16 }) ∧
    (reply 2 false true).coded = true ∧ (reply 2 true true).crcOk = true ∧ (reply 2 false true).crcOk = false ∧
    24 < (preamble 25 0#16).symbols ∧ (0 < (preamble 24 0#16).symbols ∧ (preamble 24 0#16).symbols ≤ 24) ∧
    10 * (uhfA.margin : Int) ≤ (preamble 24 0#16).rssi.toInt - (0xFF38#16 : BitVec 16).toInt ∧
    ((round1 Ust.rx [] id).dev.uhfc 1).queue.length < 8 ∧ ((round1 Ust.rx [] id).dev.uhfc 1).backlog = [] ∧
    ({ pre := preamble 0 0#16, collided := true } : RxPre).collided = true ∧ ({ pre := preamble 0 0#16 } : RxPre).collided = false := by
  and_intros <;> decide +kernel

theorem wit_RoundsAndReplies_timeout :
    (let a := { uhfA with awaiting := some .query, q := 0, qfp := 0, slots := 0 }
     let d := (round1 Ust.rx [] fun _ => a).dev
     (d.uhfc 1).att = some a ∧ a.rx = none ∧ a.slots ≠ 2 ^ a.q ∧
     (max (20 * uQMin a.params) (a.qfp - uC a.params) + 10) / 20 = a.q ∧ d.mustPause 1 = false) ∧
    (∀ p ∈ [Pkt.reqRn, .access], let a := { uhfA with awaiting := some p }
      ((round1 Ust.rx [] fun _ => a).dev.uhfc 1).att = some a ∧ a.rx = none ∧ a.held = none ∧
      ((round1 Ust.rx [] fun _ => a).dev.uhfc 1).sentAt + 20000 < 2 ^ 64) ∧
    accessCmd uhfA.tmpl uhfA.tbits ≠ .read ∧ accessCmd [0xC2#8] 8 = .read := by and_intros <;> decide +kernel

theorem wit_UhfFaults :
    (airs id).dev.uhfOn 1 = false ∧ ((airs id).dev.uhfc 1).tuning = none ∧
    (let d := (airs (uhf1 Ust.cw [])).dev
     d.uhfOn 1 = true ∧ d.flag (F.UHFCn_STAT_FAULT 1) = false ∧ d.stepOn 5 = none ∧ (d.uhfc 1).paFails < 2 ∧ (d.uhfc 1).att = some uhfA ∧
     uhfA.held = none ∧ (d.uhfc 1).port = some (7 : Fin 8).val ∧ (d.uhfc 0).port ≠ some (7 : Fin 8).val ∧
     profRoute (d.uhfProfile 7) = 0 ∧ d.flag (F.UHFPn_STAT_FAULT 7) = false) ∧
    2 ≤ ((airs fun d => (uhf1 Ust.cw [] d).onUhf 1 fun u => { u with paFails := 2 }).dev.uhfc 1).paFails ∧
    (airs fun d => (uhf1 Ust.cw [] d).setFlag (F.UHFPn_STAT_FAULT 7) true).dev.flag (F.UHFPn_STAT_FAULT 7) = true ∧
    (let d := (airs fun d => external ((uhf1 Ust.standby [] d).onUhf 1 fun u => { u with tuning := some 0 })).dev
     d.uhfOn 1 = false ∧ (d.uhfc 1).tuning ≠ none ∧ d.flag (F.UHFCn_STAT_FAULT 1) = false ∧ (d.uhfc 1).tuneFrom + 1000 < 2 ^ 64) ∧
    (let d := (airs fun d => external (uhf1 Ust.cw [] d)).dev
     d.uhfOn 1 = true ∧ ((d.uhfc 1).port.isSome && profRoute (d.uhfProfile ((d.uhfc 1).port.getD 0)) != 0) = true ∧ (d.uhfc 1).paFails < 2) ∧
    (let d := (airs fun d => { external (uhf1 Ust.cw [] d) with tables := { d.tables with profiles := d.tables.profiles.set 1 (0x81#8 :: 0#8 :: 0#8 :: 60#8 :: zeros 44) } }).dev
     profRoute (d.uhfProfile 7) = 0 ∧ byteAt (d.uhfProfile 7) 3 ≤ (60 : Fin 256).val ∧ (59 : Fin 256).val < byteAt (d.uhfProfile 7) 3) := by
  and_intros <;> decide +kernel

theorem wit_GovernorInstants :
    (runs id).dev.time < 2 ^ 64 ∧ (airs id).dev.occ 1 = none ∧
    (let d := (airs fun d => { uhf1 Ust.cw [] d with gov := { d.gov with occ := [none, some ⟨3, 7⟩] } }).dev
     d.occ 1 = some ⟨3, 7⟩ ∧ d.uhfOn 1 = true ∧ 7 + d.limits.dwellMax * 1000 < 2 ^ 64) ∧
    (let d := (airs fun d => { d with gov := { d.gov with occ := [none, some ⟨3, 7⟩], spans := [⟨3, 1, 7, some 9⟩] } }).dev
     d.occ 1 = some ⟨3, 7⟩ ∧ (∀ m, m < 2 → m ≠ 1 → d.occ m = none) ∧ d.offSince 3 = some 9 ∧ d.uhfOn 1 = false ∧ 9 + d.limits.offMin * 1000 < 2 ^ 64) ∧
    (airs id).dev.mode ≠ 4 ∧
    (let d := (airs fun d => (uhf1 Ust.cw [] d).setFld F.SUP_MODE_CUR 4).dev
     d.mode = 4 ∧ d.dutySpent = true ∧ d.uhfOn 1 = true ∧ uhfA.awaiting = none) := by and_intros <;> decide +kernel

theorem wit_Coexistence :
    ((airs id).dev.uhfc 0).waitGrant = false ∧ ((airs id).dev.uhfc 1).waitGrant = false ∧ (airs id).dev.uhfOn 0 = false ∧
    (airs id).dev.uhfOn 1 = false ∧ (airs id).dev.flag F.COEX_CFG_A_EN = false ∧
    (let d := (airs fun d => (((d.onUhf 0 fun u => { u with port := some 7, att := some uhfA }).setUst 0 Ust.rx).setFlag F.COEX_CFG_A_EN true).setFlag
        F.COEX_CFG_A_ALL true).dev
     d.gatedA = true ∧ d.uhfOn 0 = true ∧ d.uhfOn 1 = false ∧ (d.uhfc 0).port = some 7 ∧ (d.uhfc 0).att = some uhfA ∧ uhfA.held = none) ∧
    (airs id).dev.flag (F.COEX_PWk_CFG_EN 3) = false ∧
    (let d := (airs fun d => (d.setFlag (F.COEX_PWk_CFG_EN 3) true).setFlag (F.COEX_PWk_CFG_SRC 3) true).dev
     d.flag (F.COEX_PWk_CFG_EN 3) = true ∧ d.windows = [] ∧ d.flag (F.COEX_PWk_CFG_SRC 3) = true ∧ d.windowsApply = false) ∧
    (let d := (airs (·.setFlag (F.COEX_PWk_CFG_EN 3) true)).dev
     d.flag (F.COEX_PWk_CFG_SRC 3) = false ∧ d.time < 2 ^ 64 ∧ d.windowNext 3 < 2 ^ 64) ∧
    (let a := { uhfA with awaiting := some .query }
     let d := (airs fun d => ((uhf1 Ust.rx [] d).onUhf 1 fun u => { u with att := some a }).setFlag F.COEX_CFG_PW_ALL true).dev
     d.windowsApply = true ∧ d.uhfOn 1 = true ∧ (d.uhfc 1).att = some a ∧ a.awaiting ≠ none ∧ a.held = none) ∧
    (let d := (airs fun d => { d.onUhf 1 fun u => { u with waitGrant := true } with coexA := { d.coexA with waitFrom := some 5 } }).dev
     (d.wires .a).waitFrom = some 5 ∧ d.time + 1 < 2 ^ 64 ∧ 5 + d.coexLead .a < 2 ^ 64 ∧ (d.uhfc 1).waitGrant = true ∧ (d.uhfc 0).waitGrant = false) ∧
    ((airs (·.onUhf 0 fun u => { u with waitGrant := true })).dev.uhfc 0).waitGrant = true ∧
    (airs id).dev.windows.find? (·.1 == (3 : Fin 4).val) = none ∧
    (airs fun d => d.setFlag F.COEX_CFG_PW_ALL true).dev.windowsApply = true ∧
    (let d := (airs fun d => { d with windows := [(3, 5)] }).dev
     d.windows.find? (·.1 == (3 : Fin 4).val) = some (3, 5) ∧ d.time < 2 ^ 64 ∧ 5 + d.fld (F.COEX_PWk_WIN_LEN 3) * 10 < 2 ^ 64) := by
  and_intros <;> decide +kernel

/-- HFC3 on HF15 and UHFC1 on UHF7. -/
def bothOn : Dev := (airs fun d => uhf1 Ust.cw [] (hf3 .guard d)).dev

theorem wit_frames : bothOn.chainsInRange ∧ uhfRow (.carrierOff 1) = true ∧ hfRow (.fieldGuardEnd 3) = true := by
  have h (n : Nat) : bothOn.hfc (n + 4) = {} := rfl
  have u (n : Nat) : bothOn.uhfc (n + 2) = {} := rfl
  refine ⟨⟨by decide +kernel, fun n => ?_, fun n => ?_⟩, rfl, rfl⟩
  · match n with
    | 0 => decide +kernel
    | 1 => decide +kernel
    | 2 => decide +kernel
    | 3 => decide +kernel
    | n + 4 => simp [h]
  · match n with
    | 0 => decide +kernel
    | 1 => decide +kernel
    | n + 2 => simp [u]

/-! ### One step each, with results read from the spec -/

/-- R131: an ATT_EXTRA above 300 is stored as 300. -/
theorem test_hfcTxctl : (after (.hfcTxctlWrite 0 301 9) (runs id)).fld (F.HFCn_TXCTL_ATT_EXTRA 0) = 300 := by decide +kernel

/-- R69: a mode request while BUSY is 1 is CC_MODE_BUSY, 0x02. -/
theorem test_modeBusy : (after (.modeRequest 3) (runs (·.setFlag F.SUP_MODE_BUSY true))).fld F.SUP_CC_CODE = 0x02 := by decide +kernel

/-- R87: a mode that does not exist is refused with CC_MODE_INVALID, 0x03. -/
theorem test_modeInvalid : (after (.modeRequest 6) (runs (·.setFld F.SUP_MODE_CUR 0))).fld F.SUP_MODE_CODE = Code.CC_MODE_INVALID := by
  decide +kernel

/-- R458: a count that has reached RELOAD counts down. -/
theorem test_timerTurn : (after (.timerTick 7) (runs fun d => ((d.setFlag (F.TMRn_CTL_ENABLE 7) true).setReg (R.TMRn_RELOAD 7) 5#32).setReg
    (R.TMRn_COUNT 7) 5#32)).reg (R.TMRn_COUNT 7) = 4#32 := by decide +kernel

/-- R418: STATUS answers a byte for each byte of the frame. -/
theorem test_status : (after (.status ⟨false, zeros 12⟩) (hosts id)).host.miso.length = 13 := by decide +kernel

/-- R435: a frame of an opcode that R415 does not name is refused, and counted. -/
theorem test_unknownOpcode : (after (.hostFrameUnknownOpcode 0x7E#7 (fr [0, 0, 0, 0])) (hosts id)).fld F.HOST_CNT_REFUSED = 1 ∧
    (after (.hostFrameUnknownOpcode 0x7E#7 (fr [0, 0, 0, 0])) (hosts id)).host.err = true := by and_intros <;> decide +kernel

/-- R91: a commit sets CHECKING, and its check follows. -/
theorem test_groupCommit : (after (.groupCommit (.hf 0)) (runs id)).checking (.hf 0) = true ∧
    (after (.groupCommit (.hf 0)) (runs id)).checks.length = 1 := by and_intros <;> decide +kernel

/-- R186: a die temperature of −40 °C shows on both chains. -/
theorem test_tempSample : (after (.tempSample 0xD8#8) (runs id)).dieTemp = -40 ∧
    (after (.tempSample 0xD8#8) (runs id)).fld (F.UHFCn_SYN_STAT_TEMP_NOW 1) = 0xD8 := by and_intros <;> decide +kernel

/-- R48: a blank NOR flash gives no slot to try. -/
theorem test_powerOn : ((strapSlots 0).foldl (Dev.examine State.reset.nor) State.reset.dev).tryOrder State.reset.nor = [] := by
  decide +kernel

/-- R44: a failed self-test ends the boot. -/
theorem test_selfTest : (after (.t0 ⟨0, true, true, true, [{ selfTestOk := false }]⟩) State.reset).phase = .failed := by decide +kernel

/-- R160: no start of frame within the window is HF_NO_RESPONSE. -/
theorem test_hfNoResponse : (after (.hfNoResponse 3) (runs (hf3 .window))).fld (F.HFCn_STAT_LAST_CODE 3) = Code.HF_NO_RESPONSE := by
  decide +kernel

/-- R402: the latch holds when the tamper line's sources are gone. -/
theorem test_keyKillDeassert : (after .keyKillDeassert (runs latch)).latched = true := by decide +kernel

end Sys2Proof.Machine
end

section
/-!
PROOFS. Mode requests that begin no transition (R69): one written while a transition is in progress, and one that names the current mode.
-/

namespace Sys2Proof.Machine

open Sys2Proof

/-! ### Fields of registers left alone -/

/-- Where registers of the list `l` alone may differ, a field of any other register reads as before. -/
theorem Dev.onlyRegs_fld {d e : Dev} {l : List Nat} {f : Fld} (h : d.onlyRegs e l) (hf : f.addr ∉ l) : e.fld f = d.fld f :=
  congrArg (bitsOf · f.hi f.lo) (h.2 f.addr hf)

/-! ### What a request does where it begins no transition -/

/-- A request made while BUSY is 1 is the check's refusal CC_MODE_BUSY and nothing else. -/
theorem Dev.modeRequest_of_busy {d : Dev} {target : Nat} (hrun : d.phase = .running) (hbusy : d.flag F.SUP_MODE_BUSY = true) :
    d.modeRequest target = d.refuse Code.CC_MODE_BUSY 3 0 R.SUP_MODE 0 := by
  simp [Dev.modeRequest, Dev.live, hrun, hbusy]

/-- A request that names the current mode writes REQ and CODE and nothing else. -/
theorem Dev.modeRequest_of_current {d : Dev} {target : Nat} (hrun : d.phase = .running) (hidle : d.flag F.SUP_MODE_BUSY = false)
    (hcur : target = d.mode) : d.modeRequest target = (d.setFld F.SUP_MODE_REQ target).setFld F.SUP_MODE_CODE 0 := by
  simp [Dev.modeRequest, Dev.live, hrun, hidle, hcur]

/-! ### The obligation -/

/-- Settles O35: while BUSY is 1 the request is a refusal, which writes SUP_CC and SUP_CC_NEED alone; one for the current mode writes
REQ and CODE alone, and CUR and BUSY are other bits of SUP_MODE. -/
theorem modeBusyAndSame : Obligations.ModeBusyAndSame := by
  unfold Obligations.ModeBusyAndSame
  intro s req hrun
  refine ⟨fun hbusy => completes_onDev (·.modeRequest req) rfl ?busy, fun hidle hcur => completes_onDev (·.modeRequest req) rfl ?same⟩
  case busy =>
    rw [Dev.modeRequest_of_busy hrun hbusy]
    obtain ⟨hcode, -, -, -⟩ := s.dev.refuse_fields Code.CC_MODE_BUSY 3 0 R.SUP_MODE 0
    have hcc := s.dev.refuse_onlyRegs Code.CC_MODE_BUSY 3 0 R.SUP_MODE 0
    exact ⟨hcode, Dev.onlyRegs_fld hcc (by decide), Dev.onlyRegs_fld hcc (by decide), hcc⟩
  case same =>
    rw [Dev.modeRequest_of_current hrun hidle hcur]
    refine ⟨Dev.fld_setFld (by decide), ?mode, ?idle, ?only⟩
    case mode =>
      exact (Dev.fld_setFld_other (by decide) (by decide)).trans (Dev.fld_setFld_other (by decide) (by decide))
    case idle =>
      rw [Dev.flag_setFld_other (by decide) (by decide), Dev.flag_setFld_other (by decide) (by decide), hidle]
    case only =>
      exact Dev.onlyRegs_setFld (Dev.onlyRegs_setFld (Dev.onlyRegs_refl s.dev _) (by decide)) (by decide)

end Sys2Proof.Machine
end

section
/-!
PROOFS. The fuses are one-way (R246, R248, R384, R402): T0, REGION_BLOW and KEY_KILL alone write them, each a change that cannot be undone.
-/

namespace Sys2Proof.Machine

open Sys2Proof

/-! ### The changes a fuse may undergo -/

theorem Fuses.mayBecome_refl (f : Fuses) : f.mayBecome f :=
  ⟨rfl, rfl, rfl, rfl, rfl, id, fun h => ⟨rfl, h⟩⟩

/-- HARD_BLOWN may be blown at any time (R402). -/
theorem Fuses.mayBecome_hardBlown (f : Fuses) : f.mayBecome { f with hardBlown := true } :=
  ⟨rfl, rfl, rfl, rfl, rfl, fun _ => rfl, fun h => ⟨rfl, h⟩⟩

/-- A region record not yet tried may become any record, by the one try there is (R248). -/
theorem Fuses.mayBecome_tried {f : Fuses} (region : Bytes) (h : f.blowTried = false) :
    f.mayBecome { f with region := region, blowTried := true } :=
  ⟨rfl, rfl, rfl, rfl, rfl, id, fun tried => absurd (h.symm.trans tried) Bool.false_ne_true⟩

/-! ### The three operations that write fuses -/

/-- t0 makes no change but the blow of HARD_BLOWN that a tamper left due (R402). -/
theorem Dev.powerOn_mayBecome (d : Dev) (nor : Mem) (f : Fuses) (up : PowerUp) : f.mayBecome (d.powerOn nor f up).2 := by
  unfold Dev.powerOn
  split
  · exact f.mayBecome_refl
  · dsimp only
    split
    · exact f.mayBecome_hardBlown
    · exact f.mayBecome_refl

theorem Dev.blowHard_mayBecome (d : Dev) (f : Fuses) (ok : Bool) : f.mayBecome (d.blowHard f ok).2 := by
  unfold Dev.blowHard
  split
  · exact f.mayBecome_refl
  · split
    · exact f.mayBecome_hardBlown
    · exact f.mayBecome_refl

/-- The key-kill line leaves the fuses alone, or blows HARD_BLOWN (`Dev.blowHard`). -/
theorem Dev.tampered_mayBecome (d : Dev) (f : Fuses) (src : Nat) (blown : Bool) : f.mayBecome (d.tampered f src blown).2 := by
  unfold Dev.tampered
  dsimp only
  split
  · exact f.mayBecome_refl
  · split
    · exact f.mayBecome_refl
    · exact Dev.blowHard_mayBecome ..

/-- REGION_BLOW writes the record only where none has been tried; a failed read-back keeps the record and counts as the try. -/
theorem Dev.regionBlow_mayBecome (d : Dev) (f : Fuses) (ok : Bool) : f.mayBecome (d.regionBlow f ok).2 := by
  unfold Dev.regionBlow
  split
  · exact f.mayBecome_refl
  · split
    · exact f.mayBecome_refl
    · split
      · exact f.mayBecome_refl
      next record _ hallowed =>
        simp only [Bool.or_eq_true, not_or, Bool.not_eq_true] at hallowed
        obtain ⟨⟨-, huntried⟩, -⟩ := hallowed
        split
        · exact f.mayBecome_tried record huntried
        · exact f.mayBecome_tried f.region huntried

/-! ### Commands and steps -/

/-- The rows that write fuses (R248, R402). -/
def fuseRow : Instr → Bool
  | .t0 _ | .regionBlow _ | .keyKill _ _ => true
  | _ => false

/-- Every other row answers a next state that differs in the device and the NOR flash alone. -/
theorem exec_of_not_fuseRow {c : Instr} (s : State) (h : fuseRow c = false) :
    ∃ dev nor, exec c s = .next { s with dev := dev, nor := nor } := by
  cases c with
  | t0 | regionBlow | keyKill => cases h
  | hostFrameUnknownOpcode op f =>
    change ∃ dev nor, execHostFrameUnknownOpcode op f s = _
    unfold execHostFrameUnknownOpcode
    split <;> exact ⟨_, _, rfl⟩
  | _ => exact ⟨_, _, rfl⟩

theorem exec_mayBecome {c : Instr} {s t : State} (h : exec c s = .next t) : s.fuses.mayBecome t.fuses := by
  cases hc : fuseRow c with
  | false =>
    obtain ⟨dev, nor, hexec⟩ := exec_of_not_fuseRow s hc
    cases hexec.symm.trans h
    exact s.fuses.mayBecome_refl
  | true =>
    cases c with
    | t0 up => cases h; exact Dev.powerOn_mayBecome ..
    | regionBlow ok => cases h; exact Dev.regionBlow_mayBecome ..
    | keyKill src blown => cases h; exact Dev.tampered_mayBecome ..
    | _ => cases hc

/-! ### The obligation -/

/-- Settles O7: a step is a command, of which only T0, REGION_BLOW and KEY_KILL write fuses, or the passing of a microsecond, which
writes none. -/
theorem fusesOneWay : Obligations.FusesOneWay := by
  unfold Obligations.FusesOneWay
  intro s t h
  unfold step at h
  split at h
  next => cases h; exact s.fuses.mayBecome_refl
  next c rest _ => exact exec_mayBecome (s := { s with pending := rest }) h

end Sys2Proof.Machine
end

section
/-!
PROOFS. The CRC of a record (R350): what is built and what compaction relocates are both 60 bytes closed by their own CRC-32.
-/

namespace Sys2Proof.Machine

open Sys2Proof

/-! ### Byte strings -/

@[simp] theorem length_beBytes (n v : Nat) : (beBytes n v).length = n := by
  induction n with
  | zero => rfl
  | succ n ih => simp [beBytes, ih]

/-- A big-endian byte reads as the number cut to 8 bits. -/
theorem byteAt_beBytes_one (v : Nat) : byteAt (beBytes 1 v) 0 = v % 2 ^ 8 := by
  simp [byteAt, beBytes]

/-- An overlay that lies within the string keeps its length. -/
theorem length_overlay {bs src : Bytes} {i : Nat} (h : i + src.length ≤ bs.length) : (overlay bs i src).length = bs.length := by
  simp only [overlay, List.length_append, List.length_take, List.length_drop]
  omega

/-- Within an overlay the bytes are those laid over. -/
theorem byteAt_overlay_within {bs src : Bytes} {i k : Nat} (hi : i ≤ bs.length) (hk : k < src.length) :
    byteAt (overlay bs i src) (i + k) = byteAt src k := by
  simp [byteAt, overlay, List.getElem?_append, hi, hk]

/-- Before an overlay the bytes are the string's own. -/
theorem byteAt_overlay_before {bs src : Bytes} {i j : Nat} (hi : i ≤ bs.length) (hj : j < i) :
    byteAt (overlay bs i src) j = byteAt bs j := by
  have hlen : j < bs.length := by omega
  simp [byteAt, overlay, List.getElem?_append, hj, hlen]

/-- Past an overlay the bytes are the string's own. -/
theorem byteAt_overlay_past {bs src : Bytes} {i j : Nat} (hi : i ≤ bs.length) (hj : i + src.length ≤ j) :
    byteAt (overlay bs i src) j = byteAt bs j := by
  have hnot : ¬ j < i := by omega
  have hnotSrc : ¬ j - i < src.length := by omega
  have hpos : i + src.length + (j - i - src.length) = j := by omega
  simp [byteAt, overlay, List.getElem?_append, hi, hnot, hnotSrc, hpos]

theorem byteAt_append_left {bs cs : Bytes} {i : Nat} (h : i < bs.length) : byteAt (bs ++ cs) i = byteAt bs i :=
  congrArg BitVec.toNat (List.getD_append _ _ _ _ h)

theorem byteAt_take {bs : Bytes} {n i : Nat} (h : i < n) : byteAt (bs.take n) i = byteAt bs i := by
  simp [byteAt, h]

/-! ### Strings closed by their CRC -/

/-- A string followed by its own CRC-32, most significant byte first. -/
def withCrc32 (body : Bytes) : Bytes := body ++ beBytes 4 (crc32 body)

@[simp] theorem length_withCrc32 (body : Bytes) : (withCrc32 body).length = body.length + 4 := by
  simp [withCrc32]

/-- What follows the body is the CRC-32 of what stands before it. -/
theorem drop_withCrc32 {body : Bytes} {n : Nat} (h : body.length = n) :
    (withCrc32 body).drop n = beBytes 4 (crc32 ((withCrc32 body).take n)) := by
  simp [withCrc32, ← h]

/-! ### The two places that write a record's CRC -/

/-- The builder closes every record with the CRC-32 of all that it put before (R350). -/
theorem Dev.recordBytes_eq_withCrc32 (d : Dev) (r : RecReq) (seq : Nat) : ∃ body, d.recordBytes r seq = withCrc32 body :=
  ⟨_, rfl⟩

/-- The string whose first 60 bytes compaction stores: the record with RELOCATED, bit 5 of its flags, set (R372). -/
def markRelocated (b : Bytes) : Bytes := overlay b 1 (beBytes 1 (byteAt b 1 ||| 0x20))

/-- Compaction closes the marked record with the CRC-32 computed anew (R350). -/
theorem relocatedBytes_eq_withCrc32 (b : Bytes) : relocatedBytes b = withCrc32 ((markRelocated b).take 60) := rfl

theorem length_take_markRelocated {b : Bytes} (h : 60 ≤ b.length) : ((markRelocated b).take 60).length = 60 := by
  have hlen : (markRelocated b).length = b.length := length_overlay (by rw [length_beBytes]; omega)
  rw [List.length_take, hlen]
  omega

/-- Below byte 60 the relocated record is the marked one. -/
theorem byteAt_relocatedBytes {b : Bytes} {i : Nat} (h : 60 ≤ b.length) (hi : i < 60) :
    byteAt (relocatedBytes b) i = byteAt (markRelocated b) i := by
  have hbody : i < ((markRelocated b).take 60).length := by rwa [length_take_markRelocated h]
  rw [relocatedBytes_eq_withCrc32, withCrc32, byteAt_append_left hbody, byteAt_take hi]

theorem bit_markRelocated {b : Bytes} (h : 1 ≤ b.length) : bit (byteAt (markRelocated b) 1) 5 = true := by
  have hflags : byteAt (markRelocated b) 1 = (byteAt b 1 ||| 0x20) % 2 ^ 8 :=
    (byteAt_overlay_within (k := 0) h (by simp)).trans (byteAt_beBytes_one _)
  have hset : Nat.testBit 0x20 5 = true := by decide
  rw [hflags, bit, Nat.testBit_mod_two_pow, Nat.testBit_or, hset, Bool.or_true]
  rfl

theorem byteAt_markRelocated_other {b : Bytes} {i : Nat} (h : 1 ≤ b.length) (hi : i ≠ 1) :
    byteAt (markRelocated b) i = byteAt b i := by
  rcases Nat.lt_or_gt_of_ne hi with hbefore | hpast
  · exact byteAt_overlay_before h hbefore
  · exact byteAt_overlay_past h (by rw [length_beBytes]; omega)

/-! ### The obligation -/

/-- Settles O48: a record built or relocated is 60 bytes closed by their CRC-32, and relocation changes the flags byte alone below it. -/
theorem recordCrc : Obligations.RecordCrc := by
  unfold Obligations.RecordCrc
  refine ⟨fun d r seq hlen => ?built, fun b hb => ⟨?crc, ?relocated, fun i hi hne => ?others⟩⟩
  case built =>
    obtain ⟨body, hbody⟩ := d.recordBytes_eq_withCrc32 r seq
    rw [hbody, length_withCrc32] at hlen
    rw [hbody]
    exact drop_withCrc32 (by omega)
  case crc => exact drop_withCrc32 (length_take_markRelocated hb)
  case relocated =>
    rw [byteAt_relocatedBytes hb (by decide)]
    exact bit_markRelocated (by omega)
  case others => exact (byteAt_relocatedBytes hb hi).trans (byteAt_markRelocated_other (by omega) hne)

end Sys2Proof.Machine
end

section
/-!
PROOFS. Enables and checked values written (R81, R82, R86, R88, R251, R286): a 1 and a checked value join the queue of checks, and a 0
clears an enable with no check (log 61).
-/

namespace Sys2Proof.Machine

open Sys2Proof

/-! ### An enable written -/

theorem enableFld_one_bit (e : Enable) : (enableFld e).hi = (enableFld e).lo ∧ (enableFld e).hi < 32 := by
  cases e <;> exact ⟨rfl, Nat.le_of_ble_eq_true rfl⟩

theorem Dev.setEnable_true (d : Dev) (e : Enable) : d.setEnable e true = d.trigger (.enable e) := rfl

/-- An enable that is 1 is cleared by a write of 0 with no check. -/
theorem Dev.setEnable_false {d : Dev} {e : Enable} (hon : d.flag (enableFld e) = true) :
    d.setEnable e false = (d.enableOff e).settle := by
  simp [Dev.setEnable, hon, Dev.writeEnable]

/-- The write of an enable of a check-value unit that the host port does not own (R472). -/
theorem exec_cvuEnable_of_free {s : State} {n : Fin 6} (on : Bool) (hfree : s.dev.flag (F.CVUn_CFG_OWNED n) = false) :
    exec (.cvuEnable n on) s = s.onHost (·.setEnable (.cvu n) on) := by
  have hexec : exec (.cvuEnable n on) s =
      s.onHost fun d => if d.flag (F.CVUn_CFG_OWNED n) then d else d.setEnable (.cvu n) on := rfl
  simp only [hexec, State.onHost, State.onDev_eq, hfree, Bool.false_eq_true, if_false]

/-- A write of 1 to an enable joins the queue of checks. -/
theorem completes_enable {s : State} {c : Instr} (e : Enable) (hs : s.dev.served)
    (hc : exec c s = s.onHost (·.setEnable e true)) : completes c s (s.dev.queued · (.enable e)) :=
  completes_onHost _ hs hc (s.dev.trigger_queued _)

/-- A write of 0 to an enable that is 1: what `enableOff` leaves is brought up to date. -/
theorem completes_disable {s : State} {c : Instr} (e : Enable) {p : Dev → Prop} (hs : s.dev.served)
    (hc : exec c s = s.onHost (·.setEnable e false)) (hon : s.dev.flag (enableFld e) = true) (hp : p (s.dev.enableOff e)) :
    completes c s fun x => ∃ y : Dev, x = y.settle ∧ p y :=
  completes_onHost _ hs hc ⟨_, Dev.setEnable_false hon, hp⟩

/-! ### What an enable written 0 leaves -/

/-- An enable whose clearing does nothing besides: its bit reads 0, and its register alone has changed. -/
theorem Dev.enableOff_clears {d : Dev} {e : Enable} (hoff : d.enableOff e = d.setFlag (enableFld e) false) :
    (d.enableOff e).flag (enableFld e) = false ∧ d.onlyRegs (d.enableOff e) [(enableFld e).addr] := by
  obtain ⟨hbit, h32⟩ := enableFld_one_bit e
  rw [hoff]
  exact ⟨Dev.flag_setFlag hbit h32, Dev.onlyRegs_setFlag (Dev.onlyRegs_refl d _) (List.mem_singleton_self _)⟩

/-- An HF port without a field has nothing to end (R133). -/
theorem Dev.enableOff_hfp {d : Dev} {n : Nat} (hfree : d.hfChainOn n = none) :
    d.enableOff (.hfp n) = d.setFlag (F.HFPn_CFG_ENABLE n) false := by
  have hafter : (d.setFlag (F.HFPn_CFG_ENABLE n) false).hfChainOn n = none := hfree
  simp only [Dev.enableOff, Dev.hfpOff, hafter]

/-- A UHF port that no chain holds has nothing to end (R211). -/
theorem Dev.enableOff_uhfp {d : Dev} {n : Nat} (hfree : ∀ m, (d.uhfc m).owner = none) :
    d.enableOff (.uhfp n) = d.setFlag (F.UHFPn_CFG_ENABLE n) false := by
  have hafter (m : Nat) : ((d.setFlag (F.UHFPn_CFG_ENABLE n) false).uhfc m).owner = none := hfree m
  simp [Dev.enableOff, Dev.uhfpOff, hafter]

/-- A timer stopped: ENABLE and RUNNING read 0, and nothing besides their registers has changed (R460). -/
theorem Dev.enableOff_tmr (d : Dev) (n : Nat) :
    (d.enableOff (.tmr n)).flag (F.TMRn_CTL_ENABLE n) = false ∧ (d.enableOff (.tmr n)).flag (F.TMRn_STAT_RUNNING n) = false ∧
    d.onlyRegs (d.enableOff (.tmr n)) [R.TMRn_CTL n, R.TMRn_STAT n] := by
  have hother : (F.TMRn_CTL_ENABLE n).addr ≠ (F.TMRn_STAT_RUNNING n).addr := by simp [F.TMRn_CTL_ENABLE, F.TMRn_STAT_RUNNING]
  obtain ⟨hbit, h32⟩ := enableFld_one_bit (.tmr n)
  refine ⟨?enable, Dev.flag_setFlag rfl (Nat.le_of_ble_eq_true rfl), ?only⟩
  case enable => exact (Dev.flag_setFlag_other (.inl hother) h32).trans (Dev.flag_setFlag hbit h32)
  case only =>
    exact Dev.onlyRegs_setFlag (Dev.onlyRegs_setFlag (Dev.onlyRegs_refl d _) (List.mem_cons_self ..))
      (List.mem_cons_of_mem _ (List.mem_singleton_self _))

/-! ### Host writes of checked values -/

/-- A word with no bit locked and no value the tables store as another is written as it is (R420, R465). -/
theorem Dev.hostWrite_of_unlocked {d : Dev} {a : Nat} {v : Word} (hlock : d.lockMask a = 0#32) (hclamp : d.clampWord a v = v) :
    (d.hostWrite a v).1 = (d.disarm a).writeWord a v := by
  simp only [Dev.hostWrite, hlock, hclamp, BitVec.not_zero, BitVec.and_allOnes, BitVec.and_zero, BitVec.or_zero]

theorem Dev.lockMask_of_classless {d : Dev} {a : Nat} (h : (accessOf a).lck = 0#32) : d.lockMask a = 0#32 := by
  simp [Dev.lockMask, h]

/-- The limit registers hold no locked and no staged bit. -/
theorem access_govAddr (r : GovReg) : (accessOf (govAddr r)).lck = 0#32 ∧ (accessOf (govAddr r)).stg = 0#32 := by
  cases r <;> decide +kernel

theorem govAddr_range (r : GovReg) : 0x601 ≤ govAddr r ∧ govAddr r ≤ 0x606 := by cases r <;> decide

theorem govAddr_eq_ctl {r : GovReg} : govAddr r = R.GOV_CTL → r = .ctl := by cases r <;> decide

/-- The WATCH registers hold no locked and no staged bit. -/
theorem access_watchAddr (r : WatchReg) : (accessOf (watchAddr r)).lck = 0#32 ∧ (accessOf (watchAddr r)).stg = 0#32 := by
  cases r with
  | period k => revert k; decide +kernel
  | _ => decide +kernel

theorem watchAddr_range (r : WatchReg) : 0x700 ≤ watchAddr r ∧ watchAddr r ≤ 0x707 := by
  cases r with
  | period k => have := k.isLt; simp only [watchAddr, R.WATCH_PERIODk]; omega
  | _ => decide

theorem watchAddr_eq_ctl {r : WatchReg} : watchAddr r = R.WATCH_CTL → r = .ctl := by
  cases r with
  | period k => simp only [watchAddr, R.WATCH_PERIODk, R.WATCH_CTL]; omega
  | _ => decide

/-- No WATCH register is half of a 64-bit pair. -/
theorem Dev.disarm_watchAddr (d : Dev) (r : WatchReg) : d.disarm (watchAddr r) = d := by
  have hnone : pairPartner (watchAddr r) = none := by
    cases r with
    | period k => revert k; decide
    | _ => decide
  simp only [Dev.disarm, hnone]

/-- Above the chains' windows the register tables store COEX_CFG alone as another value. -/
theorem Dev.clampWord_of_range {d : Dev} {a : Nat} {w : Word} (hlo : 0x500 ≤ a) (hne : a ≠ R.COEX_CFG) : d.clampWord a w = w := by
  have hhf : ¬ a < 0x300 := by omega
  have huhf : ¬ a < 0x500 := by omega
  simp [Dev.clampWord, hne, hhf, huhf]

theorem Dev.writeWord_of_gov {d : Dev} {a : Nat} {w : Word} (hstg : (accessOf a).stg = 0#32) (hlo : 0x540 ≤ a) (hhi : a < 0x700) :
    d.writeWord a w = d.writeGov a w := by
  simp (disch := omega) only [Dev.writeWord, hstg, bne_self_eq_false, Bool.false_eq_true, R.SUP_MODE, R.SUP_DIRECT_QUOTA,
    if_neg, if_pos, if_false]

theorem Dev.writeWord_of_watch {d : Dev} {a : Nat} {w : Word} (hstg : (accessOf a).stg = 0#32) (hlo : 0x700 ≤ a) (hhi : a < 0x800) :
    d.writeWord a w = d.writeWatch a w := by
  simp (disch := omega) only [Dev.writeWord, hstg, bne_self_eq_false, Bool.false_eq_true, R.SUP_MODE, R.SUP_DIRECT_QUOTA,
    if_neg, if_pos, if_false]

/-- A write to a limit register but for RESTORE is a checked value (R251). -/
theorem Dev.writeGov_govAddr {d : Dev} {r : GovReg} {w : Word} (hrestore : r = .ctl → w.getLsbD 31 = false) :
    d.writeGov (govAddr r) w = d.writeValue (govAddr r) w := by
  have hno : ¬ (govAddr r = R.GOV_CTL ∧ w.getLsbD 31 = true) := fun ⟨hctl, hset⟩ =>
    Bool.false_ne_true ((hrestore (govAddr_eq_ctl hctl)).symm.trans hset)
  have hlimit : R.GOV_UHF ≤ govAddr r ∧ govAddr r ≤ R.GOV_CTL := govAddr_range r
  simp only [Dev.writeGov, Bool.and_eq_true, decide_eq_true_eq]
  rw [if_neg hno, if_pos hlimit]

/-- A write to a WATCH register but for FORGET is a checked value (R286). -/
theorem Dev.writeWatch_watchAddr {d : Dev} {r : WatchReg} {w : Word} (hforget : r = .ctl → w.getLsbD 31 = false) :
    d.writeWatch (watchAddr r) w = d.writeValue (watchAddr r) w := by
  have hrange : watchAddr r ≤ R.WATCH_PERIODk 3 := (watchAddr_range r).2
  by_cases hctl : watchAddr r = R.WATCH_CTL
  · rw [Dev.writeWatch, if_pos hctl, hforget (watchAddr_eq_ctl hctl)]
    rfl
  · rw [Dev.writeWatch, if_neg hctl, if_pos hrange]

/-- The holding copy of a pair goes with the write (R465), whose value then waits for its check. -/
theorem Dev.hostWrite_govAddr {d : Dev} {r : GovReg} {v : Word} (hrestore : r = .ctl → v.getLsbD 31 = false) :
    (d.hostWrite (govAddr r) v).1 = (d.disarm (govAddr r)).writeValue (govAddr r) v := by
  obtain ⟨hlck, hstg⟩ := access_govAddr r
  obtain ⟨hlo, hhi⟩ := govAddr_range r
  have hclamp : d.clampWord (govAddr r) v = v := Dev.clampWord_of_range (by omega) (by simp only [R.COEX_CFG]; omega)
  rw [Dev.hostWrite_of_unlocked (Dev.lockMask_of_classless hlck) hclamp, Dev.writeWord_of_gov hstg (by omega) (by omega),
    Dev.writeGov_govAddr hrestore]

theorem Dev.hostWrite_watchAddr {d : Dev} {r : WatchReg} {v : Word} (hforget : r = .ctl → v.getLsbD 31 = false) :
    (d.hostWrite (watchAddr r) v).1 = d.writeValue (watchAddr r) v := by
  obtain ⟨hlck, hstg⟩ := access_watchAddr r
  obtain ⟨hlo, hhi⟩ := watchAddr_range r
  have hclamp : d.clampWord (watchAddr r) v = v := Dev.clampWord_of_range (by omega) (by simp only [R.COEX_CFG]; omega)
  rw [Dev.hostWrite_of_unlocked (Dev.lockMask_of_classless hlck) hclamp, Dev.disarm_watchAddr,
    Dev.writeWord_of_watch hstg hlo (by omega), Dev.writeWatch_watchAddr hforget]

/-! ### The obligation -/

/-- Settles O8: an enable written 1 and a checked value are put in the queue of checks by `trigger`; an enable written 0 is `enableOff`,
which for these forms clears the enable's bit (and a timer's RUNNING) and nothing else, and then `settle`. That a 0 waits for no check is
the model's reading (log 61), as is that the host port serves writes once flushed (log 109). -/
theorem checksWait : Obligations.ChecksWait := by
  unfold Obligations.ChecksWait
  refine ⟨fun s hs => ?enables, fun s hs => ?values, fun s hs => ?clears⟩
  case enables =>
    exact ⟨fun n => completes_enable (.hfc n) hs rfl, fun n => completes_enable (.hfp n) hs rfl,
      fun n => completes_enable (.hfBond n) hs rfl, fun n => completes_enable (.uhfc n) hs rfl,
      fun n => completes_enable (.uhfp n) hs rfl, completes_enable .steer hs rfl, fun k => completes_enable (.coexPw k) hs rfl,
      fun n => completes_enable (.tmr n) hs rfl,
      fun n hfree => completes_enable (.cvu n) hs (exec_cvuEnable_of_free true hfree)⟩
  case values =>
    refine ⟨fun v => ?quota, fun r data hrestore => ?limit, fun r data hforget => ?watch⟩
    case quota =>
      exact completes_onHost (·.writeValue R.SUP_DIRECT_QUOTA (wordOf v.toNat)) hs rfl (s.dev.trigger_queued _)
    case limit =>
      refine completes_onHost (fun d => (d.hostWrite (govAddr r) data).1) hs rfl ?_
      rw [Dev.hostWrite_govAddr hrestore]
      exact Dev.trigger_queued _ _
    case watch =>
      refine completes_onHost (fun d => (d.hostWrite (watchAddr r) data).1) hs rfl ?_
      rw [Dev.hostWrite_watchAddr hforget]
      exact Dev.trigger_queued _ _
  case clears =>
    refine ⟨fun n hon => ?bond, fun hon => ?steer, fun n hon => ?tmr, fun n hfree hon => ?cvu, fun n hon hfree => ?hfp,
      fun n hon hfree => ?uhfp⟩
    case bond => exact completes_disable (.hfBond n) hs rfl hon (Dev.enableOff_clears rfl)
    case steer => exact completes_disable .steer hs rfl hon (Dev.enableOff_clears rfl)
    case tmr => exact completes_disable (.tmr n) hs rfl hon (s.dev.enableOff_tmr n)
    case cvu => exact completes_disable (.cvu n) hs (exec_cvuEnable_of_free false hfree) hon (Dev.enableOff_clears rfl)
    case hfp => exact completes_disable (.hfp n) hs rfl hon (Dev.enableOff_clears (Dev.enableOff_hfp hfree))
    case uhfp => exact completes_disable (.uhfp n) hs rfl hon (Dev.enableOff_clears (Dev.enableOff_uhfp hfree))

end Sys2Proof.Machine
end

section
/-!
PROOFS. The fault flag (R492): DEV_STAT.FAULT and the status bit FLT both show `Dev.faulted`, which is 1 exactly while a bit of
FLT_STAT [31:19] or FAULT of an HF port or UHF port is.
-/

namespace Sys2Proof.Machine

open Sys2Proof

/-! ### Bits of numbers and fields -/

theorem b2n_lt_two (b : Bool) : b2n b < 2 := by cases b <;> decide

theorem testBit_zero_b2n (b : Bool) : (b2n b).testBit 0 = b := by cases b <;> rfl

/-- A field is other than 0 while one of its bits is 1. -/
theorem bitsOf_ne_zero_iff {w : Word} {hi lo : Nat} :
    bitsOf w hi lo ≠ 0 ↔ ∃ k, lo ≤ k ∧ k ≤ hi ∧ w.getLsbD k = true := by
  have hbit : ∀ i, (bitsOf w hi lo).testBit i = (decide (i < hi + 1 - lo) && w.getLsbD (lo + i)) := fun i => by
    rw [bitsOf, Nat.testBit_mod_two_pow, Nat.testBit_shiftRight, BitVec.getLsbD]
  constructor
  · intro hne
    obtain ⟨i, hi'⟩ := Nat.exists_testBit_of_ne_zero hne
    rw [hbit, Bool.and_eq_true, decide_eq_true_eq] at hi'
    exact ⟨lo + i, by omega, by omega, hi'.2⟩
  · rintro ⟨k, hlo, hhi, hk⟩ hzero
    have h := hbit (k - lo)
    rw [hzero, Nat.zero_testBit, Nat.add_sub_cancel' hlo, hk, Bool.and_true] at h
    exact of_decide_eq_false h.symm (by omega)

/-! ### The ports' FAULT bits in FLT_PORTS -/

theorem Dev.faultBits_succ (d : Dev) (n : Nat) (f : Nat → Fld) :
    d.faultBits (n + 1) f = d.faultBits n f + b2n (d.flag (f n)) * 2 ^ n := by
  simp [Dev.faultBits, List.range_succ]

theorem Dev.faultBits_lt (d : Dev) (n : Nat) (f : Nat → Fld) : d.faultBits n f < 2 ^ n := by
  induction n with
  | zero => exact Nat.one_pos
  | succ n ih =>
    have hterm := Nat.mul_le_mul_right (2 ^ n) (Nat.le_of_lt_succ (b2n_lt_two (d.flag (f n))))
    rw [Dev.faultBits_succ, Nat.pow_succ]
    omega

theorem Dev.testBit_faultBits (d : Dev) (n : Nat) (f : Nat → Fld) (k : Nat) :
    (d.faultBits n f).testBit k = (decide (k < n) && d.flag (f k)) := by
  induction n with
  | zero => simp [Dev.faultBits]
  | succ n ih =>
    rw [Dev.faultBits_succ, Nat.add_comm, Nat.mul_comm, Nat.testBit_two_pow_mul_add _ (d.faultBits_lt n f), ih]
    rcases Nat.lt_trichotomy k n with hlt | rfl | hgt
    · simp [hlt, Nat.lt_succ_of_lt hlt]
    · rw [if_neg (Nat.lt_irrefl k), Nat.sub_self, testBit_zero_b2n, decide_eq_true k.lt_succ_self, Bool.true_and]
    · have hbeyond : (b2n (d.flag (f n))).testBit (k - n) = false :=
        Nat.testBit_lt_two_pow ((b2n_lt_two _).trans_le (Nat.le_self_pow (by omega) 2))
      simp [Nat.lt_asymm hgt, hbeyond, show ¬ k < n + 1 by omega]

theorem Dev.fltPorts_getLsbD (d : Dev) {i : Nat} (h : i < 32) :
    d.fltPorts.getLsbD i =
      if i < 16 then d.flag (F.HFPn_STAT_FAULT i) else decide (i < 24) && d.flag (F.UHFPn_STAT_FAULT (i - 16)) := by
  simp only [Dev.fltPorts, pack, List.foldl_cons, List.foldl_nil, putBits_getLsbD h, Dev.testBit_faultBits]
  by_cases hhf : i < 16
  · simp [hhf]
  · by_cases huhf : i < 24
    · simp [hhf, huhf, show 16 ≤ i by omega, show i - 16 < 8 by omega]
    · simp [hhf, huhf]

theorem Dev.fltPorts_ne_zero_iff (d : Dev) :
    d.fltPorts ≠ 0#32 ↔
      (∃ n, n < 16 ∧ d.flag (F.HFPn_STAT_FAULT n) = true) ∨ (∃ n, n < 8 ∧ d.flag (F.UHFPn_STAT_FAULT n) = true) := by
  constructor
  · intro hne
    by_contra hnone
    obtain ⟨hhf, huhf⟩ := not_or.1 hnone
    refine hne (BitVec.eq_of_getLsbD_eq fun i hi => ?_)
    rw [d.fltPorts_getLsbD hi, BitVec.getLsbD_zero]
    split
    case isTrue h16 => exact Bool.eq_false_iff.2 fun hf => hhf ⟨i, h16, hf⟩
    case isFalse h16 =>
      refine Bool.eq_false_iff.2 fun hf => ?_
      obtain ⟨h24, hf⟩ := Bool.and_eq_true_iff.1 hf
      exact huhf ⟨i - 16, by have := of_decide_eq_true h24; omega, hf⟩
  · rintro (⟨n, hn, hf⟩ | ⟨n, hn, hf⟩) hzero
    · have h := d.fltPorts_getLsbD (i := n) (by omega)
      simp [hzero, hn, hf] at h
    · have h := d.fltPorts_getLsbD (i := n + 16) (by omega)
      rw [hzero, BitVec.getLsbD_zero, if_neg (by omega), Nat.add_sub_cancel, hf, Bool.and_true] at h
      exact of_decide_eq_false h.symm (by omega)

/-! ### The flag and where it shows -/

theorem Dev.faulted_iff (d : Dev) :
    d.faulted = true ↔ (∃ k, 19 ≤ k ∧ k ≤ 31 ∧ d.fltStat.getLsbD k = true) ∨
      (∃ n, n < 16 ∧ d.flag (F.HFPn_STAT_FAULT n) = true) ∨ (∃ n, n < 8 ∧ d.flag (F.UHFPn_STAT_FAULT n) = true) := by
  rw [Dev.faulted, Bool.or_eq_true, bne_iff_ne, bne_iff_ne, bitsOf_ne_zero_iff, Dev.fltPorts_ne_zero_iff]

theorem Dev.readWord_fltStat (d : Dev) (fu : Fuses) (free : Word) : d.readWord fu free R.FLT_STAT = d.fltStat := rfl

theorem Dev.readWord_devStat (d : Dev) (fu : Fuses) (free : Word) : d.readWord fu free R.DEV_STAT = d.devStat := rfl

/-- DEV_STAT.FAULT is bit 7 (R35). -/
theorem Dev.devStat_fault (d : Dev) : d.devStat.getLsbD 7 = d.faulted := by
  simp only [Dev.devStat, pack, List.foldl_cons, List.foldl_nil]
  rw [putBits_getLsbD (by decide), if_pos (by decide), Nat.sub_self, testBit_zero_b2n]

/-- FLT is bit 1 of the status byte (R433). -/
theorem Dev.statusByte_flt (d : Dev) : d.statusByte.getLsbD 1 = d.faulted := by
  have hlatched := b2n_lt_two d.latched
  have hfaulted := b2n_lt_two d.faulted
  rw [← testBit_zero_b2n d.faulted, Dev.statusByte, BitVec.getLsbD_ofNat, Nat.testBit_eq_decide_div_mod_eq,
    Nat.testBit_eq_decide_div_mod_eq]
  simp only [Nat.reduceLT, decide_true, Bool.true_and, decide_eq_decide]
  omega

/-! ### The obligation -/

/-- Settles O22: DEV_STAT.FAULT and FLT each show `Dev.faulted`, and `Dev.faulted_iff` says when that is 1. -/
theorem faultFlag : Obligations.FaultFlag := by
  unfold Obligations.FaultFlag
  intro d fu free
  simp only [Dev.readWord_fltStat, Dev.readWord_devStat, Dev.devStat_fault, Dev.statusByte_flt]
  exact ⟨d.faulted_iff, d.faulted_iff⟩

end Sys2Proof.Machine
end

section
/-!
PROOFS. Steps and the queue, the NOR flash and the fuses (R58–R60, R248, R402): a step runs the command at the front, no command touches
the queue, three rows of IMAGE_WRITE alone program the flash, and none leaves its canonical form.
-/

namespace Sys2Proof.Machine

open Sys2Proof

/-! ### The queue -/

/-- A meaning that answers with a device and a flash, or with a device and fuses, keeps the queue. -/
theorem exec_pending {c : Instr} {s t : State} (h : exec c s = .next t) : t.pending = s.pending := by
  cases hc : fuseRow c with
  | false =>
    obtain ⟨dev, nor, hexec⟩ := exec_of_not_fuseRow s hc
    cases hexec.symm.trans h
    rfl
  | true =>
    cases c with
    | t0 | regionBlow | keyKill => cases h; rfl
    | _ => cases hc

/-! ### The NOR flash -/

/-- The rows that program or erase the NOR flash (R58). -/
def norRow : Instr → Bool
  | .imageWriteBegin _ | .imageWriteData _ | .imageWriteEnd _ => true
  | _ => false

/-- Every other row answers a next state that differs in the device and the fuses alone. -/
theorem exec_of_not_norRow {c : Instr} (s : State) (h : norRow c = false) :
    ∃ dev fuses, exec c s = .next { s with dev := dev, fuses := fuses } := by
  cases c with
  | imageWriteBegin | imageWriteData | imageWriteEnd => cases h
  | hostFrameUnknownOpcode op f =>
    change ∃ dev fuses, execHostFrameUnknownOpcode op f s = _
    unfold execHostFrameUnknownOpcode
    split <;> exact ⟨_, _, rfl⟩
  | _ => exact ⟨_, _, rfl⟩

/-- An image write answers with the flash that its operation leaves, whatever chains it runs. -/
theorem State.imageStep_eq (s : State) (x : Dev × Mem) : ∃ e, s.imageStep x = .next { s with dev := e, nor := x.2 } := by
  unfold State.imageStep
  dsimp only
  split <;> exact ⟨_, rfl⟩

theorem Dev.imageBegin_wf {d : Dev} {nor : Mem} {ok : Bool} (h : Mem.wf nor = true) : Mem.wf (d.imageBegin nor ok).2 = true := by
  unfold Dev.imageBegin
  split
  · exact h
  · split
    · exact h
    · dsimp only
      split
      · exact h
      · split <;> exact Mem.erase_wf h

theorem Dev.imageData_wf {d : Dev} {nor : Mem} {ok : Bool} (h : Mem.wf nor = true) : Mem.wf (d.imageData nor ok).2 = true := by
  unfold Dev.imageData
  split
  · exact h
  · split
    · exact h
    · split
      · exact h
      · dsimp only
        split
        · exact h
        · split <;> exact Mem.writeN_wf h

theorem Dev.imageEnd_wf {d : Dev} {nor : Mem} {ok : Bool} (h : Mem.wf nor = true) : Mem.wf (d.imageEnd nor ok).2 = true := by
  unfold Dev.imageEnd
  split
  · exact h
  · split
    · exact h
    · split
      · exact h
      · dsimp only
        split
        · exact h
        · split
          · exact h
          · split
            · exact h
            · split <;> (dsimp only; exact Mem.writeN_wf h)

/-- No command leaves the canonical form of the flash. -/
theorem exec_nor_wf {c : Instr} {s t : State} (hwf : Mem.wf s.nor = true) (h : exec c s = .next t) : Mem.wf t.nor = true := by
  cases hc : norRow c with
  | false =>
    obtain ⟨dev, fuses, hexec⟩ := exec_of_not_norRow s hc
    cases hexec.symm.trans h
    exact hwf
  | true =>
    cases c with
    | imageWriteBegin ok =>
      obtain ⟨e, he⟩ := s.imageStep_eq (s.dev.imageBegin s.nor ok)
      cases he.symm.trans h
      exact Dev.imageBegin_wf hwf
    | imageWriteData ok =>
      obtain ⟨e, he⟩ := s.imageStep_eq (s.dev.imageData s.nor ok)
      cases he.symm.trans h
      exact Dev.imageData_wf hwf
    | imageWriteEnd ok =>
      obtain ⟨e, he⟩ := s.imageStep_eq (s.dev.imageEnd s.nor ok)
      cases he.symm.trans h
      exact Dev.imageEnd_wf hwf
    | _ => cases hc

/-! ### The obligations -/

/-- Settles O1: `step` is `exec` of the front of the queue. -/
theorem stepRunsFront : Obligations.StepRunsFront := by
  unfold Obligations.StepRunsFront
  exact fun _ _ _ => rfl

/-- Settles O2: with no command waiting a step is a tick of 1 µs (log 2). -/
theorem stepIdles : Obligations.StepIdles := by
  unfold Obligations.StepIdles
  intro s hidle
  simp only [step, hidle]

/-- Settles O3: a row that writes no fuse answers with a device and a flash, and T0, REGION_BLOW and KEY_KILL with a device and fuses. -/
theorem execKeepsQueue : Obligations.ExecKeepsQueue := by
  unfold Obligations.ExecKeepsQueue
  exact fun _ _ _ => exec_pending

/-- Settles O4: the flash at reset holds nothing. -/
theorem resetSafe : Obligations.ResetSafe := by
  unfold Obligations.ResetSafe
  rfl

/-- Settles O5: a step is the passing of a microsecond or a command, and the erases and programs of an image write keep the canonical
form. -/
theorem stepKeepsSafe : Obligations.StepKeepsSafe := by
  unfold Obligations.StepKeepsSafe
  intro s t hinv h
  unfold step at h
  split at h
  next => cases h; exact hinv
  next c rest _ => exact exec_nor_wf (s := { s with pending := rest }) hinv h

/-- Settles O6: every row but those named answers with the flash, and every row but those named with the fuses, that it found. -/
theorem onlyTheseChangeNorAndFuses : Obligations.OnlyTheseChangeNorAndFuses := by
  unfold Obligations.OnlyTheseChangeNorAndFuses
  refine ⟨fun c s t h hother => ?nor, fun c s t h hother => ?fuses⟩
  case nor =>
    have hrow : norRow c = false := by
      cases c with
      | imageWriteBegin ok => exact absurd rfl (hother ok).1
      | imageWriteData ok => exact absurd rfl (hother ok).2.1
      | imageWriteEnd ok => exact absurd rfl (hother ok).2.2
      | _ => rfl
    obtain ⟨dev, fuses, hexec⟩ := exec_of_not_norRow s hrow
    cases hexec.symm.trans h
    rfl
  case fuses =>
    have hrow : fuseRow c = false := by
      cases c with
      | t0 env => exact absurd rfl (hother env true 0 true).1
      | regionBlow ok => exact absurd rfl (hother ⟨0, true, true, true, []⟩ ok 0 true).2.1
      | keyKill src blown => exact absurd rfl (hother ⟨0, true, true, true, []⟩ true src blown).2.2
      | _ => rfl
    obtain ⟨dev, nor, hexec⟩ := exec_of_not_fuseRow s hrow
    cases hexec.symm.trans h
    rfl

end Sys2Proof.Machine
end

section
/-!
PROOFS. The frame of the UHF radio, the governor and the coexistence wires (Chapters 6–8): what their operations can reach, one lemma for
each operation in the order of the model.
-/

namespace Sys2Proof.Machine

open Sys2Proof

-- one proof after another: the check bounds the memory that the stacks of parallel proofs take
set_option Elab.async false

/-! ### The relation -/

/-- The register windows of the UHF chains and ports, the governor and the coexistence wires, and that of the timers. -/
def uhfWindow (a : Nat) : Prop := (0x400 ≤ a ∧ a < 0x700) ∨ (0xD00 ≤ a ∧ a < 0xE00)

theorem uhfWindow_chain {c n : Nat} (hn : n < 2) (hc : 0x400 ≤ c ∧ c < 0x600 := by decide) : uhfWindow (c + 0x80 * n) := by
  unfold uhfWindow; omega

theorem uhfWindow_port {c p : Nat} (hp : p < 8) (hc : 0x500 ≤ c ∧ c < 0x508 := by decide) : uhfWindow (c + 0x8 * p) := by
  unfold uhfWindow; omega

theorem uhfWindow_timer {c n : Nat} (hn : n < 8) (hc : 0xD00 ≤ c ∧ c < 0xD20 := by decide) : uhfWindow (c + 0x20 * n) := by
  unfold uhfWindow; omega

theorem uhfWindow_fixed {a : Nat} (ha : 0x400 ≤ a ∧ a < 0x700 := by decide) : uhfWindow a := .inl ha

/-- What a chain holds: channel, port, partner and its part in a pair. -/
def UhfChain.holds (u : UhfChain) : Option Nat × Option Nat × Option Nat × Bool := (u.owner, u.port, u.partner, u.master)

/-- The UHF chains hold ports and partners of their band, and no group waits for its boundary. -/
def Dev.uhfInRange (d : Dev) : Prop :=
  d.applying = [] ∧ ∀ n, n < 2 → (∀ p ∈ (d.uhfc n).port, p < 8) ∧ ∀ m ∈ (d.uhfc n).partner, m < 2

/-- `e` is `d` but for the UHF chains at work, the governor, the wires, their registers and the time; with `k` the channels too are as they
were. -/
structure Dev.UhfOnly (k : Bool) (d e : Dev) : Prop where
  rest : e = { d with
    regs := e.regs, uhf := e.uhf, gov := e.gov, coexA := e.coexA, coexB := e.coexB, windows := e.windows, time := e.time
    attic := e.attic, freeCtr := e.freeCtr, chans := e.chans }
  attic : e.attic = { d.attic with count := e.attic.count }
  chans : k = true → e.chans = d.chans
  regs : ∀ a, ¬ uhfWindow a → e.reg a = d.reg a
  held : ∀ n, n < 2 → (e.uhfc n).holds = (d.uhfc n).holds
  range : d.uhfInRange

namespace Dev.UhfOnly

variable {k : Bool} {d e : Dev} {n : Nat}

theorem refl (h : d.uhfInRange) : UhfOnly k d d := ⟨rfl, rfl, fun _ => rfl, fun _ _ => rfl, fun _ _ => rfl, h⟩

theorem weaken (h : UhfOnly k d e) : UhfOnly false d e := ⟨h.rest, h.attic, nofun, h.regs, h.held, h.range⟩

theorem applying (h : UhfOnly k d e) : e.applying = [] := by rw [h.rest]; exact h.range.1

theorem partner_eq (h : UhfOnly k d e) (hn : n < 2) : (e.uhfc n).partner = (d.uhfc n).partner :=
  congrArg (·.2.2.1) (h.held n hn)

theorem port_eq (h : UhfOnly k d e) (hn : n < 2) : (e.uhfc n).port = (d.uhfc n).port := congrArg (·.2.1) (h.held n hn)

theorem port_lt (h : UhfOnly k d e) (hn : n < 2) {p : Nat} (hp : (e.uhfc n).port = some p) : p < 8 :=
  (h.range.2 n hn).1 p ((h.port_eq hn).symm.trans hp)

theorem partner_lt (h : UhfOnly k d e) (hn : n < 2) {m : Nat} (hm : (e.uhfc n).partner = some m) : m < 2 :=
  (h.range.2 n hn).2 m ((h.partner_eq hn).symm.trans hm)

theorem team_lt (h : UhfOnly k d e) (hn : n < 2) : ∀ m ∈ e.uhfTeam n, m < 2 := by
  intro m hm
  simp only [Dev.uhfTeam, List.mem_cons, Option.mem_toList] at hm
  rcases hm with rfl | hm
  · exact hn
  · exact h.partner_lt hn hm

/-! ### Registers, chains, time -/

theorem setReg {a : Nat} {v : Word} (h : UhfOnly k d e) (ha : uhfWindow a) : UhfOnly k d (e.setReg a v) where
  rest := congrArg (·.setReg a v) h.rest
  attic := h.attic
  chans := h.chans
  regs b hb := (Dev.reg_setReg_other fun hba => hb (by rw [hba]; exact ha)).trans (h.regs b hb)
  held := h.held
  range := h.range

theorem setFld {f : Fld} {v : Nat} (h : UhfOnly k d e) (ha : uhfWindow f.addr) : UhfOnly k d (e.setFld f v) := h.setReg ha

theorem setFlag {f : Fld} {v : Bool} (h : UhfOnly k d e) (ha : uhfWindow f.addr) : UhfOnly k d (e.setFlag f v) := h.setFld ha

theorem bump {f : Fld} {v : Nat} (h : UhfOnly k d e) (ha : uhfWindow f.addr) : UhfOnly k d (e.bump f v) := h.setFld ha

theorem raiseTo {f : Fld} {v : Nat} (h : UhfOnly k d e) (ha : uhfWindow f.addr) : UhfOnly k d (e.raiseTo f v) := h.setFld ha

theorem setUst {v : Nat} (h : UhfOnly k d e) (hn : n < 2) : UhfOnly k d (e.setUst n v) := h.setFld (uhfWindow_chain hn)

/-- The governor, the wires, the windows and the draws changed. -/
theorem govern (h : UhfOnly k d e) (g : Gov) (a b : Wires) (w : List (Nat × Nat)) (c : Nat) :
    UhfOnly k d { e with gov := g, coexA := a, coexB := b, windows := w, freeCtr := c } where
  rest := congrArg (fun x : Dev => { x with gov := g, coexA := a, coexB := b, windows := w, freeCtr := c }) h.rest
  attic := h.attic
  chans := h.chans
  regs := h.regs
  held := h.held
  range := h.range

/-- A chain at work: what it holds stays. -/
theorem onUhf {f : UhfChain → UhfChain} (h : UhfOnly k d e) (hn : n < 2)
    (hf : ∀ u, (f u).holds = u.holds := by exact fun _ => rfl) : UhfOnly k d (e.onUhf n f) where
  rest := congrArg (fun x : Dev => { x with uhf := tableSet 2 {} e.uhf n (f (e.uhfc n)) }) h.rest
  attic := h.attic
  chans := h.chans
  regs := h.regs
  held m hm := by
    by_cases hmn : m = n
    · subst hmn; rw [Dev.uhfc_onUhf hm, hf]; exact h.held m hm
    · rw [Dev.uhfc_onUhf_other hm hmn]; exact h.held m hm
  range := h.range

theorem tick {us : Nat} (h : UhfOnly k d e) : UhfOnly k d (e.tick us) where
  rest := by
    rw [e.tick_frame us]
    exact congrArg (fun x : Dev => { x with
      time := (e.tick us).time, attic := { e.attic with count := (e.tick us).attic.count } }) h.rest
  attic := by
    rw [e.tick_frame us]
    exact congrArg (fun x : Attic => { x with count := (e.tick us).attic.count }) h.attic
  chans := h.chans
  regs := h.regs
  held := h.held
  range := h.range

theorem reach {t : Nat} (h : UhfOnly k d e) : UhfOnly k d (e.reach t) := h.tick

/-- A step of the channel that an attempt belongs to changed: the channels alone. -/
theorem onStepOf {t : FrameTag} {f : Step → Step} (h : UhfOnly false d e) : UhfOnly false d (e.onStepOf t f) := by
  have hchans : e.onStepOf t f = { e with chans := (e.onStepOf t f).chans } := by
    unfold Dev.onStepOf
    split
    · exact Dev.onChan_frame ..
    · rfl
  rw [hchans]
  exact ⟨congrArg (fun x : Dev => { x with chans := (e.onStepOf t f).chans }) h.rest, h.attic, nofun, h.regs, h.held, h.range⟩

/-- An effect on each chain of a list. -/
theorem forEach {f : Dev → Nat → Dev} {l : List Nat} (h : UhfOnly k d e) (hl : ∀ m ∈ l, m < 2)
    (hf : ∀ x m, m < 2 → UhfOnly k d x → UhfOnly k d (f x m)) : UhfOnly k d (e.forEach l f) :=
  Dev.forEach_keeps h fun x m hm hx => hf x m (hl m hm) hx

/-- An effect on each chain of an emission. -/
theorem forTeam {f : Dev → Nat → Dev} {c : Dev} (h : UhfOnly k d e) (hc : UhfOnly k d c) (hn : n < 2)
    (hf : ∀ x m, m < 2 → UhfOnly k d x → UhfOnly k d (f x m)) : UhfOnly k d (e.forEach (c.uhfTeam n) f) :=
  h.forEach (hc.team_lt hn) hf

/-- An effect on both chains. -/
theorem forBoth {f : Dev → Nat → Dev} (h : UhfOnly k d e) (hf : ∀ x m, m < 2 → UhfOnly k d x → UhfOnly k d (f x m)) :
    UhfOnly k d (e.forEach [0, 1] f) :=
  h.forEach (by decide) hf

theorem ite {c : Prop} [Decidable c] {x y : Dev} (hx : UhfOnly k d x) (hy : UhfOnly k d y) : UhfOnly k d (if c then x else y) := by
  split <;> assumption

/-! ### Timers -/

theorem capture {c : Nat} {b : Bool} (h : UhfOnly k d e) (hn : n < 8) (hc : c < 2) : UhfOnly k d (e.capture n c b) := by
  have hstat : uhfWindow (R.TMRn_CAPSTAT n) := uhfWindow_timer hn
  have hreg : uhfWindow (capReg n c) := by unfold capReg uhfWindow; omega
  have hnew : uhfWindow (capNew n c).addr := by unfold capNew; split <;> exact hstat
  have hdir : uhfWindow (capDir n c).addr := by unfold capDir; split <;> exact hstat
  have hovf : uhfWindow (capOvf n c).addr := by unfold capOvf; split <;> exact hstat
  have hpend : uhfWindow (capPend n c).addr := by unfold capPend; split <;> exact hstat
  exact .ite (((((h.bump hovf).ite h).setReg hreg).setFlag hnew |>.setFld hdir).setFlag hpend)
    (((((h.bump hovf).ite h).setReg hreg).setFlag hnew).setFld hdir)

theorem captureEvent {src : Nat} (h : UhfOnly k d e) : UhfOnly k d (e.captureEvent src) := by
  refine Dev.forEach_keeps h fun x m hm hx => (hx.capture ?_ ?_).ite hx
  · have := List.mem_range.1 hm; omega
  · omega

/-! ### The governor -/

theorem showOcc (h : UhfOnly k d e) : UhfOnly k d (e.showOcc n) := h.setFld (by split <;> exact uhfWindow_fixed)

theorem rampOn {c : Nat} (h : UhfOnly k d e) : UhfOnly k d (e.rampOn n c) := (h.govern _ _ _ _ _).showOcc

theorem endOcc (h : UhfOnly k d e) : UhfOnly k d (e.endOcc n) := (h.govern _ _ _ _ _).showOcc

theorem rampOff (h : UhfOnly k d e) : UhfOnly k d (e.rampOff n) :=
  .ite (h.govern _ _ _ _ _).endOcc (h.govern _ _ _ _ _)

theorem hold (h : UhfOnly k d e) : UhfOnly k d (e.hold n) := by
  have hf : uhfWindow (if n = 0 then F.GOV_STAT_HOLD0 else F.GOV_STAT_HOLD1).addr := by split <;> exact uhfWindow_fixed
  exact .ite h ((h.setFlag hf).bump uhfWindow_fixed)

theorem unhold (h : UhfOnly k d e) : UhfOnly k d (e.unhold n) := h.setFlag (by split <;> exact uhfWindow_fixed)

theorem drawPerm (h : UhfOnly k d e) : UhfOnly k d e.drawPerm := h.govern _ _ _ _ _

/-- The governor's next channel: its place in the sequence has moved, and a permutation may have been drawn. -/
theorem nextChannel (h : UhfOnly k d e) {x : Nat × Dev} (hx : e.nextChannel n = some x) : UhfOnly k d x.2 := by
  have seek {c : Dev} (hc : UhfOnly k d c) {l : List Nat} {b : Nat} {y : Nat × Dev}
      (hy : (((l.zip (List.range l.length)).find? fun x => c.chanOk n x.1).map fun x =>
        (x.1, { c with gov := { c.gov with pos := b + x.2 + 1 } })) = some y) : UhfOnly k d y.2 := by
    obtain ⟨z, -, rfl⟩ := Option.map_eq_some_iff.1 hy
    exact hc.govern _ _ _ _ _
  simp only [Dev.nextChannel] at hx
  split at hx
  · split at hx
    next r hr => cases hx; exact seek h hr
    · split at hx
      · cases hx
      · exact seek (.ite h.drawPerm (h.govern _ _ _ _ _)) hx
  · split at hx
    next r hr => cases hx; exact (seek h hr).govern _ _ _ _ _
    next =>
      obtain ⟨z, hz, rfl⟩ := Option.map_eq_some_iff.1 hx
      exact (seek h hz).govern _ _ _ _ _

theorem showCoex (h : UhfOnly k d e) : UhfOnly k d e.showCoex := by
  have hs : uhfWindow R.COEX_STAT := uhfWindow_fixed
  exact (((((((h.setFlag hs).setFlag hs).setFlag hs).setFlag hs).setFlag hs).setFlag hs).setFlag hs).setFlag hs

theorem coexRequest {p : Nat} {l : Bool} (h : UhfOnly k d e) : UhfOnly k d (e.coexRequest p l) := (h.govern _ _ _ _ _).showCoex

theorem coexRelease {a b : Bool} (h : UhfOnly k d e) : UhfOnly k d (e.coexRelease a b) := (h.govern _ _ _ _ _).showCoex

theorem coexWaited {p : Nat} (h : UhfOnly k d e) : UhfOnly k d (e.coexWaited p) := by
  simp only [Dev.coexWaited]
  split
  · exact h
  · exact ((h.bump uhfWindow_fixed).raiseTo uhfWindow_fixed).govern _ _ _ _ _

/-! ### The radio queue and the sets -/

theorem showQueue (h : UhfOnly k d e) (hn : n < 2) : UhfOnly k d (e.showQueue n) := h.setFld (uhfWindow_chain hn)

theorem radioPush {c : RadioCmd} (h : UhfOnly k d e) (hn : n < 2) : UhfOnly k d (e.radioPush n c) :=
  (h.onUhf hn fun u => by split <;> rfl).showQueue hn

theorem radioPop (h : UhfOnly k d e) (hn : n < 2) : UhfOnly k d (e.radioPop n) := (h.onUhf hn).showQueue hn

theorem radioFront {c : RadioCmd} (h : UhfOnly k d e) (hn : n < 2) : UhfOnly k d (e.radioFront n c) := (h.onUhf hn).showQueue hn

theorem coexIdle (h : UhfOnly k d e) : UhfOnly k d e.coexIdle := h.coexRelease

theorem coexPri (h : UhfOnly k d e) : UhfOnly k d e.coexPri := (h.govern _ _ _ _ _).showCoex

theorem radioClear (h : UhfOnly k d e) (hn : n < 2) : UhfOnly k d (e.radioClear n) :=
  .ite ((h.onUhf hn).showQueue hn).coexIdle ((h.onUhf hn).showQueue hn)

/-! ### Calibration, carrier and power -/

theorem showCal (h : UhfOnly k d e) (hn : n < 2) : UhfOnly k d (e.showCal n) := by
  unfold Dev.showCal
  extract_lets m x
  have hx : UhfOnly k d x := (h.setFld (uhfWindow_chain hn)).setFld (uhfWindow_chain hn)
  split
  · exact (hx.setFlag (uhfWindow_chain hn)).setFld (uhfWindow_chain hn)
  · exact hx.setFlag (uhfWindow_chain hn)

theorem sampleTemp {t : BitVec 8} (h : UhfOnly k d e) : UhfOnly k d (e.sampleTemp t) :=
  h.forBoth fun _ _ hm hx => (hx.setFld (uhfWindow_chain hm)).showCal hm

theorem untrain (h : UhfOnly k d e) (hn : n < 2) : UhfOnly k d (e.untrain n) := (h.onUhf hn).setFlag (uhfWindow_chain hn)

theorem rampDown1 (h : UhfOnly k d e) (hn : n < 2) : UhfOnly k d (e.rampDown1 n) := by
  have hpa : uhfWindow (R.UHFCn_PA n) := uhfWindow_chain hn
  unfold Dev.rampDown1
  extract_lets x y z
  have hx : UhfOnly k d x := (h.setUst hn).rampOff
  have hy : UhfOnly k d y := (hx.setFlag hpa).setFld hpa
  have hz : UhfOnly k d z := ((hy.setFld hpa).setFld (uhfWindow_chain hn)).onUhf hn
  refine .ite h ?_
  split
  next p hp => exact hz.setFlag (uhfWindow_port (hz.port_lt hn hp))
  next => exact hz

theorem rampDown (h : UhfOnly k d e) (hn : n < 2) : UhfOnly k d (e.rampDown n) :=
  ((h.forTeam h hn fun _ _ hm hx => hx.rampDown1 hm).setFlag uhfWindow_fixed).coexIdle

theorem toStandby (h : UhfOnly k d e) (hn : n < 2) : UhfOnly k d (e.toStandby n) := by
  have hdown := h.rampDown hn
  refine hdown.forTeam hdown hn fun x m hm hx => .ite hx ?_
  exact ((((hx.setUst hm).setFlag (uhfWindow_chain hm)).setFlag (uhfWindow_chain hm)).onUhf hm).untrain hm

theorem showPermit (h : UhfOnly k d e) (hn : n < 2) : UhfOnly k d (e.showPermit n) := by
  unfold Dev.showPermit
  split <;> exact h.setFld (uhfWindow_chain hn)

theorem measureRl {p : Nat} (h : UhfOnly k d e) (hp : p < 8) : UhfOnly k d (e.measureRl p) :=
  .ite ((h.setFld (uhfWindow_port hp)).govern _ _ _ _ _) (h.setFld (uhfWindow_port hp))

theorem rampUp1 {meas : Nat} {b : Bool} (h : UhfOnly k d e) (hn : n < 2) : UhfOnly k d (e.rampUp1 n meas b) := by
  unfold Dev.rampUp1
  split
  next => exact h
  next p hp =>
    have hp8 := h.port_lt hn hp
    have hpa : uhfWindow (R.UHFCn_PA n) := uhfWindow_chain hn
    have hstat : uhfWindow (R.UHFPn_STAT p) := uhfWindow_port hp8
    extract_lets on shown measured counted ext out driven
    have hon : UhfOnly k d on := h.rampOn.captureEvent
    have hshown : UhfOnly k d shown := (hon.showPermit hn).setFld (uhfWindow_chain hn)
    have hmeasured : UhfOnly k d measured := (hshown.setFld (uhfWindow_chain hn)).setFld (uhfWindow_chain hn)
    have hcounted : UhfOnly k d counted := ((hmeasured.setFlag hstat).setFld hstat).bump (uhfWindow_port hp8)
    have hdriven : UhfOnly k d driven := .ite (((hcounted.setFlag hpa).setFld hpa).setFld hpa) hcounted
    exact ((hdriven.measureRl hp8).setUst hn).onUhf hn

theorem powerStep {c : Nat} (h : UhfOnly k d e) (hn : n < 2) : UhfOnly k d (e.powerStep c n) := by
  have hcanc : uhfWindow (R.UHFCn_CANC n) := uhfWindow_chain hn
  unfold Dev.powerStep
  split
  · exact h
  · extract_lets meas drive most goal ext step meas' scale scaled driven
    have hscaled : UhfOnly k d scaled := ((h.setFld (uhfWindow_chain hn)).setFld hcanc).setFld hcanc
    have hdriven : UhfOnly k d driven := .ite (hscaled.setFld (uhfWindow_chain hn)) hscaled
    exact .ite h (hdriven.onUhf hn)

theorem teamCw (h : UhfOnly k d e) (hn : n < 2) : UhfOnly k d (e.teamCw n) :=
  .ite (h.forTeam h hn fun _ _ hm hx => hx.setUst hm) h

theorem steerTo {c : Nat} (h : UhfOnly k d e) (hn : n < 2) : UhfOnly k d (e.steerTo n c) :=
  .ite h (((h.teamCw hn).untrain hn).onUhf hn)

theorem pauseIdle (h : UhfOnly k d e) (hn : n < 2) : UhfOnly k d (e.pauseIdle n) := .ite (h.rampDown hn) h

/-! ### Frames and the end of an attempt -/

theorem uhfShowFrame {f : ResFrame} (h : UhfOnly k d e) (hn : n < 2) : UhfOnly k d (e.uhfShowFrame n f) := by
  have herr : uhfWindow (R.UHFCn_ERRCNT n) := uhfWindow_chain hn
  unfold Dev.uhfShowFrame
  extract_lets s fl fm stat lvl ph shown
  have hstat : UhfOnly k d stat := h.setReg (uhfWindow_chain hn)
  have hlvl : UhfOnly k d lvl := hstat.setReg (uhfWindow_chain hn)
  have hph : UhfOnly k d ph := hlvl.setReg (uhfWindow_chain hn)
  have hshown : UhfOnly k d shown := .ite (hph.setFld (uhfWindow_chain hn)) hph
  exact .ite (hshown.bump herr) (.ite (hshown.bump herr) (.ite (hshown.bump herr) hshown))

theorem uhfPush {f : ResFrame} (h : UhfOnly k d e) (hn : n < 2) : UhfOnly k d (e.uhfPush n f) := (h.uhfShowFrame hn).onUhf hn

theorem applyAfter {c : Nat} (h : UhfOnly k d e) (hn : n < 2) : UhfOnly k d (e.applyAfter n c) := by
  unfold Dev.applyAfter
  split
  · exact h.rampDown hn
  · exact h.toStandby hn
  · exact h.teamCw hn

theorem showRound (h : UhfOnly k d e) (hn : n < 2) : UhfOnly k d (e.showRound n) := by
  have hsweep : uhfWindow (R.UHFCn_SWEEP n) := uhfWindow_chain hn
  unfold Dev.showRound
  split
  · exact (h.setReg (uhfWindow_chain hn)).setReg hsweep
  · extract_lets x y
    have hx : UhfOnly k d x := h.setReg (uhfWindow_chain hn)
    have hy : UhfOnly k d y := hx.setFld hsweep
    exact .ite ((hy.setFlag hsweep).setFld hsweep) hy

theorem setUhfAtt {a : UhfAttempt} (h : UhfOnly k d e) (hn : n < 2) : UhfOnly k d (e.setUhfAtt n a) := (h.onUhf hn).showRound hn

theorem uhfFinish {a : UhfAttempt} {f : ResFrame} (h : UhfOnly k d e) (hn : n < 2) : UhfOnly k d (e.uhfFinish n a f) := by
  unfold Dev.uhfFinish
  refine .showRound (.onUhf (.unhold (.radioClear (.uhfPush ?_ hn) hn)) hn) hn
  split
  · exact h.uhfPush hn
  · exact h

theorem uhfEnd {a : UhfAttempt} {f : ResFrame} (h : UhfOnly k d e) (hn : n < 2) : UhfOnly k d (e.uhfEnd n a f) :=
  ((h.uhfFinish hn).applyAfter hn).pauseIdle hn

theorem uhfFail {a : UhfAttempt} {c : Nat} (h : UhfOnly k d e) (hn : n < 2) : UhfOnly k d (e.uhfFail n a c) := h.uhfEnd hn

theorem uhfFailBare {a : UhfAttempt} {c : Nat} (h : UhfOnly k d e) (hn : n < 2) : UhfOnly k d (e.uhfFailBare n a c) := h.uhfFail hn

theorem radioSetup {a : UhfAttempt} {b : Bool} (h : UhfOnly k d e) (hn : n < 2) : UhfOnly k d (e.radioSetup n a b) := by
  unfold Dev.radioSetup
  extract_lets c want there stay portNow on x y z
  have hx : UhfOnly k d x := .ite (h.radioPush hn) h
  have hy : UhfOnly k d y := .ite hx (hx.radioPush hn)
  have hz : UhfOnly k d z := .ite hy (hy.radioPush hn)
  exact .ite hz (hz.radioPush hn)

/-! ### Rounds -/

theorem pushPkt {a : UhfAttempt} {p : Pkt} (h : UhfOnly k d e) (hn : n < 2) : UhfOnly k d (e.pushPkt n a p) := h.radioPush hn

theorem pushPkts {a : UhfAttempt} (hn : n < 2) {l : List Pkt} (h : UhfOnly k d e) :
    UhfOnly k d (l.foldl (fun d p => d.pushPkt n a p) e) := by
  induction l generalizing e with
  | nil => exact h
  | cons p l ih => exact ih (h.pushPkt hn)

theorem beginRound {a : UhfAttempt} (h : UhfOnly k d e) (hn : n < 2) : UhfOnly k d (e.beginRound n a) :=
  ((h.steerTo hn).setUhfAtt hn).pushPkts hn

theorem beginWork {a : UhfAttempt} (h : UhfOnly k d e) (hn : n < 2) : UhfOnly k d (e.beginWork n a) :=
  .ite ((h.steerTo hn).pushPkt hn) (h.beginRound hn)

theorem uhfRestart (h : UhfOnly k d e) (hn : n < 2) : UhfOnly k d (e.uhfRestart n) := by
  unfold Dev.uhfRestart
  split
  · exact h
  · exact (((h.radioClear hn).setUhfAtt hn).radioSetup hn).beginWork hn

theorem inventoryEnd {a : UhfAttempt} {b : Bool} (h : UhfOnly k d e) (hn : n < 2) : UhfOnly k d (e.inventoryEnd n a b) := by
  unfold Dev.inventoryEnd
  split
  · exact h.uhfFailBare hn
  · exact h.uhfEnd hn

theorem roundEnd {a : UhfAttempt} (h : UhfOnly k d e) (hn : n < 2) : UhfOnly k d (e.roundEnd n a) :=
  .ite (h.inventoryEnd hn) (.ite (.ite (h.inventoryEnd hn) (h.uhfFailBare hn)) (.ite ((h.setUhfAtt hn).uhfRestart hn) (h.beginRound hn)))

theorem slotEnd {a : UhfAttempt} {r : Nat} (h : UhfOnly k d e) (hn : n < 2) : UhfOnly k d (e.slotEnd n a r) := by
  unfold Dev.slotEnd
  extract_lets c qfp x y qn b pause up
  have hx : UhfOnly k d x := .ite (h.bump (uhfWindow_chain hn)) h
  have hy : UhfOnly k d y := .ite (hx.bump (uhfWindow_chain hn)) hx
  have hpause {b : UhfAttempt} {p : Pkt} : UhfOnly k d (pause y b p) :=
    .ite ((hy.setUhfAtt hn).uhfRestart hn) ((hy.setUhfAtt hn).pushPkt hn)
  exact .ite hpause (.ite (hy.roundEnd hn) hpause)

/-! ### Access -/

theorem singulated {a : UhfAttempt} (h : UhfOnly false d e) (hn : n < 2) : UhfOnly false d (e.singulated n a) :=
  ((UhfOnly.ite (h.bump (uhfWindow_chain hn)) h).onStepOf.setUhfAtt hn).pushPkt hn

theorem accessCommand {a : UhfAttempt} (h : UhfOnly false d e) (hn : n < 2) : UhfOnly false d (e.accessCommand n a) := by
  unfold Dev.accessCommand
  split
  · exact h.pushPkt hn
  · exact .ite (h.uhfFail hn) (.ite (h.uhfFail hn) ((h.govern _ _ _ _ _).onStepOf.pushPkt hn))
  · exact h.pushPkt hn

theorem badReply {a : UhfAttempt} {r : UhfReply} {b : Bool} {x : Dev} (h : UhfOnly k d e) (hn : n < 2)
    (hx : e.badReply n a r b = some x) : UhfOnly k d x := by
  unfold Dev.badReply at hx
  split at hx
  · cases hx
  · split at hx
    · cases hx; exact h.uhfFail hn
    · split at hx
      · cases hx; exact h.uhfFail hn
      · cases hx; exact (h.bump (uhfWindow_chain hn)).uhfFail hn

theorem accessReply {a : UhfAttempt} {p : Pkt} {r : UhfReply} (h : UhfOnly k d e) (hn : n < 2) :
    UhfOnly k d (e.accessReply n a p r) := by
  unfold Dev.accessReply
  dsimp only
  split
  next hbad => exact h.badReply hn hbad
  next =>
    refine .ite (h.setUhfAtt hn) ?_
    split
    · exact h.uhfEnd hn
    · refine .ite (h.uhfFail hn) ?_
      split
      · exact .ite (.ite (h.uhfFail hn) (h.uhfEnd hn)) (h.uhfEnd hn)
      · split
        · split
          · split <;> exact h.uhfEnd hn
          · exact h.uhfFail hn
        · exact h.uhfFail hn
      · exact (h.setUhfAtt hn).pushPkt hn
      · exact h.uhfEnd hn

theorem nakSlot {a : UhfAttempt} (h : UhfOnly k d e) (hn : n < 2) : UhfOnly k d (e.nakSlot n a) := (h.setUhfAtt hn).pushPkt hn

theorem identified {a : UhfAttempt} {r : UhfReply} (h : UhfOnly false d e) (hn : n < 2) : UhfOnly false d (e.identified n a r) := by
  have hone := h.bump (f := F.UHFCn_SLOTCNT0_SINGLE n) (v := 1) (uhfWindow_chain hn)
  unfold Dev.identified
  dsimp only
  refine .ite (.ite (hone.slotEnd hn) (.slotEnd ?_ hn)) (.ite (hone.singulated hn) (hone.nakSlot hn))
  split
  · exact hone.uhfPush hn
  · exact hone

theorem identFailed {a : UhfAttempt} {b : Bool} (h : UhfOnly k d e) (hn : n < 2) : UhfOnly k d (e.identFailed n a b) := by
  have hcrc := UhfOnly.ite (c := (b || decide (a.acks ≥ 2)) = true)
    (h.bump (f := F.UHFCn_ERRCNT_CRC n) (v := 1) (uhfWindow_chain hn)) h
  exact .ite (hcrc.nakSlot hn) ((hcrc.setUhfAtt hn).pushPkt hn)

/-! ### Packets and replies -/

theorem sendPacket (h : UhfOnly k d e) (hn : n < 2) : UhfOnly k d (e.sendPacket n) := by
  unfold Dev.sendPacket
  split
  next =>
    extract_lets u ready stop power sent tx a a1 a2 cw
    have hpower : UhfOnly k d power := h.forTeam h hn fun _ _ hm hx => hx.powerStep hm
    have hsent : UhfOnly k d sent := (hpower.radioPop hn).coexPri.onUhf hn
    have htx : UhfOnly k d tx := hsent.forTeam hsent hn fun _ _ hm hx => hx.setUst hm
    have hcw : UhfOnly k d cw := htx.forTeam htx hn fun _ _ hm hx => hx.setUst hm
    have hrx := htx.forTeam htx hn fun _ _ hm hx => hx.setUst (v := Ust.rx) hm
    refine .ite h (.ite ((h.uhfFailBare hn).rampDown hn) (.ite (h.uhfRestart hn) (.ite (h.uhfFailBare hn)
      (.ite (hrx.setUhfAtt hn) ?_))))
    split
    · exact hcw.slotEnd hn
    · exact hcw.setUhfAtt hn
  next => exact h

theorem abandon {a : UhfAttempt} (h : UhfOnly k d e) (hn : n < 2) : UhfOnly k d (e.abandon n a) :=
  (h.bump (uhfWindow_chain hn)).slotEnd hn

theorem uhfPreamble {p : Preamble} (h : UhfOnly k d e) (hn : n < 2) : UhfOnly k d (e.uhfPreamble n p) := by
  unfold Dev.uhfPreamble
  split
  · exact h
  · split
    · exact h
    · refine .ite h ?_
      split
      · exact h.setUhfAtt hn
      · exact .ite (.ite (.ite (h.abandon hn) ((h.setUhfAtt hn).uhfFail hn)) (h.setUhfAtt hn))
          (.ite (h.setUhfAtt hn) (h.setUhfAtt hn))

theorem uhfReply {r : UhfReply} (h : UhfOnly false d e) (hn : n < 2) : UhfOnly false d (e.uhfReply n r) := by
  unfold Dev.uhfReply
  split
  · exact h
  · split
    · dsimp only
      split
      iterate 3 exact .ite (h.slotEnd hn) ((h.setUhfAtt hn).pushPkt hn)
      · exact .ite (h.identFailed hn) (h.identified hn)
      · split
        next hbad => exact h.badReply hn hbad
        next => exact (h.setUhfAtt hn).accessCommand hn
      · split
        next hbad => exact h.badReply hn hbad
        next => exact h.uhfEnd hn
      · exact h.accessReply hn
    · exact h

theorem uhfTimeout (h : UhfOnly k d e) (hn : n < 2) : UhfOnly k d (e.uhfTimeout n) := by
  unfold Dev.uhfTimeout
  split
  next => exact h
  next a _ =>
    split
    next p _ _ =>
      have hreach := UhfOnly.ite (c := p.delayed a = true) (h.reach (t := (e.uhfc n).sentAt + 20000)) h
      dsimp only
      split
      iterate 3 exact hreach.slotEnd hn
      · exact hreach.identFailed hn
      · exact hreach.uhfFailBare hn
    next => exact h

/-! ### Synthesisers, ports and carriers -/

theorem tuneTo {c : Nat} (h : UhfOnly k d e) (hn : n < 2) : UhfOnly k d (e.tuneTo n c) :=
  (((h.setFlag (uhfWindow_chain hn)).setFlag (uhfWindow_chain hn)).onUhf hn).untrain hn

/-- With no group waiting there is nothing to apply. -/
theorem applyGroup {g : Group} (h : UhfOnly k d e) : UhfOnly k d (e.applyGroup g) := by
  simpa [Dev.applyGroup, h.applying] using h

theorem standby_lt {s : Nat} (hs : e.uhfStandby = some s) : s < 2 := by
  have := List.mem_of_find?_eq_some hs
  simp only [List.mem_cons, List.not_mem_nil, or_false] at this
  omega

theorem channelChange (h : UhfOnly k d e) (hn : n < 2) : UhfOnly k d (e.channelChange n) := by
  unfold Dev.channelChange
  split
  next c _ _ =>
    extract_lets down free pick
    have hdown : UhfOnly k d down := h.rampDown hn
    have hfree : UhfOnly k d free := (hdown.forTeam h hn fun _ _ _ hx => hx.endOcc).applyGroup
    have hpick {x : Nat × Dev} (hx : pick = some x) : UhfOnly k d x.2 := by
      unfold pick at hx
      split at hx
      · exact hfree.nextChannel hx
      · split at hx
        · cases hx; exact hfree
        · cases hx
    clear_value pick
    refine .ite h ?_
    split
    next => exact hdown.hold
    next _ x y =>
      extract_lets tuned
      have hpop : UhfOnly k d ((y.radioPop n).unhold n) := ((hpick rfl).radioPop hn).unhold
      have htuned : UhfOnly k d tuned := hpop.forTeam (hpick rfl) hn fun _ _ hm hz => hz.tuneTo hm
      split
      next hs => exact .ite htuned (htuned.tuneTo (standby_lt hs))
      next => exact htuned
  next => exact h

theorem uhfMaster_lt (h : UhfOnly k d e) (hn : n < 2) : e.uhfMaster n < 2 := by
  unfold Dev.uhfMaster
  split
  · exact hn
  · cases hp : (e.uhfc n).partner with
    | none => exact hn
    | some m => exact h.partner_lt hn hp

theorem synthLock {us : Nat} (h : UhfOnly k d e) (hn : n < 2) : UhfOnly k d (e.synthLock n us) := by
  unfold Dev.synthLock
  split
  next => exact h
  next =>
    extract_lets late at_ stored locked ready shown
    have hat : UhfOnly k d at_ := h.reach
    have hstored : UhfOnly k d stored := hat.onUhf hn
    have hlocked : UhfOnly k d locked :=
      ((hstored.setFlag (uhfWindow_chain hn)).setFlag (uhfWindow_chain hn)).setFld (uhfWindow_chain hn)
    have hready : UhfOnly k d ready := .ite (hlocked.setUst hn) hlocked
    have hshown : UhfOnly k d shown := (hready.setFld (uhfWindow_chain hn)).showCal hn
    split
    · exact hshown.raiseTo (uhfWindow_chain hn)
    · exact hshown.raiseTo (uhfWindow_chain hn)
    · exact hshown

theorem synthUnlock (h : UhfOnly k d e) (hn : n < 2) : UhfOnly k d (e.synthUnlock n) := by
  have hm := h.uhfMaster_lt hn
  have hlate (t : Nat) := (h.reach (t := t + 200)).bump (f := F.UHFCn_CNT_UNLOCK n) (v := 1) (uhfWindow_chain hn)
  unfold Dev.synthUnlock
  dsimp only
  split
  iterate 2
    split
    · exact (hlate _).uhfFinish hm
    · exact (hlate _).radioClear hm
  exact h

theorem connectPort (h : UhfOnly k d e) (hn : n < 2) : UhfOnly k d (e.connectPort n) := by
  unfold Dev.connectPort
  split
  next => exact h
  next p _ =>
    have hset := ((h.setFld (f := F.UHFCn_STAT_PORT n) (v := p) (uhfWindow_chain hn)).setFlag (f := F.UHFCn_STAT_PORT_VALID n)
      (v := true) (uhfWindow_chain hn)).untrain hn
    exact .ite hset (hset.onUhf hn)

theorem portChange (h : UhfOnly k d e) (hn : n < 2) : UhfOnly k d (e.portChange n) := by
  unfold Dev.portChange
  split
  next =>
    have hdown := h.rampDown hn
    have hset := (hdown.radioPop hn).forTeam (f := Dev.connectPort) hdown hn fun _ _ hm hx => hx.connectPort hm
    exact .ite h (hset.forTeam hdown hn fun _ _ hm hx => hx.showPermit hm)
  next => exact h

theorem startRamp {meas : Nat} (h : UhfOnly k d e) (hn : n < 2) : UhfOnly k d (e.startRamp n meas) := by
  have hwaited := (((h.radioPop hn).unhold (n := n)).coexWaited (p := (e.uhfc n).port.getD 0))
  have hup := hwaited.forTeam
    (f := fun d k => if d.uhfOn k then d else d.rampUp1 k meas (((e.uhfc n).att.map fun a => !a.sched).getD false))
    hwaited hn fun _ _ hm hx => .ite hx (hx.rampUp1 hm)
  exact .ite (hup.setFlag uhfWindow_fixed) hup

theorem carrierOn {meas : Nat} (h : UhfOnly k d e) (hn : n < 2) : UhfOnly k d (e.carrierOn n meas) := by
  unfold Dev.carrierOn
  split
  next =>
    extract_lets locked c asked both
    have hasked : UhfOnly k d asked := h.coexRequest
    have hboth : UhfOnly k d both := by
      unfold both
      split
      · exact hasked.coexRequest
      · exact hasked
    exact .ite h (.ite (h.uhfFailBare hn) (.ite h.hold (.ite (.ite (h.hold.radioFront hn) h.hold) (.ite h
      (.ite (hboth.onUhf hn).coexPri (hboth.startRamp hn).coexPri)))))
  next => exact h

theorem trainingEnd {leak resid : BitVec 8} {ci cq : BitVec 10} (h : UhfOnly k d e) (hn : n < 2) :
    UhfOnly k d (e.trainingEnd n leak resid ci cq) := by
  have hcanc : uhfWindow (R.UHFCn_CANC n) := uhfWindow_chain hn
  have hleak : uhfWindow (R.UHFCn_LEAK n) := uhfWindow_chain hn
  unfold Dev.trainingEnd
  extract_lets turn power now weighed leaked shown high
  have hpower : UhfOnly k d power := h.forTeam h hn fun _ _ hm hx => hx.powerStep hm
  have hweighed : UhfOnly k d weighed := (hpower.setFld hcanc).setFld hcanc
  have hleaked : UhfOnly k d leaked := (hweighed.setFld hleak).setFld hleak
  have hshown : UhfOnly k d shown := hleaked.setFld hleak
  refine .ite h (.ite (.ite ?_ ((hshown.onUhf hn).setFlag (uhfWindow_chain hn)))
    (.ite (((hshown.teamCw hn).untrain hn).bump (uhfWindow_chain hn)) hshown))
  split
  · exact hshown.uhfFailBare hn
  · exact hshown

theorem carrierOff (h : UhfOnly k d e) (hn : n < 2) : UhfOnly k d (e.carrierOff n) := by
  unfold Dev.carrierOff
  split
  · exact (h.radioPop hn).rampDown hn
  · exact h

theorem pauseCarrier (h : UhfOnly k d e) (hn : n < 2) : UhfOnly k d (e.pauseCarrier n) :=
  .ite ((h.rampDown (h.uhfMaster_lt hn)).uhfRestart (h.uhfMaster_lt hn)) h

theorem preempt (h : UhfOnly k d e) (hn : n < 2) : UhfOnly k d (e.preempt n) := by
  unfold Dev.preempt
  extract_lets down
  have hdown : UhfOnly k d down := h.rampDown hn
  refine .ite h ?_
  split
  · exact (hdown.uhfFailBare hn).bump uhfWindow_fixed
  · exact hdown

theorem cutForWindow (h : UhfOnly k d e) (hn : n < 2) : UhfOnly k d (e.cutForWindow n) :=
  .ite h (.ite (h.preempt hn) (h.pauseCarrier hn))

/-! ### The governor's instants, wires and windows -/

theorem dwellExpired (h : UhfOnly k d e) (hn : n < 2) : UhfOnly k d (e.dwellExpired n) := by
  unfold Dev.dwellExpired
  split
  · exact h
  · exact h.reach.pauseCarrier hn

theorem offExpired (h : UhfOnly k d e) : UhfOnly k d (e.offExpired n) := by
  unfold Dev.offExpired
  split
  · exact h
  · split
    · exact h
    · exact .ite h h.reach.endOcc

theorem dutyRunsOut {fuel : Nat} (h : UhfOnly k d e) : UhfOnly k d (e.dutyRunsOut fuel) := by
  induction fuel generalizing e with
  | zero => exact h
  | succ fuel ih => exact .ite h (ih h.tick)

theorem dutyOut (h : UhfOnly k d e) : UhfOnly k d e.dutyOut :=
  .ite h (.ite h.dutyRunsOut (h.dutyRunsOut.forBoth fun _ _ hm hx => .ite (hx.pauseCarrier hm) hx))

theorem onWires {s : CoexSet} {f : Wires → Wires} (h : UhfOnly k d e) : UhfOnly k d (e.onWires s f) := by
  cases s <;> exact (h.govern _ _ _ _ _).showCoex

theorem coexGranting {s : CoexSet} {m0 m1 : Nat} (h : UhfOnly k d e) : UhfOnly k d (e.coexGranting s m0 m1) := by
  have hwire := h.onWires (s := s) (f := fun w => { w with grant := true, act := false })
  unfold Dev.coexGranting
  dsimp only
  refine .forBoth ?_ fun _ _ hm hx => .ite ((hx.onUhf hm).carrierOn hm) hx
  split
  · exact hwire
  · exact hwire.reach

theorem coexWithdrawn {s : CoexSet} {act : Bool} (h : UhfOnly k d e) : UhfOnly k d (e.coexWithdrawn s act) :=
  h.onWires.forBoth fun _ _ hm hx => .ite (hx.preempt hm) hx

theorem windowStart {w : Nat} (h : UhfOnly k d e) : UhfOnly k d (e.windowStart w) := by
  unfold Dev.windowStart
  extract_lets at_ opened
  have hat : UhfOnly k d at_ := .ite h h.reach
  have hopened : UhfOnly k d opened := (hat.govern _ _ _ _ _).setFlag uhfWindow_fixed
  exact .ite h (.ite (hopened.forBoth fun _ _ hm hx => hx.cutForWindow hm) hopened)

theorem windowEnd {w : Nat} (h : UhfOnly k d e) : UhfOnly k d (e.windowEnd w) := by
  unfold Dev.windowEnd
  split
  · exact h
  · exact (h.reach.govern _ _ _ _ _).setFlag uhfWindow_fixed

end Dev.UhfOnly

/-! ### The obligation -/

theorem Dev.chainsInRange.uhf {d : Dev} (h : d.chainsInRange) : d.uhfInRange := ⟨h.1, fun n _ => h.2.2 n⟩

/-- The row that may change the step of an attempt (R230, R234). -/
def endsReply : Instr → Bool
  | .uhfReplyEnd _ _ => true
  | _ => false

/-- Each of these rows is an operation of the UHF radio, the protocol engine, the governor or the wires. -/
theorem uhfRow_effect {c : Instr} (hrow : uhfRow c = true) :
    ∃ f : Dev → Dev, (∀ s, exec c s = s.onLive f) ∧ ∀ d : Dev, d.uhfInRange → d.UhfOnly (!endsReply c) (f d) := by
  cases c with
  | radioChannelChange n => exact ⟨(·.channelChange n), fun _ => rfl, fun _ h => (Dev.UhfOnly.refl h).channelChange n.isLt⟩
  | synthLock n us => exact ⟨(·.synthLock n us), fun _ => rfl, fun _ h => (Dev.UhfOnly.refl h).synthLock n.isLt⟩
  | synthUnlock n => exact ⟨(·.synthUnlock n), fun _ => rfl, fun _ h => (Dev.UhfOnly.refl h).synthUnlock n.isLt⟩
  | radioPortChange n => exact ⟨(·.portChange n), fun _ => rfl, fun _ h => (Dev.UhfOnly.refl h).portChange n.isLt⟩
  | carrierOn n meas => exact ⟨(·.carrierOn n meas), fun _ => rfl, fun _ h => (Dev.UhfOnly.refl h).carrierOn n.isLt⟩
  | cancellerTrainingEnd n leak resid ci cq =>
    exact ⟨(·.trainingEnd n leak resid ci cq), fun _ => rfl, fun _ h => (Dev.UhfOnly.refl h).trainingEnd n.isLt⟩
  | packet n => exact ⟨(·.sendPacket n), fun _ => rfl, fun _ h => (Dev.UhfOnly.refl h).sendPacket n.isLt⟩
  | carrierOff n => exact ⟨(·.carrierOff n), fun _ => rfl, fun _ h => (Dev.UhfOnly.refl h).carrierOff n.isLt⟩
  | uhfPreambleAcquired n p => exact ⟨(·.uhfPreamble n p), fun _ => rfl, fun _ h => (Dev.UhfOnly.refl h).uhfPreamble n.isLt⟩
  | uhfReplyTimeout n => exact ⟨(·.uhfTimeout n), fun _ => rfl, fun _ h => (Dev.UhfOnly.refl h).uhfTimeout n.isLt⟩
  | uhfReplyEnd n r => exact ⟨(·.uhfReply n r), fun _ => rfl, fun _ h => (Dev.UhfOnly.refl h).uhfReply n.isLt⟩
  | dwellMaxExpire n => exact ⟨(·.dwellExpired n), fun _ => rfl, fun _ h => (Dev.UhfOnly.refl h).dwellExpired n.isLt⟩
  | offMinExpire n => exact ⟨(·.offExpired n), fun _ => rfl, fun _ h => (Dev.UhfOnly.refl h).offExpired⟩
  | dutyBudgetSpent => exact ⟨Dev.dutyOut, fun _ => rfl, fun _ h => (Dev.UhfOnly.refl h).dutyOut⟩
  | coexGrant set m0 m1 => exact ⟨(·.coexGranting set m0 m1), fun _ => rfl, fun _ h => (Dev.UhfOnly.refl h).coexGranting⟩
  | coexPreempt set act => exact ⟨(·.coexWithdrawn set act), fun _ => rfl, fun _ h => (Dev.UhfOnly.refl h).coexWithdrawn⟩
  | protectedWindowStart w => exact ⟨(·.windowStart w), fun _ => rfl, fun _ h => (Dev.UhfOnly.refl h).windowStart⟩
  | protectedWindowEnd w => exact ⟨(·.windowEnd w), fun _ => rfl, fun _ h => (Dev.UhfOnly.refl h).windowEnd⟩
  | tempSample t => exact ⟨(·.sampleTemp t), fun _ => rfl, fun _ h => (Dev.UhfOnly.refl h).sampleTemp⟩
  | _ => cases hrow

/-- Settles O59: each of these rows is an operation that keeps to `Dev.UhfOnly`; a reply alone may change the step its attempt belongs
to. -/
theorem uhfFrames : Obligations.UhfFrames := by
  unfold Obligations.UhfFrames
  intro s c hrun hrange hrow
  obtain ⟨f, hexec, hf⟩ := uhfRow_effect hrow
  refine completes_onLive f hrun (hexec s) ?_
  have hx := hf s.dev hrange.uhf
  refine ⟨hx.rest, hx.attic, fun hne => hx.chans ?reply, fun a ha => hx.regs a ?outside⟩
  case reply =>
    cases c with
    | uhfReplyEnd n r => exact absurd rfl (hne n r)
    | _ => rfl
  case outside => unfold uhfWindow; omega

end Sys2Proof.Machine
end

section
/-!
PROOFS. The UHF radio in plain sight (Chapters 6 and 7): what a carrier that comes down, an attempt that ends and a new round leave in a chain
and in the fields of its registers.
-/

namespace Sys2Proof.Machine

open Sys2Proof

-- one proof after another: the check bounds the memory that the stacks of parallel proofs take
set_option Elab.async false

/-! ### Fields of different bits -/

/-- Two fields share no bit. -/
abbrev apart (f g : Fld) : Prop := g.addr ≠ f.addr ∨ g.hi < f.lo ∨ f.hi < g.lo

/-- Registers of chains at different offsets are different, whatever the chains. -/
theorem chain_addr_ne {c c' m n : Nat} (h : c % 0x80 ≠ c' % 0x80) : c + 0x80 * m ≠ c' + 0x80 * n := by omega

/-! ### A chain's emission -/

theorem Dev.uhfTeam_alone {d : Dev} {n : Nat} (h : (d.uhfc n).partner = none) : d.uhfTeam n = [n] := by
  simp [Dev.uhfTeam, h]

theorem Dev.forTeam_alone {d e : Dev} {n : Nat} (h : (e.uhfc n).partner = none) (f : Dev → Nat → Dev) :
    d.forEach (e.uhfTeam n) f = f d n := by
  simp [Dev.uhfTeam_alone h, Dev.forEach]

theorem Dev.uhfMaster_alone {d : Dev} {n : Nat} (h : (d.uhfc n).master = true) : d.uhfMaster n = n := by
  simp [Dev.uhfMaster, h]

/-! ### Carriers that come down, and the end of an exchange -/

/-- The offsets within a chain's window that carriers coming down and exchanges ending do not write: CANC, LEAK, CNT, SLOTCNT0 and SLOTCNT1;
and that of COEX_CNT within the wires' window. -/
abbrev quietOffset (a : Nat) : Prop :=
  a % 0x80 = 0x02 ∨ a % 0x80 = 0x0B ∨ a % 0x80 = 0x0C ∨ a % 0x80 = 0x0E ∨ a % 0x80 = 0x45 ∨ a % 0x80 = 0x46

/-- A field that carriers coming down and exchanges ending leave alone: of a quiet register, or ERRCNT.CRC. -/
def quietFld (g : Fld) : Prop := g.hi < 32 ∧ (quietOffset g.addr ∨ (g.addr % 0x80 = 0x47 ∧ 24 ≤ g.lo))

/-- An address that holds no quiet field. -/
abbrev loud (a : Nat) : Prop := ¬ quietOffset a ∧ a % 0x80 ≠ 0x47

theorem loud_chain {c n : Nat} (hc : loud c := by decide) : loud (c + 0x80 * n) := by
  unfold loud quietOffset at *; omega

theorem loud_port {p : Nat} : loud (0x501 + 0x8 * p) := by unfold loud quietOffset; omega

/-- The error counts of R245 but for CRC. -/
theorem quiet_apart_errcnt {f g : Fld} {n : Nat} (hg : quietFld g) (hf : f.addr = R.UHFCn_ERRCNT n) (hhi : f.hi < 24) : apart f g := by
  obtain ⟨-, hq | ⟨-, hlo⟩⟩ := hg
  · refine .inl fun h => ?_
    have haddr : g.addr = 0x447 + 0x80 * n := h.trans hf
    unfold quietOffset at hq
    omega
  · exact .inr (.inr (by omega))

theorem quiet_addr_ne {g : Fld} {a : Nat} (hg : quietFld g) (ha : loud a) : g.addr ≠ a := by
  rintro rfl
  obtain ⟨-, hq | ⟨hq, -⟩⟩ := hg
  · exact ha.1 hq
  · exact ha.2 hq

theorem quiet_apart {f g : Fld} (hg : quietFld g) (hf : loud f.addr) : apart f g := .inl (quiet_addr_ne hg hf)

/-- A chain is as it was but for its carrier: output, tuning, training. -/
def UhfChain.carrierOnly (u v : UhfChain) : Prop := v = { u with out := v.out, tuning := v.tuning, untrained := v.untrained }

/-- `e` is `d` but for carriers that have come down. -/
structure Dev.CarrierOnly (d e : Dev) : Prop where
  rest : e = { d with regs := e.regs, uhf := e.uhf, gov := e.gov, coexA := e.coexA, coexB := e.coexB }
  flds : ∀ g, quietFld g → e.fld g = d.fld g
  uhf : ∀ m, m < 2 → (d.uhfc m).carrierOnly (e.uhfc m)

namespace Dev.CarrierOnly

variable {d e : Dev} {n : Nat}

theorem refl (d : Dev) : CarrierOnly d d := ⟨rfl, fun _ _ => rfl, fun _ _ => rfl⟩

theorem setFld {f : Fld} {v : Nat} (h : CarrierOnly d e) (hf : loud f.addr) : CarrierOnly d (e.setFld f v) where
  rest := congrArg (·.setFld f v) h.rest
  flds g hg := (Dev.fld_setFld_other (quiet_apart hg hf) hg.1).trans (h.flds g hg)
  uhf := h.uhf

/-- An error count raised, but for CRC. -/
theorem bumpErrcnt {f : Fld} {v m : Nat} (h : CarrierOnly d e) (hf : f.addr = R.UHFCn_ERRCNT m) (hhi : f.hi < 24) :
    CarrierOnly d (e.bump f v) where
  rest := congrArg (·.setFld f (satAdd (2 ^ (f.hi + 1 - f.lo) - 1) (e.fld f) v)) h.rest
  flds g hg := (Dev.fld_setFld_other (quiet_apart_errcnt hg hf hhi) hg.1).trans (h.flds g hg)
  uhf := h.uhf

theorem setFlag {f : Fld} {v : Bool} (h : CarrierOnly d e) (hf : loud f.addr) : CarrierOnly d (e.setFlag f v) := h.setFld hf

theorem setReg {a : Nat} {v : Word} (h : CarrierOnly d e) (ha : loud a) : CarrierOnly d (e.setReg a v) where
  rest := congrArg (·.setReg a v) h.rest
  flds g hg := (congrArg (bitsOf · g.hi g.lo) (Dev.reg_setReg_other (quiet_addr_ne hg ha))).trans (h.flds g hg)
  uhf := h.uhf

theorem govern (h : CarrierOnly d e) (g : Gov) (a b : Wires) : CarrierOnly d { e with gov := g, coexA := a, coexB := b } where
  rest := congrArg (fun x : Dev => { x with gov := g, coexA := a, coexB := b }) h.rest
  flds := h.flds
  uhf := h.uhf

/-- A chain's carrier changed; a number that names no chain changes none. -/
theorem onUhf {f : UhfChain → UhfChain} (h : CarrierOnly d e)
    (hf : ∀ u v : UhfChain, u.carrierOnly v → u.carrierOnly (f v)) : CarrierOnly d (e.onUhf n f) where
  rest := congrArg (fun x : Dev => { x with uhf := tableSet 2 {} e.uhf n (f (e.uhfc n)) }) h.rest
  flds := h.flds
  uhf m hm := by
    by_cases hmn : m = n
    · subst hmn; rw [Dev.uhfc_onUhf hm]; exact hf _ _ (h.uhf m hm)
    · rw [Dev.uhfc_onUhf_other hm hmn]; exact h.uhf m hm

theorem ite {c : Prop} [Decidable c] {x y : Dev} (hx : CarrierOnly d x) (hy : CarrierOnly d y) :
    CarrierOnly d (if c then x else y) := by
  split <;> assumption

theorem forEach {f : Dev → Nat → Dev} {l : List Nat} (h : CarrierOnly d e) (hf : ∀ x m, CarrierOnly d x → CarrierOnly d (f x m)) :
    CarrierOnly d (e.forEach l f) :=
  Dev.forEach_keeps h fun x m _ hx => hf x m hx

theorem setUst {v : Nat} (h : CarrierOnly d e) : CarrierOnly d (e.setUst n v) := h.setFld loud_chain

theorem showOcc (h : CarrierOnly d e) : CarrierOnly d (e.showOcc n) := h.setFld (by split <;> decide)

theorem rampOff (h : CarrierOnly d e) : CarrierOnly d (e.rampOff n) := .ite ((h.govern _ _ _).govern _ _ _).showOcc (h.govern _ _ _)

theorem coexRelease {a b : Bool} (h : CarrierOnly d e) : CarrierOnly d (e.coexRelease a b) := by
  have hs : loud R.COEX_STAT := by decide
  exact (((((((h.govern _ _ _).setFlag hs).setFlag hs).setFlag hs).setFlag hs).setFlag hs).setFlag hs).setFlag hs |>.setFlag hs

theorem coexIdle (h : CarrierOnly d e) : CarrierOnly d e.coexIdle := h.coexRelease

theorem untrain (h : CarrierOnly d e) : CarrierOnly d (e.untrain n) :=
  (h.onUhf fun u v huv => by rw [UhfChain.carrierOnly, huv]).setFlag loud_chain

theorem rampDown1 (h : CarrierOnly d e) : CarrierOnly d (e.rampDown1 n) := by
  unfold Dev.rampDown1
  extract_lets x y z
  have hx : CarrierOnly d x := h.setUst.rampOff
  have hy : CarrierOnly d y := (hx.setFlag loud_chain).setFld loud_chain
  have hz : CarrierOnly d z := ((hy.setFld loud_chain).setFld loud_chain).onUhf fun u v huv => by rw [UhfChain.carrierOnly, huv]
  refine .ite h ?_
  split
  · exact hz.setFlag loud_port
  · exact hz

theorem rampDown (h : CarrierOnly d e) : CarrierOnly d (e.rampDown n) :=
  ((h.forEach fun _ _ hx => hx.rampDown1).setFlag (by decide)).coexIdle

theorem toStandby (h : CarrierOnly d e) : CarrierOnly d (e.toStandby n) :=
  h.rampDown.forEach fun _ _ hx => .ite hx
    ((((hx.setUst.setFlag loud_chain).setFlag loud_chain).onUhf fun u v huv => by rw [UhfChain.carrierOnly, huv]).untrain)

theorem teamCw (h : CarrierOnly d e) : CarrierOnly d (e.teamCw n) := .ite (h.forEach fun _ _ hx => hx.setUst) h

theorem applyAfter {c : Nat} (h : CarrierOnly d e) : CarrierOnly d (e.applyAfter n c) := by
  unfold Dev.applyAfter
  split
  · exact h.rampDown
  · exact h.toStandby
  · exact h.teamCw

theorem pauseIdle (h : CarrierOnly d e) : CarrierOnly d (e.pauseIdle n) := .ite h.rampDown h

theorem unhold (h : CarrierOnly d e) : CarrierOnly d (e.unhold n) := h.setFlag (by split <;> decide)

theorem showQueue (h : CarrierOnly d e) : CarrierOnly d (e.showQueue n) := h.setFld loud_chain

theorem showRound (h : CarrierOnly d e) : CarrierOnly d (e.showRound n) := by
  unfold Dev.showRound
  split
  · exact (h.setReg loud_chain).setReg loud_chain
  · extract_lets x y
    have hx : CarrierOnly d x := h.setReg loud_chain
    have hy : CarrierOnly d y := hx.setFld loud_chain
    exact .ite ((hy.setFlag loud_chain).setFld loud_chain) hy

theorem uhfShowFrame {f : ResFrame} (h : CarrierOnly d e) : CarrierOnly d (e.uhfShowFrame n f) := by
  unfold Dev.uhfShowFrame
  extract_lets s fl fm stat lvl ph shown
  have hstat : CarrierOnly d stat := h.setReg loud_chain
  have hlvl : CarrierOnly d lvl := hstat.setReg loud_chain
  have hph : CarrierOnly d ph := hlvl.setReg loud_chain
  have hshown : CarrierOnly d shown := .ite (hph.setFld loud_chain) hph
  exact .ite (hshown.bumpErrcnt rfl (Nat.le_of_ble_eq_true rfl)) (.ite (hshown.bumpErrcnt rfl (Nat.le_of_ble_eq_true rfl))
    (.ite (hshown.bumpErrcnt rfl (Nat.le_of_ble_eq_true rfl)) hshown))

theorem trans {x : Dev} (h : CarrierOnly d e) (g : CarrierOnly e x) : CarrierOnly d x where
  rest := by
    have hg := g.rest
    rw [h.rest] at hg
    exact hg
  flds f hf := (g.flds f hf).trans (h.flds f hf)
  uhf m hm := by
    have hx := g.uhf m hm
    rw [UhfChain.carrierOnly, h.uhf m hm] at hx
    exact hx

end Dev.CarrierOnly

/-! ### What shows in registers leaves the chains alone -/

@[simp] theorem Dev.uhfc_setReg (d : Dev) (a : Nat) (v : Word) (n : Nat) : (d.setReg a v).uhfc n = d.uhfc n := rfl
@[simp] theorem Dev.uhfc_setFld (d : Dev) (f : Fld) (v n : Nat) : (d.setFld f v).uhfc n = d.uhfc n := rfl
@[simp] theorem Dev.uhfc_setFlag (d : Dev) (f : Fld) (v : Bool) (n : Nat) : (d.setFlag f v).uhfc n = d.uhfc n := rfl
@[simp] theorem Dev.uhfc_bump (d : Dev) (f : Fld) (v n : Nat) : (d.bump f v).uhfc n = d.uhfc n := rfl
@[simp] theorem Dev.uhfc_raiseTo (d : Dev) (f : Fld) (v n : Nat) : (d.raiseTo f v).uhfc n = d.uhfc n := rfl
@[simp] theorem Dev.uhfc_setUst (d : Dev) (m v n : Nat) : (d.setUst m v).uhfc n = d.uhfc n := rfl
@[simp] theorem Dev.uhfc_showQueue (d : Dev) (m n : Nat) : (d.showQueue m).uhfc n = d.uhfc n := rfl
@[simp] theorem Dev.uhfc_coexIdle (d : Dev) (n : Nat) : d.coexIdle.uhfc n = d.uhfc n := rfl
@[simp] theorem Dev.uhfc_coexPri (d : Dev) (n : Nat) : d.coexPri.uhfc n = d.uhfc n := rfl
@[simp] theorem Dev.uhfc_unhold (d : Dev) (m n : Nat) : (d.unhold m).uhfc n = d.uhfc n := rfl
@[simp] theorem Dev.uhfc_reach (d : Dev) (t n : Nat) : (d.reach t).uhfc n = d.uhfc n := rfl

@[simp] theorem Dev.uhfc_showRound (d : Dev) (m n : Nat) : (d.showRound m).uhfc n = d.uhfc n := by
  unfold Dev.showRound
  split
  · rfl
  · dsimp only
    split <;> rfl

@[simp] theorem Dev.uhfc_uhfShowFrame (d : Dev) (m n : Nat) (f : ResFrame) : (d.uhfShowFrame m f).uhfc n = d.uhfc n := by
  unfold Dev.uhfShowFrame
  extract_lets s fl fm stat lvl ph shown
  have hshown : shown.uhfc n = d.uhfc n := by unfold shown; split <;> rfl
  split
  · exact hshown
  · split
    · exact hshown
    · split <;> exact hshown

/-! ### An attempt that ends -/

/-- A chain whose attempt has ended with a frame. -/
def UhfChain.ended (u : UhfChain) (f : ResFrame) : UhfChain :=
  { u with att := none, bufs := u.bufs ++ [f], queue := [], backlog := [], waitGrant := false }

theorem Dev.uhfc_radioClear (d : Dev) {n : Nat} (hn : n < 2) :
    (d.radioClear n).uhfc n = { d.uhfc n with queue := [], backlog := [], waitGrant := false } := by
  unfold Dev.radioClear
  dsimp only
  split <;> simp [Dev.uhfc_onUhf hn]

theorem Dev.uhfc_radioClear_other (d : Dev) {n m : Nat} (hm : m < 2) (hmn : m ≠ n) : (d.radioClear n).uhfc m = d.uhfc m := by
  unfold Dev.radioClear
  dsimp only
  split <;> simp [Dev.uhfc_onUhf_other hm hmn]

/-- The end of an attempt with no frame held back: its frame is in the buffer, its queue empty. -/
theorem Dev.uhfc_uhfFinish {d : Dev} {n : Nat} {a : UhfAttempt} {f : ResFrame} (hn : n < 2) (hheld : a.held = none) :
    (d.uhfFinish n a f).uhfc n = (d.uhfc n).ended f := by
  simp [Dev.uhfFinish, hheld, Dev.uhfPush, Dev.uhfc_onUhf hn, Dev.uhfc_radioClear _ hn, UhfChain.ended]

theorem Dev.uhfc_uhfFinish_other {d : Dev} {n m : Nat} {a : UhfAttempt} {f : ResFrame} (hm : m < 2) (hmn : m ≠ n)
    (hheld : a.held = none) : (d.uhfFinish n a f).uhfc m = d.uhfc m := by
  simp [Dev.uhfFinish, hheld, Dev.uhfPush, Dev.uhfc_onUhf_other hm hmn, Dev.uhfc_radioClear_other _ hm hmn]

theorem UhfChain.carrierOnly_trans {u v w : UhfChain} (h : u.carrierOnly v) (g : v.carrierOnly w) : u.carrierOnly w := by
  rw [UhfChain.carrierOnly, h] at g
  exact g

theorem UhfChain.carrierOnly_ended {u v : UhfChain} {f : ResFrame} (h : u.carrierOnly v) : (u.ended f).carrierOnly (v.ended f) := by
  rw [h]; rfl

/-- `e` is `d` but for the UHF chains, the governor, the wires, and registers that hold no quiet field. -/
structure Dev.RadioOnly (d e : Dev) : Prop where
  rest : e = { d with regs := e.regs, uhf := e.uhf, gov := e.gov, coexA := e.coexA, coexB := e.coexB }
  flds : ∀ g, quietFld g → e.fld g = d.fld g

namespace Dev.RadioOnly

variable {d e x : Dev} {n : Nat}

theorem carriers (h : RadioOnly d e) (hc : CarrierOnly e x) : RadioOnly d x where
  rest := by
    have hx := hc.rest
    rw [h.rest] at hx
    exact hx
  flds g hg := (hc.flds g hg).trans (h.flds g hg)

theorem after (hc : CarrierOnly d e) (h : RadioOnly e x) : RadioOnly d x where
  rest := by
    have hx := h.rest
    rw [hc.rest] at hx
    exact hx
  flds g hg := (h.flds g hg).trans (hc.flds g hg)

theorem refl (d : Dev) : RadioOnly d d := ⟨rfl, fun _ _ => rfl⟩

theorem onUhf {f : UhfChain → UhfChain} (h : RadioOnly d e) : RadioOnly d (e.onUhf n f) :=
  ⟨congrArg (fun x : Dev => { x with uhf := tableSet 2 {} e.uhf n (f (e.uhfc n)) }) h.rest, h.flds⟩

theorem radioClear (h : RadioOnly d e) : RadioOnly d (e.radioClear n) := by
  unfold Dev.radioClear
  extract_lets w x
  have hx : RadioOnly d x := h.onUhf.carriers (CarrierOnly.refl _).showQueue
  split
  · exact hx.carriers (CarrierOnly.refl _).coexIdle
  · exact hx

theorem uhfPush {f : ResFrame} (h : RadioOnly d e) : RadioOnly d (e.uhfPush n f) :=
  (h.carriers (CarrierOnly.refl _).uhfShowFrame).onUhf

theorem uhfFinish {a : UhfAttempt} {f : ResFrame} (h : RadioOnly d e) : RadioOnly d (e.uhfFinish n a f) := by
  have hcleared {y : Dev} (hy : RadioOnly d y) :=
    ((hy.uhfPush (n := n) (f := f)).radioClear (n := n)).carriers ((CarrierOnly.refl _).unhold (n := n))
  unfold Dev.uhfFinish
  dsimp only
  split
  · exact (hcleared h.uhfPush).onUhf.carriers (CarrierOnly.refl _).showRound
  · exact (hcleared h).onUhf.carriers (CarrierOnly.refl _).showRound

end Dev.RadioOnly

/-- `e` is `d` but that the attempt of chain `n` has ended with a frame, and for carriers that have come down. -/
structure Dev.Ended (n : Nat) (f : ResFrame) (d e : Dev) : Prop where
  radio : d.RadioOnly e
  self : ((d.uhfc n).ended f).carrierOnly (e.uhfc n)
  others : ∀ m, m < 2 → m ≠ n → (d.uhfc m).carrierOnly (e.uhfc m)

namespace Dev.Ended

variable {d e x : Dev} {n : Nat} {a : UhfAttempt} {f : ResFrame}

theorem carriers (hn : n < 2) (h : Ended n f d e) (hc : CarrierOnly e x) : Ended n f d x where
  radio := h.radio.carriers hc
  self := UhfChain.carrierOnly_trans h.self (hc.uhf n hn)
  others m hm hmn := UhfChain.carrierOnly_trans (h.others m hm hmn) (hc.uhf m hm)

theorem after (hn : n < 2) (hc : CarrierOnly d e) (h : Ended n f e x) : Ended n f d x where
  radio := h.radio.after hc
  self := UhfChain.carrierOnly_trans (UhfChain.carrierOnly_ended (hc.uhf n hn)) h.self
  others m hm hmn := UhfChain.carrierOnly_trans (hc.uhf m hm) (h.others m hm hmn)

/-- The attempt has ended in the sense of the statements (R309). -/
theorem uhfEnded (h : Ended n f d e) (hlast : f.last = true) (hempty : f.code ≠ 0 → f.payload = []) : d.uhfEnded e n f.code := by
  have hself := h.self
  exact ⟨by rw [hself]; rfl, by rw [hself]; rfl, f, by rw [hself]; rfl, rfl, hlast, hempty⟩

/-- An attempt with no frame held back ends (R309). -/
theorem of_uhfFinish (hn : n < 2) (hheld : a.held = none) : Ended n f d (d.uhfFinish n a f) where
  radio := (RadioOnly.refl d).uhfFinish
  self := by rw [Dev.uhfc_uhfFinish hn hheld]; rfl
  others m hm hmn := by rw [Dev.uhfc_uhfFinish_other hm hmn hheld]; rfl

/-- AFTER, and what keeps a carrier off, touch carriers alone (R183, R229). -/
theorem of_uhfEnd (hn : n < 2) (hheld : a.held = none) : Ended n f d (d.uhfEnd n a f) :=
  (of_uhfFinish hn hheld).carriers hn ((CarrierOnly.refl _).applyAfter.pauseIdle)

end Dev.Ended

/-- The frame of an attempt that fails: its last, without payload. -/
theorem Dev.uhfFrame_fields (d : Dev) (n : Nat) (a : UhfAttempt) (payload ident : Bytes) (code flags bits err : Nat) (last : Bool) :
    (d.uhfFrame n a payload ident code flags bits err last).code = code ∧
    (d.uhfFrame n a payload ident code flags bits err last).last = last ∧
    (d.uhfFrame n a payload ident code flags bits err last).tag = a.tag ∧
    (d.uhfFrame n a payload ident code flags bits err last).payload = if code = 0 then payload else [] := ⟨rfl, rfl, rfl, rfl⟩

/-- An attempt that fails ends with its code. -/
theorem Dev.uhfFail_ended {d : Dev} {n : Nat} {a : UhfAttempt} {code : Nat} (hn : n < 2) (hheld : a.held = none) :
    Dev.Ended n (d.uhfFrame n a [] [] code 0 0 0 true) d (d.uhfFail n a code) := Dev.Ended.of_uhfEnd hn hheld

theorem Dev.uhfFailBare_ended {d : Dev} {n : Nat} {a : UhfAttempt} {code : Nat} (hn : n < 2) (hheld : a.held = none) :
    Dev.Ended n (d.uhfFrame n { a with rx := none } [] [] code 0 0 0 true) d (d.uhfFailBare n a code) :=
  Dev.uhfFail_ended hn hheld

theorem Dev.uhfEnded_of_fail {d e x : Dev} {n : Nat} {a : UhfAttempt} {code : Nat}
    (h : Dev.Ended n (x.uhfFrame n a [] [] code 0 0 0 true) d e) : d.uhfEnded e n code :=
  h.uhfEnded rfl fun _ => by simp [Dev.uhfFrame]

/-! ### The state of a chain -/

theorem Dev.uhfOn_iff {d : Dev} {n : Nat} : d.uhfOn n = true ↔ Ust.cw ≤ d.ust n := by simp [Dev.uhfOn]

theorem Dev.uhfOn_eq_false_iff {d : Dev} {n : Nat} : d.uhfOn n = false ↔ d.ust n < Ust.cw := by simp [Dev.uhfOn]

theorem Dev.uhfOn_congr {d e : Dev} {n : Nat} (h : e.ust n = d.ust n) : e.uhfOn n = d.uhfOn n := by simp [Dev.uhfOn, h]

theorem Dev.ust_setUst (d : Dev) (n : Nat) {v : Nat} (hv : v < 8) : (d.setUst n v).ust n = v :=
  Dev.fld_setFld_small (f := F.UHFCn_STAT_STATE n) (Nat.le_of_ble_eq_true rfl) hv

theorem Dev.ust_onUhf (d : Dev) (m n : Nat) (f : UhfChain → UhfChain) : (d.onUhf m f).ust n = d.ust n := rfl

/-- A field of another register, or of other bits of it, leaves the state. -/
theorem Dev.ust_setFld_apart {d : Dev} {f : Fld} {v n : Nat} (h : apart f (F.UHFCn_STAT_STATE n)) : (d.setFld f v).ust n = d.ust n :=
  Dev.fld_setFld_other h (Nat.le_of_ble_eq_true rfl)

theorem Dev.ust_setFld_of_addr {d : Dev} {f : Fld} {v n : Nat} (h : R.UHFCn_STAT n ≠ f.addr) : (d.setFld f v).ust n = d.ust n :=
  Dev.ust_setFld_apart (.inl h)

/-! ### Carriers that have come down -/

theorem Dev.ust_setUst_other (d : Dev) {m n v : Nat} (hmn : m ≠ n) : (d.setUst m v).ust n = d.ust n :=
  Dev.ust_setFld_of_addr (by simp only [R.UHFCn_STAT, F.UHFCn_STAT_STATE]; omega)

/-- The state stands in STAT: a register of a chain at another offset leaves it. -/
theorem Dev.ust_setFld_offset {d : Dev} {f : Fld} {v n : Nat} (c k : Nat) (hf : f.addr = c + 0x80 * k) (hc : c % 0x80 ≠ 1) :
    (d.setFld f v).ust n = d.ust n :=
  Dev.ust_setFld_of_addr (by rw [hf]; simp only [R.UHFCn_STAT]; omega)

theorem Dev.ust_showOcc (d : Dev) (m : Nat) {n : Nat} (hn : n < 2) : (d.showOcc m).ust n = d.ust n :=
  Dev.ust_setFld_of_addr (by simp only [R.UHFCn_STAT]; split <;> simp only [F.GOV_STAT_CH0, F.GOV_STAT_CH1] <;> omega)

theorem Dev.ust_rampOff (d : Dev) (m : Nat) {n : Nat} (hn : n < 2) : (d.rampOff m).ust n = d.ust n := by
  unfold Dev.rampOff
  extract_lets close x
  split
  · exact Dev.ust_showOcc _ m hn
  · rfl

/-- The state of a chain after a carrier has come down: one that was on is READY. -/
theorem Dev.ust_rampDown1 (d : Dev) (m : Nat) {n : Nat} (hn : n < 2) :
    (d.rampDown1 m).ust n = if m = n ∧ d.uhfOn n = true then Ust.ready else d.ust n := by
  unfold Dev.rampDown1
  split
  next hoff =>
    rw [if_neg]
    rintro ⟨rfl, hon⟩
    simp [hon] at hoff
  next hon =>
    extract_lets x y z
    have hx : x.ust n = if m = n ∧ d.uhfOn n = true then Ust.ready else d.ust n := by
      rw [Dev.ust_rampOff _ m hn]
      by_cases hmn : m = n
      · subst hmn
        have hon' : d.uhfOn m = true := by simpa using hon
        simp only [hon', and_self, if_true]
        exact Dev.ust_setUst _ m (by decide)
      · simp only [hmn, false_and, if_false]
        exact Dev.ust_setUst_other _ hmn
    have hy : y.ust n = x.ust n := by
      unfold y Dev.setFlag
      rw [Dev.ust_setFld_offset 0x40A m rfl (by decide), Dev.ust_setFld_offset 0x40A m rfl (by decide)]
    have hz : z.ust n = y.ust n := by
      unfold z
      rw [Dev.ust_onUhf, Dev.ust_setFld_offset 0x409 m rfl (by decide), Dev.ust_setFld_offset 0x40A m rfl (by decide)]
    split
    · unfold Dev.setFlag
      rw [Dev.ust_setFld_of_addr (by simp only [R.UHFCn_STAT, F.UHFPn_STAT_ACTIVE]; omega)]
      exact hz.trans (hy.trans hx)
    · exact hz.trans (hy.trans hx)

end Sys2Proof.Machine
end

section
/-!
PROOFS. Register windows: snapshots, counters and timers, and the words that a host write changes.
-/

namespace Sys2Proof.Machine

open Sys2Proof

-- one proof after another: the check bounds the memory that the stacks of parallel proofs take
set_option Elab.async false

/-! ### Registers written one after another -/

theorem Dev.fld_setReg_other {d : Dev} {a : Nat} {v : Word} {g : Fld} (h : g.addr ≠ a) : (d.setReg a v).fld g = d.fld g :=
  congrArg (bitsOf · g.hi g.lo) (Dev.reg_setReg_other h)

theorem Dev.fld_setReg {d : Dev} {a : Nat} {v : Word} {g : Fld} (h : g.addr = a) : (d.setReg a v).fld g = bitsOf v g.hi g.lo := by
  subst h; exact congrArg (bitsOf · g.hi g.lo) (Dev.reg_setReg d g.addr v)

theorem Dev.forEach_range_succ (d : Dev) (n : Nat) (f : Dev → Nat → Dev) :
    d.forEach (List.range (n + 1)) f = f (d.forEach (List.range n) f) n := by
  simp [Dev.forEach, List.range_succ]

theorem Dev.reg_forEach_other {d : Dev} {f : Dev → Nat → Dev} {l : List Nat} {b : Nat}
    (h : ∀ e, ∀ i ∈ l, (f e i).reg b = e.reg b) : (d.forEach l f).reg b = d.reg b :=
  Dev.forEach_keeps (P := fun e => e.reg b = d.reg b) rfl fun e i hi he => (h e i hi).trans he

/-- A window of words written in a row: each word holds its own value. -/
theorem Dev.reg_forEach_setReg {d : Dev} {a : Nat → Nat} {v : Nat → Word} {n i : Nat} (ha : ∀ i j, a i = a j → i = j) (hi : i < n) :
    (d.forEach (List.range n) fun d j => d.setReg (a j) (v j)).reg (a i) = v i := by
  induction n with
  | zero => omega
  | succ n ih =>
    rw [Dev.forEach_range_succ]
    by_cases h : i = n
    · subst h; exact Dev.reg_setReg _ _ _
    · rw [Dev.reg_setReg_other fun he => h (ha i n he)]; exact ih (by omega)

/-- A window of words written in a row leaves the other words. -/
theorem Dev.reg_forEach_setReg_other {d : Dev} {a : Nat → Nat} {v : Nat → Word} {n b : Nat} (hb : ∀ i < n, b ≠ a i) :
    (d.forEach (List.range n) fun d j => d.setReg (a j) (v j)).reg b = d.reg b :=
  Dev.reg_forEach_other fun _ i hi => Dev.reg_setReg_other (hb i (List.mem_range.1 hi))

theorem Dev.fld_eq_of_reg {d e : Dev} {g : Fld} (h : e.reg g.addr = d.reg g.addr) : e.fld g = d.fld g :=
  congrArg (bitsOf · g.hi g.lo) h

namespace Dev.onlyRegs

variable {d e : Dev} {l : List Nat}

theorem fld (h : d.onlyRegs e l) {f : Fld} {v : Nat} (ha : f.addr ∈ l := by decide) : d.onlyRegs (e.setFld f v) l :=
  Dev.onlyRegs_setFld h ha

theorem reg (h : d.onlyRegs e l) {a : Nat} {v : Word} (ha : a ∈ l := by decide) : d.onlyRegs (e.setReg a v) l :=
  Dev.onlyRegs_setReg h ha

theorem flag (h : d.onlyRegs e l) {f : Fld} {v : Bool} (ha : f.addr ∈ l := by decide) : d.onlyRegs (e.setFlag f v) l :=
  Dev.onlyRegs_setFlag h ha

theorem forEach {ns : List Nat} {f : Dev → Nat → Dev} (h : d.onlyRegs e l) (hf : ∀ x, ∀ n ∈ ns, d.onlyRegs x l → d.onlyRegs (f x n) l) :
    d.onlyRegs (e.forEach ns f) l :=
  Dev.forEach_keeps h hf

theorem chans (h : d.onlyRegs e l) : e.chans = d.chans := (congrArg Dev.chans h.1 :)

theorem uhf (h : d.onlyRegs e l) : e.uhf = d.uhf := (congrArg Dev.uhf h.1 :)

theorem chan? (h : d.onlyRegs e l) (k : Nat) : e.chan? k = d.chan? k := by simp only [Dev.chan?, h.chans]

end Dev.onlyRegs

/-- Nothing but registers differs. -/
def Dev.RegsOnly (d e : Dev) : Prop := e = { d with regs := e.regs }

namespace Dev.RegsOnly

variable {d e : Dev}

theorem refl (d : Dev) : RegsOnly d d := rfl

theorem fld (h : RegsOnly d e) (f : Fld) (v : Nat) : RegsOnly d (e.setFld f v) :=
  (congrArg (fun x : Dev => { x with regs := RegMap.setFld e.regs f v }) h :)

theorem reg (h : RegsOnly d e) (a : Nat) (v : Word) : RegsOnly d (e.setReg a v) :=
  (congrArg (fun x : Dev => { x with regs := RegMap.set e.regs a v }) h :)

theorem flag (h : RegsOnly d e) (f : Fld) (b : Bool) : RegsOnly d (e.setFlag f b) := h.fld f (b2n b)

theorem forEach {l : List Nat} {f : Dev → Nat → Dev} (h : RegsOnly d e) (hf : ∀ x n, RegsOnly d x → RegsOnly d (f x n)) :
    RegsOnly d (e.forEach l f) :=
  Dev.forEach_keeps h fun x n _ hx => hf x n hx

end Dev.RegsOnly

/-! ### Windows with a snapshot -/

theorem R.OBJ_Wk_inj (i j : Nat) (h : R.OBJ_Wk i = R.OBJ_Wk j) : i = j := Nat.add_left_cancel h
theorem R.FLT_Ek_inj (i j : Nat) (h : R.FLT_Ek i = R.FLT_Ek j) : i = j := Nat.add_left_cancel h
theorem R.TMRn_SNAPCNT_inj (i j : Nat) (h : R.TMRn_SNAPCNT i = R.TMRn_SNAPCNT j) : i = j := by
  simp only [R.TMRn_SNAPCNT] at h; omega

theorem Dev.objSelect_index (d : Dev) (k : Nat) : (d.objSelect k).fld F.OBJ_SEL_INDEX = k % 2 ^ 12 := by
  unfold Dev.objSelect
  simp (disch := decide) only [Dev.fld_setReg_other, Dev.fld_setFld_other]
  rw [Dev.fld_eq_of_reg (Dev.reg_forEach_setReg_other (by decide))]
  exact Dev.fld_setFld (by decide)

theorem Dev.objSelect_word (d : Dev) (k : Nat) {i : Nat} (hi : i < 8) :
    (d.objSelect k).reg (R.OBJ_Wk i) = profWord (d.obj k).bytes i := by
  have hlo : R.OBJ_Wk i < 0x90A := by simp only [R.OBJ_Wk]; omega
  unfold Dev.objSelect
  rw [Dev.reg_setReg_other, Dev.reg_setReg_other]
  repeat rw [Dev.reg_setFld_other]
  · exact Dev.reg_forEach_setReg R.OBJ_Wk_inj hi
  all_goals simp only [F.OBJ_CENSUS_STATE, F.OBJ_CENSUS_MISS, F.OBJ_CENSUS_LAST_RSSI, F.OBJ_CENSUS_LAST_PORT, R.OBJ_SEEN_HI, R.OBJ_SEEN_LO]; omega

theorem Dev.objSelect_seen (d : Dev) (k : Nat) : (d.objSelect k).reg R.OBJ_SEEN_LO = BitVec.ofNat 32 (d.obj k).census.seen :=
  Dev.reg_setReg _ _ _

theorem Dev.objSelect_frame (d : Dev) (k : Nat) : Dev.RegsOnly d (d.objSelect k) :=
  (((((((((Dev.RegsOnly.refl d).fld _ _).forEach fun _ _ h => h.reg _ _).fld _ _).fld _ _).fld _ _).fld _ _).reg _ _).reg _ _)


theorem Dev.objSelect_spec (d : Dev) (k : Fin 4096) :
    (d.objSelect k).fld F.OBJ_SEL_INDEX = k.val ∧ (∀ i, i < 8 → (d.objSelect k).reg (R.OBJ_Wk i) = profWord (d.obj k).bytes i) ∧
      (d.objSelect k).reg R.OBJ_SEEN_LO = BitVec.ofNat 32 (d.obj k).census.seen ∧ Dev.RegsOnly d (d.objSelect k) :=
  ⟨(d.objSelect_index k).trans (Nat.mod_eq_of_lt k.isLt), fun _ => d.objSelect_word k, d.objSelect_seen k, d.objSelect_frame k⟩

theorem Dev.slotSelect_frame (d : Dev) (k : Nat) : d.onlyRegs (d.slotSelect k) [R.VLT_SLOT_SEL, R.VLT_SLOT_INFO, R.VLT_SLOT_KCV] := by
  unfold Dev.slotSelect
  extract_lets d1
  have h1 : d.onlyRegs d1 [R.VLT_SLOT_SEL, R.VLT_SLOT_INFO, R.VLT_SLOT_KCV] := (Dev.onlyRegs_refl d _).fld.reg.fld
  split
  · exact h1
  · exact h1.flag.fld.fld.fld

theorem Dev.slotSelect_spec (d : Dev) (k : Fin 32) :
    (d.slotSelect k).fld F.VLT_SLOT_SEL_SLOT = k.val ∧
      (d.slotSelect k).flag F.VLT_SLOT_INFO_VALID = (d.vault.slots.getD k none).isSome ∧
      (d.slotSelect k).fld F.VLT_SLOT_KCV_KCV = d.kcv k % 2 ^ 24 := by
  have hk := k.isLt
  unfold Dev.slotSelect
  simp only [Dev.setFld_vault, Dev.setReg_vault]
  cases d.vault.slots.getD k none with
  | none =>
    simp (disch := decide) only [Dev.fld_setReg_other, Dev.fld_setFld_other, Dev.fld_setFld, Dev.fld_setReg, Dev.flag]
    exact ⟨Nat.mod_eq_of_lt hk, rfl, rfl⟩
  | some x =>
    simp (disch := decide) only [Dev.fld_setReg_other, Dev.fld_setFld_other, Dev.fld_setFld, Dev.flag, Dev.setFlag]
    exact ⟨Nat.mod_eq_of_lt hk, rfl, rfl⟩

theorem Dev.fltSelect_spec (d : Dev) (k : Fin 16) :
    (d.fltSelect k).fld F.FLT_SEL_ENTRY = k.val ∧
      (∀ i, i < 8 → (d.fltSelect k).reg (R.FLT_Ek i) = profWord (((d.flt[k.val]?).map (·.bytes)).getD (zeros 32)) i) ∧
      Dev.RegsOnly d (d.fltSelect k) := by
  refine ⟨?_, fun i hi => Dev.reg_forEach_setReg R.FLT_Ek_inj hi, ((Dev.RegsOnly.refl d).fld _ _).forEach fun _ _ h => h.reg _ _⟩
  unfold Dev.fltSelect
  rw [Dev.fld_eq_of_reg (Dev.reg_forEach_setReg_other (by decide)), Dev.fld_setFld (by decide)]
  exact Nat.mod_eq_of_lt k.isLt

/-- The words of the channel window: all but its select. -/
abbrev channelWindow : List Nat := [0x801, 0x802, 0x803, 0x804, 0x805, 0x806, 0x807, 0x808, 0x809, 0x80A, 0x80B, 0x80C, 0x80D, 0x80E]

theorem Dev.showEntry_frame {d e : Dev} {l : List Nat} (h : d.onlyRegs e l) (hsel : R.CHN_HSEL ∈ l) (hhist : R.CHN_HIST ∈ l)
    (hist : History) (k : Nat) : d.onlyRegs (e.showEntry hist k) l := by
  unfold Dev.showEntry
  extract_lets e1
  have h1 : d.onlyRegs e1 l := h.fld hsel
  split
  · exact (h1.fld hsel).reg hhist
  · exact (((h1.fld hsel).fld hhist).fld hhist).fld hhist

theorem Dev.chnSelect_spec (d : Dev) (dev : Bool) (slot : Nat) :
    ((d.setFlag F.CHN_SEL_DEV dev).setFld F.CHN_SEL_SLOT slot).onlyRegs (d.chnSelect dev slot) channelWindow ∧
      ∀ c, dev = false → d.chan? slot = some c → (d.chnSelect dev slot).fld F.CHN_INFO_STATE = chanCode c.state ∧
        (d.chnSelect dev slot).fld F.CHN_CNT0_OK = c.ok % 65536 ∧ (d.chnSelect dev slot).reg R.CHN_LAST = c.last := by
  unfold Dev.chnSelect
  extract_lets d1 entry d2 h d3 d4 d5 d6
  have h2 : d1.onlyRegs d2 channelWindow := (Dev.onlyRegs_refl d1 _).forEach fun x n hn hx => by
    split
    · exact hx
    · exact hx.reg (by have := List.mem_range.1 hn; simp only [channelWindow, List.mem_cons, List.not_mem_nil, or_false]; omega)
  have h4 : d1.onlyRegs d4 channelWindow := Dev.showEntry_frame h2.fld.fld.fld.fld (by decide) (by decide) _ _
  have h6 : d1.onlyRegs d6 channelWindow := h4.fld.fld.fld
  clear_value d6 d4
  split
  · next hdev => exact ⟨h4, fun c hoff => absurd (hdev.symm.trans hoff) (by decide)⟩
  split
  · next hnone => exact ⟨h6, fun c _ hc => absurd ((hnone.symm.trans (h6.chan? slot)).trans hc) (by simp)⟩
  · next c hsome =>
    extract_lets d7 d8 d9 d10 d11 d12 d13 d14
    have h11 : d1.onlyRegs d11 channelWindow := h6.fld.fld.fld.flag.flag.flag.flag.fld.fld.fld.fld
    have hstate : d11.fld F.CHN_INFO_STATE = chanCode c.state := by
      simp (disch := decide) only [d11, d10, d9, d8, d7, Dev.fld_setFld_other, Dev.fld_setFlag_other, Dev.fld_setFld]
      cases c.state <;> rfl
    have h12 : d1.onlyRegs d12 channelWindow ∧ d12.fld F.CHN_INFO_STATE = chanCode c.state := by
      unfold d12
      split
      · exact ⟨h11, hstate⟩
      · exact ⟨h11.fld.fld.flag.flag.fld.fld, by
          simpa (disch := decide) only [Dev.fld_setFld_other, Dev.fld_setFlag_other] using hstate⟩
    refine ⟨h12.1.reg.fld.fld.fld.fld.fld, fun c' _ hc => ?_⟩
    obtain rfl : c = c' := Option.some.inj ((hsome.symm.trans (h6.chan? slot)).trans hc)
    simp (disch := decide) only [d14, d13, Dev.fld_setFld_other, Dev.fld_setReg_other, Dev.fld_setFld, Dev.reg_setFld_other, Dev.reg_setReg]
    exact ⟨h12.2, rfl, trivial⟩

theorem Dev.chnSelect_select (d : Dev) (dev : Bool) (slot : Fin 256) :
    (d.chnSelect dev slot).flag F.CHN_SEL_DEV = dev ∧ (d.chnSelect dev slot).fld F.CHN_SEL_SLOT = slot.val := by
  have h := (d.chnSelect_spec dev slot).1
  constructor
  · rw [Dev.flag, Dev.onlyRegs_fld h (by decide), ← Dev.flag, Dev.flag_setFld_other (by decide) (by decide)]
    exact Dev.flag_setFlag rfl (by decide)
  · rw [Dev.onlyRegs_fld h (by decide), Dev.fld_setFld (by decide)]
    exact Nat.mod_eq_of_lt slot.isLt

theorem Dev.chnSelect_regsOnly (d : Dev) (dev : Bool) (slot : Nat) : Dev.RegsOnly d (d.chnSelect dev slot) :=
  (d.chnSelect_spec dev slot).1.1

theorem Dev.chnHselect_spec (d : Dev) (k : Fin 16) :
    (d.chnHselect k).fld F.CHN_HSEL_ENTRY = k.val ∧
      (∀ e, d.selHistory.entries[k.val]? = some e →
        (d.chnHselect k).fld F.CHN_HSEL_STATE = histCode e.st ∧ (d.chnHselect k).fld F.CHN_HIST_ID = e.id % 65536) := by
  have hk : k.val % 2 ^ 4 = k.val := Nat.mod_eq_of_lt k.isLt
  unfold Dev.chnHselect Dev.showEntry
  cases d.selHistory.entries[k.val]? with
  | none =>
    simp (disch := decide) only [Dev.fld_setReg_other, Dev.fld_setFld_other, Dev.fld_setFld]
    exact ⟨hk, fun e he => absurd he (by simp)⟩
  | some e =>
    simp (disch := decide) only [Dev.fld_setFld_other, Dev.fld_setFld]
    refine ⟨hk, fun e' he => ?_⟩
    obtain rfl : e = e' := Option.some.inj he
    exact ⟨by cases e.st <;> rfl, rfl⟩

theorem Dev.objWrite_of_free {d : Dev} (h : d.flag F.OBJ_CTL_BUSY = false) :
    d.objWrite = (d.trigger (.object (d.fld F.OBJ_SEL_INDEX) d.tables.staging)).setFlag F.OBJ_CTL_BUSY true := by
  rw [Dev.objWrite, if_neg (by simp [h])]

/-- Settles O13. -/
theorem windows : Obligations.Windows := by
  unfold Obligations.Windows
  refine ⟨fun s hs => ⟨fun k => ?_, ?_, fun k => ?_, fun k => ?_, fun dev slot => ?_, fun k => ?_⟩, fun s hs => ⟨fun h => ?_, fun h => ?_⟩⟩
  · exact completes_onHost (·.objSelect k) hs rfl (s.dev.objSelect_spec k)
  · exact completes_onHost Dev.objLoad hs rfl ⟨rfl, rfl⟩
  · obtain ⟨hslot, hvalid, hkcv⟩ := s.dev.slotSelect_spec k
    exact completes_onHost (·.slotSelect k) hs rfl ⟨hslot, hvalid, hkcv, s.dev.slotSelect_frame k⟩
  · exact completes_onHost (·.fltSelect k) hs rfl (s.dev.fltSelect_spec k)
  · obtain ⟨hdev, hslot⟩ := s.dev.chnSelect_select dev slot
    exact completes_onHost (·.chnSelect dev slot) hs rfl
      ⟨hdev, hslot, s.dev.chnSelect_regsOnly dev slot, (s.dev.chnSelect_spec dev slot).2⟩
  · obtain ⟨hentry, hshown⟩ := s.dev.chnHselect_spec k
    exact completes_onHost (·.chnHselect k) hs rfl
      ⟨hentry, hshown, Dev.showEntry_frame (Dev.onlyRegs_refl _ _) (by decide) (by decide) _ _⟩
  · exact completes_onHost Dev.objWrite hs rfl (by rw [Dev.objWrite, if_pos h])
  · refine completes_onHost Dev.objWrite hs rfl ?_
    rw [Dev.objWrite_of_free h]
    refine ⟨rfl, Dev.flag_setFlag rfl (by decide), ?_, ((Dev.onlyRegs_refl _ _).flag).flag⟩
    rw [Dev.flag_setFlag_other (by decide) (by decide)]
    exact Dev.flag_setFlag rfl (by decide)

/-! ### Baselines, calibration and limits -/

theorem Dev.sense_forgetBases (d : Dev) (p : Nat) : d.forgetBases.sense p = {} := by
  have hmap : ∀ l : List SensePort, (l.map fun _ => ({} : SensePort)).getD p {} = {} := fun l => by
    rw [List.getD_eq_getElem?_getD, List.getElem?_map]
    cases l[p]? <;> rfl
  exact hmap d.attic.ports

/-- With no baseline anywhere the bits shown are all 0. -/
theorem Dev.showBases_of_none {d : Dev} (h : ∀ p, (d.sense p).base = none) : d.showBases = d.setFld F.WATCH_STAT_BASE_VALID 0 := by
  simp [Dev.showBases, h, b2n]

theorem Dev.forgetBases_spec (d : Dev) :
    (∀ p, d.forgetBases.sense p = {}) ∧ d.forgetBases.fld F.WATCH_STAT_BASE_VALID = 0 ∧
      d.forgetBases.attic = { d.attic with ports := d.forgetBases.attic.ports } ∧
      { d with attic := d.forgetBases.attic }.onlyRegs d.forgetBases [R.WATCH_STAT] := by
  refine ⟨d.sense_forgetBases, ?_, rfl, (Dev.onlyRegs_refl _ _).fld⟩
  have hempty : ∀ p, ((d.onAttic fun a => { a with ports := a.ports.map fun _ => {} }).sense p).base = none := fun p =>
    congrArg SensePort.base (d.sense_forgetBases p)
  rw [Dev.forgetBases, Dev.showBases_of_none hempty]
  exact Dev.fld_setFld (by decide)

/-- With every entry stale the map shown is empty. -/
theorem Dev.showCal_of_stale {d : Dev} {n : Nat} (h : (d.uhfc n).cal.filter d.calFresh = []) :
    (d.showCal n).fld (F.UHFCn_CALMAP_HI_MAP n) = 0 ∧ (d.showCal n).fld (F.UHFCn_CALMAP_LO_MAP n) = 0 := by
  unfold Dev.showCal
  rw [h]
  extract_lets m e
  split <;>
    simp (disch := (simp only [F.UHFCn_CALMAP_HI_MAP, F.UHFCn_CALMAP_LO_MAP, F.UHFCn_SYN_STAT_ENTRY_VALID, F.UHFCn_SYN_STAT_TEMP_CAL]; omega))
      [m, e, Dev.fld_setFld_other, Dev.fld_setFlag_other, Dev.fld_setFld]

theorem Dev.showCal_frame (d : Dev) (n : Nat) :
    d.onlyRegs (d.showCal n) [R.UHFCn_CALMAP_HI n, R.UHFCn_CALMAP_LO n, R.UHFCn_SYN_STAT n] := by
  unfold Dev.showCal
  extract_lets m e
  have he : d.onlyRegs e [R.UHFCn_CALMAP_HI n, R.UHFCn_CALMAP_LO n, R.UHFCn_SYN_STAT n] :=
    ((Dev.onlyRegs_refl _ _).fld (List.mem_cons_self ..)).fld (List.mem_cons_of_mem _ (List.mem_cons_self ..))
  have hstat : R.UHFCn_SYN_STAT n ∈ [R.UHFCn_CALMAP_HI n, R.UHFCn_CALMAP_LO n, R.UHFCn_SYN_STAT n] := by simp
  split
  · exact (he.flag hstat).fld hstat
  · exact he.flag hstat

theorem Dev.recalChain_spec (d : Dev) (n : Fin 2) :
    ((d.recalChain n).uhfc n).cal = (d.uhfc n).cal.map (fun e => { e with stale := true }) ∧
      (d.recalChain n).uhfc n = { d.uhfc n with cal := ((d.recalChain n).uhfc n).cal } ∧
      (∀ m, m < 2 → m ≠ n.val → (d.recalChain n).uhfc m = d.uhfc m) ∧
      (d.recalChain n).fld (F.UHFCn_CALMAP_HI_MAP n) = 0 ∧ (d.recalChain n).fld (F.UHFCn_CALMAP_LO_MAP n) = 0 ∧
      { d with uhf := (d.recalChain n).uhf }.onlyRegs (d.recalChain n) [R.UHFCn_CALMAP_HI n, R.UHFCn_CALMAP_LO n, R.UHFCn_SYN_STAT n] := by
  have hframe := (d.onUhf n fun u => { u with cal := u.cal.map fun e => { e with stale := true } }).showCal_frame n
  have huhf : (d.recalChain n).uhf = (d.onUhf n fun u => { u with cal := u.cal.map fun e => { e with stale := true } }).uhf :=
    (congrArg Dev.uhf hframe.1 :)
  have hchain : ∀ m, (d.recalChain n).uhfc m = (d.onUhf n fun u => { u with cal := u.cal.map fun e => { e with stale := true } }).uhfc m :=
    fun m => by rw [Dev.uhfc, huhf, Dev.uhfc]
  have hself := (hchain n).trans (Dev.uhfc_onUhf n.isLt)
  have hstale : ((d.onUhf n fun u => { u with cal := u.cal.map fun e => { e with stale := true } }).uhfc n).cal.filter
      (d.onUhf n fun u => { u with cal := u.cal.map fun e => { e with stale := true } }).calFresh = [] := by
    rw [Dev.uhfc_onUhf n.isLt]
    simp [Dev.calFresh, List.filter_eq_nil_iff]
  refine ⟨by rw [hself], by rw [hself], fun m hm hne => (hchain m).trans (Dev.uhfc_onUhf_other hm hne), ?_⟩
  exact ⟨(Dev.showCal_of_stale hstale).1, (Dev.showCal_of_stale hstale).2, by rw [huhf]; exact hframe⟩

theorem Dev.restoreLimits_spec (d : Dev) :
    d.restoreLimits.fld F.GOV_UHF_PCOND = d.gov.ceil.pcond % 512 ∧ d.restoreLimits.fld F.GOV_UHF_EIRP = ofInt 16 d.gov.ceil.eirp ∧
      d.restoreLimits.fld F.GOV_TIME_DWELL_MAX = d.gov.ceil.dwellMax % 65536 ∧
      d.restoreLimits.fld F.GOV_TIME_OFF_MIN = d.gov.ceil.offMin % 65536 ∧
      d.restoreLimits.fld F.GOV_HF_HF_LIMIT = ofInt 16 d.gov.ceil.hfLimit ∧
      d.restoreLimits.fld F.GOV_HF_HF_TOTAL = d.gov.ceil.hfTotal % 65536 ∧
      d.restoreLimits.fld F.GOV_CHMASK_HI_MASK = d.gov.ceil.chmask / 2 ^ 32 % 2 ^ 32 ∧
      d.restoreLimits.fld F.GOV_CHMASK_LO_MASK = d.gov.ceil.chmask % 2 ^ 32 ∧
      d.restoreLimits.fld F.GOV_CTL_DUTY_MAX = d.gov.ceil.duty % 1024 := by
  have hsigned : ∀ i : Int, ofInt 16 i % 65536 = ofInt 16 i := fun i => by simp only [ofInt]; omega
  unfold Dev.restoreLimits
  simp (disch := decide) only [Dev.fld_setFld_other, Dev.fld_setFld]
  exact ⟨rfl, hsigned _, rfl, rfl, hsigned _, rfl, rfl, Nat.mod_mod _ _, rfl⟩

theorem Dev.restoreLimits_frame (d : Dev) :
    d.onlyRegs d.restoreLimits [R.GOV_UHF, R.GOV_TIME, R.GOV_HF, R.GOV_CHMASK_HI, R.GOV_CHMASK_LO, R.GOV_CTL] :=
  (Dev.onlyRegs_refl d _).fld.fld.fld.fld.fld.fld.fld.fld.fld

/-! ### COEX_CFG.A_EN in SHARED -/

theorem Dev.flag_eq_true_iff {d : Dev} {f : Fld} (h : f.hi = f.lo) : d.flag f = true ↔ (d.reg f.addr).getLsbD f.lo = true := by
  rw [Dev.flag, bne_iff_ne, Dev.fld, RegMap.fld, bitsOf_ne_zero_iff]
  exact ⟨fun ⟨k, hlo, hhi, hk⟩ => (show k = f.lo by omega) ▸ hk, fun hk => ⟨f.lo, le_rfl, h.ge, hk⟩⟩

theorem Dev.reg_store (d : Dev) (a : Nat) (w : Word) : (d.store a w).reg a =
    ((((d.reg a &&& ~~~(accessOf a).rw) ||| (w &&& (accessOf a).rw)) &&& ~~~(w &&& (accessOf a).w1c)) ||| (w &&& (accessOf a).w1s)) :=
  Dev.reg_setReg _ _ _

theorem Dev.store_frame (d : Dev) (a : Nat) (w : Word) : d.onlyRegs (d.store a w) [a] :=
  (Dev.onlyRegs_refl d _).reg (List.mem_singleton_self a)

/-- The enable of the wires of set A is written back as it was. -/
theorem Dev.store_coexCfg_flag {d : Dev} {w : Word} :
    (d.store R.COEX_CFG (putBits w 31 31 (b2n true))).flag F.COEX_CFG_A_EN = true := by
  have hrow : (accessOf R.COEX_CFG).rw = 0xF3FF03FF#32 ∧ (accessOf R.COEX_CFG).w1c = 0#32 := by decide
  rw [Dev.flag_eq_true_iff rfl]
  show ((d.store R.COEX_CFG _).reg R.COEX_CFG).getLsbD 31 = true
  have hput : (putBits w 31 31 (b2n true)).getLsbD 31 = true := by rw [putBits_getLsbD (by decide)]; rfl
  rw [Dev.reg_store, hrow.1, hrow.2]
  simp only [BitVec.getLsbD_or, BitVec.getLsbD_and, BitVec.getLsbD_not, hput]
  simp

theorem Dev.forEach_fixed {d : Dev} {f : Dev → Nat → Dev} {l : List Nat} (h : ∀ n ∈ l, f d n = d) : d.forEach l f = d :=
  Dev.forEach_keeps (P := fun e => e = d) rfl fun _ n hn he => he ▸ h n hn

theorem Dev.gateCarriers_of_off {d : Dev} (h : ∀ n, n < 2 → d.uhfOn n = false) : d.gateCarriers = d :=
  Dev.forEach_fixed fun n hn => by
    have hlt : n < 2 := by revert n; decide
    simp [h n hlt]

theorem Dev.reg_showCoex {d : Dev} {b : Nat} (h : b ≠ 0x681) : d.showCoex.reg b = d.reg b := by
  unfold Dev.showCoex
  exact (Dev.onlyRegs_refl d [0x681]).flag.flag.flag.flag.flag.flag.flag.flag.2 b (by simpa using h)

theorem Dev.coexIdle_uhf (d : Dev) : d.coexIdle.uhf = d.uhf := rfl

theorem Dev.reg_coexIdle {d : Dev} {b : Nat} (h : b ≠ 0x681) : d.coexIdle.reg b = d.reg b := Dev.reg_showCoex h

/-- What a refused write of 0 to A_EN leaves: the register stored with its enable, the record, and the wires shown afresh. -/
theorem Dev.writeCoexCfg_refused {d : Dev} {w : Word} (hmode : d.mode = Mode.shared) (hen : d.flag F.COEX_CFG_A_EN = true)
    (hw : w.getLsbD 31 = false) (hoff : ∀ n, n < 2 → (d.uhfc n).waitGrant = false ∧ d.uhfOn n = false) :
    d.writeCoexCfg w =
      ((d.store R.COEX_CFG (putBits w 31 31 (b2n true))).refuse Code.CC_COEX_CONFIG 1 0 R.COEX_CFG 0).coexIdle := by
  have hframe := Dev.store_frame d R.COEX_CFG (putBits w 31 31 (b2n true))
  have hmode' : (d.store R.COEX_CFG (putBits w 31 31 (b2n true))).mode = Mode.shared :=
    (Dev.onlyRegs_fld hframe (by decide)).trans hmode
  unfold Dev.writeCoexCfg
  rw [hen, hw]
  simp only [Dev.coexAEn, hmode', Bool.not_false, Bool.true_and, beq_self_eq_true, if_true, Bool.false_bne]
  generalize he : (d.store R.COEX_CFG (putBits w 31 31 (b2n true))).refuse Code.CC_COEX_CONFIG 1 0 R.COEX_CFG 0 = e
  have hust : ∀ n, e.ust n = d.ust n := fun n => Dev.fld_eq_of_reg <| by
    subst he
    have hne : R.UHFCn_STAT n ∉ [R.SUP_CC, R.SUP_CC_NEED] ∧ R.UHFCn_STAT n ∉ [R.COEX_CFG] := by
      simp only [R.UHFCn_STAT, R.SUP_CC, R.SUP_CC_NEED, R.COEX_CFG, List.mem_cons, List.not_mem_nil, or_false]; omega
    exact ((Dev.refuse_onlyRegs _ _ _ _ _ _).2 _ hne.1).trans (hframe.2 _ hne.2)
  have hchain : e.uhf = d.uhf := by subst he; rfl
  rw [Dev.forEach_fixed]
  · refine Dev.gateCarriers_of_off fun n hn => ?_
    have hidle : e.coexIdle.ust n = e.ust n := Dev.fld_eq_of_reg (Dev.reg_coexIdle (by simp only [F.UHFCn_STAT_STATE]; omega))
    rw [Dev.uhfOn_congr (hidle.trans (hust n)), (hoff n hn).2]
  · intro n hn
    have hlt : n < 2 := by revert n; decide
    have hwait : (e.uhfc n).waitGrant = false := by rw [Dev.uhfc, hchain]; exact (hoff n hlt).1
    simp [hwait]

theorem Dev.writeCoexCfg_refused_spec {d : Dev} {w : Word} (hmode : d.mode = Mode.shared) (hen : d.flag F.COEX_CFG_A_EN = true)
    (hw : w.getLsbD 31 = false) (hoff : ∀ n, n < 2 → (d.uhfc n).waitGrant = false ∧ d.uhfOn n = false) :
    (d.writeCoexCfg w).flag F.COEX_CFG_A_EN = true ∧ (d.writeCoexCfg w).fld F.SUP_CC_CODE = 0x1D ∧
      (d.writeCoexCfg w).fld F.SUP_CC_SOURCE = 1 ∧ (d.writeCoexCfg w).fld F.SUP_CC_SUBJECT = R.COEX_CFG ∧
      (d.writeCoexCfg w).uhf = d.uhf := by
  rw [Dev.writeCoexCfg_refused hmode hen hw hoff]
  have hidle : ∀ (e : Dev) (f : Fld), f.addr ≠ 0x681 → e.coexIdle.fld f = e.fld f := fun e f hf => Dev.fld_eq_of_reg (Dev.reg_coexIdle hf)
  obtain ⟨hcode, hsource, -, hsubject⟩ :=
    Dev.refuse_fields (d.store R.COEX_CFG (putBits w 31 31 (b2n true))) Code.CC_COEX_CONFIG 1 0 R.COEX_CFG 0
  rw [hidle _ _ (by decide), hidle _ _ (by decide), hidle _ _ (by decide), hcode, hsource, hsubject]
  refine ⟨?_, rfl, rfl, rfl, ?_⟩
  · rw [Dev.flag, hidle _ _ (by decide), Dev.onlyRegs_fld (Dev.refuse_onlyRegs _ _ _ _ _ _) (by decide), ← Dev.flag]
    exact Dev.store_coexCfg_flag
  · rw [Dev.coexIdle_uhf]
    exact (Dev.onlyRegs.uhf (Dev.refuse_onlyRegs ..)).trans (Dev.store_frame ..).uhf

/-- Settles O15. -/
theorem forgetRecalRestore : Obligations.ForgetRecalRestore := by
  unfold Obligations.ForgetRecalRestore
  refine fun s hs => ⟨?_, fun n => ?_, ?_, fun hmode hen hoff => ?_⟩
  · exact completes_onHost Dev.forgetBases hs rfl s.dev.forgetBases_spec
  · exact completes_onHost (·.recalChain n) hs rfl (s.dev.recalChain_spec n)
  · obtain ⟨h1, h2, h3, h4, h5, h6, h7, h8, h9⟩ := s.dev.restoreLimits_spec
    exact completes_onHost Dev.govRestore hs rfl ⟨s.dev.restoreLimits, rfl, h1, h2, h3, h4, h5, h6, h7, h8, h9, s.dev.restoreLimits_frame⟩
  · have hw : (putBits (s.dev.reg R.COEX_CFG) 31 31 (b2n false)).getLsbD 31 = false := by
      rw [putBits_getLsbD (by decide)]; rfl
    exact completes_onHost (fun d => d.writeCoexCfg (putBits (d.reg R.COEX_CFG) 31 31 (b2n false))) hs rfl
      (Dev.writeCoexCfg_refused_spec hmode hen hw hoff)

/-! ### Timers -/

theorem Dev.forEach_congr {P : Dev → Prop} {f g : Dev → Nat → Dev} : ∀ {l : List Nat} {d : Dev}, P d →
    (∀ e, ∀ n ∈ l, P e → P (f e n)) → (∀ e, ∀ n ∈ l, P e → f e n = g e n) → d.forEach l f = d.forEach l g
  | [], _, _, _, _ => rfl
  | n :: l, d, hd, hkeep, hfg => by
    rw [Dev.forEach_cons, Dev.forEach_cons, ← hfg d n (List.mem_cons_self ..) hd]
    exact Dev.forEach_congr (hkeep d n (List.mem_cons_self ..) hd) (fun e m hm => hkeep e m (List.mem_cons_of_mem _ hm))
      fun e m hm => hfg e m (List.mem_cons_of_mem _ hm)

theorem Dev.timerClear_spec (d : Dev) (n : Nat) :
    (d.timerClear n).reg (R.TMRn_COUNT n) = 0#32 ∧ (d.timerClear n).flag (F.TMRn_STAT_DIR n) = false ∧
      d.onlyRegs (d.timerClear n) [R.TMRn_COUNT n, R.TMRn_STAT n] := by
  refine ⟨?_, Dev.flag_setFlag rfl (Nat.le_of_ble_eq_true rfl), ((Dev.onlyRegs_refl d _).reg (by simp)).flag (by simp [F.TMRn_STAT_DIR, R.TMRn_STAT])⟩
  exact (Dev.reg_setFld_other (by simp only [R.TMRn_COUNT, F.TMRn_STAT_DIR]; omega)).trans (Dev.reg_setReg _ _ _)

/-- The counts as TIME_SNAP latches them: each from its own count register, which no snapshot is. -/
theorem Dev.snapCounts (d : Dev) :
    (d.forEach (List.range 8) fun d n => d.setReg (R.TMRn_SNAPCNT n) (d.reg (R.TMRn_COUNT n))) =
      d.forEach (List.range 8) fun e n => e.setReg (R.TMRn_SNAPCNT n) (d.reg (R.TMRn_COUNT n)) :=
  Dev.forEach_congr (P := fun e => ∀ n, e.reg (R.TMRn_COUNT n) = d.reg (R.TMRn_COUNT n)) (fun _ => rfl)
    (fun e m _ he n => (Dev.reg_setReg_other (by simp only [R.TMRn_COUNT, R.TMRn_SNAPCNT]; omega)).trans (he n))
    (fun e m _ he => by rw [he m])

theorem Dev.timeSnap_spec (d : Dev) :
    d.timeSnap.reg R.SNAP_TIME_LO = BitVec.ofNat 32 d.time ∧ d.timeSnap.reg R.SNAP_TIME_HI = BitVec.ofNat 32 (d.time / 2 ^ 32) ∧
      d.timeSnap.reg R.SNAP_WALL_LO = BitVec.ofNat 32 d.wall ∧ d.timeSnap.reg R.SNAP_WALL_HI = BitVec.ofNat 32 (d.wall / 2 ^ 32) ∧
      (∀ n, n < 8 → d.timeSnap.reg (R.TMRn_SNAPCNT n) = d.reg (R.TMRn_COUNT n)) ∧
      d.timeSnap.fld F.TIME_SNAP_COUNT = (d.fld F.TIME_SNAP_COUNT + 1) % 2 ^ (F.TIME_SNAP_COUNT.hi + 1 - F.TIME_SNAP_COUNT.lo) ∧
      Dev.RegsOnly d d.timeSnap := by
  unfold Dev.timeSnap
  extract_lets d1 d2 d3
  have h1 : d.onlyRegs d1 [0x105, 0x106] := (Dev.onlyRegs_refl d _).reg.reg
  have hlo : ∀ b, b < 0xD00 → d3.reg b = d2.reg b := fun b hb => by
    unfold d3
    rw [Dev.snapCounts]
    exact Dev.reg_forEach_setReg_other fun i _ => by simp only [R.TMRn_SNAPCNT]; omega
  have hwall : d1.wall = d.wall := by simp only [Dev.wall, Dev.wallAt, show d1.time = d.time from rfl, show d1.attic = d.attic from rfl]
  have hcnt : d3.fld F.TIME_SNAP_COUNT = d.fld F.TIME_SNAP_COUNT := by
    rw [Dev.fld_eq_of_reg (hlo _ (by decide))]
    simp (disch := decide) only [d2, d1, Dev.fld_setReg_other]
  have hout : ∀ b, b ≠ 0x104 → (d3.setFld F.TIME_SNAP_COUNT (d3.fld F.TIME_SNAP_COUNT + 1)).reg b = d3.reg b := fun b hb => Dev.reg_setFld_other hb
  refine ⟨?_, ?_, ?_, ?_, fun n hn => ?_, ?_, ?_⟩
  · rw [hout _ (by decide), hlo _ (by decide)]
    simp (disch := decide) only [d2, d1, Dev.reg_setReg_other, Dev.reg_setReg]
  · rw [hout _ (by decide), hlo _ (by decide)]
    simp (disch := decide) only [d2, d1, Dev.reg_setReg_other, Dev.reg_setReg]
  · rw [hout _ (by decide), hlo _ (by decide)]
    simp (disch := decide) only [d2, Dev.reg_setReg_other, Dev.reg_setReg, hwall]
  · rw [hout _ (by decide), hlo _ (by decide)]
    simp (disch := decide) only [d2, Dev.reg_setReg, hwall]
  · rw [hout _ (by simp only [R.TMRn_SNAPCNT]; omega)]
    unfold d3
    rw [Dev.snapCounts, Dev.reg_forEach_setReg R.TMRn_SNAPCNT_inj hn]
    have hne : ∀ b, b < 0x200 → R.TMRn_COUNT n ≠ b := fun b hb => by simp only [R.TMRn_COUNT]; omega
    rw [Dev.reg_setReg_other (hne _ (by decide)), Dev.reg_setReg_other (hne _ (by decide)), Dev.reg_setReg_other (hne _ (by decide)),
      Dev.reg_setReg_other (hne _ (by decide))]
  · rw [Dev.fld_setFld (by decide), hcnt]
  · exact (((((((Dev.RegsOnly.refl d).reg _ _).reg _ _).reg _ _).reg _ _).forEach fun _ _ h => h.reg _ _).fld _ _)

/-- The fields of a capture stand apart in CAPSTAT, whichever of the two it is. -/
theorem capFields_apart (n : Nat) (k : Fin 2) :
    apart (capDir n k) (capNew n k) ∧ apart (capOvf n k) (capNew n k) ∧ apart (capOvf n k) (capDir n k) := by
  match k with
  | 0 => exact ⟨.inr (.inr (Nat.le_of_ble_eq_true rfl)), .inr (.inr (Nat.le_of_ble_eq_true rfl)), .inr (.inr (Nat.le_of_ble_eq_true rfl))⟩
  | 1 => exact ⟨.inr (.inr (Nat.le_of_ble_eq_true rfl)), .inr (.inr (Nat.le_of_ble_eq_true rfl)), .inr (.inr (Nat.le_of_ble_eq_true rfl))⟩

theorem capFields_addr (n : Nat) (k : Fin 2) :
    (capNew n k).addr = R.TMRn_CAPSTAT n ∧ (capDir n k).addr = R.TMRn_CAPSTAT n ∧ (capOvf n k).addr = R.TMRn_CAPSTAT n := by
  match k with
  | 0 => exact ⟨rfl, rfl, rfl⟩
  | 1 => exact ⟨rfl, rfl, rfl⟩

theorem capFields_width (n : Nat) (k : Fin 2) :
    ((capNew n k).hi = (capNew n k).lo ∧ (capNew n k).hi < 32) ∧ ((capDir n k).hi = (capDir n k).lo ∧ (capDir n k).hi < 32) ∧
      ((capOvf n k).hi = (capOvf n k).lo + 7 ∧ (capOvf n k).hi < 32) := by
  match k with
  | 0 => simp [capNew, capDir, capOvf, F.TMRn_CAPSTAT_NEW0, F.TMRn_CAPSTAT_DIR0, F.TMRn_CAPSTAT_OVF0]
  | 1 => simp [capNew, capDir, capOvf, F.TMRn_CAPSTAT_NEW1, F.TMRn_CAPSTAT_DIR1, F.TMRn_CAPSTAT_OVF1]

theorem apart.symm {f g : Fld} (h : apart f g) : apart g f := by
  obtain h | h | h := h
  · exact .inl h.symm
  · exact .inr (.inr h)
  · exact .inr (.inl h)

theorem Dev.fld_lt (d : Dev) (f : Fld) : d.fld f < 2 ^ (f.hi + 1 - f.lo) := Nat.mod_lt _ (Nat.two_pow_pos _)

theorem Dev.fld_bit_lt {d : Dev} {f : Fld} (h : f.hi = f.lo) : d.fld f < 2 := by
  have := d.fld_lt f
  rwa [h, Nat.add_sub_cancel_left, Nat.pow_one] at this

theorem Dev.capture_spec (d : Dev) (n : Nat) (k : Fin 2) :
    (d.capture n k false).reg (capReg n k) = d.reg (R.TMRn_COUNT n) ∧ (d.capture n k false).flag (capNew n k) = true ∧
      (d.capture n k false).fld (capDir n k) = d.fld (F.TMRn_STAT_DIR n) ∧
      (d.capture n k false).fld (capOvf n k) = (if d.flag (capNew n k) then min 255 (d.fld (capOvf n k) + 1) else d.fld (capOvf n k)) ∧
      d.onlyRegs (d.capture n k false) [capReg n k, R.TMRn_CAPSTAT n] := by
  obtain ⟨hdn, hon, hod⟩ := capFields_apart n k
  obtain ⟨hnew, hdir, hovf⟩ := capFields_addr n k
  obtain ⟨⟨hnew1, hnew32⟩, ⟨hdir1, hdir32⟩, ⟨hovf8, hovf32⟩⟩ := capFields_width n k
  have hk := k.isLt
  have hreg : capReg n k ≠ R.TMRn_CAPSTAT n ∧ R.TMRn_COUNT n ≠ R.TMRn_CAPSTAT n ∧ R.TMRn_STAT n ≠ R.TMRn_CAPSTAT n ∧
      R.TMRn_STAT n ≠ capReg n k := by
    simp only [capReg, R.TMRn_CAPSTAT, R.TMRn_COUNT, R.TMRn_STAT]; omega
  obtain ⟨hreg1, hreg2, hreg3, hreg4⟩ := hreg
  unfold Dev.capture
  extract_lets d1 d2 d3
  have h1 : d.onlyRegs d1 [R.TMRn_CAPSTAT n] := by
    unfold d1
    split
    · exact Dev.onlyRegs_bump (Dev.onlyRegs_refl d _) (by simp [hovf])
    · exact Dev.onlyRegs_refl d _
  have hovf1 : d1.fld (capOvf n k) = if d.flag (capNew n k) then min 255 (d.fld (capOvf n k) + 1) else d.fld (capOvf n k) := by
    have hlt := d.fld_lt (capOvf n k)
    have hwidth : (capOvf n k).hi + 1 - (capOvf n k).lo = 8 := by omega
    simp only [d1, Bool.not_false, Bool.and_true]
    split
    · rw [Dev.fld_bump hovf32, hwidth]
      simp [satAdd]
    · rfl
  have hcount : d1.reg (R.TMRn_COUNT n) = d.reg (R.TMRn_COUNT n) := h1.2 _ (by simp [hreg2])
  have hstat : (d1.setReg (capReg n k) (d1.reg (R.TMRn_COUNT n))).fld (F.TMRn_STAT_DIR n) = d.fld (F.TMRn_STAT_DIR n) :=
    Dev.fld_eq_of_reg ((Dev.reg_setReg_other hreg4).trans (h1.2 _ (by simpa [F.TMRn_STAT_DIR, R.TMRn_STAT] using hreg3)))
  simp only [Bool.false_eq_true, if_false]
  have hcapNew : (capNew n k).addr ≠ capReg n k := hnew ▸ hreg1.symm
  have hcapOvf : (capOvf n k).addr ≠ capReg n k := hovf ▸ hreg1.symm
  refine ⟨?_, ?_, ?_, ?_, ?_⟩
  · rw [Dev.reg_setFld_other (hdir ▸ hreg1), Dev.setFlag_eq, Dev.reg_setFld_other (hnew ▸ hreg1), Dev.reg_setReg, hcount]
  · rw [Dev.flag_setFld_other hdn hnew32, Dev.flag_setFlag hnew1 hnew32]
  · have hbit := d.fld_bit_lt (f := F.TMRn_STAT_DIR n) rfl
    rw [Dev.fld_setFld hdir32, hstat, hdir1, Nat.add_sub_cancel_left, Nat.pow_one, Nat.mod_eq_of_lt hbit]
  · rw [Dev.fld_setFld_other hod.symm hovf32, Dev.fld_setFlag_other hon.symm hovf32, Dev.fld_setReg_other hcapOvf, hovf1]
  · have h2 := ((Dev.onlyRegs_mono h1 (m := [capReg n k, R.TMRn_CAPSTAT n]) (by simp)).reg (a := capReg n k)
      (v := d1.reg (R.TMRn_COUNT n)) (by simp))
    exact (h2.flag (by simp [hnew])).fld (by simp [hdir])

/-- A capture from a pin is a capture of the count (R464). -/
theorem Dev.pinCapture_of_pin {d : Dev} {n k : Nat} {c : Bool} (hlo : 1 ≤ d.fld (capSrc n k)) (hhi : d.fld (capSrc n k) ≤ 0x18) :
    d.pinCapture n k c = d.capture n k c := by
  simp [Dev.pinCapture, hlo, hhi]

theorem Dev.applyAtBoundary_of_none {d : Dev} (g : Group) (h : d.applying = []) : d.applyAtBoundary g = d := by
  simp [Dev.applyAtBoundary, h]

theorem Dev.timerTick_of_off {d : Dev} {n : Nat} (h : d.flag (F.TMRn_CTL_ENABLE n) = false) : d.timerTick n = d := by
  simp [Dev.timerTick, h]

/-- With no compare selected a tick moves the count and its direction alone. -/
theorem Dev.timerTick_of_no_compare {d : Dev} {n : Nat} (hon : d.flag (F.TMRn_CTL_ENABLE n) = true)
    (hdirs : d.fld (F.TMRn_CMPCFG_DIRS n) = 0) : ∃ b,
    d.timerTick n = (d.setReg (R.TMRn_COUNT n) (BitVec.ofNat 32
      (nextCount (d.reg (R.TMRn_COUNT n)).toNat (d.reg (R.TMRn_RELOAD n)).toNat (d.flag (F.TMRn_STAT_DIR n))).1)).setFlag
      (F.TMRn_STAT_DIR n) b := by
  unfold Dev.timerTick
  simp only [hon, Bool.not_true, Bool.false_eq_true, if_false]
  refine ⟨_, Dev.forEach_fixed fun k _ => if_neg ?_⟩
  have hdirs' : ∀ e : Dev, e.reg (R.TMRn_CMPCFG n) = d.reg (R.TMRn_CMPCFG n) → e.cmpDirs n k = 0 := fun e he => by
    rw [Dev.cmpDirs, Dev.fld_eq_of_reg (g := F.TMRn_CMPCFG_DIRS n) he, hdirs]; simp [nbits]
  rw [hdirs']
  · simp [bit]
  · rw [Dev.setFlag_eq, Dev.reg_setFld_other (by simp only [R.TMRn_CMPCFG, F.TMRn_STAT_DIR]; omega),
      Dev.reg_setReg_other (by simp only [R.TMRn_CMPCFG, R.TMRn_COUNT]; omega)]

theorem Dev.timerClock_of_no_compare {d : Dev} {n : Fin 8} (hnone : d.applying = []) (hon : d.flag (F.TMRn_CTL_ENABLE n) = true)
    (hdirs : d.fld (F.TMRn_CMPCFG_DIRS n) = 0) :
    (d.timerClock n).reg (R.TMRn_COUNT n) = BitVec.ofNat 32
      (nextCount (d.reg (R.TMRn_COUNT n)).toNat (d.reg (R.TMRn_RELOAD n)).toNat (d.flag (F.TMRn_STAT_DIR n))).1 ∧
      d.onlyRegs (d.timerClock n) [R.TMRn_COUNT n, R.TMRn_STAT n] := by
  obtain ⟨b, htick⟩ := Dev.timerTick_of_no_compare hon hdirs
  have hclock : d.timerClock n = d.timerTick n := by
    have happlying : (d.timerTick n).applying = [] := by rw [htick]; exact hnone
    simp [Dev.timerClock, Dev.applyAtBoundary_of_none _ happlying]
  rw [hclock, htick]
  refine ⟨?_, ((Dev.onlyRegs_refl d _).reg (by simp)).flag (by simp [F.TMRn_STAT_DIR, R.TMRn_STAT])⟩
  rw [Dev.setFlag_eq, Dev.reg_setFld_other (by simp only [R.TMRn_COUNT, F.TMRn_STAT_DIR]; omega), Dev.reg_setReg]

theorem nextCount_within {c r : Nat} {down : Bool} (h : 0 < c ∧ c < r) : (nextCount c r down).1 = if down then c - 1 else c + 1 := by
  have h0 : ¬ c > r ∧ c ≠ 0 ∧ c ≠ r := by omega
  cases down <;> simp [nextCount, h0]

theorem nextCount_at_zero {r : Nat} {down : Bool} (h : 0 < r) : (nextCount 0 r down).1 = 1 := by
  have h0 : 0 ≠ r := by omega
  cases down <;> simp [nextCount, h0, Nat.min_eq_left h]

theorem nextCount_at_reload {r : Nat} {down : Bool} (h : 0 < r) : (nextCount r r down).1 = r - 1 := by
  have h0 : r ≠ 0 := by omega
  cases down <;> simp [nextCount, h0]

theorem nextCount_above {c r : Nat} {down : Bool} (h : r < c) : (nextCount c r down).1 = c - 1 := by simp [nextCount, h]

/-- Settles O14. -/
theorem timers : Obligations.Timers := by
  unfold Obligations.Timers
  refine ⟨fun s => ⟨fun hs n => ?_, fun hrun n k hlo hhi => ?_, fun hs => ?_⟩, fun s n hrun hnone => ⟨fun hoff => ?_, fun hon hdirs => ?_⟩⟩
  · exact completes_onHost (·.timerClear n) hs rfl (s.dev.timerClear_spec n)
  · refine completes_onLive (·.pinCapture n k false) hrun rfl ?_
    rw [Dev.pinCapture_of_pin hlo hhi]
    exact s.dev.capture_spec n k
  · exact completes_onHost Dev.timeSnap hs rfl s.dev.timeSnap_spec
  · refine completes_onLive (·.timerClock n) hrun rfl ?_
    simp [Dev.timerClock, Dev.timerTick_of_off hoff, Dev.applyAtBoundary_of_none _ hnone]
  · refine completes_onLive (·.timerClock n) hrun rfl ?_
    obtain ⟨hcount, hframe⟩ := Dev.timerClock_of_no_compare hnone hon hdirs
    have hlt := (s.dev.reg (R.TMRn_COUNT n)).isLt
    have hrlt := (s.dev.reg (R.TMRn_RELOAD n)).isLt
    intro c r down
    rw [hcount, BitVec.toNat_ofNat]
    refine ⟨fun h => ?_, fun hc hr => ?_, fun hc hr => ?_, fun h => ?_, hframe⟩
    · rw [nextCount_within h, Nat.mod_eq_of_lt (by split <;> omega)]
    · rw [show (s.dev.reg (R.TMRn_COUNT n)).toNat = 0 from hc, nextCount_at_zero hr]
    · rw [show (s.dev.reg (R.TMRn_COUNT n)).toNat = (s.dev.reg (R.TMRn_RELOAD n)).toNat from hc, nextCount_at_reload hr,
        Nat.mod_eq_of_lt (by omega)]
    · rw [nextCount_above h, Nat.mod_eq_of_lt (by omega)]

end Sys2Proof.Machine
end

section
/-!
PROOFS. Profiles written through their views, the drive of an HF chain, and the registers of a check-value unit.
-/

namespace Sys2Proof.Machine

open Sys2Proof

-- one proof after another: the check bounds the memory that the stacks of parallel proofs take
set_option Elab.async false

/-! ### Words of a byte string -/

theorem numAt_four {bs : Bytes} {i : Nat} : numAt bs i 4 = ((byteAt bs i * 256 + byteAt bs (i + 1)) * 256 + byteAt bs (i + 2)) * 256 +
    byteAt bs (i + 3) := by
  simp [numAt, beNat, byteAt, List.range, List.range.loop]

theorem byteAt_lt (bs : Bytes) (i : Nat) : byteAt bs i < 256 := BitVec.isLt _

theorem ofNat_byteAt {bs : Bytes} {i : Nat} (h : i < bs.length) : BitVec.ofNat 8 (byteAt bs i) = bs[i] := by
  rw [byteAt, List.getD_eq_getElem _ _ h, BitVec.ofNat_toNat, BitVec.setWidth_eq]

/-- The bytes of a word read from a string are the string's own. -/
theorem beBytes_profWord (p : Bytes) (k : Nat) : beBytes 4 (profWord p k).toNat =
    [BitVec.ofNat 8 (byteAt p (4 * k)), BitVec.ofNat 8 (byteAt p (4 * k + 1)), BitVec.ofNat 8 (byteAt p (4 * k + 2)),
      BitVec.ofNat 8 (byteAt p (4 * k + 3))] := by
  have h0 := byteAt_lt p (4 * k)
  have h1 := byteAt_lt p (4 * k + 1)
  have h2 := byteAt_lt p (4 * k + 2)
  have h3 := byteAt_lt p (4 * k + 3)
  have hword : (profWord p k).toNat = ((byteAt p (4 * k) * 256 + byteAt p (4 * k + 1)) * 256 + byteAt p (4 * k + 2)) * 256 +
      byteAt p (4 * k + 3) := by
    rw [profWord, BitVec.toNat_ofNat, numAt_four]
    omega
  simp only [beBytes, hword, Nat.shiftRight_eq_div_pow, List.cons.injEq, and_true]
  refine ⟨?_, ?_, ?_, ?_⟩ <;> refine BitVec.eq_of_toNat_eq ?_ <;> simp only [BitVec.toNat_ofNat] <;> omega

/-- A word written where it was read changes nothing. -/
theorem overlay_profWord {p : Bytes} {k : Nat} (h : 4 * k + 3 < p.length) : overlay p (4 * k) (beBytes 4 (profWord p k).toNat) = p := by
  have hdrop : p.drop (4 * k) = beBytes 4 (profWord p k).toNat ++ p.drop (4 * k + 4) := by
    rw [beBytes_profWord, ofNat_byteAt (by omega), ofNat_byteAt (by omega), ofNat_byteAt (by omega), ofNat_byteAt h,
      List.drop_eq_getElem_cons (by omega), List.drop_eq_getElem_cons (i := 4 * k + 1) (by omega),
      List.drop_eq_getElem_cons (i := 4 * k + 1 + 1) (by omega), List.drop_eq_getElem_cons (i := 4 * k + 1 + 1 + 1) (by omega)]
    rfl
  rw [overlay, length_beBytes, List.append_assoc, ← hdrop, List.take_append_drop]

/-! ### Profile views -/

theorem access_viewAddr (v : ProfileView) (k : Fin 12) :
    (accessOf (viewAddr v k)).lck = 0xFFFFFFFF#32 ∧ (accessOf (viewAddr v k)).stg = 0#32 := by
  cases v with
  | selected => revert k; decide +kernel
  | port n => revert n k; decide +kernel

/-- The profile that a view shows. -/
def Dev.viewed (d : Dev) : ProfileView → Nat
  | .port n => d.fld (F.HFPn_CFG_PROFILE n)
  | .selected => d.fld F.UHFPROF_SEL_PROFILE

/-- A viewed profile is locked: by its port, or by any enabled port that it is bound to. -/
def Dev.viewLocked (d : Dev) : ProfileView → Bool
  | .port n => d.flag (F.HFPn_CFG_ENABLE n)
  | .selected => d.profileLocked (d.fld F.UHFPROF_SEL_PROFILE)

theorem Dev.viewed_lt (d : Dev) (v : ProfileView) : d.viewed v < 32 := by cases v <;> exact d.fld_lt _

theorem Dev.lockMask_viewAddr (d : Dev) (v : ProfileView) (k : Fin 12) :
    d.lockMask (viewAddr v k) = if d.viewLocked v then 0xFFFFFFFF#32 else 0#32 := by
  have hk := k.isLt
  unfold Dev.lockMask
  rw [(access_viewAddr v k).1]
  cases v with
  | port n =>
    have hn := n.isLt
    have hport : (viewAddr (.port n) k - 0x300) / 0x10 = n := by simp only [viewAddr, R.HFPn_PROFk]; omega
    have hlo : 0x300 ≤ viewAddr (.port n) k ∧ viewAddr (.port n) k < 0x400 := by simp only [viewAddr, R.HFPn_PROFk]; omega
    obtain ⟨hlo, hhi⟩ := hlo
    simp (disch := omega) only [R.COEX_CFG, R.UHF_STEER, if_neg, if_pos, hport]
    rfl
  | selected =>
    have hlo : 0x412 ≤ viewAddr .selected k ∧ viewAddr .selected k ≤ 0x41D := by simp only [viewAddr, R.UHFPROFk]; omega
    obtain ⟨hlo, hhi⟩ := hlo
    have hin : (decide (0x412 ≤ viewAddr .selected k) && decide (viewAddr .selected k ≤ 0x41D)) = true := by simp [hlo, hhi]
    simp (disch := omega) only [R.COEX_CFG, R.UHF_STEER, if_neg, hin, if_true]
    rfl

theorem Dev.clampWord_viewAddr (d : Dev) (v : ProfileView) (k : Fin 12) (w : Word) : d.clampWord (viewAddr v k) w = w := by
  have hk := k.isLt
  cases v with
  | port n =>
    have hn := n.isLt
    have hlo : 0x300 ≤ viewAddr (.port n) k ∧ viewAddr (.port n) k < 0x400 := by simp only [viewAddr, R.HFPn_PROFk]; omega
    simp [Dev.clampWord, R.COEX_CFG, show ¬ viewAddr (.port n) k = 0x680 by omega, show ¬ viewAddr (.port n) k < 0x300 by omega,
      show ¬ 0x400 ≤ viewAddr (.port n) k by omega]
  | selected =>
    have hlo : 0x412 ≤ viewAddr .selected k ∧ viewAddr .selected k ≤ 0x41D := by simp only [viewAddr, R.UHFPROFk]; omega
    simp [Dev.clampWord, R.COEX_CFG, show ¬ viewAddr .selected k = 0x680 by omega, show ¬ viewAddr .selected k < 0x300 by omega,
      show ¬ viewAddr .selected k % 128 = 8 by omega, show ¬ viewAddr .selected k % 128 = 13 by omega,
      show ¬ viewAddr .selected k % 128 = 64 by omega]

theorem Dev.lockedOld_viewAddr (d : Dev) (v : ProfileView) (k : Fin 12) :
    d.lockedOld (viewAddr v k) = profWord (d.profile (d.viewed v)) k := by
  have hk := k.isLt
  unfold Dev.lockedOld Dev.viewRadio
  cases v with
  | port n =>
    have hn := n.isLt
    have hport : (viewAddr (.port n) k - 0x300) / 0x10 = n ∧ viewAddr (.port n) k % 0x10 = 4 + k := by
      simp only [viewAddr, R.HFPn_PROFk]; omega
    have hlo : 0x300 ≤ viewAddr (.port n) k ∧ viewAddr (.port n) k < 0x400 := by simp only [viewAddr, R.HFPn_PROFk]; omega
    have hset : ¬ viewAddr (.port n) k ≤ 0x21F := by omega
    have hin : viewAddr (.port n) k ≤ 0x3FF := by omega
    simp [hset, hin, hlo.1, hport]
    rfl
  | selected =>
    have hlo : 0x412 ≤ viewAddr .selected k ∧ viewAddr .selected k ≤ 0x41D ∧ viewAddr .selected k - 0x412 = k := by
      simp only [viewAddr, R.UHFPROFk]; omega
    have hset : ¬ viewAddr .selected k ≤ 0x21F ∧ ¬ viewAddr .selected k ≤ 0x3FF := by omega
    simp [hset, hlo]
    rfl

theorem Dev.disarm_viewAddr (d : Dev) (v : ProfileView) (k : Fin 12) : d.disarm (viewAddr v k) = d := by
  have hnone : pairPartner (viewAddr v k) = none := by
    cases v with
    | port n => revert n k; decide +kernel
    | selected => revert k; decide +kernel
  simp only [Dev.disarm, hnone]

theorem Dev.writeWord_viewAddr (d : Dev) (v : ProfileView) (k : Fin 12) (w : Word) :
    d.writeWord (viewAddr v k) w = d.writeProfile (d.viewed v) k w := by
  have hk := k.isLt
  have hstg := (access_viewAddr v k).2
  cases v with
  | port n =>
    have hn := n.isLt
    have hport : (viewAddr (.port n) k - 0x300) / 0x10 = n ∧ viewAddr (.port n) k % 0x10 = k + 4 := by
      simp only [viewAddr, R.HFPn_PROFk]; omega
    have hlo : 0x300 ≤ viewAddr (.port n) k ∧ viewAddr (.port n) k < 0x400 := by simp only [viewAddr, R.HFPn_PROFk]; omega
    simp (disch := omega) only [Dev.writeWord, hstg, bne_self_eq_false, Bool.false_eq_true, R.SUP_MODE, R.SUP_DIRECT_QUOTA,
      if_neg, if_pos, if_false, Dev.writeHfp, hport]
    rfl
  | selected =>
    have hlo : 0x412 ≤ viewAddr .selected k ∧ viewAddr .selected k ≤ 0x41D ∧ viewAddr .selected k - 0x412 = k := by
      simp only [viewAddr, R.UHFPROFk]; omega
    have hsteer : ¬ viewAddr .selected k = R.UHF_STEER := by simp only [R.UHF_STEER]; omega
    simp (disch := omega) only [Dev.writeWord, hstg, bne_self_eq_false, Bool.false_eq_true, R.SUP_MODE, R.SUP_DIRECT_QUOTA,
      if_neg, if_pos, if_false]
    simp [Dev.writeUhfc, hsteer, hlo, Dev.viewed]

/-- A word of a viewed profile written by the host: as it is, or while the profile is locked as it was. -/
theorem Dev.hostWrite_viewAddr (d : Dev) (v : ProfileView) (k : Fin 12) (w : Word) :
    (d.hostWrite (viewAddr v k) w).1 =
      d.writeProfile (d.viewed v) k (if d.viewLocked v then profWord (d.profile (d.viewed v)) k else w) := by
  unfold Dev.hostWrite
  simp only [Dev.lockMask_viewAddr, Dev.clampWord_viewAddr, Dev.lockedOld_viewAddr, Dev.disarm_viewAddr, Dev.writeWord_viewAddr]
  congr 1
  split
  · rw [show ~~~ 0xFFFFFFFF#32 = 0#32 by decide, BitVec.and_zero, BitVec.zero_or]
    exact BitVec.and_allOnes
  · rw [BitVec.and_zero, BitVec.or_zero]
    exact BitVec.and_allOnes

theorem Dev.profile_writeProfile {d : Dev} {prof k : Nat} {w : Word} (h : prof < 32) :
    (d.writeProfile prof k w).profile prof = overlay (d.profile prof) (4 * k) (beBytes 4 w.toNat) := tableSet_getD_self h

theorem Dev.profile_writeProfile_other {d : Dev} {prof q k : Nat} {w : Word} (hq : q < 32) (h : q ≠ prof) :
    (d.writeProfile prof k w).profile q = d.profile q := tableSet_getD_other hq h

theorem Dev.hostWrite_view_spec {d : Dev} {v : ProfileView} {k : Fin 12} {w : Word} (hlen : (d.profile (d.viewed v)).length = 48) :
    (d.hostWrite (viewAddr v k) w).1.profile (d.viewed v) =
      (if d.viewLocked v then d.profile (d.viewed v) else overlay (d.profile (d.viewed v)) (4 * k) (beBytes 4 w.toNat)) ∧
      (∀ q, q < 32 → q ≠ d.viewed v → (d.hostWrite (viewAddr v k) w).1.profile q = d.profile q) ∧
      (d.hostWrite (viewAddr v k) w).1 =
        { d with tables := { d.tables with profiles := (d.hostWrite (viewAddr v k) w).1.tables.profiles } } := by
  have hk := k.isLt
  rw [Dev.hostWrite_viewAddr]
  refine ⟨?_, fun q hq hne => Dev.profile_writeProfile_other hq hne, rfl⟩
  rw [Dev.profile_writeProfile (d.viewed_lt v)]
  split
  · exact overlay_profWord (by omega)
  · rfl

/-! ### HFCn_TXCTL and the drive of a field -/

theorem testBit_bitsOf (w : Word) (hi lo i : Nat) : (bitsOf w hi lo).testBit i = (decide (i < hi + 1 - lo) && w.getLsbD (lo + i)) := by
  rw [bitsOf, Nat.testBit_mod_two_pow, Nat.testBit_shiftRight, BitVec.getLsbD]

/-- The bits that a write mask covers take the word written. -/
theorem bitsOf_merge {old w m : Word} {hi lo : Nat} (hm : ∀ i, lo ≤ i → i ≤ hi → m.getLsbD i = true) :
    bitsOf ((old &&& ~~~m) ||| (w &&& m)) hi lo = bitsOf w hi lo := by
  refine Nat.eq_of_testBit_eq fun i => ?_
  rw [testBit_bitsOf, testBit_bitsOf]
  by_cases hi' : i < hi + 1 - lo
  · have hbit := hm (lo + i) (by omega) (by omega)
    simp only [BitVec.getLsbD_or, BitVec.getLsbD_and, BitVec.getLsbD_not, hbit]
    simp
  · simp [hi']

theorem access_txctl (n : Fin 4) : (accessOf (R.HFCn_TXCTL n)).rw = 0x3FF01FF#32 := by revert n; decide +kernel

/-- The word that HFC_TXCTL_WRITE stores, but for the bits that it keeps. -/
def txctlWord (att : Fin 512) (phase : Fin 1024) : Word :=
  putBits (pack [(25, 16, phase), (8, 0, att)]) 8 0 (min 300 (bitsOf (pack [(25, 16, phase), (8, 0, att)]) 8 0))

theorem txctlWord_fields (att : Fin 512) (phase : Fin 1024) :
    bitsOf (txctlWord att phase) 8 0 = min 300 att.val ∧ bitsOf (txctlWord att phase) 25 16 = phase.val := by
  have hatt := att.isLt
  have hphase := phase.isLt
  have hpack : bitsOf (pack [(25, 16, phase.val), (8, 0, att.val)]) 8 0 = att.val := by
    rw [show pack [(25, 16, phase.val), (8, 0, att.val)] = putBits (putBits 0#32 25 16 phase) 8 0 att from rfl, bitsOf_putBits_self (by decide)]
    omega
  have hpack' : bitsOf (pack [(25, 16, phase.val), (8, 0, att.val)]) 25 16 = phase.val := by
    rw [show pack [(25, 16, phase.val), (8, 0, att.val)] = putBits (putBits 0#32 25 16 phase) 8 0 att from rfl,
      bitsOf_putBits_other (by decide) (by decide), bitsOf_putBits_self (by decide)]
    omega
  unfold txctlWord
  rw [bitsOf_putBits_self (by decide), bitsOf_putBits_other (by decide) (by decide), hpack, hpack']
  exact ⟨by omega, rfl⟩

/-- TXCTL stored, the drive not yet followed. -/
def Dev.txctlStored (d : Dev) (n : Nat) (w : Word) : Dev :=
  d.setReg (R.HFCn_TXCTL n) ((d.reg (R.HFCn_TXCTL n) &&& ~~~ (accessOf (R.HFCn_TXCTL n)).rw) ||| (w &&& (accessOf (R.HFCn_TXCTL n)).rw))

theorem Dev.txctl_pack (d : Dev) (n : Nat) (att : Fin 512) (phase : Fin 1024) :
    d.txctl n (pack [(25, 16, phase), (8, 0, att)]) = (d.txctlStored n (txctlWord att phase)).driveChanged n := rfl

theorem Dev.txctlStored_fields (d : Dev) (n : Fin 4) (att : Fin 512) (phase : Fin 1024) :
    (d.txctlStored n (txctlWord att phase)).fld (F.HFCn_TXCTL_ATT_EXTRA n) = min 300 att.val ∧
      (d.txctlStored n (txctlWord att phase)).fld (F.HFCn_TXCTL_PHASE n) = phase.val := by
  obtain ⟨hatt, hphase⟩ := txctlWord_fields att phase
  unfold Dev.txctlStored
  rw [access_txctl]
  constructor
  · rw [Dev.fld_setReg (a := R.HFCn_TXCTL n) (g := F.HFCn_TXCTL_ATT_EXTRA n) rfl, ← hatt]
    exact bitsOf_merge fun i _ hi => by simp only [F.HFCn_TXCTL_ATT_EXTRA] at hi; interval_cases i <;> rfl
  · rw [Dev.fld_setReg (a := R.HFCn_TXCTL n) (g := F.HFCn_TXCTL_PHASE n) rfl, ← hphase]
    exact bitsOf_merge fun i hlo hi => by simp only [F.HFCn_TXCTL_PHASE] at hlo hi; interval_cases i <;> rfl

theorem Dev.txctlStored_frame (d : Dev) (n : Nat) (w : Word) : d.onlyRegs (d.txctlStored n w) [R.HFCn_TXCTL n] :=
  (Dev.onlyRegs_refl d _).reg (List.mem_singleton_self _)

/-- What holds a field's drive in place is told by the chains, the tables and the ports' profiles. -/
theorem Dev.driveHeld_congr {d e : Dev} {n : Nat} (hhf : e.hf = d.hf) (htab : e.tables = d.tables)
    (hprof : ∀ p, e.hfProfile p = d.hfProfile p) : e.driveHeld n = d.driveHeld n := by
  have hchain : ∀ m, e.hfc m = d.hfc m := fun m => by rw [Dev.hfc, hhf, Dev.hfc]
  have hset : ∀ p q, e.measuredSet p q = d.measuredSet p q := fun p q => by rw [Dev.measuredSet, htab, Dev.measuredSet]
  have hon : ∀ p, e.hfChainOn p = d.hfChainOn p := fun p => by simp only [Dev.hfChainOn, hchain]
  have hnames : ∀ p q, e.names p q = d.names p q := fun p q => by rw [Dev.names, hprof, Dev.names]
  have htier : ∀ p q, e.tier p q = d.tier p q := fun p q => by
    unfold Dev.tier
    simp only [hset, hon, hnames, hchain]
  have hpaired : ∀ m k, e.paired m k = d.paired m k := fun m k => by simp only [Dev.paired, Dev.hfOn, hchain]
  have hnow : ∀ m k p q, e.tierNow m k p q = d.tierNow m k p q := fun m k p q => by simp only [Dev.tierNow, hchain, htier]
  have hct : ∀ m k, e.chainTier m k = d.chainTier m k := fun m k => by
    unfold Dev.chainTier
    simp only [hchain, hpaired, hnow]
  simp only [Dev.driveHeld, Dev.hfTeam, Dev.staggered, Dev.stagPair, hct, hchain]
  congr 1
  · congr 1; funext m; simp only [Dev.hfBusy, hchain]
  · congr 1; funext m; simp only [Dev.hfBusy, hchain]

theorem Dev.driveChanged_alone {d : Dev} {n : Nat} (h : (d.hfc n).partner = none) :
    d.driveChanged n = if !d.hfOn n then d else if d.driveHeld n then d.onHf n fun c => { c with txPend := true } else d.hfApplyDrive n := by
  simp [Dev.driveChanged, Dev.hfTeam, h, Dev.forEach]

/-- The output of a chain alone is told by its own words, the limits and the profiles. -/
theorem Dev.hfOutMw_congr {d e : Dev} {n p : Nat} (hpulse : (e.hfc n).pulse = (d.hfc n).pulse) (hgov : e.gov = d.gov)
    (htab : e.tables = d.tables) (hregs : ∀ a, a ≠ R.HFCn_POWER n → e.reg a = d.reg a) (hn : n < 4) : e.hfOutMw n p none = d.hfOutMw n p none := by
  have hfld : ∀ f : Fld, f.addr ≠ R.HFCn_POWER n → e.fld f = d.fld f := fun f hf => Dev.fld_eq_of_reg (hregs _ hf)
  have hprof : e.hfProfile p = d.hfProfile p := by
    rw [Dev.hfProfile, hfld _ (by simp only [F.HFPn_CFG_PROFILE, R.HFCn_POWER]; omega), Dev.profile, htab]; rfl
  have hlim : ∀ f : Fld, 0x600 ≤ f.addr → e.fld f = d.fld f := fun f hf => hfld f (by simp only [R.HFCn_POWER]; omega)
  have hlimits : e.limits = d.limits := by
    unfold Dev.limits
    rw [hgov, hlim F.GOV_UHF_PCOND (by decide), hlim F.GOV_UHF_EIRP (by decide), hlim F.GOV_TIME_DWELL_MAX (by decide),
      hlim F.GOV_TIME_OFF_MIN (by decide), hlim F.GOV_HF_HF_LIMIT (by decide), hlim F.GOV_HF_HF_TOTAL (by decide),
      hlim F.GOV_CTL_DUTY_MAX (by decide), hlim F.GOV_CHMASK_HI_MASK (by decide), hlim F.GOV_CHMASK_LO_MASK (by decide)]
  have hpermit : e.hfPermit p = d.hfPermit p := by
    unfold Dev.hfPermit Dev.blank
    rw [hgov, hlimits, hprof]
  have hdrive : e.hfDrive n p = d.hfDrive n p := by
    rw [Dev.hfDrive, hpulse, hlim F.WATCH_PULSE_PULSE_ATT (by decide), hprof,
      hfld (F.HFCn_TXCTL_ATT_EXTRA n) (by simp only [F.HFCn_TXCTL_ATT_EXTRA, R.HFCn_POWER]; omega), ← Dev.hfDrive]
  simp only [Dev.hfOutMw, hdrive, hpermit]

theorem Dev.onlyRegs_onHf {d e : Dev} {l : List Nat} (h : d.onlyRegs e l) (n : Nat) (f : HfChain → HfChain) :
    { d with hf := (e.onHf n f).hf }.onlyRegs (e.onHf n f) l :=
  ⟨(congrArg (fun x : Dev => { x with hf := (e.onHf n f).hf }) h.1 :), h.2⟩

theorem Dev.reg_onHf (d : Dev) (n : Nat) (f : HfChain → HfChain) (a : Nat) : (d.onHf n f).reg a = d.reg a := rfl

theorem Dev.fld_onHf (d : Dev) (n : Nat) (f : HfChain → HfChain) (g : Fld) : (d.onHf n f).fld g = d.fld g := rfl

/-- The drive of a chain that works alone put in force. -/
theorem Dev.hfApplyDrive_alone {d : Dev} {n p : Nat} (hport : (d.hfc n).port = some p) (hfree : (d.hfc n).partner = none) :
    ∃ e, d.onlyRegs e [R.HFCn_POWER n] ∧
      e.fld (F.HFCn_POWER_OUT_MW n) = d.hfOutMw n p none % 2 ^ ((F.HFCn_POWER_OUT_MW n).hi + 1 - (F.HFCn_POWER_OUT_MW n).lo) ∧
      d.hfApplyDrive n = e.onHf n fun c => { c with txPend := false, carrier := d.ownPhase n p } := by
  have hbond : d.bondPort n = none := by rw [Dev.bondPort, hfree]; rfl
  have hphase : d.carrierPhase n p = d.ownPhase n p := by simp only [Dev.carrierPhase, hfree]
  unfold Dev.hfApplyDrive
  simp only [hport, hphase, hbond]
  refine ⟨_, ?_, ?_, rfl⟩
  · exact ((Dev.onlyRegs_refl d _).fld (List.mem_singleton_self _)).fld (List.mem_singleton_self _)
  · rw [Dev.fld_setFld_other (.inr (.inl (Nat.le_of_ble_eq_true rfl))) (Nat.le_of_ble_eq_true rfl),
      Dev.fld_setFld (Nat.le_of_ble_eq_true rfl)]

theorem Dev.hfApplyDrive_spec {d : Dev} {n : Fin 4} {p : Nat} (hport : (d.hfc n).port = some p) (hfree : (d.hfc n).partner = none) :
    (d.hfApplyDrive n).hfc n = { d.hfc n with txPend := false, carrier := d.ownPhase n p } ∧
      (d.hfApplyDrive n).fld (F.HFCn_POWER_OUT_MW n) = (d.hfApplyDrive n).hfOutMw n p none % 2 ^ ((F.HFCn_POWER_OUT_MW n).hi + 1 - (F.HFCn_POWER_OUT_MW n).lo) ∧
      (∀ m, m < 4 → m ≠ n.val → (d.hfApplyDrive n).hfc m = d.hfc m) ∧
      { d with hf := (d.hfApplyDrive n).hf }.onlyRegs (d.hfApplyDrive n) [R.HFCn_POWER n] := by
  obtain ⟨e, he, hout, heq⟩ := Dev.hfApplyDrive_alone hport hfree
  have hchain : ∀ m, e.hfc m = d.hfc m := fun m => congrArg (·.getD m {}) (congrArg Dev.hf he.1 :)
  have hframe := Dev.onlyRegs_onHf he n fun c => { c with txPend := false, carrier := d.ownPhase n p }
  rw [heq]
  generalize hx : (e.onHf n fun c => { c with txPend := false, carrier := d.ownPhase n p }) = x at hframe ⊢
  have hself : x.hfc n = { d.hfc n with txPend := false, carrier := d.ownPhase n p } := by
    rw [← hx, Dev.hfc_onHf n.isLt, hchain]
  refine ⟨hself, ?_, fun m hm hne => ?_, hframe⟩
  · have hkept : x.hfOutMw n p none = d.hfOutMw n p none :=
      Dev.hfOutMw_congr (by rw [hself]) (congrArg Dev.gov hframe.1 :) (congrArg Dev.tables hframe.1 :)
        (fun a ha => hframe.2 a (by simpa using ha)) n.isLt
    rw [hkept, ← hout, ← hx, Dev.fld_onHf]
  · rw [← hx, Dev.hfc_onHf_other hm hne, hchain]

/-- Following a drive leaves TXCTL. -/
theorem Dev.reg_driveChanged_txctl (d : Dev) (n k : Nat) : (d.driveChanged n).reg (R.HFCn_TXCTL k) = d.reg (R.HFCn_TXCTL k) := by
  refine Dev.reg_forEach_other fun e i _ => ?_
  split
  · rfl
  split
  · rfl
  unfold Dev.hfApplyDrive
  split
  · rfl
  · have hne : ∀ f : Fld, f.addr = R.HFCn_POWER i → R.HFCn_TXCTL k ≠ f.addr := fun f hf => by
      rw [hf]; simp only [R.HFCn_TXCTL, R.HFCn_POWER]; omega
    dsimp only
    rw [Dev.reg_onHf, Dev.reg_setFld_other (hne _ rfl), Dev.reg_setFld_other (hne _ rfl)]

theorem Dev.driveHeld_of_busy {d : Dev} {n : Nat} (h : (d.hfc n).phase ∈ [HfPhase.sent, .window, .receiving]) : d.driveHeld n = true := by
  have hbusy : d.hfBusy n = true := by
    simp only [List.mem_cons, List.not_mem_nil, or_false] at h
    unfold Dev.hfBusy
    obtain h | h | h := h <;> rw [h]
  simp [Dev.driveHeld, Dev.hfTeam, hbusy]

/-- HFC_TXCTL_WRITE on a chain that works alone: with no field, inside an exchange, and otherwise. -/
theorem Dev.txctl_alone {d : Dev} {n : Fin 4} {att : Fin 512} {phase : Fin 1024} (hfree : (d.hfc n).partner = none) :
    let x := (d.txctlStored n (txctlWord att phase)).driveChanged n
    (d.hfOn n = false → d.onlyRegs x [R.HFCn_TXCTL n]) ∧
      (d.hfOn n = true → (d.hfc n).phase ∈ [HfPhase.sent, .window, .receiving] →
        x.hfc n = { d.hfc n with txPend := true } ∧ (∀ m, m < 4 → m ≠ n.val → x.hfc m = d.hfc m) ∧
        { d with hf := x.hf }.onlyRegs x [R.HFCn_TXCTL n]) ∧
      (∀ p, (d.hfc n).port = some p → d.driveHeld n = false →
        x.hfc n = { d.hfc n with txPend := false, carrier := (profPhase (d.hfProfile p) + phase) % 1024 } ∧
        x.fld (F.HFCn_POWER_OUT_MW n) = x.hfOutMw n p none % 2 ^ ((F.HFCn_POWER_OUT_MW n).hi + 1 - (F.HFCn_POWER_OUT_MW n).lo) ∧
        (∀ m, m < 4 → m ≠ n.val → x.hfc m = d.hfc m) ∧
        { d with hf := x.hf }.onlyRegs x [R.HFCn_TXCTL n, R.HFCn_POWER n]) := by
  have hframe := d.txctlStored_frame n (txctlWord att phase)
  have hphase := (d.txctlStored_fields n att phase).2
  generalize d.txctlStored n (txctlWord att phase) = e at hframe hphase
  have hhf : e.hf = d.hf := (congrArg Dev.hf hframe.1 :)
  have htab : e.tables = d.tables := (congrArg Dev.tables hframe.1 :)
  have hchain : ∀ m, e.hfc m = d.hfc m := fun m => congrArg (·.getD m {}) hhf
  have hprof : ∀ p, e.hfProfile p = d.hfProfile p := fun p => by
    have hne : (F.HFPn_CFG_PROFILE p).addr ∉ [R.HFCn_TXCTL n] := by
      have := n.isLt
      simp only [F.HFPn_CFG_PROFILE, R.HFCn_TXCTL, List.mem_singleton]; omega
    rw [Dev.hfProfile, Dev.onlyRegs_fld hframe hne, Dev.profile, htab]; rfl
  have hheld : e.driveHeld n = d.driveHeld n := Dev.driveHeld_congr hhf htab hprof
  have hon : e.hfOn n = d.hfOn n := by rw [Dev.hfOn, hchain, Dev.hfOn]
  intro x
  have hx : x = if !d.hfOn n then e else if d.driveHeld n then e.onHf n fun c => { c with txPend := true } else e.hfApplyDrive n := by
    rw [← hheld, ← hon]; exact Dev.driveChanged_alone (by rw [hchain]; exact hfree)
  clear_value x
  refine ⟨fun hoff => ?_, fun honn hbusy => ?_, fun p hport hnot => ?_⟩
  · rw [hx, hoff]; exact hframe
  · rw [honn, Dev.driveHeld_of_busy hbusy] at hx
    replace hx : x = e.onHf n fun c => { c with txPend := true } := hx
    subst hx
    refine ⟨(Dev.hfc_onHf n.isLt).trans (by rw [hchain]), fun m hm hne => (Dev.hfc_onHf_other hm hne).trans (hchain m), ?_⟩
    exact Dev.onlyRegs_onHf hframe n _
  · have hon' : d.hfOn n = true := by rw [Dev.hfOn, hport]; rfl
    rw [hon', hnot] at hx
    obtain ⟨hself, hout, hother, hregs⟩ := Dev.hfApplyDrive_spec (d := e) (n := n) (p := p) (by rw [hchain]; exact hport) (by rw [hchain]; exact hfree)
    replace hx : x = e.hfApplyDrive n := hx
    rw [← hx] at hself hout hother hregs
    have hown : e.ownPhase n p = (profPhase (d.hfProfile p) + phase) % 1024 := by rw [Dev.ownPhase, hphase, hprof]
    refine ⟨by rw [hself, hchain, hown], hout, fun m hm hne => (hother m hm hne).trans (hchain m), ?_⟩
    refine ⟨?_, fun a ha => ?_⟩
    · refine hregs.1.trans ?_
      exact (congrArg (fun y : Dev => { y with regs := x.regs, hf := x.hf }) hframe.1 :)
    · simp only [List.mem_cons, List.not_mem_nil, or_false, not_or] at ha
      exact (hregs.2 a (by simpa using ha.2)).trans (hframe.2 a (by simpa using ha.1))

/-! ### Registers of a check-value unit -/

theorem Dev.cvuWrite_of_held {d : Dev} {n : Nat} {alive : Bool} {w : Word}
    (h : cvuTap (d.fld (F.CVUn_CFG_SRC n)) = true ∨ d.flag (F.CVUn_CFG_OWNED n) = true) : d.cvuWrite n alive w = d := by
  rw [Dev.cvuWrite, if_pos (by simpa using h)]

theorem Dev.cvuWrite_of_free {d : Dev} {n : Nat} {alive : Bool} {w : Word} (hsrc : cvuTap (d.fld (F.CVUn_CFG_SRC n)) = false)
    (hfree : d.flag (F.CVUn_CFG_OWNED n) = false) :
    d.cvuWrite n alive w = d.setReg (if alive then R.CVUn_ALIVE_EXP n else R.CVUn_VALUE n) (BitVec.ofNat 32
      (w.toNat % 2 ^ if alive then 2 ^ (d.fld (F.CVUn_ALIVE_CFG_WIDTH n) + 2) else (d.cvuAlg n).1)) := by
  rw [Dev.cvuWrite, if_neg (by simp [hsrc, hfree])]

theorem Dev.cvuAny_spec (d : Dev) (n : Nat) : (d.cvuAny n).flag (F.CVUn_STAT_ANY n) = true ∧ ∀ a, a ≠ R.CVUn_STAT n → (d.cvuAny n).reg a = d.reg a := by
  have hset : (d.setFlag (F.CVUn_STAT_ANY n) true).flag (F.CVUn_STAT_ANY n) = true := Dev.flag_setFlag rfl (Nat.le_of_ble_eq_true rfl)
  have hregs : ∀ a, a ≠ R.CVUn_STAT n → (d.setFlag (F.CVUn_STAT_ANY n) true).reg a = d.reg a := fun a ha => Dev.reg_setFld_other ha
  unfold Dev.cvuAny
  dsimp only
  split
  · exact ⟨hset, hregs⟩
  · exact ⟨hset, hregs⟩

/-- Settles O11. -/
theorem unitRegisters : Obligations.UnitRegisters := by
  unfold Obligations.UnitRegisters
  refine ⟨fun s view k data hs => ?_, fun s n att phase hs => ?_, fun s n hs => ⟨fun alive data hheld => ?_, fun data hsrc hfree => ?_,
    fun data hsrc hfree => ?_, ?_⟩⟩
  · intro prof locked hlen
    have hprof : prof = s.dev.viewed view := by cases view <;> rfl
    have hlocked : locked = s.dev.viewLocked view := by cases view <;> rfl
    rw [hprof] at hlen ⊢
    rw [hlocked]
    exact completes_onHost (fun d => (d.hostWrite (viewAddr view k) data).1) hs rfl (Dev.hostWrite_view_spec hlen)
  · refine completes_onHost (·.txctl n (pack [(25, 16, phase), (8, 0, att)])) hs rfl ?_
    obtain ⟨hatt, hphase⟩ := s.dev.txctlStored_fields n att phase
    rw [Dev.txctl_pack]
    refine ⟨?_, ?_, fun hfree => Dev.txctl_alone hfree⟩
    · exact (Dev.fld_eq_of_reg (Dev.reg_driveChanged_txctl ..)).trans hatt
    · exact (Dev.fld_eq_of_reg (Dev.reg_driveChanged_txctl ..)).trans hphase
  · exact completes_onHost (·.cvuWrite n alive data) hs rfl (Dev.cvuWrite_of_held hheld)
  · refine completes_onHost (·.cvuWrite n false data) hs rfl ?_
    rw [Dev.cvuWrite_of_free hsrc hfree]
    exact ⟨Dev.reg_setReg _ _ _, (Dev.onlyRegs_refl _ _).reg (List.mem_singleton_self _)⟩
  · refine completes_onHost (·.cvuWrite n true data) hs rfl ?_
    rw [Dev.cvuWrite_of_free hsrc hfree]
    exact ⟨Dev.reg_setReg _ _ _, (Dev.onlyRegs_refl _ _).reg (List.mem_singleton_self _)⟩
  · exact completes_onHost (·.cvuAny n) hs rfl (s.dev.cvuAny_spec n)

end Sys2Proof.Machine
end

section
/-!
PROOFS. Checks that end, groups committed and applied, faults cleared.
-/

namespace Sys2Proof.Machine

open Sys2Proof

-- one proof after another: the check bounds the memory that the stacks of parallel proofs take
set_option Elab.async false

/-! ### A device on which nothing waits -/

/-- With no channel, no chain in use and nothing queued for the memory port, nothing stands still. -/
theorem Dev.settle_of_idle {d : Dev} (hchans : d.chans = []) (hhf : d.hf = [{}, {}, {}, {}]) (hmem : d.memq = []) : d.settle = d := by
  have hchain : ∀ n, d.hfc n = {} := fun n => by
    rw [Dev.hfc, hhf]
    match n with
    | 0 | 1 | 2 | 3 => rfl
    | n + 4 => rfl
  have hmove : d.moveLeaving = d := Dev.forEach_fixed fun n _ => by simp [hchain n]
  have hdrop : d.dropLeaving = d := Dev.forEach_fixed fun n _ => by simp [hchain n]
  have hdrain : d.portDrain = d := by simp [Dev.portDrain, hmem]
  simp [Dev.settle, hchans, hmove, hdrop, hdrain, Dev.waiting]

/-! ### O9 fails: an index of a timer that there is not -/

/-- A running device whose queue of checks holds the enable of a ninth timer, which no write makes. -/
def ninthTimer : State := { State.reset with dev := { State.reset.dev with phase := .running, checks := [.enable (.tmr 8)] } }

/-- Its check passes, and RUNNING of the ninth timer is written at 0xE22: neither a timer's STAT nor any word that O9 names. -/
theorem ninthTimer_runs : ninthTimer.dev.checkDone.reg 0xE02 ≠ ninthTimer.dev.reg 0xE02 := by decide +kernel

theorem exec_checkDone_next {s t : State} (hs : s.dev.served) (h : exec .checkDone s = .next t) : t.dev = s.dev.checkDone := by
  have hexec : exec .checkDone s = .next (s.withDev s.dev.checkDone) := State.onHost_on (served_host hs)
  rw [hexec] at h
  cases h
  rfl

/-- Refutes O9: the enable of a ninth timer in the queue of checks passes, and its RUNNING is written outside every word that the statement
names. -/
theorem not_checksEnd : ¬ Obligations.ChecksEnd := by
  intro h
  have hcode : ({ ninthTimer.dev with checks := [] }.setFlag F.SUP_CHECK_BUSY false).enableCode (.tmr 8) = 0 := by decide +kernel
  obtain ⟨x, hexec, y, hsettle, -, -, -, -, hframe⟩ :=
    (h.1 ninthTimer (.tmr 8) [] (.inl rfl) rfl).2 hcode (fun n => ⟨nofun, nofun, nofun⟩) (by decide +kernel)
  have hidle : y.settle = y := Dev.settle_of_idle (congrArg Dev.chans hframe.1 :) (congrArg Dev.hf hframe.1 :) (congrArg Dev.memq hframe.1 :)
  have hx : x = ninthTimer.dev.checkDone := exec_checkDone_next (.inl rfl) hexec
  refine ninthTimer_runs ?_
  rw [← hx, hsettle, hidle]
  exact hframe.2 0xE02 (by decide)

/-! ### Groups -/

theorem groupReg_ne (g : Group) : groupReg g ≠ R.SUP_CHECK := by
  cases g <;> simp only [groupReg, R.HFCn_GROUP0_COMMIT, R.UHFCn_GROUP0_COMMIT, R.TMRn_GROUP0_COMMIT, R.CVUn_GROUP0_COMMIT, R.SUP_CHECK] <;> omega

/-- A group of one register does not hold its own commit register. -/
theorem groupReg_ne_member {g : Group} {a : Nat} (h : groupMembers g = [a]) : a ≠ groupReg g := by
  cases g with
  | hf n => obtain rfl := List.singleton_inj.1 h; simp only [groupReg, R.HFCn_GROUP0_COMMIT, R.HFCn_PROTO]; omega
  | uhf n => obtain rfl := List.singleton_inj.1 h; simp only [groupReg, R.UHFCn_GROUP0_COMMIT, R.UHFCn_CHAN]; omega
  | tmr n => simp [groupMembers] at h
  | cvu n => obtain rfl := List.singleton_inj.1 h; simp only [groupReg, R.CVUn_GROUP0_COMMIT, R.CVUn_ALG]; omega

theorem Dev.groupCommit_of_free {d : Dev} {g : Group} (h : d.checking g = false) :
    (d.groupCommit g).checks = d.checks ++ [.commit g (d.shadowOf g)] ∧ (d.groupCommit g).checking g = true ∧
      (d.groupCommit g).flag F.SUP_CHECK_BUSY = true ∧
      { d with checks := (d.groupCommit g).checks }.onlyRegs (d.groupCommit g) [R.SUP_CHECK, groupReg g] := by
  rw [Dev.groupCommit, if_neg (by simp [h])]
  have hne : F.SUP_CHECK_BUSY.addr ≠ groupReg g := (groupReg_ne g).symm
  refine ⟨rfl, Dev.flag_setFlag rfl (Nat.le_of_ble_eq_true rfl), ?_, ?_⟩
  · rw [Dev.flag_setFlag_other (.inl hne) (by decide)]
    exact Dev.flag_setFlag rfl (by decide)
  · exact ((Dev.onlyRegs_refl _ _).flag (List.mem_cons_self ..)).flag (List.mem_cons_of_mem _ (List.mem_singleton_self _))

theorem Dev.applyGroup_of_head {d : Dev} {g : Group} {a : Nat} {w : Word} {rest : List (Group × List (Nat × Word))}
    (happ : d.applying = (g, [(a, w)]) :: rest) (hrest : ∀ y ∈ rest, y.1 ≠ g) :
    d.applyGroup g = ({ d.setReg a w with applying := rest }.setFld ⟨groupReg g, 23, 16⟩ 0).showPending g := by
  have hkeep : rest.filter (fun y => y.1 != g) = rest := List.filter_eq_self.2 fun y hy => by simpa using hrest y hy
  simp only [Dev.applyGroup, happ, List.find?_cons, beq_self_eq_true, List.foldl_cons, List.foldl_nil, Dev.setReg_applying,
    List.filter_cons, bne_self_eq_false, Bool.false_eq_true, if_false, hkeep]

theorem Dev.applyAtBoundary_of_member {d : Dev} {g : Group} {a : Nat} {w : Word} {rest : List (Group × List (Nat × Word))}
    (happ : d.applying = (g, [(a, w)]) :: rest) (hat : d.atBoundary g = true) (hg : groupMembers g = [a]) :
    d.applyAtBoundary g = d.applyGroup g := by
  have hany : (d.applying.any fun y => y.1 == g) = true := by simp [happ]
  unfold Dev.applyAtBoundary
  rw [hany, hat]
  cases g with
  | tmr n => simp [groupMembers] at hg
  | _ => rfl

/-- A group of one register put in force at its boundary. -/
theorem Dev.applyGroup_spec {d : Dev} {g : Group} {a : Nat} {w : Word} {rest : List (Group × List (Nat × Word))}
    (happ : d.applying = (g, [(a, w)]) :: rest) (hrest : ∀ y ∈ rest, y.1 ≠ g) (hg : groupMembers g = [a]) :
    (d.applyGroup g).reg a = w ∧ (d.applyGroup g).fld ⟨groupReg g, 23, 16⟩ = 0 ∧
      (d.applyGroup g).flag ⟨groupReg g, 31, 31⟩ = (RegMap.get d.shadow a != w) ∧
      { d with applying := rest }.onlyRegs (d.applyGroup g) [a, groupReg g] := by
  rw [Dev.applyGroup_of_head happ hrest]
  have hne : a ≠ groupReg g := groupReg_ne_member hg
  have hgr : groupReg g ∈ [a, groupReg g] := List.mem_cons_of_mem _ (List.mem_singleton_self _)
  have hstored : { d with applying := rest }.onlyRegs { d.setReg a w with applying := rest } [a, groupReg g] :=
    (Dev.onlyRegs_refl { d with applying := rest } _).reg (List.mem_cons_self ..)
  have hreg : { d.setReg a w with applying := rest }.reg a = w := Dev.reg_setReg d a w
  have hshadow : { d.setReg a w with applying := rest }.shadow = d.shadow := rfl
  generalize { d.setReg a w with applying := rest } = e at hstored hreg hshadow ⊢
  have hkept : (e.setFld ⟨groupReg g, 23, 16⟩ 0).reg a = w := (Dev.reg_setFld_other hne).trans hreg
  unfold Dev.showPending
  refine ⟨?_, ?_, ?_, (hstored.fld hgr).flag hgr⟩
  · rw [Dev.setFlag_eq, Dev.reg_setFld_other hne, hkept]
  · rw [Dev.fld_setFlag_other (.inr (.inl (Nat.le_of_ble_eq_true rfl))) (Nat.le_of_ble_eq_true rfl), Dev.fld_setFld (Nat.le_of_ble_eq_true rfl)]
    rfl
  · rw [Dev.flag_setFlag rfl (Nat.le_of_ble_eq_true rfl)]
    simp only [Dev.shadowOf, hg, List.map_cons, List.map_nil, List.any_cons, List.any_nil, Bool.or_false, hkept, Dev.setFld_shadow, hshadow]
    exact bne_comm

/-- Settles O10. -/
theorem groupsCommitAndApply : Obligations.GroupsCommitAndApply := by
  unfold Obligations.GroupsCommitAndApply
  refine fun s g hs => ⟨fun hbusy => ?_, fun hfree => ?_, fun hnot => ?_, fun a w rest happ hrest hat hg => ?_⟩
  · exact completes_onHost (·.groupCommit g) hs rfl (by rw [Dev.groupCommit, if_pos hbusy])
  · exact completes_onHost (·.groupCommit g) hs rfl (Dev.groupCommit_of_free hfree)
  · exact completes_onHost (·.applyAtBoundary g) hs rfl (by simp [Dev.applyAtBoundary, hnot])
  · refine completes_onHost (·.applyAtBoundary g) hs rfl ?_
    rw [Dev.applyAtBoundary_of_member happ hat hg]
    exact Dev.applyGroup_spec happ hrest hg

/-! ### Fields that an operation keeps -/

/-- A field reads as it did. -/
def Dev.Keeps (g : Fld) (d e : Dev) : Prop := e.fld g = d.fld g

namespace Dev.Keeps

variable {g : Fld} {d e : Dev}

theorem refl (g : Fld) (d : Dev) : Keeps g d d := rfl

theorem fld (h : Keeps g d e) {f : Fld} {v : Nat} (hfg : apart f g) (hg : g.hi < 32) : Keeps g d (e.setFld f v) :=
  (Dev.fld_setFld_other hfg hg).trans h

theorem flag (h : Keeps g d e) {f : Fld} {b : Bool} (hfg : apart f g) (hg : g.hi < 32) : Keeps g d (e.setFlag f b) := h.fld hfg hg

theorem onUhf (h : Keeps g d e) (n : Nat) (f : UhfChain → UhfChain) : Keeps g d (e.onUhf n f) := h

theorem forEach {l : List Nat} {f : Dev → Nat → Dev} (h : Keeps g d e) (hf : ∀ x, ∀ n ∈ l, Keeps g d x → Keeps g d (f x n)) :
    Keeps g d (e.forEach l f) := Dev.forEach_keeps h hf

theorem flagEq (h : Keeps g d e) : e.flag g = d.flag g := congrArg (· != 0) h

end Dev.Keeps

/-! ### Fault bits -/

theorem Dev.hfpClear_spec (d : Dev) (n : Nat) : ∃ e : Dev, d.hfpClear n = e.settle ∧ e.flag (F.HFPn_STAT_FAULT n) = false ∧
    e.flag (F.HFPn_STAT_OPEN n) = false ∧ e.flag (F.HFPn_STAT_SHORT n) = false ∧ d.onlyRegs e [R.HFPn_STAT n] := by
  have hstat : R.HFPn_STAT n ∈ [R.HFPn_STAT n] := List.mem_singleton_self _
  refine ⟨_, rfl, ?_, ?_, Dev.flag_setFlag rfl (Nat.le_of_ble_eq_true rfl), (((Dev.onlyRegs_refl d _).flag hstat).flag hstat).flag hstat⟩
  · rw [Dev.flag_setFlag_other (.inr (.inr (Nat.le_of_ble_eq_true rfl))) (Nat.le_of_ble_eq_true rfl),
      Dev.flag_setFlag_other (.inr (.inr (Nat.le_of_ble_eq_true rfl))) (Nat.le_of_ble_eq_true rfl)]
    exact Dev.flag_setFlag rfl (Nat.le_of_ble_eq_true rfl)
  · rw [Dev.flag_setFlag_other (.inr (.inr (Nat.le_of_ble_eq_true rfl))) (Nat.le_of_ble_eq_true rfl)]
    exact Dev.flag_setFlag rfl (Nat.le_of_ble_eq_true rfl)

theorem Dev.uhfpClear_spec (d : Dev) (n : Nat) : ∃ e : Dev, d.uhfpClear n = e.settle ∧ e.flag (F.UHFPn_STAT_FAULT n) = false ∧
    e.flag (F.UHFPn_STAT_RL_LOW n) = false ∧ d.onlyRegs e [R.UHFPn_STAT n] := by
  have hstat : R.UHFPn_STAT n ∈ [R.UHFPn_STAT n] := List.mem_singleton_self _
  refine ⟨_, rfl, ?_, Dev.flag_setFlag rfl (Nat.le_of_ble_eq_true rfl), ((Dev.onlyRegs_refl d _).flag hstat).flag hstat⟩
  rw [Dev.flag_setFlag_other (.inr (.inr (Nat.le_of_ble_eq_true rfl))) (Nat.le_of_ble_eq_true rfl)]
  exact Dev.flag_setFlag rfl (Nat.le_of_ble_eq_true rfl)

/-- The word of a write to FLT_STAT that names the four bits a host may clear. -/
def fltStatWord (nand clock seq other : Bool) : Word := pack [(23, 23, b2n nand), (22, 22, b2n clock), (21, 21, b2n seq), (19, 19, b2n other)]

theorem fltStatWord_bits (nand clock seq other : Bool) :
    fltStatWord nand clock seq other &&& 0xE80000#32 = fltStatWord nand clock seq other ∧
      (fltStatWord nand clock seq other).getLsbD 23 = nand ∧ (fltStatWord nand clock seq other).getLsbD 22 = clock ∧
      (fltStatWord nand clock seq other).getLsbD 21 = seq ∧ (fltStatWord nand clock seq other).getLsbD 19 = other ∧
      ∀ i, i < 19 → (fltStatWord nand clock seq other).getLsbD i = false := by
  revert nand clock seq other
  decide

theorem Dev.reg_fltStatClear (d : Dev) (nand clock seq other : Bool) :
    (d.fltStatClear nand clock seq other).reg R.FLT_STAT = d.reg R.FLT_STAT &&& ~~~(fltStatWord nand clock seq other) := by
  have hrow : (accessOf R.FLT_STAT).rw = 0#32 ∧ (accessOf R.FLT_STAT).w1c = 0xE80000#32 ∧ (accessOf R.FLT_STAT).w1s = 0#32 := by decide +kernel
  obtain ⟨hrw, hw1c, hw1s⟩ := hrow
  have hword := (fltStatWord_bits nand clock seq other).1
  rw [show d.fltStatClear nand clock seq other = d.store R.FLT_STAT (fltStatWord nand clock seq other) from rfl, Dev.reg_store, hrw, hw1c, hw1s, hword]
  simp only [BitVec.not_zero, BitVec.and_allOnes, BitVec.and_zero, BitVec.or_zero]

theorem Dev.flag_eq_getLsbD {d : Dev} {f : Fld} (h : f.hi = f.lo) : d.flag f = (d.reg f.addr).getLsbD f.lo := by
  rw [Bool.eq_iff_iff]; exact Dev.flag_eq_true_iff h

theorem Dev.fltStatClear_spec (d : Dev) (nand clock seq other : Bool) :
    let x := d.fltStatClear nand clock seq other
    x.flag F.FLT_STAT_NAND = (d.flag F.FLT_STAT_NAND && !nand) ∧ x.flag F.FLT_STAT_CLOCK = (d.flag F.FLT_STAT_CLOCK && !clock) ∧
      x.flag F.FLT_STAT_SEQ = (d.flag F.FLT_STAT_SEQ && !seq) ∧ x.flag F.FLT_STAT_OTHER = (d.flag F.FLT_STAT_OTHER && !other) ∧
      x.fld F.FLT_STAT_LAST_CODE = d.fld F.FLT_STAT_LAST_CODE ∧ d.onlyRegs x [R.FLT_STAT] := by
  intro x
  obtain ⟨-, hnand, hclock, hseq, hother, hrest⟩ := fltStatWord_bits nand clock seq other
  have hreg : x.reg R.FLT_STAT = d.reg R.FLT_STAT &&& ~~~(fltStatWord nand clock seq other) := d.reg_fltStatClear nand clock seq other
  have hbit : ∀ i, i < 32 → (x.reg R.FLT_STAT).getLsbD i = ((d.reg R.FLT_STAT).getLsbD i && !(fltStatWord nand clock seq other).getLsbD i) :=
    fun i hi => by rw [hreg]; simp [hi]
  refine ⟨?_, ?_, ?_, ?_, ?_, d.store_frame _ _⟩
  · rw [Dev.flag_eq_getLsbD rfl, Dev.flag_eq_getLsbD rfl, ← hnand]; exact hbit 23 (by decide)
  · rw [Dev.flag_eq_getLsbD rfl, Dev.flag_eq_getLsbD rfl, ← hclock]; exact hbit 22 (by decide)
  · rw [Dev.flag_eq_getLsbD rfl, Dev.flag_eq_getLsbD rfl, ← hseq]; exact hbit 21 (by decide)
  · rw [Dev.flag_eq_getLsbD rfl, Dev.flag_eq_getLsbD rfl, ← hother]; exact hbit 19 (by decide)
  · refine Nat.eq_of_testBit_eq fun i => ?_
    show (bitsOf (x.reg R.FLT_STAT) 15 8).testBit i = (bitsOf (d.reg R.FLT_STAT) 15 8).testBit i
    rw [testBit_bitsOf, testBit_bitsOf]
    by_cases hi : i < 8
    · rw [hbit _ (by omega), hrest _ (by omega)]; simp
    · simp [show ¬ i < 15 + 1 - 8 by omega]

/-! ### Rechecks -/

theorem Dev.recheckStart_of_busy {d : Dev} {hf uhf : Nat} (h : d.flag F.FLT_CLR_BUSY = true) : d.recheckStart hf uhf = d := by
  simp [Dev.recheckStart, h]

/-- The code latched in an HF chain, 0 with no fault. -/
def Dev.latchedHf (d : Dev) (n : Nat) : Nat := if d.flag (F.HFCn_STAT_FAULT n) then (d.hfc n).latched else 0

/-- The code latched in a UHF chain, 0 with no fault. -/
def Dev.latchedUhf (d : Dev) (n : Nat) : Nat := if d.flag (F.UHFCn_STAT_FAULT n) then (d.uhfc n).latched else 0

/-- The chains that a write to FLT_CLR names, with what is latched in each. -/
def Dev.recheckList (d : Dev) (hf uhf : Nat) : List (Sys2Proof.Chain × Nat) :=
  (([0, 1, 2, 3] : List (Fin 4)).filterMap fun (n : Fin 4) => if bit hf n then some (.hf n, d.latchedHf n) else none) ++
    ([0, 1] : List (Fin 2)).filterMap fun (n : Fin 2) => if bit uhf n then some (.uhf n, d.latchedUhf n) else none

theorem Dev.recheckStart_of_free {d : Dev} {hf uhf : Nat} (h : d.flag F.FLT_CLR_BUSY = false) (hne : hf ≠ 0 ∨ uhf ≠ 0) :
    d.recheckStart hf uhf = { d with recheck := d.recheckList hf uhf }.setFlag F.FLT_CLR_BUSY true := by
  have hne' : ¬ (hf = 0 ∧ uhf = 0) := by omega
  have hlatch : ∀ (f : Bool) (x : Nat), (if !f then 0 else x) = if f then x else 0 := fun f x => by cases f <;> rfl
  rw [Dev.recheckStart, if_neg (by simpa [h] using hne')]
  simp only [Bool.false_eq_true, if_false, if_true, hlatch]
  rfl

theorem Dev.mem_recheckList_hf {d : Dev} {hf uhf code : Nat} {n : Fin 4} :
    (Sys2Proof.Chain.hf n, code) ∈ d.recheckList hf uhf ↔ bit hf n = true ∧ code = d.latchedHf n := by
  unfold Dev.recheckList
  rw [List.mem_append, List.mem_filterMap, List.mem_filterMap]
  constructor
  · rintro (⟨m, -, hm⟩ | ⟨m, -, hm⟩)
    · obtain ⟨hbit, heq⟩ := Option.ite_none_right_eq_some.1 hm
      obtain ⟨hmn, hcode⟩ := Prod.mk.inj (Option.some.inj heq)
      obtain rfl := Sys2Proof.Chain.hf.inj hmn
      exact ⟨hbit, hcode.symm⟩
    · obtain ⟨-, heq⟩ := Option.ite_none_right_eq_some.1 hm
      exact absurd (Prod.mk.inj (Option.some.inj heq)).1 nofun
  · rintro ⟨hbit, rfl⟩
    exact .inl ⟨n, (by decide : ∀ n : Fin 4, n ∈ [0, 1, 2, 3]) n, if_pos hbit⟩

theorem Dev.mem_recheckList_uhf {d : Dev} {hf uhf code : Nat} {n : Fin 2} :
    (Sys2Proof.Chain.uhf n, code) ∈ d.recheckList hf uhf ↔ bit uhf n = true ∧ code = d.latchedUhf n := by
  unfold Dev.recheckList
  rw [List.mem_append, List.mem_filterMap, List.mem_filterMap]
  constructor
  · rintro (⟨m, -, hm⟩ | ⟨m, -, hm⟩)
    · obtain ⟨-, heq⟩ := Option.ite_none_right_eq_some.1 hm
      exact absurd (Prod.mk.inj (Option.some.inj heq)).1 nofun
    · obtain ⟨hbit, heq⟩ := Option.ite_none_right_eq_some.1 hm
      obtain ⟨hmn, hcode⟩ := Prod.mk.inj (Option.some.inj heq)
      obtain rfl := Sys2Proof.Chain.uhf.inj hmn
      exact ⟨hbit, hcode.symm⟩
  · rintro ⟨hbit, rfl⟩
    exact .inr ⟨n, (by decide : ∀ n : Fin 2, n ∈ [0, 1]) n, if_pos hbit⟩

/-- A recheck that does not pass shows the code and leaves the chain as it is. -/
theorem Dev.recheckEnd_of_fail {d : Dev} {c : Sys2Proof.Chain} {code : Nat} {rest : List (Sys2Proof.Chain × Nat)}
    (hhead : d.recheck = (c, code) :: rest) (h0 : code ≠ 0) (hchain : code ≠ Code.UHF_CHAIN_FAULT) :
    d.recheckEnd false = { d.setFld F.FLT_CLR_CODE code with recheck := rest }.setFlag F.FLT_CLR_BUSY (!rest.isEmpty) := by
  unfold Dev.recheckEnd
  rw [hhead]
  simp [h0, hchain]

theorem Dev.respare_keeps {d e : Dev} {g : Fld} (h : Dev.Keeps g d e) (h32 : g.hi < 32) (hspare : ∀ n, apart (F.HFCn_STAT_SPARE n) g)
    (hno : apart F.FLT_STAT_NO_SPARE g) : Dev.Keeps g d e.respare := by
  unfold Dev.respare
  extract_lets ok now want x
  have hx : Dev.Keeps g d x := h.forEach fun y n _ hy => hy.flag (hspare n) h32
  split
  · exact hx.flag hno h32
  · exact hx

/-- A chain's change of channel writes LOCKED, CALIBRATING and TRAINED. -/
theorem Dev.tuneTo_keeps {d e : Dev} {n c : Nat} {g : Fld} (h : Dev.Keeps g d e) (h32 : g.hi < 32) (hlocked : apart (F.UHFCn_STAT_LOCKED n) g)
    (hcal : apart (F.UHFCn_STAT_CALIBRATING n) g) (htrained : apart (F.UHFCn_STAT_TRAINED n) g) : Dev.Keeps g d (e.tuneTo n c) :=
  ((((h.flag hlocked h32).flag hcal h32).onUhf _ _).onUhf _ _).flag htrained h32

/-- A field that shares no bit with the state that a chain shows in STAT. -/
def apartFromStat (g : Fld) : Prop :=
  ∀ n, apart (F.UHFCn_STAT_ROLE n) g ∧ apart (F.UHFCn_STAT_STATE n) g ∧ apart (F.UHFCn_STAT_LOCKED n) g ∧
    apart (F.UHFCn_STAT_CALIBRATING n) g ∧ apart (F.UHFCn_STAT_TRAINED n) g

theorem Dev.restandby_keeps {d e : Dev} {g : Fld} (h : Dev.Keeps g d e) (h32 : g.hi < 32) (hstat : apartFromStat g)
    (hno : apart F.FLT_STAT_NO_STANDBY g) : Dev.Keeps g d e.restandby := by
  unfold Dev.restandby
  extract_lets free want old e1 e2
  have h1 : Dev.Keeps g d e1 := h.forEach fun x n _ hx => by
    obtain ⟨hrole, -⟩ := hstat n
    split
    · exact hx.fld hrole h32
    split
    · exact hx.fld hrole h32
    · exact hx
  clear_value e1
  have h2 : Dev.Keeps g d e2 := by
    unfold e2
    split
    · exact h1.flag hno h32
    · exact h1
  clear_value e2 want
  split
  · exact h2
  split
  · exact h2
  extract_lets e3 active k there
  next _ n _ =>
    obtain ⟨-, hstate, hlocked, hcal, htrained⟩ := hstat n
    have h3 : Dev.Keeps g d e3 := by
      unfold e3
      split
      · exact h2.fld hstate h32
      · exact h2
    clear_value e3
    split
    · exact Dev.tuneTo_keeps h3 h32 hlocked hcal htrained
    · exact h3

/-- A recheck that may pass passes, whatever is latched but GOV_OVERLIMIT. -/
theorem recheck_passes {code : Nat} (h : code ≠ Code.GOV_OVERLIMIT) :
    (if code = 0 || code = Code.UHF_CHAIN_FAULT then true else if code = Code.GOV_OVERLIMIT then false else true) = true := by
  simp [h]

/-- The end of an HF chain's recheck that passes. -/
theorem Dev.recheckEnd_hf {d : Dev} {n : Fin 4} {code : Nat} {rest : List (Sys2Proof.Chain × Nat)}
    (hhead : d.recheck = (.hf n, code) :: rest) (hcode : code ≠ Code.GOV_OVERLIMIT) :
    d.recheckEnd true =
      { (((d.setFld F.FLT_CLR_CODE 0).setFlag (F.HFCn_STAT_FAULT n) false).setFlag ⟨R.FLT_STAT, 28 + n.val, 28 + n.val⟩ false).respare with
        recheck := rest }.setFlag F.FLT_CLR_BUSY (!rest.isEmpty) := by
  unfold Dev.recheckEnd
  simp only [hhead, recheck_passes hcode, if_true, Bool.not_true, Bool.false_eq_true, if_false]

theorem Dev.recheckEnd_hf_spec {d : Dev} {n : Fin 4} {code : Nat} {rest : List (Sys2Proof.Chain × Nat)}
    (hhead : d.recheck = (.hf n, code) :: rest) (hcode : code ≠ Code.GOV_OVERLIMIT) :
    let e := d.recheckEnd true
    e.flag (F.HFCn_STAT_FAULT n) = false ∧ e.flag ⟨R.FLT_STAT, 28 + n, 28 + n⟩ = false ∧ e.fld F.FLT_CLR_CODE = 0 ∧
      e.flag F.FLT_CLR_BUSY = !rest.isEmpty ∧ e.recheck = rest := by
  intro e
  have hn := n.isLt
  have he : e = _ := Dev.recheckEnd_hf hhead hcode
  clear_value e
  subst he
  let d1 := d.setFld F.FLT_CLR_CODE 0
  let d2 := d1.setFlag (F.HFCn_STAT_FAULT n) false
  let d3 := d2.setFlag ⟨R.FLT_STAT, 28 + n.val, 28 + n.val⟩ false
  have hkeep : ∀ g : Fld, g.hi < 32 → g.addr ≠ R.FLT_CLR → (∀ m, apart (F.HFCn_STAT_SPARE m) g) → apart F.FLT_STAT_NO_SPARE g →
      ({ d3.respare with recheck := rest }.setFlag F.FLT_CLR_BUSY (!rest.isEmpty)).fld g = d3.fld g := fun g h32 hne hspare hno =>
    (Dev.fld_setFlag_other (.inl hne) h32).trans (Dev.respare_keeps (Dev.Keeps.refl g d3) h32 hspare hno)
  have hfault : d3.flag (F.HFCn_STAT_FAULT n) = false := by
    rw [Dev.flag_setFlag_other (.inl (by simp only [F.HFCn_STAT_FAULT, R.FLT_STAT]; omega)) (Nat.le_of_ble_eq_true rfl)]
    exact Dev.flag_setFlag rfl (Nat.le_of_ble_eq_true rfl)
  have hbit : d3.flag ⟨R.FLT_STAT, 28 + n.val, 28 + n.val⟩ = false := Dev.flag_setFlag rfl (show 28 + n.val < 32 by omega)
  have hclr : d3.fld F.FLT_CLR_CODE = 0 := by
    rw [Dev.fld_setFlag_other (.inl (show F.FLT_CLR_CODE.addr ≠ R.FLT_STAT by decide)) (by decide),
      Dev.fld_setFlag_other (.inl (by simp only [F.HFCn_STAT_FAULT, F.FLT_CLR_CODE]; omega)) (by decide)]
    exact Dev.fld_setFld (by decide)
  refine ⟨?_, ?_, ?_, Dev.flag_setFlag rfl (by decide), rfl⟩
  · rw [Dev.flag, hkeep _ (Nat.le_of_ble_eq_true rfl)]
    · exact hfault
    · simp only [F.HFCn_STAT_FAULT, R.FLT_CLR]; omega
    · intro m; simp only [apart, F.HFCn_STAT_FAULT, F.HFCn_STAT_SPARE]; omega
    · simp only [apart, F.HFCn_STAT_FAULT, F.FLT_STAT_NO_SPARE]; omega
  · rw [Dev.flag, hkeep _ (show 28 + n.val < 32 by omega) (show R.FLT_STAT ≠ R.FLT_CLR by decide)]
    · exact hbit
    · intro m; simp only [apart, R.FLT_STAT, F.HFCn_STAT_SPARE]; omega
    · simp only [apart, R.FLT_STAT, F.FLT_STAT_NO_SPARE]; omega
  · rw [Dev.fld_setFlag_other (by decide) (by decide)]
    refine (Dev.respare_keeps (Dev.Keeps.refl _ d3) (by decide) (fun m => ?_) (by decide)).trans hclr
    simp only [apart, F.FLT_CLR_CODE, F.HFCn_STAT_SPARE]; omega

/-- A chain's count of power-loop failures is as it was. -/
def Dev.PaKept (n : Nat) (d e : Dev) : Prop := (e.uhfc n).paFails = (d.uhfc n).paFails

namespace Dev.PaKept

variable {n : Nat} {d e : Dev}

theorem refl (n : Nat) (d : Dev) : PaKept n d d := rfl

theorem fld (h : PaKept n d e) (f : Fld) (v : Nat) : PaKept n d (e.setFld f v) := h

theorem flag (h : PaKept n d e) (f : Fld) (b : Bool) : PaKept n d (e.setFlag f b) := h

theorem onUhf (h : PaKept n d e) (hn : n < 2) {k : Nat} {f : UhfChain → UhfChain} (hf : ∀ u, (f u).paFails = u.paFails) :
    PaKept n d (e.onUhf k f) := by
  unfold PaKept
  by_cases hk : n = k
  · subst hk; rw [Dev.uhfc_onUhf hn, hf]; exact h
  · rw [Dev.uhfc_onUhf_other hn hk]; exact h

theorem tuneTo (h : PaKept n d e) (hn : n < 2) (k c : Nat) : PaKept n d (e.tuneTo k c) :=
  ((((h.flag _ _).flag _ _).onUhf hn (by intro; rfl)).onUhf hn (by intro; rfl)).flag _ _

theorem restandby (h : PaKept n d e) (hn : n < 2) : PaKept n d e.restandby := by
  unfold Dev.restandby
  extract_lets free want old e1 e2
  have h1 : PaKept n d e1 := Dev.forEach_keeps h fun x m _ hx => by
    split
    · exact hx.fld _ _
    split
    · exact hx.fld _ _
    · exact hx
  clear_value e1
  have h2 : PaKept n d e2 := by
    unfold e2
    split
    · exact h1.flag _ _
    · exact h1
  clear_value e2 want
  split
  · exact h2
  split
  · exact h2
  extract_lets e3 active k there
  have h3 : PaKept n d e3 := by
    unfold e3
    split
    · exact h2.fld _ _
    · exact h2
  clear_value e3
  split
  · exact PaKept.tuneTo h3 hn _ _
  · exact h3

end Dev.PaKept

theorem Dev.uhfc_withRecheck (d : Dev) (l : List (Sys2Proof.Chain × Nat)) (n : Nat) : { d with recheck := l }.uhfc n = d.uhfc n := rfl

/-- A UHF chain whose recheck has passed, its fault cleared, stands by again where it is enabled. -/
def Dev.uhfCleared (d : Dev) (n : Nat) : Dev :=
  let x := d.onUhf n fun u => { u with paFails := 0 }
  (if x.flag (F.UHFCn_CTL_ENABLE n) then x.setUst n Ust.standby else x).restandby

theorem Dev.recheckEnd_uhf {d : Dev} {n : Fin 2} {code : Nat} {rest : List (Sys2Proof.Chain × Nat)}
    (hhead : d.recheck = (.uhf n, code) :: rest) (hcode : code ≠ Code.GOV_OVERLIMIT) :
    d.recheckEnd true =
      { (((d.setFld F.FLT_CLR_CODE 0).setFlag (F.UHFCn_STAT_FAULT n) false).setFlag ⟨R.FLT_STAT, 26 + n.val, 26 + n.val⟩ false).uhfCleared n with
        recheck := rest }.setFlag F.FLT_CLR_BUSY (!rest.isEmpty) := by
  unfold Dev.recheckEnd
  simp only [hhead, recheck_passes hcode, if_true, Bool.not_true, Bool.false_eq_true, if_false]
  rfl

theorem Dev.uhfCleared_keeps (d : Dev) {n : Nat} {g : Fld} (h32 : g.hi < 32) (hstat : apartFromStat g) (hno : apart F.FLT_STAT_NO_STANDBY g) :
    Dev.Keeps g d (d.uhfCleared n) := by
  unfold Dev.uhfCleared
  extract_lets x
  have hx : Dev.Keeps g d x := (Dev.Keeps.refl g d).onUhf n _
  clear_value x
  refine Dev.restandby_keeps ?_ h32 hstat hno
  split
  · exact hx.fld (hstat n).2.1 h32
  · exact hx

theorem Dev.uhfCleared_paFails (d : Dev) {n : Nat} (hn : n < 2) : ((d.uhfCleared n).uhfc n).paFails = 0 := by
  unfold Dev.uhfCleared
  extract_lets x
  have hx : (x.uhfc n).paFails = 0 := by unfold x; rw [Dev.uhfc_onUhf hn]
  clear_value x
  have hkept : Dev.PaKept n x (if x.flag (F.UHFCn_CTL_ENABLE n) then x.setUst n Ust.standby else x) := by
    split
    · exact (Dev.PaKept.refl n x).fld _ _
    · exact Dev.PaKept.refl n x
  exact (hkept.restandby hn).trans hx

/-- STAT's FAULT bit, FLT_STAT and FLT_CLR share no bit with what a chain shows of its state. -/
theorem apartFromStat_fault (n : Nat) : apartFromStat (F.UHFCn_STAT_FAULT n) := fun m => by
  simp only [apart, F.UHFCn_STAT_FAULT, F.UHFCn_STAT_ROLE, F.UHFCn_STAT_STATE, F.UHFCn_STAT_LOCKED, F.UHFCn_STAT_CALIBRATING,
    F.UHFCn_STAT_TRAINED]
  omega

theorem apartFromStat_of_flt {g : Fld} (h : 0xF80 ≤ g.addr ∧ g.addr ≠ 0xF81 ∧ g.addr < 0xF83) : apartFromStat g := fun m => by
  simp only [apart, F.UHFCn_STAT_ROLE, F.UHFCn_STAT_STATE, F.UHFCn_STAT_LOCKED, F.UHFCn_STAT_CALIBRATING, F.UHFCn_STAT_TRAINED]
  omega

/-- The end of a UHF chain's recheck that passes: what is cleared, and what of it stays so. -/
theorem Dev.recheckEnd_uhf_spec {d : Dev} {n : Fin 2} {code : Nat} {rest : List (Sys2Proof.Chain × Nat)}
    (hhead : d.recheck = (.uhf n, code) :: rest) (hcode : code ≠ Code.GOV_OVERLIMIT) :
    let e := d.recheckEnd true
    e.flag (F.UHFCn_STAT_FAULT n) = false ∧ e.flag ⟨R.FLT_STAT, 26 + n, 26 + n⟩ = false ∧ (e.uhfc n).paFails = 0 ∧
      e.fld F.FLT_CLR_CODE = 0 ∧ e.recheck = rest := by
  intro e
  have hn := n.isLt
  have he : e = _ := Dev.recheckEnd_uhf hhead hcode
  clear_value e
  generalize hd : ((d.setFld F.FLT_CLR_CODE 0).setFlag (F.UHFCn_STAT_FAULT n) false).setFlag ⟨R.FLT_STAT, 26 + n.val, 26 + n.val⟩ false = x at he
  have hfault : x.flag (F.UHFCn_STAT_FAULT n) = false := by
    rw [← hd, Dev.flag_setFlag_other (.inl (by simp only [F.UHFCn_STAT_FAULT, R.FLT_STAT]; omega)) (Nat.le_of_ble_eq_true rfl)]
    exact Dev.flag_setFlag rfl (Nat.le_of_ble_eq_true rfl)
  have hbit : x.flag ⟨R.FLT_STAT, 26 + n.val, 26 + n.val⟩ = false := by rw [← hd]; exact Dev.flag_setFlag rfl (show 26 + n.val < 32 by omega)
  have hclr : x.fld F.FLT_CLR_CODE = 0 := by
    rw [← hd, Dev.fld_setFlag_other (.inl (show F.FLT_CLR_CODE.addr ≠ R.FLT_STAT by decide)) (by decide),
      Dev.fld_setFlag_other (.inl (by simp only [F.UHFCn_STAT_FAULT, F.FLT_CLR_CODE]; omega)) (by decide)]
    exact Dev.fld_setFld (by decide)
  clear hd
  subst he
  refine ⟨?_, ?_, ?_, ?_, rfl⟩
  · rw [Dev.flag_setFlag_other (.inl (by simp only [F.UHFCn_STAT_FAULT, F.FLT_CLR_BUSY]; omega)) (Nat.le_of_ble_eq_true rfl)]
    refine ((x.uhfCleared_keeps (Nat.le_of_ble_eq_true rfl) (apartFromStat_fault n) ?_).flagEq).trans hfault
    simp only [apart, F.UHFCn_STAT_FAULT, F.FLT_STAT_NO_STANDBY]; omega
  · rw [Dev.flag_setFlag_other (.inl (show R.FLT_STAT ≠ R.FLT_CLR by decide)) (show 26 + n.val < 32 by omega)]
    refine ((x.uhfCleared_keeps (show 26 + n.val < 32 by omega) (apartFromStat_of_flt (show 0xF80 ≤ 0xF80 ∧ 0xF80 ≠ 0xF81 ∧ 0xF80 < 0xF83 by decide))
      ?_).flagEq).trans hbit
    simp only [apart, R.FLT_STAT, F.FLT_STAT_NO_STANDBY]; omega
  · rw [Dev.uhfc_setFlag, Dev.uhfc_withRecheck]
    exact x.uhfCleared_paFails hn
  · rw [Dev.fld_setFlag_other (by decide) (by decide)]
    exact (x.uhfCleared_keeps (by decide) (apartFromStat_of_flt (by decide)) (by decide)).trans hclr

/-- Settles O12. That the UHF bits of FLT_CLR are ignored while BUSY is 1 is the model's choice (log 143). -/
theorem faultsCleared : Obligations.FaultsCleared := by
  unfold Obligations.FaultsCleared
  refine ⟨fun s hs => ⟨fun n => ?_, fun n => ?_, fun nand clock seq other => ?_⟩,
    fun s => ⟨fun hs hf uhf hbusy => ?_, fun hs hf uhf hfree hne => ?_, fun hrun c code rest hhead h0 hchain => ?_,
      fun hrun n code rest hhead hcode => ?_, fun hrun n code rest hhead hcode => ?_⟩⟩
  · exact completes_onHost (·.hfpClear n) hs rfl (s.dev.hfpClear_spec n)
  · exact completes_onHost (·.uhfpClear n) hs rfl (s.dev.uhfpClear_spec n)
  · exact completes_onHost (·.fltStatClear nand clock seq other) hs rfl (s.dev.fltStatClear_spec nand clock seq other)
  · exact completes_onHost (·.recheckStart hf.toNat uhf.toNat) hs rfl (Dev.recheckStart_of_busy hbusy)
  · refine completes_onHost (·.recheckStart hf.toNat uhf.toNat) hs rfl ?_
    have hne' : hf.toNat ≠ 0 ∨ uhf.toNat ≠ 0 := hne.imp (fun h h0 => h (BitVec.eq_of_toNat_eq h0)) fun h h0 => h (BitVec.eq_of_toNat_eq h0)
    rw [Dev.recheckStart_of_free hfree hne']
    refine ⟨Dev.flag_setFlag rfl (by decide), (Dev.onlyRegs_refl _ _).flag (List.mem_singleton_self _), fun n => ?_, fun n => ?_,
      fun n code hmem => (Dev.mem_recheckList_hf.1 hmem).2, fun n code hmem => (Dev.mem_recheckList_uhf.1 hmem).2⟩
    · exact ⟨fun ⟨code, hmem⟩ => (Dev.mem_recheckList_hf.1 hmem).1, fun hbit => ⟨_, Dev.mem_recheckList_hf.2 ⟨hbit, rfl⟩⟩⟩
    · exact ⟨fun ⟨code, hmem⟩ => (Dev.mem_recheckList_uhf.1 hmem).1, fun hbit => ⟨_, Dev.mem_recheckList_uhf.2 ⟨hbit, rfl⟩⟩⟩
  · refine completes_onLive (fun d => (d.recheckEnd false).settle) hrun rfl ⟨_, rfl, ?_⟩
    rw [Dev.recheckEnd_of_fail hhead h0 hchain]
    refine ⟨?_, Dev.flag_setFlag rfl (by decide), ?_⟩
    · rw [Dev.fld_setFlag_other (by decide) (by decide)]
      exact Dev.fld_setFld (by decide)
    · exact (Dev.onlyRegs_setFld (Dev.onlyRegs_refl { s.dev with recheck := rest } _) (List.mem_singleton_self _)).flag (List.mem_singleton_self _)
  · exact completes_onLive (fun d => (d.recheckEnd true).settle) hrun rfl ⟨_, rfl, Dev.recheckEnd_hf_spec hhead hcode⟩
  · exact completes_onLive (fun d => (d.recheckEnd true).settle) hrun rfl ⟨_, rfl, Dev.recheckEnd_uhf_spec hhead hcode⟩

end Sys2Proof.Machine
end

section
/-!
PROOFS. The host port with no option in force: what a frame does before and after its own effect.
-/

namespace Sys2Proof.Machine

open Sys2Proof

-- one proof after another: the check bounds the memory that the stacks of parallel proofs take
set_option Elab.async false

/-! ### A port that nothing snoops -/

/-- No option of R436 is in force. -/
def Dev.noOpts (d : Dev) : Prop := byteAt d.host.opts 0 = 0

/-- No unit snoops the host streams (R451). -/
def Dev.unsnooped (d : Dev) : Prop :=
  ∀ u, u < 6 → d.flag (F.CVUn_CFG_ENABLE u) = true → d.fld (F.CVUn_CFG_SRC u) ≠ 1 ∧ d.fld (F.CVUn_CFG_SRC u) ≠ 2

theorem Dev.plainPort.noOpts {d : Dev} (h : d.plainPort) : d.noOpts := h.2.2.2.1

theorem Dev.plainPort.unsnooped {d : Dev} (h : d.plainPort) : d.unsnooped := h.2.2.2.2

theorem Dev.unsnooped_congr {d e : Dev} (h : ∀ u, u < 6 → e.reg (R.CVUn_CFG u) = d.reg (R.CVUn_CFG u)) (hd : d.unsnooped) : e.unsnooped := by
  intro u hu
  have hcfg : ∀ f : Fld, f.addr = R.CVUn_CFG u → e.fld f = d.fld f := fun f hf => Dev.fld_eq_of_reg (hf ▸ h u hu)
  rw [Dev.flag, hcfg _ rfl, hcfg _ rfl]
  exact hd u hu

theorem Dev.rxCrc_eq_false {d : Dev} (h : d.noOpts) : d.rxCrc = false := by simp only [Dev.rxCrc, show byteAt d.host.opts 0 = 0 from h]; rfl

theorem Dev.txCrc_eq_false {d : Dev} (h : d.noOpts) : d.txCrc = false := by simp only [Dev.txCrc, show byteAt d.host.opts 0 = 0 from h]; rfl

theorem Dev.aliveOn_eq_false {d : Dev} (h : d.noOpts) : d.aliveOn = false := by simp only [Dev.aliveOn, show byteAt d.host.opts 0 = 0 from h]; rfl

theorem Dev.crcBad_eq_false {d : Dev} (h : d.noOpts) (b : Bytes) (n : Nat) : d.crcBad b n = false := by simp [Dev.crcBad, d.rxCrc_eq_false h]

theorem Dev.aliveMoves_eq {d : Dev} (h : d.noOpts) (b : Bytes) (r : Bool) : d.aliveMoves b r = d := by
  simp [Dev.aliveMoves, d.aliveOn_eq_false h]

theorem Dev.showRx_eq {d : Dev} (h : d.noOpts) (b : Bytes) (n k : Nat) : d.showRx b n k = d := by
  have hnone : optRx d.host.opts = none := by simp only [optRx, show byteAt d.host.opts 0 = 0 from h]; rfl
  simp only [Dev.showRx, hnone]

theorem Dev.showTx_eq {d : Dev} (h : d.noOpts) (b : Bytes) : d.showTx b = d := by
  have hnone : optTx d.host.opts = none := by simp only [optTx, show byteAt d.host.opts 0 = 0 from h]; rfl
  simp only [Dev.showTx, hnone]

theorem Dev.cvuStream_eq {d : Dev} (h : d.unsnooped) {src : Nat} (hsrc : src = 1 ∨ src = 2) (bs : Bytes) : d.cvuStream src bs = d :=
  Dev.forEach_fixed fun u hu => by
    have hne : d.flag (F.CVUn_CFG_ENABLE u) = true → d.fld (F.CVUn_CFG_SRC u) ≠ src := fun hon => by
      obtain ⟨h1, h2⟩ := h u (List.mem_range.1 hu) hon
      obtain rfl | rfl := hsrc
      · exact h1
      · exact h2
    refine if_neg ?_
    simp only [Bool.and_eq_true, beq_iff_eq, not_and]
    exact fun ⟨hon, hs⟩ => absurd hs (hne hon)

theorem Dev.hostStreams_eq {d : Dev} (h : d.unsnooped) (b m : Bytes) : d.hostStreams b m = d := by
  rw [Dev.hostStreams, Dev.cvuStream_eq h (.inl rfl), Dev.cvuStream_eq h (.inr rfl)]

/-! ### The header of a frame -/

theorem frOp_mosiOf {op : Nat} {f : Frame} (h : op < 128) : frOp (mosiOf op f) = op := by
  have hm := b2n_lt_two f.m
  simp only [frOp, mosiOf, byteAt, List.getD_cons_zero, BitVec.toNat_ofNat]
  omega

theorem frAddr_lt (b : Bytes) : frAddr b < 65536 := by
  have h0 := byteAt_lt b 1
  have h1 := byteAt_lt b 2
  have h : frAddr b = byteAt b 1 * 256 + byteAt b 2 := by simp [frAddr, numAt, beNat, byteAt, List.range, List.range.loop]
  omega

theorem frLen_lt (b : Bytes) : frLen b < 256 := byteAt_lt b 3

/-! ### What a frame does on a plain port -/

theorem Dev.frame_of_running {d : Dev} {fu : Fuses} {b : Bytes} (hrun : d.phase = .running) (hop : frOp b ≠ Op.status) :
    d.frame fu b = d.otherFrame fu b := by
  simp [Dev.frame, hrun, hop]

/-- A STATUS frame on a plain port delivers its words and does nothing else. -/
theorem Dev.frame_status {d : Dev} {fu : Fuses} {b : Bytes} (h : d.plainPort) (hop : frOp b = Op.status) :
    d.frame fu b = d.setMiso (misoBytes b.length d.statusByte (beBytes 4 d.devStat.toNat ++ beBytes 4 d.hostStat.toNat)) := by
  obtain ⟨hrun, -, hstall, -, -⟩ := id h
  simp [Dev.frame, hrun, hop, Dev.statusFrame, hstall, Dev.hostStreams_eq h.unsnooped]

theorem Dev.frame_of_silent {d : Dev} {fu : Fuses} {b : Bytes} (h : d.phase = .down ∨ d.phase = .watch) : d.frame fu b = d.setMiso [] := by
  obtain h | h := h <;> simp [Dev.frame, h]

/-- The registers that a refusal writes. -/
abbrev refusalRegs : List Nat := [R.HOST_LAST_ERR, R.HOST_CNT, R.HOST_CHK_CNT, R.VLT_SESSION]

/-- A refusal before its counts: the code, the opcode and the address latched, and the answer. -/
def Dev.refusalShown (d : Dev) (b : Bytes) (code addr : Nat) (rdy : Bool) : Dev :=
  let e := ((d.setFld F.HOST_LAST_ERR_CODE code).setFld F.HOST_LAST_ERR_OPCODE (byteAt b 0)).setFld F.HOST_LAST_ERR_ADDR addr
  { e with host := { e.host with rdy := rdy, err := true, dup := false } }

/-- The counter of its own that a refusal's code adds to. -/
def Dev.codeCounted (d : Dev) (code : Nat) : Dev :=
  if code = Code.HOST_CRC then d.bump F.HOST_CHK_CNT_CRC 1
  else if code = Code.HOST_ALIVE then d.bump F.HOST_CHK_CNT_ALIVE 1
  else if code = Code.HOST_MAC then (d.bump F.HOST_CHK_CNT_MAC 1).bump F.VLT_SESSION_FAILS 1
  else if code = Code.HOST_ABORTED then d.bump F.HOST_CHK_CNT_ABORTED 1
  else d

theorem Dev.frameRefused_eq (d : Dev) (b : Bytes) (code addr : Nat) (rdy : Bool) :
    d.frameRefused b code addr rdy = ((d.refusalShown b code addr rdy).bump F.HOST_CNT_REFUSED 1).codeCounted code := rfl

theorem Dev.bump_frame (d : Dev) (f : Fld) (k : Nat) : d.onlyRegs (d.bump f k) [f.addr] := (Dev.onlyRegs_refl d _).fld (by simp)

theorem Dev.codeCounted_frame (d : Dev) (code : Nat) : d.onlyRegs (d.codeCounted code) [R.HOST_CHK_CNT, R.VLT_SESSION] := by
  have h := Dev.onlyRegs_refl d [R.HOST_CHK_CNT, R.VLT_SESSION]
  unfold Dev.codeCounted
  split
  · exact h.fld
  split
  · exact h.fld
  split
  · exact (h.fld).fld
  split
  · exact h.fld
  · exact h

/-- The registers and the port may differ, and of the registers only those of a list. -/
def Dev.PortOnly (d e : Dev) (l : List Nat) : Prop := e = { d with regs := e.regs, host := e.host } ∧ ∀ a, a ∉ l → e.reg a = d.reg a

namespace Dev.PortOnly

variable {d e x : Dev} {l : List Nat}

theorem of_onlyRegs (h : d.onlyRegs e l) : d.PortOnly e l := ⟨by rw [h.1], h.2⟩

theorem fields (h : d.PortOnly e l) : e = { d with regs := e.regs, host := e.host } := h.1

theorem reg (h : d.PortOnly e l) {a : Nat} (ha : a ∉ l) : e.reg a = d.reg a := h.2 a ha

theorem fld (h : d.PortOnly e l) {f : Fld} (ha : f.addr ∉ l) : e.fld f = d.fld f := Dev.fld_eq_of_reg (h.2 _ ha)

theorem trans (h : d.PortOnly e l) (g : e.PortOnly x l) : d.PortOnly x l :=
  ⟨by rw [g.1, h.1], fun a ha => (g.2 a ha).trans (h.2 a ha)⟩

theorem mono {l' : List Nat} (h : d.PortOnly e l) (hl : l ⊆ l') : d.PortOnly e l' := ⟨h.1, fun a ha => h.2 a fun hm => ha (hl hm)⟩

end Dev.PortOnly

theorem Dev.refusalShown_frame (d : Dev) (b : Bytes) (code addr : Nat) (rdy : Bool) :
    d.PortOnly (d.refusalShown b code addr rdy) [R.HOST_LAST_ERR] :=
  have h : d.onlyRegs _ [R.HOST_LAST_ERR] := (((Dev.onlyRegs_refl d _).fld (f := F.HOST_LAST_ERR_CODE) (v := code)).fld
    (f := F.HOST_LAST_ERR_OPCODE) (v := byteAt b 0)).fld (f := F.HOST_LAST_ERR_ADDR) (v := addr)
  ⟨rfl, fun a ha => h.2 a ha⟩

theorem Dev.frameRefused_frame (d : Dev) (b : Bytes) (code addr : Nat) (rdy : Bool) :
    d.PortOnly (d.frameRefused b code addr rdy) refusalRegs := by
  rw [Dev.frameRefused_eq]
  exact ((d.refusalShown_frame b code addr rdy).mono (by decide)).trans
    (((Dev.PortOnly.of_onlyRegs (Dev.bump_frame _ _ _)).mono (by decide)).trans
      ((Dev.PortOnly.of_onlyRegs (Dev.codeCounted_frame _ _)).mono (by decide)))

theorem Dev.frameRefused_host (d : Dev) (b : Bytes) (code addr : Nat) (rdy : Bool) :
    (d.frameRefused b code addr rdy).host = { d.host with rdy := rdy, err := true, dup := false } := by
  rw [Dev.frameRefused_eq]
  generalize hf : (d.refusalShown b code addr rdy).bump F.HOST_CNT_REFUSED 1 = f
  rw [(congrArg Dev.host (f.codeCounted_frame code).1 :), ← hf, (congrArg Dev.host (Dev.bump_frame _ _ _).1 :)]
  rfl

theorem Dev.refusalShown_fld (d : Dev) (b : Bytes) (code addr : Nat) (rdy : Bool) (g : Fld) : (d.refusalShown b code addr rdy).fld g =
    (((d.setFld F.HOST_LAST_ERR_CODE code).setFld F.HOST_LAST_ERR_OPCODE (byteAt b 0)).setFld F.HOST_LAST_ERR_ADDR addr).fld g := rfl

theorem Dev.fld_frameRefused_last (d : Dev) (b : Bytes) (code addr : Nat) (rdy : Bool) {g : Fld} (hg : g.addr = R.HOST_LAST_ERR) :
    (d.frameRefused b code addr rdy).fld g = (d.refusalShown b code addr rdy).fld g := by
  rw [Dev.frameRefused_eq, Dev.fld_eq_of_reg ((Dev.codeCounted_frame _ code).2 _ (by rw [hg]; decide)),
    Dev.fld_eq_of_reg ((Dev.bump_frame _ _ _).2 _ (by rw [hg]; decide))]

theorem Dev.fld_frameRefused_count (d : Dev) (b : Bytes) (code addr : Nat) (rdy : Bool) {g : Fld} (hg : g.addr = R.HOST_CNT) :
    (d.frameRefused b code addr rdy).fld g = ((d.refusalShown b code addr rdy).bump F.HOST_CNT_REFUSED 1).fld g := by
  rw [Dev.frameRefused_eq, Dev.fld_eq_of_reg ((Dev.codeCounted_frame _ code).2 _ (by rw [hg]; decide))]

/-- What a refusal latches and counts (R433, R435). -/
theorem Dev.frameRefused_refuses (d : Dev) (b : Bytes) {code addr : Nat} (rdy : Bool) (hcode : code < 256) (haddr : addr < 65536) :
    d.refuses (d.frameRefused b code addr rdy) b code addr rdy ∧
      (d.frameRefused b code addr rdy).fld F.HOST_CNT_FRAMES = d.fld F.HOST_CNT_FRAMES := by
  have hans := d.frameRefused_host b code addr rdy
  have hkeep : ∀ f : Fld, f.addr = R.HOST_CNT → (d.refusalShown b code addr rdy).fld f = d.fld f :=
    fun f hf => (d.refusalShown_frame b code addr rdy).fld (by rw [hf]; decide)
  refine ⟨⟨⟨by rw [hans], by rw [hans], by rw [hans]⟩, ?_, ?_, ?_, ?_⟩, ?_⟩
  · rw [Dev.fld_frameRefused_last _ _ _ _ _ rfl, Dev.refusalShown_fld]
    simp (disch := decide) only [Dev.fld_setFld_other, Dev.fld_setFld]
    exact Nat.mod_eq_of_lt hcode
  · rw [Dev.fld_frameRefused_last _ _ _ _ _ rfl, Dev.refusalShown_fld]
    simp (disch := decide) only [Dev.fld_setFld_other, Dev.fld_setFld]
    exact Nat.mod_eq_of_lt (byteAt_lt b 0)
  · rw [Dev.fld_frameRefused_last _ _ _ _ _ rfl, Dev.refusalShown_fld]
    simp (disch := decide) only [Dev.fld_setFld]
    exact Nat.mod_eq_of_lt haddr
  · rw [Dev.fld_frameRefused_count _ _ _ _ _ rfl, Dev.bump, Dev.fld_setFld (by decide), hkeep _ rfl]
    exact Nat.mod_eq_of_lt (Nat.lt_of_le_of_lt (Nat.min_le_left _ _) (by decide))
  · rw [Dev.fld_frameRefused_count _ _ _ _ _ rfl, Dev.bump, Dev.fld_setFld_other (by decide) (by decide), hkeep _ rfl]

/-! ### The shape of a frame that is not STATUS, on a plain port -/

theorem Dev.noOpts_congr {d e : Dev} (h : e.host.opts = d.host.opts) (hd : d.noOpts) : e.noOpts := by
  rw [Dev.noOpts, h]
  exact hd

theorem Dev.frameRefused_noOpts {d : Dev} (b : Bytes) (code addr : Nat) (rdy : Bool) (h : d.noOpts) : (d.frameRefused b code addr rdy).noOpts :=
  Dev.noOpts_congr (by rw [Dev.frameRefused_host]) h

theorem Dev.bump_noOpts {d : Dev} (f : Fld) (k : Nat) (h : d.noOpts) : (d.bump f k).noOpts := h

/-- The end of a frame on a port with no option: neither unit shows anything. -/
theorem Dev.shown_eq {d : Dev} (h : d.noOpts) (b : Bytes) (r : Bool) (n k : Nat) : (d.aliveMoves b r).showRx b n k = d := by
  rw [Dev.aliveMoves_eq h, Dev.showRx_eq h]

/-- A frame cut short is reported and has no effect; a JRNL_RD leaves no batch. -/
theorem Dev.otherFrame_short {d : Dev} {fu : Fuses} {b : Bytes} (h : d.plainPort) (hknown : (opWrites (frOp b) || opReads (frOp b)) = true)
    (hshort : b.length < 4 ∨ (opWrites (frOp b) = true ∧ b.length < d.writeEnd b)) :
    d.otherFrame fu b = ((if frOp b = Op.jrnlRd then d.dropBatch else d).frameRefused b Code.HOST_ABORTED (frAddr b) false).setMiso
      (misoBytes b.length d.statusByte []) := by
  have hshort' : (decide (b.length < 4) || (opWrites (frOp b) && decide (b.length < d.writeEnd b))) = true := by
    simpa using hshort
  unfold Dev.otherFrame
  simp only [hknown, hshort', Bool.and_true, if_true, Dev.hostStreams_eq h.unsnooped, Dev.aliveMoves_eq h.noOpts]
  refine congrArg (Dev.setMiso · _) (Dev.showRx_eq (Dev.frameRefused_noOpts _ _ _ _ (Dev.noOpts_congr ?_ h.noOpts)) _ _ _)
  split
  · rfl
  · rfl

/-- A frame with an opcode that R415 does not name is reported, and counted. -/
theorem Dev.otherFrame_unknown {d : Dev} {fu : Fuses} {b : Bytes} (h : d.plainPort) (hw : opWrites (frOp b) = false)
    (hr : opReads (frOp b) = false) :
    d.otherFrame fu b = ((d.frameRefused b Code.HOST_BAD_OPCODE (frAddr b) false).bump F.HOST_CNT_FRAMES 1).setMiso
      (misoBytes b.length d.statusByte []) := by
  have hn := Dev.frameRefused_noOpts b Code.HOST_BAD_OPCODE (frAddr b) false h.noOpts
  unfold Dev.otherFrame
  simp only [hw, hr, Bool.or_false, Bool.false_and, Bool.false_eq_true, if_false, Dev.hostStreams_eq h.unsnooped, Dev.aliveMoves_eq hn]
  exact congrArg (Dev.setMiso · _) (Dev.showRx_eq (Dev.bump_noOpts _ _ hn) _ _ _)

/-- A whole write frame is judged and carried out, and counted. -/
theorem Dev.otherFrame_write {d : Dev} {fu : Fuses} {b : Bytes} (h : d.plainPort) (hw : opWrites (frOp b) = true)
    (hlong : ¬(b.length < 4 ∨ b.length < d.writeEnd b)) (hn : (d.writeFrame b).noOpts) :
    d.otherFrame fu b = ((d.writeFrame b).bump F.HOST_CNT_FRAMES 1).setMiso (misoBytes b.length d.statusByte []) := by
  have hr : opReads (frOp b) = false := by
    have hop : ∀ op ∈ [Op.regWr, Op.cmd, Op.jrnlAck, Op.mboxWr], opReads op = false := by decide
    exact hop _ (List.contains_iff_mem.1 hw)
  have hlong' : (decide (b.length < 4) || decide (b.length < d.writeEnd b)) = false := by simpa using hlong
  unfold Dev.otherFrame
  simp only [hw, hr, Bool.or_false, Bool.true_and, hlong', Bool.false_eq_true, if_false, Dev.hostStreams_eq h.unsnooped, Dev.aliveMoves_eq hn,
    if_true]
  exact congrArg (Dev.setMiso · _) (Dev.showRx_eq (Dev.bump_noOpts _ _ hn) _ _ _)

/-- A read frame delivers its bytes and is counted where it was fetched whole. -/
theorem Dev.otherFrame_read {d : Dev} {fu : Fuses} {b : Bytes} {out : Bytes} {e : Dev} (hr : opReads (frOp b) = true)
    (hlong : 4 ≤ b.length) (hread : d.readFrame fu b = (out, e)) (hn : e.noOpts) (hu : e.unsnooped) :
    d.otherFrame fu b = (if 5 + out.length ≤ b.length then e.bump F.HOST_CNT_FRAMES 1 else e).setMiso
      (misoBytes b.length d.statusByte out) := by
  have hw : opWrites (frOp b) = false := by
    have hop : ∀ op ∈ [Op.regRd, Op.cmdResult, Op.evtRd, Op.jrnlRd, Op.mboxRd], opWrites op = false := by decide
    exact hop _ (List.contains_iff_mem.1 hr)
  unfold Dev.otherFrame
  simp only [hw, hr, Bool.or_true, Bool.true_and, Bool.false_and, Bool.or_false, Nat.not_lt.2 hlong, decide_false, Bool.false_eq_true, if_false,
    if_true, hread, ge_iff_le]
  generalize hx : (if 5 + out.length ≤ b.length then e.bump F.HOST_CNT_FRAMES 1 else e) = x
  have hxn : x.noOpts ∧ x.unsnooped := by
    subst hx
    split
    · refine ⟨Dev.noOpts_congr rfl hn, Dev.unsnooped_congr (fun u _ => (Dev.bump_frame _ _ _).2 _ ?_) hu⟩
      simp only [List.mem_singleton, R.CVUn_CFG, F.HOST_CNT_FRAMES]
      omega
    · exact ⟨hn, hu⟩
  rw [Dev.hostStreams_eq hxn.2, Dev.shown_eq hxn.1, Dev.showTx_eq hxn.1]

/-! ### The checks -/

theorem Dev.passes.head {d : Dev} {b : Bytes} (h : d.passes b) : d.headCode b = 0 := h.1

/-- The session counter after a frame's CMAC has verified (R442). -/
def Dev.sessionStep (d : Dev) (b : Bytes) : Dev := if frM b then d.setReg R.HOST_SESSION_CTR (d.reg R.HOST_SESSION_CTR + 1#32) else d

theorem Dev.sessionStep_frame (d : Dev) (b : Bytes) : d.onlyRegs (d.sessionStep b) [R.HOST_SESSION_CTR] := by
  have h := Dev.onlyRegs_refl d [R.HOST_SESSION_CTR]
  unfold Dev.sessionStep
  split
  · exact h.reg
  · exact h

/-- A write frame that passes the ten checks has its effect. -/
theorem Dev.writeFrame_of_passes {d : Dev} {b : Bytes} (hn : d.noOpts) (h : d.passes b) : d.writeFrame b = (d.sessionStep b).writeEffect b := by
  obtain ⟨hhead, hmac, hhandle, hdirect, hcmd⟩ := h
  have hs := d.sessionStep_frame b
  have hh : (d.sessionStep b).handleBad b = false := by rw [hs.1]; exact hhandle
  have hd : (d.sessionStep b).notDirect b = false := by rw [hs.1]; exact hdirect
  unfold Dev.writeFrame
  simp only [hhead, Dev.crcBad_eq_false hn, hmac, bne_self_eq_false, firstCode, Bool.false_eq_true, if_false]
  rw [Dev.sessionStep] at hh hd
  simp only [hh, hd, hcmd, Bool.false_eq_true, if_false, bne_self_eq_false, Dev.sessionStep]

theorem Dev.writeFrame_of_headCode {d : Dev} {b : Bytes} (h : d.headCode b ≠ 0) :
    d.writeFrame b = d.frameRefused b (d.headCode b) (frAddr b) false := by
  unfold Dev.writeFrame
  have hne : (d.headCode b != 0) = true := bne_iff_ne.2 h
  simp only [firstCode, hne, if_true]

theorem Dev.headCode_lt (d : Dev) (b : Bytes) : d.headCode b < 256 := by
  have hready : d.readyCode b < 256 := by
    unfold Dev.readyCode
    extract_lets op
    split
    · decide
    split
    · split
      · decide
      split
      · split
        · decide
        · decide
      · decide
    split
    · decide
    · decide
  unfold Dev.headCode
  simp only [firstCode]
  split
  · decide
  split
  · decide
  split
  · decide
  split
  · exact hready
  split
  · decide
  · decide

/-- A read frame that passes the checks and is fetched whole delivers what it reads. -/
theorem Dev.readFrame_of_passes {d : Dev} {fu : Fuses} {b out : Bytes} {e : Dev} (hn : d.noOpts) (h : d.passes b)
    (hread : d.readOut fu b = (out, e)) (hlen : 5 + out.length ≤ b.length) : d.readFrame fu b = (out, e.frameDone false) := by
  obtain ⟨hhead, -, hhandle, hdirect, -⟩ := h
  unfold Dev.readFrame
  simp [hhead, hhandle, hdirect, firstCode, hread, Dev.txCrc_eq_false hn, Dev.crcBad_eq_false hn, Nat.not_lt.2 hlen]

/-- A read frame that passes the checks and is cut short reads nothing. -/
theorem Dev.readFrame_of_short {d : Dev} {fu : Fuses} {b out : Bytes} {e : Dev} (hn : d.noOpts) (h : d.passes b)
    (hread : d.readOut fu b = (out, e)) (hlen : b.length < 5 + out.length) (hfree : e.freeCtr = d.freeCtr) :
    d.readFrame fu b = (out, (if frOp b = Op.jrnlRd then d.dropBatch else d).frameRefused b Code.HOST_ABORTED (frAddr b) false) := by
  obtain ⟨hhead, -, hhandle, hdirect, -⟩ := h
  unfold Dev.readFrame
  have hself : ({ d with freeCtr := e.freeCtr } : Dev) = d := by rw [hfree]
  simp [hhead, hhandle, hdirect, firstCode, hread, Dev.txCrc_eq_false hn, hlen, hself, show Code.HOST_ABORTED ≠ 0 by decide]

end Sys2Proof.Machine
end

section
/-!
PROOFS. The host port's frames on a plain port.
-/

namespace Sys2Proof.Machine

open Sys2Proof

-- one proof after another: the check bounds the memory that the stacks of parallel proofs take
set_option Elab.async false

/-- A frame on a plain port that is not STATUS, from its effect on the device. -/
theorem completes_frame {c : Instr} {s : State} {op : Nat} {f : Frame} {p : Dev → Prop} {e : Dev} (hc : exec c s = s.frame op f)
    (hrun : s.dev.plainPort) (hop : op < 128 ∧ op ≠ Op.status) (he : s.dev.otherFrame s.fuses (mosiOf op f) = e) (hp : p e) : completes c s p := by
  have h : s.dev.frame s.fuses (mosiOf op f) = e := by
    rw [Dev.frame_of_running hrun.1 (by rw [frOp_mosiOf hop.1]; exact hop.2), he]
  refine ⟨e, ?_, hp⟩
  rw [hc, State.frame, ← h]
  rfl

/-- What is left of a refused frame: the answer, and the registers of the report. -/
theorem Dev.refused_report {d : Dev} {b : Bytes} {code addr : Nat} (hcode : code < 256) (haddr : addr < 65536) (m : Bytes) {x : Dev}
    (hx : x = (d.frameRefused b code addr false).setMiso m ∨ x = ((d.frameRefused b code addr false).bump F.HOST_CNT_FRAMES 1).setMiso m) :
    d.refuses x b code addr false ∧ x = { d with regs := x.regs, host := x.host } ∧
      x.host = { d.host with rdy := false, err := true, dup := false, miso := x.host.miso } := by
  obtain ⟨hans, hlast, hop, haddr', hcnt⟩ := (d.frameRefused_refuses b false hcode haddr).1
  have hhost := d.frameRefused_host b code addr false
  have hframe := (d.frameRefused_frame b code addr false).fields
  generalize d.frameRefused b code addr false = y at *
  obtain rfl | rfl := hx
  · exact ⟨⟨hans, hlast, hop, haddr', hcnt⟩, by rw [hframe]; rfl, by rw [Dev.setMiso, hhost]⟩
  · have hy := (Dev.bump_frame y F.HOST_CNT_FRAMES 1).1
    refine ⟨⟨hans, ?_, ?_, ?_, ?_⟩, ?_, ?_⟩
    · exact (Dev.fld_setFld_other (by decide) (by decide)).trans hlast
    · exact (Dev.fld_setFld_other (by decide) (by decide)).trans hop
    · exact (Dev.fld_setFld_other (by decide) (by decide)).trans haddr'
    · exact (Dev.fld_setFld_other (by decide) (by decide)).trans hcnt
    · rw [hframe]; rfl
    · rw [hframe, Dev.setMiso, hhost]; rfl

/-- Settles O16. -/
theorem portRefusals : Obligations.PortRefusals := by
  unfold Obligations.PortRefusals
  refine ⟨fun s f => ⟨fun hs => ⟨_, ?_, rfl⟩, fun hdown c hc => ⟨_, ?_, rfl⟩⟩, fun s f hs => ⟨fun op => ?_, fun c op hc => ?_⟩⟩
  · have hop : frOp (mosiOf Op.status f) = Op.status := frOp_mosiOf (by decide)
    have hx := Dev.frame_status (fu := s.fuses) hs hop
    exact congrArg (fun d => Host.Outcome.next (s.withDev d)) hx
  · have hframe : ∀ op, exec c s = s.frame op f → exec c s = .next (s.withDev (s.dev.setMiso [])) := fun op hc => by
      rw [hc, State.frame, ← Dev.frame_of_silent (fu := s.fuses) (b := mosiOf op f) hdown]
      rfl
    simp only [List.mem_cons, List.not_mem_nil, or_false] at hc
    obtain rfl | rfl | rfl | rfl | rfl | rfl | rfl | rfl | rfl | rfl := hc
    all_goals exact hframe _ rfl
  · intro b hw hr hst
    have hop : frOp b = op.toNat := frOp_mosiOf op.isLt
    have hexec : exec (.hostFrameUnknownOpcode op f) s = s.frame op.toNat f := if_neg (by simp [hw, hr, hst])
    refine completes_frame hexec hs ⟨op.isLt, hst⟩ (Dev.otherFrame_unknown hs (by rw [hop]; exact hw) (by rw [hop]; exact hr)) ?_
    exact Dev.refused_report (by decide) (frAddr_lt b) _ (.inr rfl)
  · intro b short hbad
    have hop : exec c s = s.frame op f ∧ op < 128 ∧ op ≠ Op.status ∧ opWrites op = true ∧ op ≠ Op.jrnlRd := by
      simp only [List.mem_cons, List.not_mem_nil, or_false, Prod.mk.injEq] at hc
      obtain ⟨rfl, rfl⟩ | ⟨rfl, rfl⟩ | ⟨rfl, rfl⟩ | ⟨rfl, rfl⟩ := hc
      all_goals exact ⟨rfl, by decide, by decide, by decide, by decide⟩
    obtain ⟨hexec, hlt, hst, hw, hj⟩ := hop
    have hfr : frOp b = op := frOp_mosiOf hlt
    rw [← hfr] at hw hj
    by_cases hshort : short
    · refine completes_frame hexec hs ⟨hlt, hst⟩ (Dev.otherFrame_short hs (by rw [hw]; rfl) (hshort.imp_right fun h => ⟨hw, h⟩)) ?_
      rw [if_neg hj]
      obtain ⟨hr, hframe, hhost⟩ := Dev.refused_report (d := s.dev) (b := b) (code := Code.HOST_ABORTED) (by decide) (frAddr_lt b) _ (.inl rfl)
      exact ⟨⟨_, fun _ => rfl, fun h => absurd hshort h, hr⟩, hframe, hhost⟩
    · have hhead := hbad.resolve_left hshort
      have hwf := Dev.writeFrame_of_headCode hhead
      refine completes_frame hexec hs ⟨hlt, hst⟩ (Dev.otherFrame_write hs hw hshort (by rw [hwf]; exact Dev.frameRefused_noOpts _ _ _ _ hs.noOpts)) ?_
      rw [hwf]
      obtain ⟨hr, hframe, hhost⟩ := Dev.refused_report (d := s.dev) (b := b) (s.dev.headCode_lt b) (frAddr_lt b) _ (.inr rfl)
      exact ⟨⟨_, fun h => absurd h hshort, fun _ => rfl, hr⟩, hframe, hhost⟩

/-! ### Read frames -/

/-- A register write outside the check-value units leaves the port unsnooped. -/
theorem Dev.unsnooped_of_frame {d e : Dev} {l : List Nat} (h : ∀ a, a ∉ l → e.reg a = d.reg a) (hl : ∀ a ∈ l, a < 0xC00) (hd : d.unsnooped) :
    e.unsnooped := by
  refine Dev.unsnooped_congr (fun u _ => h _ fun hm => ?_) hd
  have := hl _ hm
  simp only [R.CVUn_CFG] at this
  omega

/-- A read frame that passes, fetched whole: what it delivers, and what its select release leaves. -/
theorem completes_read {c : Instr} {s : State} {op : Nat} {f : Frame} {p : Dev → Prop} {out : Bytes} {e : Dev} (hc : exec c s = s.frame op f)
    (hs : s.dev.plainPort) (hop : op < 128 ∧ opReads op = true) (hpass : s.dev.passes (mosiOf op f))
    (hread : s.dev.readOut s.fuses (mosiOf op f) = (out, e)) (hlen : 5 + out.length ≤ (mosiOf op f).length)
    (hopts : e.host.opts = s.dev.host.opts) (hcvu : e.unsnooped)
    (hp : p (((e.frameDone false).bump F.HOST_CNT_FRAMES 1).setMiso (misoBytes (mosiOf op f).length s.dev.statusByte out))) : completes c s p := by
  have hr : opReads (frOp (mosiOf op f)) = true := by rw [frOp_mosiOf hop.1]; exact hop.2
  have hst : op ≠ Op.status := fun h => by rw [h] at hop; exact absurd hop.2 (by decide)
  have hframe := Dev.otherFrame_read hr (by omega) (Dev.readFrame_of_passes hs.noOpts hpass hread hlen)
    (Dev.noOpts_congr (e := e.frameDone false) hopts hs.noOpts) hcvu
  rw [if_pos hlen] at hframe
  exact completes_frame hc hs ⟨hop.1, hst⟩ hframe hp

/-- A read frame that passes, cut short: it is reported as aborted, and reads nothing. -/
theorem completes_read_short {c : Instr} {s : State} {op : Nat} {f : Frame} {p : Dev → Prop} {out : Bytes} {e d : Dev} (hc : exec c s = s.frame op f)
    (hs : s.dev.plainPort) (hop : op < 128 ∧ opReads op = true) (hpass : s.dev.passes (mosiOf op f)) (hlen4 : 4 ≤ (mosiOf op f).length)
    (hread : s.dev.readOut s.fuses (mosiOf op f) = (out, e)) (hlen : (mosiOf op f).length < 5 + out.length)
    (hfree : e.freeCtr = s.dev.freeCtr) (hd : d = if op = Op.jrnlRd then s.dev.dropBatch else s.dev)
    (hp : p ((d.frameRefused (mosiOf op f) Code.HOST_ABORTED (frAddr (mosiOf op f)) false).setMiso
      (misoBytes (mosiOf op f).length s.dev.statusByte out))) : completes c s p := by
  have hfr : frOp (mosiOf op f) = op := frOp_mosiOf hop.1
  have hst : op ≠ Op.status := fun h => by rw [h] at hop; exact absurd hop.2 (by decide)
  have hread' := Dev.readFrame_of_short hs.noOpts hpass hread hlen hfree
  rw [hfr, ← hd] at hread'
  have hdo : d.noOpts ∧ d.unsnooped := by
    subst hd
    split
    · exact ⟨hs.noOpts, Dev.unsnooped_of_frame (l := [R.JRN_STAT]) (((Dev.onlyRegs_refl _ _).flag (f := F.JRN_STAT_BATCH) (v := false)).2) (by decide) hs.unsnooped⟩
    · exact ⟨hs.noOpts, hs.unsnooped⟩
  have hframe := Dev.otherFrame_read (by rw [hfr]; exact hop.2) hlen4 hread' (Dev.frameRefused_noOpts _ _ _ _ hdo.1)
    (Dev.unsnooped_of_frame (d.frameRefused_frame _ _ _ _).2 (by decide) hdo.2)
  rw [if_neg (Nat.not_le.2 hlen)] at hframe
  exact completes_frame hc hs ⟨hop.1, hst⟩ hframe hp

theorem le_ite_of_lt {a k x y : Nat} (hx : a < k → a ≤ x) (hy : k ≤ a → a ≤ y) : a ≤ if a < k then x else y := by
  split
  next h => exact hx h
  next h => exact hy (Nat.le_of_not_lt h)

theorem le_blockEnd {a : Nat} (h : a < 0x1000) : a ≤ blockEnd a := by
  unfold blockEnd
  repeat refine le_ite_of_lt (fun _ => by omega) fun _ => ?_
  omega

/-- A register read alone that no pair and no capture makes special. -/
theorem Dev.readOut_word {d : Dev} {fu : Fuses} {b : Bytes} (hop : frOp b = Op.regRd) (hlen : frLen b = 1) (ha : frAddr b < 0x1000)
    (hpair : pairPartner (frAddr b) = none) (harmed : ∀ x ∈ d.host.pairs, x.1 ≠ frAddr b)
    (hcap : ¬(0xD00 ≤ frAddr b ∧ frAddr b ≤ 0xDFF ∧ (frAddr b % 0x20 = 0xB ∨ frAddr b % 0x20 = 0xC))) :
    d.readOut fu b = (beBytes 4 (d.readWord fu (Config.freeWord d.freeCtr) (frAddr b)).toNat,
      { d with freeCtr := d.freeCtr + 1 }.clearRead (frAddr b) (d.readWord fu (Config.freeWord d.freeCtr) (frAddr b))) := by
  have hle := le_blockEnd ha
  have hfind : d.host.pairs.find? (·.1 == frAddr b) = none := by
    rw [List.find?_eq_none]
    exact fun x hx hxa => harmed x hx (beq_iff_eq.1 hxa)
  have hone : d.readOne fu (frAddr b) = (d.readWord fu (Config.freeWord d.freeCtr) (frAddr b), { d with freeCtr := d.freeCtr + 1 }) := by
    simp only [Dev.readOne, hfind, hpair]
    rw [if_neg]
    simpa only [Bool.and_eq_true, decide_eq_true_eq, Bool.or_eq_true, beq_iff_eq, and_assoc] using hcap
  unfold Dev.readOut
  simp only [hop, if_true, hlen, Dev.readBurst, hle, hone, Nat.add_sub_cancel, Nat.not_lt.2 hle, if_false, List.flatMap_cons,
    List.flatMap_nil, List.append_nil, Dev.clearBurst]

theorem Dev.readOut_cmdResult {d : Dev} {fu : Fuses} {b : Bytes} (hop : frOp b = Op.cmdResult) : d.readOut fu b =
    (entryBytes (d.history (frAddr b)).lastId (frLen b) ((d.history (frAddr b)).select (frLen b)), d) := by
  unfold Dev.readOut
  rw [hop]
  rfl

theorem Dev.readOut_evtRd {d : Dev} {fu : Fuses} {b : Bytes} (hop : frOp b = Op.evtRd) : d.readOut fu b =
    (beBytes 1 (d.host.ring.take (frLen b)).length ++ [0#8] ++ beBytes 2 d.host.dropped ++ (d.host.ring.take (frLen b)).flatMap (·.bytes),
      { d with host := { d.host with ring := d.host.ring.drop (frLen b), dropped := 0 } }) := by
  unfold Dev.readOut
  rw [hop]
  rfl

/-- The RC fields of the word read are cleared, and no other register changes. -/
theorem Dev.clearRead_spec (d : Dev) (a : Nat) (w : Word) : (d.clearRead a w).reg a = d.reg a &&& ~~~(accessOf a).rc ∧
    (∀ k, k ≠ a → (d.clearRead a w).reg k = d.reg k) ∧ (d.clearRead a w).host.opts = d.host.opts := by
  unfold Dev.clearRead
  extract_lets rc slot hi lo handle e
  have hrc : rc = (accessOf a).rc := rfl
  clear_value rc
  split
  next h =>
    refine ⟨?_, fun _ _ => rfl, rfl⟩
    rw [← hrc, h, BitVec.not_zero, BitVec.and_allOnes]
  have he : e.regs = d.regs ∧ e.host.opts = d.host.opts := by
    simp only [e]
    split
    · rw [Dev.onChan_frame]; exact ⟨rfl, rfl⟩
    split
    · rw [Dev.onChan_frame]; exact ⟨rfl, rfl⟩
    split
    · unfold Dev.onHistory
      split
      · exact ⟨rfl, rfl⟩
      split
      · rw [Dev.onChan_frame]; exact ⟨rfl, rfl⟩
      · exact ⟨rfl, rfl⟩
    · exact ⟨rfl, rfl⟩
  clear_value e
  have hreg : ∀ k, e.reg k = d.reg k := fun k => by rw [Dev.reg, he.1]; rfl
  refine ⟨?_, fun k hk => ?_, he.2⟩
  · rw [Dev.reg_setReg, hreg, hrc]
  · rw [Dev.reg_setReg_other hk, hreg]

theorem accessOf_cvuCfg (u : Nat) (h : u < 6) : (accessOf (R.CVUn_CFG u)).rc = 0#32 := by
  revert u
  decide +kernel

/-- A frame that passes addresses a register that there is. -/
theorem Dev.passes.addr_lt {d : Dev} {b : Bytes} (h : d.passes b) (hop : frOp b = Op.regRd ∨ frOp b = Op.regWr) : frAddr b < 0x1000 := by
  by_contra hge
  have hbad : badAddr b = true := by
    have hop' : (decide (frOp b = Op.regRd) || decide (frOp b = Op.regWr)) = true := by simpa using hop
    exact (if_pos hop').trans (decide_eq_true (Nat.le_of_not_lt hge))
  have hhead := h.head
  unfold Dev.headCode at hhead
  simp only [firstCode, hbad, if_true] at hhead
  split at hhead
  · exact absurd hhead (by decide)
  split at hhead
  · exact absurd hhead (by decide)
  · exact absurd hhead (by decide)

theorem length_fit (n : Nat) (bs : Bytes) : (fit n bs).length = n := by
  simp only [fit, zeros, List.length_take, List.length_append, List.length_replicate]
  omega

theorem Event.length_bytes (e : Event) : e.bytes.length = 16 := by simp [Event.bytes, length_fit]

theorem length_flatMap_bytes (es : List Event) : (es.flatMap (·.bytes)).length = 16 * es.length := by
  simp [List.length_flatMap, Event.length_bytes, Nat.mul_comm]

/-- Settles O17. -/
theorem readFrames : Obligations.ReadFrames := by
  unfold Obligations.ReadFrames
  refine fun s f hs => ⟨?_, ?_, ?_⟩
  · intro b a w hpass hlen hfetched hpair harmed hcnt hcap
    have haddr : a < 0x1000 := hpass.addr_lt (.inl (frOp_mosiOf (by decide)))
    have hclear := Dev.clearRead_spec { s.dev with freeCtr := s.dev.freeCtr + 1 } a w
    have hread := Dev.readOut_word (d := s.dev) (fu := s.fuses) (b := b) (frOp_mosiOf (by decide)) hlen haddr hpair harmed hcap
    change s.dev.readOut s.fuses b = (beBytes 4 w.toNat, Dev.clearRead { s.dev with freeCtr := s.dev.freeCtr + 1 } a w) at hread
    generalize Dev.clearRead { s.dev with freeCtr := s.dev.freeCtr + 1 } a w = e at hclear hread
    obtain ⟨hreg, hother, hopts⟩ := hclear
    have hcvu : e.unsnooped := by
      refine Dev.unsnooped_congr (fun u hu => ?_) hs.unsnooped
      by_cases hua : R.CVUn_CFG u = a
      · rw [hua, hreg, ← hua, accessOf_cvuCfg u hu, BitVec.not_zero, BitVec.and_allOnes]
        rfl
      · exact hother _ hua
    refine completes_read rfl hs ⟨by decide, by decide⟩ hpass hread ?_ hopts hcvu ⟨rfl, ⟨rfl, rfl, rfl⟩, ?_, fun k hka hk => ?_, ?_⟩
    · simpa using hfetched
    · exact (((Dev.onlyRegs_refl _ _).fld (l := [R.HOST_CNT])).2 a (by simpa using hcnt)).trans hreg
    · exact (((Dev.onlyRegs_refl _ _).fld (l := [R.HOST_CNT])).2 k (by simpa using hk)).trans (hother k hka)
    · have hf : e.fld F.HOST_CNT_FRAMES = s.dev.fld F.HOST_CNT_FRAMES := Dev.fld_eq_of_reg (hother _ (Ne.symm hcnt))
      exact (Dev.fld_bump (d := e.frameDone false) (by decide)).trans (congrArg (satAdd 0xFFFF · 1) hf)
  · intro b h out hpass hlen
    have hread : s.dev.readOut s.fuses b = (out, s.dev) := Dev.readOut_cmdResult (frOp_mosiOf (by decide))
    exact completes_read rfl hs ⟨by decide, by decide⟩ hpass hread hlen rfl hs.unsnooped ⟨rfl, ⟨rfl, rfl, rfl⟩, rfl, rfl⟩
  · intro b es out hpass hlen4
    have hread : s.dev.readOut s.fuses b = (out, _) := Dev.readOut_evtRd (frOp_mosiOf (by decide))
    have hout : out.length = 4 + 16 * es.length := by
      simp only [out, List.length_append, length_beBytes, length_flatMap_bytes, List.length_singleton]
    refine ⟨fun hlong => ?_, fun hshort => ?_⟩
    · exact completes_read rfl hs ⟨by decide, by decide⟩ hpass hread (show _ ≤ b.length by omega) rfl hs.unsnooped ⟨rfl, ⟨rfl, rfl, rfl⟩, rfl, rfl⟩
    · refine completes_read_short rfl hs ⟨by decide, by decide⟩ hpass hlen4 hread (show b.length < _ by omega) rfl rfl ?_
      obtain ⟨hr, -, hhost⟩ := Dev.refused_report (d := s.dev) (b := b) (code := Code.HOST_ABORTED) (by decide) (frAddr_lt b) _ (.inl rfl)
      exact ⟨(congrArg HostPort.ring hhost :), (congrArg HostPort.dropped hhost :), hr⟩

end Sys2Proof.Machine
end

section
/-!
PROOFS. JRNL_RD and JRNL_ACK, CMD, MBOX_WR and MBOX_RD on a plain port.
-/

namespace Sys2Proof.Machine

open Sys2Proof

-- one proof after another: the check bounds the memory that the stacks of parallel proofs take
set_option Elab.async false

/-! ### Write frames -/

/-- A whole write frame that passes: its effect on the device, counted. -/
theorem completes_write {c : Instr} {s : State} {op : Nat} {f : Frame} {p : Dev → Prop} {e : Dev} (hc : exec c s = s.frame op f)
    (hs : s.dev.plainPort) (hop : op < 128 ∧ opWrites op = true) (hpass : s.dev.passes (mosiOf op f))
    (hlen : s.dev.writeEnd (mosiOf op f) ≤ (mosiOf op f).length)
    (heff : (s.dev.sessionStep (mosiOf op f)).writeEffect (mosiOf op f) = e) (hopts : e.host.opts = s.dev.host.opts)
    (hp : p ((e.bump F.HOST_CNT_FRAMES 1).setMiso (misoBytes (mosiOf op f).length s.dev.statusByte []))) : completes c s p := by
  have hst : op ≠ Op.status := fun h => by rw [h] at hop; exact absurd hop.2 (by decide)
  have hwrite : s.dev.writeFrame (mosiOf op f) = e := (Dev.writeFrame_of_passes hs.noOpts hpass).trans heff
  have hbase : 5 ≤ writeBase (mosiOf op f) := by
    unfold writeBase
    extract_lets o
    repeat' split
    all_goals omega
  have hend : writeBase (mosiOf op f) ≤ s.dev.writeEnd (mosiOf op f) := by
    unfold Dev.writeEnd
    omega
  refine completes_frame hc hs ⟨hop.1, hst⟩ (Dev.otherFrame_write hs ?_ ?_ ?_) ?_
  · rw [frOp_mosiOf hop.1]; exact hop.2
  · omega
  · rw [hwrite]; exact Dev.noOpts_congr hopts hs.noOpts
  · rw [hwrite]; exact hp

theorem Dev.writeEffect_jrnlAck {d : Dev} {b : Bytes} (hop : frOp b = Op.jrnlAck) : d.writeEffect b =
    (match d.ack (frLen b) (numAt b 5 4) with
      | some e => e.frameDone false
      | none => d.frameRefused b Code.JRNL_ACK_RANGE (frAddr b) false) := by
  unfold Dev.writeEffect
  rw [hop]
  rfl

theorem Dev.writeEffect_cmd {d : Dev} {b : Bytes} (hop : frOp b = Op.cmd) : d.writeEffect b =
    Dev.frameJudged b (d.request (frAddr b) (numAt b 7 2) (byteAt b 5) (slice b 9 (frLen b)) (frM b)) := by
  unfold Dev.writeEffect
  rw [hop]
  rfl

theorem Dev.writeEffect_mboxWr {d : Dev} {b : Bytes} (hop : frOp b = Op.mboxWr) : d.writeEffect b =
    Dev.frameJudged b (d.mailboxWrite (frAddr b % 256) (slice b 5 (frLen b)) (frM b)) := by
  unfold Dev.writeEffect
  rw [hop]
  rfl

theorem Dev.readOut_jrnlRd {d : Dev} {fu : Fuses} {b : Bytes} (hop : frOp b = Op.jrnlRd) : ∃ e : Dev,
    d.readOut fu b = (beBytes 1 (d.jrn.staged.take (frLen b)).length ++ zeros 3 ++ (d.jrn.staged.take (frLen b)).flatMap (·.2), e) ∧
      e.jrn.batch.map (·.1) = (d.jrn.staged.take (frLen b)).map (·.1) ∧ e.jrn.staged = d.jrn.staged ∧
      e = { d with regs := e.regs, jrn := e.jrn } ∧ ∀ a, a ∉ [R.JRN_STAT] → e.reg a = d.reg a := by
  unfold Dev.readOut
  rw [hop]
  refine ⟨_, rfl, ?_, rfl, rfl, ((Dev.onlyRegs_refl _ _).flag).2⟩
  simp [Dev.onJrn, Function.comp_def, -List.map_take]

theorem Dev.readOut_mboxRd {d : Dev} {fu : Fuses} {b : Bytes} (hop : frOp b = Op.mboxRd) : d.readOut fu b =
    (let rs := wholeResults 4096 (frLen b) (((d.chan? (frAddr b % 256)).map (·.results)).getD [])
     (beBytes 1 rs.length ++ [0#8] ++ beBytes 2 (rs.map (·.length)).sum ++ rs.flatten,
      d.onChan (frAddr b % 256) fun c => { c with results := c.results.drop rs.length })) := by
  unfold Dev.readOut
  rw [hop]
  rfl

/-! ### The journal's batch -/

theorem Dev.ack_eq_none {d : Dev} {count last : Nat} (h : ¬(1 ≤ count ∧ count ≤ d.jrn.batch.length ∧
    (d.jrn.batch.getD (count - 1) (0, 0)).2 = last)) : d.ack count last = none := by
  unfold Dev.ack
  rw [if_neg]
  simp only [Bool.and_eq_true, decide_eq_true_eq, beq_iff_eq, ge_iff_le]
  exact fun ⟨⟨⟨h1, h2⟩, h3⟩, _⟩ => h ⟨h1, h2, h3⟩

/-- An acknowledgement of the batch's first records moves the cursor to what follows them. -/
theorem Dev.ack_spec {d : Dev} {count last : Nat} (h : 1 ≤ count ∧ count ≤ d.jrn.batch.length ∧
    (d.jrn.batch.getD (count - 1) (0, 0)).2 = last) : ∃ e, d.ack count last = some e ∧ e.jrn.batch = [] ∧ e.host = d.host ∧
      (∀ r, (d.fromCursor.filter fun r => !((d.jrn.batch.take count).map (·.1)).contains r.1).head? = some r →
        e.csw 4 = r.1 % 2 ^ 32 ∧ e.csw 5 = r.2.1 % 2 ^ 32) ∧
      ((d.fromCursor.filter fun r => !((d.jrn.batch.take count).map (·.1)).contains r.1) = [] → e.csw 5 = 0) := by
  obtain ⟨h1, h2, h3⟩ := h
  have hne : d.jrn.batch.isEmpty = false := by
    rw [List.isEmpty_eq_false_iff]
    intro h0
    rw [h0] at h2
    exact absurd (Nat.le_trans h1 h2) (by decide)
  have hcond : (decide (count ≥ 1) && decide (count ≤ d.jrn.batch.length) && (d.jrn.batch.getD (count - 1) (0, 0)).2 == last &&
      !d.jrn.batch.isEmpty) = true := by
    rw [hne, decide_eq_true h1, decide_eq_true h2, beq_iff_eq.2 h3]
    rfl
  unfold Dev.ack
  rw [if_pos hcond]
  extract_lets done rest e
  have hword : ∀ k, k ≠ 7 → ∀ x : Dev, x.stateWord.csw k = x.csw k := fun k hk x => Dev.csw_setCs_other (d := x) hk
  have hset : ∀ l x, (Dev.setCursor x l).host = x.host := fun l x => by cases l <;> rfl
  refine ⟨_, rfl, rfl, hset rest d, fun r hr => ⟨?_, ?_⟩, fun hr => ?_⟩
  · obtain ⟨t, ht⟩ := List.head?_eq_some_iff.1 hr
    rw [hword 4 (by decide)]
    change (d.setCursor rest).csw 4 = _
    rw [show rest = r :: t from ht, Dev.setCursor, Dev.csw_setCs_other (by decide), Dev.csw_setCs]
  · obtain ⟨t, ht⟩ := List.head?_eq_some_iff.1 hr
    rw [hword 5 (by decide)]
    change (d.setCursor rest).csw 5 = _
    rw [show rest = r :: t from ht, Dev.setCursor, Dev.csw_setCs]
  · rw [hword 5 (by decide)]
    change (d.setCursor rest).csw 5 = _
    rw [show rest = [] from hr, Dev.setCursor, Dev.csw_setCs, Nat.zero_mod]

/-- A refusal counted from another state of the same count. -/
theorem Dev.refuses.of_count {d e x : Dev} {b : Bytes} {code addr : Nat} {rdy : Bool} (h : e.refuses x b code addr rdy)
    (hcnt : e.fld F.HOST_CNT_REFUSED = d.fld F.HOST_CNT_REFUSED) : d.refuses x b code addr rdy := by
  obtain ⟨h1, h2, h3, h4, h5⟩ := h
  exact ⟨h1, h2, h3, h4, by rw [h5, hcnt]⟩

/-- Settles O18. -/
theorem journalFrames : Obligations.JournalFrames := by
  unfold Obligations.JournalFrames
  refine fun s f hs => ⟨?_, ?_⟩
  · intro b rs out hpass hlen4
    obtain ⟨e, hread, hbatch, hstaged, hfields, hregs⟩ := Dev.readOut_jrnlRd (d := s.dev) (fu := s.fuses) (b := b) (frOp_mosiOf (by decide))
    change s.dev.readOut s.fuses b = (out, e) at hread
    refine ⟨fun hlong => ?_, fun hshort => ?_⟩
    · refine completes_read rfl hs ⟨by decide, by decide⟩ hpass hread hlong (by rw [hfields]) (Dev.unsnooped_of_frame hregs (by decide) hs.unsnooped)
        ⟨rfl, ⟨rfl, rfl, rfl⟩, hbatch, hstaged, ?_⟩
      exact (congrArg Dev.cs hfields :)
    · refine completes_read_short rfl hs ⟨by decide, by decide⟩ hpass hlen4 hread hshort (congrArg Dev.freeCtr hfields :) rfl ?_
      rw [if_pos rfl]
      obtain ⟨hr, hframe, -⟩ := Dev.refused_report (d := s.dev.dropBatch) (b := b) (code := Code.HOST_ABORTED) (by decide) (frAddr_lt b) _ (.inl rfl)
      exact ⟨by rw [hframe]; rfl, by rw [hframe]; rfl, hr.of_count (Dev.fld_setFlag_other (by decide) (by decide))⟩
  · intro b count good rest hpass hlen
    have hs' := s.dev.sessionStep_frame b
    have heff := Dev.writeEffect_jrnlAck (d := s.dev.sessionStep b) (b := b) (frOp_mosiOf (by decide))
    have hcnt : (s.dev.sessionStep b).fld F.HOST_CNT_REFUSED = s.dev.fld F.HOST_CNT_REFUSED := Dev.fld_eq_of_reg (hs'.2 _ (by decide))
    have hack : (s.dev.sessionStep b).jrn = s.dev.jrn ∧ (s.dev.sessionStep b).cs = s.dev.cs ∧ (s.dev.sessionStep b).host = s.dev.host ∧
        (s.dev.sessionStep b).fromCursor = s.dev.fromCursor := by rw [hs'.1]; exact ⟨rfl, rfl, rfl, rfl⟩
    generalize hd : s.dev.sessionStep b = d at heff hcnt hack
    obtain ⟨hjrn, hcs, hhost, hfrom⟩ := hack
    refine ⟨fun hgood => ?_, fun hbad => ?_⟩
    · obtain ⟨e, he, hbatch, hehost, hhead, hnil⟩ := Dev.ack_spec (d := d) (count := count) (last := numAt b 5 4) (by rw [hjrn]; exact hgood)
      rw [hjrn, hfrom] at hhead hnil
      rw [he] at heff
      refine completes_write (e := e.frameDone false) rfl hs ⟨by decide, by decide⟩ hpass hlen (hd ▸ heff) ?_ ⟨hbatch, ⟨rfl, rfl, rfl⟩, hhead, hnil⟩
      exact (congrArg HostPort.opts (hehost.trans hhost) :)
    · rw [Dev.ack_eq_none (by rw [hjrn]; exact hbad)] at heff
      obtain ⟨hr, hframe, -⟩ := Dev.refused_report (d := d) (b := b) (code := Code.JRNL_ACK_RANGE) (by decide) (frAddr_lt b) _ (.inr rfl)
      refine completes_write rfl hs ⟨by decide, by decide⟩ hpass hlen (hd ▸ heff) ?_ ⟨?_, ?_, hr.of_count hcnt⟩
      · rw [Dev.frameRefused_host]; exact (congrArg HostPort.opts hhost :)
      · rw [hframe]; exact hjrn
      · rw [hframe]; exact hcs

end Sys2Proof.Machine
end

section
/-!
PROOFS. Request-ID spaces, the command queue and the mailboxes.
-/

namespace Sys2Proof.Machine

open Sys2Proof

-- one proof after another: the check bounds the memory that the stacks of parallel proofs take
set_option Elab.async false

/-! ### Histories -/

/-- A handle that has a history: the device's own, or a live channel's. -/
def Dev.hasHistory (d : Dev) (handle : Nat) : Prop := handle = 0 ∨ (d.liveSlot handle).isSome

theorem Dev.liveSlot_eq_some {d : Dev} {handle slot : Nat} (h : d.liveSlot handle = some slot) :
    slot = handle % 256 ∧ handle / 256 ≠ 0 ∧ d.gen slot = handle / 256 ∧ (d.chan? slot).isSome := by
  unfold Dev.liveSlot at h
  extract_lets k at h
  split at h
  next hc =>
    simp only [Bool.and_eq_true, beq_iff_eq] at hc
    obtain ⟨⟨hgen, hchan⟩, hg⟩ := hc
    obtain rfl : k = slot := Option.some.inj h
    exact ⟨rfl, by simpa using hgen, hg, hchan⟩
  next => cases h

/-- Slots are live as long as the same slots hold channels of the same generation. -/
theorem Dev.liveSlot_congr {d e : Dev} {handle : Nat} (hc : (e.chan? (handle % 256)).isSome = (d.chan? (handle % 256)).isSome)
    (hg : e.gens = d.gens) : e.liveSlot handle = d.liveSlot handle := by
  have hgen : e.gen (handle % 256) = d.gen (handle % 256) := by rw [Dev.gen, Dev.gen, hg]
  simp only [Dev.liveSlot]
  rw [hc, hgen]

theorem Dev.isSome_chan?_onChan (d : Dev) (slot k : Nat) (f : Chan → Chan) : ((d.onChan slot f).chan? k).isSome = (d.chan? k).isSome := by
  by_cases hk : k = slot
  · subst hk
    cases h : d.chan? k with
    | none => simp only [Dev.onChan, h, Option.isSome_none]
    | some c => simp only [Dev.chan?_onChan h, Option.isSome_some]
  · rw [Dev.chan?_onChan_other hk]

theorem Dev.gens_onChan (d : Dev) (slot : Nat) (f : Chan → Chan) : (d.onChan slot f).gens = d.gens := (congrArg Dev.gens (d.onChan_frame slot f) :)

theorem Dev.liveSlot_onChan (d : Dev) (slot handle : Nat) (f : Chan → Chan) : (d.onChan slot f).liveSlot handle = d.liveSlot handle :=
  Dev.liveSlot_congr (d.isSome_chan?_onChan slot _ f) (d.gens_onChan slot f)

theorem Dev.onHistory_frame (d : Dev) (handle : Nat) (f : History → History) : d.onHistory handle f =
    { d with chans := (d.onHistory handle f).chans, host := { d.host with hist := (d.onHistory handle f).host.hist } } := by
  unfold Dev.onHistory
  split
  · rfl
  split
  · rw [Dev.onChan_frame]
  · rfl

theorem Dev.liveSlot_onHistory (d : Dev) (handle k : Nat) (f : History → History) : (d.onHistory handle f).liveSlot k = d.liveSlot k := by
  unfold Dev.onHistory
  split
  · rfl
  split
  · exact Dev.liveSlot_onChan _ _ _ _
  · rfl

theorem Dev.hasHistory_onHistory {d : Dev} {handle k : Nat} {f : History → History} (h : d.hasHistory k) : (d.onHistory handle f).hasHistory k := by
  rwa [Dev.hasHistory, Dev.liveSlot_onHistory]

/-- The history of a handle after a change to it. -/
theorem Dev.history_onHistory {d : Dev} {handle : Nat} (f : History → History) (h : d.hasHistory handle) :
    (d.onHistory handle f).history handle = f (d.history handle) := by
  by_cases h0 : handle = 0
  · simp only [Dev.onHistory, Dev.history, h0, if_true]
  obtain ⟨slot, hs⟩ := Option.isSome_iff_exists.1 (h.resolve_left h0)
  obtain ⟨-, -, -, hc⟩ := Dev.liveSlot_eq_some hs
  obtain ⟨c, hc⟩ := Option.isSome_iff_exists.1 hc
  simp only [Dev.onHistory, Dev.history, if_neg h0, hs, Dev.byHandle, Dev.liveSlot_onChan, Option.bind_some, hc, Dev.chan?_onChan hc,
    Option.map_some, Option.getD_some]

/-! ### Requests (R300) -/

theorem Dev.history_congr {d e : Dev} (hc : e.chans = d.chans) (hg : e.gens = d.gens) (hh : e.host.hist = d.host.hist) (handle : Nat) :
    e.history handle = d.history handle := by
  have hchan : e.chan? = d.chan? := funext fun k => by rw [Dev.chan?, Dev.chan?, hc]
  have hlive : e.liveSlot handle = d.liveSlot handle := Dev.liveSlot_congr (by rw [hchan]) hg
  rw [Dev.history, Dev.history, Dev.byHandle, Dev.byHandle, hlive, hchan, hh]

/-- The verdict of R300 depends on the entries, NEWEST and the queue. -/
theorem Dev.requestCode_congr {d e : Dev} {handle id : Nat} (he : (e.history handle).entries = (d.history handle).entries)
    (hn : (e.history handle).newest = (d.history handle).newest) (hq : e.host.cmdq = d.host.cmdq) :
    e.requestCode handle id = d.requestCode handle id := by
  have hfull : e.queueFull = d.queueFull := by rw [Dev.queueFull, Dev.queueFull, hq]
  simp only [Dev.requestCode]
  rw [he, hn, hfull]

section verdict

variable {d : Dev} {handle id : Nat}

theorem Dev.requestCode_known (h : ∃ e ∈ (d.history handle).entries, e.id = id) : d.requestCode handle id = 1 := by
  have hany : (d.history handle).entries.any (·.id == id) = true := by simpa using h
  simp only [Dev.requestCode, hany, if_true]

theorem Dev.requestCode_stale (hk : ¬∃ e ∈ (d.history handle).entries, e.id = id)
    (h : (d.history handle).entries ≠ [] ∧ ¬(1 ≤ (id + 65536 - (d.history handle).newest) % 65536 ∧
      (id + 65536 - (d.history handle).newest) % 65536 ≤ 32767)) : d.requestCode handle id = Code.HOST_STALE := by
  have hany : (d.history handle).entries.any (·.id == id) = false := by
    rw [Bool.eq_false_iff]
    simpa using hk
  have hst : (!(d.history handle).entries.isEmpty && !(decide (1 ≤ (id + 65536 - (d.history handle).newest) % 65536) &&
      decide ((id + 65536 - (d.history handle).newest) % 65536 ≤ 32767))) = true := by
    simpa [-not_and, Classical.not_and_iff_not_or_not] using h
  simp only [Dev.requestCode, hany, Bool.false_eq_true, if_false, hst, if_true]

theorem Dev.requestCode_fresh (hk : ¬∃ e ∈ (d.history handle).entries, e.id = id)
    (hs : ¬((d.history handle).entries ≠ [] ∧ ¬(1 ≤ (id + 65536 - (d.history handle).newest) % 65536 ∧
      (id + 65536 - (d.history handle).newest) % 65536 ≤ 32767))) :
    d.requestCode handle id = if 16 ≤ d.host.cmdq.length ∨ (16 ≤ (d.history handle).entries.length ∧
      ∀ e ∈ (d.history handle).entries, e.st ≠ .done) then Code.HOST_BUSY else 0 := by
  have hany : (d.history handle).entries.any (·.id == id) = false := by
    rw [Bool.eq_false_iff]
    simpa using hk
  have hst : (!(d.history handle).entries.isEmpty && !(decide (1 ≤ (id + 65536 - (d.history handle).newest) % 65536) &&
      decide ((id + 65536 - (d.history handle).newest) % 65536 ≤ 32767))) = false := by
    rw [Bool.eq_false_iff]
    simpa [-not_and, Classical.not_and_iff_not_or_not] using hs
  simp only [Dev.requestCode, hany, Bool.false_eq_true, if_false, hst, Dev.queueFull, Bool.or_eq_true, Bool.and_eq_true, decide_eq_true_eq,
    List.all_eq_true, bne_iff_ne, ge_iff_le]

end verdict

/-- What a request changes apart from its history: the queue that it joins and the depth shown. -/
def Dev.QueueAndHistory (d e : Dev) : Prop :=
  e = { d with regs := e.regs, chans := e.chans, host := { d.host with hist := e.host.hist, cmdq := e.host.cmdq } } ∧
    ∀ a, a ≠ R.HOST_STAT → e.reg a = d.reg a

theorem Dev.QueueAndHistory.refl (d : Dev) : d.QueueAndHistory d := ⟨rfl, fun _ _ => rfl⟩

theorem Dev.QueueAndHistory.onHistory {d e : Dev} (h : d.QueueAndHistory e) (handle : Nat) (f : History → History) :
    d.QueueAndHistory (e.onHistory handle f) := by
  have hf := e.onHistory_frame handle f
  refine ⟨?_, fun a ha => ?_⟩
  · rw [hf]
    generalize (e.onHistory handle f).chans = c
    generalize (e.onHistory handle f).host.hist = x
    exact (congrArg (fun y : Dev => { y with chans := c, host := { y.host with hist := x } }) h.1 :)
  · rw [hf]
    exact h.2 a ha

theorem Dev.QueueAndHistory.setQueue {d e : Dev} (h : d.QueueAndHistory e) (q : List Cmd) : d.QueueAndHistory (e.setQueue q) := by
  refine ⟨?_, fun a ha => ?_⟩
  · unfold Dev.setQueue Dev.showDepth
    exact (congrArg (fun y : Dev => ({ y with host := { y.host with cmdq := q } } : Dev).setFld F.HOST_STAT_QDEPTH q.length) h.1 :)
  · exact (Dev.reg_setFld_other ha).trans (h.2 a ha)

section request

variable {d : Dev} {handle id code : Nat} {payload : Bytes} {mac : Bool}

/-- A request, from the verdict of R300 on the state as it is. -/
theorem Dev.request_eq (hh : d.hasHistory handle) : d.request handle id code payload mac =
    (let d1 := d.onHistory handle fun h => { h with lastId := id }
     if d.requestCode handle id = 0 then
       (0, (d1.onHistory handle fun h =>
        { h with entries := { id := id, cmd := code, st := .queued } :: evictDone h.entries, newest := id }).setQueue
        (d.host.cmdq ++ [⟨handle, code, id, payload, d.time, mac⟩]))
     else if d.requestCode handle id = 1 then (1, d1.onHistory handle fun h => { h with dup := satAdd 0xFFFF h.dup 1 })
     else if d.requestCode handle id = Code.HOST_STALE then
       (d.requestCode handle id, d1.onHistory handle fun h => { h with stale := satAdd 0xFFFF h.stale 1 })
     else (d.requestCode handle id, d1)) := by
  have hhist := Dev.history_onHistory (d := d) (fun h => { h with lastId := id }) hh
  have hframe := d.onHistory_frame handle fun h => { h with lastId := id }
  have hcode : (d.onHistory handle fun h => { h with lastId := id }).requestCode handle id = d.requestCode handle id :=
    Dev.requestCode_congr (by rw [hhist]) (by rw [hhist]) (congrArg (fun x : Dev => x.host.cmdq) hframe :)
  have hq : ∀ g, ((d.onHistory handle fun h => { h with lastId := id }).onHistory handle g).host.cmdq = d.host.cmdq ∧
      ((d.onHistory handle fun h => { h with lastId := id }).onHistory handle g).time = d.time := fun g => by
    rw [Dev.onHistory_frame, hframe]
    exact ⟨rfl, rfl⟩
  unfold Dev.request
  simp only [hcode, (hq _).1, (hq _).2]

/-- A request that does not join the queue leaves it and the entries. -/
theorem Dev.request_refused (hh : d.hasHistory handle) (hr : d.requestCode handle id ≠ 0) :
    (d.request handle id code payload mac).1 = d.requestCode handle id ∧ d.QueueAndHistory (d.request handle id code payload mac).2 ∧
      (d.request handle id code payload mac).2.host.cmdq = d.host.cmdq ∧
      ((d.request handle id code payload mac).2.history handle).entries = (d.history handle).entries := by
  have hd1 := (Dev.QueueAndHistory.refl d).onHistory handle fun h => { h with lastId := id }
  have hq1 : (d.onHistory handle fun h => { h with lastId := id }).host.cmdq = d.host.cmdq :=
    (congrArg (fun x : Dev => x.host.cmdq) (d.onHistory_frame handle _) :)
  have hhist := Dev.history_onHistory (d := d) (fun h => { h with lastId := id }) hh
  have hh1 : (d.onHistory handle fun h => { h with lastId := id }).hasHistory handle := Dev.hasHistory_onHistory hh
  rw [Dev.request_eq hh]
  generalize d.onHistory handle (fun h => { h with lastId := id }) = d1 at hd1 hhist hh1 hq1
  have hkeep : ∀ g : History → History, (∀ h, (g h).entries = h.entries) → (d1.onHistory handle g).host.cmdq = d.host.cmdq ∧
      ((d1.onHistory handle g).history handle).entries = (d.history handle).entries := fun g hg => by
    rw [Dev.history_onHistory g hh1, hg, hhist]
    exact ⟨(congrArg (fun x : Dev => x.host.cmdq) (d1.onHistory_frame handle g) :).trans hq1, rfl⟩
  dsimp only
  rw [if_neg hr]
  split
  next h => exact ⟨h.symm, hd1.onHistory handle fun h => { h with dup := satAdd 0xFFFF h.dup 1 }, hkeep _ fun _ => rfl⟩
  split
  · exact ⟨rfl, hd1.onHistory handle fun h => { h with stale := satAdd 0xFFFF h.stale 1 }, hkeep _ fun _ => rfl⟩
  · exact ⟨rfl, hd1, hq1, by rw [hhist]⟩

/-- A request that R300 accepts joins the queue and its history. -/
theorem Dev.request_entered (hh : d.hasHistory handle) (hr : d.requestCode handle id = 0) :
    (d.request handle id code payload mac).1 = 0 ∧ d.QueueAndHistory (d.request handle id code payload mac).2 ∧
      (d.request handle id code payload mac).2.host.cmdq = d.host.cmdq ++ [⟨handle, code, id, payload, d.time, mac⟩] ∧
      ((d.request handle id code payload mac).2.history handle).newest = id ∧
      ((d.request handle id code payload mac).2.history handle).entries =
        { id := id, cmd := code, st := .queued } :: evictDone (d.history handle).entries := by
  have hd1 := (Dev.QueueAndHistory.refl d).onHistory handle fun h => { h with lastId := id }
  have hhist := Dev.history_onHistory (d := d) (fun h => { h with lastId := id }) hh
  have hh1 : (d.onHistory handle fun h => { h with lastId := id }).hasHistory handle := Dev.hasHistory_onHistory hh
  rw [Dev.request_eq hh]
  generalize d.onHistory handle (fun h => { h with lastId := id }) = d1 at hd1 hhist hh1
  dsimp only
  rw [if_pos hr]
  have hnew := Dev.history_onHistory (fun h => { h with entries := { id := id, cmd := code, st := .queued } :: evictDone h.entries, newest := id }) hh1
  have hd2 := hd1.onHistory handle fun h => { h with entries := { id := id, cmd := code, st := .queued } :: evictDone h.entries, newest := id }
  generalize d1.onHistory handle (fun h => { h with entries := _ :: evictDone h.entries, newest := id }) = d2 at hnew hd2
  have hhist2 : (d2.setQueue (d.host.cmdq ++ [⟨handle, code, id, payload, d.time, mac⟩])).history handle = d2.history handle :=
    Dev.history_congr rfl rfl rfl handle
  refine ⟨rfl, hd2.setQueue _, rfl, ?_⟩
  rw [hhist2, hnew, hhist]
  exact ⟨rfl, rfl⟩

end request

/-- A frame that passes is for a handle with a history. -/
theorem Dev.passes.hasHistory {d : Dev} {b : Bytes} (h : d.passes b) (hop : frOp b = Op.cmd) : d.hasHistory (frAddr b) := by
  obtain ⟨-, -, hhandle, -, hcmd⟩ := h
  unfold Dev.handleBad at hhandle
  unfold cmdBad at hcmd
  extract_lets op k dead code at hhandle
  have hop' : op = Op.cmd := hop
  rw [if_pos hop'] at hhandle
  by_cases hhd : cmdHandled code = true
  · rw [if_pos hhd] at hhandle
    refine .inr ?_
    simpa [dead] using hhandle
  · refine .inl ?_
    have hcode : cmdHandled (byteAt b 5) = false := by simpa [code] using hhd
    simp [hop, hcode] at hcmd
    exact hcmd.1.1.2

/-- The counted effect of a CMD frame keeps what the request left. -/
theorem Dev.frameJudged_refused {b : Bytes} {r : Nat} {e : Dev} (h0 : r ≠ 0) (h1 : r ≠ 1) :
    Dev.frameJudged b (r, e) = e.frameRefused b r (frAddr b) false := by
  simp only [Dev.frameJudged, if_neg h0, if_neg h1]

/-- Settles O20. -/
theorem requestsEnter : Obligations.RequestsEnter := by
  unfold Obligations.RequestsEnter
  intro s f hs b h id ahead known stale busy hpass hlen
  have hop : frOp b = Op.cmd := frOp_mosiOf (by decide)
  have hstep := s.dev.sessionStep_frame b
  have hdev : (s.dev.sessionStep b).host = s.dev.host ∧ (s.dev.sessionStep b).time = s.dev.time ∧
      (s.dev.sessionStep b).history (frAddr b) = h ∧ (s.dev.sessionStep b).hasHistory (frAddr b) := by
    have hh := hpass.hasHistory hop
    rw [hstep.1]
    exact ⟨rfl, rfl, rfl, hh⟩
  have hcnt : (s.dev.sessionStep b).fld F.HOST_CNT_REFUSED = s.dev.fld F.HOST_CNT_REFUSED := Dev.fld_eq_of_reg (hstep.2 _ (by decide))
  have heff := Dev.writeEffect_cmd (d := s.dev.sessionStep b) hop
  generalize hd : s.dev.sessionStep b = d at hdev hcnt heff
  obtain ⟨hhost, htime, hhist, hhas⟩ := hdev
  have hjudged : ∀ r e, d.request (frAddr b) id (byteAt b 5) (slice b 9 (frLen b)) (frM b) = (r, e) →
      (s.dev.sessionStep b).writeEffect b = Dev.frameJudged b (r, e) := fun r e he => by rw [hd, heff, he]
  have hrefused := Dev.request_refused (code := byteAt b 5) (payload := slice b 9 (frLen b)) (mac := frM b) (id := id) hhas
  have hentered := Dev.request_entered (code := byteAt b 5) (payload := slice b 9 (frLen b)) (mac := frM b) (id := id) hhas
  generalize hreq : d.request (frAddr b) id (byteAt b 5) (slice b 9 (frLen b)) (frM b) = x at hrefused hentered
  obtain ⟨r, e⟩ := x
  replace hjudged := hjudged r e hreq
  rw [hhost, hhist] at hrefused
  rw [hhost, hhist, htime] at hentered
  have hopts : ∀ e : Dev, d.QueueAndHistory e → e.host.opts = s.dev.host.opts := fun e he => by rw [he.1, hhost]
  have hbad : ∀ code, d.requestCode (frAddr b) id = code → code ≠ 0 → code ≠ 1 → code < 256 →
      completes (.cmd f) s fun x => x.host.cmdq = s.dev.host.cmdq ∧ (x.history (frAddr b)).entries = h.entries ∧
        s.dev.refuses x b code (frAddr b) false := fun code hc h0 h1 hlt => by
    obtain ⟨hr, hframe, hq, hent⟩ := hrefused (hc ▸ h0)
    obtain rfl : r = code := hr.trans hc
    rw [Dev.frameJudged_refused h0 h1] at hjudged
    obtain ⟨hrep, hfields, hrhost⟩ := Dev.refused_report (d := e) (b := b) hlt (frAddr_lt b) _ (.inr rfl)
    refine completes_write rfl hs ⟨by decide, by decide⟩ hpass hlen hjudged (by rw [Dev.frameRefused_host]; exact hopts e hframe)
      ⟨?_, ?_, hrep.of_count ((Dev.fld_eq_of_reg (hframe.2 _ (by decide))).trans hcnt)⟩
    · rw [hrhost]; exact hq
    · rw [Dev.history_congr (d := e) (by rw [hfields]) (by rw [hfields]) (by rw [hrhost])]; exact hent
  refine ⟨fun hknown => ?_, fun hknown hstale => ?_, fun hknown hstale hbusy => ?_, fun hknown hstale hbusy => ?_⟩
  · have hc : d.requestCode (frAddr b) id = 1 := Dev.requestCode_known (by rw [hhist]; exact hknown)
    obtain ⟨hr, hframe, hq, hent⟩ := hrefused (by rw [hc]; decide)
    obtain rfl : r = 1 := hr.trans hc
    refine completes_write (e := e.frameDone true) rfl hs ⟨by decide, by decide⟩ hpass hlen hjudged (hopts e hframe) ⟨hq, ⟨rfl, rfl, rfl⟩, ?_⟩
    exact (congrArg History.entries (Dev.history_congr rfl rfl rfl _)).trans hent
  · exact hbad _ (Dev.requestCode_stale (by rw [hhist]; exact hknown) (by rw [hhist]; exact hstale)) (by decide) (by decide) (by decide)
  · have hc := Dev.requestCode_fresh (d := d) (handle := frAddr b) (id := id) (by rw [hhist]; exact hknown) (by rw [hhist]; exact hstale)
    rw [hhist, hhost, if_pos hbusy] at hc
    exact hbad _ hc (by decide) (by decide) (by decide)
  · have hc := Dev.requestCode_fresh (d := d) (handle := frAddr b) (id := id) (by rw [hhist]; exact hknown) (by rw [hhist]; exact hstale)
    rw [hhist, hhost, if_neg hbusy] at hc
    obtain ⟨hr, hframe, hq, hnew, hent⟩ := hentered hc
    obtain rfl : r = 0 := hr
    have hsame : ∀ m, (((e.frameDone false).bump F.HOST_CNT_FRAMES 1).setMiso m).history (frAddr b) = e.history (frAddr b) :=
      fun m => Dev.history_congr rfl rfl rfl _
    refine completes_write (e := e.frameDone false) rfl hs ⟨by decide, by decide⟩ hpass hlen hjudged (hopts e hframe) ⟨hq, ⟨rfl, rfl, rfl⟩, ?_⟩
    rw [hsame]
    exact ⟨hnew, hent⟩

end Sys2Proof.Machine
end

section
/-!
PROOFS. Mailboxes, and the order of the command queue.
-/

namespace Sys2Proof.Machine

open Sys2Proof

-- one proof after another: the check bounds the memory that the stacks of parallel proofs take
set_option Elab.async false

/-- A fragment that completes no message is appended. -/
theorem Dev.mailboxWrite_fragment {d : Dev} {slot : Nat} {c : Chan} {payload : Bytes} {mac : Bool} (hc : d.chan? slot = some c)
    (hw : c.msgWait = false) (hpart : (c.mailbox ++ payload).length < 4 ∨ (40 ≤ msgLen (c.mailbox ++ payload) ∧
      msgLen (c.mailbox ++ payload) ≤ 1064 ∧ (c.mailbox ++ payload).length < msgLen (c.mailbox ++ payload))) :
    d.mailboxWrite slot payload mac = (0, d.onChan slot fun y => { y with mailbox := c.mailbox ++ payload, msgMac := c.msgMac && mac }) := by
  unfold Dev.mailboxWrite
  rw [hc]
  dsimp only
  rw [hw, if_neg Bool.false_ne_true, if_pos]
  simp only [Bool.or_eq_true, decide_eq_true_eq, Bool.and_eq_true, Bool.not_eq_true', Bool.or_eq_false_iff, decide_eq_false_iff_not]
  exact hpart.imp_right fun ⟨h1, h2, h3⟩ => ⟨⟨⟨by omega, by omega⟩, by omega⟩, h3⟩

theorem Dev.mailboxWrite_busy {d : Dev} {slot : Nat} {c : Chan} {payload : Bytes} {mac : Bool} (hc : d.chan? slot = some c)
    (hw : c.msgWait = true) : d.mailboxWrite slot payload mac = (Code.HOST_BUSY, d) := by
  unfold Dev.mailboxWrite
  rw [hc]
  dsimp only
  rw [hw, if_pos rfl]

/-- Settles O21. -/
theorem mailboxFrames : Obligations.MailboxFrames := by
  unfold Obligations.MailboxFrames
  refine fun s f slot c hs hc => ⟨?_, ?_⟩
  · intro b buf hpass hlen hslot
    have hstep := s.dev.sessionStep_frame b
    have hcnt : (s.dev.sessionStep b).fld F.HOST_CNT_REFUSED = s.dev.fld F.HOST_CNT_REFUSED := Dev.fld_eq_of_reg (hstep.2 _ (by decide))
    have hdev : (s.dev.sessionStep b).host = s.dev.host ∧ (s.dev.sessionStep b).chans = s.dev.chans ∧
        (s.dev.sessionStep b).chan? slot = some c := by
      rw [hstep.1]
      exact ⟨rfl, rfl, hc⟩
    have heff := Dev.writeEffect_mboxWr (d := s.dev.sessionStep b) (b := b) (frOp_mosiOf (by decide))
    generalize hd : s.dev.sessionStep b = d at hdev hcnt heff
    obtain ⟨hhost, hchans, hcd⟩ := hdev
    rw [hslot] at heff
    refine ⟨fun hw => ?_, fun hw hpart => ?_⟩
    · rw [Dev.mailboxWrite_busy hcd hw, Dev.frameJudged_refused (by decide) (by decide)] at heff
      obtain ⟨hrep, hfields, hrhost⟩ := Dev.refused_report (d := d) (b := b) (code := Code.HOST_BUSY) (by decide) (frAddr_lt b) _ (.inr rfl)
      refine completes_write rfl hs ⟨by decide, by decide⟩ hpass hlen (hd ▸ heff) (by rw [Dev.frameRefused_host, hhost])
        ⟨?_, ?_, hrep.of_count hcnt⟩
      · rw [hfields]; exact hchans
      · rw [hrhost]; exact (congrArg HostPort.cmdq hhost :)
    · rw [Dev.mailboxWrite_fragment hcd hw hpart] at heff
      have hframe := d.onChan_frame slot fun y => { y with mailbox := buf, msgMac := c.msgMac && frM b }
      have hchan := Dev.chan?_onChan (f := fun y => { y with mailbox := buf, msgMac := c.msgMac && frM b }) hcd
      change _ = Dev.frameJudged b (0, d.onChan slot fun y => { y with mailbox := buf, msgMac := c.msgMac && frM b }) at heff
      generalize d.onChan slot (fun y => { y with mailbox := buf, msgMac := c.msgMac && frM b }) = e at heff hframe hchan
      have hehost : e.host = s.dev.host := (congrArg Dev.host hframe :).trans hhost
      exact completes_write (e := e.frameDone false) rfl hs ⟨by decide, by decide⟩ hpass hlen (hd ▸ heff) (congrArg HostPort.opts hehost :)
        ⟨⟨rfl, rfl, rfl⟩, hchan, (congrArg HostPort.cmdq hehost :)⟩
  · intro b rs out hpass hlen hslot
    have hread := Dev.readOut_mboxRd (d := s.dev) (fu := s.fuses) (b := b) (frOp_mosiOf (by decide))
    rw [hslot, hc] at hread
    have hframe := s.dev.onChan_frame slot fun y => { y with results := y.results.drop rs.length }
    have hchan := Dev.chan?_onChan (f := fun y => { y with results := y.results.drop rs.length }) hc
    change s.dev.readOut s.fuses b = (out, s.dev.onChan slot fun y => { y with results := y.results.drop rs.length }) at hread
    generalize s.dev.onChan slot (fun y => { y with results := y.results.drop rs.length }) = e at hread hframe hchan
    have hregs : e.regs = s.dev.regs := (congrArg Dev.regs hframe :)
    refine completes_read rfl hs ⟨by decide, by decide⟩ hpass hread hlen (congrArg (fun x : Dev => x.host.opts) hframe :) ?_
      ⟨rfl, ⟨rfl, rfl, rfl⟩, hchan⟩
    exact Dev.unsnooped_congr (fun u _ => by rw [Dev.reg, hregs]; rfl) hs.unsnooped

/-! ### The command queue (R302) -/

/-- With a command at the front that is not a message, no message is passed over. -/
theorem Dev.passMessages_of_command {d : Dev} {c : Cmd} {rest : List Cmd} (hq : d.host.cmdq = c :: rest) (hc : c.code ≠ 0xFF) :
    d.passMessages = d.setQueue (c :: rest) := by
  have hspan : (c :: rest).span (·.code == 0xFF) = ([], c :: rest) := by
    have hne : (c.code == 0xFF) = false := by simpa using hc
    simp [List.span, List.span.loop, hne]
  unfold Dev.passMessages
  rw [hq, hspan]
  rfl

section queue

variable {d : Dev} {c : Cmd} {rest : List Cmd}

theorem Dev.takeCmd_head (hq : d.host.cmdq = c :: rest) (hc : c.code ≠ 0xFF) (hrun : d.phase = .running) :
    d.takeCmd c.code = some (c, ((d.setQueue (c :: rest)).setQueue rest).reqPending c.handle c.reqId) := by
  have hlive : (d.setQueue (c :: rest)).live = true := beq_iff_eq.2 hrun
  unfold Dev.takeCmd
  rw [Dev.passMessages_of_command hq hc]
  dsimp only
  rw [show (d.setQueue (c :: rest)).host.cmdq = c :: rest from rfl]
  dsimp only
  rw [hlive]
  simp

theorem Dev.takeCmd_other {code : Nat} (hq : d.host.cmdq = c :: rest) (hc : c.code ≠ 0xFF) (hne : code ≠ c.code) : d.takeCmd code = none := by
  unfold Dev.takeCmd
  rw [Dev.passMessages_of_command hq hc]
  dsimp only
  rw [show (d.setQueue (c :: rest)).host.cmdq = c :: rest from rfl]
  dsimp only
  rw [if_neg]
  simp [Ne.symm hne]

end queue

/-- The entries of a handle that has no history. -/
theorem Dev.history_of_none {d : Dev} {handle : Nat} (h : ¬d.hasHistory handle) : d.history handle = {} := by
  rw [Dev.hasHistory, not_or, Option.not_isSome_iff_eq_none] at h
  simp only [Dev.history, if_neg h.1, Dev.byHandle, h.2, Option.bind_none, Option.map_none, Option.getD_none]

/-- A command taken is PENDING in its history. -/
theorem Dev.reqPending_entries (d : Dev) (handle id : Nat) :
    ∀ x ∈ ((d.reqPending handle id).history handle).entries, x.id = id → x.st = .pending := by
  intro x hx hid
  by_cases hh : d.hasHistory handle
  · rw [Dev.reqPending, Dev.history_onHistory _ hh, History.onEntry, List.mem_map] at hx
    obtain ⟨y, -, rfl⟩ := hx
    by_cases hy : y.id = id
    · rw [if_pos hy]
    · rw [if_neg hy] at hid
      exact absurd hid hy
  · have hh' : ¬(d.reqPending handle id).hasHistory handle := by
      rwa [Dev.hasHistory, Dev.reqPending, Dev.liveSlot_onHistory]
    rw [Dev.history_of_none hh'] at hx
    cases hx

theorem Dev.reg_setQueue {d : Dev} {q : List Cmd} {a : Nat} (h : a ≠ R.HOST_STAT) : (d.setQueue q).reg a = d.reg a := Dev.reg_setFld_other h

/-- What the taking of a command changes. -/
theorem Dev.takeCmd_frame (d : Dev) (q rest : List Cmd) (handle id : Nat) : d.QueueAndHistory (((d.setQueue q).setQueue rest).reqPending handle id) :=
  (((Dev.QueueAndHistory.refl d).setQueue q).setQueue rest).onHistory handle _

theorem Dev.sweep_of_none {d : Dev} {code : Nat} (h : d.takeCmd code = none) (run : Dev → Cmd → Dev × Bytes) : d.sweep code run = d := by
  simp only [Dev.sweep, h]

/-- The rows that take their command and carry nothing else. -/
def bareRows : List (Instr × Nat) :=
  [(.chnStop, 3), (.chnStopDrain, 3), (.chnDestroy, 5), (.imageWriteAbort, 0x21), (.keyImport, 0x30), (.keyClear, 0x31),
    (.sessionOpen, 0x32), (.sessionClose, 0x33), (.rearmChallenge, 0x34), (.timeSet, 0x40)]

/-- The rows that take their command and carry measurements, or what a flash answers. -/
def measuredRows (flush : BitVec 4) (ok : Bool) (ms : List TuneMeasure) (ks : List (List Word)) (gs : List (Option (Fin 48)))
    (ls : List (List LeakMeasure)) : List (Instr × Nat) :=
  [(.softReset flush, 0x0F), (.imageWriteBegin ok, 0x21), (.imageWriteData ok, 0x21), (.imageWriteEnd ok, 0x21), (.calTune ms, 0x24),
    (.calCoupling ks, 0x25), (.calRxgain gs, 0x26), (.calUhfLeak ls, 0x27), (.regionBlow ok, 0x28), (.rearmResponse flush, 0x34)]

/-- A row for a command that is not at the front. -/
theorem exec_bareRow_of_none {c : Instr} {s : State} {code : Nat} (h : s.dev.takeCmd code = none) (hrun : s.dev.phase = .running)
    (hrow : (c, code) ∈ bareRows) : exec c s = .next s := by
  have hlive : s.dev.live = true := beq_iff_eq.2 hrun
  have hon : ∀ f : Dev → Dev, f s.dev = s.dev → s.onLive f = .next s := fun f hf => by
    simp only [State.onLive, State.onDev, hlive, if_true, hf]
    rfl
  have hdev : ∀ f : Dev → Dev, f s.dev = s.dev → s.onDev f = .next s := fun f hf => by
    simp only [State.onDev, hf]
    rfl
  simp only [bareRows, List.mem_cons, List.not_mem_nil, or_false, Prod.mk.injEq] at hrow
  obtain ⟨rfl, rfl⟩ | ⟨rfl, rfl⟩ | ⟨rfl, rfl⟩ | ⟨rfl, rfl⟩ | ⟨rfl, rfl⟩ | ⟨rfl, rfl⟩ | ⟨rfl, rfl⟩ | ⟨rfl, rfl⟩ | ⟨rfl, rfl⟩ | ⟨rfl, rfl⟩ := hrow
  · exact hon (·.chnStop false) (by simp only [Dev.chnStop, h])
  · exact hon (·.chnStop true) (by simp only [Dev.chnStop, h])
  · exact hon Dev.chnDestroy (by simp only [Dev.chnDestroy, h])
  · exact hdev Dev.imageAbort (by simp only [Dev.imageAbort, h])
  · exact hon Dev.keyImport (by simp only [Dev.keyImport, h])
  · exact hon Dev.keyClear (by simp only [Dev.keyClear, h])
  · exact hon Dev.sessionOpen (by simp only [Dev.sessionOpen, h])
  · exact hon Dev.sessionClose (by simp only [Dev.sessionClose, h])
  · exact hdev (·.rearmChallenge s.fuses) (by simp only [Dev.rearmChallenge, h])
  · exact hdev Dev.timeSet (by simp only [Dev.timeSet, h])

/-- The same, of the rows that carry measurements or a verdict of the flash. -/
theorem exec_measuredRow_of_none {c : Instr} {s : State} {code : Nat} {flush : BitVec 4} {ok : Bool} {ms : List TuneMeasure} {ks : List (List Word)}
    {gs : List (Option (Fin 48))} {ls : List (List LeakMeasure)} (h : s.dev.takeCmd code = none)
    (hrow : (c, code) ∈ measuredRows flush ok ms ks gs ls) : exec c s = .next s := by
  have hdev : ∀ x : Dev, x = s.dev → (.next (s.withDev x) : Host.Outcome State Fault Refusal) = .next s := fun x hx => by
    rw [hx]
    rfl
  have himg : s.imageStep (s.dev, s.nor) = .next s := by
    simp [State.imageStep, State.withNor]
  simp only [measuredRows, List.mem_cons, List.not_mem_nil, or_false, Prod.mk.injEq] at hrow
  obtain ⟨rfl, rfl⟩ | ⟨rfl, rfl⟩ | ⟨rfl, rfl⟩ | ⟨rfl, rfl⟩ | ⟨rfl, rfl⟩ | ⟨rfl, rfl⟩ | ⟨rfl, rfl⟩ | ⟨rfl, rfl⟩ | ⟨rfl, rfl⟩ | ⟨rfl, rfl⟩ := hrow
  · exact hdev _ (show s.dev.softReset s.nor s.fuses flush = _ by simp [Dev.softReset, h])
  · refine (congrArg s.imageStep ?_).trans himg
    simp only [Dev.imageBegin, h]
  · refine (congrArg s.imageStep ?_).trans himg
    simp only [Dev.imageData, h]
  · refine (congrArg s.imageStep ?_).trans himg
    simp only [Dev.imageEnd, h]
  · exact hdev _ (Dev.sweep_of_none h _)
  · exact hdev _ ((congrArg (fun x => if s.dev.hfDirectRuns then s.dev else x) (Dev.sweep_of_none h _)).trans (ite_self _))
  · exact hdev _ (Dev.sweep_of_none h _)
  · exact hdev _ (show s.dev.leakSweep ls = _ by simp only [Dev.leakSweep, Dev.leakHeld, h])
  · have hblow : s.dev.regionBlow s.fuses ok = (s.dev, s.fuses) := by simp only [Dev.regionBlow, h]
    exact (congrArg s.withFuses hblow :)
  · refine hdev _ (show s.dev.rearm s.nor s.fuses flush = _ from ?_)
    simp only [Dev.rearm, Dev.rearmResponse, h]
    simp

/-- Settles O23. -/
theorem commandsInOrder : Obligations.CommandsInOrder := by
  unfold Obligations.CommandsInOrder
  intro s c rest hrun hq hc
  have hlive : s.dev.live = true := beq_iff_eq.2 hrun
  refine ⟨⟨_, Dev.takeCmd_head hq hc hrun, ?_⟩, fun row hrow hne => ?_, fun flush ok ms ks gs ls row hrow hne => ?_⟩
  · have hframe := s.dev.takeCmd_frame (c :: rest) rest c.handle c.reqId
    refine ⟨?_, Dev.reqPending_entries _ _ _, ?_, ?_, ?_, hframe.2⟩
    · exact (congrArg (fun x : Dev => x.host.cmdq) (Dev.onHistory_frame _ _ _) :)
    · rw [hframe.1]
    · rw [hframe.1]
    · rw [hframe.1]
  · have hnone := Dev.takeCmd_other hq hc hne
    have hon : ∀ f : Dev → Dev, f s.dev = s.dev → s.onLive (fun d => (f d).settle) = .next (s.withDev s.dev.settle) := fun f hf => by
      simp only [State.onLive, State.onDev, hlive, if_true, hf]
    simp only [List.mem_cons, List.not_mem_nil, or_false] at hrow
    obtain rfl | rfl | rfl := hrow
    · exact ⟨_, hon _ (by simp only [Dev.chnCreate, hnone]), rfl⟩
    · exact ⟨_, hon _ (by simp only [Dev.chnStart, hnone]), rfl⟩
    · exact ⟨_, hon _ (by simp only [Dev.chnRun, hnone]), rfl⟩
  · have hnone := Dev.takeCmd_other hq hc hne
    obtain ⟨c, code⟩ := row
    have hsplit : (c, code) ∈ bareRows ∨ (c, code) ∈ measuredRows flush ok ms ks gs ls := by
      simp only [bareRows, measuredRows, List.mem_cons, List.not_mem_nil, or_false] at hrow ⊢
      tauto
    obtain h | h := hsplit
    · exact exec_bareRow_of_none hnone hrun h
    · exact exec_measuredRow_of_none hnone h

end Sys2Proof.Machine
end

section
/-!
PROOFS. The random generator, the clocks, and the sequencer's watchdog.
-/

namespace Sys2Proof.Machine

open Sys2Proof

-- one proof after another: the check bounds the memory that the stacks of parallel proofs take
set_option Elab.async false

theorem Dev.live_of_running {d : Dev} (h : d.phase = .running) : d.live = true := beq_iff_eq.2 h

theorem Dev.live_of_not_running {d : Dev} (h : d.phase ≠ .running) : d.live = false := beq_eq_false_iff_ne.2 h

/-- A failed health test stops the generator before the fault is latched. -/
theorem Dev.drbgFailed_spec {d : Dev} (hrun : d.phase = .running) (hok : d.vault.drbgOk = true) : ∃ e : Dev,
    d.drbgFailed = e.fault9 Code.DRBG_FAIL ∧ e.vault = { d.vault with drbgOk := false } ∧
      e.fld F.VLT_DRBG_HEALTH = satAdd (2 ^ (F.VLT_DRBG_HEALTH.hi + 1 - F.VLT_DRBG_HEALTH.lo) - 1) (d.fld F.VLT_DRBG_HEALTH) 1 ∧
      e.fld F.VLT_STAT_LAST_CODE = Code.DRBG_FAIL ∧ { d with vault := e.vault }.onlyRegs e [R.VLT_DRBG, R.VLT_STAT] := by
  unfold Dev.drbgFailed
  rw [if_neg (by simp [hok, d.live_of_running hrun])]
  refine ⟨_, rfl, rfl, ?_, ?_, ?_⟩
  · exact (Dev.fld_setFld_other (by decide) (by decide)).trans (Dev.fld_bump (by decide))
  · exact Dev.fld_setFld_small (by decide) (by decide)
  · exact ((Dev.onlyRegs_refl _ _).fld (f := F.VLT_DRBG_HEALTH)).fld (f := F.VLT_STAT_LAST_CODE)

theorem Dev.drbgStart_spec (d : Dev) : d.drbgStart.vault = { d.vault with drbgOk := true } ∧
    d.drbgStart.fld F.VLT_DRBG_RESEEDS = satAdd (2 ^ (F.VLT_DRBG_RESEEDS.hi + 1 - F.VLT_DRBG_RESEEDS.lo) - 1) (d.fld F.VLT_DRBG_RESEEDS) 1 ∧
    { d with vault := d.drbgStart.vault }.onlyRegs d.drbgStart [R.VLT_DRBG] :=
  ⟨rfl, Dev.fld_bump (by decide), (Dev.onlyRegs_refl _ _).fld (f := F.VLT_DRBG_RESEEDS)⟩

/-- The crystal lost: the Attic runs on its RC. -/
def Dev.onRc (d : Dev) : Dev := { d with attic := { d.attic with crystal := false, rcSpan := true } }

theorem Dev.clockLoss_of_running {d : Dev} {us : Nat} (hup : d.attic.up = true) (hcry : d.attic.crystal = true) (hrun : d.phase = .running) :
    d.clockLoss us = (d.onRc.setFlag F.FLT_STAT_CLOCK true).faultDone Code.CLOCK_LOSS 8 0 us (.moved 0xFF) false none := by
  unfold Dev.clockLoss
  rw [if_neg (by simp [hup, hcry])]
  exact if_pos (Dev.live_of_running (d := d.onRc) hrun)

theorem Dev.clockLoss_of_not_running {d : Dev} {us : Nat} (hup : d.attic.up = true) (hcry : d.attic.crystal = true) (hrun : d.phase ≠ .running) :
    d.clockLoss us = d.onRc := by
  unfold Dev.clockLoss
  rw [if_neg (by simp [hup, hcry])]
  exact if_neg (Bool.eq_false_iff.1 (Dev.live_of_not_running (d := d.onRc) hrun))

theorem Dev.onRc_spec (d : Dev) : (d.onRc.setFlag F.FLT_STAT_CLOCK true).flag F.FLT_STAT_CLOCK = true ∧
    (d.onRc.setFlag F.FLT_STAT_CLOCK true).unsync = true ∧
    (d.onRc.setFlag F.FLT_STAT_CLOCK true).attic = { d.attic with crystal := false, rcSpan := true } ∧
    { d with attic := (d.onRc.setFlag F.FLT_STAT_CLOCK true).attic }.onlyRegs (d.onRc.setFlag F.FLT_STAT_CLOCK true) [R.FLT_STAT] :=
  ⟨Dev.flag_setFlag rfl (by decide), Bool.or_true _, rfl, (Dev.onlyRegs_refl d.onRc _).flag⟩

/-- The watchdog's latch and instant, before the steps start again. -/
def Dev.seqLatched (d : Dev) : Dev := { (d.setFlag F.FLT_STAT_SEQ true) with seqWdogAt := some d.time }

theorem Dev.seqWdog_eq (d : Dev) (us : Nat) :
    d.seqWdog us = d.seqLatched.restartSteps.faultDone Code.SEQ_WDOG 6 0 us (.moved 0xFF) false none := rfl

theorem Dev.seqExpired_late {d : Dev} {nor : Mem} {fu : Fuses} {us : Nat} {ok : BitVec 4} (hlive : d.live = true)
    (hany : ¬(d.seqWdogAt.any fun t => decide (d.time < t + 10000000)) = true) : d.seqExpired nor fu us ok = d.seqWdog us := by
  unfold Dev.seqExpired
  rw [hlive]
  generalize (d.seqWdogAt.any fun t => decide (d.time < t + 10000000)) = recent at hany
  exact if_neg hany

theorem Dev.seqExpired_first {d : Dev} {nor : Mem} {fu : Fuses} {us : Nat} {ok : BitVec 4} (hrun : d.phase = .running)
    (hold : ∀ t, d.seqWdogAt = some t → t + 10000000 ≤ d.time) :
    d.seqExpired nor fu us ok = d.seqLatched.restartSteps.faultDone Code.SEQ_WDOG 6 0 us (.moved 0xFF) false none := by
  refine (Dev.seqExpired_late (Dev.live_of_running hrun) ?_).trans (d.seqWdog_eq us)
  intro hany
  obtain ⟨t, ht, hlt⟩ := (Option.any_eq_true _ _).1 hany
  exact absurd (of_decide_eq_true hlt) (Nat.not_lt.2 (hold t ht))

theorem Dev.seqLatched_spec (d : Dev) : d.seqLatched.seqWdogAt = some d.time ∧ d.seqLatched.flag F.FLT_STAT_SEQ = true ∧
    { d with seqWdogAt := d.seqLatched.seqWdogAt }.onlyRegs d.seqLatched [R.FLT_STAT] :=
  ⟨rfl, Dev.flag_setFlag (d := d) rfl (by decide), ⟨rfl, fun a ha => ((Dev.onlyRegs_refl d [R.FLT_STAT]).flag (f := F.FLT_STAT_SEQ) (v := true)).2 a ha⟩⟩

/-- Settles O34. -/
theorem generatorAndClocks : Obligations.GeneratorAndClocks := by
  unfold Obligations.GeneratorAndClocks
  refine ⟨fun s => ⟨fun hrun hok => ?_, fun hoff => ?_, fun hphase hok => ⟨?_, ?_, ?_⟩, fun hok => ⟨fun pass => ?_, ?_⟩⟩,
    fun s us flush => ⟨fun hup hcry => ⟨fun hrun => ?_, fun hrun => ?_⟩, fun hup => ?_, fun hrun hold => ?_⟩⟩
  · exact completes_onDev Dev.drbgFailed rfl (Dev.drbgFailed_spec hrun hok)
  · refine completes_onDev Dev.drbgFailed rfl ?_
    have hcond : (!s.dev.vault.drbgOk || !s.dev.live) = true := by
      obtain hrun | hok := hoff
      · simp [Dev.live_of_not_running hrun]
      · simp [hok]
    simp only [Dev.drbgFailed, hcond, if_true]
  · have hcond : (s.dev.vault.drbgOk || !(s.dev.live || s.dev.phase == .halted || s.dev.phase == .flushed)) = false := by
      simp only [List.mem_cons, List.not_mem_nil, or_false] at hphase
      obtain h | h | h := hphase <;> simp [h, hok, Dev.live]
    refine completes_onDev (·.drbgRetry true) rfl ?_
    simp only [Dev.drbgRetry, hcond, Bool.false_eq_true, if_false, if_true]
    exact s.dev.drbgStart_spec
  · refine completes_onDev (·.drbgRetry false) rfl ?_
    simp [Dev.drbgRetry]
  · refine completes_onDev Dev.drbgReseed rfl ?_
    simp [Dev.drbgReseed, hok]
  · refine completes_onDev (·.drbgRetry pass) rfl ?_
    simp [Dev.drbgRetry, hok]
  · refine completes_onDev Dev.drbgReseed rfl ?_
    simp only [Dev.drbgReseed, hok, if_true]
    exact ⟨Dev.fld_bump (by decide), (Dev.onlyRegs_refl _ _).fld⟩
  · exact completes_onDev (·.clockLoss us) rfl ⟨_, Dev.clockLoss_of_running hup hcry hrun, s.dev.onRc_spec⟩
  · exact completes_onDev (·.clockLoss us) rfl (Dev.clockLoss_of_not_running hup hcry hrun)
  · refine completes_onDev Dev.crystalBack rfl ?_
    simp only [Dev.crystalBack, hup, if_true]
  · exact completes_onDev (·.seqExpired s.nor s.fuses us flush) rfl ⟨_, Dev.seqExpired_first hrun hold, s.dev.seqLatched_spec⟩

end Sys2Proof.Machine
end

section
/-!
PROOFS. The frame of an HF exchange (Chapters 4 and 5): what its operations can reach, one lemma for each operation in the order of the
model.
-/

namespace Sys2Proof.Machine

open Sys2Proof

-- one proof after another: the check bounds the memory that the stacks of parallel proofs take
set_option Elab.async false

/-! ### The relation -/

/-- The register windows of the HF chains and ports, and the count of events dropped. -/
def hfWindow (a : Nat) : Prop := (0x200 ≤ a ∧ a < 0x400) ∨ a = R.HOST_EVT_STAT

theorem hfWindow_chain {c n : Nat} (hn : n < 4) (hc : 0x200 ≤ c ∧ c < 0x240 := by decide) : hfWindow (c + 0x40 * n) := by
  unfold hfWindow; omega

theorem hfWindow_event : hfWindow R.HOST_EVT_STAT := .inr rfl

/-- No group waits for its boundary, and the HF chains hold partners of their band. -/
def Dev.hfInRange (d : Dev) : Prop := d.applying = [] ∧ ∀ n, n < 4 → ∀ m ∈ (d.hfc n).partner, m < 4

theorem Dev.hfGroups_of_none {d : Dev} {n : Nat} (h : d.applying = []) : d.hfGroups n = d := by
  have hnone : ∀ l : List Group, l.foldl Dev.applyGroup d = d := fun l => by
    induction l with
    | nil => rfl
    | cons g t ih =>
      have hg : d.applyGroup g = d := by simp only [Dev.applyGroup, h, List.find?_nil]
      rw [List.foldl_cons, hg, ih]
  exact hnone _

/-- `e` is `d` but for the HF chains at work, their registers, the event ring and the time. -/
structure Dev.HfOnly (d e : Dev) : Prop where
  rest : e = { d with regs := e.regs, hf := e.hf, host := e.host, time := e.time, attic := e.attic }
  host : e.host = { d.host with ring := e.host.ring, dropped := e.host.dropped }
  attic : e.attic = { d.attic with count := e.attic.count }
  regs : ∀ a, ¬ hfWindow a → e.reg a = d.reg a
  partner : ∀ n, n < 4 → (e.hfc n).partner = (d.hfc n).partner
  range : d.hfInRange

namespace Dev.HfOnly

variable {d e : Dev} {n : Nat}

theorem refl (h : d.hfInRange) : HfOnly d d := ⟨rfl, rfl, rfl, fun _ _ => rfl, fun _ _ => rfl, h⟩

theorem applying (h : HfOnly d e) : e.applying = [] := by rw [h.rest]; exact h.range.1

theorem team_lt (h : HfOnly d e) (hn : n < 4) : ∀ m ∈ e.hfTeam n, m < 4 := by
  intro m hm
  simp only [Dev.hfTeam, List.mem_cons, Option.mem_toList] at hm
  rcases hm with rfl | hm
  · exact hn
  · exact h.range.2 n hn m ((h.partner n hn).symm.trans hm)

/-! ### Registers, chains, events, time -/

theorem setReg {a : Nat} {v : Word} (h : HfOnly d e) (ha : hfWindow a) : HfOnly d (e.setReg a v) where
  rest := congrArg (·.setReg a v) h.rest
  host := h.host
  attic := h.attic
  regs b hb := (Dev.reg_setReg_other fun hba => hb (by rw [hba]; exact ha)).trans (h.regs b hb)
  partner := h.partner
  range := h.range

theorem setFld {f : Fld} {v : Nat} (h : HfOnly d e) (ha : hfWindow f.addr) : HfOnly d (e.setFld f v) := h.setReg ha

theorem setFlag {f : Fld} {v : Bool} (h : HfOnly d e) (ha : hfWindow f.addr) : HfOnly d (e.setFlag f v) := h.setFld ha

theorem bump {f : Fld} {v : Nat} (h : HfOnly d e) (ha : hfWindow f.addr) : HfOnly d (e.bump f v) := h.setFld ha

/-- A chain at work: the partner stays. -/
theorem onHf {f : HfChain → HfChain} (h : HfOnly d e) (hf : ∀ c, (f c).partner = c.partner := by exact fun _ => rfl) :
    HfOnly d (e.onHf n f) where
  rest := congrArg (fun x : Dev => { x with hf := tableSet 4 {} e.hf n (f (e.hfc n)) }) h.rest
  host := h.host
  attic := h.attic
  regs := h.regs
  partner m hm := by
    by_cases hmn : m = n
    · subst hmn; rw [Dev.hfc_onHf hm, hf]; exact h.partner m hm
    · rw [Dev.hfc_onHf_other hm hmn]; exact h.partner m hm
  range := h.range

theorem tick {us : Nat} (h : HfOnly d e) : HfOnly d (e.tick us) where
  rest := by
    rw [e.tick_frame us]
    exact congrArg (fun x : Dev => { x with
      time := (e.tick us).time, attic := { e.attic with count := (e.tick us).attic.count } }) h.rest
  host := h.host
  attic := by
    rw [e.tick_frame us]
    exact congrArg (fun x : Attic => { x with count := (e.tick us).attic.count }) h.attic
  regs := h.regs
  partner := h.partner
  range := h.range

theorem reach {t : Nat} (h : HfOnly d e) : HfOnly d (e.reach t) := h.tick

theorem event {kind arg handle : Nat} {data : Bytes} (h : HfOnly d e) : HfOnly d (e.event kind arg handle data) := by
  obtain ⟨-, ⟨hrest, hregs⟩, hhost⟩ := e.event_frame kind arg handle data
  generalize e.event kind arg handle data = x at *
  have hregs' : ∀ a, ¬ hfWindow a → x.reg a = e.reg a := fun a ha =>
    hregs a (by simpa using fun heq : a = F.HOST_EVT_STAT_DROPPED.addr => ha (heq ▸ hfWindow_event))
  have hhf : x.hf = e.hf := (congrArg Dev.hf hrest :)
  have hattic : x.attic = e.attic := (congrArg Dev.attic hrest :)
  refine ⟨?_, ?_, ?_, fun a ha => (hregs' a ha).trans (h.regs a ha), fun m hm => ?_, h.range⟩
  · rw [hrest]
    exact (congrArg (fun y : Dev => { y with regs := x.regs, host := x.host }) h.rest :)
  · rw [hhost]
    exact (congrArg (fun y : HostPort => { y with ring := x.host.ring, dropped := x.host.dropped }) h.host :)
  · rw [hattic]; exact h.attic
  · rw [Dev.hfc, hhf]; exact h.partner m hm

theorem forEach {f : Dev → Nat → Dev} {l : List Nat} (h : HfOnly d e) (hl : ∀ m ∈ l, m < 4)
    (hf : ∀ x m, m < 4 → HfOnly d x → HfOnly d (f x m)) : HfOnly d (e.forEach l f) :=
  Dev.forEach_keeps h fun x m hm hx => hf x m (hl m hm) hx

/-- An effect on each chain of a field. -/
theorem forTeam {f : Dev → Nat → Dev} {c : Dev} (h : HfOnly d e) (hc : HfOnly d c) (hn : n < 4)
    (hf : ∀ x m, m < 4 → HfOnly d x → HfOnly d (f x m)) : HfOnly d (e.forEach (c.hfTeam n) f) :=
  h.forEach (hc.team_lt hn) hf

/-- An effect on each of the four chains. -/
theorem forAll {f : Dev → Nat → Dev} (h : HfOnly d e) (hf : ∀ x m, m < 4 → HfOnly d x → HfOnly d (f x m)) :
    HfOnly d (e.forEach (List.range 4) f) := h.forEach (by decide) hf

theorem ite {c : Prop} [Decidable c] {x y : Dev} (hx : HfOnly d x) (hy : HfOnly d y) : HfOnly d (if c then x else y) := by
  split <;> assumption

/-! ### Drives, tiers and stagger -/

theorem hfApplyDrive (h : HfOnly d e) (hn : n < 4) : HfOnly d (e.hfApplyDrive n) := by
  unfold Dev.hfApplyDrive
  split
  · exact h
  · exact ((h.setFld (hfWindow_chain hn)).setFld (hfWindow_chain hn)).onHf

theorem showTiers (h : HfOnly d e) : HfOnly d e.showTiers := h.forAll fun _ _ hm hx => hx.setFld (hfWindow_chain hm)

theorem showTracked (h : HfOnly d e) (hn : n < 4) : HfOnly d (e.showTracked n) :=
  h.forAll fun x m hm hx => by
    have hw : hfWindow (R.HFCn_XKm n m) := by simp only [hfWindow, R.HFCn_XKm]; omega
    exact (hx.setFld hw).setFld hw

theorem tierEvents {old : Dev} (h : HfOnly d e) : HfOnly d (e.tierEvents old) :=
  (Dev.forEach_keeps (P := HfOnly d) h fun _ _ _ hx => .ite hx.event hx).showTiers

theorem staggerEnd (h : HfOnly d e) (hn : n < 4) : HfOnly d (e.staggerEnd n) := by
  unfold Dev.staggerEnd
  split
  · exact h
  · exact (h.onHf).bump (hfWindow_chain hn)

theorem releaseDrives (h : HfOnly d e) : HfOnly d e.releaseDrives := h.forAll fun _ _ hm hx => .ite (hx.hfApplyDrive hm) hx

/-! ### The end of an attempt -/

theorem hfShowFrame {f : ResFrame} (h : HfOnly d e) (hn : n < 4) : HfOnly d (e.hfShowFrame n f) := by
  unfold Dev.hfShowFrame
  extract_lets s fl x1 x2 x3 x4 x5 x6
  have h4 : HfOnly d x4 := (((h.setReg (hfWindow_chain hn)).setReg (hfWindow_chain hn)).setReg (hfWindow_chain hn)).setReg (hfWindow_chain hn)
  have h5 : HfOnly d x5 := .ite (h4.bump (hfWindow_chain hn)) h4
  have h6 : HfOnly d x6 := .ite (h5.setFld (hfWindow_chain hn)) h5
  clear_value x6
  repeat' refine .ite (h6.bump (hfWindow_chain hn)) ?_
  exact h6

theorem portchChain_lt (p : Nat) : portchChain p < 4 := by
  simp only [portchChain, nbits]
  omega

theorem hfPush {f : ResFrame} (h : HfOnly d e) : HfOnly d (e.hfPush f) := by
  unfold Dev.hfPush
  exact HfOnly.onHf (.ite h (h.hfShowFrame (portchChain_lt _)))

theorem hfClose (h : HfOnly d e) (hn : n < 4) : HfOnly d (e.hfClose n) := by
  unfold Dev.hfClose
  extract_lets x
  have hx : HfOnly d x := h.forTeam h hn fun _ _ hm hy => (hy.setFlag (hfWindow_chain hm)).setFlag (hfWindow_chain hm)
  exact (hx.onHf).releaseDrives

theorem hfEnd {a : HfAttempt} {f : ResFrame} (h : HfOnly d e) (hn : n < 4) : HfOnly d (e.hfEnd n a f) := by
  unfold Dev.hfEnd
  extract_lets x
  have hx : HfOnly d x := by
    simp only [x]
    split
    · exact h.hfPush
    · exact h
  clear_value x
  exact ((hx.hfPush.hfClose hn).staggerEnd hn).onHf

theorem hfFail {a : HfAttempt} {code flags coll : Nat} (h : HfOnly d e) (hn : n < 4) : HfOnly d (e.hfFail n a code flags coll) :=
  (h.staggerEnd hn).hfEnd hn

/-! ### The start of a command -/

theorem hfGroups (h : HfOnly d e) : HfOnly d (e.hfGroups n) := by
  rw [Dev.hfGroups_of_none h.applying]
  exact h

theorem hfSend (h : HfOnly d e) (hn : n < 4) : HfOnly d (e.hfSend n) := by
  unfold Dev.hfSend
  split
  · exact h
  next a ha =>
    extract_lets x a' modt depth y z
    have hx : HfOnly d x := h.hfGroups
    clear_value x
    have hy : HfOnly d y := hx.forTeam hx hn fun _ _ hm hw =>
      (((hw.setFld (hfWindow_chain hm)).setFld (hfWindow_chain hm)).setFld (hfWindow_chain hm)).setFlag (hfWindow_chain hm)
    clear_value y
    have hz : HfOnly d z := hy.forAll fun _ _ _ hw => .ite hw.onHf hw
    clear_value z
    exact .ite h hz.onHf

theorem hfGo (h : HfOnly d e) (hn : n < 4) : HfOnly d (e.hfGo n) := by
  unfold Dev.hfGo
  split
  · exact h
  next a ha =>
    extract_lets yields x
    have hx : HfOnly d x := .ite h (h.bump (hfWindow_chain hn))
    clear_value x
    exact .ite (h.hfFail hn) (.ite (h.hfSend hn) hx.onHf)

theorem hfStart (h : HfOnly d e) (hn : n < 4) : HfOnly d (e.hfStart n) := .ite h (h.hfGo hn)

theorem hfCommand {a : HfAttempt} {tx : Bytes} {bits : Nat} {crc : Bool} (h : HfOnly d e) (hn : n < 4) :
    HfOnly d (e.hfCommand n a tx bits crc) := (h.onHf).hfStart hn

theorem hfBytes {a : HfAttempt} {tx : Bytes} (h : HfOnly d e) (hn : n < 4) : HfOnly d (e.hfBytes n a tx) := h.hfCommand hn

theorem sendActivate {a : HfAttempt} (h : HfOnly d e) (hn : n < 4) : HfOnly d (e.sendActivate n a) := by
  unfold Dev.sendActivate
  extract_lets p
  refine .ite (h.hfBytes hn) ?_
  split
  · exact h.hfFail hn
  · exact .ite (h.hfFail hn) (h.hfBytes hn)

theorem beginActivate {a : HfAttempt} (h : HfOnly d e) (hn : n < 4) : HfOnly d (e.beginActivate n a) :=
  .ite (.ite (h.hfCommand hn) (h.hfBytes hn)) (h.sendActivate hn)

theorem beginBlock {a : HfAttempt} (h : HfOnly d e) (hn : n < 4) : HfOnly d (e.beginBlock n a) := by
  unfold Dev.beginBlock
  split
  · exact h.hfFail hn
  · exact h.hfBytes hn

theorem hfBegin (h : HfOnly d e) (hn : n < 4) : HfOnly d (e.hfBegin n) := by
  unfold Dev.hfBegin
  split
  · exact h
  next a ha =>
    extract_lets x b
    have hx : HfOnly d x := .ite h h.hfGroups
    clear_value x
    split
    · exact hx.hfCommand hn
    · exact hx.hfCommand hn
    · split
      · exact hx.hfCommand hn
      · exact hx.hfBytes hn
      · exact hx.hfBytes hn
    · split
      · exact .ite (hx.hfBytes hn) (hx.beginActivate hn)
      · exact hx.beginBlock hn
    · exact hx.beginActivate hn
    · split
      · exact hx.beginActivate hn
      · exact .ite (hx.hfFail hn) (hx.hfBytes hn)
    · exact hx.hfCommand hn

/-! ### The rows -/

theorem fieldGuardEnd (h : HfOnly d e) (hn : n < 4) : HfOnly d (e.fieldGuardEnd n) := by
  unfold Dev.fieldGuardEnd
  extract_lets c guards
  exact .ite h ((h.reach.onHf).hfBegin hn)

theorem staggerRelease (h : HfOnly d e) (hn : n < 4) : HfOnly d (e.staggerRelease n) := by
  unfold Dev.staggerRelease
  split
  · exact h
  next y o ho =>
    extract_lets ahead x
    have hx : HfOnly d x := h.staggerEnd hn
    exact .ite h (.ite hx (.ite (hx.hfGo hn) (hx.hfSend hn)))

theorem sofAcquired {k : Sof} (h : HfOnly d e) : HfOnly d (e.sofAcquired n k) := by
  unfold Dev.sofAcquired
  split
  · exact .ite h.onHf h
  · exact h

theorem residualClear (h : HfOnly d e) : HfOnly d (e.residualClear n) := (h.onHf).showTiers

theorem couplingTrack {m : Nat} {k : Cplx} (h : HfOnly d e) (hn : n < 4) : HfOnly d (e.couplingTrack n m k) := by
  unfold Dev.couplingTrack
  split
  · exact h
  next s hs =>
    refine .ite h ?_
    extract_lets old t t' x f y
    have hx : HfOnly d x := (h.onHf).showTracked hn
    clear_value x
    have hy : HfOnly d y := .ite (hx.setFld (hfWindow_chain hn)).event (.ite (hx.setFld (hfWindow_chain hn)) hx)
    exact hy.tierEvents

end Dev.HfOnly

/-! ### The obligation -/

theorem Dev.chainsInRange.hf {d : Dev} (h : d.chainsInRange) : d.hfInRange := ⟨h.1, fun n _ => (h.2.1 n).2⟩

/-- Settles O60: each of these rows is an operation that keeps to `Dev.HfOnly`. -/
theorem hfFrames : Obligations.HfFrames := by
  unfold Obligations.HfFrames
  intro s c hrun hrange hrow
  have hrefl := Dev.HfOnly.refl hrange.hf
  have hspec : ∀ e : Dev, s.dev.HfOnly e →
      e = { s.dev with regs := e.regs, hf := e.hf, host := e.host, time := e.time, attic := e.attic, chans := e.chans } ∧
      e.host = { s.dev.host with ring := e.host.ring, dropped := e.host.dropped } ∧
      e.attic = { s.dev.attic with count := e.attic.count } ∧
      e.chans.map (fun y => (y.1, { y.2 with session := none })) = s.dev.chans.map (fun y => (y.1, { y.2 with session := none })) ∧
      ∀ a, a ≠ R.HOST_EVT_STAT → a < 0x200 ∨ 0x400 ≤ a → e.reg a = s.dev.reg a := fun e he => by
    have hchans : e.chans = s.dev.chans := (congrArg Dev.chans he.rest :)
    refine ⟨?_, he.host, he.attic, by rw [hchans], fun a hne ha => he.regs a ?_⟩
    · rw [hchans]; exact he.rest
    · unfold hfWindow; omega
  cases c with
  | fieldGuardEnd n => exact completes_onLive (fun d => (d.fieldGuardEnd n).settle) hrun rfl ⟨_, rfl, hspec _ (hrefl.fieldGuardEnd n.isLt)⟩
  | staggerRelease n => exact completes_onLive (fun d => (d.staggerRelease n).settle) hrun rfl ⟨_, rfl, hspec _ (hrefl.staggerRelease n.isLt)⟩
  | sofAcquired n k => exact completes_onLive (·.sofAcquired n k) hrun rfl ⟨_, rfl, hspec _ hrefl.sofAcquired⟩
  | residualClear n => exact completes_onLive (fun d => (d.residualClear n).settle) hrun rfl ⟨_, rfl, hspec _ hrefl.residualClear⟩
  | couplingTrackUpdate n m k => exact completes_onLive (·.couplingTrack n m k) hrun rfl ⟨_, rfl, hspec _ (hrefl.couplingTrack n.isLt)⟩
  | _ => cases hrow

end Sys2Proof.Machine
end

section
/-!
PROOFS. HF exchanges (Chapters 4 and 5): when a command starts, and what its start leaves.
-/

namespace Sys2Proof.Machine

open Sys2Proof

-- one proof after another: the check bounds the memory that the stacks of parallel proofs take
set_option Elab.async false

/-! ### Fields that stand as they are -/

/-- The field that a chain drives, and what tiers and stagger read of it. -/
def HfChain.sameField (c x : HfChain) : Prop :=
  x.port = c.port ∧ x.partner = c.partner ∧ x.tracked = c.tracked ∧ x.forced = c.forced ∧ x.leaving = c.leaving

/-- The fields, the ports' profiles and the sets stand as they are: a chain beyond the four may have been forgotten. -/
structure Dev.SameFields (d e : Dev) : Prop where
  chains : ∀ m, m < 4 → (d.hfc m).sameField (e.hfc m)
  beyond : ∀ m, e.hfc m = {} ∨ (d.hfc m).sameField (e.hfc m)
  tables : e.tables = d.tables
  ports : ∀ p, e.reg (R.HFPn_CFG p) = d.reg (R.HFPn_CFG p)

namespace Dev.SameFields

variable {d e : Dev}

theorem refl (d : Dev) : SameFields d d := ⟨fun _ _ => ⟨rfl, rfl, rfl, rfl, rfl⟩, fun _ => .inr ⟨rfl, rfl, rfl, rfl, rfl⟩, rfl, fun _ => rfl⟩

theorem of_onlyRegs {x : Dev} {l : List Nat} (h : SameFields d e) (hx : e.onlyRegs x l) (hl : ∀ a ∈ l, a % 16 ≠ 0 := by decide) : SameFields d x := by
  have hhf : x.hf = e.hf := (congrArg Dev.hf hx.1 :)
  have hchain : ∀ m, x.hfc m = e.hfc m := fun m => by rw [Dev.hfc, hhf, Dev.hfc]
  refine ⟨fun m hm => by rw [hchain]; exact h.chains m hm, fun m => by rw [hchain]; exact h.beyond m,
    (congrArg Dev.tables hx.1 :).trans h.tables, fun p => (hx.2 _ fun hm => hl _ hm ?_).trans (h.ports p)⟩
  simp only [R.HFPn_CFG]
  omega

theorem onHf {n : Nat} {f : HfChain → HfChain} (h : SameFields d e) (hf : ∀ c : HfChain, c.sameField (f c) := by exact fun _ => ⟨rfl, rfl, rfl, rfl, rfl⟩) :
    SameFields d (e.onHf n f) where
  chains m hm := by
    by_cases hmn : m = n
    · subst hmn
      rw [Dev.hfc_onHf hm]
      obtain ⟨h1, h2, h3, h4, h5⟩ := h.chains m hm
      obtain ⟨g1, g2, g3, g4, g5⟩ := hf (e.hfc m)
      exact ⟨g1.trans h1, g2.trans h2, g3.trans h3, g4.trans h4, g5.trans h5⟩
    · rw [Dev.hfc_onHf_other hm hmn]; exact h.chains m hm
  beyond m := by
    by_cases hm : m < 4
    · by_cases hmn : m = n
      · subst hmn
        rw [Dev.hfc_onHf hm]
        obtain ⟨h1, h2, h3, h4, h5⟩ := h.chains m hm
        obtain ⟨g1, g2, g3, g4, g5⟩ := hf (e.hfc m)
        exact .inr ⟨g1.trans h1, g2.trans h2, g3.trans h3, g4.trans h4, g5.trans h5⟩
      · rw [Dev.hfc_onHf_other hm hmn]; exact h.beyond m
    · refine .inl ?_
      have hlen : (tableSet 4 {} e.hf n (f (e.hfc n))).length ≤ m := by
        rw [tableSet, List.length_map, List.length_range]
        omega
      rw [Dev.hfc, Dev.onHf, List.getD_eq_default _ _ hlen]
  tables := h.tables
  ports := h.ports

theorem reach {t : Nat} (h : SameFields d e) : SameFields d (e.reach t) := ⟨h.chains, h.beyond, h.tables, h.ports⟩

/-! What is read of the fields that stand -/

theorem hfProfile (h : SameFields d e) (p : Nat) : e.hfProfile p = d.hfProfile p := by
  rw [Dev.hfProfile, Dev.fld_eq_of_reg (h.ports p), Dev.profile, h.tables]
  rfl

theorem hfChainOn (h : SameFields d e) (p : Nat) : e.hfChainOn p = d.hfChainOn p := by
  unfold Dev.hfChainOn
  refine List.find?_congr fun m hm => ?_
  rw [(h.chains m (List.mem_range.1 hm)).1]

theorem tier (h : SameFields d e) (p q : Nat) : e.tier p q = d.tier p q := by
  have hset : e.measuredSet p q = d.measuredSet p q := by rw [Dev.measuredSet, h.tables, Dev.measuredSet]
  have hnames : ∀ p q, e.names p q = d.names p q := fun p q => by rw [Dev.names, h.hfProfile, Dev.names]
  unfold Dev.tier
  rw [hset, h.hfChainOn, h.hfChainOn, hnames, hnames]
  split
  next x i j _ =>
    have hon : ∀ p n, d.hfChainOn p = some n → (e.hfc n).tracked = (d.hfc n).tracked := fun p n hn =>
      (h.chains n (List.mem_range.1 (List.mem_of_find?_eq_some hn))).2.2.1
    split
    next n m hn hm => rw [hon p n hn, hon q m hm]
    next => rfl
  next => rfl

theorem chainTier (h : SameFields d e) (n m : Nat) : e.chainTier n m = 0 ∨ e.chainTier n m = d.chainTier n m := by
  obtain hn | ⟨hn1, hn2, -, hn4, -⟩ := h.beyond n
  · refine .inl ?_
    rw [Dev.chainTier, hn]
  obtain hm | ⟨hm1, -, -, hm4, -⟩ := h.beyond m
  · refine .inl ?_
    rw [Dev.chainTier, hm]
    cases (e.hfc n).port <;> rfl
  refine .inr ?_
  have hpaired : e.paired n m = d.paired n m := by rw [Dev.paired, Dev.hfOn, Dev.hfOn, hn1, hm1, hn2]; rfl
  have hnow : ∀ p q, e.tierNow n m p q = d.tierNow n m p q := fun p q => by rw [Dev.tierNow, h.tier, hn4, hm4]; rfl
  unfold Dev.chainTier
  rw [hn1, hm1, hpaired]
  split
  · rw [hnow]
  · rfl

theorem hfTeam (h : SameFields d e) {n : Nat} (hn : n < 4) : e.hfTeam n = d.hfTeam n := by rw [Dev.hfTeam, (h.chains n hn).2.1, Dev.hfTeam]

theorem stagPair (h : SameFields d e) {n m : Nat} (hn : n < 4) (hm : m < 4) (hp : e.stagPair n m = true) : d.stagPair n m = true := by
  unfold Dev.stagPair at hp ⊢
  rw [h.hfTeam hn, h.hfTeam hm] at hp
  simp only [List.any_eq_true, decide_eq_true_eq] at hp ⊢
  obtain ⟨x, hx, y, hy, hxy⟩ := hp
  refine ⟨x, hx, y, hy, ?_⟩
  obtain h0 | heq := h.chainTier x y
  · rw [h0] at hxy
    exact absurd hxy (by decide)
  · rwa [heq] at hxy

theorem not_staggered (h : SameFields d e) {n : Nat} (hn : n < 4) (hbusy : ∀ m, m < 4 → e.hfBusy m = true → d.hfBusy m = true)
    (hd : d.staggered n = false) : e.staggered n = false := by
  rw [Bool.eq_false_iff] at hd ⊢
  refine fun he => hd ?_
  simp only [Dev.staggered, List.any_eq_true, List.mem_range, Bool.and_eq_true] at he ⊢
  obtain ⟨m, hm, hb, hp⟩ := he
  exact ⟨m, hm, hbusy m hm hb, h.stagPair hn hm hp⟩

theorem not_partnerWaits (h : SameFields d e) {n : Nat} (hn : n < 4)
    (hfrom : ∀ m, m < 4 → (e.hfc m).stagFrom.isSome = true → (d.hfc m).stagFrom.isSome = true) (hd : d.partnerWaits n = false) :
    e.partnerWaits n = false := by
  rw [Bool.eq_false_iff] at hd ⊢
  refine fun he => hd ?_
  simp only [Dev.partnerWaits, List.any_eq_true, List.mem_range, Bool.and_eq_true] at he ⊢
  obtain ⟨m, hm, hb, hp⟩ := he
  exact ⟨m, hm, hfrom m hm hb, h.stagPair hn hm hp⟩

theorem not_hfWithdrawn (h : SameFields d e) {n : Nat} (hn : n < 4) (hd : d.hfWithdrawn n = false) : e.hfWithdrawn n = false := by
  rw [Bool.eq_false_iff] at hd ⊢
  refine fun he => hd ?_
  unfold Dev.hfWithdrawn at he ⊢
  rw [h.hfTeam hn] at he
  rw [List.any_eq_true] at he ⊢
  obtain ⟨m, hm, hp⟩ := he
  refine ⟨m, hm, ?_⟩
  obtain h0 | h1 := h.beyond m
  · rw [h0] at hp
    cases hp
  · rw [h1.1] at hp
    obtain ⟨p, hp, hoff⟩ := (Option.any_eq_true _ _).1 hp
    refine (Option.any_eq_true _ _).2 ⟨p, hp, ?_⟩
    rwa [Dev.flag, Dev.fld_eq_of_reg (h.ports p)] at hoff

theorem not_hfLeaving (h : SameFields d e) {n : Nat} (hn : n < 4) (hd : d.hfLeaving n = false) : e.hfLeaving n = false := by
  rw [Bool.eq_false_iff] at hd ⊢
  refine fun he => hd ?_
  unfold Dev.hfLeaving at he ⊢
  rw [h.hfTeam hn] at he
  rw [List.any_eq_true] at he ⊢
  obtain ⟨m, hm, hp⟩ := he
  refine ⟨m, hm, ?_⟩
  obtain h0 | ⟨-, -, -, -, h1⟩ := h.beyond m
  · rw [h0] at hp
    cases hp
  · rwa [h1] at hp

end Dev.SameFields

/-! ### A command starts -/

theorem Dev.flag_eq_of_fld {d e : Dev} {f : Fld} (h : e.fld f = d.fld f) : e.flag f = d.flag f := by rw [Dev.flag, h]; rfl

/-- The chains show the protocol and the modulation of the command that starts. -/
theorem Dev.shownUse (d : Dev) (n : Nat) (l : List Nat) (proto modt depth : Nat) :
    let y := d.forEach (n :: l) fun d m => (((d.setFld (F.HFCn_STAT_PROTO_USE m) proto).setFld (F.HFCn_STAT_MODT_USE m) modt).setFld
      (F.HFCn_STAT_DEPTH_USE m) depth).setFlag (F.HFCn_STAT_MODULATING m) true
    d.onlyRegs y ((n :: l).map R.HFCn_STAT) ∧ y.flag (F.HFCn_STAT_MODULATING n) = true ∧ y.fld (F.HFCn_STAT_PROTO_USE n) = proto % 4 := by
  have hstep : ∀ x : Dev,
      ((((x.setFld (F.HFCn_STAT_PROTO_USE n) proto).setFld (F.HFCn_STAT_MODT_USE n) modt).setFld
        (F.HFCn_STAT_DEPTH_USE n) depth).setFlag (F.HFCn_STAT_MODULATING n) true).flag (F.HFCn_STAT_MODULATING n) = true ∧
      ((((x.setFld (F.HFCn_STAT_PROTO_USE n) proto).setFld (F.HFCn_STAT_MODT_USE n) modt).setFld
        (F.HFCn_STAT_DEPTH_USE n) depth).setFlag (F.HFCn_STAT_MODULATING n) true).fld (F.HFCn_STAT_PROTO_USE n) = proto % 4 := fun x => by
    refine ⟨Dev.flag_setFlag rfl (Nat.le_of_ble_eq_true rfl), ?_⟩
    rw [Dev.fld_setFlag_other (.inr (.inl (Nat.le_of_ble_eq_true rfl))) (Nat.le_of_ble_eq_true rfl),
      Dev.fld_setFld_other (.inr (.inr (Nat.le_of_ble_eq_true rfl))) (Nat.le_of_ble_eq_true rfl),
      Dev.fld_setFld_other (.inr (.inr (Nat.le_of_ble_eq_true rfl))) (Nat.le_of_ble_eq_true rfl), Dev.fld_setFld (Nat.le_of_ble_eq_true rfl)]
    rfl
  refine ⟨?_, ?_⟩
  · refine (Dev.onlyRegs_refl d _).forEach fun x m hm hx => ?_
    have hin : R.HFCn_STAT m ∈ (n :: l).map R.HFCn_STAT := List.mem_map_of_mem hm
    exact (((hx.fld hin).fld hin).fld hin).flag hin
  · rw [Dev.forEach_cons]
    refine Dev.forEach_keeps (P := fun y => y.flag (F.HFCn_STAT_MODULATING n) = true ∧ y.fld (F.HFCn_STAT_PROTO_USE n) = proto % 4) (hstep d)
      fun x m _ hx => ?_
    by_cases hmn : m = n
    · subst hmn
      exact hstep x
    · have hfar : ∀ f g : Fld, f.addr = R.HFCn_STAT n → g.addr = R.HFCn_STAT m → f.addr ≠ g.addr := fun f g hf hg => by
        rw [hf, hg]; simp only [R.HFCn_STAT]; omega
      have hkeep : ∀ g : Fld, g.addr = R.HFCn_STAT n → ((((x.setFld (F.HFCn_STAT_PROTO_USE m) proto).setFld (F.HFCn_STAT_MODT_USE m) modt).setFld
          (F.HFCn_STAT_DEPTH_USE m) depth).setFlag (F.HFCn_STAT_MODULATING m) true).fld g = x.fld g := fun g hg => by
        refine Dev.fld_eq_of_reg ?_
        rw [Dev.setFlag, Dev.reg_setFld_other (hfar g _ hg rfl), Dev.reg_setFld_other (hfar g _ hg rfl), Dev.reg_setFld_other (hfar g _ hg rfl),
          Dev.reg_setFld_other (hfar g _ hg rfl)]
      exact ⟨(Dev.flag_eq_of_fld (hkeep _ rfl)).trans hx.1, (hkeep _ rfl).trans hx.2⟩

/-- A change to the chains whose effect on each is to move `yields` alone. -/
theorem Dev.yieldsOff (d : Dev) (p : Dev → Nat → Bool) :
    let z := d.forEach (List.range 4) fun d m => if p d m then d.onHf m fun c => { c with yields := false } else d
    z = { d with hf := z.hf } ∧ ∀ m, m < 4 → z.hfc m = { d.hfc m with yields := (z.hfc m).yields } := by
  refine Dev.forEach_keeps (P := fun z => z = { d with hf := z.hf } ∧ ∀ m, m < 4 → z.hfc m = { d.hfc m with yields := (z.hfc m).yields })
    ⟨rfl, fun _ _ => rfl⟩ fun x m _ hx => ?_
  obtain ⟨hrest, hchain⟩ := hx
  split
  · refine ⟨(congrArg (fun y : Dev => { y with hf := tableSet 4 {} x.hf m { x.hfc m with yields := false } }) hrest :), fun k hk => ?_⟩
    by_cases hkm : k = m
    · subst hkm
      rw [Dev.hfc_onHf hk, hchain k hk]
    · rw [Dev.hfc_onHf_other hk hkm]
      exact hchain k hk
  · exact ⟨hrest, hchain⟩

/-- A command starts: the frame that goes out, and what the chains show (R23, R106, R150). -/
theorem Dev.hfSend_spec {d : Dev} {n : Nat} {a : HfAttempt} (hn : n < 4) (hatt : (d.hfc n).att = some a)
    (hbuf : (d.hfc a.rxChain).bufs.length + a.fills < 2) (happ : d.applying = []) :
    ((d.hfSend n).hfc n).phase = .sent ∧ ((d.hfSend n).hfc n).sentAt = (d.hfSend n).time ∧ ((d.hfSend n).hfc n).stagFrom = (d.hfc n).stagFrom ∧
      ((d.hfSend n).hfc n).tx = (if (d.hfc n).txCrc then withHfCrc (d.hfProtoOf n a).proto (d.hfc n).tx else (d.hfc n).tx) ∧
      (d.hfSend n).flag (F.HFCn_STAT_MODULATING n) = true ∧ (d.hfSend n).fld (F.HFCn_STAT_PROTO_USE n) = (d.hfProtoOf n a).proto % 4 ∧
      ∀ k, (∀ m, k ≠ R.HFCn_STAT m) → (d.hfSend n).reg k = d.reg k := by
  unfold Dev.hfSend
  rw [hatt]
  dsimp only
  rw [if_neg (by omega), Dev.hfGroups_of_none happ]
  generalize (if (d.hfProtoOf n a).sched then hfModt (d.hfProtoOf n a).params else d.fld (F.HFCn_PROTO_MODT n)) = modt
  generalize (if (d.hfProtoOf n a).sched then hfDepth (d.hfProtoOf n a).params else d.fld (F.HFCn_PROTO_DEPTH n)) = depth
  obtain ⟨hy, hmod, huse⟩ := d.shownUse n (d.hfc n).partner.toList (d.hfProtoOf n a).proto modt depth
  rw [show d.hfTeam n = n :: (d.hfc n).partner.toList from rfl]
  generalize d.forEach (n :: (d.hfc n).partner.toList) _ = y at hy hmod huse ⊢
  obtain ⟨hz, hchain⟩ := y.yieldsOff fun d m => d.stagPair n m
  generalize y.forEach (List.range 4) _ = z at hz hchain ⊢
  have hyc : y.hfc n = d.hfc n := by rw [Dev.hfc, (congrArg Dev.hf hy.1 :), Dev.hfc]
  have hzc := hchain n hn
  rw [hyc] at hzc
  have hreg : ∀ k, z.reg k = y.reg k := fun k => by rw [Dev.reg, (congrArg Dev.regs hz :), Dev.reg]
  rw [Dev.hfc_onHf hn, hzc]
  refine ⟨rfl, rfl, rfl, rfl, ?_, ?_, fun k hk => ?_⟩
  · exact (Dev.flag_eq_of_fld (Dev.fld_eq_of_reg (hreg _))).trans hmod
  · exact (Dev.fld_eq_of_reg (hreg _)).trans huse
  · refine (hreg k).trans (hy.2 k fun hm => ?_)
    obtain ⟨m, -, hm⟩ := List.mem_map.1 hm
    exact hk m hm.symm

end Sys2Proof.Machine
end

section
/-!
PROOFS. HF exchanges from the guard to the start of the reply (R123, R126, R145, R156, R157).
-/

namespace Sys2Proof.Machine

open Sys2Proof

-- one proof after another: the check bounds the memory that the stacks of parallel proofs take
set_option Elab.async false

/-! ### Beginning and starting -/

theorem Dev.hfProtoOf_fields (d : Dev) (n : Nat) (a : HfAttempt) : (d.hfProtoOf n a).sched = a.sched ∧ (d.hfProtoOf n a).kind = a.kind ∧
    (d.hfProtoOf n a).params = a.params ∧ (d.hfProtoOf n a).tmpl = a.tmpl ∧ (d.hfProtoOf n a).tbits = a.tbits ∧
    (d.hfProtoOf n a).rxChain = a.rxChain ∧ (d.hfProtoOf n a).fills = a.fills ∧
    (d.hfProtoOf n a).proto = if a.sched then a.proto else d.fld (F.HFCn_PROTO_PROTO n) := by
  unfold Dev.hfProtoOf
  split
  · exact ⟨rfl, rfl, rfl, rfl, rfl, rfl, rfl, rfl⟩
  · exact ⟨rfl, rfl, rfl, rfl, rfl, rfl, rfl, rfl⟩

/-- Nothing keeps the command in hand from starting. -/
structure Dev.MayStart (d : Dev) (n : Nat) : Prop where
  withdrawn : d.hfWithdrawn n = false
  leaving : d.hfLeaving n = false
  staggered : d.staggered n = false
  waits : d.partnerWaits n = false

theorem Dev.MayStart.congr {d e : Dev} {n : Nat} (h : d.MayStart n) (hn : n < 4) (hs : d.SameFields e)
    (hbusy : ∀ m, m < 4 → e.hfBusy m = true → d.hfBusy m = true)
    (hfrom : ∀ m, m < 4 → (e.hfc m).stagFrom.isSome = true → (d.hfc m).stagFrom.isSome = true) : e.MayStart n :=
  ⟨hs.not_hfWithdrawn hn h.withdrawn, hs.not_hfLeaving hn h.leaving, hs.not_staggered hn hbusy h.staggered, hs.not_partnerWaits hn hfrom h.waits⟩

/-- A change to one chain that leaves it outside an exchange. -/
theorem Dev.hfBusy_onHf {d : Dev} {n m : Nat} {f : HfChain → HfChain} (hm : m < 4) (hf : (f (d.hfc n)).phase = .idle ∨ (f (d.hfc n)).phase = .ready)
    (hb : (d.onHf n f).hfBusy m = true) : d.hfBusy m = true := by
  unfold Dev.hfBusy at hb ⊢
  by_cases hmn : m = n
  · subst hmn
    rw [Dev.hfc_onHf hm] at hb
    obtain h | h := hf <;> rw [h] at hb <;> cases hb
  · rwa [Dev.hfc_onHf_other hm hmn] at hb

theorem Dev.stagFrom_onHf {d : Dev} {n m : Nat} {f : HfChain → HfChain} (hm : m < 4) (hf : (f (d.hfc n)).stagFrom = (d.hfc n).stagFrom)
    (hs : ((d.onHf n f).hfc m).stagFrom.isSome = true) : (d.hfc m).stagFrom.isSome = true := by
  by_cases hmn : m = n
  · subst hmn
    rwa [Dev.hfc_onHf hm, hf] at hs
  · rwa [Dev.hfc_onHf_other hm hmn] at hs

theorem Dev.hfStart_of_mayStart {d : Dev} {n : Nat} {a : HfAttempt} (hatt : (d.hfc n).att = some a) (h : d.MayStart n) : d.hfStart n = d.hfSend n := by
  unfold Dev.hfStart Dev.hfGo
  simp only [h.leaving, hatt, h.withdrawn, h.staggered, h.waits, Bool.false_eq_true, if_false, Bool.not_false, Bool.and_self, if_true]

/-- A chain with a command in hand. -/
def HfChain.loaded (c : HfChain) (a : HfAttempt) (tx : Bytes) (bits : Nat) (crc : Bool) : HfChain :=
  { c with att := some a, tx := tx, txBits := bits, txCrc := crc, phase := .ready }

theorem Dev.hfCommand_eq (d : Dev) (n : Nat) (a : HfAttempt) (tx : Bytes) (bits : Nat) (crc : Bool) :
    d.hfCommand n a tx bits crc = (d.onHf n (·.loaded a tx bits crc)).hfStart n := rfl

theorem HfAttempt.rxChain_lt (a : HfAttempt) : a.rxChain < 4 := Dev.HfOnly.portchChain_lt _

/-- A frame that the template gives is put in hand and starts. -/
theorem Dev.hfBegin_plain {d : Dev} {n : Nat} {a : HfAttempt} (hn : n < 4) (hatt : (d.hfc n).att = some a) (hkind : a.kind = 0)
    (hstart : d.MayStart n) (hbuf : (d.hfc a.rxChain).bufs.length + a.fills < 2) (happ : d.applying = []) :
    let proto := if a.sched then a.proto else d.fld (F.HFCn_PROTO_PROTO n)
    let e := d.hfBegin n
    (e.hfc n).phase = .sent ∧ (e.hfc n).sentAt = e.time ∧ (e.hfc n).tx = (if hfCrcOff a.params then a.tmpl else withHfCrc proto a.tmpl) ∧
      e.flag (F.HFCn_STAT_MODULATING n) = true ∧ e.fld (F.HFCn_STAT_PROTO_USE n) = proto % 4 := by
  intro proto
  obtain ⟨hsched, hk, hparams, htmpl, htbits, hrx, hfills, hproto⟩ := d.hfProtoOf_fields n a
  have hbegin : d.hfBegin n = d.hfCommand n (d.hfProtoOf n a) a.tmpl a.tbits (!hfCrcOff a.params) := by
    have hkind' : (d.hfProtoOf n a).kind = 0 := hk.trans hkind
    unfold Dev.hfBegin
    simp only [hatt, hstart.staggered, hstart.waits, Bool.or_self, Bool.false_eq_true, if_false, Dev.hfGroups_of_none happ, hkind', hparams, htmpl,
      htbits]
  rw [hbegin, Dev.hfCommand_eq]
  generalize d.hfProtoOf n a = b at hsched hrx hfills hproto
  have hsame : d.SameFields (d.onHf n (·.loaded b a.tmpl a.tbits (!hfCrcOff a.params))) := (Dev.SameFields.refl d).onHf
  have hself := Dev.hfc_onHf (d := d) (f := (·.loaded b a.tmpl a.tbits (!hfCrcOff a.params))) hn
  have hmay := hstart.congr hn hsame (fun m hm => Dev.hfBusy_onHf hm (.inr rfl)) (fun m hm => Dev.stagFrom_onHf hm rfl)
  have hbufs : ((d.onHf n (·.loaded b a.tmpl a.tbits (!hfCrcOff a.params))).hfc b.rxChain).bufs = (d.hfc a.rxChain).bufs := by
    rw [hrx]
    by_cases hr : a.rxChain = n
    · rw [hr, hself]; rfl
    · rw [Dev.hfc_onHf_other a.rxChain_lt hr]
  have happ' : (d.onHf n (·.loaded b a.tmpl a.tbits (!hfCrcOff a.params))).applying = [] := happ
  have hfld := Dev.fld_onHf d n (·.loaded b a.tmpl a.tbits (!hfCrcOff a.params)) (F.HFCn_PROTO_PROTO n)
  generalize d.onHf n (·.loaded b a.tmpl a.tbits (!hfCrcOff a.params)) = e at *
  have hatt' : (e.hfc n).att = some b := by rw [hself]; rfl
  have hcrc : (e.hfc n).txCrc = (!hfCrcOff a.params) ∧ (e.hfc n).tx = a.tmpl := by rw [hself]; exact ⟨rfl, rfl⟩
  have hb : (e.hfProtoOf n b).proto = proto := by
    rw [(e.hfProtoOf_fields n b).2.2.2.2.2.2.2, hsched, hfld, hproto]
    simp only [proto]
    split <;> rfl
  rw [Dev.hfStart_of_mayStart hatt' hmay]
  obtain ⟨hphase, hsent, -, htx, hmod, huse, -⟩ := Dev.hfSend_spec hn hatt' (by rw [hbufs, hfills]; exact hbuf) happ'
  rw [hb, hcrc.1, hcrc.2] at htx
  rw [hb] at huse
  refine ⟨hphase, hsent, htx.trans ?_, hmod, huse⟩
  cases hfCrcOff a.params <;> rfl

end Sys2Proof.Machine
end

section
/-!
PROOFS. How an HF attempt ends: frames pushed, the exchange closed, the drives released (R22, R105, R123, R173).
-/

namespace Sys2Proof.Machine

open Sys2Proof

-- one proof after another: the check bounds the memory that the stacks of parallel proofs take
set_option Elab.async false

/-! ### A frame pushed -/

/-- The registers that a frame passed on by a chain shows in. -/
def shownRegs (r : Nat) : List Nat :=
  [R.HFCn_RXSTAT r, R.HFCn_RXLVL r, R.HFCn_RXPH r, R.HFCn_FDT r, R.HFCn_RXCNT0 r, R.HFCn_RXCNT1 r, R.HFCn_RXCNT2 r, R.HFCn_STAT r]

theorem Dev.hfShowFrame_spec (d : Dev) (r : Nat) (f : ResFrame) : d.onlyRegs (d.hfShowFrame r f) (shownRegs r) ∧
    (f.code / 16 = 5 → (d.hfShowFrame r f).fld (F.HFCn_STAT_LAST_CODE r) = f.code) := by
  unfold Dev.hfShowFrame
  extract_lets s fl x1 x2 x3 x4 x5 x6
  have h4 : d.onlyRegs x4 (shownRegs r) :=
    ((((Dev.onlyRegs_refl d _).reg (by simp [shownRegs])).reg (by simp [shownRegs])).reg (by simp [shownRegs])).reg (by simp [shownRegs])
  clear_value x4
  have h5 : d.onlyRegs x5 (shownRegs r) := by
    simp only [x5]
    split
    · exact h4.fld (by simp [shownRegs, F.HFCn_RXCNT0_GOOD, R.HFCn_RXCNT0])
    · exact h4
  clear_value x5
  have h6 : d.onlyRegs x6 (shownRegs r) ∧ (f.code / 16 = 5 → x6.fld (F.HFCn_STAT_LAST_CODE r) = f.code) := by
    simp only [x6]
    split
    next hc =>
      refine ⟨h5.fld (by simp [shownRegs, F.HFCn_STAT_LAST_CODE, R.HFCn_STAT]), fun _ => Dev.fld_setFld_small (Nat.le_of_ble_eq_true rfl) ?_⟩
      have : (2 : Nat) ^ ((F.HFCn_STAT_LAST_CODE r).hi + 1 - (F.HFCn_STAT_LAST_CODE r).lo) = 256 := rfl
      omega
    next hc => exact ⟨h5, fun h => absurd h hc⟩
  clear_value x6
  have hbump : ∀ g : Fld, g.addr ∈ shownRegs r → g.addr ≠ R.HFCn_STAT r → d.onlyRegs (x6.bump g 1) (shownRegs r) ∧
      (f.code / 16 = 5 → (x6.bump g 1).fld (F.HFCn_STAT_LAST_CODE r) = f.code) := fun g hg hne =>
    ⟨h6.1.fld hg, fun hc => (Dev.fld_setFld_other (.inl (Ne.symm hne)) (Nat.le_of_ble_eq_true rfl)).trans (h6.2 hc)⟩
  have hcnt : ∀ g : Fld, g.addr ∈ [R.HFCn_RXCNT0 r, R.HFCn_RXCNT1 r, R.HFCn_RXCNT2 r] → g.addr ∈ shownRegs r ∧ g.addr ≠ R.HFCn_STAT r := fun g hg => by
    simp only [List.mem_cons, List.not_mem_nil, or_false] at hg
    obtain h | h | h := hg
    all_goals
      rw [h]
      refine ⟨by simp [shownRegs], ?_⟩
      simp only [R.HFCn_RXCNT0, R.HFCn_RXCNT1, R.HFCn_RXCNT2, R.HFCn_STAT]
      omega
  have hcount : ∀ g : Fld, g.addr ∈ [R.HFCn_RXCNT0 r, R.HFCn_RXCNT1 r, R.HFCn_RXCNT2 r] → _ := fun g hg => hbump g (hcnt g hg).1 (hcnt g hg).2
  split
  · exact hcount _ (by simp [F.HFCn_RXCNT0_CRC, R.HFCn_RXCNT0])
  split
  · exact hcount _ (by simp [F.HFCn_RXCNT1_NORESP, R.HFCn_RXCNT1])
  split
  · exact hcount _ (by simp [F.HFCn_RXCNT1_COLL, R.HFCn_RXCNT1])
  split
  · exact hcount _ (by simp [F.HFCn_RXCNT2_CLIP, R.HFCn_RXCNT2])
  split
  · exact hcount _ (by simp [F.HFCn_RXCNT2_RATE, R.HFCn_RXCNT2])
  split
  · exact hcount _ (by simp [F.HFCn_RXCNT2_FRAMING, R.HFCn_RXCNT2])
  · exact h6

/-- A whole frame enters the buffers of its receiving chain and shows in its registers. -/
theorem Dev.hfPush_spec (d : Dev) {f : ResFrame} (hwhole : f.part = false) :
    let r := portchChain f.tag.portch
    (d.hfPush f).hfc r = { d.hfc r with bufs := (d.hfc r).bufs ++ [f] } ∧ (∀ m, m < 4 → m ≠ r → (d.hfPush f).hfc m = d.hfc m) ∧
      (∀ a, a ∉ shownRegs r → (d.hfPush f).reg a = d.reg a) ∧ (f.code / 16 = 5 → (d.hfPush f).fld (F.HFCn_STAT_LAST_CODE r) = f.code) := by
  intro r
  obtain ⟨hshow, hcode⟩ := d.hfShowFrame_spec r f
  have hpush : d.hfPush f = (d.hfShowFrame r f).onHf r fun c => { c with bufs := c.bufs ++ [f] } := by
    unfold Dev.hfPush
    simp only [hwhole, Bool.false_eq_true, if_false, r]
  rw [hpush]
  generalize d.hfShowFrame r f = x at hshow hcode
  have hchain : ∀ m, x.hfc m = d.hfc m := fun m => by rw [Dev.hfc, (congrArg Dev.hf hshow.1 :), Dev.hfc]
  refine ⟨?_, fun m hm hne => ?_, hshow.2, hcode⟩
  · rw [Dev.hfc_onHf (Dev.HfOnly.portchChain_lt _), hchain]
  · rw [Dev.hfc_onHf_other hm hne, hchain]

/-! ### The exchange closed -/

/-- What the end of an exchange may change of a chain. -/
def HfChain.atRest (c x : HfChain) : Prop :=
  x = { c with phase := x.phase, txPend := x.txPend, carrier := x.carrier, stagFrom := x.stagFrom, yields := x.yields, staggerUs := x.staggerUs }

theorem HfChain.atRest.refl (c : HfChain) : c.atRest c := rfl

theorem HfChain.atRest.trans {a b c : HfChain} (h : a.atRest b) (g : b.atRest c) : a.atRest c := by
  unfold HfChain.atRest at *
  rw [g, h]

/-- A field that the end of an exchange leaves: not the window and modulation flags, the output, or the stagger wait. -/
structure keptAtClose (g : Fld) : Prop where
  hi : g.hi < 32
  stat : ∀ m, g.addr = R.HFCn_STAT m → g.hi < 21 ∨ 22 < g.lo
  power : ∀ m, g.addr ≠ R.HFCn_POWER m
  stag : ∀ m, g.addr ≠ R.HFCn_STAG_TIME m

/-- The end of an exchange: each chain at rest, and the fields that it leaves. -/
structure Dev.AtRest (d e : Dev) : Prop where
  chains : ∀ m, m < 4 → (d.hfc m).atRest (e.hfc m)
  flds : ∀ g, keptAtClose g → e.fld g = d.fld g

namespace Dev.AtRest

variable {d e x : Dev} {n : Nat}

theorem refl (d : Dev) : AtRest d d := ⟨fun _ _ => .refl _, fun _ _ => rfl⟩

theorem trans (h : AtRest d e) (g : AtRest e x) : AtRest d x :=
  ⟨fun m hm => (h.chains m hm).trans (g.chains m hm), fun f hf => (g.flds f hf).trans (h.flds f hf)⟩

theorem setFld {f : Fld} {v : Nat} (h : AtRest d e) (hf : ∀ g, keptAtClose g → g.addr ≠ f.addr ∨ g.hi < f.lo ∨ f.hi < g.lo) :
    AtRest d (e.setFld f v) :=
  ⟨h.chains, fun g hg => (Dev.fld_setFld_other (hf g hg) hg.hi).trans (h.flds g hg)⟩

theorem power {f : Fld} {v : Nat} {m : Nat} (h : AtRest d e) (hf : f.addr = R.HFCn_POWER m) : AtRest d (e.setFld f v) :=
  h.setFld fun _ hg => .inl (hf ▸ hg.power m)

theorem window {f : Fld} {v : Bool} {m : Nat} (h : AtRest d e) (hf : f.addr = R.HFCn_STAT m) (hlo : 21 ≤ f.lo) (hhi : f.hi ≤ 22) :
    AtRest d (e.setFlag f v) :=
  h.setFld fun g hg => by
    by_cases ha : g.addr = f.addr
    · obtain h1 | h1 := hg.stat m (ha.trans hf)
      · exact .inr (.inl (by omega))
      · exact .inr (.inr (by omega))
    · exact .inl ha

theorem onHf {f : HfChain → HfChain} (h : AtRest d e) (hf : ∀ c : HfChain, c.atRest (f c) := by exact fun _ => rfl) : AtRest d (e.onHf n f) where
  chains m hm := by
    by_cases hmn : m = n
    · subst hmn; rw [Dev.hfc_onHf hm]; exact (h.chains m hm).trans (hf _)
    · rw [Dev.hfc_onHf_other hm hmn]; exact h.chains m hm
  flds := h.flds

theorem forEach {f : Dev → Nat → Dev} {l : List Nat} (h : AtRest d e) (hf : ∀ y m, AtRest d y → AtRest d (f y m)) : AtRest d (e.forEach l f) :=
  Dev.forEach_keeps h fun y m _ hy => hf y m hy

theorem hfApplyDrive (h : AtRest d e) : AtRest d (e.hfApplyDrive n) := by
  unfold Dev.hfApplyDrive
  split
  · exact h
  · exact ((h.power (m := n) rfl).power (m := n) rfl).onHf

theorem releaseDrives (h : AtRest d e) : AtRest d e.releaseDrives :=
  h.forEach fun y m hy => by
    split
    · exact hy.hfApplyDrive
    · exact hy

theorem staggerEnd (h : AtRest d e) : AtRest d (e.staggerEnd n) := by
  unfold Dev.staggerEnd
  split
  · exact h
  · exact (h.onHf).setFld fun _ hg => .inl (hg.stag n)

theorem hfClose (h : AtRest d e) : AtRest d (e.hfClose n) := by
  unfold Dev.hfClose
  extract_lets y
  have hy : AtRest d y := h.forEach fun z m hz => (hz.window (m := m) rfl (Nat.le_of_ble_eq_true rfl) (Nat.le_of_ble_eq_true rfl)).window
    (m := m) rfl (Nat.le_of_ble_eq_true rfl) (Nat.le_of_ble_eq_true rfl)
  exact (hy.onHf).releaseDrives

end Dev.AtRest

/-! ### An attempt ended -/

theorem Dev.setFlds_onlyRegs (d : Dev) {f g : Fld} {v w a : Nat} (hf : f.addr = a) (hg : g.addr = a) : d.onlyRegs ((d.setFld f v).setFld g w) [a] :=
  ((Dev.onlyRegs_refl d _).fld (by rw [hf]; exact List.mem_singleton_self _)).fld (by rw [hg]; exact List.mem_singleton_self _)

/-- A drive put in force changes HFCn_POWER and the chain's carrier. -/
theorem Dev.hfApplyDrive_eq (d : Dev) (n : Nat) : d.hfApplyDrive n = d ∨ ∃ (e : Dev) (k : Nat), d.onlyRegs e [R.HFCn_POWER n] ∧
    d.hfApplyDrive n = e.onHf n fun c => { c with txPend := false, carrier := k } := by
  unfold Dev.hfApplyDrive
  split
  · exact .inl rfl
  · exact .inr ⟨_, _, Dev.setFlds_onlyRegs d rfl rfl, rfl⟩

theorem Dev.hfApplyDrive_phase (d : Dev) (n : Nat) {m : Nat} (hm : m < 4) : ((d.hfApplyDrive n).hfc m).phase = (d.hfc m).phase ∧
    ((d.hfApplyDrive n).hfc m).att = (d.hfc m).att ∧ ∀ a, a ≠ R.HFCn_POWER n → (d.hfApplyDrive n).reg a = d.reg a := by
  obtain h | ⟨e, k, he, h⟩ := d.hfApplyDrive_eq n
  · rw [h]
    exact ⟨rfl, rfl, fun _ _ => rfl⟩
  have hchain : ∀ m, e.hfc m = d.hfc m := fun m => by rw [Dev.hfc, (congrArg Dev.hf he.1 :), Dev.hfc]
  rw [h]
  refine ⟨?_, ?_, fun a ha => (Dev.reg_onHf _ _ _ _).trans (he.2 a (by simpa using ha))⟩
  · by_cases hmn : m = n
    · subst hmn; rw [Dev.hfc_onHf hm, hchain]
    · rw [Dev.hfc_onHf_other hm hmn, hchain]
  · by_cases hmn : m = n
    · subst hmn; rw [Dev.hfc_onHf hm, hchain]
    · rw [Dev.hfc_onHf_other hm hmn, hchain]

theorem Dev.releaseDrives_phase (d : Dev) {m : Nat} (hm : m < 4) : (d.releaseDrives.hfc m).phase = (d.hfc m).phase ∧
    (d.releaseDrives.hfc m).att = (d.hfc m).att ∧ ∀ a, (∀ k, a ≠ R.HFCn_POWER k) → d.releaseDrives.reg a = d.reg a := by
  refine Dev.forEach_keeps (P := fun e => (e.hfc m).phase = (d.hfc m).phase ∧ (e.hfc m).att = (d.hfc m).att ∧
    ∀ a, (∀ k, a ≠ R.HFCn_POWER k) → e.reg a = d.reg a) ⟨rfl, rfl, fun _ _ => rfl⟩ fun x k _ hx => ?_
  split
  · obtain ⟨hp, ha, hr⟩ := x.hfApplyDrive_phase k hm
    exact ⟨hp.trans hx.1, ha.trans hx.2.1, fun a hne => (hr a (hne k)).trans (hx.2.2 a hne)⟩
  · exact hx

/-- The exchange of a chain closed: it is idle, and its window is shut. -/
theorem Dev.hfClose_spec (d : Dev) {n : Nat} (hn : n < 4) : ((d.hfClose n).hfc n).phase = .idle ∧ ((d.hfClose n).hfc n).att = (d.hfc n).att ∧
    (d.hfClose n).flag (F.HFCn_STAT_RX_WINDOW n) = false := by
  unfold Dev.hfClose
  extract_lets y
  have hwin : ∀ x : Dev, ((x.setFlag (F.HFCn_STAT_MODULATING n) false).setFlag (F.HFCn_STAT_RX_WINDOW n) false).flag (F.HFCn_STAT_RX_WINDOW n) = false :=
    fun x => Dev.flag_setFlag rfl (Nat.le_of_ble_eq_true rfl)
  have hy : y.flag (F.HFCn_STAT_RX_WINDOW n) = false ∧ y.hf = d.hf := by
    simp only [y, Dev.hfTeam, Dev.forEach_cons]
    refine Dev.forEach_keeps (P := fun x => x.flag (F.HFCn_STAT_RX_WINDOW n) = false ∧ x.hf = d.hf) ⟨hwin d, rfl⟩ fun x m _ hx => ⟨?_, hx.2⟩
    by_cases hmn : m = n
    · subst hmn
      exact hwin x
    · have hfar : ∀ f : Fld, f.addr = R.HFCn_STAT m → (F.HFCn_STAT_RX_WINDOW n).addr ≠ f.addr := fun f hf => by
        rw [hf]; simp only [F.HFCn_STAT_RX_WINDOW, R.HFCn_STAT]; omega
      rw [Dev.flag_setFlag_other (.inl (hfar _ rfl)) (Nat.le_of_ble_eq_true rfl), Dev.flag_setFlag_other (.inl (hfar _ rfl)) (Nat.le_of_ble_eq_true rfl)]
      exact hx.1
  clear_value y
  obtain ⟨hflag, hhf⟩ := hy
  have hyn : y.hfc n = d.hfc n := by rw [Dev.hfc, hhf, Dev.hfc]
  obtain ⟨hphase, hatt, hreg⟩ := Dev.releaseDrives_phase (y.onHf n fun c => { c with phase := .idle }) hn
  rw [Dev.hfc_onHf hn] at hphase hatt
  refine ⟨hphase, hatt.trans (by rw [hyn]), ?_⟩
  rw [Dev.flag_eq_of_fld (Dev.fld_eq_of_reg (hreg _ fun k => ?_))]
  · exact hflag
  · simp only [F.HFCn_STAT_RX_WINDOW, R.HFCn_POWER]
    omega

theorem Dev.staggerEnd_phase (d : Dev) {n : Nat} (hn : n < 4) : ((d.staggerEnd n).hfc n).phase = (d.hfc n).phase ∧
    ((d.staggerEnd n).hfc n).att = (d.hfc n).att ∧ ∀ a, a ≠ R.HFCn_STAG_TIME n → (d.staggerEnd n).reg a = d.reg a := by
  have hbump : ∀ (x : Dev) (g : Fld) (k : Nat), (x.bump g k).hfc n = x.hfc n := fun _ _ _ => rfl
  unfold Dev.staggerEnd
  split
  · exact ⟨rfl, rfl, fun _ _ => rfl⟩
  · extract_lets w
    rw [hbump, Dev.hfc_onHf hn]
    exact ⟨rfl, rfl, fun a ha => (Dev.reg_bump_other ha).trans (Dev.reg_onHf _ _ _ _)⟩

/-- The bookkeeping of a chain that R22 and R171 do not touch. -/
def keptAtEnd (r : Nat) (g : Fld) : Prop := keptAtClose g ∧ g.addr ∉ shownRegs r

/-- An attempt that holds no frame back ends with its last frame in a buffer of the receiving chain (R22, R309). -/
theorem Dev.hfEnd_spec {d : Dev} {n : Nat} {a : HfAttempt} {f : ResFrame} (hn : n < 4) (hheld : a.held = none) (hwhole : f.part = false) :
    let r := portchChain f.tag.portch
    let e := d.hfEnd n a f
    (e.hfc n).att = none ∧ (e.hfc n).phase = .idle ∧ (e.hfc r).bufs = (d.hfc r).bufs ++ [f] ∧ e.flag (F.HFCn_STAT_RX_WINDOW n) = false ∧
      (f.code / 16 = 5 → e.fld (F.HFCn_STAT_LAST_CODE r) = f.code) ∧ (∀ m, m < 4 → (e.hfc m).forced = (d.hfc m).forced) ∧
      ∀ g, keptAtEnd r g → e.fld g = d.fld g := by
  intro r e
  have he : e = (((d.hfPush f).hfClose n).staggerEnd n).onHf n fun c => { c with att := none } := by
    simp only [e, Dev.hfEnd, hheld]
  clear_value e
  obtain ⟨hself, hother, hregs, hcode⟩ := d.hfPush_spec hwhole
  generalize d.hfPush f = x at he hself hother hregs hcode
  obtain ⟨hphase, -, hwin⟩ := x.hfClose_spec hn
  have hrest : x.AtRest ((x.hfClose n).staggerEnd n) := ((Dev.AtRest.refl x).hfClose).staggerEnd
  obtain ⟨hphase', -, hregs'⟩ := (x.hfClose n).staggerEnd_phase hn
  generalize x.hfClose n = y at he hphase hwin hrest hphase' hregs'
  generalize y.staggerEnd n = z at he hrest hphase' hregs'
  have hr : r < 4 := Dev.HfOnly.portchChain_lt _
  have hz : ∀ m, m < 4 → (e.hfc m).bufs = (x.hfc m).bufs ∧ (e.hfc m).forced = (x.hfc m).forced := fun m hm => by
    have hm' := hrest.chains m hm
    rw [he]
    by_cases hmn : m = n
    · subst hmn; rw [Dev.hfc_onHf hm, hm']; exact ⟨rfl, rfl⟩
    · rw [Dev.hfc_onHf_other hm hmn, hm']; exact ⟨rfl, rfl⟩
  have hfld : ∀ g, e.fld g = z.fld g := fun g => by rw [he, Dev.fld_onHf]
  refine ⟨?_, ?_, ?_, ?_, fun hc => ?_, fun m hm => ?_, fun g hg => ?_⟩
  · rw [he, Dev.hfc_onHf hn]
  · rw [he, Dev.hfc_onHf hn]; exact hphase'.trans hphase
  · rw [(hz r hr).1, hself]
  · rw [Dev.flag_eq_of_fld (hfld _), Dev.flag_eq_of_fld (Dev.fld_eq_of_reg (hregs' _ ?_))]
    · exact hwin
    · simp only [F.HFCn_STAT_RX_WINDOW, R.HFCn_STAG_TIME]; omega
  · rw [hfld, hrest.flds _ ⟨Nat.le_of_ble_eq_true rfl, fun m _ => .inr (Nat.le_of_ble_eq_true rfl), fun m => ?_, fun m => ?_⟩]
    · exact hcode hc
    · simp only [F.HFCn_STAT_LAST_CODE, R.HFCn_POWER]; omega
    · simp only [F.HFCn_STAT_LAST_CODE, R.HFCn_STAG_TIME]; omega
  · rw [(hz m hm).2]
    by_cases hmr : m = r
    · subst hmr; rw [hself]
    · rw [hother m hm hmr]
  · rw [hfld, hrest.flds g hg.1]
    exact Dev.fld_eq_of_reg (hregs _ hg.2)

/-- An attempt that holds no frame back fails with a code (R22, R309). -/
theorem Dev.hfFail_spec {d : Dev} {n : Nat} {a : HfAttempt} {code flags coll : Nat} (hn : n < 4) (hheld : a.held = none) :
    let e := d.hfFail n a code flags coll
    d.hfEnded e n a.rxChain code ∧ e.flag (F.HFCn_STAT_RX_WINDOW n) = false ∧
      (code / 16 = 5 → e.fld (F.HFCn_STAT_LAST_CODE a.rxChain) = code) ∧ (∀ m, m < 4 → (e.hfc m).forced = (d.hfc m).forced) ∧
      ∀ g, keptAtEnd a.rxChain g → e.fld g = d.fld g := by
  intro e
  have hrest : d.AtRest (d.staggerEnd n) := (Dev.AtRest.refl d).staggerEnd
  have he : e = (d.staggerEnd n).hfEnd n a ((d.staggerEnd n).hfFrame n a [] code flags 0 coll true) := rfl
  clear_value e
  generalize d.staggerEnd n = x at hrest he
  have hfr : (x.hfFrame n a [] code flags 0 coll true).part = false ∧ (x.hfFrame n a [] code flags 0 coll true).code = code ∧
      (x.hfFrame n a [] code flags 0 coll true).last = true ∧ (x.hfFrame n a [] code flags 0 coll true).payload = [] ∧
      (x.hfFrame n a [] code flags 0 coll true).tag = a.tag := ⟨rfl, rfl, rfl, ite_self _, rfl⟩
  obtain ⟨hpart, hcode, hlast, hpay, htag⟩ := hfr
  have hspec := Dev.hfEnd_spec (d := x) (a := a) hn hheld hpart
  rw [htag, hcode] at hspec
  rw [← he] at hspec
  obtain ⟨hatt, hphase, hbufs, hwin, hlc, hforced, hkept⟩ := hspec
  have hx := hrest.chains a.rxChain a.rxChain_lt
  refine ⟨⟨hatt, hphase, _, ?_, hcode, hlast, fun _ => hpay⟩, hwin, hlc, fun m hm => (hforced m hm).trans (by rw [hrest.chains m hm]),
    fun g hg => (hkept g hg).trans (hrest.flds g hg.1)⟩
  rw [show (e.hfc a.rxChain).bufs = _ from hbufs, show (x.hfc (portchChain a.tag.portch)).bufs = _ from by rw [show portchChain a.tag.portch = a.rxChain from rfl, hx]]

end Sys2Proof.Machine
end

section
/-!
PROOFS. The events of an HF exchange (Chapters 4 and 5).
-/

namespace Sys2Proof.Machine

open Sys2Proof

-- one proof after another: the check bounds the memory that the stacks of parallel proofs take
set_option Elab.async false

/-! ### The guard (R156) -/

/-- The end of a field's guard: the longest of its ports'. -/
def Dev.guardEndAt (d : Dev) (n : Nat) : Nat :=
  (d.hfc n).onAt + ((d.hfTeam n).map fun m => ((d.hfc m).port.map fun p => profGuard (d.hfProfile p)).getD 0).foldl max 0

/-- A chain between exchanges. -/
def HfChain.calm (c : HfChain) : HfChain := { c with phase := .idle }

theorem Dev.fieldGuardEnd_eq (d : Dev) (n : Nat) : d.fieldGuardEnd n =
    if (d.hfc n).phase != .guard then d else ((d.reach (d.guardEndAt n)).onHf n HfChain.calm).hfBegin n := rfl

theorem Dev.guardEndAt_alone {d : Dev} {n p : Nat} (hport : (d.hfc n).port = some p) (hfree : (d.hfc n).partner = none) :
    d.guardEndAt n = (d.hfc n).onAt + profGuard (d.hfProfile p) := by
  have hteam : d.hfTeam n = [n] := by rw [Dev.hfTeam, hfree]; rfl
  rw [Dev.guardEndAt, hteam]
  simp [hport]

theorem Dev.fieldGuardEnd_of_not_guard {d : Dev} {n : Nat} (h : (d.hfc n).phase ≠ .guard) : d.fieldGuardEnd n = d := by
  rw [Dev.fieldGuardEnd_eq, if_pos (bne_iff_ne.2 h)]

theorem Dev.fieldGuardEnd_of_guard {d : Dev} {n : Nat} (h : (d.hfc n).phase = .guard) :
    d.fieldGuardEnd n = ((d.reach (d.guardEndAt n)).onHf n HfChain.calm).hfBegin n := by
  rw [Dev.fieldGuardEnd_eq, h, if_neg (by decide)]

theorem Dev.hfBegin_of_none {d : Dev} {n : Nat} (h : (d.hfc n).att = none) : d.hfBegin n = d := by
  unfold Dev.hfBegin
  rw [h]

theorem Dev.reach_frame (d : Dev) (t : Nat) :
    d.reach t = { d with time := (d.reach t).time, attic := { d.attic with count := (d.reach t).attic.count } } := d.tick_frame _

/-- The guard ends with no attempt in hand: the chain is idle. -/
theorem Dev.fieldGuardEnd_bare {d : Dev} {n : Nat} (hn : n < 4) (hrun : d.phase = .running) (hguard : (d.hfc n).phase = .guard)
    (hatt : (d.hfc n).att = none) : let e := d.fieldGuardEnd n
    e = { d with hf := e.hf, time := e.time, attic := e.attic } ∧ e.hfc n = { d.hfc n with phase := .idle } ∧
      (d.time < 2 ^ 64 → d.guardEndAt n < 2 ^ 64 → d.guardEndAt n ≤ e.time) := by
  intro e
  have hchain : ((d.reach (d.guardEndAt n)).onHf n HfChain.calm).hfc n = (d.hfc n).calm := Dev.hfc_onHf hn
  have he : e = (d.reach (d.guardEndAt n)).onHf n HfChain.calm := by
    simp only [e]
    rw [Dev.fieldGuardEnd_of_guard hguard, Dev.hfBegin_of_none (by rw [hchain]; exact hatt)]
  clear_value e
  rw [← he] at hchain
  have htime : e.time = (d.reach (d.guardEndAt n)).time := by rw [he]; rfl
  refine ⟨?_, hchain, fun hd ht => ?_⟩
  · have hframe := d.reach_frame (d.guardEndAt n)
    generalize d.reach (d.guardEndAt n) = x at hframe he
    rw [he, Dev.onHf, hframe]
  · rw [htime, Dev.reach_time hrun ht hd]
    exact Nat.le_max_right _ _

/-- The guard ends with a plain frame in hand and nothing to wait for: the frame starts. -/
theorem Dev.fieldGuardEnd_plain {d : Dev} {n : Nat} {a : HfAttempt} (hn : n < 4) (hguard : (d.hfc n).phase = .guard)
    (hatt : (d.hfc n).att = some a) (hkind : a.kind = 0) (hstart : d.MayStart n) (hbuf : (d.hfc a.rxChain).bufs.length + a.fills < 2)
    (happ : d.applying = []) :
    let proto := if a.sched then a.proto else d.fld (F.HFCn_PROTO_PROTO n)
    let e := d.fieldGuardEnd n
    (e.hfc n).phase = .sent ∧ (e.hfc n).sentAt = e.time ∧ (e.hfc n).tx = (if hfCrcOff a.params then a.tmpl else withHfCrc proto a.tmpl) ∧
      e.flag (F.HFCn_STAT_MODULATING n) = true ∧ e.fld (F.HFCn_STAT_PROTO_USE n) = proto % 4 := by
  intro proto e
  have he : e = ((d.reach (d.guardEndAt n)).onHf n HfChain.calm).hfBegin n := Dev.fieldGuardEnd_of_guard hguard
  clear_value e
  have hreach : ∀ m, (d.reach (d.guardEndAt n)).hfc m = d.hfc m := fun _ => rfl
  have hsame : d.SameFields ((d.reach (d.guardEndAt n)).onHf n HfChain.calm) := ((Dev.SameFields.refl d).reach).onHf
  have hmay := hstart.congr hn hsame (fun m hm hb => Dev.hfBusy_onHf (d := d.reach (d.guardEndAt n)) hm (.inl rfl) hb)
    (fun m hm hs => Dev.stagFrom_onHf (d := d.reach (d.guardEndAt n)) hm rfl hs)
  have hself : ((d.reach (d.guardEndAt n)).onHf n HfChain.calm).hfc n = (d.hfc n).calm := Dev.hfc_onHf hn
  have hbufs : (((d.reach (d.guardEndAt n)).onHf n HfChain.calm).hfc a.rxChain).bufs = (d.hfc a.rxChain).bufs := by
    by_cases hr : a.rxChain = n
    · rw [hr, hself]; rfl
    · rw [Dev.hfc_onHf_other a.rxChain_lt hr, hreach]
  have hfld : ((d.reach (d.guardEndAt n)).onHf n HfChain.calm).fld (F.HFCn_PROTO_PROTO n) = d.fld (F.HFCn_PROTO_PROTO n) := rfl
  have happ' : ((d.reach (d.guardEndAt n)).onHf n HfChain.calm).applying = [] := happ
  generalize (d.reach (d.guardEndAt n)).onHf n HfChain.calm = x at *
  have hspec := Dev.hfBegin_plain (d := x) (a := a) hn (by rw [hself]; exact hatt) hkind hmay (by rw [hbufs]; exact hbuf) happ'
  rw [hfld, ← he] at hspec
  exact hspec

/-! ### Stagger (R123) -/

theorem Dev.staggerRelease_of_idle {d : Dev} {n : Nat} (h : (d.hfc n).stagFrom = none ∨ (d.hfc n).att = none) : d.staggerRelease n = d := by
  have hnone : d.stagOrder n = none := by
    unfold Dev.stagOrder
    split
    next a ha =>
      have hs : (d.hfc n).stagFrom = none := h.resolve_right (by rw [ha]; nofun)
      rw [hs]
      rfl
    next => rfl
  unfold Dev.staggerRelease
  rw [hnone]

theorem Dev.staggerRelease_of_staggered {d : Dev} {n : Nat} (h : d.staggered n = true) : d.staggerRelease n = d := by
  unfold Dev.staggerRelease
  split
  · rfl
  · simp only [h, Bool.or_true, Bool.true_or, if_true]

/-- A chain whose stagger wait of `w` µs has ended. -/
def HfChain.waited (c : HfChain) (w : Nat) : HfChain := { c with stagFrom := none, yields := false, staggerUs := min 0xFFFF (c.staggerUs + w) }

/-- A stagger wait that ends: how long it was, and what stays. -/
theorem Dev.staggerEnd_spec {d : Dev} {n t : Nat} (hn : n < 4) (ht : (d.hfc n).stagFrom = some t) :
    d.SameFields (d.staggerEnd n) ∧ d.AtRest (d.staggerEnd n) ∧ (d.staggerEnd n).applying = d.applying ∧
      ((d.staggerEnd n).hfc n).stagFrom = none ∧ (∀ m, m < 4 → m ≠ n → (d.staggerEnd n).hfc m = d.hfc m) ∧
      (d.staggerEnd n).fld (F.HFCn_STAG_TIME_TIME n) = satAdd (2 ^ 32 - 1) (d.fld (F.HFCn_STAG_TIME_TIME n)) (d.time - t) := by
  have hrest : d.AtRest (d.staggerEnd n) := (Dev.AtRest.refl d).staggerEnd
  have hbump : ∀ (x : Dev) (g : Fld) (k m : Nat), (x.bump g k).hfc m = x.hfc m := fun _ _ _ _ => rfl
  have heq : d.staggerEnd n = (d.onHf n (·.waited (d.time - t))).bump (F.HFCn_STAG_TIME_TIME n) (d.time - t) := by
    unfold Dev.staggerEnd
    rw [ht]
    rfl
  have hsame : d.SameFields (d.onHf n (·.waited (d.time - t))) := (Dev.SameFields.refl d).onHf
  have hself := Dev.hfc_onHf (d := d) (f := (·.waited (d.time - t))) hn
  have hother := fun m (hm : m < 4) (hne : m ≠ n) => Dev.hfc_onHf_other (d := d) (f := (·.waited (d.time - t))) hm hne
  have hfld := Dev.fld_onHf d n (·.waited (d.time - t)) (F.HFCn_STAG_TIME_TIME n)
  have happ : (d.onHf n (·.waited (d.time - t))).applying = d.applying := rfl
  generalize d.onHf n (·.waited (d.time - t)) = x at *
  refine ⟨?_, hrest, ?_, ?_, fun m hm hne => ?_, ?_⟩
  · rw [heq]
    refine hsame.of_onlyRegs (Dev.bump_frame _ _ _) fun a ha => ?_
    rw [List.mem_singleton.1 ha]
    simp only [F.HFCn_STAG_TIME_TIME]
    omega
  · rw [heq, ← happ]; rfl
  · rw [heq, hbump, hself]; rfl
  · rw [heq, hbump]; exact hother m hm hne
  · rw [heq, Dev.fld_bump (Nat.le_of_ble_eq_true rfl), hfld]; rfl

/-- A stagger wait released: the command in hand starts, and the wait is counted (R123, R127). -/
theorem Dev.staggerRelease_send {d : Dev} {n t : Nat} {a : HfAttempt} (hn : n < 4) (ht : (d.hfc n).stagFrom = some t) (hready : (d.hfc n).phase = .ready)
    (hatt : (d.hfc n).att = some a) (hstag : d.staggered n = false) (hothers : ∀ m, m < 4 → m ≠ n → (d.hfc m).stagFrom = none)
    (hleave : d.hfLeaving n = false) (hwith : d.hfWithdrawn n = false) (hbuf : (d.hfc a.rxChain).bufs.length + a.fills < 2) (happ : d.applying = []) :
    let e := d.staggerRelease n
    (e.hfc n).phase = .sent ∧ (e.hfc n).stagFrom = none ∧ e.flag (F.HFCn_STAT_MODULATING n) = true ∧
      e.fld (F.HFCn_STAG_TIME_TIME n) = satAdd (2 ^ 32 - 1) (d.fld (F.HFCn_STAG_TIME_TIME n)) (d.time - t) := by
  obtain ⟨hsame, hrest, happ', hfrom, hother, htime⟩ := Dev.staggerEnd_spec hn ht
  have hsend : d.staggerRelease n = (d.staggerEnd n).hfSend n := by
    have hahead : ∀ y (o : Order), ((List.range 4).any fun m => m != n && d.stagPair n m && ((d.stagOrder m).map fun q =>
        (!q.1 && y) || (q.1 == y && q.2.before o)).getD false) = false := fun y o => by
      rw [List.any_eq_false]
      intro m hm
      by_cases hne : m = n
      · simp [hne]
      · have hnone : d.stagOrder m = none := by
          unfold Dev.stagOrder
          rw [hothers m (List.mem_range.1 hm) hne]
          split <;> rfl
        simp [hnone]
    have horder : ∃ y o, d.stagOrder n = some (y, o) := by
      unfold Dev.stagOrder
      rw [hatt, ht]
      exact ⟨_, _, rfl⟩
    obtain ⟨y, o, ho⟩ := horder
    unfold Dev.staggerRelease
    rw [ho]
    simp only [hahead, hready, hstag, bne_self_eq_false, Bool.or_self, Bool.false_eq_true, if_false, hsame.not_hfLeaving hn hleave,
      hsame.not_hfWithdrawn hn hwith]
  rw [hsend]
  generalize d.staggerEnd n = x at *
  have hxa : (x.hfc n).att = some a := by rw [hrest.chains n hn]; exact hatt
  have hxb : (x.hfc a.rxChain).bufs = (d.hfc a.rxChain).bufs := by rw [hrest.chains a.rxChain a.rxChain_lt]
  obtain ⟨hphase, -, hsf, -, hmod, -, hreg⟩ := Dev.hfSend_spec hn hxa (by rw [hxb]; exact hbuf) (happ'.trans happ)
  refine ⟨hphase, hsf.trans hfrom, hmod, (Dev.fld_eq_of_reg (hreg _ fun m => ?_)).trans htime⟩
  simp only [F.HFCn_STAG_TIME_TIME, R.HFCn_STAT]
  omega

/-! ### The start of a reply (R145) -/

theorem Dev.sofAcquired_of_deaf {d : Dev} {n : Nat} {k : Sof} (h : (d.hfc n).phase ≠ .window ∨ (d.hfc n).att = none) : d.sofAcquired n k = d := by
  unfold Dev.sofAcquired
  split
  next a hp ha =>
    obtain h | h := h
    · exact absurd hp h
    · rw [ha] at h; cases h
  next => rfl

theorem Dev.sofAcquired_in_window {d : Dev} {n : Nat} {k : Sof} {a : HfAttempt} (hp : (d.hfc n).phase = .window) (ha : (d.hfc n).att = some a) :
    d.sofAcquired n k = if k.pattern.val = a.expected ∨ (a.sched = false ∧ bit (numAt a.params 8 2) k.pattern.val = true) then
      d.onHf n fun c => { c with phase := .receiving, att := some { a with sof := some k } } else d := by
  unfold Dev.sofAcquired
  rw [hp, ha]
  simp only [Bool.or_eq_true, decide_eq_true_eq, Bool.and_eq_true, Bool.not_eq_true']

/-! ### The reply window (R126, R157) -/

/-- The EOF alone leaves the chain nothing to send. -/
def HfChain.eofSent (c : HfChain) : HfChain := { c with tx := [], txBits := 0 }

/-- The chain with its window open and its residual measured, before what the residual calls for. -/
def Dev.windowOpened (d : Dev) (n : Nat) (a : HfAttempt) (resid noise : Nat) : Dev :=
  let d := if a.optEof then (d.reach ((d.hfc n).sentAt + eofAfter (hfFwi a.params))).onHf n HfChain.eofSent else d
  let d := d.forEach (d.hfTeam n) fun d m => d.setFlag (F.HFCn_STAT_MODULATING m) false
  let d := d.setFlag (F.HFCn_STAT_RX_WINDOW a.rxChain) true
  let d := (d.setFld (F.HFCn_RESID_RESID a.rxChain) resid).setFld (F.HFCn_NOISE_NOISE a.rxChain) noise
  d.onHf n fun c => { c with phase := .window }

theorem Dev.replyWindowOpen_of_sent {d : Dev} {n resid noise : Nat} {a : HfAttempt} (hp : (d.hfc n).phase = .sent) (ha : (d.hfc n).att = some a) :
    d.replyWindowOpen n resid noise = if resid < 60 then
      (((d.windowOpened n a resid noise).onHf a.rxChain fun c => { c with forced := true }).tierEvents (d.windowOpened n a resid noise)).hfFail n
        { a with sof := none } Code.HF_XFIELD_RESIDUAL 0 0
    else d.windowOpened n a resid noise := by
  unfold Dev.replyWindowOpen
  rw [hp, ha]
  rfl

theorem Dev.replyWindowOpen_of_not_sent {d : Dev} {n resid noise : Nat} (h : (d.hfc n).phase ≠ .sent ∨ (d.hfc n).att = none) :
    d.replyWindowOpen n resid noise = d := by
  unfold Dev.replyWindowOpen
  split
  next a hp ha =>
    obtain h | h := h
    · exact absurd hp h
    · rw [ha] at h; cases h
  next => rfl

theorem Dev.onHf_reach_frame (d : Dev) (n t : Nat) (f : HfChain → HfChain) : let e := (d.reach t).onHf n f
    e = { d with hf := e.hf, regs := e.regs, time := e.time, attic := e.attic } := by
  have hframe : d.reach t = { d with regs := (d.reach t).regs, time := (d.reach t).time, attic := (d.reach t).attic } := rfl
  generalize d.reach t = v at hframe
  exact (congrArg (fun u : Dev => { u with hf := (v.onHf n f).hf }) hframe :)

theorem Dev.eofSent_hfc (d : Dev) (n t : Nat) {m : Nat} (hm : m < 4) :
    (((d.reach t).onHf n HfChain.eofSent).hfc m).bufs = (d.hfc m).bufs ∧
    (((d.reach t).onHf n HfChain.eofSent).hfc m).att = (d.hfc m).att := by
  have hreach : ∀ k, (d.reach t).hfc k = d.hfc k := fun _ => rfl
  by_cases hmn : m = n
  · subst hmn; rw [Dev.hfc_onHf hm, hreach]; exact ⟨rfl, rfl⟩
  · rw [Dev.hfc_onHf_other hm hmn, hreach]; exact ⟨rfl, rfl⟩

/-- What an open window shows, and the instant of the EOF that R157 puts before it. -/
theorem Dev.windowOpened_spec {d : Dev} {n resid noise : Nat} {a : HfAttempt} (hn : n < 4) (hrun : d.phase = .running) (hresid : resid < 256)
    (hnoise : noise < 65536) (hatt : (d.hfc n).att = some a) : let e := d.windowOpened n a resid noise
    e = { d with hf := e.hf, regs := e.regs, time := e.time, attic := e.attic } ∧ (e.hfc n).phase = .window ∧ (e.hfc n).att = some a ∧
      e.flag (F.HFCn_STAT_RX_WINDOW a.rxChain) = true ∧ e.flag (F.HFCn_STAT_MODULATING n) = false ∧
      e.fld (F.HFCn_RESID_RESID a.rxChain) = resid ∧ e.fld (F.HFCn_NOISE_NOISE a.rxChain) = noise ∧
      (∀ m, m < 4 → (e.hfc m).bufs = (d.hfc m).bufs) ∧
      (a.optEof = true → d.time < 2 ^ 64 → (d.hfc n).sentAt + eofAfter (hfFwi a.params) < 2 ^ 64 →
        (d.hfc n).sentAt + eofAfter (hfFwi a.params) ≤ e.time) := by
  intro e
  have he : e = d.windowOpened n a resid noise := rfl
  clear_value e
  unfold Dev.windowOpened at he
  extract_lets x y z w at he
  have hx : x = { d with hf := x.hf, regs := x.regs, time := x.time, attic := x.attic } ∧
      (∀ m, m < 4 → (x.hfc m).bufs = (d.hfc m).bufs ∧ (x.hfc m).att = (d.hfc m).att) ∧
      (a.optEof = true → d.time < 2 ^ 64 → (d.hfc n).sentAt + eofAfter (hfFwi a.params) < 2 ^ 64 →
        (d.hfc n).sentAt + eofAfter (hfFwi a.params) ≤ x.time) := by
    simp only [x]
    split
    next hopt =>
      refine ⟨?_, fun m hm => Dev.eofSent_hfc d n _ hm, fun _ hd hlt => ?_⟩
      · exact Dev.onHf_reach_frame d n _ _
      · refine Nat.le_trans ?_ (Nat.le_of_eq (Dev.reach_time hrun hlt hd).symm)
        exact Nat.le_max_right _ _
    next hopt => exact ⟨rfl, fun _ _ => ⟨rfl, rfl⟩, fun h => absurd h hopt⟩
  clear_value x
  obtain ⟨hxr, hxc, hxt⟩ := hx
  have hmod : ∀ v : Dev, (v.setFlag (F.HFCn_STAT_MODULATING n) false).flag (F.HFCn_STAT_MODULATING n) = false :=
    fun v => Dev.flag_setFlag rfl (Nat.le_of_ble_eq_true rfl)
  have hy : Dev.RegsOnly x y ∧ y.flag (F.HFCn_STAT_MODULATING n) = false := by
    simp only [y, Dev.hfTeam, Dev.forEach_cons]
    refine Dev.forEach_keeps (P := fun v => Dev.RegsOnly x v ∧ v.flag (F.HFCn_STAT_MODULATING n) = false)
      ⟨(Dev.RegsOnly.refl x).flag _ _, hmod x⟩ fun v m _ hv => ⟨hv.1.flag _ _, ?_⟩
    by_cases hmn : m = n
    · subst hmn; exact hmod v
    · rw [Dev.flag_setFlag_other (.inl ?_) (Nat.le_of_ble_eq_true rfl)]
      · exact hv.2
      · simp only [F.HFCn_STAT_MODULATING]; omega
  clear_value y
  obtain ⟨hyr, hym⟩ := hy
  have hz : Dev.RegsOnly x z ∧ z.flag (F.HFCn_STAT_MODULATING n) = false ∧ z.flag (F.HFCn_STAT_RX_WINDOW a.rxChain) = true := by
    refine ⟨hyr.flag _ _, ?_, Dev.flag_setFlag rfl (Nat.le_of_ble_eq_true rfl)⟩
    exact (Dev.flag_setFlag_other (.inr (.inr (Nat.le_of_ble_eq_true rfl))) (Nat.le_of_ble_eq_true rfl)).trans hym
  clear_value z
  obtain ⟨hzr, hzm, hzw⟩ := hz
  have hfar : ∀ g : Fld, g.addr = R.HFCn_STAT n ∨ g.addr = R.HFCn_STAT a.rxChain → g.addr ≠ (F.HFCn_NOISE_NOISE a.rxChain).addr ∧
      g.addr ≠ (F.HFCn_RESID_RESID a.rxChain).addr := fun g hg => by
    obtain hg | hg := hg <;> rw [hg] <;> simp only [R.HFCn_STAT, F.HFCn_NOISE_NOISE, F.HFCn_RESID_RESID] <;> omega
  have hw : Dev.RegsOnly x w ∧ w.flag (F.HFCn_STAT_MODULATING n) = false ∧ w.flag (F.HFCn_STAT_RX_WINDOW a.rxChain) = true ∧
      w.fld (F.HFCn_RESID_RESID a.rxChain) = resid ∧ w.fld (F.HFCn_NOISE_NOISE a.rxChain) = noise := by
    refine ⟨(hzr.fld _ _).fld _ _, ?_, ?_, ?_, ?_⟩
    · have h := hfar (F.HFCn_STAT_MODULATING n) (.inl rfl)
      exact (Dev.flag_setFld_other (.inl h.1) (Nat.le_of_ble_eq_true rfl)).trans
        ((Dev.flag_setFld_other (.inl h.2) (Nat.le_of_ble_eq_true rfl)).trans hzm)
    · have h := hfar (F.HFCn_STAT_RX_WINDOW a.rxChain) (.inr rfl)
      exact (Dev.flag_setFld_other (.inl h.1) (Nat.le_of_ble_eq_true rfl)).trans
        ((Dev.flag_setFld_other (.inl h.2) (Nat.le_of_ble_eq_true rfl)).trans hzw)
    · refine (Dev.fld_setFld_other (.inl ?_) (Nat.le_of_ble_eq_true rfl)).trans
        (Dev.fld_setFld_small (Nat.le_of_ble_eq_true rfl) (Nat.lt_of_lt_of_eq hresid rfl))
      simp only [F.HFCn_NOISE_NOISE, F.HFCn_RESID_RESID]
      omega
    · exact Dev.fld_setFld_small (Nat.le_of_ble_eq_true rfl) (Nat.lt_of_lt_of_eq hnoise rfl)
  clear_value w
  obtain ⟨hwr, hwm, hww, hwres, hwno⟩ := hw
  subst he
  have hwc : ∀ m, w.hfc m = x.hfc m := fun m => by rw [Dev.hfc, (congrArg Dev.hf hwr :), Dev.hfc]
  refine ⟨?_, ?_, ?_, hww, hwm, hwres, hwno, fun m hm => ?_, fun h1 h2 h3 => ?_⟩
  · have hframe : w = { d with hf := w.hf, regs := w.regs, time := w.time, attic := w.attic } := by
      rw [hwr, hxr]
    rw [Dev.onHf]
    exact (congrArg (fun v : Dev => { v with hf := tableSet 4 {} w.hf n { w.hfc n with phase := .window } }) hframe :)
  · rw [Dev.hfc_onHf hn]
  · rw [Dev.hfc_onHf hn, hwc]; exact (hxc n hn).2.trans hatt
  · by_cases hmn : m = n
    · subst hmn; rw [Dev.hfc_onHf hm, hwc]; exact (hxc m hm).1
    · rw [Dev.hfc_onHf_other hm hmn, hwc]; exact (hxc m hm).1
  · exact Nat.le_trans (hxt h1 h2 h3) (Nat.le_of_eq (congrArg Dev.time hwr :).symm)

end Sys2Proof.Machine
end

section
/-!
PROOFS. The rows of an HF exchange (Chapters 4 and 5): what each leaves shown.
-/

namespace Sys2Proof.Machine

open Sys2Proof

-- one proof after another: the check bounds the memory that the stacks of parallel proofs take
set_option Elab.async false

/-! ### Tiers shown, and their events (R119, R120) -/

/-- The registers that show the chains' tiers. -/
def tierRegs : List Nat := [R.HFCn_STAT 0, R.HFCn_STAT 1, R.HFCn_STAT 2, R.HFCn_STAT 3]

theorem mem_tierRegs {n : Nat} (h : n < 4) : R.HFCn_STAT n ∈ tierRegs := by
  match n, h with
  | 0, _ | 1, _ | 2, _ | 3, _ => simp [tierRegs]

theorem Dev.showTiers_frame {d e : Dev} {l : List Nat} (h : d.onlyRegs e l) (hl : tierRegs ⊆ l) : d.onlyRegs e.showTiers l :=
  h.forEach fun _ _ hn hx => hx.fld (hl (mem_tierRegs (List.mem_range.1 hn)))

namespace Dev.PortOnly

variable {d e x : Dev} {l : List Nat}

theorem refl (d : Dev) (l : List Nat) : d.PortOnly d l := .of_onlyRegs (Dev.onlyRegs_refl d l)

theorem after (h : d.PortOnly e l) (g : e.onlyRegs x l) : d.PortOnly x l := h.trans (.of_onlyRegs g)

theorem setFld (h : d.PortOnly e l) {f : Fld} {v : Nat} (hf : f.addr ∈ l) : d.PortOnly (e.setFld f v) l :=
  h.after ((Dev.onlyRegs_refl e l).fld hf)

theorem event (h : d.PortOnly e l) {kind arg handle : Nat} {data : Bytes} (hl : R.HOST_EVT_STAT ∈ l) : d.PortOnly (e.event kind arg handle data) l := by
  obtain ⟨-, hregs, -⟩ := e.event_frame kind arg handle data
  refine h.trans ⟨hregs.1, fun a ha => hregs.2 a fun hm => ha ?_⟩
  rw [List.mem_singleton.1 hm]
  exact hl

theorem tierEvents (h : d.PortOnly e l) {old : Dev} (hev : R.HOST_EVT_STAT ∈ l) (hl : tierRegs ⊆ l) : d.PortOnly (e.tierEvents old) l := by
  have hev : d.PortOnly (e.forEach [1, 2, 3, 6, 7, 11] fun y x =>
      if old.paired (x / 4) (x % 4) && y.paired (x / 4) (x % 4) && decide (y.chainTier (x / 4) (x % 4) > old.chainTier (x / 4) (x % 4)) then
        y.tierEvent (x / 4) (x % 4) (y.chainTier (x / 4) (x % 4)) else y) l := by
    refine Dev.forEach_keeps (P := fun y => d.PortOnly y l) h fun y x _ hy => ?_
    split
    · exact hy.event hev
    · exact hy
  exact hev.after (Dev.showTiers_frame (Dev.onlyRegs_refl _ l) hl)

theorem hfc (h : d.PortOnly e l) (m : Nat) : e.hfc m = d.hfc m := by rw [Dev.hfc, (congrArg Dev.hf h.1 :), Dev.hfc]

end Dev.PortOnly

/-! ### A window that finds the residual low (R126) -/

/-- STAGGER is forced on the chain. -/
def HfChain.staggered (c : HfChain) : HfChain := { c with forced := true }

theorem keptAtEnd_resid (r : Nat) : keptAtEnd r (F.HFCn_RESID_RESID r) := by
  refine ⟨⟨Nat.le_of_ble_eq_true rfl, fun m => ?_, fun m => ?_, fun m => ?_⟩, ?_⟩
  · simp only [F.HFCn_RESID_RESID, R.HFCn_STAT]; omega
  · simp only [F.HFCn_RESID_RESID, R.HFCn_POWER]; omega
  · simp only [F.HFCn_RESID_RESID, R.HFCn_STAG_TIME]; omega
  · simp only [shownRegs, F.HFCn_RESID_RESID, R.HFCn_STAT, R.HFCn_RXSTAT, R.HFCn_RXLVL, R.HFCn_RXPH, R.HFCn_FDT, R.HFCn_RXCNT0, R.HFCn_RXCNT1,
      R.HFCn_RXCNT2, List.mem_cons, List.not_mem_nil, or_false]
    omega

theorem Dev.replyWindowOpen_low {d : Dev} {n resid noise : Nat} {a : HfAttempt} (hn : n < 4) (hrun : d.phase = .running)
    (hp : (d.hfc n).phase = .sent) (hatt : (d.hfc n).att = some a) (hheld : a.held = none) (hlow : resid < 60) (hnoise : noise < 65536) :
    let e := d.replyWindowOpen n resid noise
    (e.hfc a.rxChain).forced = true ∧ d.hfEnded e n a.rxChain Code.HF_XFIELD_RESIDUAL ∧ e.fld (F.HFCn_RESID_RESID a.rxChain) = resid := by
  intro e
  obtain ⟨-, -, -, -, -, hres, -, hbufs, -⟩ := Dev.windowOpened_spec (n := n) (resid := resid) (noise := noise) hn hrun
    (Nat.lt_trans hlow (by decide)) hnoise hatt
  have he : e = (((d.windowOpened n a resid noise).onHf a.rxChain HfChain.staggered).tierEvents (d.windowOpened n a resid noise)).hfFail n
      { a with sof := none } Code.HF_XFIELD_RESIDUAL 0 0 := by
    simp only [e]
    rw [Dev.replyWindowOpen_of_sent hp hatt, if_pos hlow]
    rfl
  clear_value e
  generalize d.windowOpened n a resid noise = w at *
  have hforced : ((w.onHf a.rxChain HfChain.staggered).hfc a.rxChain) = (w.hfc a.rxChain).staggered := Dev.hfc_onHf a.rxChain_lt
  have hport : (w.onHf a.rxChain HfChain.staggered).PortOnly ((w.onHf a.rxChain HfChain.staggered).tierEvents w) (R.HOST_EVT_STAT :: tierRegs) :=
    (Dev.PortOnly.refl _ _).tierEvents (List.mem_cons_self ..) (List.subset_cons_self ..)
  have hfld : (w.onHf a.rxChain HfChain.staggered).fld (F.HFCn_RESID_RESID a.rxChain) = resid := (Dev.fld_onHf ..).trans hres
  generalize w.onHf a.rxChain HfChain.staggered = x at *
  generalize x.tierEvents w = y at *
  have hy := hport.hfc a.rxChain
  have hyf : y.fld (F.HFCn_RESID_RESID a.rxChain) = resid := (hport.fld (by
    simp only [tierRegs, F.HFCn_RESID_RESID, R.HFCn_STAT, R.HOST_EVT_STAT, List.mem_cons, List.not_mem_nil, or_false]
    omega)).trans hfld
  obtain ⟨⟨hatt', hphase, f, hf, hcode, hlast, hpay⟩, -, -, hkeep, hkept⟩ :=
    Dev.hfFail_spec (d := y) (a := { a with sof := none }) (code := Code.HF_XFIELD_RESIDUAL) (flags := 0) (coll := 0) hn hheld
  rw [← he] at *
  refine ⟨?_, ⟨hatt', hphase, f, ?_, hcode, hlast, hpay⟩, (hkept _ (keptAtEnd_resid _)).trans hyf⟩
  · rw [hkeep _ a.rxChain_lt, hy, hforced]; rfl
  · rw [show (e.hfc a.rxChain).bufs = (y.hfc a.rxChain).bufs ++ [f] from hf, hy, hforced, show (w.hfc a.rxChain).staggered.bufs = (w.hfc a.rxChain).bufs from rfl,
      hbufs _ a.rxChain_lt]

/-! ### The obligation of an exchange up to its reply -/

theorem completes_fieldGuardEnd (s : State) (n : Fin 4) (hrun : s.dev.phase = .running) :
    ((s.dev.hfc n).phase ≠ .guard → completes (.fieldGuardEnd n) s (· = s.dev.settle)) ∧
    ((s.dev.hfc n).phase = .guard → (s.dev.hfc n).att = none → completes (.fieldGuardEnd n) s fun x => ∃ e : Dev, x = e.settle ∧
      e = { s.dev with hf := e.hf, time := e.time, attic := e.attic } ∧ e.hfc n = { s.dev.hfc n with phase := .idle } ∧
      (∀ p, (s.dev.hfc n).port = some p → (s.dev.hfc n).partner = none → s.dev.time < 2 ^ 64 →
        (s.dev.hfc n).onAt + profGuard (s.dev.hfProfile p) < 2 ^ 64 → (s.dev.hfc n).onAt + profGuard (s.dev.hfProfile p) ≤ e.time)) := by
  refine ⟨fun hg => ?_, fun hg hatt => ?_⟩
  · exact completes_onLive (fun d => (d.fieldGuardEnd n).settle) hrun rfl (congrArg Dev.settle (Dev.fieldGuardEnd_of_not_guard hg))
  · obtain ⟨hframe, hchain, htime⟩ := Dev.fieldGuardEnd_bare n.isLt hrun hg hatt
    refine completes_onLive (fun d => (d.fieldGuardEnd n).settle) hrun rfl ⟨_, rfl, hframe, hchain, fun p hport hfree => ?_⟩
    rw [Dev.guardEndAt_alone hport hfree] at htime
    exact htime

/-- Settles O49: each event by what the chain holds when it comes. -/
theorem exchangesBegin : Obligations.ExchangesBegin := by
  unfold Obligations.ExchangesBegin
  intro s n hrun
  obtain ⟨hnoGuard, hbare⟩ := completes_fieldGuardEnd s n hrun
  refine ⟨hnoGuard, hbare, fun a hg hatt hkind hwith hleave hstag hwait hbuf happ => ?_, fun h => ?_, fun t a ht hready hatt => ⟨fun hstag => ?_, ?_⟩,
    fun resid noise => ⟨fun h => ?_, fun a hp hatt => ⟨fun hhigh => ?_, fun hlow hheld => ?_⟩⟩, fun k => ⟨fun h => ?_, fun a hp hatt => ⟨fun hheard => ?_,
      fun hdeaf => ?_⟩⟩⟩
  · exact completes_onLive (fun d => (d.fieldGuardEnd n).settle) hrun rfl
      ⟨_, rfl, Dev.fieldGuardEnd_plain n.isLt hg hatt hkind ⟨hwith, hleave, hstag, hwait⟩ hbuf happ⟩
  · exact completes_onLive (fun d => (d.staggerRelease n).settle) hrun rfl (congrArg Dev.settle (Dev.staggerRelease_of_idle h))
  · exact completes_onLive (fun d => (d.staggerRelease n).settle) hrun rfl (congrArg Dev.settle (Dev.staggerRelease_of_staggered hstag))
  · intro hstag hothers hleave hwith hbuf happ
    exact completes_onLive (fun d => (d.staggerRelease n).settle) hrun rfl
      ⟨_, rfl, Dev.staggerRelease_send n.isLt ht hready hatt hstag hothers hleave hwith hbuf happ⟩
  · exact completes_onLive (fun d => (d.replyWindowOpen n resid noise.toNat).settle) hrun rfl
      (congrArg Dev.settle (Dev.replyWindowOpen_of_not_sent h))
  · have heq := (Dev.replyWindowOpen_of_sent (resid := resid.val) (noise := noise.toNat) hp hatt).trans (if_neg (Nat.not_lt.2 hhigh))
    obtain ⟨h1, h2, h3, h4, h5, h6, h7, -, h8⟩ := Dev.windowOpened_spec (resid := resid.val) (noise := noise.toNat) n.isLt hrun resid.isLt noise.isLt hatt
    exact completes_onLive (fun d => (d.replyWindowOpen n resid noise.toNat).settle) hrun rfl
      ⟨_, congrArg Dev.settle heq, h1, h2, h3, h4, h5, h6, h7, h8⟩
  · exact completes_onLive (fun d => (d.replyWindowOpen n resid noise.toNat).settle) hrun rfl
      ⟨_, rfl, Dev.replyWindowOpen_low n.isLt hrun hp hatt hheld hlow noise.isLt⟩
  · exact completes_onLive (·.sofAcquired n k) hrun rfl (Dev.sofAcquired_of_deaf h)
  · refine completes_onLive (·.sofAcquired n k) hrun rfl ?_
    rw [Dev.sofAcquired_in_window hp hatt, if_pos hheard]
    exact ⟨rfl, Dev.hfc_onHf n.isLt, fun m hm hne => Dev.hfc_onHf_other hm hne⟩
  · refine completes_onLive (·.sofAcquired n k) hrun rfl ?_
    rw [Dev.sofAcquired_in_window hp hatt, if_neg hdeaf]

end Sys2Proof.Machine
end

section
/-!
PROOFS. The end of an HF reply, and what is tracked between exchanges (Chapters 4 and 5).
-/

namespace Sys2Proof.Machine

open Sys2Proof

-- one proof after another: the check bounds the memory that the stacks of parallel proofs take
set_option Elab.async false

/-! ### No reply, and a complete frame (R157, R169) -/

theorem Dev.hfNoResponse_of_deaf {d : Dev} {n : Nat} (h : (d.hfc n).phase ≠ .window ∨ (d.hfc n).att = none) : d.hfNoResponse n = d := by
  unfold Dev.hfNoResponse
  split
  next a hp ha =>
    obtain h | h := h
    · exact absurd hp h
    · rw [ha] at h; cases h
  next => rfl

theorem Dev.hfFrameEnd_of_deaf {d : Dev} {n : Nat} {r : HfReply} (h : (d.hfc n).phase ≠ .receiving ∨ (d.hfc n).att = none) :
    d.hfFrameEnd n r = d := by
  unfold Dev.hfFrameEnd
  split
  next a hp ha =>
    obtain h | h := h
    · exact absurd hp h
    · rw [ha] at h; cases h
  next => rfl

theorem Dev.hfNoResponse_plain {d : Dev} {n : Nat} {a : HfAttempt} (hn : n < 4) (hp : (d.hfc n).phase = .window) (hatt : (d.hfc n).att = some a)
    (hseq : a.seq = .plain) (hheld : a.held = none) :
    let e := d.hfNoResponse n
    d.hfEnded e n a.rxChain Code.HF_NO_RESPONSE ∧ e.flag (F.HFCn_STAT_RX_WINDOW n) = false ∧
      e.fld (F.HFCn_STAT_LAST_CODE a.rxChain) = Code.HF_NO_RESPONSE := by
  intro e
  have he : e = (d.hfClose n).hfFail n { a with sof := none } Code.HF_NO_RESPONSE 0 0 := by
    simp only [e, Dev.hfNoResponse, hp, hatt, hseq]
  clear_value e
  have hrest := ((Dev.AtRest.refl d).hfClose (n := n)).chains a.rxChain a.rxChain_lt
  generalize d.hfClose n = x at he hrest
  obtain ⟨⟨hatt', hphase, f, hbufs, hcode⟩, hwin, hlast, -⟩ :=
    Dev.hfFail_spec (d := x) (a := { a with sof := none }) (code := Code.HF_NO_RESPONSE) (flags := 0) (coll := 0) hn hheld
  rw [← he] at *
  refine ⟨⟨hatt', hphase, f, ?_, hcode⟩, hwin, hlast rfl⟩
  rw [show (e.hfc a.rxChain).bufs = (x.hfc a.rxChain).bufs ++ [f] from hbufs, hrest]

theorem Dev.hfFrameEnd_plain {d : Dev} {n : Nat} {a : HfAttempt} {r : HfReply} (hn : n < 4) (hp : (d.hfc n).phase = .receiving)
    (hatt : (d.hfc n).att = some a) (hseq : a.seq = .plain) (hheld : a.held = none) :
    let e := d.hfFrameEnd n r
    let code := hfJudge a.proto a.sof r (a.kind == 0 && !hfCrcOff a.params)
    d.hfEnded e n a.rxChain code ∧ e.flag (F.HFCn_STAT_RX_WINDOW n) = false ∧
      (code = 0 → ∃ f, (e.hfc a.rxChain).bufs.getLast? = some f ∧ f.payload = r.bytes ∧ f.tag = a.tag) := by
  intro e code
  have he : e = (d.hfClose n).plainReply n a r := by simp only [e, Dev.hfFrameEnd, hp, hatt, hseq]
  clear_value e
  have hrest := ((Dev.AtRest.refl d).hfClose (n := n)).chains a.rxChain a.rxChain_lt
  generalize d.hfClose n = x at he hrest
  obtain ⟨flags, last, coll, he⟩ : ∃ flags last coll, e = x.hfEnd n a (x.hfFrame n a r.bytes code flags last coll true) := ⟨_, _, _, he⟩
  clear_value code
  obtain ⟨hpart, hcode, hlast, hpay, htag⟩ : (x.hfFrame n a r.bytes code flags last coll true).part = false ∧
      (x.hfFrame n a r.bytes code flags last coll true).code = code ∧ (x.hfFrame n a r.bytes code flags last coll true).last = true ∧
      (x.hfFrame n a r.bytes code flags last coll true).payload = (if code = 0 then r.bytes else []) ∧
      (x.hfFrame n a r.bytes code flags last coll true).tag = a.tag := ⟨rfl, rfl, rfl, rfl, rfl⟩
  generalize x.hfFrame n a r.bytes code flags last coll true = f at *
  obtain ⟨hatt', hphase, hbufs, hwin, -⟩ := Dev.hfEnd_spec (d := x) hn hheld hpart
  rw [htag] at hbufs
  rw [← he] at *
  have hb : (e.hfc a.rxChain).bufs = (d.hfc a.rxChain).bufs ++ [f] := by
    rw [show (e.hfc a.rxChain).bufs = (x.hfc a.rxChain).bufs ++ [f] from hbufs, hrest]
  refine ⟨⟨hatt', hphase, f, hb, hcode, hlast, fun h => ?_⟩, hwin, fun h => ⟨f, ?_, ?_, htag⟩⟩
  · rw [hpay, if_neg h]
  · rw [hb, List.getLast?_concat]
  · rw [hpay, if_pos h]

/-! ### The residual and the coupling tracked (R117, R126) -/

theorem Dev.residualClear_spec (d : Dev) {n : Nat} (hn : n < 4) :
    let e := d.residualClear n
    (e.hfc n).forced = false ∧ (∀ m, m < 4 → m ≠ n → e.hfc m = d.hfc m) ∧ { d with hf := e.hf }.onlyRegs e tierRegs := by
  intro e
  have hrefl : { d with hf := (d.onHf n fun c => { c with forced := false }).hf }.onlyRegs (d.onHf n fun c => { c with forced := false }) tierRegs :=
    Dev.onlyRegs_onHf (Dev.onlyRegs_refl d tierRegs) n _
  have h := Dev.showTiers_frame hrefl (List.Subset.refl _)
  have hhf : e.hf = (d.onHf n fun c => { c with forced := false }).hf := (congrArg Dev.hf h.1 :)
  refine ⟨?_, fun m hm hne => ?_, ?_⟩
  · rw [Dev.hfc, hhf, ← Dev.hfc, Dev.hfc_onHf hn]
  · rw [Dev.hfc, hhf, ← Dev.hfc, Dev.hfc_onHf_other hm hne]
  · rw [hhf]; exact h

/-- An eighth of a distance, rounded either way, is within one step of it. -/
theorem divOpen_eight (x : Int) : 8 * divOpen x 8 - x < 8 ∧ -8 < 8 * divOpen x 8 - x := by
  have hdiv := Int.mul_fdiv_add_fmod x 8
  have hlo := Int.fmod_nonneg_of_pos x (show (0 : Int) < 8 by decide)
  have hhi := Int.fmod_lt_of_pos x (show (0 : Int) < 8 by decide)
  unfold divOpen
  split
  · omega
  next hne =>
    have hup : b2n (Config.roundUp x 8) ≤ 1 := by
      unfold b2n
      split <;> decide
    omega

theorem Dev.couplingTrack_of_unused {d : Dev} {n m : Nat} {k : Cplx}
    (h : d.storedK n m = none ∨ (d.hfc n).phase = .window ∨ (d.hfc n).phase = .receiving) : d.couplingTrack n m k = d := by
  unfold Dev.couplingTrack
  split
  · rfl
  next s hs =>
    obtain h | h := h
    · rw [hs] at h; cases h
    · exact if_pos (by simpa using h)

/-- The registers that follow the tracked coupling of a chain. -/
def driftRegs (n : Nat) : List Nat :=
  [R.HFCn_XKm n 0, R.HFCn_XKm n 1, R.HFCn_XKm n 2, R.HFCn_XKm n 3, R.HFCn_RESID n, R.HOST_EVT_STAT] ++ tierRegs

theorem Dev.showTracked_frame (d : Dev) (n : Nat) : d.onlyRegs (d.showTracked n) (driftRegs n) := by
  refine (Dev.onlyRegs_refl d _).forEach fun x m hm hx => ?_
  have hmem : R.HFCn_XKm n m ∈ driftRegs n := by
    match m, List.mem_range.1 hm with
    | 0, _ | 1, _ | 2, _ | 3, _ => simp [driftRegs]
  exact (hx.fld hmem).fld hmem

/-- The tracked coupling an eighth of the way to what was measured. -/
def HfChain.tracks (c : HfChain) (m : Nat) (k : Cplx) : HfChain :=
  let t := c.tracked.getD m ⟨0, 0⟩
  { c with tracked := tableSet 4 ⟨0, 0⟩ c.tracked m ⟨t.re + divOpen (k.re - t.re) 8, t.im + divOpen (k.im - t.im) 8⟩ }

theorem Dev.couplingTrack_frame {d : Dev} {n m : Nat} {k v : Cplx} (hs : d.storedK n m = some v) (hw : (d.hfc n).phase ≠ .window)
    (hr : (d.hfc n).phase ≠ .receiving) : (d.onHf n (·.tracks m k)).PortOnly (d.couplingTrack n m k) (driftRegs n) := by
  unfold Dev.couplingTrack
  rw [hs]
  simp only [hw, hr, decide_false, Bool.or_self, Bool.false_eq_true, if_false]
  have hresid : (F.HFCn_RESID_DRIFT n).addr ∈ driftRegs n := by simp [driftRegs, F.HFCn_RESID_DRIFT, R.HFCn_RESID]
  have hev : R.HOST_EVT_STAT ∈ driftRegs n := by simp [driftRegs]
  have hx := ((d.onHf n (·.tracks m k)).showTracked_frame n)
  have hport : (d.onHf n (·.tracks m k)).PortOnly ((d.onHf n (·.tracks m k)).showTracked n) (driftRegs n) := .of_onlyRegs hx
  refine Dev.PortOnly.tierEvents ?_ hev (List.subset_append_right ..)
  split
  · exact (hport.setFld hresid).event hev
  · split
    · exact hport.setFld hresid
    · exact hport

theorem Dev.couplingTrack_spec {d : Dev} {n m : Nat} {k v : Cplx} (hn : n < 4) (hs : d.storedK n m = some v)
    (hw : (d.hfc n).phase ≠ .window) (hr : (d.hfc n).phase ≠ .receiving) :
    let x := d.couplingTrack n m k
    x = { d with hf := x.hf, regs := x.regs, host := x.host } ∧ (x.hfc n).tracked = ((d.hfc n).tracks m k).tracked := by
  intro x
  have h := Dev.couplingTrack_frame (k := k) hs hw hr
  refine ⟨?_, ?_⟩
  · have hx : x = _ := h.1
    clear_value x
    rw [hx]
    rfl
  · rw [show x.hfc n = (d.onHf n (·.tracks m k)).hfc n from h.hfc n, Dev.hfc_onHf hn]

/-! ### The obligation -/

/-- Settles O50: a reply by `Dev.hfEnd_spec`, the tracked values by what each update writes. -/
theorem repliesEnd : Obligations.RepliesEnd := by
  unfold Obligations.RepliesEnd
  intro s n hrun
  refine ⟨fun h => ?_, fun h r => ?_, fun a hatt hseq hheld => ⟨fun hp => ?_, fun r hp => ?_⟩, ?_, fun m k h => ?_, fun m k v hs hw hr => ?_⟩
  · exact completes_onLive (fun d => (d.hfNoResponse n).settle) hrun rfl (congrArg Dev.settle (Dev.hfNoResponse_of_deaf h))
  · exact completes_onLive (fun d => (d.hfFrameEnd n r).settle) hrun rfl (congrArg Dev.settle (Dev.hfFrameEnd_of_deaf h))
  · exact completes_onLive (fun d => (d.hfNoResponse n).settle) hrun rfl ⟨_, rfl, Dev.hfNoResponse_plain n.isLt hp hatt hseq hheld⟩
  · exact completes_onLive (fun d => (d.hfFrameEnd n r).settle) hrun rfl ⟨_, rfl, Dev.hfFrameEnd_plain n.isLt hp hatt hseq hheld⟩
  · exact completes_onLive (fun d => (d.residualClear n).settle) hrun rfl ⟨_, rfl, s.dev.residualClear_spec n.isLt⟩
  · exact completes_onLive (·.couplingTrack n m k) hrun rfl (Dev.couplingTrack_of_unused h)
  · obtain ⟨hframe, htracked⟩ := Dev.couplingTrack_spec (k := k) n.isLt hs hw hr
    refine completes_onLive (·.couplingTrack n m k) hrun rfl ⟨hframe, ?_⟩
    rw [htracked]
    simp only [HfChain.tracks]
    have hre := divOpen_eight (k.re - ((s.dev.hfc n).tracked.getD m ⟨0, 0⟩).re)
    have him := divOpen_eight (k.im - ((s.dev.hfc n).tracked.getD m ⟨0, 0⟩).im)
    rw [tableSet_getD_self m.isLt]
    dsimp only
    refine ⟨⟨by omega, by omega⟩, ⟨by omega, by omega⟩, fun i hi hne => tableSet_getD_other hi hne⟩

end Sys2Proof.Machine
end

section
/-!
PROOFS. What an answer changes: the history of its handle, and the event ring (R304, R443).
-/

namespace Sys2Proof.Machine

open Sys2Proof

-- one proof after another: the check bounds the memory that the stacks of parallel proofs take
set_option Elab.async false

/-! ### The frame of an answer -/

/-- A channel but for its history. -/
def Chan.bare (c : Chan) : Chan := { c with hist := {} }

theorem Chan.eq_of_bare {c y : Chan} (h : y.bare = c.bare) : y = { c with hist := y.hist } := by
  cases c
  cases y
  simp only [Chan.bare, Chan.mk.injEq] at h
  simp [h]

/-- Answers change histories, the event ring and what shows it, and the queue of commands that wait. -/
structure Dev.Answered (d e : Dev) : Prop where
  rest : e = { d with regs := e.regs, chans := e.chans, host := e.host }
  host : e.host = { d.host with hist := e.host.hist, ring := e.host.ring, dropped := e.host.dropped, cmdq := e.host.cmdq }
  regs : ∀ a, a ≠ R.HOST_EVT_STAT → a ≠ R.HOST_STAT → e.reg a = d.reg a
  chans : ∀ k, (e.chan? k).map Chan.bare = (d.chan? k).map Chan.bare

namespace Dev.Answered

variable {d e x : Dev}

theorem refl (d : Dev) : d.Answered d := ⟨rfl, rfl, fun _ _ _ => rfl, fun _ => rfl⟩

theorem trans (h : d.Answered e) (g : e.Answered x) : d.Answered x :=
  ⟨by rw [g.rest, h.rest], by rw [g.host, h.host], fun a h1 h2 => (g.regs a h1 h2).trans (h.regs a h1 h2), fun k => (g.chans k).trans (h.chans k)⟩

theorem chan {k : Nat} {c : Chan} (h : d.Answered e) (hc : d.chan? k = some c) : ∃ hist, e.chan? k = some { c with hist := hist } := by
  have hk := h.chans k
  rw [hc] at hk
  obtain ⟨y, hy, hb⟩ := Option.map_eq_some_iff.1 hk
  exact ⟨y.hist, by rw [hy, ← Chan.eq_of_bare hb]⟩

theorem chan_none {k : Nat} (h : d.Answered e) (hc : d.chan? k = none) : e.chan? k = none := by
  have hk := h.chans k
  rw [hc] at hk
  exact Option.map_eq_none_iff.1 hk

theorem isSome_chan (h : d.Answered e) (k : Nat) : (e.chan? k).isSome = (d.chan? k).isSome := by
  simpa using congrArg Option.isSome (h.chans k)

theorem gens (h : d.Answered e) : e.gens = d.gens := (congrArg Dev.gens h.rest :)

theorem gen (h : d.Answered e) (k : Nat) : e.gen k = d.gen k := by rw [Dev.gen, h.gens, Dev.gen]

theorem handle (h : d.Answered e) (k : Nat) : e.handle k = d.handle k := by rw [Dev.handle, h.gen, Dev.handle]

theorem liveSlot (h : d.Answered e) (k : Nat) : e.liveSlot k = d.liveSlot k := Dev.liveSlot_congr (h.isSome_chan _) h.gens

theorem hfc (h : d.Answered e) (n : Nat) : e.hfc n = d.hfc n := by rw [Dev.hfc, (congrArg Dev.hf h.rest :), Dev.hfc]

theorem uhfc (h : d.Answered e) (n : Nat) : e.uhfc n = d.uhfc n := by rw [Dev.uhfc, (congrArg Dev.uhf h.rest :), Dev.uhfc]

theorem fld (h : d.Answered e) {f : Fld} (h1 : f.addr ≠ R.HOST_EVT_STAT) (h2 : f.addr ≠ R.HOST_STAT) : e.fld f = d.fld f :=
  Dev.fld_eq_of_reg (h.regs _ h1 h2)

theorem of_portOnly (h : d.PortOnly e [R.HOST_EVT_STAT])
    (hh : e.host = { d.host with hist := e.host.hist, ring := e.host.ring, dropped := e.host.dropped, cmdq := e.host.cmdq }) : d.Answered e := by
  have hc : e.chans = d.chans := (congrArg Dev.chans h.1 :)
  exact ⟨by rw [hc]; exact h.1, hh, fun a h1 _ => h.2 a fun hm => h1 (List.mem_singleton.1 hm), fun k => by rw [Dev.chan?, hc, Dev.chan?]⟩

theorem event (h : d.Answered e) (kind arg handle : Nat) (data : Bytes) : d.Answered (e.event kind arg handle data) := by
  obtain ⟨-, -, hh⟩ := e.event_frame kind arg handle data
  exact h.trans (of_portOnly ((Dev.PortOnly.refl e _).event (List.mem_singleton.2 rfl)) (by rw [hh]))

theorem onChan (h : d.Answered e) (slot : Nat) {f : Chan → Chan} (hf : ∀ c, (f c).bare = c.bare) : d.Answered (e.onChan slot f) := by
  refine h.trans ⟨by rw [Dev.onChan_frame], by rw [Dev.onChan_frame], fun a _ _ => by rw [Dev.onChan_frame]; rfl, fun k => ?_⟩
  by_cases hk : k = slot
  · subst hk
    cases hc : e.chan? k with
    | none => simp only [Dev.onChan, hc]
    | some c => rw [Dev.chan?_onChan hc]; exact congrArg some (hf c)
  · rw [Dev.chan?_onChan_other hk]

theorem onHistory (h : d.Answered e) (handle : Nat) (f : History → History) : d.Answered (e.onHistory handle f) := by
  unfold Dev.onHistory
  split
  · exact h.trans ⟨rfl, rfl, fun _ _ _ => rfl, fun _ => rfl⟩
  · split
    · exact h.onChan _ fun _ => rfl
    · exact h

theorem setQueue (h : d.Answered e) (q : List Cmd) : d.Answered (e.setQueue q) :=
  h.trans ⟨rfl, rfl, fun _ _ h2 => Dev.reg_setQueue h2, fun _ => rfl⟩

theorem reqPending (h : d.Answered e) (handle id : Nat) : d.Answered (e.reqPending handle id) := h.onHistory _ _

theorem reqDone (h : d.Answered e) (handle id outcome retries : Nat) (result : Bytes) : d.Answered (e.reqDone handle id outcome retries result) := by
  unfold Dev.reqDone
  split
  · exact (h.onHistory _ _).event _ _ _ _
  · exact h

theorem cmdDone (h : d.Answered e) (c : Cmd) (code : Nat) (result : Bytes) : d.Answered (e.cmdDone c code result) := h.reqDone _ _ _ _ _

theorem stopsDone (h : d.Answered e) (handle : Nat) (ids : List Nat) : d.Answered (e.stopsDone handle ids) :=
  Dev.forEach_keeps (P := d.Answered) h fun _ _ _ hy => hy.reqDone _ _ _ _ _

end Dev.Answered

/-! ### What an answer reports -/

theorem Dev.hasHistory_of_mem {d : Dev} {handle : Nat} {x : HistEntry} (h : x ∈ (d.history handle).entries) : d.hasHistory handle := by
  by_contra hn
  rw [Dev.history_of_none hn] at h
  cases h

theorem Dev.event_history (d : Dev) (kind arg h : Nat) (data : Bytes) (handle : Nat) : (d.event kind arg h data).history handle = d.history handle := by
  obtain ⟨-, hregs, hhost⟩ := d.event_frame kind arg h data
  have hc : (d.event kind arg h data).chans = d.chans := (congrArg Dev.chans hregs.1 :)
  have hg : (d.event kind arg h data).gens = d.gens := (congrArg Dev.gens hregs.1 :)
  have hh : (d.event kind arg h data).host.hist = d.host.hist := (congrArg HostPort.hist hhost :)
  exact Dev.history_congr hc hg hh handle

/-- The data of an event of a request's end. -/
theorem doneData_spec (id cmd outcome retries : Nat) :
    let data := fit 8 (beBytes 2 id ++ beBytes 1 cmd ++ beBytes 1 outcome ++ beBytes 1 retries)
    numAt data 0 2 = id % 65536 ∧ byteAt data 3 = outcome % 256 := by
  simp only [fit, beBytes, zeros, numAt, beNat, byteAt]
  simp [List.range_succ, Nat.shiftRight_eq_div_pow]
  omega

theorem Dev.reqDone_of_waiting {d : Dev} {handle id outcome retries : Nat} {result : Bytes}
    (h : ∃ x ∈ (d.history handle).entries, x.id = id ∧ x.st ≠ .done) :
    (∀ x ∈ ((d.reqDone handle id outcome retries result).history handle).entries, x.id = id →
      x.st = .done ∧ x.outcome = outcome ∧ x.result = result.take 56) ∧
    ∃ y, (d.reqDone handle id outcome retries result).host.ring.getLast? = some y ∧ y.kind = 3 ∧ y.handle = handle ∧
      numAt y.data 0 2 = id % 65536 ∧ byteAt y.data 3 = outcome % 256 := by
  obtain ⟨x, hx, hid, hst⟩ := h
  obtain ⟨e, he⟩ : ∃ e, (d.history handle).entries.find? (fun e => e.id == id && e.st != .done) = some e :=
    Option.isSome_iff_exists.1 (List.find?_isSome.2 ⟨x, hx, by simp [hid, hst]⟩)
  simp only [Dev.reqDone, he]
  refine ⟨fun y hy hyid => ?_, ?_⟩
  · rw [Dev.event_history, Dev.history_onHistory _ (Dev.hasHistory_of_mem hx), History.onEntry, List.mem_map] at hy
    obtain ⟨z, -, rfl⟩ := hy
    by_cases hz : z.id = id
    · rw [if_pos hz]; exact ⟨rfl, rfl, rfl⟩
    · rw [if_neg hz] at hyid; exact absurd hyid hz
  · obtain ⟨⟨y, hlast, hkind, -, hhandle, hdata⟩, -⟩ := (d.onHistory handle (·.onEntry id fun e => { e with
      st := .done, outcome := outcome, retries := retries, result := result.take 56 })).event_frame 3 0 handle
      (beBytes 2 id ++ beBytes 1 e.cmd ++ beBytes 1 outcome ++ beBytes 1 retries)
    obtain ⟨h0, h3⟩ := doneData_spec id e.cmd outcome retries
    exact ⟨y, hlast, hkind, hhandle, by rw [hdata]; exact h0, by rw [hdata]; exact h3⟩

/-- A command whose request is not done yet is answered. -/
theorem Dev.cmdDone_reports {d : Dev} {c : Cmd} (code : Nat) (result : Bytes)
    (h : ∃ x ∈ (d.history c.handle).entries, x.id = c.reqId ∧ x.st ≠ .done) : (d.cmdDone c code result).reports c code result :=
  Dev.reqDone_of_waiting h

theorem Dev.takes.waits {s d : Dev} {code : Nat} {c : Cmd} (h : s.takes code c d) :
    ∃ x ∈ (d.history c.handle).entries, x.id = c.reqId ∧ x.st ≠ .done := by
  obtain ⟨-, -, x, hx, hid, hst⟩ := h
  exact ⟨x, hx, hid, by rw [hst]; decide⟩

/-- The requests that wait keep their entries over a change that leaves the history. -/
theorem Dev.waits_congr {d e : Dev} {c : Cmd} (he : e.history c.handle = d.history c.handle)
    (h : ∃ x ∈ (d.history c.handle).entries, x.id = c.reqId ∧ x.st ≠ .done) :
    ∃ x ∈ (e.history c.handle).entries, x.id = c.reqId ∧ x.st ≠ .done := by rw [he]; exact h

/-! ### The stops that a channel answers when it stops -/

/-- Every entry of a request is done. -/
def Dev.allDone (d : Dev) (handle id : Nat) : Prop := ∀ x ∈ (d.history handle).entries, x.id = id → x.st = .done

theorem Dev.reqDone_allDone (d : Dev) (handle id outcome retries : Nat) (result : Bytes) :
    (d.reqDone handle id outcome retries result).allDone handle id := by
  by_cases h : ∃ x ∈ (d.history handle).entries, x.id = id ∧ x.st ≠ .done
  · exact fun x hx hid => ((Dev.reqDone_of_waiting h).1 x hx hid).1
  · have hdone : d.allDone handle id := fun x hx hid => by
      by_contra hst
      exact h ⟨x, hx, hid, hst⟩
    have hnone : (d.history handle).entries.find? (fun e => e.id == id && e.st != .done) = none := by
      rw [List.find?_eq_none]
      intro x hx
      by_cases hid : x.id = id
      · simp [hid, hdone x hx hid]
      · simp [hid]
    simpa only [Dev.reqDone, hnone] using hdone

theorem Dev.allDone.reqDone {d : Dev} {handle i : Nat} (h : d.allDone handle i) (id outcome retries : Nat) (result : Bytes) :
    (d.reqDone handle id outcome retries result).allDone handle i := by
  by_cases hi : i = id
  · subst hi; exact d.reqDone_allDone handle i outcome retries result
  unfold Dev.reqDone
  split
  next e he =>
    have hx := List.mem_of_find?_eq_some he
    intro y hy hyid
    rw [Dev.event_history, Dev.history_onHistory _ (Dev.hasHistory_of_mem hx), History.onEntry, List.mem_map] at hy
    obtain ⟨z, hz, rfl⟩ := hy
    split at hyid
    · rename_i hzid; exact absurd (hyid.symm.trans hzid) hi
    · rename_i hzid; rw [if_neg hzid]; exact h z hz hyid
  next => exact h

theorem Dev.stopsDone_allDone (d : Dev) (handle : Nat) {ids : List Nat} {i : Nat} (hi : i ∈ ids) : (d.stopsDone handle ids).allDone handle i := by
  induction ids generalizing d with
  | nil => cases hi
  | cons j js ih =>
    have hlater : ∀ (l : List Nat) (x : Dev), x.allDone handle i → (x.stopsDone handle l).allDone handle i := fun l x hx =>
      Dev.forEach_keeps (P := fun y => y.allDone handle i) hx fun y _ _ hy => hy.reqDone _ _ _ _
    obtain rfl | hj := List.mem_cons.1 hi
    · exact hlater js _ (d.reqDone_allDone _ _ _ _ _)
    · exact ih _ hj

end Sys2Proof.Machine
end

section
/-!
PROOFS. A channel that stops, and a direct message that starts (Chapter 10).
-/

namespace Sys2Proof.Machine

open Sys2Proof

-- one proof after another: the check bounds the memory that the stacks of parallel proofs take
set_option Elab.async false

/-! ### A channel that no chain serves -/

theorem Dev.hfc_quotaClose (d : Dev) (slot n : Nat) : (d.quotaClose slot).hfc n = d.hfc n := rfl

theorem Dev.chan?_quotaClose (d : Dev) (slot k : Nat) : (d.quotaClose slot).chan? k = d.chan? k := rfl

/-- The end of a run of a channel that no chain serves closes its quota and nothing else. -/
theorem Dev.releaseRun_of_unserved {d : Dev} {slot : Nat} (hh : ∀ n, (d.hfc n).owner ≠ some slot) (hu : ∀ n, (d.uhfc n).owner ≠ some slot) :
    d.releaseRun slot = d.quotaClose slot := by
  have hhf : ∀ n ∈ List.range 4, (if ((d.quotaClose slot).hfc n).owner == some slot && ((d.quotaClose slot).hfc n).master then
      (d.quotaClose slot).releaseChain n true else d.quotaClose slot) = d.quotaClose slot := fun n _ => if_neg (by
    rw [show (d.quotaClose slot).hfc n = d.hfc n from rfl]
    simp [hh n])
  have huhf : ∀ n ∈ [0, 1], (if ((d.quotaClose slot).uhfc n).owner == some slot && ((d.quotaClose slot).uhfc n).master then
      (d.quotaClose slot).releaseChain (4 + n) true else d.quotaClose slot) = d.quotaClose slot := fun n _ => if_neg (by
    rw [show (d.quotaClose slot).uhfc n = d.uhfc n from rfl]
    simp [hu n])
  have hfirst : (d.quotaClose slot).forEach (List.range 4) (fun d n =>
      if (d.hfc n).owner == some slot && (d.hfc n).master then d.releaseChain n true else d) = d.quotaClose slot := Dev.forEach_fixed hhf
  unfold Dev.releaseRun Dev.releaseRunIf
  dsimp only
  rw [hfirst]
  exact Dev.forEach_fixed huhf

theorem Dev.dropPending_of_none {d : Dev} {slot : Nat} (h : ∀ c, d.chan? slot = some c → c.pending = none) : d.dropPending slot = d := by
  unfold Dev.dropPending
  cases hc : d.chan? slot with
  | none => rfl
  | some c => simp [h c hc]

/-- An unattached channel that stops is marked so; its quota is closed. -/
theorem Dev.chanStopped_of_unattached {d : Dev} {slot : Nat} (h : d.unattached slot) : d.chanStopped slot =
    (d.quotaClose slot).onChan slot fun c => { c with state := .stopped, drain := false, extras := [], cycle := {} } := by
  obtain ⟨hp, hh, hu⟩ := h
  rw [Dev.chanStopped, Dev.dropPending_of_none hp, Dev.releaseRun_of_unserved hh hu]

theorem Dev.chan?_filter (d : Dev) (slot k : Nat) :
    ({ d with chans := d.chans.filter (·.1 != slot) } : Dev).chan? k = if k = slot then none else d.chan? k := by
  simp only [Dev.chan?, List.find?_filter]
  by_cases hk : k = slot
  · subst hk
    simp
  · rw [if_neg hk]
    congr 2
    funext y
    by_cases hy : y.1 = k
    · simp [hy, hk]
    · simp [hy]

/-- An unattached channel that is freed: its slot is empty, its generation advances, and the rest of the channels stay. -/
theorem Dev.chanFreed_of_unattached {d : Dev} {slot : Nat} (h : d.unattached slot) :
    (d.chanFreed slot).chan? slot = none ∧ (∀ k, k ≠ slot → (d.chanFreed slot).chan? k = d.chan? k) ∧
      (d.chanFreed slot).gens = mapSet 1 d.gens slot (if d.gen slot = 255 then 1 else d.gen slot + 1) ∧
      (d.chanFreed slot).host.ring = d.host.ring := by
  obtain ⟨hp, hh, hu⟩ := h
  unfold Dev.chanFreed
  rw [Dev.dropPending_of_none hp, Dev.releaseRun_of_unserved hh hu]
  have hchan : ∀ (x : Dev) (q : List Cmd) (g : List (Nat × Nat)) (k : Nat), (Dev.setQueue { x with gens := g } q).chan? k = x.chan? k :=
    fun _ _ _ _ => rfl
  refine ⟨?_, fun k hk => ?_, rfl, rfl⟩
  · refine (hchan { d.quotaClose slot with chans := d.chans.filter (·.1 != slot) } _ _ _).trans ?_
    exact ((d.quotaClose slot).chan?_filter slot slot).trans (if_pos rfl)
  · refine (hchan { d.quotaClose slot with chans := d.chans.filter (·.1 != slot) } _ _ _).trans ?_
    exact ((d.quotaClose slot).chan?_filter slot k).trans (if_neg hk)

/-! ### The end of STOPPING (R306) -/

/-- The histories of a live handle. -/
theorem Dev.history_handle {d : Dev} {slot : Nat} {c : Chan} (hslot : slot < 256) (hgen : d.gen slot ≠ 0) (hc : d.chan? slot = some c) :
    d.history (d.handle slot) = c.hist := by
  have hmod : d.handle slot % 256 = slot := by rw [Dev.handle]; omega
  have hdiv : d.handle slot / 256 = d.gen slot := by rw [Dev.handle]; omega
  have hne : d.handle slot ≠ 0 := by rw [Dev.handle]; omega
  have hlive : d.liveSlot (d.handle slot) = some slot := by
    simp [Dev.liveSlot, hmod, hdiv, hc, hgen]
  rw [Dev.history, if_neg hne, Dev.byHandle, hlive, Option.bind_some, hc]
  rfl

/-- A channel stopped. -/
def Chan.halted (c : Chan) : Chan := { c with state := .stopped, stopIds := [], destroy := false }

theorem Dev.stoppingEnd_eq {d : Dev} {slot : Nat} {c : Chan} (hc : d.chan? slot = some c) (hstate : c.state = .stopping) (hstep : c.step = none)
    (hrun : c.run = none) : d.stoppingEnd slot =
      (if c.destroy then ((d.onChan slot Chan.halted).stopsDone (d.handle slot) c.stopIds).chanFreed slot
        else ((d.onChan slot Chan.halted).stopsDone (d.handle slot) c.stopIds).chanStopped slot).settle := by
  unfold Dev.stoppingEnd
  simp only [hc, hstate, hstep, hrun, bne_self_eq_false, Option.isSome_none, Bool.or_self, Bool.false_eq_true, if_false]
  rfl

theorem Dev.stoppingEnd_of_other {d : Dev} {slot : Nat} {c : Chan} (hc : d.chan? slot = some c) (hstate : c.state ≠ .stopping) :
    d.stoppingEnd slot = d := by
  unfold Dev.stoppingEnd
  simp [hc, hstate]

theorem Dev.stoppingEnd_spec {d : Dev} {slot : Nat} {c : Chan} (hslot : slot < 256) (hc : d.chan? slot = some c) (hstate : c.state = .stopping)
    (hstep : c.step = none) (hrun : c.run = none) (hfree : d.unattached slot) : ∃ e : Dev, d.stoppingEnd slot = e.settle ∧
      (c.destroy = true → e.chan? slot = none) ∧
      (c.destroy = false → ∃ y, e.chan? slot = some y ∧ y.state = .stopped ∧ y.stopIds = [] ∧
        ∀ i ∈ c.stopIds, ∀ h ∈ y.hist.entries, h.id = i → d.gen slot ≠ 0 → h.st = .done) := by
  obtain ⟨hp, hh, hu⟩ := hfree
  have hhalt : (d.onChan slot Chan.halted).chan? slot = some c.halted := Dev.chan?_onChan hc
  have hans := (Dev.Answered.refl (d.onChan slot Chan.halted)).stopsDone (d.handle slot) c.stopIds
  have hdone : ∀ i ∈ c.stopIds, ((d.onChan slot Chan.halted).stopsDone (d.handle slot) c.stopIds).allDone (d.handle slot) i :=
    fun i hi => Dev.stopsDone_allDone _ _ hi
  have heq := Dev.stoppingEnd_eq hc hstate hstep hrun
  have hframe : ∀ n, (d.onChan slot Chan.halted).hfc n = d.hfc n ∧ (d.onChan slot Chan.halted).uhfc n = d.uhfc n := fun n => by
    rw [Dev.onChan_frame]; exact ⟨rfl, rfl⟩
  have hgens : (d.onChan slot Chan.halted).gens = d.gens := Dev.gens_onChan ..
  generalize (d.onChan slot Chan.halted).stopsDone (d.handle slot) c.stopIds = x at *
  obtain ⟨hist, hx⟩ := hans.chan hhalt
  have hgen : x.gen slot = d.gen slot := by rw [Dev.gen, hans.gens, hgens, Dev.gen]
  have hxfree : x.unattached slot := by
    refine ⟨fun y hy => ?_, fun n => ?_, fun n => ?_⟩
    · rw [hx] at hy
      obtain rfl := Option.some.inj hy
      exact hp c hc
    · rw [hans.hfc, (hframe n).1]; exact hh n
    · rw [hans.uhfc, (hframe n).2]; exact hu n
  refine ⟨_, heq, fun hdestroy => ?_, fun hkeep => ?_⟩
  · rw [if_pos hdestroy]
    exact (Dev.chanFreed_of_unattached hxfree).1
  · rw [if_neg (by simp [hkeep]), Dev.chanStopped_of_unattached hxfree]
    refine ⟨_, Dev.chan?_onChan ((x.chan?_quotaClose slot slot).trans hx), rfl, rfl, fun i hi h hmem hid hne => ?_⟩
    refine hdone i hi h ?_ hid
    rw [show d.handle slot = x.handle slot from by rw [Dev.handle, Dev.handle, hgen], Dev.history_handle hslot (by rw [hgen]; exact hne) hx]
    exact hmem

/-! ### A direct message starts its step (R308) -/

theorem Dev.directStart_of_no_message {d : Dev} {slot : Nat} {c : Chan} (hc : d.chan? slot = some c) (hmsg : c.msgWait = false) :
    d.directStart slot = d := by
  unfold Dev.directStart
  simp [hc, hmsg]

theorem Dev.directStart_spec {d : Dev} {slot : Nat} {c : Chan} (hrun : d.phase = .running) (hc : d.chan? slot = some c) (hdirect : c.direct = true)
    (hstate : c.state = .active) (hmsg : c.msgWait = true) (hstep : c.step = none) (hres : c.results = []) (hheld : d.isHeld c.kind = false)
    (hq : ∀ q ∈ d.host.cmdq, q.code = 0xFF) : ∃ e : Dev, d.directStart slot = e.settle ∧
      ∃ y st, e.chan? slot = some y ∧ y.state = .running ∧ y.mailbox = [] ∧ y.msgWait = false ∧ y.step = some st ∧
        st.tag.reqId = numAt c.mailbox 0 2 ∧ st.tag.handle = d.handle slot ∧ st.deadline = c.accepted + numAt c.mailbox 8 4 ∧
        st.tmpl = msgTmpl c.mailbox ∧ st.params = msgParams c.mailbox := by
  have hclear : (d.host.cmdq.takeWhile fun q => !(q.code == 0xFF && q.handle == d.handle slot)).all (·.code == 0xFF) = true := by
    rw [List.all_eq_true]
    intro q hmem
    simp [hq q ((List.takeWhile_sublist _).subset hmem)]
  unfold Dev.directStart
  simp only [hc, Dev.live_of_running hrun, hheld, hdirect, hstate, hmsg, hstep, hres, hclear, bne_self_eq_false, Bool.not_true,
    Option.isSome_none, List.isEmpty_nil, Bool.or_self, Bool.true_or, Bool.false_eq_true, if_false]
  have hans := ((Dev.Answered.refl d).setQueue (d.host.cmdq.filter fun q => !(q.code == 0xFF && q.handle == d.handle slot))).reqPending
    (d.handle slot) (numAt c.mailbox 0 2)
  generalize ((d.setQueue (d.host.cmdq.filter fun q => !(q.code == 0xFF && q.handle == d.handle slot))).reqPending (d.handle slot)
    (numAt c.mailbox 0 2)) = x at hans ⊢
  obtain ⟨hist, hx⟩ := hans.chan hc
  refine ⟨_, rfl, _, _, Dev.chan?_onChan hx, rfl, rfl, rfl, rfl, ?_⟩
  split <;> exact ⟨rfl, rfl, rfl, rfl, rfl⟩

/-- Settles O39: a stopping channel answers its stops, and a message that nothing holds starts its step. -/
theorem stoppingAndMessages : Obligations.StoppingAndMessages := by
  unfold Obligations.StoppingAndMessages
  intro s slot c hrun hc
  refine ⟨fun hstate hstep hr hfree => ?_, fun hstate => ?_, fun hdirect hstate hmsg hstep hres hheld hq => ?_, fun hmsg => ?_⟩
  · exact completes_onLive (·.stoppingEnd slot) hrun rfl (Dev.stoppingEnd_spec slot.isLt hc hstate hstep hr hfree)
  · exact completes_onLive (·.stoppingEnd slot) hrun rfl (Dev.stoppingEnd_of_other hc hstate)
  · exact completes_onLive (·.directStart slot) hrun rfl (Dev.directStart_spec hrun hc hdirect hstate hmsg hstep hres hheld hq)
  · exact completes_onLive (·.directStart slot) hrun rfl (Dev.directStart_of_no_message hc hmsg)

end Sys2Proof.Machine
end

section
/-!
PROOFS. Channels made, started, stopped, run and freed by command (R302–R308).
-/

namespace Sys2Proof.Machine

open Sys2Proof

-- one proof after another: the check bounds the memory that the stacks of parallel proofs take
set_option Elab.async false

/-! ### A change to a channel that keeps its history -/

theorem Dev.history_onChan {d : Dev} {slot : Nat} {f : Chan → Chan} (hf : ∀ c, (f c).hist = c.hist) (handle : Nat) :
    (d.onChan slot f).history handle = d.history handle := by
  have hhost : (d.onChan slot f).host = d.host := by rw [Dev.onChan_frame]
  unfold Dev.history Dev.byHandle
  rw [hhost, Dev.liveSlot_onChan]
  cases hl : d.liveSlot handle with
  | none => rfl
  | some k =>
    simp only [Option.bind_some]
    by_cases hk : k = slot
    · subst hk
      cases hc : d.chan? k with
      | none => simp only [Dev.onChan, hc]
      | some c => simp only [Dev.chan?_onChan hc, Option.map_some, hf]
    · rw [Dev.chan?_onChan_other hk]

theorem Dev.history_onlyRegs {d e : Dev} {l : List Nat} (h : d.onlyRegs e l) (handle : Nat) : e.history handle = d.history handle := by
  have hc : e.chans = d.chans := (congrArg Dev.chans h.1 :)
  have hg : e.gens = d.gens := (congrArg Dev.gens h.1 :)
  have hh : e.host = d.host := (congrArg Dev.host h.1 :)
  exact Dev.history_congr hc hg (by rw [hh]) handle

theorem Dev.byHandle_of_live {d : Dev} {handle slot : Nat} {c : Chan} (hl : d.liveSlot handle = some slot) (hc : d.chan? slot = some c) :
    d.byHandle handle = some c := by rw [Dev.byHandle, hl, Option.bind_some, hc]

theorem Dev.onChan_of_chan {d : Dev} {slot : Nat} {c : Chan} (hc : d.chan? slot = some c) (f : Chan → Chan) : d.onChan slot f = d.setChan slot (f c) := by
  simp only [Dev.onChan, hc]

theorem Dev.cmdDone_own {d : Dev} {c : Cmd} (hown : c.handle = 0) (code : Nat) (result : Bytes) : (d.cmdDone c code result).chans = d.chans := by
  unfold Dev.cmdDone Dev.reqDone
  split
  · obtain ⟨-, hregs, -⟩ := Dev.event_frame (d.onHistory c.handle (·.onEntry c.reqId fun e => { e with
      st := .done, outcome := code, retries := 0, result := result.take 56 })) 3 0 c.handle _
    refine (congrArg Dev.chans hregs.1 :).trans ?_
    simp only [Dev.onHistory, hown, if_true]
  · rfl

/-! ### The verdict of a check shown (R81, R86) -/

/-- The registers that show the verdict of a check. -/
def verdictRegs : List Nat := [R.SUP_CHECK, F.SUP_CC_CODE.addr, F.SUP_CC_SUBJECT.addr, F.SUP_CC_NEED_NEED.addr]

theorem Dev.chanCheck_frame (d : Dev) (r : Option Refused) (source : Nat) : d.onlyRegs (d.chanCheck r source) verdictRegs := by
  have hended : ∀ code, d.onlyRegs (d.checkEnded code) verdictRegs := fun code => ((Dev.onlyRegs_refl d _).fld).fld
  cases r with
  | none => exact hended 0
  | some r => exact ((((hended r.code).fld).fld).fld).fld.fld

theorem Dev.chanCheck_passed (d : Dev) (source : Nat) : (d.chanCheck none source).fld F.SUP_CHECK_LAST_CODE = 0 := by
  simp (disch := decide) only [Dev.chanCheck, Dev.checkEnded, Dev.fld_setFld_other, Dev.fld_setFld, Nat.zero_mod]

theorem Dev.chanCheck_refused (d : Dev) (r : Refused) {source : Nat} (hs : source < 16) : let e := d.chanCheck (some r) source
    e.fld F.SUP_CC_CODE = r.code % 256 ∧ e.fld F.SUP_CC_SOURCE = source ∧ e.fld F.SUP_CC_STEP = r.step % 16 ∧
      e.fld F.SUP_CHECK_LAST_CODE = r.code % 256 := by
  simp (disch := decide) only [Dev.chanCheck, Dev.checkEnded, Dev.refuse, Dev.fld_setFld_other, Dev.fld_setFld]
  exact ⟨rfl, Nat.mod_eq_of_lt hs, rfl, rfl⟩

/-! ### A run begun (R331) -/

/-- The run that a channel starts when one falls due. -/
def Dev.runOf (d : Dev) (c : Chan) (due : Due) : Run :=
  { due := due, reqId := (match due.cause with
      | .chnRun id => id
      | _ => (c.runs + 1) % 2 ^ 32 % 65536)
    deadline := due.at_ + (d.plan c.plan).deadline, object := if c.kind == Kind.meterRead then some due.target else none }

theorem Dev.newStep_spec {d : Dev} {slot : Nat} {c : Chan} (hc : d.chan? slot = some c) (hrun : c.run.isSome) :
    ∃ st, d.newStep slot = d.setChan slot { c with step := some st, state := .running } := by
  obtain ⟨r, hr⟩ := Option.isSome_iff_exists.1 hrun
  unfold Dev.newStep
  simp only [hc, hr]
  exact ⟨_, rfl⟩

theorem Dev.startRun_spec (d : Dev) (slot : Nat) (c : Chan) (due : Due) : ∃ st, (d.startRun slot c due).chan? slot = some { c with
    run := some (d.runOf c due), runs := (c.runs + 1) % 2 ^ 32, pending := none, waitUs := 0, state := .running, step := some st } := by
  unfold Dev.startRun
  extract_lets p runs reqId r x
  have hr : r = d.runOf c due := rfl
  clear_value r
  subst hr
  obtain ⟨st, hst⟩ := Dev.newStep_spec (d.chan?_setChan slot { c with
    run := some (d.runOf c due), runs := runs, pending := none, waitUs := 0, state := .running }) rfl
  have hx : x.chan? slot = some { c with
      run := some (d.runOf c due), runs := runs, pending := none, waitUs := 0, state := .running, step := some st } := by
    simp only [x]
    rw [hst]
    exact Dev.chan?_setChan ..
  clear_value x
  split
  · exact ⟨st, hx⟩
  · exact ⟨_, Dev.chan?_onChan hx⟩

end Sys2Proof.Machine
end

section
/-!
PROOFS. CHN_CREATE, CHN_START, CHN_STOP, CHN_RUN and CHN_DESTROY (R302–R308).
-/

namespace Sys2Proof.Machine

open Sys2Proof

-- one proof after another: the check bounds the memory that the stacks of parallel proofs take
set_option Elab.async false

theorem Dev.drained_of_empty {d : Dev} (h : d.checks = []) : d.drained = d := by rw [Dev.drained, h]; rfl

/-- A waiting request is answered, and its slot keeps its channel but for the history. -/
theorem Dev.cmdDone_chan {d : Dev} {cm : Cmd} {slot : Nat} {c : Chan} (code : Nat) (result : Bytes) (hc : d.chan? slot = some c) :
    ∃ hist, (d.cmdDone cm code result).chan? slot = some { c with hist := hist } :=
  ((Dev.Answered.refl d).cmdDone cm code result).chan hc

/-! ### CHN_CREATE (R302) -/

/-- The entry of a cycle changes the cycle of its channel alone. -/
theorem Dev.enterCycle_eq (d : Dev) (slot : Nat) : ∃ f : Chan → Chan, d.enterCycle slot = d.onChan slot f ∧ ∀ c, ∃ cy, f c = { c with cycle := cy } := by
  refine ⟨_, rfl, fun c => ?_⟩
  dsimp only
  split
  · exact ⟨c.cycle, rfl⟩
  · split
    · exact ⟨_, rfl⟩
    · exact ⟨_, rfl⟩

theorem Dev.enterCycle_chan {d : Dev} {slot : Nat} {c : Chan} (hc : d.chan? slot = some c) :
    ∃ cy, (d.enterCycle slot).chan? slot = some { c with cycle := cy } := by
  obtain ⟨f, hf, hcy⟩ := d.enterCycle_eq slot
  obtain ⟨cy, h⟩ := hcy c
  exact ⟨cy, by rw [hf, Dev.chan?_onChan hc, h]⟩

/-- What a change of one channel leaves. -/
structure Dev.ChanOnly (d e : Dev) (slot : Nat) : Prop where
  rest : e = { d with chans := e.chans }
  chans : ∀ k, k ≠ slot → e.chan? k = d.chan? k

theorem Dev.setChan_chanOnly (d : Dev) (slot : Nat) (c : Chan) : d.ChanOnly (d.setChan slot c) slot := ⟨rfl, fun _ hk => Dev.chan?_setChan_other hk⟩

theorem Dev.onChan_chanOnly (d : Dev) (slot : Nat) (f : Chan → Chan) : d.ChanOnly (d.onChan slot f) slot :=
  ⟨Dev.onChan_frame d slot f, fun _ hk => Dev.chan?_onChan_other hk⟩

theorem Dev.enterCycle_chanOnly (d : Dev) (slot : Nat) : d.ChanOnly (d.enterCycle slot) slot := by
  obtain ⟨f, hf, -⟩ := d.enterCycle_eq slot
  rw [hf]
  exact d.onChan_chanOnly slot f

theorem Dev.ChanOnly.trans {d e x : Dev} {slot : Nat} (h : d.ChanOnly e slot) (g : e.ChanOnly x slot) : d.ChanOnly x slot :=
  ⟨by rw [g.rest, h.rest], fun k hk => (g.chans k hk).trans (h.chans k hk)⟩

section create

variable {s : Dev} {c : Cmd} {d : Dev}

theorem Dev.chnCreate_refused {r : Refused} (ht : s.takesOwn 1 c d) (hch : d.checks = []) (hr : d.createRefused c.payload = some r) :
    let e := s.chnCreate
    e.chans = d.chans ∧ e.fld F.SUP_CC_CODE = r.code % 256 ∧ e.fld F.SUP_CC_SOURCE = 5 ∧ e.fld F.SUP_CC_STEP = r.step % 16 ∧
      e.fld F.SUP_CHECK_LAST_CODE = r.code % 256 ∧ e.reports c r.code [] := by
  obtain ⟨ht, hown⟩ := ht
  have htake := ht.2.1
  intro e
  have he : e = (d.chanCheck (some r) 5).cmdDone c r.code [] := by
    simp only [e, Dev.chnCreate, htake, Dev.drained_of_empty hch, hr]
  clear_value e
  have hframe := d.chanCheck_frame (some r) 5
  obtain ⟨h1, h2, h3, h4⟩ := d.chanCheck_refused r (source := 5) (by decide)
  have hwaits := Dev.waits_congr (Dev.history_onlyRegs hframe c.handle) ht.waits
  generalize d.chanCheck (some r) 5 = x at *
  have hans := (Dev.Answered.refl x).cmdDone c r.code []
  rw [← he] at hans
  exact ⟨by rw [he, Dev.cmdDone_own hown, hframe.chans], (hans.fld (by decide) (by decide)).trans h1, (hans.fld (by decide) (by decide)).trans h2,
    (hans.fld (by decide) (by decide)).trans h3, (hans.fld (by decide) (by decide)).trans h4, by rw [he]; exact Dev.cmdDone_reports _ _ hwaits⟩

/-- The channel that CHN_CREATE makes. -/
def Dev.created (d : Dev) (p : Bytes) : Dev :=
  let d' := d.setChan (d.entrySlot p) (chanOfEntry p (if entryStart p then .active else .stopped))
  if entryStart p then d'.enterCycle (d.entrySlot p) else d'

theorem Dev.created_spec (d : Dev) (p : Bytes) : d.ChanOnly (d.created p) (d.entrySlot p) ∧
    ∃ cy, (d.created p).chan? (d.entrySlot p) = some { chanOfEntry p (if entryStart p then .active else .stopped) with cycle := cy } := by
  have hset := d.setChan_chanOnly (d.entrySlot p) (chanOfEntry p (if entryStart p then .active else .stopped))
  have hc := d.chan?_setChan (d.entrySlot p) (chanOfEntry p (if entryStart p then .active else .stopped))
  unfold Dev.created
  extract_lets x
  split
  · exact ⟨hset.trans (x.enterCycle_chanOnly _), Dev.enterCycle_chan hc⟩
  · exact ⟨hset, _, hc⟩

theorem Dev.chnCreate_made (ht : s.takesOwn 1 c d) (hch : d.checks = []) (hr : d.createRefused c.payload = none) :
    let e := s.chnCreate
    let slot := d.entrySlot c.payload
    (∃ ch, e.chan? slot = some ch ∧ ch.kind = byteAt c.payload 2 ∧ ch.prio = nbits (byteAt c.payload 3) 6 0 ∧
      ch.plan = numAt c.payload 4 2 ∧ ch.state = (if bit (byteAt c.payload 6) 0 then .active else .stopped) ∧
      ch.run = none ∧ ch.step = none ∧ ch.hist.entries = []) ∧
    (∀ k, k ≠ slot → e.chan? k = d.chan? k) ∧ e.gens = d.gens ∧ e.fld F.SUP_CHECK_LAST_CODE = 0 ∧
    e.reports c Code.OK (beBytes 2 (d.handle slot)) := by
  obtain ⟨ht, hown⟩ := ht
  have htake := ht.2.1
  intro e slot
  have hframe := d.chanCheck_frame none 5
  have hlast := d.chanCheck_passed 5
  have hslot : (d.chanCheck none 5).entrySlot c.payload = slot := rfl
  have hmade := (d.chanCheck none 5).created_spec c.payload
  have he : e = ((d.chanCheck none 5).created c.payload).cmdDone c Code.OK (beBytes 2 (((d.chanCheck none 5).created c.payload).handle slot)) := by
    simp only [e, Dev.chnCreate, htake, Dev.drained_of_empty hch, hr]
    rfl
  clear_value e slot
  rw [hslot] at hmade
  generalize d.chanCheck none 5 = x at *
  generalize x.created c.payload = y at *
  obtain ⟨hy, cy, hyc⟩ := hmade
  have hgens : y.gens = d.gens := (congrArg Dev.gens hy.rest :).trans (congrArg Dev.gens hframe.1 :)
  have hhandle : y.handle slot = d.handle slot := by rw [Dev.handle, Dev.gen, hgens, ← Dev.gen, ← Dev.handle]
  rw [hhandle] at he
  have hans := (Dev.Answered.refl y).cmdDone c Code.OK (beBytes 2 (d.handle slot))
  have hchans : e.chans = y.chans := by rw [he]; exact Dev.cmdDone_own hown _ _
  have hchan : ∀ k, e.chan? k = y.chan? k := fun k => by rw [Dev.chan?, hchans, Dev.chan?]
  have hyhist : y.history c.handle = d.history c.handle := by
    have hyhost : y.host = d.host := (congrArg Dev.host hy.rest :).trans (congrArg Dev.host hframe.1 :)
    rw [Dev.history, Dev.history, if_pos hown, if_pos hown, hyhost]
  rw [← he] at hans
  refine ⟨⟨_, (hchan _).trans hyc, rfl, rfl, rfl, rfl, rfl, rfl, rfl⟩, fun k hk => (hchan k).trans ((hy.chans k hk).trans (hframe.chan? k)), hans.gens.trans hgens,
    ?_, ?_⟩
  · refine (hans.fld (by decide) (by decide)).trans ((Dev.fld_eq_of_reg ?_).trans hlast)
    exact (congrArg (fun z : Dev => z.reg F.SUP_CHECK_LAST_CODE.addr) hy.rest :)
  · rw [he]
    exact Dev.cmdDone_reports _ _ (Dev.waits_congr hyhist ht.waits)

end create

/-! ### CHN_START (R303) -/

section onChannel

variable {s d : Dev} {c : Cmd} {slot : Nat} {ch : Chan}

/-- A channel switched on. -/
def Chan.started (c : Chan) : Chan := { c with state := .active }

theorem Dev.chnStart_starts (hl : d.liveSlot c.handle = some slot) (hc : d.chan? slot = some ch) (ht : s.takes 2 c d) (hch : d.checks = [])
    (hstate : ch.state = .stopped) (hr : d.chanRefused ch.spec d.checkMode = none) :
    (∃ y, s.chnStart.chan? slot = some y ∧ y.state = .active) ∧ s.chnStart.reports c Code.OK [] := by
  have htake := ht.2.1
  have heq : s.chnStart = (((d.chanCheck none 5).onChan slot Chan.started).enterCycle slot).cmdDone c Code.OK [] := by
    simp only [Dev.chnStart, htake, hl, Dev.byHandle_of_live hl hc, hstate, bne_self_eq_false, Bool.false_eq_true, if_false, Dev.drained_of_empty hch, hr,
      Option.map_none]
    rfl
  rw [heq]
  have hframe := d.chanCheck_frame none 5
  have hx := (hframe.chan? slot).trans hc
  have hxh := Dev.history_onlyRegs hframe c.handle
  generalize d.chanCheck none 5 = x at *
  obtain ⟨cy, hcy⟩ := Dev.enterCycle_chan (Dev.chan?_onChan (f := Chan.started) hx)
  obtain ⟨g, hg, hgcy⟩ := (x.onChan slot Chan.started).enterCycle_eq slot
  have hhist : ((x.onChan slot Chan.started).enterCycle slot).history c.handle = d.history c.handle := by
    rw [hg, Dev.history_onChan (fun z => by obtain ⟨cy, h⟩ := hgcy z; rw [h]), Dev.history_onChan (f := Chan.started) fun _ => rfl]
    exact hxh
  generalize (x.onChan slot Chan.started).enterCycle slot = y at *
  obtain ⟨hist, hdone⟩ := Dev.cmdDone_chan (cm := c) Code.OK [] hcy
  exact ⟨⟨_, hdone, rfl⟩, Dev.cmdDone_reports _ _ (Dev.waits_congr hhist ht.waits)⟩

theorem Dev.chnStart_refused (hl : d.liveSlot c.handle = some slot) (hc : d.chan? slot = some ch) (ht : s.takes 2 c d) (hstate : ch.state ≠ .stopped) :
    s.chnStart.reports c Code.CHN_STATE [] ∧ ∃ y, s.chnStart.chan? slot = some y ∧ y.state = ch.state := by
  have htake := ht.2.1
  have heq : s.chnStart = d.cmdDone c Code.CHN_STATE [] := by
    have hne : (ch.state != .stopped) = true := by simpa using hstate
    simp only [Dev.chnStart, htake, hl, Dev.byHandle_of_live hl hc, hne, if_true]
  rw [heq]
  obtain ⟨hist, hdone⟩ := Dev.cmdDone_chan (cm := c) Code.CHN_STATE [] hc
  exact ⟨Dev.cmdDone_reports _ _ ht.waits, _, hdone, rfl⟩

/-! ### CHN_STOP (R305, R306) -/

/-- A channel that waits for its stop, and one that stops. -/
def Chan.stopsFor (c : Chan) (id : Nat) : Chan := { c with stopIds := c.stopIds ++ [id] }
def Chan.drains (c : Chan) (id : Nat) : Chan := { c with drain := true, stopIds := c.stopIds ++ [id] }
def Chan.leaves (c : Chan) : Chan := { c with state := .stopping, drain := false, extras := [], cycle := {} }
def Chan.rests (c : Chan) : Chan := { c with state := .stopped, drain := false, extras := [], cycle := {} }

section stop

variable {drain : Bool} (hl : d.liveSlot c.handle = some slot) (hc : d.chan? slot = some ch) (ht : s.takes 3 c d)
  (hbit : bit (byteAt c.payload 0) 0 = drain)

include hl hc ht hbit

theorem Dev.chnStop_eq_of_active (hstate : ch.state = .active) : s.chnStop drain = ((d.chanStopped slot).cmdDone c Code.OK []).settle := by
  have htake := ht.2.1
  simp only [Dev.chnStop, htake, hbit, bne_self_eq_false, Bool.false_eq_true, if_false, hl, Dev.byHandle_of_live hl hc, hstate]

theorem Dev.chnStop_eq_of_running (hstate : ch.state = .running) : s.chnStop drain =
    if drain then d.onChan slot (·.drains c.reqId) else (d.chanStopping slot).onChan slot (·.stopsFor c.reqId) := by
  have htake := ht.2.1
  simp only [Dev.chnStop, htake, hbit, bne_self_eq_false, Bool.false_eq_true, if_false, hl, Dev.byHandle_of_live hl hc, hstate]
  rfl

theorem Dev.chnStop_eq_of_idle (hstate : ch.state = .stopped ∨ ch.state = .stopping) : s.chnStop drain = d.cmdDone c Code.CHN_STATE [] := by
  have htake := ht.2.1
  obtain h | h := hstate <;>
    simp only [Dev.chnStop, htake, hbit, bne_self_eq_false, Bool.false_eq_true, if_false, hl, Dev.byHandle_of_live hl hc, h]

theorem Dev.chnStop_active (hstate : ch.state = .active) (hfree : d.unattached slot) : ∃ e : Dev, s.chnStop drain = e.settle ∧
      e.reports c Code.OK [] ∧ ∃ y, e.chan? slot = some y ∧ y.state = .stopped ∧ y.extras = [] ∧ y.cycle = {} := by
  refine ⟨_, Dev.chnStop_eq_of_active hl hc ht hbit hstate, ?_⟩
  have heq : d.chanStopped slot = (d.quotaClose slot).onChan slot Chan.rests := Dev.chanStopped_of_unattached hfree
  rw [heq]
  have hq : (d.quotaClose slot).chan? slot = some ch := hc
  have hqh : (d.quotaClose slot).history c.handle = d.history c.handle := rfl
  generalize d.quotaClose slot = x at *
  have hhist : (x.onChan slot Chan.rests).history c.handle = d.history c.handle := (Dev.history_onChan (f := Chan.rests) (fun _ => rfl) _).trans hqh
  have hrest := Dev.chan?_onChan (f := Chan.rests) hq
  generalize x.onChan slot Chan.rests = y at *
  obtain ⟨hist, hdone⟩ := Dev.cmdDone_chan (cm := c) Code.OK [] hrest
  exact ⟨Dev.cmdDone_reports _ _ (Dev.waits_congr hhist ht.waits), _, hdone, rfl, rfl, rfl⟩

theorem Dev.chnStop_refused (hstate : ch.state = .stopped ∨ ch.state = .stopping) :
    (s.chnStop drain).reports c Code.CHN_STATE [] ∧ ∃ y, (s.chnStop drain).chan? slot = some y ∧ y.state = ch.state := by
  rw [Dev.chnStop_eq_of_idle hl hc ht hbit hstate]
  obtain ⟨hist, hdone⟩ := Dev.cmdDone_chan (cm := c) Code.CHN_STATE [] hc
  exact ⟨Dev.cmdDone_reports _ _ ht.waits, _, hdone, rfl⟩

end stop

/-- A step that only waits, stopped. -/
def Chan.waited (c : Chan) (us : Nat) : Chan := { c with waitUs := c.waitUs + us }

theorem Dev.stopStep_of_waiting {st : Step} (hc : d.chan? slot = some ch) (hstep : ch.step = some st) (hchain : st.chain = none) (hwait : st.phase = .waiting)
    (code : Nat) : ∃ w st', (d.stopStep slot code).chan? slot = some { ch with waitUs := w, step := some st' } ∧ st'.phase = .ended code := by
  have hnot : d.stepComplete ch st = false := by simp only [Dev.stepComplete, hwait]
  have heq : d.stopStep slot code = ((d.onChan slot (·.waited (d.time - st.waitFrom))).onJrn fun j =>
      { j with reqs := j.reqs.filter fun q => q.ticket != .step st.tag.handle || q.ty == 1 }).setStep slot { st with frames := [], phase := .ended code } := by
    simp only [Dev.stopStep, hc, hstep, hnot, Bool.false_eq_true, if_false, hchain, Dev.countWait, hwait, if_true]
    rfl
  rw [heq]
  have hw := Dev.chan?_onChan (f := (·.waited (d.time - st.waitFrom))) hc
  generalize d.onChan slot (·.waited (d.time - st.waitFrom)) = x at hw ⊢
  have hj : ∀ g, (x.onJrn g).chan? slot = some (ch.waited (d.time - st.waitFrom)) := fun _ => hw
  have hset := Dev.chan?_onChan (f := fun c => { c with step := some { st with frames := [], phase := .ended code } })
    (hj fun j => { j with reqs := j.reqs.filter fun q => q.ticket != .step st.tag.handle || q.ty == 1 })
  exact ⟨ch.waitUs + (d.time - st.waitFrom), { st with frames := [], phase := .ended code }, hset, rfl⟩

theorem Dev.stopStep_of_none (hc : d.chan? slot = some ch) (hstep : ch.step = none) (code : Nat) : d.stopStep slot code = d := by
  simp only [Dev.stopStep, hc, hstep]

theorem Dev.chnStop_running (hl : d.liveSlot c.handle = some slot) (hc : d.chan? slot = some ch) (ht : s.takes 3 c d)
    (hbit : bit (byteAt c.payload 0) 0 = false) (hstate : ch.state = .running) (hpend : ch.pending = none)
    (hwait : ∀ st, ch.step = some st → st.chain = none ∧ st.phase = .waiting) : ∃ y, (s.chnStop false).chan? slot = some y ∧ y.state = .stopping ∧
      y.stopIds = ch.stopIds ++ [c.reqId] ∧ ∀ st, y.step = some st → st.phase = .ended Code.STOPPED := by
  have hstopping : d.chanStopping slot = (d.onChan slot Chan.leaves).stopStep slot Code.STOPPED := by
    rw [Dev.chanStopping, Dev.dropPending_of_none fun y hy => by rw [hc] at hy; obtain rfl := Option.some.inj hy; exact hpend]
    rfl
  rw [Dev.chnStop_eq_of_running hl hc ht hbit hstate, if_neg Bool.false_ne_true, hstopping]
  have hx := Dev.chan?_onChan (f := Chan.leaves) hc
  generalize d.onChan slot Chan.leaves = x at hx ⊢
  cases hstep : ch.step with
  | none =>
    have hnone : ch.leaves.step = none := hstep
    rw [Dev.stopStep_of_none hx hnone]
    refine ⟨_, Dev.chan?_onChan hx, rfl, rfl, fun st hst => ?_⟩
    rw [show (ch.leaves.stopsFor c.reqId).step = none from hnone] at hst
    cases hst
  | some st =>
    obtain ⟨hchain, hphase⟩ := hwait st hstep
    have hsome : ch.leaves.step = some st := hstep
    obtain ⟨w, st', hst', hended⟩ := Dev.stopStep_of_waiting hx hsome hchain hphase Code.STOPPED
    refine ⟨_, Dev.chan?_onChan hst', rfl, rfl, fun u hu => ?_⟩
    obtain rfl := Option.some.inj hu
    exact hended

end onChannel

/-- Settles O24: each command by the state of the channel that it names. -/
theorem channelsMadeStartedStopped : Obligations.ChannelsMadeStartedStopped := by
  unfold Obligations.ChannelsMadeStartedStopped
  refine ⟨fun s c d ht hch => ⟨fun hr => ?_, fun r hr => ?_⟩, fun s c d slot ch hl hc => ⟨fun ht hch hstate hr => ?_, fun ht hstate => ?_,
    fun row hrow ht hbit => ⟨fun hstate hfree => ?_, fun hstate => ?_⟩, fun ht hstate hbit => ?_, fun ht hstate hbit hpend hwait => ?_⟩⟩
  · exact completes_onLive (fun d => d.chnCreate.settle) ht.1.1 rfl ⟨_, rfl, Dev.chnCreate_made ht hch hr⟩
  · exact completes_onLive (fun d => d.chnCreate.settle) ht.1.1 rfl ⟨_, rfl, Dev.chnCreate_refused ht hch hr⟩
  · exact completes_onLive (fun d => d.chnStart.settle) ht.1 rfl ⟨_, rfl, Dev.chnStart_starts hl hc ht hch hstate hr⟩
  · exact completes_onLive (fun d => d.chnStart.settle) ht.1 rfl ⟨_, rfl, Dev.chnStart_refused hl hc ht hstate⟩
  · have hspec := Dev.chnStop_active hl hc ht hbit hstate hfree
    obtain rfl | hrow := List.mem_cons.1 hrow
    · exact completes_onLive (·.chnStop false) ht.1 rfl hspec
    · obtain rfl := List.mem_singleton.1 hrow
      exact completes_onLive (·.chnStop true) ht.1 rfl hspec
  · have hspec := Dev.chnStop_refused hl hc ht hbit hstate
    obtain rfl | hrow := List.mem_cons.1 hrow
    · exact completes_onLive (·.chnStop false) ht.1 rfl hspec
    · obtain rfl := List.mem_singleton.1 hrow
      exact completes_onLive (·.chnStop true) ht.1 rfl hspec
  · refine completes_onLive (·.chnStop true) ht.1 rfl ?_
    rw [Dev.chnStop_eq_of_running hl hc ht hbit hstate, if_pos rfl, Dev.onChan_of_chan hc]
    rfl
  · exact completes_onLive (·.chnStop false) ht.1 rfl (Dev.chnStop_running hl hc ht hbit hstate hpend hwait)

end Sys2Proof.Machine
end

section
/-!
PROOFS. CHN_RUN, CHN_DESTROY, cycles and runs (R307, R308, R328–R331).
-/

namespace Sys2Proof.Machine

open Sys2Proof

-- one proof after another: the check bounds the memory that the stacks of parallel proofs take
set_option Elab.async false

/-! ### A run that falls due (R331) -/

/-- A channel whose cycle has these targets left. -/
def Chan.todo (c : Chan) (l : List (Nat × Bytes × Nat)) : Chan := { c with cycle := { c.cycle with todo := l } }

/-- The run that is due at an instant. -/
def Dev.dueNow (d : Dev) (c : Chan) (target : Nat) (cause : Cause) : Due :=
  { target := target, entry := if c.kind == Kind.meterRead then (d.obj target).bytes else [], at_ := d.now, wall := d.wallNow
    cause := cause, mode := d.mode }

theorem Dev.fallDue_of_free {d : Dev} {slot target : Nat} {cause : Cause} {c : Chan} (hc : d.chan? slot = some c) (hheld : d.isHeld c.kind = false) :
    d.fallDue slot target cause = d.startRun slot c (d.dueNow c target cause) := by
  unfold Dev.fallDue
  simp only [hc, hheld, Bool.false_eq_true, if_false]
  rfl

theorem Dev.fallDue_of_held {d : Dev} {slot target : Nat} {cause : Cause} {c : Chan} (hc : d.chan? slot = some c) (hheld : d.isHeld c.kind = true)
    (hp : c.pending = none) : d.fallDue slot target cause = d.onChan slot fun c' => { c' with pending := some (d.dueNow c target cause) } := by
  unfold Dev.fallDue
  simp only [hc, hheld, hp, if_true]
  rfl

theorem Dev.runNow_of_next {d : Dev} {slot id : Nat} {c : Chan} {t : Nat × Bytes × Nat} {rest : List (Nat × Bytes × Nat)} (hc : d.chan? slot = some c)
    (hnext : d.nextTarget c = some (t, rest)) : d.runNow slot id = some ((d.setChan slot (c.todo rest)).fallDue slot t.1 (.chnRun id)) := by
  unfold Dev.runNow
  simp only [hc, hnext]
  rfl

section commands

variable {s d : Dev} {c : Cmd} {slot : Nat} {ch : Chan}

theorem Dev.chnRun_starts (hl : d.liveSlot c.handle = some slot) (hc : d.chan? slot = some ch) (ht : s.takes 4 c d) (hstate : ch.state = .active)
    (hkind : ch.kind ≠ Kind.direct) (hheld : d.isHeld ch.kind = false) {t : Nat × Bytes × Nat} {rest : List (Nat × Bytes × Nat)}
    (hnext : d.nextTarget ch = some (t, rest)) : ∃ y r, s.chnRun.chan? slot = some y ∧ y.state = .running ∧ y.run = some r ∧ r.reqId = c.reqId ∧
      r.due.target = t.1 ∧ r.due.at_ = d.now ∧ r.deadline = d.now + (d.plan ch.plan).deadline ∧ y.cycle.todo = rest ∧ y.runs = (ch.runs + 1) % 2 ^ 32 := by
  have htake := ht.2.1
  have hdir : ch.direct = false := by simpa [Chan.direct] using hkind
  have hset : (d.setChan slot (ch.todo rest)).chan? slot = some (ch.todo rest) := d.chan?_setChan slot _
  have hset_held : (d.setChan slot (ch.todo rest)).isHeld (ch.todo rest).kind = false := hheld
  have heq : s.chnRun = (d.setChan slot (ch.todo rest)).startRun slot (ch.todo rest)
      ((d.setChan slot (ch.todo rest)).dueNow (ch.todo rest) t.1 (.chnRun c.reqId)) := by
    have hrun := Dev.runNow_of_next (id := c.reqId) hc hnext
    rw [Dev.fallDue_of_free hset hset_held] at hrun
    simp only [Dev.chnRun, htake, hl, Dev.byHandle_of_live hl hc, hstate, bne_self_eq_false, hdir, Bool.or_self, Bool.false_eq_true, if_false, hrun]
  obtain ⟨st, hst⟩ := Dev.startRun_spec (d.setChan slot (ch.todo rest)) slot (ch.todo rest)
    ((d.setChan slot (ch.todo rest)).dueNow (ch.todo rest) t.1 (.chnRun c.reqId))
  rw [← heq] at hst
  exact ⟨_, _, hst, rfl, rfl, rfl, rfl, rfl, rfl, rfl, rfl⟩

theorem Dev.chnRun_refused (hl : d.liveSlot c.handle = some slot) (hc : d.chan? slot = some ch) (ht : s.takes 4 c d)
    (hstate : ch.state ≠ .active ∨ ch.kind = Kind.direct) :
    s.chnRun.reports c Code.CHN_STATE [] ∧ ∃ y, s.chnRun.chan? slot = some y ∧ y.run = ch.run ∧ y.state = ch.state := by
  have htake := ht.2.1
  have hno : (ch.state != .active || ch.direct) = true := by simpa [Chan.direct] using hstate
  have heq : s.chnRun = d.cmdDone c Code.CHN_STATE [] := by
    simp only [Dev.chnRun, htake, hl, Dev.byHandle_of_live hl hc, hno, if_true]
  rw [heq]
  obtain ⟨hist, hdone⟩ := Dev.cmdDone_chan (cm := c) Code.CHN_STATE [] hc
  exact ⟨Dev.cmdDone_reports _ _ ht.waits, _, hdone, rfl, rfl⟩

theorem Dev.Answered.unattached {d e : Dev} (h : d.Answered e) {slot : Nat} (hd : d.unattached slot) : e.unattached slot := by
  obtain ⟨hp, hh, hu⟩ := hd
  refine ⟨fun y hy => ?_, fun n => ?_, fun n => ?_⟩
  · cases hc : d.chan? slot with
    | none => rw [h.chan_none hc] at hy; cases hy
    | some c =>
      obtain ⟨hist, hc'⟩ := h.chan hc
      rw [hc'] at hy
      obtain rfl := Option.some.inj hy
      exact hp c hc
  · rw [h.hfc]; exact hh n
  · rw [h.uhfc]; exact hu n

/-- An answer to a live handle changes the channel of that handle alone. -/
theorem Dev.cmdDone_chan_other (hl : d.liveSlot c.handle = some slot) (code : Nat) (result : Bytes) {k : Nat} (hk : k ≠ slot) :
    (d.cmdDone c code result).chan? k = d.chan? k := by
  obtain ⟨-, hdiv, -⟩ := Dev.liveSlot_eq_some hl
  have hne : c.handle ≠ 0 := fun h0 => hdiv (by rw [h0])
  unfold Dev.cmdDone Dev.reqDone
  split
  · obtain ⟨-, hregs, -⟩ := Dev.event_frame (d.onHistory c.handle (·.onEntry c.reqId fun e => { e with
      st := .done, outcome := code, retries := 0, result := result.take 56 })) 3 0 c.handle _
    refine (hregs.chan? k).trans ?_
    simp only [Dev.onHistory, hne, if_false, hl]
    exact Dev.chan?_onChan_other hk
  · rfl

theorem Dev.chnDestroy_frees (hl : d.liveSlot c.handle = some slot) (hc : d.chan? slot = some ch) (ht : s.takes 5 c d)
    (hstate : ch.state = .active ∨ ch.state = .stopped) (hfree : d.unattached slot) : ∃ e : Dev, s.chnDestroy = e.settle ∧ e.chan? slot = none ∧
      e.gen slot = (if d.gen slot = 255 then 1 else d.gen slot + 1) ∧ e.liveSlot c.handle = none ∧ (∀ k, k ≠ slot → e.chan? k = d.chan? k) ∧
      ∃ y, e.host.ring.getLast? = some y ∧ y.kind = 3 ∧ y.handle = c.handle ∧ byteAt y.data 3 = Code.OK := by
  have htake := ht.2.1
  have heq : s.chnDestroy = ((d.cmdDone c Code.OK []).chanFreed slot).settle := by
    obtain h | h := hstate <;> simp only [Dev.chnDestroy, htake, hl, Dev.byHandle_of_live hl hc, h]
  have hans := (Dev.Answered.refl d).cmdDone c Code.OK []
  obtain ⟨y, hy, hkind, hhandle, -, hcode⟩ := (Dev.cmdDone_reports Code.OK [] ht.waits).2
  have hother := fun k (hk : k ≠ slot) => Dev.cmdDone_chan_other hl Code.OK [] hk
  generalize d.cmdDone c Code.OK [] = x at *
  obtain ⟨hnone, hchans, hgens, hring⟩ := Dev.chanFreed_of_unattached (hans.unattached hfree)
  obtain ⟨hslot, -⟩ := Dev.liveSlot_eq_some hl
  refine ⟨_, heq, hnone, ?_, ?_, fun k hk => (hchans k hk).trans (hother k hk), y, by rw [hring]; exact hy, hkind, hhandle, hcode⟩
  · rw [Dev.gen, hgens, mapGet_mapSet_self, hans.gen]
  · unfold Dev.liveSlot
    simp only [← hslot, hnone, Option.isSome_none, Bool.and_false, Bool.false_and, Bool.false_eq_true, if_false]

theorem Dev.chnDestroy_stopping (hl : d.liveSlot c.handle = some slot) (hc : d.chan? slot = some ch) (ht : s.takes 5 c d) (hstate : ch.state = .stopping) :
    s.chnDestroy = d.setChan slot { ch with stopIds := ch.stopIds ++ [c.reqId], destroy := true } := by
  have htake := ht.2.1
  simp only [Dev.chnDestroy, htake, hl, Dev.byHandle_of_live hl hc, hstate]
  rw [Dev.onChan_of_chan hc, hstate]

end commands

/-- Settles O25: a run by `Dev.startRun_spec`, a channel freed by `Dev.chanFreed_of_unattached`. -/
theorem runAndDestroy : Obligations.RunAndDestroy := by
  unfold Obligations.RunAndDestroy
  intro s c d slot ch hl hc
  refine ⟨fun ht hstate hkind hheld t rest hnext => ?_, fun ht hstate => ?_, fun ht hstate hfree => ?_, fun ht hstate => ?_⟩
  · exact completes_onLive (fun d => d.chnRun.settle) ht.1 rfl ⟨_, rfl, Dev.chnRun_starts hl hc ht hstate hkind hheld hnext⟩
  · exact completes_onLive (fun d => d.chnRun.settle) ht.1 rfl ⟨_, rfl, Dev.chnRun_refused hl hc ht hstate⟩
  · exact completes_onLive Dev.chnDestroy ht.1 rfl (Dev.chnDestroy_frees hl hc ht hstate hfree)
  · exact completes_onLive Dev.chnDestroy ht.1 rfl (Dev.chnDestroy_stopping hl hc ht hstate)

/-! ### Cycles and their targets (R328–R331) -/

theorem Dev.schedReach_frame (d : Dev) (ms : Nat) : d.schedReach ms = { d with time := (d.schedReach ms).time, attic := (d.schedReach ms).attic } := by
  unfold Dev.schedReach
  split <;> rfl

/-- A channel with a cycle's targets before it. -/
def Chan.cycles (c : Chan) (k : Int) (l : List (Nat × Bytes × Nat)) : Chan :=
  { c with cycle := { index := k, todo := l, first := (l.head?).map (·.1) } }

/-- What the wait for an instant leaves. -/
structure Dev.Waited (d e : Dev) : Prop where
  rest : e = { d with time := e.time, attic := e.attic }

namespace Dev.Waited

variable {d e : Dev}

theorem chan? (h : d.Waited e) (k : Nat) : e.chan? k = d.chan? k := by rw [Dev.chan?, (congrArg Dev.chans h.rest :), Dev.chan?]

theorem fld (h : d.Waited e) (f : Fld) : e.fld f = d.fld f := Dev.fld_eq_of_reg (by rw [h.rest]; rfl)

theorem mode (h : d.Waited e) : e.mode = d.mode := h.fld _

theorem plan (h : d.Waited e) (k : Nat) : e.plan k = d.plan k := by rw [Dev.plan, (congrArg Dev.tables h.rest :), Dev.plan]

theorem slotsOf (h : d.Waited e) (p : PlanHead) (c : Int) : e.slotsOf p c = d.slotsOf p c := by rw [h.rest]; rfl

theorem isHeld (h : d.Waited e) (k : Nat) : e.isHeld k = d.isHeld k := by
  rw [Dev.isHeld, Dev.checkMode, h.mode, (congrArg Dev.trans h.rest :), Dev.isHeld, Dev.checkMode]

end Dev.Waited

theorem Dev.schedReach_waited (d : Dev) (ms : Nat) : d.Waited (d.schedReach ms) := ⟨d.schedReach_frame ms⟩

theorem Dev.schedules_of_running {d : Dev} (h : d.phase = .running) : d.schedules = true := by rw [Dev.schedules, Dev.live_of_running h]; rfl

section schedule

variable {d : Dev} {slot : Nat} {c : Chan} (hrun : d.phase = .running) (hc : d.chan? slot = some c) (hsched : c.scheduled = true)

include hrun hc hsched

theorem Dev.cycleStarts_spec :
    let p := d.plan c.plan
    let k := if cycleAt p d.wallNow > c.cycle.index then cycleAt p d.wallNow else c.cycle.index + 1
    c.cycle.todo = [] ∨ jpolCommit (jpolIn d.mode p.jpol) = 0 →
      (∃ y, (d.cycleStarts slot).chan? slot = some y ∧ y.cycle.index = k ∧ y.cycle.todo = d.slotsOf p k ∧ y.run = c.run ∧ y.state = c.state) ∧
      (d.cycleStarts slot).fld F.SVC_OVERRUN_COUNT = (if c.cycle.todo = [] then d.fld F.SVC_OVERRUN_COUNT else
        satAdd (2 ^ (F.SVC_OVERRUN_COUNT.hi + 1 - F.SVC_OVERRUN_COUNT.lo) - 1) (d.fld F.SVC_OVERRUN_COUNT) c.cycle.todo.length) := by
  intro p k hcase
  have hopen : ¬(!d.schedules || !c.scheduled) = true := by simp [Dev.schedules_of_running hrun, hsched]
  have hwait := d.schedReach_waited (cycleStart p k)
  unfold Dev.cycleStarts
  rw [hc]
  dsimp only
  rw [if_neg hopen]
  change let x := d.schedReach (cycleStart p k)
    let y := x.setChan slot (c.cycles k (x.slotsOf p k))
    let e := if c.cycle.todo.length = 0 then y else
      if jpolCommit (jpolIn (y.bump F.SVC_OVERRUN_COUNT c.cycle.todo.length).mode p.jpol) = 0 then y.bump F.SVC_OVERRUN_COUNT c.cycle.todo.length else _
    (∃ y, e.chan? slot = some y ∧ y.cycle.index = k ∧ y.cycle.todo = d.slotsOf p k ∧ y.run = c.run ∧ y.state = c.state) ∧
      e.fld F.SVC_OVERRUN_COUNT = _
  generalize d.schedReach (cycleStart p k) = x at *
  intro x' y e
  have hset : y.chan? slot = some (c.cycles k (d.slotsOf p k)) := by rw [← hwait.slotsOf]; exact x.chan?_setChan slot _
  have hfld : ∀ f, y.fld f = d.fld f := hwait.fld
  clear_value y
  have hmode : (y.bump F.SVC_OVERRUN_COUNT c.cycle.todo.length).mode = d.mode :=
    (Dev.fld_bump_other (.inl (by decide)) (by decide)).trans (hfld _)
  by_cases htodo : c.cycle.todo = []
  · have he : e = y := if_pos (by rw [htodo]; rfl)
    rw [he, if_pos htodo]
    exact ⟨⟨_, hset, rfl, rfl, rfl, rfl⟩, hfld _⟩
  · have he : e = y.bump F.SVC_OVERRUN_COUNT c.cycle.todo.length :=
      (if_neg (by simpa using htodo)).trans (if_pos (by rw [hmode]; exact hcase.resolve_left htodo))
    rw [he, if_neg htodo]
    refine ⟨⟨_, ((Dev.bump_frame y _ _).chan? slot).trans hset, rfl, rfl, rfl, rfl⟩, ?_⟩
    rw [← hfld]
    exact Dev.fld_bump (by decide)

variable {t : Nat × Bytes × Nat} {rest : List (Nat × Bytes × Nat)} (hidle : c.run = none) (hstep : c.step = none) (hextra : c.extras = [])
  (hnext : d.nextTarget c = some (t, rest))

include hidle hstep hextra hnext

theorem Dev.runDue_eq : d.runDue slot = ((d.schedReach t.2.2).setChan slot (c.todo rest)).fallDue slot t.1 .cycle := by
  have hwatch : (d.phase == Phase.watch) = false := by rw [hrun]; rfl
  have hnone : firstExtra ([] : List Extra) = none := rfl
  simp only [Dev.runDue, hc, Dev.schedules_of_running hrun, hsched, hidle, hstep, hextra, hnext, hnone, hwatch, Bool.not_true, Bool.or_self,
    Option.isSome_none, Bool.false_and, Bool.false_eq_true, if_false, Chan.todo]

theorem Dev.runDue_starts (hheld : d.isHeld c.kind = false) : ∃ y r, (d.runDue slot).chan? slot = some y ∧ y.state = .running ∧ y.run = some r ∧
    y.cycle.todo = rest ∧ r.due.target = t.1 ∧ r.due.cause = .cycle ∧ y.runs = (c.runs + 1) % 2 ^ 32 ∧ r.reqId = y.runs % 65536 ∧
    r.deadline = r.due.at_ + (d.plan c.plan).deadline ∧ y.step.isSome = true := by
  have hwait := d.schedReach_waited t.2.2
  rw [Dev.runDue_eq hrun hc hsched hidle hstep hextra hnext]
  generalize d.schedReach t.2.2 = x at *
  have hset := x.chan?_setChan slot (c.todo rest)
  have hheld' : (x.setChan slot (c.todo rest)).isHeld (c.todo rest).kind = false := (hwait.isHeld c.kind).trans hheld
  have hplan : (x.setChan slot (c.todo rest)).plan (c.todo rest).plan = d.plan c.plan := hwait.plan c.plan
  rw [Dev.fallDue_of_free hset hheld']
  generalize x.setChan slot (c.todo rest) = y at *
  obtain ⟨st, hst⟩ := Dev.startRun_spec y slot (c.todo rest) (y.dueNow (c.todo rest) t.1 .cycle)
  refine ⟨_, _, hst, rfl, rfl, rfl, rfl, rfl, rfl, rfl, ?_, rfl⟩
  exact congrArg (fun q : PlanHead => y.now + q.deadline) hplan

theorem Dev.runDue_waits (hheld : d.isHeld c.kind = true) (hpend : c.pending = none) : ∃ y due, (d.runDue slot).chan? slot = some y ∧ y.state = c.state ∧
    y.run = none ∧ y.pending = some due ∧ due.target = t.1 ∧ due.mode = d.mode ∧ y.cycle.todo = rest := by
  have hwait := d.schedReach_waited t.2.2
  rw [Dev.runDue_eq hrun hc hsched hidle hstep hextra hnext]
  generalize d.schedReach t.2.2 = x at *
  have hset := x.chan?_setChan slot (c.todo rest)
  have hheld' : (x.setChan slot (c.todo rest)).isHeld (c.todo rest).kind = true := (hwait.isHeld c.kind).trans hheld
  have hmode : (x.setChan slot (c.todo rest)).mode = d.mode := hwait.mode
  rw [Dev.fallDue_of_held hset hheld' hpend]
  generalize x.setChan slot (c.todo rest) = y at *
  exact ⟨_, _, Dev.chan?_onChan hset, rfl, hidle, rfl, rfl, hmode, rfl⟩

end schedule

theorem completes_onSchedule {s : State} {c : Instr} (f : Dev → Dev) {p : Dev → Prop} (hs : s.dev.phase = .running) (he : exec c s = s.onSchedule f)
    (hp : p (f s.dev).settle) : completes c s p := by
  refine completes_onDev _ he ?_
  rw [if_pos (Dev.live_of_running hs)]
  exact hp

/-- Settles O40: a cycle by `Dev.cycleStarts_spec`, a run by what `Dev.fallDue` does with it. -/
theorem cyclesAndRuns : Obligations.CyclesAndRuns := by
  unfold Obligations.CyclesAndRuns
  intro s slot c hrun hc hsched
  refine ⟨fun hcase => ?_, fun t rest hidle hstep hextra hnext => ⟨fun hheld => ?_, fun hheld hpend => ?_⟩⟩
  · exact completes_onSchedule (·.cycleStarts slot) hrun rfl ⟨_, rfl, Dev.cycleStarts_spec hrun hc hsched hcase⟩
  · exact completes_onSchedule (·.runDue slot) hrun rfl ⟨_, rfl, Dev.runDue_starts hrun hc hsched hidle hstep hextra hnext hheld⟩
  · exact completes_onSchedule (·.runDue slot) hrun rfl ⟨_, rfl, Dev.runDue_waits hrun hc hsched hidle hstep hextra hnext hheld hpend⟩

end Sys2Proof.Machine
end

section
/-!
PROOFS. Operations on the HF chains alone, and the deadlines and frames of steps (R22, R310, R311).
-/

namespace Sys2Proof.Machine

open Sys2Proof

-- one proof after another: the check bounds the memory that the stacks of parallel proofs take
set_option Elab.async false

/-! ### Operations that reach the HF chains and registers alone -/

/-- Nothing but HF chains and registers differs. -/
def Dev.HfPart (d e : Dev) : Prop := e = { d with regs := e.regs, hf := e.hf }

namespace Dev.HfPart

variable {d e x : Dev} {n : Nat}

theorem refl (d : Dev) : HfPart d d := rfl

theorem trans (h : HfPart d e) (g : HfPart e x) : HfPart d x := by
  unfold HfPart at *
  rw [g, h]

theorem setFld (h : HfPart d e) (f : Fld) (v : Nat) : HfPart d (e.setFld f v) := h.trans rfl

theorem setFlag (h : HfPart d e) (f : Fld) (v : Bool) : HfPart d (e.setFlag f v) := h.trans rfl

theorem bump (h : HfPart d e) (f : Fld) (k : Nat) : HfPart d (e.bump f k) := h.trans rfl

theorem onHf (h : HfPart d e) (n : Nat) (f : HfChain → HfChain) : HfPart d (e.onHf n f) := h.trans rfl

theorem of_onlyRegs {l : List Nat} (h : HfPart d e) (g : e.onlyRegs x l) : HfPart d x :=
  h.trans (by
    have hf : x.hf = e.hf := (congrArg Dev.hf g.1 :)
    rw [HfPart, hf]
    exact g.1)

theorem forEach {f : Dev → Nat → Dev} {l : List Nat} (h : HfPart d e) (hf : ∀ y m, HfPart d y → HfPart d (f y m)) : HfPart d (e.forEach l f) :=
  Dev.forEach_keeps (P := HfPart d) h fun y m _ hy => hf y m hy

theorem ite {c : Prop} [Decidable c] {x y : Dev} (hx : HfPart d x) (hy : HfPart d y) : HfPart d (if c then x else y) := by
  split
  · exact hx
  · exact hy

theorem hfApplyDrive (h : HfPart d e) (n : Nat) : HfPart d (e.hfApplyDrive n) := by
  unfold Dev.hfApplyDrive
  split
  · exact h
  · exact ((h.setFld _ _).setFld _ _).onHf _ _

theorem releaseDrives (h : HfPart d e) : HfPart d e.releaseDrives := h.forEach fun _ _ hy => .ite (hy.hfApplyDrive _) hy

theorem hfClose (h : HfPart d e) (n : Nat) : HfPart d (e.hfClose n) :=
  ((h.forEach fun _ _ hy => (hy.setFlag _ _).setFlag _ _).onHf _ _).releaseDrives

theorem staggerEnd (h : HfPart d e) (n : Nat) : HfPart d (e.staggerEnd n) := by
  unfold Dev.staggerEnd
  split
  · exact h
  · exact (h.onHf _ _).bump _ _

theorem hfAbort (h : HfPart d e) (n : Nat) : HfPart d (e.hfAbort n) := by
  unfold Dev.hfAbort
  split
  · exact h
  · exact (((h.forEach fun _ _ hy => hy.onHf _ _).hfClose n).staggerEnd n).onHf _ _

theorem showTiers (h : HfPart d e) : HfPart d e.showTiers := h.forEach fun _ _ hy => hy.setFld _ _

theorem hfShowFrame (h : HfPart d e) (n : Nat) (f : ResFrame) : HfPart d (e.hfShowFrame n f) := h.of_onlyRegs (e.hfShowFrame_spec n f).1

theorem chans (h : HfPart d e) : e.chans = d.chans := (congrArg Dev.chans h :)

theorem chan? (h : HfPart d e) (k : Nat) : e.chan? k = d.chan? k := by rw [Dev.chan?, h.chans, Dev.chan?]

theorem time (h : HfPart d e) : e.time = d.time := (congrArg Dev.time h :)

end Dev.HfPart

/-- An attempt that is stopped is no longer in hand. -/
theorem Dev.hfAbort_att (d : Dev) {n : Nat} (hn : n < 4) : ((d.hfAbort n).hfc n).att = none := by
  unfold Dev.hfAbort
  split
  next h => exact h
  next => rw [Dev.hfc_onHf hn]

/-! ### Deadlines (R310) -/

/-- A deadline that has passed. -/
def Chan.late (c : Chan) (st : Step) (us : Nat) : Chan := { c with step := some { st with phase := .ended Code.DEADLINE }, waitUs := c.waitUs + us }

section deadline

variable {d : Dev} {slot : Nat} {c : Chan} {st : Step}

theorem Dev.deadlineOf_eq (hrun : d.phase = .running) (hc : d.chan? slot = some c) (hst : c.step = some st) : d.deadlineOf slot = d.deadlinePassed slot := by
  simp only [Dev.deadlineOf, hc, Option.bind_some, hst, Option.isSome_some, if_true, Dev.live_of_running hrun]

theorem Dev.ChanOnly.reached {e x : Dev} (h : d.Waited e) (g : e.ChanOnly x slot) :
    x = { d with time := x.time, attic := x.attic, chans := x.chans } ∧ ∀ k, k ≠ slot → x.chan? k = d.chan? k := by
  refine ⟨?_, fun k hk => (g.chans k hk).trans (h.chan? k)⟩
  have ht : x.time = e.time := (congrArg Dev.time g.rest :)
  have ha : x.attic = e.attic := (congrArg Dev.attic g.rest :)
  rw [ht, ha]
  refine g.rest.trans ?_
  exact (congrArg (fun y : Dev => { y with chans := x.chans }) h.rest :)

theorem Dev.reach_waited (d : Dev) (t : Nat) : d.Waited (d.reach t) := ⟨rfl⟩

theorem Dev.deadlinePassed_idle (hrun : d.phase = .running) (hc : d.chan? slot = some c) (hst : c.step = some st)
    (hphase : st.phase = .waiting ∨ st.phase = .held) (hdl : st.deadline < 2 ^ 64) (htime : d.time < 2 ^ 64) : let e := d.deadlineOf slot
    st.deadline ≤ e.time ∧ e = { d with time := e.time, attic := e.attic, chans := e.chans } ∧ (∀ k, k ≠ slot → e.chan? k = d.chan? k) ∧
      e.chan? slot = some { c with
        step := some { st with phase := .ended Code.DEADLINE }
        waitUs := c.waitUs + (if st.phase = .waiting then e.time - st.waitFrom else 0) } := by
  intro e
  have hreach := d.reach_waited st.deadline
  have hle : st.deadline ≤ (d.reach st.deadline).time := by
    rw [Dev.reach_time hrun hdl htime]
    exact Nat.le_max_right _ _
  have he : e = ((d.reach st.deadline).countWait slot st).setPhase slot (.ended Code.DEADLINE) := by
    simp only [e]
    rw [Dev.deadlineOf_eq hrun hc hst]
    obtain h | h := hphase <;> simp only [Dev.deadlinePassed, hc, hst, h, Dev.countWait, reduceCtorEq, if_true, if_false]
  clear_value e
  generalize d.reach st.deadline = x at *
  have hx : x.chan? slot = some c := (hreach.chan? slot).trans hc
  have hcount : x.ChanOnly (x.countWait slot st) slot ∧
      (x.countWait slot st).chan? slot = some { c with waitUs := c.waitUs + (if st.phase = .waiting then x.time - st.waitFrom else 0) } := by
    unfold Dev.countWait
    split
    · exact ⟨x.onChan_chanOnly slot _, Dev.chan?_onChan hx⟩
    · exact ⟨⟨rfl, fun _ _ => rfl⟩, hx⟩
  generalize x.countWait slot st = y at *
  obtain ⟨hy, hyc⟩ := hcount
  have honly : x.ChanOnly e slot := by rw [he]; exact hy.trans (y.onChan_chanOnly slot _)
  have htime' : e.time = x.time := (congrArg Dev.time honly.rest :)
  obtain ⟨hframe, hothers⟩ := Dev.ChanOnly.reached hreach honly
  refine ⟨by rw [htime']; exact hle, hframe, hothers, ?_⟩
  rw [he, Dev.setPhase, Dev.chan?_onChan hyc]
  simp only [hst, Option.map_some]
  rw [← Dev.setPhase, ← he, htime']

theorem Dev.lastFrame_of_no_frame (h : ∀ k f, f ∈ (d.hfc k).bufs ∨ f ∈ (d.uhfc k).bufs → f.tag.handle ≠ st.tag.handle) : d.lastFrame st = none := by
  unfold Dev.lastFrame
  cases st.chain with
  | none => rfl
  | some ch =>
    rw [Option.bind_some, List.findSome?_eq_none_iff]
    intro k _
    rw [List.find?_eq_none]
    intro f hf
    have hne : f.tag.handle ≠ st.tag.handle := by
      split at hf
      · exact h (k - 4) f (.inr hf)
      · exact h k f (.inl hf)
    simp [hne]

theorem Dev.deadlinePassed_running {ch : Nat} (hrun : d.phase = .running) (hc : d.chan? slot = some c) (hst : c.step = some st) (hphase : st.phase = .running)
    (hchain : st.chain = some ch) (hch : ch < 4)
    (hbufs : ∀ k f, f ∈ (d.hfc k).bufs ∨ f ∈ (d.uhfc k).bufs → f.tag.handle ≠ st.tag.handle) (hdl : st.deadline < 2 ^ 64) (htime : d.time < 2 ^ 64) :
    let e := d.deadlineOf slot
    st.deadline ≤ e.time ∧ (e.hfc ch).att = none ∧ ∃ y u f, e.chan? slot = some y ∧ y.step = some u ∧ u.phase = .ended Code.DEADLINE ∧ u.tag = st.tag ∧
      u.frames = st.frames ++ [f] ∧ f.code = Code.DEADLINE ∧ f.payload = [] ∧ f.tag = st.tag := by
  intro e
  have hreach := d.reach_waited st.deadline
  have hle : st.deadline ≤ (d.reach st.deadline).time := by
    rw [Dev.reach_time hrun hdl htime]
    exact Nat.le_max_right _ _
  have he : e = ((d.reach st.deadline).hfAbort ch).bareEnd slot st Code.DEADLINE := by
    have hnot : ¬ 4 ≤ ch := Nat.not_le.2 hch
    simp only [e]
    rw [Dev.deadlineOf_eq hrun hc hst]
    simp only [Dev.deadlinePassed, hc, hst, hphase, Dev.lastFrame_of_no_frame hbufs, hchain, Option.isSome_none, Bool.false_eq_true, if_false, hnot,
      decide_false, Bool.false_and, Dev.abortOn]
  clear_value e
  generalize d.reach st.deadline = x at *
  have hpart : x.HfPart (x.hfAbort ch) := (Dev.HfPart.refl x).hfAbort ch
  have hatt := x.hfAbort_att hch
  generalize x.hfAbort ch = y at *
  have hend : ∃ f : ResFrame, f.code = Code.DEADLINE ∧ f.payload = [] ∧ f.tag = st.tag ∧ e = (y.hfShowFrame (portchChain f.tag.portch) f).setStep slot
      { st with frames := st.frames ++ [f], phase := .ended Code.DEADLINE } := by
    refine ⟨y.hfBare ch st.tag Code.DEADLINE, rfl, rfl, rfl, ?_⟩
    rw [he, Dev.bareEnd, hchain]
    exact if_neg (Nat.not_le.2 hch)
  obtain ⟨f, hcode, hpay, htag, he⟩ := hend
  have hshow := (y.hfShowFrame_spec (portchChain f.tag.portch) f).1
  generalize y.hfShowFrame (portchChain f.tag.portch) f = z at *
  have hz : z.chan? slot = some c := (hshow.chan? slot).trans ((hpart.chan? slot).trans ((hreach.chan? slot).trans hc))
  have hframe : e = { z with chans := e.chans } := by rw [he]; exact Dev.onChan_frame z slot _
  refine ⟨?_, ?_, { c with step := some { st with frames := st.frames ++ [f], phase := .ended Code.DEADLINE } },
    { st with frames := st.frames ++ [f], phase := .ended Code.DEADLINE }, f, (by rw [he]; exact Dev.chan?_onChan hz), rfl, rfl, rfl, rfl, hcode, hpay, htag⟩
  · rw [show e.time = x.time from (congrArg Dev.time hframe :).trans ((congrArg Dev.time hshow.1 :).trans hpart.time)]
    exact hle
  · rw [Dev.hfc, show e.hf = y.hf from (congrArg Dev.hf hframe :).trans (congrArg Dev.hf hshow.1 :), ← Dev.hfc]
    exact hatt

theorem Dev.deadlineOf_pending {due : Due} (hc : d.chan? slot = some c) (hst : c.step = none) (hpend : c.pending = some due)
    (hcause : ∀ i, due.cause ≠ .chnRun i) : let e := d.deadlineOf slot
    e = { d with time := e.time, attic := e.attic, chans := e.chans } ∧ (∀ k, k ≠ slot → e.chan? k = d.chan? k) ∧
      e.chan? slot = some { c with
        pending := none, missed := c.missed + 1, missFirst := if c.missed = 0 then due.wall else c.missFirst, missLast := due.wall
        missMode := due.mode } := by
  intro e
  obtain ⟨t, ht⟩ : ∃ t, d.pendingDeadline c = some t := ⟨_, by rw [Dev.pendingDeadline, hpend]; rfl⟩
  have hmiss : ∀ x : Dev, x.missRun slot due = x.onChan slot fun c => { c with
      missed := c.missed + 1, missFirst := if c.missed = 0 then due.wall else c.missFirst, missLast := due.wall, missMode := due.mode } := fun x => by
    unfold Dev.missRun
    split
    next i hi => exact absurd hi (hcause i)
    next => rfl
  have he : e = ((if t > d.now then d.tick (t - d.now) else d).missRun slot due).onChan slot fun c => { c with pending := none } := by
    simp only [e, Dev.deadlineOf, hc, Option.bind_some, hst, Option.isSome_none, Bool.false_eq_true, if_false, Dev.pendingPassed, hpend, ht]
  clear_value e
  have hwait : d.Waited (if t > d.now then d.tick (t - d.now) else d) := by
    split
    · exact ⟨rfl⟩
    · exact ⟨rfl⟩
  generalize (if t > d.now then d.tick (t - d.now) else d) = x at *
  rw [hmiss] at he
  have hx := Dev.chan?_onChan (f := fun c => { c with
    missed := c.missed + 1, missFirst := if c.missed = 0 then due.wall else c.missFirst, missLast := due.wall, missMode := due.mode })
    ((hwait.chan? slot).trans hc)
  have honly := x.onChan_chanOnly slot fun c => { c with
    missed := c.missed + 1, missFirst := if c.missed = 0 then due.wall else c.missFirst, missLast := due.wall, missMode := due.mode }
  generalize (x.onChan slot fun c => { c with
    missed := c.missed + 1, missFirst := if c.missed = 0 then due.wall else c.missFirst, missLast := due.wall, missMode := due.mode }) = y at *
  have honly' : x.ChanOnly e slot := by rw [he]; exact honly.trans (y.onChan_chanOnly slot _)
  obtain ⟨hframe, hothers⟩ := Dev.ChanOnly.reached hwait honly'
  exact ⟨hframe, hothers, by rw [he]; exact Dev.chan?_onChan hx⟩

end deadline

/-! ### Frames handed over (R22, R311) -/

/-- The number of a chain: UHF chains count from 4. -/
def chainNo : Sys2Proof.Chain → Nat
  | .hf n => n
  | .uhf n => 4 + n

/-- The oldest frame leaves its buffer. -/
def Dev.unbuffered (d : Dev) (ch : Sys2Proof.Chain) (f : ResFrame) : Dev :=
  match ch with
  | .hf n => d.onHf n fun h => { h with bufs := h.bufs.erase f }
  | .uhf n => d.onUhf n fun u => { u with bufs := u.bufs.erase f }

/-- On HF a command that waited for the buffer starts. -/
def Dev.resumed (d : Dev) (ch : Sys2Proof.Chain) : Dev :=
  match ch with
  | .hf n => d.hfResume n
  | .uhf _ => d

theorem Dev.frameHandoff_of_none {d : Dev} {ch : Sys2Proof.Chain} (h : d.bufsOf ch = []) : d.frameHandoff (chainNo ch) = d := by
  cases ch with
  | hf n =>
    have hn : ¬ 4 ≤ n.val := Nat.not_le.2 n.isLt
    have hb : (d.hfc n).bufs = [] := h
    simp only [Dev.frameHandoff, chainNo, ge_iff_le, hn, if_false, hb, firstBy]
  | uhf n =>
    have hb : (d.uhfc n).bufs = [] := h
    simp only [Dev.frameHandoff, chainNo, ge_iff_le, Nat.le_add_right, if_true, Nat.add_sub_cancel_left, hb, firstBy]

theorem Dev.frameHandoff_of_one {d : Dev} {ch : Sys2Proof.Chain} {f : ResFrame} (h : d.bufsOf ch = [f]) :
    d.frameHandoff (chainNo ch) = ((d.unbuffered ch f).takeFrame (chainNo ch) f).resumed ch := by
  cases ch with
  | hf n =>
    have hn : ¬ 4 ≤ n.val := Nat.not_le.2 n.isLt
    have hb : (d.hfc n).bufs = [f] := h
    simp only [Dev.frameHandoff, chainNo, ge_iff_le, hn, if_false, hb, firstBy]
    rfl
  | uhf n =>
    have hb : (d.uhfc n).bufs = [f] := h
    simp only [Dev.frameHandoff, chainNo, ge_iff_le, Nat.le_add_right, if_true, Nat.add_sub_cancel_left, hb, firstBy]
    rfl

/-- Nothing but the chains differs, and one of them has no frame left. -/
theorem Dev.unbuffered_spec {d : Dev} {ch : Sys2Proof.Chain} {f : ResFrame} (h : d.bufsOf ch = [f]) :
    d.unbuffered ch f = { d with hf := (d.unbuffered ch f).hf, uhf := (d.unbuffered ch f).uhf } ∧ (d.unbuffered ch f).bufsOf ch = [] := by
  cases ch with
  | hf n =>
    have hb : (d.hfc n).bufs = [f] := h
    refine ⟨rfl, ?_⟩
    rw [Dev.unbuffered, Dev.bufsOf, Dev.hfc_onHf n.isLt]
    simp [hb]
  | uhf n =>
    have hb : (d.uhfc n).bufs = [f] := h
    refine ⟨rfl, ?_⟩
    rw [Dev.unbuffered, Dev.bufsOf, Dev.uhfc_onUhf n.isLt]
    simp [hb]

theorem Dev.bufsOf_congr {d e : Dev} (hh : e.hf = d.hf) (hu : e.uhf = d.uhf) (ch : Sys2Proof.Chain) : e.bufsOf ch = d.bufsOf ch := by
  cases ch with
  | hf n => rw [Dev.bufsOf, Dev.hfc, hh, ← Dev.hfc]; rfl
  | uhf n => rw [Dev.bufsOf, Dev.uhfc, hu, ← Dev.uhfc]; rfl

theorem Dev.takeFrame_orphan {d : Dev} {f : ResFrame} {n : Nat} (h : d.liveSlot f.tag.handle = none) :
    d.takeFrame n f = { (d.bump F.DEV_ORPHAN_COUNT 1) with orphan := f.tag.handle % 256 } := by
  unfold Dev.takeFrame
  rw [h]

/-- A last frame of a code other than OK, as the transaction engine keeps it. -/
def ResFrame.emptied (f : ResFrame) (wall : Nat) : ResFrame :=
  { f with payload := [], last := true, part := false, wall := wall, status := overlay f.status 0 (beBytes 2 0 ++ beBytes 1 f.code) }

/-- A last frame of a code other than OK ends the attempt that it belongs to, its payload discarded (R22, R311). -/
theorem Dev.takeFrame_ends {d : Dev} {f : ResFrame} {n slot : Nat} {c : Chan} {st : Step} (hl : d.liveSlot f.tag.handle = some slot)
    (hc : d.chan? slot = some c) (hst : c.step = some st) (hphase : st.phase = .running) (hreq : st.tag.reqId = f.tag.reqId)
    (hstep : st.tag.step = f.tag.step) (hatt : st.tag.attempt = f.tag.attempt) (hcode : f.code ≠ 0) (hlast : f.last = true) (hpart : f.part = false)
    (hframes : st.frames = []) : ∃ g : ResFrame, d.ChanOnly (d.takeFrame n f) slot ∧
      (d.takeFrame n f).chan? slot = some { c with step := some { st with phase := .ended f.code, frames := [g], asm := [] } } ∧
      g.tag = f.tag ∧ g.payload = [] ∧ g.code = f.code ∧ g.wall = d.wall := by
  have hne : (f.code != 0) = true := by simpa using hcode
  have heq : d.takeFrame n f = (d.setStep slot { st with asm := [], frames := [f.emptied d.wall] }).setPhase slot (.ended f.code) := by
    unfold Dev.takeFrame
    simp only [hl, hc, hst, hphase, hreq, hstep, hatt, hcode, hlast, hpart, hframes, bne_self_eq_false, Bool.or_self, Bool.false_eq_true, if_false,
      if_true, List.isEmpty_nil, Bool.not_true, Bool.and_false, decide_false, Bool.false_and, List.nil_append, Dev.bindRun, hne,
      Bool.or_true]
    rfl
  rw [heq]
  have hset := Dev.chan?_onChan (f := fun c => { c with step := some { st with asm := [], frames := [f.emptied d.wall] } }) hc
  have hs : (d.setStep slot { st with asm := [], frames := [f.emptied d.wall] }).chan? slot =
      some { c with step := some { st with asm := [], frames := [f.emptied d.wall] } } := hset
  refine ⟨f.emptied d.wall, (d.onChan_chanOnly slot _).trans (Dev.onChan_chanOnly _ slot _), (Dev.chan?_onChan hs).trans rfl, rfl, rfl, rfl, rfl⟩

theorem completes_handoff {s : State} {ch : Sys2Proof.Chain} {p : Dev → Prop} (hrun : s.dev.phase = .running)
    (h : p (s.dev.frameHandoff (chainNo ch)).settle) : completes (.frameHandoff ch) s p := by
  refine completes_onLive (fun d => (d.frameHandoff (chainNo ch)).settle) hrun ?_ h
  cases ch <;> rfl

/-- A frame that no live handle takes is an orphan. -/
def Dev.orphaned (d : Dev) (f : ResFrame) : Dev := { (d.bump F.DEV_ORPHAN_COUNT 1) with orphan := f.tag.handle % 256 }

theorem Dev.orphaned_spec {d x : Dev} {f : ResFrame} (h : x = { d with hf := x.hf, uhf := x.uhf }) (ch : Sys2Proof.Chain) : let e := x.orphaned f
    e.bufsOf ch = x.bufsOf ch ∧ e.orphan = f.tag.handle % 256 ∧
      e.fld F.DEV_ORPHAN_COUNT = satAdd (2 ^ (F.DEV_ORPHAN_COUNT.hi + 1 - F.DEV_ORPHAN_COUNT.lo) - 1) (d.fld F.DEV_ORPHAN_COUNT) 1 ∧
      { d with hf := e.hf, uhf := e.uhf, orphan := e.orphan }.onlyRegs e [R.DEV_ORPHAN] := by
  intro e
  have hfld : x.fld F.DEV_ORPHAN_COUNT = d.fld F.DEV_ORPHAN_COUNT := Dev.fld_eq_of_reg (by rw [h]; rfl)
  have hb := x.bump_frame F.DEV_ORPHAN_COUNT 1
  refine ⟨Dev.bufsOf_congr rfl rfl ch, rfl, ?_, ?_, fun a ha => (hb.2 a ha).trans (by rw [h]; rfl)⟩
  · rw [← hfld]
    exact Dev.fld_bump (by decide)
  · exact (congrArg (fun y : Dev => { y with regs := (x.bump F.DEV_ORPHAN_COUNT 1).regs, orphan := f.tag.handle % 256 }) h :)

theorem Dev.handed_orphan {d : Dev} {ch : Sys2Proof.Chain} {f : ResFrame} (h : d.bufsOf ch = [f]) (hl : d.liveSlot f.tag.handle = none) :
    d.frameHandoff (chainNo ch) = ((d.unbuffered ch f).orphaned f).resumed ch := by
  have hlive : (d.unbuffered ch f).liveSlot f.tag.handle = none := by rw [(Dev.unbuffered_spec h).1]; exact hl
  rw [Dev.frameHandoff_of_one h, Dev.takeFrame_orphan hlive]
  rfl

/-- The frame of a change to one channel after a change of the chains alone. -/
theorem Dev.ChanOnly.after_chains {d x e : Dev} {slot : Nat} (h : x = { d with hf := x.hf, uhf := x.uhf }) (g : x.ChanOnly e slot) :
    e = { d with hf := e.hf, uhf := e.uhf, chans := e.chans } ∧ ∀ k, k ≠ slot → e.chan? k = d.chan? k := by
  have hehf : e.hf = x.hf := (congrArg Dev.hf g.rest :)
  have heuhf : e.uhf = x.uhf := (congrArg Dev.uhf g.rest :)
  have hx : x.chans = d.chans := (congrArg Dev.chans h :)
  refine ⟨?_, fun k hk => (g.chans k hk).trans (by rw [Dev.chan?, hx, Dev.chan?])⟩
  rw [hehf, heuhf]
  exact g.rest.trans (congrArg (fun y : Dev => { y with chans := e.chans }) h :)

theorem Dev.resumed_eq (e : Dev) (ch : Sys2Proof.Chain) : e.resumed ch = match ch with
    | .hf n => e.hfResume n
    | .uhf _ => e := by
  cases ch <;> rfl

/-- Settles O43: deadlines by the phase of the step, frames by what the transaction engine does with them. -/
theorem deadlinesAndFrames : Obligations.DeadlinesAndFrames := by
  unfold Obligations.DeadlinesAndFrames
  intro s hrun
  refine ⟨fun slot c st hc hst hphase hdl ht => ?_, fun slot c st ch hc hst hphase hchain hch hbufs hdl ht => ?_, fun slot c due hc hst hp hcause => ?_,
    fun ch => ⟨fun h => ?_, fun f h hl => ?_, fun f slot c st h hl hc hst hphase hreq hstep hatt hcode hlast hpart hframes => ?_⟩⟩
  · exact completes_onSchedule (·.deadlineOf slot) hrun rfl ⟨_, rfl, Dev.deadlinePassed_idle hrun hc hst hphase hdl ht⟩
  · exact completes_onSchedule (·.deadlineOf slot) hrun rfl ⟨_, rfl, Dev.deadlinePassed_running hrun hc hst hphase hchain hch hbufs hdl ht⟩
  · exact completes_onSchedule (·.deadlineOf slot) hrun rfl ⟨_, rfl, Dev.deadlineOf_pending hc hst hp hcause⟩
  · exact completes_handoff hrun (congrArg Dev.settle (Dev.frameHandoff_of_none h))
  · obtain ⟨hframe, hbufs⟩ := Dev.unbuffered_spec h
    obtain ⟨h1, h2, h3, h4⟩ := Dev.orphaned_spec (f := f) hframe ch
    exact completes_handoff hrun ⟨_, congrArg Dev.settle ((Dev.handed_orphan h hl).trans (Dev.resumed_eq _ ch)), h1.trans hbufs, h2, h3, h4⟩
  · obtain ⟨hframe, hbufs⟩ := Dev.unbuffered_spec h
    have heq := Dev.frameHandoff_of_one h
    generalize s.dev.unbuffered ch f = x at *
    have hxl : x.liveSlot f.tag.handle = some slot := by rw [hframe]; exact hl
    have hxc : x.chan? slot = some c := by rw [hframe]; exact hc
    have hwall : x.wall = s.dev.wall := by rw [hframe]; rfl
    obtain ⟨g, honly, hchan, htag, hpay, hgcode, hgwall⟩ := Dev.takeFrame_ends (n := chainNo ch) hxl hxc hst hphase hreq hstep hatt hcode hlast hpart hframes
    generalize x.takeFrame (chainNo ch) f = e at *
    obtain ⟨hrest, hothers⟩ := honly.after_chains hframe
    exact completes_handoff hrun ⟨e, congrArg Dev.settle (heq.trans (Dev.resumed_eq _ ch)),
      (Dev.bufsOf_congr (congrArg Dev.hf honly.rest :) (congrArg Dev.uhf honly.rest :) ch).trans hbufs, hrest, hothers, g, hchan, htag, hpay, hgcode,
      hgwall.trans hwall⟩

end Sys2Proof.Machine
end

section
/-!
PROOFS. Chains released: what their radios may reach.
-/

namespace Sys2Proof.Machine

open Sys2Proof

-- one proof after another: the check bounds the memory that the stacks of parallel proofs take
set_option Elab.async false

/-- A channel but for its session. -/
def Chan.sessionless (c : Chan) : Chan := { c with session := none }

/-- The channels of a list but for their sessions. -/
def sessionless (l : List (Nat × Chan)) : List (Nat × Chan) := l.map fun y => (y.1, y.2.sessionless)

theorem find?_sessionless (l : List (Nat × Chan)) (k : Nat) :
    (((sessionless l).find? (·.1 == k)).map (·.2)) = ((l.find? (·.1 == k)).map (·.2)).map Chan.sessionless := by
  simp only [sessionless, List.find?_map, Function.comp_def, Option.map_map]

/-- The radios, their governor and wires, the sessions that their fields hold, the quota and registers: nothing else differs. -/
structure Dev.RadioPart (d e : Dev) : Prop where
  rest : e = { d with
    regs := e.regs, hf := e.hf, uhf := e.uhf, gov := e.gov, coexA := e.coexA, coexB := e.coexB, chans := e.chans, quota := e.quota }
  chans : sessionless e.chans = sessionless d.chans

namespace Dev.RadioPart

variable {d e x : Dev} {n : Nat}

theorem refl (d : Dev) : RadioPart d d := ⟨rfl, rfl⟩

theorem trans (h : RadioPart d e) (g : RadioPart e x) : RadioPart d x := ⟨by rw [g.rest, h.rest], g.chans.trans h.chans⟩

theorem chan {k : Nat} {c : Chan} (h : RadioPart d e) (hc : d.chan? k = some c) : ∃ s, e.chan? k = some { c with session := s } := by
  have hk : (e.chan? k).map Chan.sessionless = (d.chan? k).map Chan.sessionless := by
    rw [Dev.chan?, ← find?_sessionless, h.chans, find?_sessionless, ← Dev.chan?]
  rw [hc] at hk
  obtain ⟨y, hy, hb⟩ := Option.map_eq_some_iff.1 hk
  refine ⟨y.session, hy.trans (congrArg some ?_)⟩
  cases c
  cases y
  simp only [Chan.sessionless, Chan.mk.injEq] at hb
  simp [hb]

theorem slots (h : RadioPart d e) : e.chans.map (·.1) = d.chans.map (·.1) := by
  have hm := congrArg (List.map (·.1)) h.chans
  simpa only [sessionless, List.map_map, Function.comp_def] using hm

theorem of_eq (h : RadioPart d e) (g : x = { e with
    regs := x.regs, hf := x.hf, uhf := x.uhf, gov := x.gov, coexA := x.coexA, coexB := x.coexB, quota := x.quota }) : RadioPart d x := by
  have hc : x.chans = e.chans := (congrArg Dev.chans g :)
  exact h.trans ⟨by rw [hc]; exact g, by rw [hc]⟩

theorem setFld (h : RadioPart d e) (f : Fld) (v : Nat) : RadioPart d (e.setFld f v) := h.of_eq rfl

theorem setReg (h : RadioPart d e) (a : Nat) (v : Word) : RadioPart d (e.setReg a v) := h.of_eq rfl

theorem setFlag (h : RadioPart d e) (f : Fld) (v : Bool) : RadioPart d (e.setFlag f v) := h.of_eq rfl

theorem bump (h : RadioPart d e) (f : Fld) (k : Nat) : RadioPart d (e.bump f k) := h.of_eq rfl

theorem onHf (h : RadioPart d e) (n : Nat) (f : HfChain → HfChain) : RadioPart d (e.onHf n f) := h.of_eq rfl

theorem onUhf (h : RadioPart d e) (n : Nat) (f : UhfChain → UhfChain) : RadioPart d (e.onUhf n f) := h.of_eq rfl

theorem hfPart (h : RadioPart d e) (g : e.HfPart x) : RadioPart d x := h.of_eq (by
  have h1 : x.uhf = e.uhf := (congrArg Dev.uhf g :)
  have h2 : x.gov = e.gov := (congrArg Dev.gov g :)
  have h3 : x.coexA = e.coexA := (congrArg Dev.coexA g :)
  have h4 : x.coexB = e.coexB := (congrArg Dev.coexB g :)
  have h5 : x.quota = e.quota := (congrArg Dev.quota g :)
  rw [h1, h2, h3, h4, h5]
  exact g)

theorem carriers (h : RadioPart d e) (g : e.CarrierOnly x) : RadioPart d x := h.of_eq (by
  have h1 : x.hf = e.hf := (congrArg Dev.hf g.rest :)
  have h2 : x.quota = e.quota := (congrArg Dev.quota g.rest :)
  rw [h1, h2]
  exact g.rest)

theorem onlyRegs {l : List Nat} (h : RadioPart d e) (g : e.onlyRegs x l) : RadioPart d x := h.hfPart ((Dev.HfPart.refl e).of_onlyRegs g)

theorem forEach {f : Dev → Nat → Dev} {l : List Nat} (h : RadioPart d e) (hf : ∀ y m, RadioPart d y → RadioPart d (f y m)) : RadioPart d (e.forEach l f) :=
  Dev.forEach_keeps (P := RadioPart d) h fun y m _ hy => hf y m hy

theorem ite {c : Prop} [Decidable c] {x y : Dev} (hx : RadioPart d x) (hy : RadioPart d y) : RadioPart d (if c then x else y) := by
  split
  · exact hx
  · exact hy

theorem endSessions (h : RadioPart d e) (port : Nat) : RadioPart d (e.endSessions port) := by
  refine h.trans ⟨rfl, ?_⟩
  simp only [Dev.endSessions, sessionless, List.map_map]
  refine List.map_congr_left fun y _ => ?_
  simp only [Function.comp]
  split <;> rfl

theorem showTracked (h : RadioPart d e) (n : Nat) : RadioPart d (e.showTracked n) := h.onlyRegs (e.showTracked_frame n)

theorem initTracking (h : RadioPart d e) (n : Nat) : RadioPart d (e.initTracking n) :=
  (h.forEach fun _ _ hy => (((hy.onHf _ _).onHf _ _).setFld _ _).setFld _ _).forEach fun _ _ hy => hy.showTracked _

theorem hfOff1 (h : RadioPart d e) (n : Nat) : RadioPart d (e.hfOff1 n) := by
  unfold Dev.hfOff1
  split
  · exact h
  next p hp =>
    have hoff := ((h.endSessions p).hfPart ((Dev.HfPart.refl _).staggerEnd n)).onHf n fun c => { c with
      port := none, owner := none, partner := none, master := true, phase := .idle, att := none, card := none, tx := []
      txBits := 0, txCrc := false, txPend := false, leaving := false, closing := false, pulse := false }
    exact (((((((hoff.setFlag _ _).setFlag _ _).setFlag _ _).setFlag _ _).setFlag _ _).setReg _ _).setReg _ _).initTracking n

theorem hfFieldOff (h : RadioPart d e) (n : Nat) : RadioPart d (e.hfFieldOff n) := by
  unfold Dev.hfFieldOff
  extract_lets m x
  have hx : RadioPart d x := h.hfOff1 n
  clear_value x m
  refine .hfPart ?_ ((Dev.HfPart.refl _).showTiers).releaseDrives
  split
  · exact hx.hfOff1 _
  · exact hx

theorem hfRelease (h : RadioPart d e) (n : Nat) : RadioPart d (e.hfRelease n) := .ite (h.forEach fun _ _ hy => hy.onHf _ _) (h.hfFieldOff n)

theorem tuneTo (h : RadioPart d e) (n c : Nat) : RadioPart d (e.tuneTo n c) :=
  (((h.setFlag _ _).setFlag _ _).onUhf n _).carriers (Dev.CarrierOnly.untrain (Dev.CarrierOnly.refl _))

theorem restandby (h : RadioPart d e) : RadioPart d e.restandby := by
  unfold Dev.restandby
  extract_lets free want old x y
  have hx : RadioPart d x := h.forEach fun _ _ hy => .ite (hy.setFld _ _) (.ite (hy.setFld _ _) hy)
  clear_value x
  have hy : RadioPart d y := .ite (hx.setFlag _ _) hx
  clear_value y want
  split
  · exact hy
  next n =>
    refine .ite hy ?_
    have hz : RadioPart d (if y.ust n = Ust.off then y.setUst n Ust.standby else y) := .ite (hy.setFld _ _) hy
    exact .ite (hz.tuneTo _ _) hz

theorem respare (h : RadioPart d e) : RadioPart d e.respare := by
  unfold Dev.respare
  extract_lets ok now want x
  have hx : RadioPart d x := h.forEach fun _ _ hy => hy.setFlag _ _
  clear_value x
  exact .ite (hx.setFlag _ _) hx

theorem rampDown (h : RadioPart d e) (n : Nat) : RadioPart d (e.rampDown n) := h.carriers (Dev.CarrierOnly.rampDown (Dev.CarrierOnly.refl _))

theorem toStandby (h : RadioPart d e) (n : Nat) : RadioPart d (e.toStandby n) := h.carriers (Dev.CarrierOnly.toStandby (Dev.CarrierOnly.refl _))

theorem releaseChain (h : RadioPart d e) (ch : Nat) (at_ : Bool) : RadioPart d (e.releaseChain ch at_) := by
  unfold Dev.releaseChain
  refine respare ?_
  split
  · extract_lets n x m free y
    have hx : RadioPart d x := .ite (.ite (h.toStandby _) (h.rampDown _)) h
    clear_value x
    have hfree : ∀ z k, RadioPart d z → RadioPart d (free z k) := fun z k hz => by
      have hw := (((hz.onUhf k fun u => { u with owner := none, partner := none, master := true, port := none, leaving := false }).setFlag
        (F.UHFCn_STAT_PORT_VALID k) false).setFld (F.UHFCn_POWER_PERMIT k) 0)
      exact .ite hw (hw.setFld _ _)
    clear_value free
    have hy : RadioPart d y := hfree x n hx
    clear_value y m
    refine restandby ?_
    split
    · exact hfree _ _ hy
    · exact hy
  · exact .ite (h.hfFieldOff _) (h.hfRelease _)

theorem quotaClose (h : RadioPart d e) (slot : Nat) : RadioPart d (e.quotaClose slot) := h.of_eq rfl

theorem releaseRun (h : RadioPart d e) (slot : Nat) : RadioPart d (e.releaseRun slot) :=
  ((h.quotaClose slot).forEach fun _ _ hy => .ite (hy.releaseChain _ _) hy).forEach fun _ _ hy => .ite (hy.releaseChain _ _) hy

end Dev.RadioPart

end Sys2Proof.Machine
end

section
/-!
PROOFS. The end of an attempt (R309, R310, R317).
-/

namespace Sys2Proof.Machine

open Sys2Proof

-- one proof after another: the check bounds the memory that the stacks of parallel proofs take
set_option Elab.async false

/-! ### Channels written twice -/

theorem insertChan_insertChan (slot : Nat) (c c' : Chan) (l : List (Nat × Chan)) : insertChan slot c' (insertChan slot c l) = insertChan slot c' l := by
  induction l with
  | nil => simp [insertChan]
  | cons y t ih =>
    obtain ⟨k, x⟩ := y
    by_cases hlt : slot < k
    · simp [insertChan, hlt]
    · by_cases heq : slot = k
      · subst heq; simp [insertChan]
      · simp [insertChan, hlt, heq, ih]

theorem Dev.setChan_setChan (d : Dev) (slot : Nat) (c c' : Chan) : (d.setChan slot c).setChan slot c' = d.setChan slot c' := by
  simp only [Dev.setChan, insertChan_insertChan]

/-! ### An attempt made again (R309) -/

/-- A step whose attempt is to be made anew. -/
def Step.fresh (st : Step) : Step := { st with frames := [], asm := [], ctx := none, cv := none }

/-- A step made again on the chain that it holds, if that can take it. -/
def Dev.again (d : Dev) (slot : Nat) (c : Chan) (st : Step) : Dev :=
  let d := d.quotaClose slot
  if d.trans.isSome then d.setStep slot { st.fresh with phase := .held }
  else match st.chain with
    | some ch => if d.canRetryOn c st.fresh ch then (d.setStep slot st.fresh).beginAttempt slot
      else d.setStep slot { st.fresh with phase := .waiting, waitFrom := d.time, chain := none }
    | none => d.setStep slot { st.fresh with phase := .waiting, waitFrom := d.time }

section ended

variable {d : Dev} {slot : Nat} {c : Chan} {st : Step} {code : Nat} (hc : d.chan? slot = some c) (hst : c.step = some st) (hphase : st.phase = .ended code)

include hc hst hphase

/-- A retry counted. -/
def Chan.retried (c : Chan) : Chan := { c with retries := satAdd 0xFFFF c.retries 1 }

theorem Dev.attemptEnd_done (hre : reissueCode code = false) (hno : d.retries c st code = false) : d.attemptEnd slot = d.stepDone slot code := by
  simp only [Dev.attemptEnd, hc, hst, hphase, hre, hno, Bool.not_false, Bool.and_self, if_true]

theorem Dev.attemptEnd_stopped {stop : Nat} (hre : reissueCode code = true) (hstop : d.stopCode c = some stop) : d.attemptEnd slot = d.stepDone slot stop := by
  simp only [Dev.attemptEnd, hc, hst, hphase, hre, Bool.not_true, Bool.false_and, Bool.false_eq_true, if_false, hstop]

theorem Dev.attemptEnd_reissued (hre : reissueCode code = true) (hstop : d.stopCode c = none) : d.attemptEnd slot = d.again slot c st := by
  simp only [Dev.attemptEnd, hc, hst, hphase, hre, Bool.not_true, Bool.false_and, Bool.false_eq_true, if_false, hstop, if_true, Dev.again, Step.fresh]
    <;> rfl

theorem Dev.attemptEnd_retried (hre : reissueCode code = false) (hstop : d.stopCode c = none) (hyes : d.retries c st code = true)
    (hcard : st.cardLost code = false) : d.attemptEnd slot =
      (d.onChan slot Chan.retried).again slot c { st with tag := { st.tag with attempt := st.tag.attempt + 1 }, recover := false } := by
  simp only [Dev.attemptEnd, hc, hst, hphase, hre, Bool.not_false, Bool.true_and, hyes, Bool.not_true, Bool.false_eq_true, if_false, hstop, hcard,
    Dev.again, Step.fresh]
  rfl

end ended

/-- What an attempt made again leaves, and where it goes. -/
theorem Dev.again_spec {d b : Dev} {slot : Nat} {c y : Chan} {st : Step} (hb : d.ChanOnly b slot) (hy : b.chan? slot = some y)
    (hcan : ∀ ch, b.canRetryOn c st.fresh ch = d.canRetryOn c st.fresh ch) : ∃ e : Dev,
      e = { d with chans := e.chans, quota := e.quota } ∧ (∀ k, k ≠ slot → e.chan? k = d.chan? k) ∧
      e.chan? slot = some { y with step := some st.fresh } ∧
      (d.trans ≠ none → b.again slot c st = e.setStep slot { st.fresh with phase := .held }) ∧
      (d.trans = none → (∀ ch, st.chain = some ch → d.canRetryOn c st.fresh ch = false) →
        b.again slot c st = e.setStep slot { st.fresh with phase := .waiting, waitFrom := d.time, chain := none }) ∧
      (∀ ch, d.trans = none → st.chain = some ch → d.canRetryOn c st.fresh ch = true → b.again slot c st = e.beginAttempt slot) := by
  have hq : (b.quotaClose slot).chan? slot = some y := hy
  have htrans : (b.quotaClose slot).trans = d.trans := (congrArg Dev.trans hb.rest :)
  have htime : (b.quotaClose slot).time = d.time := (congrArg Dev.time hb.rest :)
  have hcanq : ∀ ch, (b.quotaClose slot).canRetryOn c st.fresh ch = d.canRetryOn c st.fresh ch := hcan
  have hagain : b.again slot c st = if (b.quotaClose slot).trans.isSome then (b.quotaClose slot).setStep slot { st.fresh with phase := .held }
      else match st.chain with
        | some ch => if (b.quotaClose slot).canRetryOn c st.fresh ch then ((b.quotaClose slot).setStep slot st.fresh).beginAttempt slot
          else (b.quotaClose slot).setStep slot { st.fresh with phase := .waiting, waitFrom := (b.quotaClose slot).time, chain := none }
        | none => (b.quotaClose slot).setStep slot { st.fresh with phase := .waiting, waitFrom := (b.quotaClose slot).time } := rfl
  have hrest : b.quotaClose slot = { d with chans := (b.quotaClose slot).chans, quota := (b.quotaClose slot).quota } :=
    (congrArg (fun z : Dev => { z with quota := (b.quotaClose slot).quota }) hb.rest :)
  have hothers : ∀ k, k ≠ slot → (b.quotaClose slot).chan? k = d.chan? k := hb.chans
  generalize b.quotaClose slot = q at *
  have htwice : ∀ u, (q.setStep slot st.fresh).setStep slot u = q.setStep slot u := fun u => by
    have hset : q.setStep slot st.fresh = q.setChan slot { y with step := some st.fresh } := Dev.onChan_of_chan hq _
    have hset' : q.setStep slot u = q.setChan slot { y with step := some u } := Dev.onChan_of_chan hq _
    rw [hset, hset', Dev.setStep, Dev.onChan_of_chan (q.chan?_setChan slot _), Dev.setChan_setChan]
  have honly := q.onChan_chanOnly slot fun c => { c with step := some st.fresh }
  have he : q.setStep slot st.fresh = { d with chans := (q.setStep slot st.fresh).chans, quota := (q.setStep slot st.fresh).quota } := by
    have hquota : (q.setStep slot st.fresh).quota = q.quota := (congrArg Dev.quota honly.rest :)
    rw [hquota]
    refine honly.rest.trans ?_
    exact (congrArg (fun z : Dev => { z with chans := (q.setStep slot st.fresh).chans }) hrest :)
  refine ⟨q.setStep slot st.fresh, he, fun k hk => (honly.chans k hk).trans (hothers k hk), Dev.chan?_onChan hq, fun ht => ?_, fun ht hno => ?_, fun ch ht hch hyes => ?_⟩
  · rw [hagain, htwice, htrans, if_pos (Option.isSome_iff_ne_none.2 ht)]
  · rw [hagain, htwice, htrans, ht, if_neg (by simp), htime]
    cases hch : st.chain with
    | none =>
      have hsame : ({ st.fresh with phase := .waiting, waitFrom := d.time, chain := none } : Step) = { st.fresh with phase := .waiting, waitFrom := d.time } := by
        rw [← hch]; rfl
      rw [hsame]
    | some ch => exact if_neg (by rw [hcanq, hno ch hch]; decide)
  · rw [hagain, htrans, ht, if_neg (by simp), hch]
    exact if_pos (by rw [hcanq, hyes])

/-! ### The outcome of a direct step (R312, R317) -/

/-- What the end of a direct step leaves of the stores. -/
structure Dev.SameStores (d e : Dev) : Prop where
  jrn : e.jrn = d.jrn
  cs : e.cs = d.cs
  vault : e.vault = d.vault
  tables : e.tables = d.tables
  time : e.time = d.time

namespace Dev.SameStores

variable {d e x : Dev}

theorem refl (d : Dev) : SameStores d d := ⟨rfl, rfl, rfl, rfl, rfl⟩

theorem trans (h : SameStores d e) (g : SameStores e x) : SameStores d x :=
  ⟨g.jrn.trans h.jrn, g.cs.trans h.cs, g.vault.trans h.vault, g.tables.trans h.tables, g.time.trans h.time⟩

theorem of_radioPart (h : d.RadioPart e) : SameStores d e := by
  obtain ⟨hr, -⟩ := h
  exact ⟨(congrArg Dev.jrn hr :), (congrArg Dev.cs hr :), (congrArg Dev.vault hr :), (congrArg Dev.tables hr :), (congrArg Dev.time hr :)⟩

theorem of_chanOnly {slot : Nat} (h : d.ChanOnly e slot) : SameStores d e := by
  obtain ⟨hr, -⟩ := h
  exact ⟨(congrArg Dev.jrn hr :), (congrArg Dev.cs hr :), (congrArg Dev.vault hr :), (congrArg Dev.tables hr :), (congrArg Dev.time hr :)⟩

theorem of_answered (h : d.Answered e) : SameStores d e := by
  obtain ⟨hr, -⟩ := h
  exact ⟨(congrArg Dev.jrn hr :), (congrArg Dev.cs hr :), (congrArg Dev.vault hr :), (congrArg Dev.tables hr :), (congrArg Dev.time hr :)⟩

end Dev.SameStores

theorem Dev.secCode_radioPart (d : Dev) (code : Nat) : d.RadioPart (d.secCode code) := by
  have h := Dev.RadioPart.refl d
  unfold Dev.secCode
  split
  · exact h
  · exact .ite ((h.setFld _ _).bump _ _) (.ite ((h.setFld _ _).bump _ _) (h.setFld _ _))

/-- A step with its outcome reported. -/
def Step.reporting (st : Step) (code : Nat) : Step := { st with phase := .reporting code, ctx := none }

/-- The word of CHN_LAST (R317). -/
def outcomeWord (t : FrameTag) (code : Nat) : Word := BitVec.ofNat 32 (code * 2 ^ 24 + t.step * 2 ^ 21 + t.attempt * 2 ^ 18 + t.reqId)

/-- A channel whose direct step has its outcome: its counters, and then its results. -/
def Chan.scored (c : Chan) (w : Word) (ok failed deadlines : Nat) : Chan := { c with last := w, ok := ok, failed := failed, deadlines := deadlines }

def Chan.counted (c : Chan) (t : FrameTag) (code : Nat) : Chan :=
  c.scored (outcomeWord t code) (if code = 0 then satAdd 0xFFFF c.ok 1 else c.ok) (if code = 0 then c.failed else satAdd 0xFFFF c.failed 1)
    (if code = Code.DEADLINE then satAdd 0xFFFF c.deadlines 1 else c.deadlines)

def Chan.answered (c : Chan) (st : Step) (code : Nat) : Chan := { c with
  step := none, results := if code = Code.STOPPED ∨ code = Code.MODE_ABORT then [] else c.results ++ resultsOf st code }

section direct

variable {d : Dev} {slot : Nat} {c : Chan} {st : Step} {code : Nat}

/-- The outcome of a step without records is reported at once. -/
theorem Dev.stepDone_direct (hc : d.chan? slot = some c) (hst : c.step = some st) (hrun : c.run = none) (hcommit : jpolCommit st.tag.jpol = 0)
    (hout : d.outstanding st.tag.handle = false) : ∃ (b : Dev) (cv : Option CvCtx), d.SameStores b ∧
      b.chan? slot = some { c with step := some (st.reporting code), cv := cv } ∧
      d.stepDone slot code = b.directEnd slot { c with step := some (st.reporting code), cv := cv } (st.reporting code) code := by
  have hpart : d.RadioPart ((d.quotaClose slot).secCode code) := ((Dev.RadioPart.refl d).quotaClose slot).trans ((d.quotaClose slot).secCode_radioPart code)
  have heq : ∃ cv, d.stepDone slot code = (((d.quotaClose slot).secCode code).setChan slot { c with step := some (st.reporting code), cv := cv }).stepReported slot := by
    have hrec : ∀ x : Dev, x.directRecords st code = x := fun x => by rw [Dev.directRecords, if_pos (by rw [hcommit]; rfl)]
    refine ⟨if code = 0 then st.cv.orElse fun _ => c.cv else c.cv, ?_⟩
    simp only [Dev.stepDone, hc, hst, hrun, hrec]
    rfl
  obtain ⟨cv, heq⟩ := heq
  generalize (d.quotaClose slot).secCode code = x at *
  have hstores := (Dev.SameStores.of_radioPart hpart).trans (.of_chanOnly (x.setChan_chanOnly slot { c with step := some (st.reporting code), cv := cv }))
  have hchan := x.chan?_setChan slot { c with step := some (st.reporting code), cv := cv }
  generalize x.setChan slot { c with step := some (st.reporting code), cv := cv } = b at *
  have hout' : b.outstanding (st.reporting code).tag.handle = false := by
    rw [Dev.outstanding, hstores.jrn]
    exact hout
  refine ⟨b, cv, hstores, hchan, heq.trans ?_⟩
  have hphase : (st.reporting code).phase = .reporting code := rfl
  unfold Dev.stepReported
  simp only [hchan, hphase, hout', Bool.false_eq_true, if_false, hrun]

/-- A direct step answered. -/
def Dev.directAnswered (d : Dev) (slot : Nat) (st : Step) (code : Nat) : Dev :=
  let x := (d.onChan slot (·.counted st.tag code)).onChan slot (·.answered st code)
  x.reqDone (x.handle slot) st.tag.reqId code st.tag.attempt []

theorem Chan.answered_eq (st : Step) (code : Nat) : (·.answered st code) = fun c : Chan =>
    { c with step := none, results := if (decide (code = Code.STOPPED) || decide (code = Code.MODE_ABORT)) = true then [] else c.results ++ resultsOf st code } := by
  funext c
  simp only [Chan.answered, Bool.or_eq_true, decide_eq_true_eq]

/-- A direct step answered gives back the chain that it held, and its channel is ACTIVE. -/
theorem Dev.directEnd_eq (hevt : jpolEvt st.tag.jpol = false) (hrunning : c.state = .running) : ∃ x4, (d.directAnswered slot st code).RadioPart x4 ∧
    d.directEnd slot c st code = x4.afterRun slot := by
  have hx : ((d.showOutcome slot st.tag code).onChan slot fun c : Chan =>
      { c with step := none, results := if (decide (code = Code.STOPPED) || decide (code = Code.MODE_ABORT)) = true then [] else c.results ++ resultsOf st code })
      = (d.onChan slot (·.counted st.tag code)).onChan slot (·.answered st code) := by
    rw [Chan.answered_eq]
    rfl
  unfold Dev.directEnd Dev.runEvent
  simp only [hevt, Bool.false_eq_true, if_false, hrunning, if_true]
  rw [hx]
  have hb : (((d.onChan slot (·.counted st.tag code)).onChan slot (·.answered st code)).reqDone
      (((d.onChan slot (·.counted st.tag code)).onChan slot (·.answered st code)).handle slot) st.tag.reqId code st.tag.attempt []) =
      d.directAnswered slot st code := rfl
  rw [hb]
  generalize d.directAnswered slot st code = x3
  split
  · split
    · exact ⟨_, (Dev.RadioPart.refl x3).releaseRun slot, rfl⟩
    · exact ⟨_, (Dev.RadioPart.refl x3).quotaClose slot, rfl⟩
  · exact ⟨_, .refl x3, rfl⟩

theorem Dev.directAnswered_spec (hc : d.chan? slot = some c) : d.SameStores (d.directAnswered slot st code) ∧
    ∃ hist, (d.directAnswered slot st code).chan? slot = some { (c.counted st.tag code).answered st code with hist := hist } := by
  have h1 : (d.onChan slot (·.counted st.tag code)).chan? slot = some (c.counted st.tag code) := Dev.chan?_onChan hc
  have g1 : d.SameStores (d.onChan slot (·.counted st.tag code)) := .of_chanOnly (d.onChan_chanOnly slot _)
  unfold Dev.directAnswered
  generalize d.onChan slot (·.counted st.tag code) = x1 at *
  generalize c.counted st.tag code = c1 at *
  have h2 : (x1.onChan slot (·.answered st code)).chan? slot = some (c1.answered st code) := Dev.chan?_onChan h1
  have g2 := g1.trans (.of_chanOnly (x1.onChan_chanOnly slot (·.answered st code)))
  generalize x1.onChan slot (·.answered st code) = x2 at *
  generalize c1.answered st code = c2 at *
  have hans := (Dev.Answered.refl x2).reqDone (x2.handle slot) st.tag.reqId code st.tag.attempt []
  exact ⟨g2.trans (.of_answered hans), hans.chan h2⟩

theorem Dev.afterRun_active (hc : d.chan? slot = some c) (hrunning : c.state = .running) (hdrain : c.drain = false) :
    d.afterRun slot = d.setChan slot { c with state := .active } := by
  simp only [Dev.afterRun, hc, hrunning, hdrain, reduceCtorEq, if_false, Bool.false_eq_true]

/-- What the end of a direct step shows of its channel. -/
structure Chan.Outcome (c : Chan) (st : Step) (code : Nat) (y : Chan) : Prop where
  step : y.step = none
  results : y.results = if code = Code.STOPPED ∨ code = Code.MODE_ABORT then [] else c.results ++ resultsOf st code
  last : y.last = outcomeWord st.tag code
  ok : y.ok = if code = 0 then satAdd 0xFFFF c.ok 1 else c.ok
  failed : y.failed = if code = 0 then c.failed else satAdd 0xFFFF c.failed 1
  deadlines : y.deadlines = if code = Code.DEADLINE then satAdd 0xFFFF c.deadlines 1 else c.deadlines

theorem Chan.scored_answered (c : Chan) (w : Word) (ok failed deadlines : Nat) (st : Step) (code : Nat) :
    let y := (c.scored w ok failed deadlines).answered st code
    y.state = c.state ∧ y.drain = c.drain ∧ y.step = none ∧
      y.results = (if code = Code.STOPPED ∨ code = Code.MODE_ABORT then [] else c.results ++ resultsOf st code) ∧ y.last = w ∧ y.ok = ok ∧
      y.failed = failed ∧ y.deadlines = deadlines := ⟨rfl, rfl, rfl, rfl, rfl, rfl, rfl, rfl⟩

theorem Chan.answered_spec (c : Chan) (st : Step) (code : Nat) : let y := (c.counted st.tag code).answered st code
    y.state = c.state ∧ y.drain = c.drain ∧ c.Outcome st code y := by
  obtain ⟨h1, h2, h3, h4, h5, h6, h7, h8⟩ := c.scored_answered (outcomeWord st.tag code) (if code = 0 then satAdd 0xFFFF c.ok 1 else c.ok)
    (if code = 0 then c.failed else satAdd 0xFFFF c.failed 1) (if code = Code.DEADLINE then satAdd 0xFFFF c.deadlines 1 else c.deadlines) st code
  exact ⟨h1, h2, h3, h4, h5, h6, h7, h8⟩

theorem Dev.directEnd_spec (hc : d.chan? slot = some c) (hevt : jpolEvt st.tag.jpol = false) (hrunning : c.state = .running) (hdrain : c.drain = false) :
    d.SameStores (d.directEnd slot c st code) ∧ ∃ y, (d.directEnd slot c st code).chan? slot = some y ∧ y.state = .active ∧ c.Outcome st code y := by
  obtain ⟨x4, hpart, he⟩ := Dev.directEnd_eq (d := d) (slot := slot) (c := c) (st := st) (code := code) hevt hrunning
  obtain ⟨g3, hist, h3⟩ := Dev.directAnswered_spec (st := st) (code := code) hc
  obtain ⟨hstate, hdr, hout⟩ := c.answered_spec st code
  rw [he]
  generalize d.directAnswered slot st code = x3 at *
  generalize (c.counted st.tag code).answered st code = y at *
  obtain ⟨s, h4⟩ := hpart.chan h3
  rw [Dev.afterRun_active h4 (hstate.trans hrunning) (hdr.trans hdrain)]
  exact ⟨(g3.trans (.of_radioPart hpart)).trans (.of_chanOnly (x4.setChan_chanOnly slot _)), _, x4.chan?_setChan slot _, rfl,
    hout.step, hout.results, hout.last, hout.ok, hout.failed, hout.deadlines⟩

end direct

/-! ### The obligation -/

section retried

variable {d : Dev} {slot : Nat} {c : Chan} {st : Step} {code : Nat} (hc : d.chan? slot = some c) (hst : c.step = some st) (hphase : st.phase = .ended code)

/-- The step of a retry, and that of a re-issue. -/
def Step.retried (st : Step) : Step := { st with tag := { st.tag with attempt := st.tag.attempt + 1 }, recover := false }

theorem Dev.retries_of (hretry : retryCode code = true) (hprot : code ≠ Code.HF_PROTOCOL_ERROR) (hwtx : code ≠ Code.HF_WTX_LIMIT)
    (hleft : st.tag.attempt < st.retries) (htime : st.uhf = true → uKind st.params = 0 → d.time < st.deadline) :
    st.cardLost code = false ∧ d.retries c st code = true := by
  have hcard : st.cardLost code = false := by simp [Step.cardLost, hprot, hwtx]
  refine ⟨hcard, ?_⟩
  have hlate : (st.uhf && decide (uKind st.params = 0) && decide (d.time ≥ st.deadline)) = false := by
    rw [Bool.eq_false_iff]
    simp only [ne_eq, Bool.and_eq_true, decide_eq_true_eq, not_and, not_le, ge_iff_le]
    exact fun h => htime h.1 h.2
  simp only [Dev.retries, hretry, hcard, hlate, hleft, Bool.not_false, Bool.true_or, Bool.and_self, decide_true]

end retried

/-- Settles O42: an attempt made again by `Dev.again_spec`, an outcome by `Dev.directEnd_spec`. -/
theorem attemptsEnd : Obligations.AttemptsEnd := by
  unfold Obligations.AttemptsEnd
  intro s slot c st code hrun hc hst hphase reissue retry fresh again
  refine ⟨fun hretry => ?_, fun hreissue => ?_, fun stop hre hstop => ?_, fun hno hre hidle hstate hdrain hcommit hevt hout => ?_⟩
  · obtain ⟨hstop, hcode, hprot, hwtx, hre, hleft, htime⟩ := hretry
    obtain ⟨hcard, hyes⟩ := Dev.retries_of (c := c) hcode hprot hwtx hleft htime
    have heq := Dev.attemptEnd_retried hc hst hphase hre hstop hyes hcard
    have honly := s.dev.onChan_chanOnly slot Chan.retried
    have hcan : ∀ ch, (s.dev.onChan slot Chan.retried).canRetryOn c st.retried.fresh ch = s.dev.canRetryOn c st.retried.fresh ch := fun ch => by
      rw [honly.rest]; rfl
    obtain ⟨e, he, hothers, hchan, hheld, hwait, hgo⟩ := Dev.again_spec honly (Dev.chan?_onChan (f := Chan.retried) hc) hcan
    refine completes_onLive (fun d => (d.attemptEnd slot).settle) hrun rfl ⟨e, he, hothers, hchan, fun ht => ?_, fun ht hch => ?_, fun ch ht hch hyes => ?_⟩
    · exact congrArg Dev.settle (heq.trans (hheld ht))
    · exact congrArg Dev.settle (heq.trans (hwait ht hch))
    · exact congrArg Dev.settle (heq.trans (hgo ch ht hch hyes))
  · obtain ⟨hre, hstop⟩ := hreissue
    have heq := Dev.attemptEnd_reissued hc hst hphase hre hstop
    obtain ⟨e, he, hothers, hchan, hheld, hwait, hgo⟩ := Dev.again_spec (c := c) (st := st) ⟨rfl, fun _ _ => rfl⟩ hc fun _ => rfl
    refine completes_onLive (fun d => (d.attemptEnd slot).settle) hrun rfl ⟨e, he, hothers, hchan, fun ht => ?_, fun ht hch => ?_, fun ch ht hch hyes => ?_⟩
    · exact congrArg Dev.settle (heq.trans (hheld ht))
    · exact congrArg Dev.settle (heq.trans (hwait ht hch))
    · exact congrArg Dev.settle (heq.trans (hgo ch ht hch hyes))
  · exact completes_onLive (fun d => (d.attemptEnd slot).settle) hrun rfl (congrArg Dev.settle (Dev.attemptEnd_stopped hc hst hphase hre hstop))
  · have hdone : s.dev.retries c st code = false := by
      obtain h | h := hno
      · simp [Dev.retries, h]
      · simp [Dev.retries, Nat.not_lt.2 h]
    have heq := Dev.attemptEnd_done hc hst hphase hre hdone
    obtain ⟨b, cv, hb, hbc, hdirect⟩ := Dev.stepDone_direct (code := code) hc hst hidle hcommit hout
    obtain ⟨hstores, y, hy, hactive, ho⟩ := Dev.directEnd_spec (st := st.reporting code) (code := code) hbc hevt hstate hdrain
    have hall := hb.trans hstores
    refine completes_onLive (fun d => (d.attemptEnd slot).settle) hrun rfl ⟨_, congrArg Dev.settle (heq.trans hdirect), hall.jrn, hall.cs, hall.vault,
      hall.tables, hall.time, y, hy, ho.step, hactive, ho.results, ho.last, ho.ok, ho.failed, ho.deadlines⟩

end Sys2Proof.Machine
end

section
/-!
PROOFS. Fields that go off and fields that come on: the chains left dark, and the step that the channel holds.
-/

namespace Sys2Proof.Machine

open Sys2Proof

-- one proof after another: the check bounds the memory that the stacks of parallel proofs take
set_option Elab.async false

/-! ### Chains left dark -/

/-- A chain whose field has gone off. -/
def HfChain.dark (c : HfChain) : HfChain := { c with
  port := none, owner := none, partner := none, master := true, phase := .idle, att := none, card := none, tx := []
  txBits := 0, txCrc := false, txPend := false, leaving := false, closing := false, pulse := false }

/-- No chain without a field gets one. -/
def Dev.Dims (d e : Dev) : Prop := ∀ n, d.hfOn n = false → e.hfOn n = false

namespace Dev.Dims

variable {d e x : Dev} {n : Nat}

theorem refl (d : Dev) : Dims d d := fun _ h => h

theorem trans (h : Dims d e) (g : Dims e x) : Dims d x := fun n hn => g n (h n hn)

theorem of_hf (h : Dims d e) (g : x.hf = e.hf) : Dims d x := h.trans fun n hn => by
  rw [Dev.hfOn, Dev.hfc, g]
  exact hn

theorem onHf (h : Dims d e) (k : Nat) {f : HfChain → HfChain} (hf : ∀ c, c.port = none → (f c).port = none := by exact fun _ h => h) :
    Dims d (e.onHf k f) := h.trans fun n hn => by
  have hport : (e.hfc n).port = none := by simpa [Dev.hfOn] using hn
  by_cases hlt : n < 4
  · by_cases hk : n = k
    · subst hk; simp [Dev.hfOn, Dev.hfc_onHf hlt, hf _ hport]
    · simp [Dev.hfOn, Dev.hfc_onHf_other hlt hk, hport]
  · have hlen : (e.onHf k f).hf.length = 4 := tableSet_length
    simp [Dev.hfOn, Dev.hfc, List.getD, List.getElem?_eq_none (Nat.le_trans (Nat.le_of_eq hlen) (Nat.not_lt.1 hlt))]

theorem setFld (h : Dims d e) (f : Fld) (v : Nat) : Dims d (e.setFld f v) := h.of_hf rfl

theorem setReg (h : Dims d e) (a : Nat) (v : Word) : Dims d (e.setReg a v) := h.of_hf rfl

theorem setFlag (h : Dims d e) (f : Fld) (v : Bool) : Dims d (e.setFlag f v) := h.of_hf rfl

theorem bump (h : Dims d e) (f : Fld) (k : Nat) : Dims d (e.bump f k) := h.of_hf rfl

theorem forEach {f : Dev → Nat → Dev} {l : List Nat} (h : Dims d e) (hf : ∀ y m, Dims d y → Dims d (f y m)) : Dims d (e.forEach l f) :=
  Dev.forEach_keeps (P := Dims d) h fun y m _ hy => hf y m hy

theorem ite {c : Prop} [Decidable c] {x y : Dev} (hx : Dims d x) (hy : Dims d y) : Dims d (if c then x else y) := by
  split
  · exact hx
  · exact hy

theorem hfApplyDrive (h : Dims d e) (n : Nat) : Dims d (e.hfApplyDrive n) := by
  unfold Dev.hfApplyDrive
  split
  · exact h
  next p hp => exact ((h.setFld _ _).setFld _ _).onHf n

theorem releaseDrives (h : Dims d e) : Dims d e.releaseDrives := h.forEach fun _ _ hy => .ite (hy.hfApplyDrive _) hy

theorem showTiers (h : Dims d e) : Dims d e.showTiers := h.forEach fun _ _ hy => hy.of_hf rfl

theorem staggerEnd (h : Dims d e) (n : Nat) : Dims d (e.staggerEnd n) := by
  unfold Dev.staggerEnd
  split
  · exact h
  · exact (h.onHf n).bump _ _

theorem initTracking (h : Dims d e) (n : Nat) : Dims d (e.initTracking n) := by
  have hput : Dims d (e.forEach (List.range 4) fun d m =>
      let put (d : Dev) (a b : Nat) : Dev :=
        d.onHf a fun c => { c with tracked := tableSet 4 ⟨0, 0⟩ c.tracked b ((d.storedK a b).getD ⟨0, 0⟩) }
      let d := put (put d n m) m n
      let d := d.setFld (F.HFCn_RESID_DRIFT n) (d.fld (F.HFCn_RESID_DRIFT n) &&& (15 - 2 ^ m))
      d.setFld (F.HFCn_RESID_DRIFT m) (d.fld (F.HFCn_RESID_DRIFT m) &&& (15 - 2 ^ n))) :=
    h.forEach fun _ _ hy => (((hy.onHf _).onHf _).setFld _ _).setFld _ _
  exact hput.forEach fun y m hy => hy.of_hf (congrArg Dev.hf (y.showTracked_frame m).1 :)

theorem hfOff1 (h : Dims d e) (n : Nat) : Dims d (e.hfOff1 n) := by
  unfold Dev.hfOff1
  split
  · exact h
  next p hp =>
    have hend : Dims d (e.endSessions p) := h.of_hf rfl
    have hdark := (hend.staggerEnd n).onHf n (f := HfChain.dark) fun _ _ => rfl
    exact (((((((hdark.setFlag _ _).setFlag _ _).setFlag _ _).setFlag _ _).setFlag _ _).setReg _ _).setReg _ _).initTracking n

theorem hfFieldOff (h : Dims d e) (n : Nat) : Dims d (e.hfFieldOff n) := by
  unfold Dev.hfFieldOff
  extract_lets m x
  have hx : Dims d x := h.hfOff1 n
  clear_value x m
  refine releaseDrives (showTiers ?_)
  split
  · exact hx.hfOff1 _
  · exact hx

theorem respare (h : Dims d e) : Dims d e.respare := by
  unfold Dev.respare
  extract_lets ok now want x
  have hx : Dims d x := h.forEach fun _ _ hy => hy.setFlag _ _
  clear_value x
  exact .ite (hx.setFlag _ _) hx

end Dev.Dims

theorem Dev.hfOff1_off (d : Dev) (n : Nat) : (d.hfOff1 n).hfOn n = false := by
  unfold Dev.hfOff1
  split
  next h => simp [Dev.hfOn, h]
  next p hp =>
    have hdark : (((d.endSessions p).staggerEnd n).onHf n HfChain.dark).hfOn n = false := by
      by_cases hlt : n < 4
      · rw [Dev.hfOn, Dev.hfc_onHf hlt]; rfl
      · have hlen : (((d.endSessions p).staggerEnd n).onHf n HfChain.dark).hf.length = 4 := tableSet_length
        simp [Dev.hfOn, Dev.hfc, List.getD, List.getElem?_eq_none (Nat.le_trans (Nat.le_of_eq hlen) (Nat.not_lt.1 hlt))]
    have hdims := Dev.Dims.refl (((d.endSessions p).staggerEnd n).onHf n HfChain.dark)
    exact (((((((hdims.setFlag _ _).setFlag _ _).setFlag _ _).setFlag _ _).setFlag _ _).setReg _ _).setReg _ _).initTracking n n hdark

/-- A field that goes off leaves its chain dark. -/
theorem Dev.hfFieldOff_off (d : Dev) (n : Nat) : (d.hfFieldOff n).hfOn n = false := by
  have hoff := d.hfOff1_off n
  unfold Dev.hfFieldOff
  extract_lets m x
  have hx : x.hfOn n = false := hoff
  clear_value x m
  split
  · exact ((((Dev.Dims.refl x).hfOff1 _).showTiers).releaseDrives) n hx
  · exact (((Dev.Dims.refl x).showTiers).releaseDrives) n hx


end Sys2Proof.Machine
end

section
/-!
PROOFS. The arbiter (R21, R305, R306, R338).
-/

namespace Sys2Proof.Machine

open Sys2Proof

-- one proof after another: the check bounds the memory that the stacks of parallel proofs take
set_option Elab.async false

/-! ### The step that a channel holds -/

/-- The channel of a slot holds a step, its wait counted. -/
def Dev.Holds (d : Dev) (slot : Nat) (u : Step) (w : Nat) : Prop := ∃ y, d.chan? slot = some y ∧ y.step = some u ∧ y.waitUs = w

namespace Dev.Holds

variable {d e : Dev} {slot w : Nat} {u : Step}

theorem of_chans (h : d.Holds slot u w) (hc : e.chans = d.chans) : e.Holds slot u w := by
  unfold Dev.Holds Dev.chan?
  rw [hc]
  exact h

theorem radioPart (h : d.Holds slot u w) (g : d.RadioPart e) : e.Holds slot u w := by
  obtain ⟨y, hy, hu, hw⟩ := h
  obtain ⟨s, hs⟩ := g.chan hy
  exact ⟨_, hs, hu, hw⟩

theorem onChan (h : d.Holds slot u w) (k : Nat) {f : Chan → Chan} (hf : ∀ c, (f c).step = c.step ∧ (f c).waitUs = c.waitUs) : (d.onChan k f).Holds slot u w := by
  obtain ⟨y, hy, hu, hw⟩ := h
  by_cases hk : slot = k
  · subst hk
    exact ⟨_, Dev.chan?_onChan hy, (hf y).1.trans hu, (hf y).2.trans hw⟩
  · exact ⟨y, (Dev.chan?_onChan_other hk).trans hy, hu, hw⟩

theorem portOnly {l : List Nat} (h : d.Holds slot u w) (g : d.PortOnly e l) : e.Holds slot u w := h.of_chans (congrArg Dev.chans g.1 :)

theorem triggerAccess (h : d.Holds slot u w) (p dir : Nat) : (d.triggerAccess p dir).Holds slot u w := by
  unfold Dev.triggerAccess
  split
  · exact h
  · obtain ⟨y, hy, hu, hw⟩ := h
    extract_lets upd
    have hupd : ∀ x, (upd x).1 = x.1 ∧ (upd x).2.step = x.2.step ∧ (upd x).2.waitUs = x.2.waitUs := fun x => by
      simp only [upd]
      split
      · exact ⟨rfl, rfl, rfl⟩
      · exact ⟨rfl, rfl, rfl⟩
    clear_value upd
    obtain ⟨z, hz, hzy⟩ := Option.map_eq_some_iff.1 hy
    have hfind : (d.chans.map upd).find? (·.1 == slot) = some (upd z) := by
      rw [List.find?_map]
      have hp : ((fun x : Nat × Chan => x.1 == slot) ∘ upd) = fun x => x.1 == slot := funext fun x => by simp [(hupd x).1]
      rw [hp, hz]
      rfl
    refine ⟨(upd z).2, by simp only [Dev.chan?, hfind, Option.map_some], ?_, ?_⟩
    · rw [(hupd z).2.1, hzy]; exact hu
    · rw [(hupd z).2.2, hzy]; exact hw

end Dev.Holds

theorem Dev.capture_chans (d : Dev) (n k : Nat) (b : Bool) : (d.capture n k b).chans = d.chans := by
  unfold Dev.capture
  split <;> split <;> rfl

theorem Dev.captureEvent_chans (d : Dev) (src : Nat) : (d.captureEvent src).chans = d.chans :=
  Dev.forEach_keeps (P := fun e => e.chans = d.chans) rfl fun y m _ hy => by
    split
    · exact (y.capture_chans _ _ _).trans hy
    · exact hy

theorem Dev.showTune_onlyRegs (d : Dev) (p phase : Nat) : d.HfPart (d.showTune p phase) := by
  unfold Dev.showTune
  extract_lets code x
  have hx : d.HfPart x := (Dev.HfPart.refl d).setFld _ _
  clear_value x
  split
  · exact hx.setFld _ _
  · exact hx.setFld _ _

/-- A field that comes on leaves the step that a channel holds. -/
theorem Dev.Holds.hfFieldOn {d : Dev} {slot w : Nat} {u : Step} (h : d.Holds slot u w) (n p : Nat) (o : Option Nat) (direct : Bool) (ma phase : Nat) :
    (d.hfFieldOn n p o direct ma phase).Holds slot u w := by
  have hconn : d.RadioPart (d.hfConnect n p o) := ((((Dev.RadioPart.refl d).onHf n fun c => { c with
    port := some p, owner := o, onAt := d.time, leaving := false }).setFlag _ _).setFld _ _).setFlag _ _ |>.setFld _ _
  unfold Dev.hfFieldOn
  extract_lets old g x y
  have hy : d.RadioPart y := (((hconn.onHf n fun c => { c with card := none, gain := g }).bump _ _).setFld _ _).setFld _ _
  clear_value x y
  have hz := ((hy.hfPart (y.showTune_onlyRegs p phase)).hfPart ((Dev.HfPart.refl _).hfApplyDrive n)).initTracking n
  have hport := (Dev.PortOnly.refl (((y.showTune p phase).hfApplyDrive n).initTracking n) (R.HOST_EVT_STAT :: tierRegs)).tierEvents (old := old)
    (List.mem_cons_self ..) (List.subset_cons_self ..)
  exact ((h.radioPart hz).portOnly hport).of_chans (Dev.captureEvent_chans _ _)

theorem Dev.sensePulse_chans (d : Dev) (p n : Nat) (m : Cplx) : (d.sensePulse p n m).1.chans = d.chans ∧ (d.sensePulse p n m).1.hf = d.hf := by
  unfold Dev.sensePulse
  extract_lets key
  split
  dsimp only
  split <;> split <;> exact ⟨rfl, rfl⟩

theorem Dev.ask_frame (d : Dev) (r : RecReq) : (d.ask r).chans = d.chans ∧ (d.ask r).hf = d.hf := by
  unfold Dev.ask
  split <;> exact ⟨rfl, rfl⟩

theorem Dev.triggerAccess_hf (d : Dev) (p dir : Nat) : (d.triggerAccess p dir).hf = d.hf := by
  unfold Dev.triggerAccess
  split <;> rfl

theorem Dev.onChan_hf (d : Dev) (slot : Nat) (f : Chan → Chan) : (d.onChan slot f).hf = d.hf := (congrArg Dev.hf (d.onChan_frame slot f) :)

/-! ### A PRESENCE run (R338) -/

/-- The step of a PRESENCE run that has a port. -/
def Step.sensing (st : Step) (n p : Nat) : Step := { st with tag := { st.tag with portch := portch false n false p }, chain := none, phase := .ended 0 }

/-- The state in which a PRESENCE run measures: its field on, the port's own field off. -/
def Dev.senseOn (d : Dev) (slot : Nat) (c : Chan) (st : Step) (p n ma phase : Nat) : Dev :=
  let b := d.setChan slot { c with
    step := some (st.sensing n p), run := c.run.map fun r => { r with port := some p }, waitUs := c.waitUs + (d.time - st.waitFrom) }
  let b := match b.hfChainOn p with
    | some h => b.hfFieldOff h
    | none => b
  ((b.hfFieldOff n).onHf n fun h => { h with pulse := true }).hfFieldOn n p (some slot) false ma phase

section presence

variable {d : Dev} {slot p n ma phase : Nat} {c : Chan} {st : Step} {mate : Option (Nat × Nat)}

theorem Dev.senseOn_holds : (d.senseOn slot c st p n ma phase).Holds slot (st.sensing n p) (c.waitUs + (d.time - st.waitFrom)) := by
  unfold Dev.senseOn
  extract_lets b b'
  have hb : b.Holds slot (st.sensing n p) (c.waitUs + (d.time - st.waitFrom)) := ⟨_, d.chan?_setChan slot _, rfl, rfl⟩
  have hb' : b'.Holds slot (st.sensing n p) (c.waitUs + (d.time - st.waitFrom)) := by
    simp only [b']
    clear_value b
    split
    · exact hb.radioPart ((Dev.RadioPart.refl b).hfFieldOff _)
    · exact hb
  clear_value b'
  exact (hb'.radioPart (((Dev.RadioPart.refl b').hfFieldOff n).onHf n _)).hfFieldOn _ _ _ _ _ _

/-- A PRESENCE run whose antenna passes the verdict measures, and leaves its chain dark; one whose antenna fails it keeps the field on. -/
theorem Dev.presenceRun_cases : let x := d.senseOn slot c st p n ma phase
    let e := d.presenceRun slot c st (p, n, mate) ma phase
    (x.hfVerdict n ma ≠ 0 → e = x.setStep slot { st.sensing n p with chain := some n, phase := .running, started := true }) ∧
    (x.hfVerdict n ma = 0 → e.hfOn n = false ∧ ∀ u w, x.Holds slot u w → e.Holds slot u w) := by
  intro x e
  have hx : x = d.senseOn slot c st p n ma phase := rfl
  have he : e = d.presenceRun slot c st (p, n, mate) ma phase := rfl
  clear_value e
  unfold Dev.presenceRun at he
  simp -zeta only [] at he
  extract_lets tag st' b b' on off meas before after w two more extra at he
  have hon : on = x := rfl
  have hst : st' = st.sensing n p := rfl
  clear_value on x st' more
  subst hon hst
  refine ⟨fun hv => he.trans (if_pos (by simpa using hv)), fun hv => ?_⟩
  replace he := he.trans (if_neg (by simp [hv]))
  have hoff : off.hfOn n = false := on.hfFieldOff_off n
  have hheld : ∀ u w, on.Holds slot u w → off.Holds slot u w := fun u w h => h.radioPart ((Dev.RadioPart.refl on).hfFieldOff n)
  clear_value off
  obtain ⟨hchans, hhf⟩ := off.sensePulse_chans p n meas
  have hextra : extra.hfOn n = false ∧ ∀ u w, on.Holds slot u w → extra.Holds slot u w := by
    refine ⟨((Dev.Dims.refl off).of_hf ((Dev.onChan_hf _ _ _).trans hhf)) n hoff, fun u w h => ?_⟩
    exact ((hheld u w h).of_chans hchans).onChan slot fun _ => ⟨rfl, rfl⟩
  clear_value extra
  obtain ⟨hdark, hholds⟩ := hextra
  split at he
  · rw [he]
    exact ⟨(Dev.Dims.refl extra).respare n hdark, fun u w h => (hholds u w h).radioPart (Dev.RadioPart.refl extra).respare⟩
  · extract_lets entry req asked at he
    have hasked : asked.chans = extra.chans ∧ asked.hf = extra.hf := extra.ask_frame _
    clear_value asked
    have hevent : asked.PortOnly (asked.presenceEvent entry) [R.HOST_EVT_STAT] := (Dev.PortOnly.refl asked _).event (List.mem_singleton.2 rfl)
    generalize asked.presenceEvent entry = y at *
    rw [he]
    refine ⟨?_, fun u w h => ?_⟩
    · exact ((Dev.Dims.refl extra).of_hf (((y.triggerAccess_hf _ _).trans (congrArg Dev.hf hevent.1 :)).trans hasked.2)).respare n hdark
    · exact (((((hholds u w h).of_chans hasked.1).portOnly hevent).triggerAccess _ _)).radioPart (Dev.RadioPart.refl _).respare

theorem Dev.presenceRun_faulty (hv : (d.senseOn slot c st p n ma phase).hfVerdict n ma ≠ 0) :
    let e := d.presenceRun slot c st (p, n, mate) ma phase
    e.hfOn n = true ∧ ∃ y u, e.chan? slot = some y ∧ y.step = some u ∧ u.phase = .running ∧ u.chain = some n ∧ u.tag.portch = portch false n false p := by
  intro e
  have he : e = _ := (Dev.presenceRun_cases (mate := mate)).1 hv
  clear_value e
  obtain ⟨y, hy, -⟩ := Dev.senseOn_holds (d := d) (slot := slot) (p := p) (n := n) (ma := ma) (phase := phase) (c := c) (st := st)
  generalize d.senseOn slot c st p n ma phase = x at *
  have hchan : e.chan? slot = some { y with step := some { st.sensing n p with chain := some n, phase := .running, started := true } } := by
    rw [he]; exact Dev.chan?_onChan hy
  refine ⟨?_, _, _, hchan, rfl, rfl, rfl, rfl⟩
  have hhf : e.hf = x.hf := by rw [he]; exact x.onChan_hf slot _
  rw [Dev.hfOn, Dev.hfc, hhf, ← Dev.hfc]
  by_contra hno
  refine hv ?_
  have hnone : (x.hfc n).port = none := by simpa using hno
  simp only [Dev.hfVerdict, hnone]

theorem Dev.presenceRun_measures (hv : (d.senseOn slot c st p n ma phase).hfVerdict n ma = 0) :
    let e := d.presenceRun slot c st (p, n, mate) ma phase
    e.hfOn n = false ∧ ∃ y u, e.chan? slot = some y ∧ y.step = some u ∧ u.phase = .ended 0 ∧ u.chain = none ∧
      u.tag.portch = portch false n false p ∧ y.waitUs = c.waitUs + (d.time - st.waitFrom) := by
  intro e
  obtain ⟨hdark, hholds⟩ := (Dev.presenceRun_cases (mate := mate)).2 hv
  obtain ⟨y, hy, hu, hw⟩ := hholds _ _ Dev.senseOn_holds
  exact ⟨hdark, y, _, hy, hu, rfl, rfl, rfl, hw⟩

end presence

/-! ### The grant (R21, R149, R260, R305, R306) -/

/-- The requests that have a place, with it. -/
def Dev.ready (d : Dev) : List ((Nat × Chan × Step) × Place) := d.waiting.filterMap fun y => match d.place? y.1 y.2.1 y.2.2 with
  | .ok pl => some (y, pl)
  | .error _ => none

theorem Dev.arbiterGrant_of_trans {d : Dev} {ma phase : Nat} (h : d.trans ≠ none) : d.arbiterGrant ma phase = d := by
  unfold Dev.arbiterGrant
  rw [if_pos]
  rw [Option.isSome_iff_ne_none.2 h]
  rfl

theorem Dev.ready_eq_nil {d : Dev} (h : ∀ y ∈ d.waiting, ∃ w, d.place? y.1 y.2.1 y.2.2 = .error w) : d.ready = [] := by
  rw [Dev.ready, List.filterMap_eq_nil_iff]
  intro y hy
  obtain ⟨w, hw⟩ := h y hy
  rw [hw]

section grant

variable {d : Dev} {ma phase slot p n : Nat} {c : Chan} {st : Step} {mate : Option (Nat × Nat)} (hrun : d.phase = .running) (htrans : d.trans = none)

include hrun htrans

theorem Dev.arbiterGrant_open : ¬(d.trans.isSome || !d.live) = true := by simp [htrans, Dev.live_of_running hrun]

theorem Dev.arbiterGrant_of_none (h : d.ready = []) : d.arbiterGrant ma phase = d := by
  unfold Dev.arbiterGrant
  rw [if_neg (Dev.arbiterGrant_open hrun htrans)]
  change (match firstBy (fun y : (Nat × Chan × Step) × Place => y.1.2.2.order y.1.1) d.ready with
    | none => d
    | some ((slot, c, st), pl) => _) = d
  rw [h]
  rfl

variable (hfirst : firstBy (fun y : (Nat × Chan × Step) × Place => y.1.2.2.order y.1.1) d.ready = some ((slot, c, st), (p, n, mate)))

include hfirst

/-- What the arbiter does with the request that comes first. -/
theorem Dev.arbiterGrant_first : d.arbiterGrant ma phase =
    if passed d.time st.deadline && decide (d.time ≥ st.deadline) then d.setPhase slot (.ended Code.DEADLINE)
    else if !st.uhf && !(p :: (mate.map (·.2)).toList).all d.hfPermitted then
      d.onChan slot fun x => { x with step := x.step.map fun s =>
        { s with tag := { s.tag with portch := d.portchFor c st p n mate }, phase := .ended Code.GOV_DENIED } }
    else if c.direct && !st.uhf && hfStepBad st.params (d.fld (F.HFCn_PROTO_PROTO n)) true then d.setPhase slot (.ended Code.CC_HF_STEP)
    else if c.kind == Kind.presence then d.presenceRun slot c st (p, n, mate) ma phase
    else d.grant slot c st (p, n, mate) ma phase := by
  unfold Dev.arbiterGrant
  rw [if_neg (Dev.arbiterGrant_open hrun htrans)]
  change (match firstBy (fun y : (Nat × Chan × Step) × Place => y.1.2.2.order y.1.1) d.ready with
    | none => d
    | some ((slot, c, st), pl) => _) = _
  rw [hfirst]

variable (hc : d.chan? slot = some c) (hst : c.step = some st)

include hc hst

theorem Dev.arbiterGrant_late (hlate : passed d.time st.deadline = true) (hdl : st.deadline ≤ d.time) :
    (d.arbiterGrant ma phase).chan? slot = some { c with step := some { st with phase := .ended Code.DEADLINE } } ∧ d.ChanOnly (d.arbiterGrant ma phase) slot := by
  rw [Dev.arbiterGrant_first hrun htrans hfirst, if_pos (by simp [hlate, hdl])]
  refine ⟨(Dev.chan?_onChan hc).trans ?_, d.onChan_chanOnly slot _⟩
  rw [hst]
  rfl

variable (hdl : d.time < st.deadline)

include hdl

theorem Dev.arbiterGrant_denied (hden : ¬(st.uhf = true ∨ (d.hfPermitted p = true ∧ ∀ q ∈ mate, d.hfPermitted q.2 = true))) :
    (d.arbiterGrant ma phase).chan? slot = some { c with step := some { st with
      tag := { st.tag with portch := d.portchFor c st p n mate }, phase := .ended Code.GOV_DENIED } } ∧ d.ChanOnly (d.arbiterGrant ma phase) slot := by
  have hno : (!st.uhf && !(p :: (mate.map (·.2)).toList).all d.hfPermitted) = true := by
    cases mate with
    | none => simpa using hden
    | some q => simpa only [List.all_cons, Option.map_some, Option.toList_some, List.all_nil, Bool.and_true, Bool.and_eq_true, Bool.not_eq_true', Option.mem_some_iff, forall_eq',
        not_or, not_and_or, Bool.and_eq_false_iff, Bool.not_eq_true] using hden
  rw [Dev.arbiterGrant_first hrun htrans hfirst, if_neg (by simp [hdl]), if_pos hno]
  refine ⟨(Dev.chan?_onChan hc).trans ?_, d.onChan_chanOnly slot _⟩
  rw [hst]
  rfl

variable (hperm : st.uhf = true ∨ (d.hfPermitted p = true ∧ ∀ q ∈ mate, d.hfPermitted q.2 = true))

include hperm

omit hc hst in
theorem Dev.arbiterGrant_permitted : d.arbiterGrant ma phase =
    if c.direct && !st.uhf && hfStepBad st.params (d.fld (F.HFCn_PROTO_PROTO n)) true then d.setPhase slot (.ended Code.CC_HF_STEP)
    else if c.kind == Kind.presence then d.presenceRun slot c st (p, n, mate) ma phase
    else d.grant slot c st (p, n, mate) ma phase := by
  have hyes : ¬(!st.uhf && !(p :: (mate.map (·.2)).toList).all d.hfPermitted) = true := by
    cases mate <;> simpa [not_and, Classical.or_iff_not_imp_left] using hperm
  rw [Dev.arbiterGrant_first hrun htrans hfirst, if_neg (by simp [hdl]), if_neg hyes]

theorem Dev.arbiterGrant_badStep (hbad : ¬(c.direct = true → st.uhf = false → hfStepBad st.params (d.fld (F.HFCn_PROTO_PROTO n)) true = false)) :
    (d.arbiterGrant ma phase).chan? slot = some { c with step := some { st with phase := .ended Code.CC_HF_STEP } } ∧
      d.ChanOnly (d.arbiterGrant ma phase) slot := by
  rw [Dev.arbiterGrant_permitted hrun htrans hfirst hdl hperm, if_pos (by simpa [and_assoc] using hbad)]
  refine ⟨(Dev.chan?_onChan hc).trans ?_, d.onChan_chanOnly slot _⟩
  rw [hst]
  rfl

end grant

/-- Settles O41: what the arbiter does with the first request, case by case. -/
theorem grants : Obligations.Grants := by
  unfold Obligations.Grants
  intro s ma phase hrun
  have hturn : ∀ e, s.dev.arbiterGrant ma phase = e → (s.dev.grantTurn ma phase).settle = (e.judgeFields s.dev ma).settle := fun e he => by rw [← he]; rfl
  have hends : ∀ {slot : Nat} {y : Chan}, ((s.dev.arbiterGrant ma phase).chan? slot = some y ∧ s.dev.ChanOnly (s.dev.arbiterGrant ma phase) slot) →
      completes (.arbiterGrant ma phase) s fun x => ∃ e : Dev, x = (e.judgeFields s.dev ma).settle ∧ e.chan? slot = some y ∧ s.dev.onlyChan e slot :=
    fun h => completes_onLive (fun d => (d.grantTurn ma phase).settle) hrun rfl ⟨_, rfl, h.1, h.2.rest, h.2.chans⟩
  refine ⟨fun htrans => ?_, fun htrans hnone => ?_, fun slot c st p n mate htrans hc hst hfirst => ?_⟩
  · exact completes_onLive (fun d => (d.grantTurn ma phase).settle) hrun rfl (hturn _ (Dev.arbiterGrant_of_trans htrans))
  · exact completes_onLive (fun d => (d.grantTurn ma phase).settle) hrun rfl (hturn _ (Dev.arbiterGrant_of_none hrun htrans (Dev.ready_eq_nil hnone)))
  intro permitted stepOk ends
  refine ⟨fun hlate hdl => hends (Dev.arbiterGrant_late hrun htrans hfirst hc hst hlate hdl), fun hdl hden => hends (Dev.arbiterGrant_denied hrun htrans hfirst hc hst hdl hden),
    fun hdl hperm hbad => hends (Dev.arbiterGrant_badStep hrun htrans hfirst hc hst hdl hperm hbad), fun hdl hperm hok hkind => ?_, fun hdl hperm huhf hkind => ?_⟩
  · have heq := Dev.arbiterGrant_permitted (ma := ma.val) (phase := phase.val) hrun htrans hfirst hdl hperm
    rw [if_neg (by simpa [stepOk] using hok), if_neg (by simpa using hkind)] at heq
    refine completes_onLive (fun d => (d.grantTurn ma phase).settle) hrun rfl ⟨_, hturn _ heq, ⟨rfl, fun k hk => Dev.chan?_setChan_other hk⟩, Dev.chan?_setChan ..⟩
  · have heq := Dev.arbiterGrant_permitted (ma := ma.val) (phase := phase.val) hrun htrans hfirst hdl hperm
    rw [if_neg (by simp [Chan.direct, hkind, Kind.presence, Kind.direct]), if_pos (by simp [hkind])] at heq
    intro b b' on
    refine ⟨fun hv => ?_, fun hv => ?_⟩
    · exact completes_onLive (fun d => (d.grantTurn ma phase).settle) hrun rfl ⟨_, hturn _ heq, Dev.presenceRun_measures hv⟩
    · exact completes_onLive (fun d => (d.grantTurn ma phase).settle) hrun rfl ⟨_, hturn _ heq, Dev.presenceRun_faulty hv⟩

end Sys2Proof.Machine
end

section
/-!
PROOFS. HF ports and chains at fault (R116 to R120): what a field that goes off leaves alone, and what the fault latches.
-/

namespace Sys2Proof.Machine

open Sys2Proof

-- one proof after another: the check bounds the memory that the stacks of parallel proofs take
set_option Elab.async false

/-! ### The fields of faults, which fields that go off leave alone -/

/-- A field that shows or counts HF faults: FAULT and LAST_CODE of a chain, FAULT, OPEN and SHORT of a port and its count, a latched chain in FLT_STAT. -/
def faultField (g : Fld) : Prop := g.hi < 32 ∧
  ((0x301 ≤ g.addr ∧ g.addr < 0x400 ∧ (g.addr % 16 = 3 ∨ (g.addr % 16 = 1 ∧ 28 < g.lo))) ∨ (g.addr = 0xF80 ∧ 25 < g.lo) ∨
    (0x200 ≤ g.addr ∧ g.addr < 0x300 ∧ g.addr % 64 = 1 ∧ ((g.lo = 18 ∧ g.hi = 18) ∨ g.lo = 24)))

theorem faultField_count {p : Nat} (hp : p < 16) : faultField (F.HFPn_CNT_FAULTS p) := by simp only [faultField, F.HFPn_CNT_FAULTS]; omega

theorem faultField_port {p : Nat} (hp : p < 16) {b : Nat} (hb : 28 < b ∧ b < 32) : faultField ⟨0x301 + 0x10 * p, b, b⟩ := by
  have ha : 0x301 ≤ 0x301 + 0x10 * p ∧ 0x301 + 0x10 * p < 0x400 ∧ (0x301 + 0x10 * p) % 16 = 1 := by omega
  exact ⟨hb.2, .inl ⟨ha.1, ha.2.1, .inr ⟨ha.2.2, hb.1⟩⟩⟩

theorem faultField_latched {n : Nat} (hn : n < 4) : faultField ⟨R.FLT_STAT, 28 + n, 28 + n⟩ :=
  ⟨by change 28 + n < 32; omega, .inr (.inl ⟨rfl, by change 25 < 28 + n; omega⟩)⟩

theorem faultField_fault {n : Nat} (hn : n < 4) : faultField (F.HFCn_STAT_FAULT n) :=
  have ha : 0x200 ≤ 0x201 + 0x40 * n ∧ 0x201 + 0x40 * n < 0x300 ∧ (0x201 + 0x40 * n) % 64 = 1 := by omega
  ⟨Nat.le_of_ble_eq_true rfl, .inr (.inr ⟨ha.1, ha.2.1, ha.2.2, .inl ⟨rfl, rfl⟩⟩)⟩

theorem faultField_lastCode {n : Nat} (hn : n < 4) : faultField (F.HFCn_STAT_LAST_CODE n) :=
  have ha : 0x200 ≤ 0x201 + 0x40 * n ∧ 0x201 + 0x40 * n < 0x300 ∧ (0x201 + 0x40 * n) % 64 = 1 := by omega
  ⟨Nat.le_of_ble_eq_true rfl, .inr (.inr ⟨ha.1, ha.2.1, ha.2.2, .inr rfl⟩)⟩

/-- The fields of faults and the codes latched stay. -/
structure Dev.KeepsFaults (d e : Dev) : Prop where
  fld : ∀ g : Fld, faultField g → e.fld g = d.fld g
  latched : ∀ n, n < 4 → (e.hfc n).latched = (d.hfc n).latched

namespace Dev.KeepsFaults

variable {d e x : Dev} {n : Nat}

theorem refl (d : Dev) : KeepsFaults d d := ⟨fun _ _ => rfl, fun _ _ => rfl⟩

theorem of_eq (h : KeepsFaults d e) (hr : x.regs = e.regs) (hh : x.hf = e.hf) : KeepsFaults d x where
  fld g hg := (show x.fld g = e.fld g by simp only [Dev.fld, hr]).trans (h.fld g hg)
  latched n hn := (show (x.hfc n).latched = (e.hfc n).latched by simp only [Dev.hfc, hh]).trans (h.latched n hn)

theorem setFld {f : Fld} {v : Nat} (h : KeepsFaults d e) (hf : ∀ g : Fld, faultField g → g.addr ≠ f.addr ∨ g.hi < f.lo ∨ f.hi < g.lo) :
    KeepsFaults d (e.setFld f v) := ⟨fun g hg => (Dev.fld_setFld_other (hf g hg) hg.1).trans (h.fld g hg), h.latched⟩

theorem setFlag {f : Fld} {b : Bool} (h : KeepsFaults d e) (hf : ∀ g : Fld, faultField g → g.addr ≠ f.addr ∨ g.hi < f.lo ∨ f.hi < g.lo) :
    KeepsFaults d (e.setFlag f b) := h.setFld hf

theorem bump {f : Fld} {k : Nat} (h : KeepsFaults d e) (hf : ∀ g : Fld, faultField g → g.addr ≠ f.addr ∨ g.hi < f.lo ∨ f.hi < g.lo) :
    KeepsFaults d (e.bump f k) := h.setFld hf

theorem setReg {a : Nat} {v : Word} (h : KeepsFaults d e) (ha : ∀ g : Fld, faultField g → g.addr ≠ a) : KeepsFaults d (e.setReg a v) :=
  ⟨fun g hg => (Dev.fld_eq_of_reg (Dev.reg_setReg_other (ha g hg))).trans (h.fld g hg), h.latched⟩

theorem onHf (h : KeepsFaults d e) (k : Nat) {f : HfChain → HfChain} (hf : ∀ c, (f c).latched = c.latched := by exact fun _ => rfl) :
    KeepsFaults d (e.onHf k f) where
  fld := h.fld
  latched n hn := by
    refine Eq.trans ?_ (h.latched n hn)
    by_cases hk : n = k
    · subst hk; rw [Dev.hfc_onHf hn, hf]
    · rw [Dev.hfc_onHf_other hn hk]

theorem forEach {f : Dev → Nat → Dev} {l : List Nat} (h : KeepsFaults d e) (hf : ∀ y, ∀ m ∈ l, KeepsFaults d y → KeepsFaults d (f y m)) :
    KeepsFaults d (e.forEach l f) := Dev.forEach_keeps (P := KeepsFaults d) h hf

theorem ite {c : Prop} [Decidable c] {x y : Dev} (hx : KeepsFaults d x) (hy : KeepsFaults d y) : KeepsFaults d (if c then x else y) := by
  split
  · exact hx
  · exact hy

theorem hfApplyDrive (h : KeepsFaults d e) (n : Nat) : KeepsFaults d (e.hfApplyDrive n) := by
  unfold Dev.hfApplyDrive
  split
  · exact h
  · refine ((h.setFld ?_).setFld ?_).onHf n
    · intro g hg; simp only [faultField, F.HFCn_POWER_OUT_MW] at hg ⊢; omega
    · intro g hg; simp only [faultField, F.HFCn_POWER_LIMIT_MW] at hg ⊢; omega

theorem releaseDrives (h : KeepsFaults d e) : KeepsFaults d e.releaseDrives := h.forEach fun _ _ _ hy => .ite (hy.hfApplyDrive _) hy

theorem showTiers (h : KeepsFaults d e) : KeepsFaults d e.showTiers := h.forEach fun _ _ _ hy => hy.setFld (by
  intro g hg; simp only [faultField, F.HFCn_STAT_TIER] at hg ⊢; omega)

theorem staggerEnd (h : KeepsFaults d e) (n : Nat) : KeepsFaults d (e.staggerEnd n) := by
  unfold Dev.staggerEnd
  split
  · exact h
  · exact (h.onHf n).bump (by intro g hg; simp only [faultField, F.HFCn_STAG_TIME_TIME] at hg ⊢; omega)

theorem showTracked (h : KeepsFaults d e) (n : Nat) : KeepsFaults d (e.showTracked n) := by
  refine h.forEach fun y m hm hy => (hy.setFld ?_).setFld ?_
  · intro g hg; have := List.mem_range.1 hm; simp only [faultField, F.HFCn_XKm_KI] at hg ⊢; omega
  · intro g hg; have := List.mem_range.1 hm; simp only [faultField, F.HFCn_XKm_KQ] at hg ⊢; omega

theorem initTracking (h : KeepsFaults d e) (n : Nat) : KeepsFaults d (e.initTracking n) := by
  have hdrift : ∀ m, ∀ g : Fld, faultField g → g.addr ≠ (F.HFCn_RESID_DRIFT m).addr ∨ g.hi < (F.HFCn_RESID_DRIFT m).lo ∨ (F.HFCn_RESID_DRIFT m).hi < g.lo := by
    intro m g hg; simp only [faultField, F.HFCn_RESID_DRIFT] at hg ⊢; omega
  exact (h.forEach fun _ _ _ hy => (((hy.onHf _).onHf _).setFld (hdrift _)).setFld (hdrift _)).forEach fun _ _ _ hy => hy.showTracked _

theorem hfOff1 (h : KeepsFaults d e) (n : Nat) : KeepsFaults d (e.hfOff1 n) := by
  unfold Dev.hfOff1
  split
  · exact h
  next p hp =>
    have hend : KeepsFaults d (e.endSessions p) := h.of_eq rfl rfl
    have hdark := (hend.staggerEnd n).onHf n (f := HfChain.dark) fun _ => rfl
    refine KeepsFaults.initTracking ?_ n
    refine (((((((hdark.setFlag ?_).setFlag ?_).setFlag ?_).setFlag ?_).setFlag ?_).setReg ?_).setReg ?_)
    · intro g hg; simp only [faultField, F.HFCn_STAT_FIELD_ON] at hg ⊢; omega
    · intro g hg; simp only [faultField, F.HFCn_STAT_MODULATING] at hg ⊢; omega
    · intro g hg; simp only [faultField, F.HFCn_STAT_RX_WINDOW] at hg ⊢; omega
    · intro g hg; simp only [faultField, F.HFCn_STAT_BONDED] at hg ⊢; omega
    · intro g hg; simp only [faultField, F.HFPn_STAT_ACTIVE] at hg ⊢; omega
    · intro g hg; simp only [faultField, R.HFCn_POWER] at hg ⊢; omega
    · intro g hg; simp only [faultField, R.HFCn_IANT] at hg ⊢; omega

theorem hfFieldOff (h : KeepsFaults d e) (n : Nat) : KeepsFaults d (e.hfFieldOff n) := by
  unfold Dev.hfFieldOff
  extract_lets m x
  have hx : KeepsFaults d x := h.hfOff1 n
  clear_value x m
  refine releaseDrives (showTiers ?_)
  split
  · exact hx.hfOff1 _
  · exact hx

theorem hfClose (h : KeepsFaults d e) (n : Nat) : KeepsFaults d (e.hfClose n) := by
  unfold Dev.hfClose
  refine releaseDrives (onHf (h.forEach fun y m _ hy => (hy.setFlag ?_).setFlag ?_) n)
  · intro g hg; simp only [faultField, F.HFCn_STAT_MODULATING] at hg ⊢; omega
  · intro g hg; simp only [faultField, F.HFCn_STAT_RX_WINDOW] at hg ⊢; omega

theorem hfAbort (h : KeepsFaults d e) (n : Nat) : KeepsFaults d (e.hfAbort n) := by
  unfold Dev.hfAbort
  split
  · exact h
  · exact (((h.forEach fun _ _ _ hy => hy.onHf _).hfClose n).staggerEnd n).onHf n

theorem respare (h : KeepsFaults d e) : KeepsFaults d e.respare := by
  unfold Dev.respare
  extract_lets ok now want x
  have hx : KeepsFaults d x := h.forEach fun _ _ _ hy => hy.setFlag (by intro g hg; simp only [faultField, F.HFCn_STAT_SPARE] at hg ⊢; omega)
  clear_value x
  exact .ite (hx.setFlag (by intro g hg; simp only [faultField, F.FLT_STAT_NO_SPARE] at hg ⊢; omega)) hx

theorem spareLost (h : KeepsFaults d e) : KeepsFaults d e.spareLost := by
  unfold Dev.spareLost
  exact .ite (h.respare.setFlag (by intro g hg; simp only [faultField, F.FLT_STAT_NO_SPARE] at hg ⊢; omega)) h.respare

theorem waitAgain (h : KeepsFaults d e) (slot : Nat) (st : Step) : KeepsFaults d (e.waitAgain slot st) := by
  unfold Dev.waitAgain
  exact h.of_eq ((congrArg Dev.regs (Dev.onChan_frame _ slot _) :)) (Dev.onChan_hf _ slot _)

end Dev.KeepsFaults

theorem Dev.RadioPart.spareLost {d e : Dev} (h : d.RadioPart e) : d.RadioPart e.spareLost := .ite (h.respare.setFlag _ _) h.respare

theorem Dev.Dims.spareLost {d e : Dev} (h : d.Dims e) : d.Dims e.spareLost := .ite (h.respare.setFlag _ _) h.respare

theorem Dev.hfChainOn_lt {d : Dev} {p n : Nat} (h : d.hfChainOn p = some n) : n < 4 := List.mem_range.1 (List.mem_of_find?_eq_some h)

/-- The step on a chain is held by a channel. -/
theorem Dev.chan?_of_stepOn {d : Dev} {ch slot : Nat} {c : Chan} {st : Step} (h : d.stepOn ch = some (slot, c, st)) : ∃ y, d.chan? slot = some y := by
  obtain ⟨x, hx, hslot⟩ := List.exists_of_findSome?_eq_some h
  have hmem : x.1 = slot := by
    split at hslot
    · dsimp only at hslot
      split at hslot
      · exact congrArg Prod.fst (Option.some.inj hslot)
      · exact nomatch hslot
    · exact nomatch hslot
  cases hfind : d.chans.find? (·.1 == slot) with
  | some y => exact ⟨y.2, by rw [Dev.chan?, hfind]; rfl⟩
  | none => exact absurd hmem (by simpa using List.find?_eq_none.1 hfind x hx)

/-! ### A port at fault (R116) -/

/-- A port's fault shown and counted. -/
def Dev.portFaulted (d : Dev) (p n code : Nat) : Dev :=
  let x := (d.setFlag (F.HFPn_STAT_FAULT p) true).setFlag (if code = Code.HF_PORT_OPEN then F.HFPn_STAT_OPEN p else F.HFPn_STAT_SHORT p) true
  (x.bump (F.HFPn_CNT_FAULTS p) 1).setFld (F.HFCn_STAT_LAST_CODE n) code

/-- The fault of a port stays through the choice of the spare. -/
theorem Dev.portFaulted_kept {d e : Dev} {p n code : Nat} (hp : p < 16) (hn : n < 4) (hcode : code < 256) (hk : (d.portFaulted p n code).KeepsFaults e) :
    e.flag (F.HFPn_STAT_FAULT p) = true ∧ e.fld (F.HFCn_STAT_LAST_CODE n) = code ∧
      e.flag (if code = Code.HF_PORT_OPEN then F.HFPn_STAT_OPEN p else F.HFPn_STAT_SHORT p) = true ∧
      e.fld (F.HFPn_CNT_FAULTS p) = satAdd (2 ^ ((F.HFPn_CNT_FAULTS p).hi + 1 - (F.HFPn_CNT_FAULTS p).lo) - 1) (d.fld (F.HFPn_CNT_FAULTS p)) 1 := by
  have hshow : ∃ b, 28 < b ∧ b < 31 ∧ (if code = Code.HF_PORT_OPEN then F.HFPn_STAT_OPEN p else F.HFPn_STAT_SHORT p) = ⟨0x301 + 0x10 * p, b, b⟩ := by
    split
    · exact ⟨30, by decide, by decide, rfl⟩
    · exact ⟨29, by decide, by decide, rfl⟩
  unfold Dev.portFaulted at hk
  obtain ⟨b, hlo, hhi, hb⟩ := hshow
  rw [hb] at hk ⊢
  refine ⟨(Dev.flag_eq_of_fld (hk.fld _ (faultField_port hp (by decide)))).trans ?_, (hk.fld _ (faultField_lastCode hn)).trans (Dev.fld_setFld_small (Nat.le_of_ble_eq_true rfl) hcode),
    (Dev.flag_eq_of_fld (hk.fld _ (faultField_port hp ⟨hlo, by omega⟩))).trans ?_, (hk.fld _ (faultField_count hp)).trans ?_⟩
  · rw [Dev.flag_setFld_other (.inl (by simp only [F.HFCn_STAT_LAST_CODE]; omega)) (Nat.le_of_ble_eq_true rfl),
      Dev.flag_eq_of_fld (Dev.fld_bump_other (.inl (by simp only [F.HFPn_CNT_FAULTS]; omega)) (Nat.le_of_ble_eq_true rfl)),
      Dev.flag_setFlag_other (.inr (.inr (by simp only; omega))) (Nat.le_of_ble_eq_true rfl)]
    exact Dev.flag_setFlag rfl (Nat.le_of_ble_eq_true rfl)
  · rw [Dev.flag_setFld_other (.inl (by simp only [F.HFCn_STAT_LAST_CODE]; omega)) (by simp only; omega),
      Dev.flag_eq_of_fld (Dev.fld_bump_other (.inl (by simp only [F.HFPn_CNT_FAULTS]; omega)) (by simp only; omega))]
    exact Dev.flag_setFlag rfl (by simp only; omega)
  · rw [Dev.fld_setFld_other (.inl (by simp only [F.HFCn_STAT_LAST_CODE, F.HFPn_CNT_FAULTS]; omega)) (Nat.le_of_ble_eq_true rfl), Dev.fld_bump (Nat.le_of_ble_eq_true rfl)]
    congr 1
    rw [Dev.fld_setFlag_other (.inl (by simp only [F.HFPn_CNT_FAULTS]; omega)) (Nat.le_of_ble_eq_true rfl),
      Dev.fld_setFlag_other (.inl (by simp only [F.HFPn_CNT_FAULTS, F.HFPn_STAT_FAULT]; omega)) (Nat.le_of_ble_eq_true rfl)]

theorem Dev.Dims.portFaulted {d e : Dev} (h : d.Dims e) (p n code : Nat) : d.Dims (e.portFaulted p n code) :=
  (((h.setFlag _ _).setFlag _ _).bump _ _).setFld _ _

theorem Dev.RadioPart.portFaulted {d e : Dev} (h : d.RadioPart e) (p n code : Nat) : d.RadioPart (e.portFaulted p n code) :=
  (((h.setFlag _ _).setFlag _ _).bump _ _).setFld _ _

/-- A step put in its channel, then the choice of the spare: the step stays, with the fields of faults and the dark chains. -/
theorem Dev.setStep_respare (d : Dev) {slot : Nat} {c : Chan} {st : Step} (hc : d.chan? slot = some c) :
    ((d.setStep slot st).respare.chan? slot).map (·.step) = some (some st) ∧ d.KeepsFaults (d.setStep slot st).respare ∧ d.Dims (d.setStep slot st).respare := by
  have hhf : (d.setStep slot st).hf = d.hf := d.onChan_hf slot _
  have hregs : (d.setStep slot st).regs = d.regs := (congrArg Dev.regs (d.onChan_frame slot _) :)
  have hchan : (d.setStep slot st).chan? slot = some { c with step := some st } := Dev.chan?_onChan hc
  generalize d.setStep slot st = x at *
  obtain ⟨σ, hσ⟩ := (Dev.RadioPart.refl x).respare.chan hchan
  exact ⟨by rw [hσ]; rfl, ((Dev.KeepsFaults.refl d).of_eq hregs hhf).respare, ((Dev.Dims.refl d).of_hf hhf).respare⟩

section portFault

variable {d : Dev} {p n code us : Nat} (hon : d.hfChainOn p = some n)

include hon

/-- A port at fault with no step on its chain. -/
theorem Dev.hfPortFault_untouched (hstep : d.stepOn n = none) : d.hfPortFault p code us =
    (((d.hfFieldOff n).portFaulted p n code).respare).faultDone code 1 (portch false n (d.hfc n).partner.isSome p) us .untouched false none := by
  simp only [Dev.hfPortFault, hon, hstep, Dev.portFaulted]

/-- A port at fault with a direct step on its chain: the step is not moved to another port. -/
theorem Dev.hfPortFault_direct {slot : Nat} {ch : Chan} {st : Step} (hstep : d.stepOn n = some (slot, ch, st)) (hdir : ch.direct = true) :
    d.hfPortFault p code us = (((((d.hfAbort (st.chain.getD n)).hfFieldOff n).portFaulted p n code).setStep slot
      { st with frames := [], phase := .ended Code.HF_PORT_UNAVAILABLE }).respare).faultDone code 1 (portch false n (d.hfc n).partner.isSome p) us .ended false
      (some (slot, ch, st)) := by
  simp only [Dev.hfPortFault, hon, hstep, Dev.portFaulted, hdir, Bool.true_or, if_true]

end portFault

/-! ### A driver at fault (R118) -/

/-- A chain latched with a code. -/
def Dev.chainLatched (d : Dev) (n code : Nat) : Dev :=
  let x := ((d.setFlag (F.HFCn_STAT_FAULT n) true).setFld (F.HFCn_STAT_LAST_CODE n) code).setFlag ⟨R.FLT_STAT, 28 + n, 28 + n⟩ true
  x.onHf n fun h => { h with latched := code }

theorem Dev.chainLatched_kept {d e : Dev} {n code : Nat} (hn : n < 4) (hcode : code < 256) (hk : (d.chainLatched n code).KeepsFaults e) :
    e.flag (F.HFCn_STAT_FAULT n) = true ∧ e.fld (F.HFCn_STAT_LAST_CODE n) = code ∧ e.flag ⟨R.FLT_STAT, 28 + n, 28 + n⟩ = true ∧ (e.hfc n).latched = code := by
  have happart : ∀ g : Fld, g.addr = 0x201 + 0x40 * n → g.addr ≠ (⟨R.FLT_STAT, 28 + n, 28 + n⟩ : Fld).addr := fun g hg => by
    simp only [hg, R.FLT_STAT]; omega
  refine ⟨(Dev.flag_eq_of_fld (hk.fld _ (faultField_fault hn))).trans ?_, (hk.fld _ (faultField_lastCode hn)).trans ?_,
    (Dev.flag_eq_of_fld (hk.fld _ (faultField_latched hn))).trans ?_, (hk.latched n hn).trans ?_⟩
  · change (((d.setFlag _ true).setFld _ code).setFlag _ true).flag _ = true
    rw [Dev.flag_setFlag_other (.inl (happart _ rfl)) (Nat.le_of_ble_eq_true rfl), Dev.flag_setFld_other (.inr (.inl (Nat.le_of_ble_eq_true rfl))) (Nat.le_of_ble_eq_true rfl)]
    exact Dev.flag_setFlag rfl (Nat.le_of_ble_eq_true rfl)
  · change (((d.setFlag _ true).setFld _ code).setFlag _ true).fld _ = code
    rw [Dev.fld_setFlag_other (.inl (happart _ rfl)) (Nat.le_of_ble_eq_true rfl)]
    exact Dev.fld_setFld_small (Nat.le_of_ble_eq_true rfl) hcode
  · exact Dev.flag_setFlag rfl (show 28 + n < 32 by omega)
  · exact congrArg HfChain.latched (Dev.hfc_onHf hn)

theorem Dev.RadioPart.chainLatched {d e : Dev} (h : d.RadioPart e) (n code : Nat) : d.RadioPart (e.chainLatched n code) := by
  unfold Dev.chainLatched
  exact (((h.setFlag _ _).setFld _ _).setFlag _ _).onHf _ _

section driverFault

variable {d : Dev} {n code us : Nat} (hrun : d.phase = .running) (hok : d.flag (F.HFCn_STAT_FAULT n) = false)

include hrun hok

theorem Dev.hfChainFault_untouched (hstep : d.stepOn n = none) : d.hfChainFault n code us =
    (((d.chainLatched n code).hfFieldOff n).spareLost).faultDone code 2 (portch false n (d.hfc n).partner.isSome ((d.hfc n).port.getD 0)) us .untouched false none := by
  simp only [Dev.hfChainFault, hok, Dev.live_of_running hrun, hstep, Dev.chainLatched, Bool.not_true, Bool.or_self, Bool.false_eq_true, if_false]

/-- A direct step on a chain at fault has no spare in LEDGER and SHARED (R119): it waits again. -/
theorem Dev.hfChainFault_waits {slot : Nat} {ch : Chan} {st : Step} (hstep : d.stepOn n = some (slot, ch, st)) (hdir : ch.direct = true)
    (hstrict : Mode.strict d.mode = true) : d.hfChainFault n code us =
      (((((d.chainLatched n code).hfAbort (st.chain.getD n)).hfFieldOff n).waitAgain slot st).spareLost).faultDone code 2
        (portch false n (d.hfc n).partner.isSome ((d.hfc n).port.getD 0)) us .waits false (some (slot, ch, st)) := by
  have hmode : (d.chainLatched n code).mode = d.mode := by
    have hchain : F.SUP_MODE_CUR.addr ≠ 0x201 + 0x40 * n := by simp only [F.SUP_MODE_CUR]; omega
    change (((d.setFlag _ true).setFld _ code).setFlag _ true).fld F.SUP_MODE_CUR = d.fld F.SUP_MODE_CUR
    rw [Dev.fld_setFlag_other (.inl (by decide : F.SUP_MODE_CUR.addr ≠ R.FLT_STAT)) (by decide), Dev.fld_setFld_other (.inl hchain) (by decide),
      Dev.fld_setFlag_other (.inl hchain) (by decide)]
  have hnone : (d.chainLatched n code).hfReplacement slot ch st n = none := by
    rw [Dev.hfReplacement, show (d.chainLatched n code).mode = d.mode from hmode, if_pos hstrict, if_pos hdir]
  have hlatched : ((((d.setFlag (F.HFCn_STAT_FAULT n) true).setFld (F.HFCn_STAT_LAST_CODE n) code).setFlag ⟨R.FLT_STAT, 28 + n, 28 + n⟩ true).onHf n
      fun h => { h with latched := code }) = d.chainLatched n code := rfl
  simp only [Dev.hfChainFault, hok, Dev.live_of_running hrun, hstep, Bool.not_true, Bool.or_self, Bool.false_eq_true, if_false, hlatched, hnone]

end driverFault

/-- A step that waits again with no transition in progress. -/
theorem Dev.waitAgain_chan {d : Dev} {slot : Nat} {c : Chan} {st : Step} (ht : d.trans = none) (hc : d.chan? slot = some c) :
    (d.waitAgain slot st).chan? slot = some { c with step := some { reissued st with waitFrom := d.time, phase := .waiting } } := by
  unfold Dev.waitAgain
  rw [ht]
  exact Dev.chan?_onChan hc

/-- Settles O51: which fields the faults of ports and chains latch, and what becomes of the step. -/
theorem hfFaults : Obligations.HfFaults := by
  unfold Obligations.HfFaults
  intro s us hrun
  have hport : ∀ (p : Fin 16) (code : Nat), code < 256 →
      (s.dev.hfChainOn p = none → s.dev.hfPortFault p code us = s.dev) ∧
      (∀ n, s.dev.hfChainOn p = some n → s.dev.stepOn n = none → ∃ e : Dev,
        s.dev.hfPortFault p code us = e.faultDone code 1 (portch false n (s.dev.hfc n).partner.isSome p) us .untouched false none ∧ e.hfOn n = false ∧
          e.flag (F.HFPn_STAT_FAULT p) = true ∧ e.fld (F.HFCn_STAT_LAST_CODE n) = code ∧
          e.flag (if code = Code.HF_PORT_OPEN then F.HFPn_STAT_OPEN p else F.HFPn_STAT_SHORT p) = true ∧
          e.fld (F.HFPn_CNT_FAULTS p) = satAdd (2 ^ ((F.HFPn_CNT_FAULTS p).hi + 1 - (F.HFPn_CNT_FAULTS p).lo) - 1) (s.dev.fld (F.HFPn_CNT_FAULTS p)) 1) ∧
      (∀ n slot ch st, s.dev.hfChainOn p = some n → s.dev.stepOn n = some (slot, ch, st) → ch.direct = true → ∃ e : Dev,
        s.dev.hfPortFault p code us = e.faultDone code 1 (portch false n (s.dev.hfc n).partner.isSome p) us .ended false (some (slot, ch, st)) ∧
          e.flag (F.HFPn_STAT_FAULT p) = true ∧ e.hfOn n = false ∧
          (e.chan? slot).map (·.step) = some (some { st with frames := [], phase := .ended Code.HF_PORT_UNAVAILABLE })) := by
    intro p code hcode
    refine ⟨fun hnone => ?_, fun n hon hstep => ?_, fun n slot ch st hon hstep hdir => ?_⟩
    · simp only [Dev.hfPortFault, hnone]
    · have hn := Dev.hfChainOn_lt hon
      obtain ⟨hfault, hcodes, hshow, hcount⟩ := Dev.portFaulted_kept (d := s.dev.hfFieldOff n) p.isLt hn hcode (Dev.KeepsFaults.refl _).respare
      exact ⟨_, Dev.hfPortFault_untouched hon hstep, ((Dev.Dims.refl _).portFaulted p n code).respare n (s.dev.hfFieldOff_off n), hfault, hcodes, hshow,
        hcount.trans (by rw [((Dev.KeepsFaults.refl s.dev).hfFieldOff n).fld _ (faultField_count p.isLt)])⟩
    · have hn := Dev.hfChainOn_lt hon
      have hoff := (s.dev.hfAbort (st.chain.getD n)).hfFieldOff_off n
      have hpart := ((((Dev.RadioPart.refl s.dev).hfPart ((Dev.HfPart.refl _).hfAbort (st.chain.getD n))).hfFieldOff n).portFaulted p n code)
      have hflag : ∀ e, (((s.dev.hfAbort (st.chain.getD n)).hfFieldOff n).portFaulted p n code).KeepsFaults e → e.flag (F.HFPn_STAT_FAULT p) = true :=
        fun e he => (Dev.portFaulted_kept p.isLt hn hcode he).1
      have hoff' : (((s.dev.hfAbort (st.chain.getD n)).hfFieldOff n).portFaulted p n code).hfOn n = false :=
        ((Dev.Dims.refl _).portFaulted p n code) n hoff
      obtain ⟨y, hy⟩ := Dev.chan?_of_stepOn hstep
      obtain ⟨σ, hσ⟩ := hpart.chan hy
      have heq := Dev.hfPortFault_direct (code := code) (us := us) hon hstep hdir
      clear hoff hpart
      generalize ((s.dev.hfAbort (st.chain.getD n)).hfFieldOff n).portFaulted p n code = x at *
      obtain ⟨hu, hk, hd⟩ := x.setStep_respare (st := { st with frames := [], phase := .ended Code.HF_PORT_UNAVAILABLE }) hσ
      exact ⟨_, heq, hflag _ hk, hd n hoff', hu⟩
  refine ⟨fun p c code hmem => ?_, fun n hf => ?_, fun n hf => ?_⟩
  · have hrow : code < 256 ∧ ∀ q : Dev → Prop, q (s.dev.hfPortFault p code us).settle → completes c s q := by
      rcases List.mem_cons.1 hmem with h | h
      · obtain ⟨rfl, rfl⟩ := Prod.mk.inj h
        exact ⟨by decide, fun q hq => completes_onLive (fun d => (d.hfPortFault p Code.HF_PORT_OPEN us).settle) hrun rfl hq⟩
      · obtain ⟨rfl, rfl⟩ := Prod.mk.inj (List.mem_singleton.1 h)
        exact ⟨by decide, fun q hq => completes_onLive (fun d => (d.hfPortFault p Code.HF_PORT_SHORT us).settle) hrun rfl hq⟩
    obtain ⟨hcode, hrow⟩ := hrow
    obtain ⟨hoff, hbare, hdirect⟩ := hport p code hcode
    refine ⟨fun hnone => hrow _ (congrArg Dev.settle (hoff hnone)), fun n hon hstep => hrow _ ?_, fun n slot ch st hon hstep hdir => hrow _ ?_⟩
    · obtain ⟨e, heq, hdark, hfault, hlast, hshow, hcount⟩ := hbare n hon hstep
      refine ⟨e, congrArg Dev.settle heq, hfault, hdark, hlast, fun hopen => ?_, fun hshort => ?_, hcount⟩
      · rwa [if_pos hopen] at hshow
      · rwa [if_neg (by rw [hshort]; decide)] at hshow
    · obtain ⟨e, heq, hspec⟩ := hdirect n slot ch st hon hstep hdir
      exact ⟨e, congrArg Dev.settle heq, hspec⟩
  · refine completes_onLive (fun d => (d.hfChainFault n Code.HF_DRIVER_FAULT us).settle) hrun rfl (congrArg Dev.settle ?_)
    rw [Dev.hfChainFault, hf, Bool.true_or, if_pos rfl]
  · intro pch latches
    have hlatch : ∀ e, (s.dev.chainLatched n Code.HF_DRIVER_FAULT).KeepsFaults e → e.hfOn n = false → latches e := fun e he hdark => by
      obtain ⟨hfault, hlast, hbit, hcode⟩ := Dev.chainLatched_kept n.isLt (by decide) he
      exact ⟨hfault, hlast, hbit, hcode, hdark⟩
    have hpart := (Dev.RadioPart.refl s.dev).chainLatched n Code.HF_DRIVER_FAULT
    refine ⟨fun hstep => ?_, fun slot ch st hstep hdir hstrict htrans => ?_⟩
    · have heq := Dev.hfChainFault_untouched (code := Code.HF_DRIVER_FAULT) (us := us) hrun hf hstep
      generalize s.dev.chainLatched n Code.HF_DRIVER_FAULT = x at *
      exact completes_onLive (fun d => (d.hfChainFault n Code.HF_DRIVER_FAULT us).settle) hrun rfl ⟨_, congrArg Dev.settle heq,
        hlatch _ ((Dev.KeepsFaults.refl x).hfFieldOff n).spareLost ((Dev.Dims.refl _).spareLost n (x.hfFieldOff_off n)), (hpart.hfFieldOff n).spareLost.slots⟩
    · have heq := Dev.hfChainFault_waits (code := Code.HF_DRIVER_FAULT) (us := us) hrun hf hstep hdir hstrict
      generalize s.dev.chainLatched n Code.HF_DRIVER_FAULT = x at *
      have hkept := ((Dev.KeepsFaults.refl x).hfAbort (st.chain.getD n)).hfFieldOff n
      have hdark := (x.hfAbort (st.chain.getD n)).hfFieldOff_off n
      have hpart' := (hpart.hfPart ((Dev.HfPart.refl _).hfAbort (st.chain.getD n))).hfFieldOff n
      generalize (x.hfAbort (st.chain.getD n)).hfFieldOff n = y at *
      obtain ⟨w, hw⟩ := Dev.chan?_of_stepOn hstep
      obtain ⟨σ, hσ⟩ := hpart'.chan hw
      have hrest : y.trans = none ∧ y.time = s.dev.time := ⟨(congrArg Dev.trans hpart'.rest :).trans htrans, (congrArg Dev.time hpart'.rest :)⟩
      have hdims : y.Dims (y.waitAgain slot st) := (Dev.Dims.refl y).of_hf (Dev.onChan_hf _ slot _)
      have hchan := Dev.waitAgain_chan (st := st) hrest.1 hσ
      rw [hrest.2] at hchan
      have hkept' := hkept.waitAgain slot st
      generalize y.waitAgain slot st = z at *
      obtain ⟨σ', hσ'⟩ := (Dev.RadioPart.refl z).spareLost.chan hchan
      exact completes_onLive (fun d => (d.hfChainFault n Code.HF_DRIVER_FAULT us).settle) hrun rfl ⟨_, congrArg Dev.settle heq,
        hlatch _ hkept'.spareLost (hdims.spareLost n hdark), by rw [hσ']; rfl⟩

end Sys2Proof.Machine
end

section
/-!
PROOFS. WATCH and its wakes (R271 to R282).
-/

namespace Sys2Proof.Machine

open Sys2Proof

-- one proof after another: the check bounds the memory that the stacks of parallel proofs take
set_option Elab.async false

/-! ### Wakes registered (R278, R279) -/

/-- The Attic as a first cause of a wake leaves it. -/
def Attic.woken (a : Attic) (cause target : Nat) (host : Bool) (wall : Nat) : Attic := { a with
  wakeCause := cause, wakeTarget := target, wakeFrom := a.count, wakeWall := wall, wakeHost := host, ports := a.ports.map fun p => { p with cand := none } }

/-- The WAKE pin wakes a device in WATCH. -/
theorem Dev.registerWake_host {d : Dev} (h : d.phase = .watch) : d.registerWake 16 =
    { (d.setFld F.SUP_MODE_REQ (d.fld F.WATCH_CTL_HOST_MODE)) with
      phase := .waking, attic := d.attic.woken 16 (d.fld F.WATCH_CTL_HOST_MODE) true (d.wallAt d.attic.count) } := by
  unfold Dev.registerWake
  rw [if_neg (by simp [h])]
  simp only [show bit 16 4 = true by decide, if_true, Dev.onAttic, Attic.woken, Nat.zero_or]
  rfl

/-- The wake timer wakes a device in WATCH. -/
theorem Dev.registerWake_timer {d : Dev} (h : d.phase = .watch) : d.registerWake 4 =
    { d with phase := .waking, attic := d.attic.woken 4 d.tables.wakeMode false (d.wallAt d.attic.count) } := by
  unfold Dev.registerWake
  rw [if_neg (by simp [h])]
  simp only [show bit 4 4 = false by decide, Bool.false_eq_true, if_false, Dev.onAttic, Attic.woken, Nat.zero_or]

/-- A later cause of a wake adds its bit. -/
theorem Dev.registerWake_later {d : Dev} (h : d.phase = .waking) (hlate : d.attic.wakeHost = true ∨ sameCycle d.attic.count d.attic.wakeFrom = false) :
    d.registerWake 16 = { d with attic := { d.attic with wakeCause := d.attic.wakeCause ||| 16 } } := by
  unfold Dev.registerWake
  rw [if_pos (by simp [h]), if_neg (by rcases hlate with h | h <;> simp [h])]
  rfl

/-- The WAKE pin in the cycle of the first cause fixes the target. -/
theorem Dev.registerWake_same {d : Dev} (h : d.phase = .waking) (hhost : d.attic.wakeHost = false) (hsame : sameCycle d.attic.count d.attic.wakeFrom = true) :
    d.registerWake 16 = { (d.setFld F.SUP_MODE_REQ (d.fld F.WATCH_CTL_HOST_MODE)) with
      attic := { d.attic with wakeCause := d.attic.wakeCause ||| 16, wakeHost := true, wakeTarget := d.fld F.WATCH_CTL_HOST_MODE } } := by
  unfold Dev.registerWake
  rw [if_pos (by simp [h]), if_pos (by simp [hhost, hsame]; decide)]
  rfl

/-- The Attic of a device in WATCH at a later instant: nothing else of it moves. -/
theorem Dev.tick_of_watch {d : Dev} (h : d.phase = .watch) (hup : d.attic.up = true) (us : Nat) :
    d.tick us = { d with attic := { d.attic with count := (d.attic.count + us) % 2 ^ 64 } } := by
  simp only [Dev.tick, h, hup]
  rfl

/-- The instant of the wake timer, at which WATCH ends. -/
theorem Dev.watchTimer_of_due {d : Dev} (h : d.phase = .watch) (hen : bit (d.fld F.WATCH_CTL_WAKE_EN) 2 = true)
    (hset : d.fld F.WATCH_TIMER_TIMER_S ≠ 0) :
    d.watchTimer = (d.tick (d.attic.entry + d.fld F.WATCH_TIMER_TIMER_S * 1000000 - d.attic.count)).registerWake 4 := by
  unfold Dev.watchTimer
  exact if_pos (by simp [h, hen, hset])

theorem Dev.registerWake_at {d : Dev} (h : d.phase = .watch) (hup : d.attic.up = true) {us n : Nat} (hn : (d.attic.count + us) % 2 ^ 64 = n) :
    (d.tick us).registerWake 4 =
      { d with phase := .waking, attic := { d.attic with count := n }.woken 4 d.tables.wakeMode false (d.wallAt n) } := by
  rw [Dev.registerWake_timer (by exact h), Dev.tick_of_watch h hup, hn]
  rfl

theorem Dev.watchTimer_wakes {d : Dev} (h : d.phase = .watch) (hup : d.attic.up = true) (hen : bit (d.fld F.WATCH_CTL_WAKE_EN) 2 = true)
    (hset : d.fld F.WATCH_TIMER_TIMER_S ≠ 0) {t : Nat} (ht : d.attic.entry + d.fld F.WATCH_TIMER_TIMER_S * 1000000 = t) (hdue : t < 2 ^ 64)
    (hcount : d.attic.count < 2 ^ 64) :
    ∃ n, t ≤ n ∧ d.watchTimer = { d with phase := .waking, attic := { d.attic with count := n }.woken 4 d.tables.wakeMode false (d.wallAt n) } := by
  refine ⟨(d.attic.count + (t - d.attic.count)) % 2 ^ 64, by omega, ?_⟩
  rw [Dev.watchTimer_of_due h hen hset, ht]
  exact Dev.registerWake_at h hup rfl

theorem Dev.watchTimer_of_off {d : Dev} (hoff : bit (d.fld F.WATCH_CTL_WAKE_EN) 2 = false ∨ d.fld F.WATCH_TIMER_TIMER_S = 0) : d.watchTimer = d := by
  unfold Dev.watchTimer
  exact if_neg (by rcases hoff with h | h <;> simp [h])

/-! ### The sequencer's ticks (R271 to R274) -/

/-- The Attic at the tick of the sequencer. -/
def Dev.atTick (d : Dev) : Dev := (d.tick (d.attic.entry + d.attic.tick * 50000 - d.attic.count)).onAttic fun a => { a with tick := d.attic.tick + 1 }

theorem Dev.atTick_of_watch {d : Dev} (h : d.phase = .watch) (hup : d.attic.up = true) :
    ∃ t, d.atTick = { d with attic := { d.attic with tick := d.attic.tick + 1, count := t } } := by
  refine ⟨(d.attic.count + (d.attic.entry + d.attic.tick * 50000 - d.attic.count)) % 2 ^ 64, ?_⟩
  unfold Dev.atTick
  rw [Dev.tick_of_watch h hup]
  rfl

/-- The turn of a port that measures while its pulses make no detection. -/
def Dev.pulsed (d : Dev) (p : Nat) (m : Cplx) : Dev := (d.sensePulse p d.attic.pulser m).1

/-- The ports of a tick, in order. -/
theorem Dev.watchTick_cases {d : Dev} {ms : List Cplx} (h : d.phase = .watch) (hup : d.attic.up = true) :
    let e := d.watchTick ms
    (d.pfail = true ∨ (List.range 16).filter (d.pulseDue d.attic.tick) = [] → e = d.atTick) ∧
    (∀ p m, d.pfail = false → (List.range 16).filter (d.pulseDue d.attic.tick) = [p] → ms = [m] →
      (d.atTick.sensePulse p d.atTick.attic.pulser m).2 = none → (d.atTick.pulsed p m).phase = .watch → e = d.atTick.pulsed p m) := by
  intro e
  have he : e = d.watchTick ms := rfl
  clear_value e
  obtain ⟨t, ht⟩ := Dev.atTick_of_watch h hup
  unfold Dev.watchTick at he
  replace he := he.trans (if_neg (by simp [h]))
  extract_lets tick a b due go last at he
  have hb : b = d.atTick := rfl
  have hdue : due = (List.range 16).filter (b.pulseDue d.attic.tick) := rfl
  have hlast : last = ((due.zip ms).foldl go (b, 0)).1 := rfl
  clear_value last b due
  subst hb
  have hsame : due = (List.range 16).filter (d.pulseDue d.attic.tick) := by rw [hdue, ht]; rfl
  have hfail : d.atTick.pfail = d.pfail := by rw [ht]
  have hphase : d.atTick.phase = .watch := by rw [ht]; exact h
  refine ⟨fun hidle => ?_, fun p m hpfail hone hms hnone hwatch => ?_⟩
  · rw [he, hfail]
    rcases hidle with hp | hnil
    · exact if_pos hp
    · rw [hlast, hsame, hnil]
      refine (if_congr Iff.rfl rfl ?_).trans (ite_self _)
      exact if_pos (by simp [hphase])
  · have hgo : (go (d.atTick, 0) (p, m)).1 = d.atTick.pulsed p m := by
      simp only [go, hphase, bne_self_eq_false, Bool.false_and, Bool.false_eq_true, if_false, Dev.pulsed, hnone]
    have hturn : last = d.atTick.pulsed p m := by rw [hlast, hsame, hone, hms]; exact hgo
    rw [he, hfail, if_neg (by simp [hpfail]), hturn]
    exact if_pos (by simp [hwatch])

/-! ### A port that learns (R272) -/

section learning

variable {d : Dev} {p : Nat} {m : Cplx} (hp : p < 16) (hbase : (d.sense p).base = none)

include hbase

/-- What a port that learns keeps of a measurement. -/
def Dev.learns (d : Dev) (p : Nat) (m : Cplx) : SensePort :=
  if (d.sense p).learn.length + 1 ≥ 4 then { base := some { d.senseKey p d.attic.pulser with value := meanOf ((d.sense p).learn ++ [m]) } }
  else { base := none, learn := (d.sense p).learn ++ [m] }

theorem Dev.sensePulse_learns : d.sensePulse p d.attic.pulser m =
    ((d.onAttic fun a => { a with ports := tableSet 16 {} a.ports p (d.learns p m) }).showBases, none) := by
  have hkeep : (d.sense p).keep (d.senseKey p d.attic.pulser) = d.sense p := by rw [SensePort.keep, hbase]
  have hpulse : (d.sense p).pulse (d.senseKey p d.attic.pulser) (d.fld F.WATCH_THR_APPROACH_THR) (d.fld F.WATCH_THR_REMOVAL_THR)
      (d.fld F.WATCH_CTL_TRACK_SHIFT) m = (d.learns p m, false, none) := by
    simp only [SensePort.pulse, hbase, Dev.learns, List.length_append, List.length_singleton]
    split <;> rfl
  unfold Dev.sensePulse
  simp only [hkeep, hpulse, Bool.false_eq_true, if_false, Option.isSome_none]

omit hbase in
include hp in
theorem Dev.sense_learnt (v : SensePort) (q : Nat) : (d.onAttic fun a => { a with ports := tableSet 16 {} a.ports p v }).showBases.sense q =
    if q = p then v else if q < 16 then d.sense q else {} := by
  change (tableSet 16 {} d.attic.ports p v).getD q {} = _
  by_cases hq : q = p
  · rw [if_pos hq, hq]; exact tableSet_getD_self hp
  · rw [if_neg hq]
    by_cases hlt : q < 16
    · rw [if_pos hlt]; exact tableSet_getD_other hlt hq
    · rw [if_neg hlt]
      have hlen : (tableSet 16 {} d.attic.ports p v).length = 16 := tableSet_length
      simp [List.getD, List.getElem?_eq_none (Nat.le_trans (Nat.le_of_eq hlen) (Nat.not_lt.1 hlt))]

end learning

/-- Settles O38: the wakes that the pin and the timer register, and the ticks that advance or learn. -/
theorem watchWakes : Obligations.WatchWakes := by
  unfold Obligations.WatchWakes
  intro s hup
  have hpin : ∀ {q : Dev → Prop}, (s.dev.phase = .watch ∨ s.dev.phase = .waking) → q (s.dev.registerWake 16) → completes .wake s q := fun {q} hph hq =>
    completes_onDev (fun d => if d.attic.up then d.wakePin else d) rfl (by rw [if_pos hup, Dev.wakePin, if_pos (by simpa using hph)]; exact hq)
  have htimer : ∀ {q : Dev → Prop}, q s.dev.watchTimer → completes .watchTimerWake s q := fun {q} hq =>
    completes_onDev (fun d => if d.attic.up then d.watchTimer else d) rfl (by rw [if_pos hup]; exact hq)
  have htick : ∀ {q : Dev → Prop} {ms}, q (s.dev.watchTick ms) → completes (.watchTick ms) s q := fun {q ms} hq =>
    completes_onDev (fun d => if d.attic.up then d.watchTick ms else d) rfl (by rw [if_pos hup]; exact hq)
  have hreq : ∀ v, (s.dev.setFld F.SUP_MODE_REQ v).fld F.SUP_MODE_REQ = v % 16 := fun v => Dev.fld_setFld (by decide)
  have hother : ∀ v a, a ∉ [R.SUP_MODE] → (s.dev.setFld F.SUP_MODE_REQ v).reg a = s.dev.reg a := fun v a ha =>
    Dev.reg_setFld_other fun h => ha (List.mem_singleton.2 h)
  refine ⟨fun h => hpin (.inl h) ?_, fun h hlate => hpin (.inr h) (Dev.registerWake_later h hlate), fun h hhost hsame => hpin (.inr h) ?_,
    fun h hen hset hdue hcount => htimer ?_, fun _ hoff => htimer (Dev.watchTimer_of_off hoff), fun ms h hidle => htick ?_, fun p m h hpfail hone hbase => htick ?_⟩
  · rw [Dev.registerWake_host h]
    exact ⟨rfl, hreq _, rfl, rfl, hother _⟩
  · rw [Dev.registerWake_same h hhost hsame]
    exact ⟨hreq _, rfl, rfl, hother _⟩
  · obtain ⟨n, hle, hwake⟩ := Dev.watchTimer_wakes h hup hen hset rfl hdue hcount
    rw [hwake]
    exact ⟨hle, rfl, rfl⟩
  · obtain ⟨t, ht⟩ := Dev.atTick_of_watch h hup
    rw [(Dev.watchTick_cases h hup).1 hidle, ht]
  · obtain ⟨t, ht⟩ := Dev.atTick_of_watch h hup
    have hbase' : (s.dev.atTick.sense p).base = none := by rw [ht]; exact hbase
    have hp : p < 16 := List.mem_range.1 (List.mem_of_mem_filter (by rw [hone]; exact List.mem_singleton.2 rfl))
    have hpulse := Dev.sensePulse_learns (m := m) hbase'
    have heq : s.dev.watchTick [m] = (s.dev.atTick.onAttic fun a => { a with ports := tableSet 16 {} a.ports p (s.dev.atTick.learns p m) }).showBases := by
      refine ((Dev.watchTick_cases h hup).2 p m hpfail hone rfl (congrArg Prod.snd hpulse :) ?_).trans (congrArg Prod.fst hpulse :)
      rw [Dev.pulsed, hpulse, ht]
      exact h
    have hsense := Dev.sense_learnt (d := s.dev.atTick) hp (s.dev.atTick.learns p m)
    have hlearns : s.dev.atTick.learns p m = s.dev.learns p m := by rw [ht]; rfl
    rw [heq]
    rw [hlearns] at hsense ⊢
    refine ⟨fun hlen => ?_, fun hlen => ?_, fun q hq hne => ?_, ?_, ?_, fun a ha => ?_⟩
    · rw [hsense, if_pos rfl, Dev.learns, if_neg (by omega)]
    · rw [hsense, if_pos rfl, Dev.learns, if_pos (by omega)]
    · rw [hsense, if_neg hne, if_pos hq, ht]
      rfl
    · rw [ht]; rfl
    · rw [ht]; rfl
    · rw [ht]; exact Dev.reg_setFld_other fun h => ha (List.mem_singleton.2 h)

end Sys2Proof.Machine
end

section
/-!
PROOFS. Mode requests and transitions (R68 to R70).
-/

namespace Sys2Proof.Machine

open Sys2Proof

-- one proof after another: the check bounds the memory that the stacks of parallel proofs take
set_option Elab.async false

/-! ### The memory port drained (R451) -/

/-- The queue of the memory port, the draws and registers: nothing else differs, and no draw is undone. -/
structure Dev.PortServed (d e : Dev) : Prop where
  rest : e = { d with regs := e.regs, memq := e.memq, freeCtr := e.freeCtr }
  draws : d.freeCtr ≤ e.freeCtr

namespace Dev.PortServed

variable {d e x : Dev}

theorem refl (d : Dev) : PortServed d d := ⟨rfl, Nat.le_refl _⟩

theorem trans (h : PortServed d e) (g : PortServed e x) : PortServed d x := ⟨by rw [g.rest, h.rest], Nat.le_trans h.draws g.draws⟩

theorem snoopChain (d : Dev) (c : List MemEntry) : PortServed d (d.snoopChain c) :=
  Dev.forEach_keeps (P := PortServed d) (refl d) fun y u _ hy => by
    dsimp only
    split
    · refine hy.trans ⟨?_, ?_⟩
      · rfl
      · exact Nat.le_add_right _ _
    · exact hy

theorem portTurn (d : Dev) : PortServed d d.portTurn := by
  unfold Dev.portTurn
  split
  split
  · exact refl d
  · refine trans ⟨?_, ?_⟩ (snoopChain _ _)
    · rfl
    · exact Nat.le_refl _

theorem portDrain (d : Dev) : PortServed d d.portDrain := Dev.forEach_keeps (P := PortServed d) (refl d) fun y _ _ hy => hy.trans (portTurn y)

end Dev.PortServed

/-! ### Radios off -/

theorem Dev.Dims.toOff {d e : Dev} (h : d.Dims e) (n : Nat) : d.Dims (e.toOff n) :=
  h.of_hf (congrArg Dev.hf (((Dev.CarrierOnly.refl e).rampDown1.coexIdle.toStandby).setUst (n := n) (v := Ust.off)).rest :)

theorem Dev.Dims.uhfDrop {d e : Dev} (h : d.Dims e) (n : Nat) : d.Dims (e.uhfDrop n) := by
  unfold Dev.uhfDrop
  extract_lets x y
  have hy : y.hf = e.hf := rfl
  clear_value y
  exact h.of_hf ((congrArg Dev.hf ((Dev.CarrierOnly.refl (y.setFld (F.UHFCn_STAT_ROLE n) 0)).toStandby).rest :).trans hy)

/-- Every HF chain is dark once the radios are off. -/
theorem Dev.radiosOff_off (d : Dev) {n : Nat} (hn : n < 4) : d.radiosOff.hfOn n = false := by
  have hall : ∀ (l : List Nat) (e : Dev), (n ∈ l ∨ e.hfOn n = false) → (e.forEach l fun d n => if d.hfOn n then d.hfFieldOff n else d).hfOn n = false := by
    intro l
    induction l with
    | nil => exact fun e h => h.resolve_left (List.not_mem_nil)
    | cons m l ih =>
      intro e h
      have hdims : e.Dims (if e.hfOn m then e.hfFieldOff m else e) := .ite ((Dev.Dims.refl e).hfFieldOff m) (Dev.Dims.refl e)
      refine ih _ ?_
      by_cases hl : n ∈ l
      · exact .inl hl
      refine .inr ?_
      by_cases hoff : e.hfOn n = false
      · exact hdims n hoff
      obtain rfl : n = m := (List.mem_cons.1 (h.resolve_right hoff)).resolve_right hl
      exact (congrArg (fun x : Dev => x.hfOn n) (if_pos (by simpa using hoff)) :).trans (e.hfFieldOff_off n)
  have hfields := hall (List.range 4) d (.inl (List.mem_range.2 hn))
  exact ((Dev.Dims.refl _).forEach fun _ _ hy => (hy.uhfDrop _).toOff _) n hfields

/-! ### Power down (R75) -/

/-- The Attic at the start of WATCH. -/
theorem Dev.powerDown_spec (d : Dev) : d.powerDown.phase = .watch ∧ d.powerDown.host.ring = [] ∧ d.powerDown.flt = [] ∧ d.powerDown.vault.drbgOk = false ∧
    (∀ k, k < 32 → d.powerDown.vault.slots.getD k none = none) ∧ (∀ n, n < 4 → d.powerDown.hfOn n = false) ∧ d.powerDown.strikes = [] ∧
    d.powerDown.attic.tick = 0 ∧ d.powerDown.attic.wakeCause = 0 ∧ d.powerDown.refout = false := by
  unfold Dev.powerDown
  have hoff : ∀ n, n < 4 → d.meshReseed.radiosOff.strikesOff.hfOn n = false := fun n hn => by
    have hkept : ∀ (l : List Strike) (e : Dev), (l.foldl (fun d (s : Strike) =>
        (d.setFlag ⟨R.GPIO_OUT, s.pin, s.pin⟩ (d.pinIdle s.pin)).setFlag ⟨R.GPIO_STRIKE, s.pin, s.pin⟩ false) e).hf = e.hf := by
      intro l
      induction l with
      | nil => exact fun _ => rfl
      | cons s l ih => exact fun e => ih _
    exact ((Dev.Dims.refl d.meshReseed.radiosOff).of_hf (hkept _ _)) n (d.meshReseed.radiosOff_off hn)
  have hstrikes : d.meshReseed.radiosOff.strikesOff.strikes = [] := rfl
  generalize d.meshReseed.radiosOff.strikesOff = y at *
  exact ⟨rfl, rfl, rfl, rfl, fun k hk => List.getD_replicate _ hk, hoff, hstrikes, rfl, rfl, rfl⟩

/-! ### Requests (R68, R69) -/

section request

variable {d : Dev} {req : Nat} {r : Refused} (hrun : d.phase = .running) (hbusy : d.flag F.SUP_MODE_BUSY = false) (hne : req ≠ d.mode) (hchecks : d.checks = [])

include hrun hbusy hne hchecks

theorem Dev.modeRequest_refused (hr : d.modeRefused req true = some r) : d.modeRequest req = d.modeRefuse r req 0 := by
  simp only [Dev.modeRequest, Dev.live_of_running hrun, hbusy, if_neg hne, Dev.drained_of_empty hchecks, hr, Bool.not_true, Bool.false_eq_true, if_false]

theorem Dev.modeRequest_accepted (hr : d.modeRefused req true = none) : d.modeRequest req = ((d.checkEnded 0).setFld F.SUP_MODE_REQ req).beginTransition req 0 := by
  simp only [Dev.modeRequest, Dev.live_of_running hrun, hbusy, if_neg hne, Dev.drained_of_empty hchecks, hr, Bool.not_true, Bool.false_eq_true, if_false]

end request

theorem Dev.modeEvent_frame (d : Dev) (source cur : Nat) :
    (∃ y, (d.modeEvent source cur).host.ring.getLast? = some y ∧ y.kind = 2 ∧ y.arg = source) ∧
      { d with host := (d.modeEvent source cur).host }.onlyRegs (d.modeEvent source cur) [R.HOST_EVT_STAT] := by
  unfold Dev.modeEvent
  obtain ⟨⟨y, hlast, hkind, harg, -⟩, hregs, -⟩ := d.event_frame 2 source 0 (beBytes 1 (d.fld F.SUP_MODE_PREV) ++ beBytes 1 cur ++
    beBytes 1 (d.fld F.SUP_MODE_CODE) ++ [0#8] ++ beBytes 2 (d.fld F.SUP_TRANS_TIME_TIME))
  exact ⟨⟨y, hlast, hkind, harg⟩, hregs⟩

/-- A request refused is shown, and the MODE event follows. -/
theorem Dev.modeRefuse_spec (d : Dev) (r : Refused) {req : Nat} (hreq : req < 16) (source : Nat) :
    let e := d.modeRefuse r req source
    e.mode = d.mode ∧ e.trans = d.trans ∧ e.fld F.SUP_MODE_REQ = req ∧ e.fld F.SUP_MODE_CODE = r.code % 256 ∧ e.fld F.SUP_CC_CODE = r.code % 256 ∧
      e.fld F.SUP_CC_SOURCE = 3 ∧ (e.host.ring.getLast?.map fun y => (y.kind, y.arg)) = some (2, source) ∧ e.chans = d.chans ∧ e.jrn = d.jrn ∧
      e.attic = d.attic ∧ e.time = d.time := by
  intro e
  have he : e = d.modeRefuse r req source := rfl
  clear_value e
  unfold Dev.modeRefuse at he
  extract_lets x at he
  have hx : x.mode = d.mode ∧ x.trans = d.trans ∧ x.fld F.SUP_CC_CODE = r.code % 256 ∧ x.fld F.SUP_CC_SOURCE = 3 ∧ x.chans = d.chans ∧ x.jrn = d.jrn ∧
      x.attic = d.attic ∧ x.time = d.time := by
    refine ⟨?_, rfl, ?_, ?_, rfl, rfl, rfl, rfl⟩
    · simp (disch := decide) only [x, Dev.mode, Dev.refuse, Dev.checkEnded, Dev.fld_setFld_other]
    · simp (disch := decide) only [x, Dev.refuse, Dev.fld_setFld_other, Dev.fld_setFld]
      rfl
    · simp (disch := decide) only [x, Dev.refuse, Dev.fld_setFld_other, Dev.fld_setFld]
      rfl
  clear_value x
  obtain ⟨hmode, htrans, hcc, hsource, hchans, hjrn, hattic, htime⟩ := hx
  obtain ⟨⟨y, hlast, hkind, harg⟩, hregs⟩ := ((x.setFld F.SUP_MODE_REQ req).setFld F.SUP_MODE_CODE r.code).modeEvent_frame source req
  rw [← he] at hlast hregs
  have hfld : ∀ g : Fld, g.addr ≠ R.HOST_EVT_STAT → e.fld g = ((x.setFld F.SUP_MODE_REQ req).setFld F.SUP_MODE_CODE r.code).fld g := fun g hg =>
    Dev.fld_eq_of_reg (hregs.2 _ fun h => hg (List.mem_singleton.1 h))
  refine ⟨(hfld F.SUP_MODE_CUR (by decide)).trans (Eq.trans ?_ hmode), (congrArg Dev.trans hregs.1 :).trans htrans, (hfld _ (by decide)).trans ?_, (hfld _ (by decide)).trans ?_,
    (hfld _ (by decide)).trans (Eq.trans ?_ hcc), (hfld _ (by decide)).trans (Eq.trans ?_ hsource), ?_, (congrArg Dev.chans hregs.1 :).trans hchans,
    (congrArg Dev.jrn hregs.1 :).trans hjrn, (congrArg Dev.attic hregs.1 :).trans hattic, (congrArg Dev.time hregs.1 :).trans htime⟩
  · simp (disch := decide) only [Dev.fld_setFld_other, Dev.mode]
  · simp (disch := decide) only [Dev.fld_setFld_other, Dev.fld_setFld]
    exact Nat.mod_eq_of_lt hreq
  · exact Dev.fld_setFld (by decide)
  · simp (disch := decide) only [Dev.fld_setFld_other]
  · simp (disch := decide) only [Dev.fld_setFld_other]
  · rw [hlast, Option.map_some, hkind, harg]

theorem Dev.yieldHf_of_no_chans {d : Dev} (h : d.chans = []) (mode n : Nat) : d.yieldHf mode n = d := by
  have hno : d.yields d.ownsHf = none := by rw [Dev.yields, h]; rfl
  cases n with
  | zero => rfl
  | succ n => rw [Dev.yieldHf, hno]; exact ite_self _

theorem Dev.yieldUhf_of_no_chans {d : Dev} (h : d.chans = []) (mode n : Nat) : d.yieldUhf mode n = d := by
  have hno : d.yields d.ownsUhf = none := by rw [Dev.yields, h]; rfl
  cases n with
  | zero => rfl
  | succ n => rw [Dev.yieldUhf, hno]; exact ite_self _

/-- A transition that finds no channel begins. -/
def Dev.transBegun (d : Dev) (target source : Nat) : Dev :=
  { d with trans := some ⟨target, source, d.time⟩, image := if d.mode = Mode.commission then none else d.image }.setFlag F.SUP_MODE_BUSY true

theorem Dev.beginTransition_of_no_chans {d : Dev} (h : d.chans = []) (target source : Nat) :
    d.beginTransition target source = (d.transBegun target source).settle := by
  have hchans : (d.transBegun target source).chans = [] := h
  unfold Dev.beginTransition
  change ((Dev.yieldHf (Dev.forEach (d.transBegun target source) ((d.transBegun target source).chans.map (·.1)) _) target 5).yieldUhf target 3).settle = _
  rw [hchans]
  change ((Dev.yieldHf (d.transBegun target source) target 5).yieldUhf target 3).settle = _
  rw [Dev.yieldHf_of_no_chans hchans, Dev.yieldUhf_of_no_chans hchans]

/-! ### Completion (R70) -/

/-- The mode entered, with its event. -/
theorem Dev.enterMode_spec (d : Dev) {target : Nat} (ht : target ≤ 5) (source start : Nat) :
    let e := d.enterMode target source start
    e.mode = target ∧ e.trans = none ∧ e.flag F.SUP_MODE_BUSY = false ∧ e.fld F.SUP_MODE_CODE = 0 ∧
      (e.host.ring.getLast?.map fun y => (y.kind, y.arg)) = some (2, source) := by
  intro e
  have he : e = d.enterMode target source start := rfl
  clear_value e
  unfold Dev.enterMode at he
  extract_lets src x y at he
  have hcur : x.fld F.SUP_MODE_CUR = target := Dev.fld_setFld_small (by decide) (Nat.lt_of_le_of_lt ht (by decide))
  have hnone : x.trans = none := rfl
  obtain ⟨v, hy⟩ : ∃ v, y = (x.setFld F.SUP_TRANS_TIME_TIME v).setFlag F.SUP_MODE_BUSY false := ⟨_, rfl⟩
  clear_value y x
  have hmode : (y.setFld F.SUP_MODE_CODE 0).fld F.SUP_MODE_CUR = target := by
    simp (disch := decide) only [hy, Dev.fld_setFlag_other, Dev.fld_setFld_other]
    exact hcur
  have hbusy : (y.setFld F.SUP_MODE_CODE 0).flag F.SUP_MODE_BUSY = false := by
    rw [Dev.flag_setFld_other (by decide) (by decide), hy]
    exact Dev.flag_setFlag rfl (by decide)
  have htrans : (y.setFld F.SUP_MODE_CODE 0).trans = none := by rw [hy]; exact hnone
  have hcode : (y.setFld F.SUP_MODE_CODE 0).fld F.SUP_MODE_CODE = 0 := Dev.fld_setFld_small (by decide) (by decide)
  generalize y.setFld F.SUP_MODE_CODE 0 = z at *
  obtain ⟨⟨w, hlast, hkind, harg⟩, hregs⟩ := z.modeEvent_frame source target
  rw [← he] at hlast hregs
  have hfld : ∀ g : Fld, g.addr ≠ R.HOST_EVT_STAT → e.fld g = z.fld g := fun g hg =>
    Dev.fld_eq_of_reg (hregs.2 _ fun h => hg (List.mem_singleton.1 h))
  exact ⟨(hfld _ (by decide)).trans hmode, (congrArg Dev.trans hregs.1 :).trans htrans, (Dev.flag_eq_of_fld (hfld _ (by decide))).trans hbusy,
    (hfld _ (by decide)).trans hcode, by rw [hlast, Option.map_some, hkind, harg]⟩

theorem Dev.enterMode_frame (d : Dev) (target source start : Nat) :
    let e := d.enterMode target source start
    e.fld F.SUP_MODE_REQ = d.fld F.SUP_MODE_REQ ∧ e.attic = d.attic ∧ e.time = d.time := by
  intro e
  have he : e = d.enterMode target source start := rfl
  clear_value e
  unfold Dev.enterMode at he
  extract_lets src x y at he
  have hx : x.fld F.SUP_MODE_REQ = d.fld F.SUP_MODE_REQ ∧ x.attic = d.attic ∧ x.time = d.time :=
    ⟨(Dev.fld_setFld_other (by decide) (by decide)).trans (Dev.fld_setFld_other (by decide) (by decide)), rfl, rfl⟩
  obtain ⟨v, hy⟩ : ∃ v, y = (x.setFld F.SUP_TRANS_TIME_TIME v).setFlag F.SUP_MODE_BUSY false := ⟨_, rfl⟩
  clear_value y x
  have hz : (y.setFld F.SUP_MODE_CODE 0).fld F.SUP_MODE_REQ = d.fld F.SUP_MODE_REQ ∧ (y.setFld F.SUP_MODE_CODE 0).attic = d.attic ∧
      (y.setFld F.SUP_MODE_CODE 0).time = d.time := by
    obtain ⟨hreq, hattic, htime⟩ := hx
    refine ⟨?_, by rw [hy]; exact hattic, by rw [hy]; exact htime⟩
    simp (disch := decide) only [hy, Dev.fld_setFlag_other, Dev.fld_setFld_other]
    exact hreq
  generalize y.setFld F.SUP_MODE_CODE 0 = z at *
  obtain ⟨-, hregs⟩ := z.modeEvent_frame source target
  rw [← he] at hregs
  exact ⟨(Dev.fld_eq_of_reg (hregs.2 _ (by decide))).trans hz.1, (congrArg Dev.attic hregs.1 :).trans hz.2.1, (congrArg Dev.time hregs.1 :).trans hz.2.2⟩

theorem Dev.transitionComplete_mode {d : Dev} {t : Trans} {us : Nat} {flush : BitVec 4} (hrun : d.phase = .running) (ht : d.trans = some t) :
    (t.target ≠ Mode.watch → ∃ y : Dev, d.transitionComplete us flush = (y.enterMode t.target t.source t.start).modeRecord.modeSettled) ∧
    (t.target = Mode.watch → ∃ y : Dev, d.transitionComplete us flush = y.powerDown) := by
  constructor
  · intro hmode
    simp only [Dev.transitionComplete, ht, Dev.live_of_running hrun, Bool.not_true, Bool.false_eq_true, if_false, if_neg hmode]
    exact ⟨_, rfl⟩
  · intro hmode
    simp only [Dev.transitionComplete, ht, Dev.live_of_running hrun, Bool.not_true, Bool.false_eq_true, if_false, if_pos hmode]
    exact ⟨_, rfl⟩

/-- Settles O36: what a mode request shows and starts, and how a transition ends. -/
theorem modeTransitions : Obligations.ModeTransitions := by
  unfold Obligations.ModeTransitions
  intro s hrun
  refine ⟨fun req r hbusy hne hchecks hr => ?_, fun req hbusy hne hchecks hchans hr => ?_, fun t us flush ht hle hmode => ?_, fun t us flush ht hmode => ?_⟩
  · refine completes_onDev (·.modeRequest req) rfl ?_
    rw [Dev.modeRequest_refused hrun hbusy hne hchecks hr]
    obtain ⟨hmode, htrans, hreq, hcode, hcc, hsource, hlast, hchans, hjrn, -⟩ := s.dev.modeRefuse_spec r req.isLt 0
    refine ⟨hmode, htrans, hreq, hcode, hcc, hsource, ?_, hchans, hjrn⟩
    simpa using congrArg (Option.map Prod.fst) hlast
  · have heq := Dev.modeRequest_accepted hrun hbusy hne hchecks hr
    rw [Dev.beginTransition_of_no_chans (d := (s.dev.checkEnded 0).setFld F.SUP_MODE_REQ req) hchans req 0] at heq
    refine completes_onDev (·.modeRequest req) rfl ⟨_, heq, ?_⟩
    have hmode : ((s.dev.checkEnded 0).setFld F.SUP_MODE_REQ req).mode = s.dev.mode := by
      simp (disch := decide) only [Dev.mode, Dev.checkEnded, Dev.fld_setFld_other]
    refine ⟨rfl, Dev.flag_setFlag rfl (by decide), ?_, ?_, ?_, fun a ha => ?_⟩
    · refine (Dev.fld_setFlag_other (by decide) (by decide)).trans ?_
      exact Dev.fld_setFld_small (by decide) req.isLt
    · exact (Dev.fld_setFlag_other (by decide) (by decide)).trans hmode
    · rw [Dev.transBegun, hmode]
      rfl
    · have hcheck : a ≠ R.SUP_CHECK := fun h => ha (by simp [h])
      have hsup : a ≠ R.SUP_MODE := fun h => ha (by simp [h])
      refine (Dev.reg_setFld_other hsup).trans ?_
      exact (Dev.reg_setFld_other hsup).trans ((Dev.reg_setFld_other hcheck).trans (Dev.reg_setFld_other hcheck))
  · obtain ⟨y, hy⟩ := (Dev.transitionComplete_mode (us := us) (flush := flush) hrun ht).1 hmode
    exact completes_onDev (fun d => (d.transitionComplete us flush).portDrain) rfl ⟨_, congrArg Dev.portDrain hy, y.enterMode_spec hle t.source t.start⟩
  · obtain ⟨y, hy⟩ := (Dev.transitionComplete_mode (us := us) (flush := flush) hrun ht).2 hmode
    refine completes_onDev (fun d => (d.transitionComplete us flush).portDrain) rfl ?_
    have hserved : (s.dev.transitionComplete us flush).PortServed (s.dev.transitionComplete us flush).portDrain := .portDrain _
    rw [hy] at hserved
    have hspec := y.powerDown_spec
    simp only [hy]
    generalize y.powerDown = z at *
    generalize z.portDrain = x at *
    rw [hserved.rest]
    exact hspec

end Sys2Proof.Machine
end

section
/-!
PROOFS. The end of a wake (R75, R280).
-/

namespace Sys2Proof.Machine

open Sys2Proof

-- one proof after another: the check bounds the memory that the stacks of parallel proofs take
set_option Elab.async false

/-- The target of a wake entered, or COMMISSION in its place. -/
def Dev.wakeEntered (d : Dev) (a : Attic) : Dev :=
  match d.modeRefused a.wakeTarget a.wakeHost with
  | none => ((d.checkEnded 0).setFld F.SUP_MODE_REQ a.wakeTarget).enterMode a.wakeTarget 2 a.wakeFrom
  | some r => (((d.setFld F.SUP_MODE_PREV d.mode).setFld F.SUP_MODE_CUR Mode.commission).setFld F.SUP_TRANS_TIME_TIME
      (min 0xFFFF (d.time - a.wakeFrom))).modeRefuse r a.wakeTarget 2

/-- The cause and the target of a wake shown. -/
def Dev.wakeShown (d : Dev) (target : Nat) : Dev := (d.setFld F.WATCH_WAKE_CAUSE d.attic.wakeCause).setFld F.WATCH_WAKE_TARGET target

/-- What follows the entry: the records, the presence log and its triggers. -/
def Dev.wakeReported (d e : Dev) (fu : Fuses) (a : Attic) : Dev :=
  ((d.attic.log.foldl (fun d y => d.triggerAccess y.port y.dir)
    ((e.tamperRecord fu).wakeRecords e.attic.wakeCause a.wakeTarget e.mode a.wakeWall)).onAttic fun a => { a with wakeCause := 0 }).modeSettled

theorem Dev.wakeComplete_eq {d up : Dev} {fu : Fuses} {keys : Bytes} {us : Nat} (h : d.phase = .waking)
    (hup : (d.tick (d.attic.wakeFrom + us - d.attic.count)).powerUp fu keys = up) : d.wakeComplete fu keys us =
      (up.wakeShown d.attic.wakeTarget).wakeReported ((up.wakeShown d.attic.wakeTarget).wakeEntered d.attic) fu d.attic := by
  obtain ⟨e, he⟩ : ∃ e, e = d.wakeComplete fu keys us := ⟨_, rfl⟩
  rw [← he]
  unfold Dev.wakeComplete at he
  replace he := he.trans (if_neg (by simp [h]))
  extract_lets a t die log target x old took c y z w v at he
  have hdie : die = up := hup
  clear_value die
  subst hdie
  have hx : x = die.wakeShown d.attic.wakeTarget := rfl
  have hlog : log = x.attic.log := rfl
  have hold : old = x.mode := rfl
  have htook : took = min 0xFFFF (x.time - d.attic.wakeFrom) := rfl
  clear_value log x took old
  have hy : y = x.wakeEntered d.attic := by
    unfold Dev.wakeEntered
    rw [← htook, ← hold]
      <;> rfl
  clear_value y
  rw [he, ← hx, ← hy, Dev.wakeReported, ← hlog]

theorem Dev.wakeEntered_spec (d : Dev) {a : Attic} (ha : a.wakeTarget ≤ 5) :
    let e := d.wakeEntered a
    (d.modeRefused a.wakeTarget a.wakeHost = none → e.mode = a.wakeTarget ∧ e.fld F.SUP_MODE_REQ = a.wakeTarget ∧ e.fld F.SUP_MODE_CODE = 0) ∧
      (∀ r, d.modeRefused a.wakeTarget a.wakeHost = some r → e.mode = Mode.commission ∧ e.fld F.SUP_MODE_CODE = r.code % 256) ∧
      (e.host.ring.getLast?.map fun y => (y.kind, y.arg)) = some (2, 2) ∧ e.attic = d.attic ∧ e.time = d.time := by
  intro e
  have he : e = d.wakeEntered a := rfl
  clear_value e
  unfold Dev.wakeEntered at he
  have hlt : a.wakeTarget < 16 := by omega
  cases hr : d.modeRefused a.wakeTarget a.wakeHost with
  | none =>
    simp only [hr] at he
    obtain ⟨hmode, -, -, hcode, hlast⟩ := ((d.checkEnded 0).setFld F.SUP_MODE_REQ a.wakeTarget).enterMode_spec ha 2 a.wakeFrom
    obtain ⟨hreq, hattic, htime⟩ := ((d.checkEnded 0).setFld F.SUP_MODE_REQ a.wakeTarget).enterMode_frame a.wakeTarget 2 a.wakeFrom
    rw [he]
    exact ⟨fun _ => ⟨hmode, hreq.trans (Dev.fld_setFld_small (by decide) hlt), hcode⟩, nofun, hlast, hattic, htime⟩
  | some r =>
    simp only [hr] at he
    generalize min 0xFFFF (d.time - a.wakeFrom) = took at he
    have hcur : (((d.setFld F.SUP_MODE_PREV d.mode).setFld F.SUP_MODE_CUR Mode.commission).setFld F.SUP_TRANS_TIME_TIME took).mode = Mode.commission := by
      rw [Dev.mode, Dev.fld_setFld_other (by decide) (by decide)]
      exact Dev.fld_setFld_small (by decide) (by decide)
    obtain ⟨hmode, -, -, hcode, -, -, hlast, -, -, hattic, htime⟩ := Dev.modeRefuse_spec
      (((d.setFld F.SUP_MODE_PREV d.mode).setFld F.SUP_MODE_CUR Mode.commission).setFld F.SUP_TRANS_TIME_TIME took) r hlt 2
    rw [he]
    refine ⟨nofun, fun r' hr' => ?_, hlast, hattic, htime⟩
    obtain rfl := Option.some.inj hr'
    exact ⟨hmode.trans hcur, hcode⟩

/-- Settles O37: what a wake enters and reports. -/
theorem wakeCompletes : Obligations.WakeCompletes := by
  unfold Obligations.WakeCompletes
  intro s us hwaking hle
  refine completes_onDev (fun d => if d.phase == .waking then
      ((d.wakeComplete s.fuses ((d.inUse.map fun k => sectionBody s.nor k 0x08).getD []) us).memWork 4 (chainNorRead 256)).portDrain
    else (d.wakeComplete s.fuses ((d.inUse.map fun k => sectionBody s.nor k 0x08).getD []) us).portDrain) rfl ?_
  intro a keys up d
  have hup : (s.dev.tick (s.dev.attic.wakeFrom + us - s.dev.attic.count)).powerUp s.fuses ((s.dev.inUse.map fun k => sectionBody s.nor k 0x08).getD []) = up := rfl
  rw [if_pos (by simp [hwaking]), Dev.wakeComplete_eq hwaking hup]
  clear_value up
  have hd : up.wakeShown s.dev.attic.wakeTarget = d := rfl
  rw [hd]
  clear_value d
  exact ⟨d.wakeEntered s.dev.attic, rfl, d.wakeEntered_spec hle⟩

end Sys2Proof.Machine
end

section
/-!
PROOFS. The causes that restart the device (R42, R365, R425, R478, R488).
-/

namespace Sys2Proof.Machine

open Sys2Proof

-- one proof after another: the check bounds the memory that the stacks of parallel proofs take
set_option Elab.async false

/-! ### A command of the device answered -/

/-- The answer of a command of the device changes the history, the event ring and the count of events dropped. -/
theorem Dev.cmdDone_onlyCmd {d : Dev} {c : Cmd} (hown : c.handle = 0) (code : Nat) (result : Bytes) : d.onlyCmd (d.cmdDone c code result) [] := by
  unfold Dev.cmdDone Dev.reqDone
  split
  next y _ =>
    rw [hown]
    obtain ⟨-, hregs, hhost⟩ := Dev.event_frame (d.onHistory 0 (·.onEntry c.reqId fun e => { e with
      st := .done, outcome := code, retries := 0, result := result.take 56 })) 3 0 0 (beBytes 2 c.reqId ++ beBytes 1 y.cmd ++ beBytes 1 code ++ beBytes 1 0)
    generalize Dev.event _ 3 0 0 _ = x at *
    refine ⟨?_, fun a ha => hregs.2 a fun h => ha (List.mem_cons.2 (.inl (List.mem_singleton.1 h)))⟩
    have hrest := hregs.1
    rw [hhost] at hrest
    exact hrest.trans (by rw [hhost]; rfl)
  · exact ⟨rfl, fun _ _ => rfl⟩

/-! ### The fault that forced a restart (R478, R488) -/

theorem Dev.fltBoot_spec (d : Dev) (code cls : Nat) : let e := d.fltBoot code cls
    e.csw 0x30 = (code * 2 ^ 24 + cls * 2 ^ 20 + 1) % 2 ^ 32 ∧ e.csw 0x31 = d.wall / 2 ^ 32 % 2 ^ 32 ∧ e.csw 0x32 = d.wall % 2 ^ 32 ∧ e = { d with cs := e.cs } := by
  intro e
  have he : e = ((d.setCs 0x30 (code * 2 ^ 24 + cls * 2 ^ 20 + 1)).setCs 0x31 (d.wall / 2 ^ 32)).setCs 0x32 (d.wall % 2 ^ 32) := rfl
  clear_value e
  generalize code * 2 ^ 24 + cls * 2 ^ 20 + 1 = w at *
  rw [he]
  refine ⟨?_, ?_, ?_, rfl⟩
  · rw [Dev.csw_setCs_other (by decide), Dev.csw_setCs_other (by decide), Dev.csw_setCs]
  · rw [Dev.csw_setCs_other (by decide), Dev.csw_setCs]
  · rw [Dev.csw_setCs, Nat.mod_mod]

/-! ### An instant reached while the core runs -/

theorem Dev.reach_le {d : Dev} (h : d.phase = .flushed ∨ d.phase = .booting) {t : Nat} (ht : t < 2 ^ 64) (hd : d.time < 2 ^ 64) : t ≤ (d.reach t).time := by
  have heq : (d.reach t).time = (d.time + (t - d.time)) % 2 ^ 64 := by
    rcases h with h | h <;> simp [Dev.reach, Dev.tick, h]
  rw [heq]
  omega

theorem Dev.seqExpired_eq {d : Dev} {nor : Mem} {fu : Fuses} {us span : Nat} {ok : BitVec 4} (hspan : 10000000 = span) : d.seqExpired nor fu us ok =
    if !d.live then d
    else if d.seqWdogAt.any fun t => decide (d.time < t + span) then ((d.fltBoot Code.SEQ_WDOG 6).emergency ok).restart nor fu 0
    else d.seqWdog us := by
  subst hspan
  rfl

/-- A second expiry of the sequencer watchdog within the span restarts the device. -/
theorem Dev.seqExpired_of_second {d : Dev} {nor : Mem} {fu : Fuses} {us t span : Nat} {ok : BitVec 4} (hrun : d.phase = .running) (ht : d.seqWdogAt = some t)
    (hspan : 10000000 = span) (hlt : d.time < t + span) : d.seqExpired nor fu us ok = ((d.fltBoot Code.SEQ_WDOG 6).emergency ok).restart nor fu 0 := by
  rw [Dev.seqExpired_eq hspan, if_neg (by simp [Dev.live_of_running hrun]), if_pos]
  rw [ht]
  exact decide_eq_true hlt

/-- PFAIL_N high restarts a device that had started, and boots one again that had not. -/
theorem Dev.powerBack_of_high {d : Dev} {nor : Mem} {fu : Fuses} (h : d.phase = .flushed) (hp : d.pfail = false) : d.powerBack nor fu =
    if d.bootDone then (d.reach (d.pfailAt + 10000)).restart nor fu 0 else (d.reach (d.pfailAt + 10000)).bootRun nor fu .again := by
  rw [Dev.powerBack, if_neg (by simp [h, hp])]
  have hdone : (d.reach (d.pfailAt + 10000)).bootDone = d.bootDone := by
    generalize d.pfailAt + 10000 = t
    rw [Dev.reach_frame]
    rfl
  simp only [hdone]

/-- The slot in hand of a boot that hangs. -/
def slotInHand : Stall → List Slot
  | .slot s _ => [s]
  | .step _ => []

theorem Dev.bootWatchdog_of_hang {d : Dev} {nor : Mem} {fu : Fuses} {st : Stall} (h : d.phase = .booting) (hst : d.stalled = some st) :
    d.bootWatchdog nor fu = ({ d.reach (d.wdogFrom + 1000000) with rejected := (d.reach (d.wdogFrom + 1000000)).rejected ++ slotInHand st }.cause 128).bootRun nor fu .again := by
  unfold Dev.bootWatchdog
  cases st with
  | slot k b => simp only [h, hst, slotInHand] <;> rfl
  | step n => simp only [h, hst, slotInHand] <;> rfl

/-- Settles O31: what restarts the device, and with which cause and fault. -/
theorem restarts : Obligations.Restarts := by
  unfold Obligations.Restarts
  intro s c d flush us
  refine ⟨fun ⟨htakes, hown⟩ => ?_, fun hrun t ht hlt => ?_, fun hrun => ?_, fun hph hpfail hle htime => ?_, fun hno => ?_, fun st hph hst hle htime => ?_, fun hno => ?_⟩
  · obtain ⟨hrun, htake, -⟩ := id htakes
    refine completes_onDev (·.softReset s.nor s.fuses flush) rfl ⟨d.cmdDone c Code.OK [], ?_, Dev.cmdDone_reports _ _ htakes.waits, Dev.cmdDone_onlyCmd hown _ _⟩
    simp only [Dev.softReset, Dev.live_of_running hrun, htake, Bool.not_true, Bool.false_eq_true, if_false]
  · obtain ⟨hcode, hhi, hlo, hframe⟩ := s.dev.fltBoot_spec Code.SEQ_WDOG 6
    refine completes_onDev (·.seqExpired s.nor s.fuses us flush) rfl ⟨_, Dev.seqExpired_of_second hrun ht rfl hlt, hcode.trans (Nat.mod_eq_of_lt (by decide)), hhi, hlo, hframe⟩
  · obtain ⟨hcode, hhi, hlo, hframe⟩ := s.dev.fltBoot_spec Code.CLOCK_LOSS 8
    refine completes_onDev (·.pllLost s.nor s.fuses flush) rfl ⟨_, ?_, hcode.trans (Nat.mod_eq_of_lt (by decide)), hhi, hlo, hframe⟩
    rw [Dev.pllLost, if_neg (by simp [Dev.live_of_running hrun])]
  · have hframe := s.dev.reach_frame (s.dev.pfailAt + 10000)
    have hreach := Dev.reach_le (.inl hph) hle htime
    refine completes_onDev (·.powerBack s.nor s.fuses) rfl ⟨_, Dev.powerBack_of_high hph hpfail, hreach, ?_⟩
    generalize s.dev.pfailAt + 10000 = t at *
    generalize s.dev.reach t = e at *
    exact ⟨hframe.trans (by rw [hframe]), (congrArg Dev.attic hframe :)⟩
  · refine completes_onDev (·.powerBack s.nor s.fuses) rfl ?_
    rw [Dev.powerBack, if_pos]
    rcases hno with h | h <;> simp [h]
  · have hframe := s.dev.reach_frame (s.dev.wdogFrom + 1000000)
    have hreach := Dev.reach_le (.inr hph) hle htime
    have heq := Dev.bootWatchdog_of_hang (nor := s.nor) (fu := s.fuses) hph hst
    generalize s.dev.wdogFrom + 1000000 = t at *
    generalize s.dev.reach t = e at *
    refine completes_onDev (·.bootWatchdog s.nor s.fuses) rfl ⟨_, heq, hreach, ?_, ?_, ?_, (congrArg Dev.attic hframe :)⟩
    · rw [hframe]; rfl
    · cases st with
      | slot k b => exact (congrArg (fun y : Dev => y.rejected ++ [k]) hframe :)
      | step => exact (congrArg (fun y : Dev => y.rejected ++ []) hframe :)
    · rw [hframe]
      rfl
  · refine completes_onDev (·.bootWatchdog s.nor s.fuses) rfl ?_
    unfold Dev.bootWatchdog
    split
    next st hph hst =>
      rcases hno with h | h
      · exact absurd hph h
      · rw [h] at hst; exact nomatch hst
    · rfl

end Sys2Proof.Machine
end

section
/-!
PROOFS. What the Cellar's work may change: its own state, the counter store, the log, the ring, the history, the memory port and registers.
-/

namespace Sys2Proof.Machine

open Sys2Proof

-- one proof after another: the check bounds the memory that the stacks of parallel proofs take
set_option Elab.async false

/-- The Cellar, the counter store, the fault log, the host port, the memory port and registers: nothing else differs, and no draw is undone. -/
structure Dev.Stored (d e : Dev) : Prop where
  rest : e = { d with
    regs := e.regs, cs := e.cs, jrn := e.jrn, host := e.host, flt := e.flt, fltNo := e.fltNo, freeCtr := e.freeCtr, memq := e.memq }
  draws : d.freeCtr ≤ e.freeCtr

namespace Dev.Stored

variable {d e x : Dev}

theorem refl (d : Dev) : Stored d d := ⟨rfl, Nat.le_refl _⟩

theorem trans (h : Stored d e) (g : Stored e x) : Stored d x := ⟨by rw [g.rest, h.rest], Nat.le_trans h.draws g.draws⟩

/-- A change that draws nothing. -/
theorem quiet (h : Stored d e) (g : x = { e with
    regs := x.regs, cs := x.cs, jrn := x.jrn, host := x.host, flt := x.flt, fltNo := x.fltNo, memq := x.memq }) : Stored d x :=
  h.trans ⟨by rw [g], Nat.le_of_eq (congrArg Dev.freeCtr g).symm⟩

theorem served (h : Stored d e) (g : e.PortServed x) : Stored d x := h.trans ⟨by rw [g.rest], g.draws⟩

theorem setFld (h : Stored d e) (f : Fld) (v : Nat) : Stored d (e.setFld f v) := h.quiet rfl

theorem setFlag (h : Stored d e) (f : Fld) (v : Bool) : Stored d (e.setFlag f v) := h.quiet rfl

theorem bump (h : Stored d e) (f : Fld) (k : Nat) : Stored d (e.bump f k) := h.quiet rfl

theorem raiseTo (h : Stored d e) (f : Fld) (k : Nat) : Stored d (e.raiseTo f k) := h.quiet rfl

theorem setCs (h : Stored d e) (k v : Nat) : Stored d (e.setCs k v) := h.quiet rfl

theorem onJrn (h : Stored d e) (f : Journal → Journal) : Stored d (e.onJrn f) := h.quiet rfl

theorem onNd (h : Stored d e) (n : Nat) (f : NandDev → NandDev) : Stored d (e.onNd n f) := h.quiet rfl

theorem ite {c : Prop} [Decidable c] {x y : Dev} (hx : Stored d x) (hy : Stored d y) : Stored d (if c then x else y) := by
  split
  · exact hx
  · exact hy

theorem forEach {f : Dev → Nat → Dev} {l : List Nat} (h : Stored d e) (hf : ∀ y m, Stored d y → Stored d (f y m)) : Stored d (e.forEach l f) :=
  Dev.forEach_keeps (P := Stored d) h fun y m _ hy => hf y m hy

theorem foldl {α : Type} {f : Dev → α → Dev} (hf : ∀ y m, Stored d y → Stored d (f y m)) : ∀ (l : List α) {e : Dev}, Stored d e → Stored d (l.foldl f e)
  | [], _, h => h
  | m :: l, _, h => foldl hf l (hf _ m h)

theorem event (h : Stored d e) (kind arg handle : Nat) (data : Bytes) : Stored d (e.event kind arg handle data) := by
  obtain ⟨-, hregs, -⟩ := e.event_frame kind arg handle data
  refine h.quiet ?_
  have hrest := hregs.1
  generalize e.event kind arg handle data = x at *
  rw [hrest]

theorem reqDone (h : Stored d e) (id outcome retries : Nat) (result : Bytes) : Stored d (e.reqDone 0 id outcome retries result) := by
  unfold Dev.reqDone
  split
  · refine event (quiet h ?_) ..
    rfl
  · exact h

theorem memWork (h : Stored d e) (work : Nat) (c : List MemEntry) : Stored d (e.memWork work c) := by
  unfold Dev.memWork
  extract_lets es x
  split
  · exact h
  · have hx : Stored d x := .ite h (h.served (.portDrain e))
    clear_value x
    refine .ite hx (raiseTo (trans hx ⟨?_, ?_⟩) _ _)
    · rfl
    · exact Nat.le_add_right _ _

theorem memChains (h : Stored d e) (work : Nat) (cs : List (List MemEntry)) : Stored d (e.memChains work cs) := foldl (fun _ _ hy => hy.memWork _ _) cs h

/-! ### Pages assigned and programmed -/

theorem place (h : Stored d e) (n pseq seq : Nat) : Stored d (e.place n pseq seq) := by
  unfold Dev.place
  exact (h.onNd _ _).onJrn _

theorem assignOne (h : Stored d e) (seq : Nat) : Stored d (e.assignOne seq) := by
  unfold Dev.assignOne
  split
  · exact .ite (h.place _ _ _) (h.onNd _ _)
  split
  · exact h
  · exact (((h.setCs _ _).onNd _ _).onJrn _).place _ _ _

theorem assign (h : Stored d e) : Stored d e.assign := (h.forEach fun _ _ hy => hy.assignOne _).forEach fun _ _ hy => hy.assignOne _

theorem busyBit (h : Stored d e) (n : Nat) : Stored d (e.busyBit n) := h.setFlag _ _

theorem launch (h : Stored d e) (n : Nat) (p : Prog) : Stored d (e.launch n p) := ((h.onNd _ _).busyBit n).memChains _ _

theorem launchErase (h : Stored d e) (n b : Nat) : Stored d (e.launchErase n b) := ((h.onNd _ _).busyBit n).memChains _ _

theorem commitPage (h : Stored d e) {n a : Nat} (hx : e.commitPage n = some (a, x)) : Stored d x := by
  unfold Dev.commitPage at hx
  dsimp only at hx
  split at hx
  · obtain ⟨-, rfl⟩ := Prod.mk.inj (Option.some.inj hx)
    exact h
  · split at hx
    · obtain ⟨-, rfl⟩ := Prod.mk.inj (Option.some.inj hx)
      exact h.setCs _ _
    · exact nomatch hx

theorem startProg (h : Stored d e) (n : Nat) : Stored d (e.startProg n) := by
  unfold Dev.startProg
  dsimp only
  split
  · exact h
  split
  · exact h.launch _ _
  split
  · exact h
  split
  next hx => exact (h.commitPage hx).launch _ _
  · exact (h.onNd _ _).launch _ _

theorem stateWord (h : Stored d e) : Stored d e.stateWord := (h.setCs _ _).setFlag _ _

theorem pump (h : Stored d e) : Stored d e.pump := (h.assign.forEach fun _ _ hy => hy.startProg _).stateWord

/-! ### Records built -/

theorem enter (h : Stored d e) (r : LarderRec) : Stored d (e.enter r) := ((h.onJrn _).raiseTo _ _).pump

theorem build (h : Stored d e) (r : RecReq) : Stored d (e.build r) := by
  unfold Dev.build
  dsimp only
  exact .ite (((h.setCs _ _).onJrn _).onJrn _).stateWord (((h.setCs _ _).onJrn _).enter _)

theorem lastSeq (h : Stored d e) : Stored d e.lastSeq := (((h.build _).onJrn _).setFld _ _).setFld _ _

theorem post (h : Stored d e) (r : RecReq) : Stored d (e.post r) := .ite h (.ite (h.onJrn _) (.ite h.lastSeq (h.build r)))

/-! ### Faults reported -/

theorem faultEvent (h : Stored d e) (y : FltEntry) (seq : Nat) : Stored d (e.faultEvent y seq) := by
  unfold Dev.faultEvent
  refine event (quiet h ?_) ..
  rfl

theorem faultReport (h : Stored d e) (y : FltEntry) : Stored d (e.faultReport y) :=
  .ite ((h.post _).faultEvent _ _) (.ite (h.post _) ((h.post _).faultEvent _ _))

theorem closeLost (h : Stored d e) : Stored d e.closeLost := by
  unfold Dev.closeLost
  refine foldl (fun y m hy => ?_) _ (h.onJrn _)
  extract_lets int inb upd z w
  have hz : Stored d z := hy.quiet rfl
  have hw : Stored d w := (hz.setFld _ _).raiseTo _ _
  clear_value z w
  split
  · exact hw.faultReport _
  · exact hw

/-! ### Records durable -/

theorem meetBad (h : Stored d e) (n b : Nat) : Stored d (e.meetBad n b) := h.onNd _ _

theorem meetOn (n dst : Nat) : ∀ (f : Nat) {e : Dev} (b : Nat), Stored d e → Stored d (Dev.meetOn n dst f e b)
  | 0, _, _, h => h
  | f + 1, _, _, h => .ite h (meetOn n dst f _ (.ite (h.meetBad _ _) h))

theorem moveTail (h : Stored d e) (n b : Nat) : Stored d (e.moveTail n b) := .ite (h.setCs _ _) h

theorem setHead (h : Stored d e) (n a : Nat) : Stored d (e.setHead n a) := (meetOn _ _ _ _ h).setCs _ _

theorem setCursor (h : Stored d e) (l : List (Nat × Nat × Bytes)) : Stored d (e.setCursor l) := by
  cases l with
  | nil => exact h.setCs _ _
  | cons r t => exact (h.setCs _ _).setCs _ _

theorem release (h : Stored d e) (t : Ticket) : Stored d (e.release t) := by
  unfold Dev.release
  split
  · exact (h.setCs _ _).setCs _ _
  · exact h.reqDone _ _ _ _
  · exact h.setCs _ _
  · split
    · exact .ite ((((((h.setCs _ _).onJrn _).setFlag _ _).onNd _ _).meetBad _ _).moveTail _ _) ((((h.setCs _ _).onJrn _).setFlag _ _).launchErase _ _)
    · exact h
  · exact h

theorem nowDurable (h : Stored d e) (seqs : List Nat) : Stored d (e.nowDurable seqs) :=
  ((ite (h.setCursor _) h : Stored d (if e.csw 5 = 0 then _ else e)).setCs _ _).stateWord

theorem markDurable (h : Stored d e) (seqs : List Nat) : Stored d (e.markDurable seqs) :=
  closeLost (foldl (fun _ _ hy => hy.release _) _ ((h.onJrn _).nowDurable _))

theorem freeSlots (h : Stored d e) (seqs : List Nat) : Stored d (e.freeSlots seqs) := h.onJrn _

theorem progPassed (h : Stored d e) (n : Nat) (p : Prog) : Stored d (e.progPassed n p) := by
  unfold Dev.progPassed
  dsimp only
  split
  · exact (((((h.onNd _ _).markDurable _).onNd _ _).freeSlots _).setHead _ _).stateWord
  · exact .ite ((((h.onNd _ _).setHead _ _).bump _ _).setCursor _) (((h.onNd _ _).setHead _ _).bump _ _)
  · exact ((h.onNd _ _).bump _ _).markDurable _

/-! ### The flush (R363) -/

theorem flushDev (h : Stored d e) (ok : Bool) (n : Nat) : Stored d (e.flushDev ok n) := by
  unfold Dev.flushDev
  extract_lets x
  have hx : Stored d x := by
    simp only [x]
    split
    · exact .ite (h.progPassed _ _) (h.onNd _ _)
    · exact h
  clear_value x
  split
  · exact hx
  · exact .ite ((hx.memChains _ _).progPassed _ _) ((hx.memChains _ _).onNd _ _)

theorem flush (h : Stored d e) (ok : BitVec 4) : Stored d (e.flush ok) :=
  .ite h (((((h.onJrn _).forEach fun _ _ hy => hy.flushDev _ _).setFlag _ _).stateWord).setCs _ _)

end Dev.Stored

end Sys2Proof.Machine
end

section
/-!
PROOFS. UHF chains that go off: the state of each.
-/

namespace Sys2Proof.Machine

open Sys2Proof

-- one proof after another: the check bounds the memory that the stacks of parallel proofs take
set_option Elab.async false

/-! ### The state of a chain over what other chains do -/

theorem Dev.ust_showCoex (d : Dev) {n : Nat} (hn : n < 2) : d.showCoex.ust n = d.ust n := by
  have h : ∀ a, a ≠ R.COEX_STAT → d.showCoex.reg a = d.reg a := fun a ha => by
    unfold Dev.showCoex Dev.setFlag
    iterate 8 rw [Dev.reg_setFld_other (by exact ha)]
  exact Dev.fld_eq_of_reg (h (F.UHFCn_STAT_STATE n).addr (by simp only [F.UHFCn_STAT_STATE, R.COEX_STAT]; omega))

theorem Dev.ust_coexIdle (d : Dev) {n : Nat} (hn : n < 2) : d.coexIdle.ust n = d.ust n := Dev.ust_showCoex _ hn

/-- Carriers of a list brought down: those that were on are READY. -/
theorem Dev.ust_forEach_rampDown1 {n : Nat} (hn : n < 2) : ∀ (l : List Nat) (d : Dev),
    (d.forEach l Dev.rampDown1).ust n = if n ∈ l ∧ d.uhfOn n = true then Ust.ready else d.ust n
  | [], d => by simp [Dev.forEach]
  | m :: l, d => by
    have hstep := d.ust_rampDown1 m hn
    have ih := Dev.ust_forEach_rampDown1 hn l (d.rampDown1 m)
    refine Eq.trans ih ?_
    by_cases hon : m = n ∧ d.uhfOn n = true
    · have hready : (d.rampDown1 m).ust n = Ust.ready := by rw [hstep, if_pos hon]
      have hoff : (d.rampDown1 m).uhfOn n = false := Dev.uhfOn_eq_false_iff.2 (by rw [hready]; decide)
      rw [hoff, hready, if_neg (by simp), if_pos ⟨List.mem_cons.2 (.inl hon.1.symm), hon.2⟩]
    · rw [if_neg hon] at hstep
      rw [Dev.uhfOn_congr hstep, hstep]
      refine if_congr ⟨fun h => ⟨List.mem_cons_of_mem _ h.1, h.2⟩, fun h => ⟨?_, h.2⟩⟩ rfl rfl
      exact (List.mem_cons.1 h.1).resolve_left fun he => hon ⟨he.symm, h.2⟩

/-- A chain brought down with its team: a carrier that was on is READY. -/
theorem Dev.ust_rampDown (d : Dev) (m : Nat) {n : Nat} (hn : n < 2) :
    (d.rampDown m).ust n = if n ∈ d.uhfTeam m ∧ d.uhfOn n = true then Ust.ready else d.ust n := by
  unfold Dev.rampDown
  rw [Dev.ust_coexIdle _ hn, Dev.setFlag, Dev.ust_setFld_of_addr (by simp only [R.UHFCn_STAT, F.UHF_STEER_ACTIVE]; omega)]
  exact Dev.ust_forEach_rampDown1 hn _ d

theorem Dev.ust_untrain (d : Dev) (m n : Nat) : (d.untrain m).ust n = d.ust n :=
  Dev.ust_setFld_apart (by simp only [apart, F.UHFCn_STAT_STATE, F.UHFCn_STAT_TRAINED]; omega)

/-- A chain outside the team of one that goes to STANDBY. -/
theorem Dev.ust_toStandby_other (d : Dev) {m n : Nat} (hm : m < 2) (hn : n < 2) (hout : n ∉ d.uhfTeam m) : (d.toStandby m).ust n = d.ust n := by
  have hdown : (d.rampDown m).ust n = d.ust n := by rw [d.ust_rampDown m hn, if_neg fun h => hout h.1]
  have hteam : (d.rampDown m).uhfTeam m = d.uhfTeam m := by
    rw [Dev.uhfTeam, Dev.uhfTeam, ((Dev.CarrierOnly.refl d).rampDown.uhf m hm)]
  unfold Dev.toStandby
  extract_lets x
  have hx : x = d.rampDown m := rfl
  clear_value x
  rw [← hx] at hdown hteam
  rw [hteam]
  have hkeep : (x.forEach (d.uhfTeam m) fun d k =>
      if d.ust k = Ust.off then d
      else
        let d := ((d.setUst k Ust.standby).setFlag (F.UHFCn_STAT_LOCKED k) false).setFlag (F.UHFCn_STAT_CALIBRATING k) false
        (d.onUhf k fun u => { u with tuning := none }).untrain k).ust n = d.ust n := by
    refine Dev.forEach_keeps (P := fun y => y.ust n = d.ust n) hdown fun y k hk hy => ?_
    have hne : k ≠ n := fun h => hout (h ▸ hk)
    dsimp only
    split
    · exact hy
    · rw [Dev.ust_untrain, Dev.ust_onUhf, Dev.setFlag, Dev.ust_setFld_apart (by simp only [apart, F.UHFCn_STAT_STATE, F.UHFCn_STAT_CALIBRATING]; omega), Dev.setFlag,
        Dev.ust_setFld_apart (by simp only [apart, F.UHFCn_STAT_STATE, F.UHFCn_STAT_LOCKED]; omega), Dev.ust_setUst_other _ hne]
      exact hy
  exact hkeep

/-! ### A chain off -/

theorem Dev.uhfc_owner_of_carriers {d e : Dev} (h : d.CarrierOnly e) {n : Nat} (hn : n < 2) : (e.uhfc n).owner = (d.uhfc n).owner ∧ (e.uhfc n).partner = (d.uhfc n).partner := by
  rw [h.uhf n hn]
  exact ⟨rfl, rfl⟩

/-- A chain that no channel holds. -/
def UhfChain.dropped (u : UhfChain) : UhfChain := { u with owner := none, port := none, partner := none, master := true, leaving := false }

/-- A chain dropped and off: OFF, with no owner; the other chain stays as it is. -/
theorem Dev.uhfOff_spec (d : Dev) {n : Nat} (hn : n < 2) : let e := (d.uhfDrop n).toOff n
    (e.ust n = Ust.off ∧ (e.uhfc n).owner = none) ∧ ∀ m, m < 2 → m ≠ n → e.ust m = d.ust m ∧ (e.uhfc m).owner = (d.uhfc m).owner := by
  intro e
  have he : e = (((d.uhfDrop n).rampDown1 n).coexIdle.toStandby n).setUst n Ust.off := rfl
  clear_value e
  have hcarrier : ∀ x y : Dev, x.CarrierOnly y → ∀ m, m < 2 → (y.uhfc m).owner = (x.uhfc m).owner ∧ (y.uhfc m).partner = (x.uhfc m).partner :=
    fun x y h m hm => Dev.uhfc_owner_of_carriers h hm
  have hdrop : ∃ x : Dev, d.uhfDrop n = x.toStandby n ∧ (x.uhfc n).owner = none ∧ (x.uhfc n).partner = none ∧
      ∀ m, m < 2 → m ≠ n → x.ust m = d.ust m ∧ (x.uhfc m).owner = (d.uhfc m).owner := by
    refine ⟨_, rfl, ?_, ?_, fun m hm hne => ⟨?_, ?_⟩⟩
    · exact (congrArg UhfChain.owner (Dev.uhfc_onUhf (d := d) (f := UhfChain.dropped) hn) :)
    · exact (congrArg UhfChain.partner (Dev.uhfc_onUhf (d := d) (f := UhfChain.dropped) hn) :)
    · rw [Dev.ust_setFld_apart (by simp only [apart, F.UHFCn_STAT_STATE, F.UHFCn_STAT_ROLE]; omega),
        Dev.ust_setFld_apart (by simp only [apart, F.UHFCn_STAT_STATE, F.UHFCn_POWER_PERMIT]; omega), Dev.setFlag,
        Dev.ust_setFld_apart (by simp only [apart, F.UHFCn_STAT_STATE, F.UHFCn_STAT_PORT_VALID]; omega)]
      rfl
    · exact (congrArg UhfChain.owner (Dev.uhfc_onUhf_other (d := d) (f := UhfChain.dropped) hm hne) :)
  obtain ⟨x, hx, howner, hpartner, hother⟩ := hdrop
  have hteam : ∀ y : Dev, (y.uhfc n).partner = none → y.uhfTeam n = [n] := fun y hy => by rw [Dev.uhfTeam, hy]; rfl
  have hstand := hcarrier x _ ((Dev.CarrierOnly.refl x).toStandby (n := n))
  have hdown := hcarrier (d.uhfDrop n) _ ((Dev.CarrierOnly.refl (d.uhfDrop n)).rampDown1 (n := n)).coexIdle
  rw [hx] at hdown he
  have hlast := hcarrier ((x.toStandby n).rampDown1 n).coexIdle _ ((Dev.CarrierOnly.refl _).toStandby (n := n))
  have hnone : (((x.toStandby n).rampDown1 n).coexIdle.uhfc n).partner = none := ((hdown n hn).2.trans (hstand n hn).2).trans hpartner
  rw [he]
  refine ⟨⟨Dev.ust_setUst _ n (by decide), ((hlast n hn).1.trans ((hdown n hn).1.trans (hstand n hn).1)).trans howner⟩, fun m hm hne => ⟨?_, ?_⟩⟩
  · have hout : m ∉ [n] := fun h => hne (List.mem_singleton.1 h)
    rw [Dev.ust_setUst_other _ hne.symm, Dev.ust_toStandby_other _ hn hm (by rw [hteam _ hnone]; exact hout), Dev.ust_coexIdle _ hm, Dev.ust_rampDown1 _ _ hm,
      if_neg fun h => hne h.1.symm, Dev.ust_toStandby_other _ hn hm (by rw [hteam _ hpartner]; exact hout)]
    exact (hother m hm hne).1
  · exact ((hlast m hm).1.trans ((hdown m hm).1.trans (hstand m hm).1)).trans (hother m hm hne).2

/-- Every chain is dark or OFF once the radios are off, and no UHF chain is owned. -/
theorem Dev.radiosOff_uhf (d : Dev) : ∀ n, n < 2 → d.radiosOff.ust n = Ust.off ∧ (d.radiosOff.uhfc n).owner = none := by
  unfold Dev.radiosOff
  extract_lets x
  clear_value x
  obtain ⟨hself0, -⟩ := x.uhfOff_spec (n := 0) (by decide)
  obtain ⟨hself1, hother1⟩ := ((x.uhfDrop 0).toOff 0).uhfOff_spec (n := 1) (by decide)
  intro n hn
  have hcases : n = 0 ∨ n = 1 := by omega
  rcases hcases with rfl | rfl
  · obtain ⟨hust, howner⟩ := hother1 0 (by decide) (by decide)
    exact ⟨hust.trans hself0.1, howner.trans hself0.2⟩
  · exact hself1

/-! ### Power loss (R363, R365, R501) -/

/-- The supplies failing: REFOUT stops and the memory port forgets its queue. -/
def Dev.failing (d : Dev) (pin : Bool) : Dev := { (if pin then { d with pfail := true, pfailAt := d.time } else d) with refout := false, memq := [] }

/-- A running device as the flush finds it. -/
def Dev.stopped (d : Dev) : Dev := { d.radiosOff.dropSteps with memq := [] }

/-- Radios that go off leave what is no radio's. -/
theorem Dev.RadioPart.radiosOff (d : Dev) : d.RadioPart d.radiosOff := by
  unfold Dev.radiosOff
  refine ((Dev.RadioPart.refl d).forEach fun _ _ hy => .ite (hy.hfFieldOff _) hy).forEach fun y n hy => ?_
  have hdrop : d.RadioPart (y.uhfDrop n) := by
    unfold Dev.uhfDrop
    exact (((hy.onUhf n UhfChain.dropped).setFlag _ _ |>.setFld _ _).setFld _ _).toStandby n
  exact (((hdrop.carriers (Dev.CarrierOnly.refl _).rampDown1.coexIdle).toStandby n).setFld _ _)

theorem Dev.stopped_spec (d : Dev) : d.stopped.causes = d.causes ∧ d.stopped.pfail = d.pfail ∧ d.stopped.refout = d.refout ∧ d.stopped.memq = [] ∧
    d.stopped.host.cmdq = [] ∧ d.stopped.checks = [] ∧ d.stopped.trans = none ∧
    (∀ c ∈ d.stopped.chans, c.2.run = none ∧ c.2.step = none ∧ c.2.pending = none ∧ c.2.extras = []) ∧
    (∀ n, n < 4 → d.stopped.hfOn n = false) ∧ ∀ n, n < 2 → d.stopped.ust n = Ust.off ∧ (d.stopped.uhfc n).owner = none := by
  have hpart := Dev.RadioPart.radiosOff d
  have hhf := fun n (hn : n < 4) => d.radiosOff_off hn
  have huhf := d.radiosOff_uhf
  unfold Dev.stopped
  generalize d.radiosOff = e at *
  refine ⟨(congrArg Dev.causes hpart.rest :), (congrArg Dev.pfail hpart.rest :), (congrArg Dev.refout hpart.rest :), rfl, rfl, rfl, rfl, fun c hc => ?_, hhf, huhf⟩
  obtain ⟨y, -, rfl⟩ := List.mem_map.1 hc
  exact ⟨rfl, rfl, rfl, rfl⟩

theorem Dev.failing_frame (d : Dev) (pin : Bool) : d.failing pin = { d with
    pfail := pin || d.pfail, pfailAt := if pin then d.time else d.pfailAt, refout := false, memq := [] } := by
  cases pin with
  | true => rfl
  | false => rfl

/-- The kinds of device that a power loss finds. -/
theorem Dev.powerFail_cases (d : Dev) (pin : Bool) (ok : BitVec 4) : let x := d.failing pin
    (x.phase = .running → d.powerFail pin ok = { (x.emergency ok).cause 16 with phase := .flushed, pfailAt := x.time }) ∧
    (x.phase = .booting → d.powerFail pin ok = { x.cause 16 with phase := .flushed, stalled := none, pfailAt := x.time }) ∧
    (x.phase = .waking → d.powerFail pin ok = { x.cause 16 with phase := .flushed, pfailAt := x.time }) ∧
    (x.phase = .down ∨ x.phase = .watch → d.powerFail pin ok = x) := by
  intro x
  have hx : x = d.failing pin := rfl
  obtain ⟨e, he⟩ : ∃ e, e = d.powerFail pin ok := ⟨_, rfl⟩
  rw [← he]
  unfold Dev.powerFail at he
  extract_lets src y at he
  have hy : y = d.failing pin := by
    cases pin with
    | true => rfl
    | false => rfl
  clear_value y x
  rw [← hx] at hy
  subst hy
  refine ⟨fun h => ?_, fun h => ?_, fun h => ?_, fun h => ?_⟩
  · rw [h] at he; exact he
  · rw [h] at he; exact he
  · rw [h] at he; exact he
  · rcases h with h | h
    · rw [h] at he; exact he
    · rw [h] at he; exact he

theorem Dev.portDrain_of_empty {d : Dev} (h : d.memq = []) : d.portDrain = d := by rw [Dev.portDrain, h]; rfl

/-- Settles O30: what a power loss leaves of each kind of device, and what the resets and the Attic's loss leave. -/
theorem powerLossAndResets : Obligations.PowerLossAndResets := by
  unfold Obligations.PowerLossAndResets
  refine ⟨fun s flush row hrow => ?_, fun s => ⟨fun row hrow hgood hreset => ?_, fun h => ?_, fun h => ?_, fun h => ?_, fun h => ?_⟩⟩
  · have hexec : ∀ {q : Dev → Prop}, q ((s.dev.powerFail row.2 flush).portDrain) → completes row.1 s q := by
      intro q hq
      rcases List.mem_cons.1 hrow with rfl | hrow
      · exact completes_onDev (fun d => (d.powerFail true flush).portDrain) rfl hq
      · obtain rfl := List.mem_singleton.1 hrow
        exact completes_onDev (fun d => (d.powerFail false flush).portDrain) rfl hq
    obtain ⟨hrunning, hbooting, hwaking, hdark⟩ := s.dev.powerFail_cases row.2 flush
    have hframe := s.dev.failing_frame row.2
    generalize s.dev.failing row.2 = y at *
    have hphase : y.phase = s.dev.phase := by rw [hframe]
    refine ⟨fun h => hexec ?_, fun h => hexec ?_, fun h => hexec ?_⟩
    · rw [hrunning (hphase.trans h)]
      have hstop : y.emergency flush = y.stopped.flush flush := rfl
      rw [hstop]
      obtain ⟨hcauses, hpfail, hrefout, hmemq, hcmdq, hchecks, htrans, hchans, hhf, huhf⟩ := y.stopped_spec
      have htime : y.time = s.dev.time := by rw [hframe]
      replace hcauses : y.stopped.causes = s.dev.causes := hcauses.trans (by rw [hframe])
      replace hpfail : y.stopped.pfail = (row.2 || s.dev.pfail) := hpfail.trans (by rw [hframe])
      replace hrefout : y.stopped.refout = false := hrefout.trans (by rw [hframe])
      have hstored : y.stopped.Stored (y.stopped.flush flush) := (Dev.Stored.refl _).flush flush
      generalize y.stopped = e at *
      have hoff : (e.flush flush).refout = false := (congrArg Dev.refout hstored.rest :).trans hrefout
      have hserved := Dev.PortServed.portDrain { (e.flush flush).cause 16 with phase := .flushed, pfailAt := y.time }
      refine ⟨(congrArg Dev.phase hserved.rest :), (congrArg Dev.refout hserved.rest :).trans hoff, e, ?_, hcauses, hpfail, hrefout, hmemq, hcmdq, hchecks, htrans, hchans, hhf, huhf⟩
      rw [htime]
    · rcases h with h | h
      · rw [hbooting (hphase.trans h), Dev.portDrain_of_empty (by rw [hframe]; rfl), hframe]
        exact ⟨rfl, rfl, rfl, rfl, rfl, rfl, rfl⟩
      · rw [hwaking (hphase.trans h), Dev.portDrain_of_empty (by rw [hframe]; rfl), hframe]
        exact ⟨rfl, rfl, rfl, rfl, rfl, rfl, rfl⟩
    · rw [hdark (by rw [hphase]; exact h), Dev.portDrain_of_empty (by rw [hframe]), hframe]
      exact ⟨rfl, rfl, rfl, rfl, rfl⟩
  · rcases List.mem_cons.1 hrow with rfl | hrow
    · obtain ⟨hp, hup⟩ := hgood rfl
      refine completes_onDev Dev.pgoodFell rfl ?_
      rw [Dev.pgoodFell, hp]
      simp only [hup]
      exact ⟨rfl, rfl, rfl, rfl, rfl, rfl, rfl, rfl, rfl, fun _ => ⟨rfl, rfl⟩⟩
    · obtain rfl := List.mem_singleton.1 hrow
      have hn := hreset rfl
      refine completes_onDev Dev.resetFell rfl ?_
      rw [Dev.resetFell, hn]
      exact ⟨rfl, rfl, rfl, rfl, rfl, rfl, rfl, rfl, rfl, fun h => absurd h (by decide)⟩
  · exact completes_onDev Dev.powerRise rfl (if_pos h)
  · exact completes_onDev Dev.powerRise rfl (if_neg (by rw [h]; decide))
  · refine completes_onDev Dev.vatticLost rfl ?_
    rw [Dev.vatticLost, if_neg (by rw [h]; decide)]
    by_cases hw : s.dev.phase = .watch ∨ s.dev.phase = .waking
    · rw [if_pos (by simpa [Dev.showBases] using hw), if_pos hw]
      exact ⟨rfl, rfl, rfl⟩
    · rw [if_neg (by simpa [Dev.showBases] using hw), if_neg hw]
      exact ⟨rfl, rfl, rfl⟩
  · refine completes_onDev Dev.vatticUp rfl ?_
    rw [Dev.vatticUp, if_neg (by rw [h]; decide)]
    exact ⟨rfl, rfl, rfl, rfl, rfl, rfl⟩

end Sys2Proof.Machine
end

section
/-!
PROOFS. Key-kills (R400 to R405, R57).
-/

namespace Sys2Proof.Machine

open Sys2Proof

-- one proof after another: the check bounds the memory that the stacks of parallel proofs take
set_option Elab.async false

/-! ### Security contexts ended: what is no radio's and no channel's stays -/

namespace Dev.RadioPart

variable {d e : Dev}

theorem uhfCut (h : RadioPart d e) (n : Nat) : RadioPart d (e.uhfCut n) := by
  unfold Dev.uhfCut
  split
  · exact h
  · have hclear : RadioPart d (e.radioClear n) := by
      unfold Dev.radioClear
      extract_lets w x
      have hx : RadioPart d x := (h.onUhf n _).carriers (Dev.CarrierOnly.refl _).showQueue
      clear_value x w
      exact .ite (hx.carriers (Dev.CarrierOnly.refl _).coexIdle) hx
    exact ((hclear.carriers (Dev.CarrierOnly.refl _).unhold).onUhf n _).carriers (Dev.CarrierOnly.refl _).showRound

theorem uhfAbort (h : RadioPart d e) (n : Nat) : RadioPart d (e.uhfAbort n) := by
  unfold Dev.uhfAbort
  split
  · exact h
  · exact (h.uhfCut n).carriers (Dev.CarrierOnly.refl _).applyAfter

theorem abortOn (h : RadioPart d e) (ch : Nat) : RadioPart d (e.abortOn ch) := .ite (h.uhfAbort _) (h.hfPart ((Dev.HfPart.refl e).hfAbort ch))

end Dev.RadioPart

/-- The Attic, the counter store, the Vault and the phase stay. -/
def Dev.KeepsStores (d e : Dev) : Prop := e.cs = d.cs ∧ e.attic = d.attic ∧ e.vault = d.vault ∧ e.phase = d.phase

namespace Dev.KeepsStores

variable {d e x : Dev}

theorem refl (d : Dev) : KeepsStores d d := ⟨rfl, rfl, rfl, rfl⟩

theorem trans (h : KeepsStores d e) (g : KeepsStores e x) : KeepsStores d x :=
  ⟨g.1.trans h.1, g.2.1.trans h.2.1, g.2.2.1.trans h.2.2.1, g.2.2.2.trans h.2.2.2⟩

theorem radios (h : KeepsStores d e) (g : e.RadioPart x) : KeepsStores d x :=
  h.trans ⟨(congrArg Dev.cs g.rest :), (congrArg Dev.attic g.rest :), (congrArg Dev.vault g.rest :), (congrArg Dev.phase g.rest :)⟩

theorem setStep (h : KeepsStores d e) (slot : Nat) (st : Step) : KeepsStores d (e.setStep slot st) := by
  have hchan := e.onChan_frame slot fun c => { c with step := some st }
  exact h.trans ⟨(congrArg Dev.cs hchan :), (congrArg Dev.attic hchan :), (congrArg Dev.vault hchan :), (congrArg Dev.phase hchan :)⟩

theorem endContexts (d : Dev) (code : Nat) (hit : Step → Bool) : KeepsStores d (d.endContexts code hit) :=
  Dev.forEach_keeps (P := KeepsStores d) (refl d) fun y slot _ hy => by
    dsimp only
    split
    next st _ =>
      split
      · refine setStep ?_ _ _
        split
        · exact hy.radios ((Dev.RadioPart.refl y).abortOn _)
        · exact hy
      · exact hy
    · exact hy

end Dev.KeepsStores

theorem Dev.endContexts_of_no_chans {d : Dev} (h : d.chans = []) (code : Nat) (hit : Step → Bool) : d.endContexts code hit = d := by
  rw [Dev.endContexts, h]
  rfl

/-! ### What an assertion stores (R401) -/

theorem Dev.csw_setTamperTime {d : Dev} {k ms j : Nat} (h : j ≠ k) (h' : j ≠ k + 1) : (d.setTamperTime k ms).csw j = d.csw j :=
  (Dev.csw_setCs_other h').trans (Dev.csw_setCs_other h)

theorem Dev.tamperStore_spec (d : Dev) (src : Nat) : let e := d.tamperStore src
    e = { d with cs := e.cs, attic := { d.attic with sources := d.attic.sources ||| src } } ∧
      e.csw 0x20 = (d.csw 0x20 ||| src ||| 2 ^ 31) % 2 ^ 32 ∧ e.csw 9 = if d.attic.sources = 0 then (d.csw 9 + 1) % 2 ^ 32 else d.csw 9 := by
  intro e
  have he : e = d.tamperStore src := rfl
  clear_value e
  unfold Dev.tamperStore at he
  extract_lets fresh pend w x y z a at he
  have hfresh : fresh = (d.attic.sources == 0) := rfl
  have hx : x = { d with cs := x.cs } ∧ x.csw 0x20 = (d.csw 0x20 ||| src ||| 2 ^ 31) % 2 ^ 32 ∧ x.csw 9 = d.csw 9 := by
    refine ⟨rfl, ?_, ?_⟩
    · exact (Dev.csw_setCs_other (by decide)).trans (Dev.csw_setCs _ _ _)
    · exact (Dev.csw_setCs_other (by decide)).trans (Dev.csw_setCs_other (by decide))
  have hy : y = { x with cs := y.cs } ∧ y.csw 0x20 = x.csw 0x20 ∧ y.csw 9 = (x.csw 9 + 1) % 2 ^ 32 := by
    refine ⟨rfl, ?_, ?_⟩
    · exact (Dev.csw_setTamperTime (by decide) (by decide)).trans (Dev.csw_setCs_other (by decide))
    · exact (Dev.csw_setTamperTime (by decide) (by decide)).trans (Dev.csw_setCs _ _ _)
  have hz : z = if fresh then if pend = 0 then y.setTamperTime 0x23 w else y else x := rfl
  clear_value z y x fresh
  obtain ⟨hxr, hx20, hx9⟩ := hx
  obtain ⟨hyr, hy20, hy9⟩ := hy
  have hlast : ∃ c, z = { d with cs := c } ∧ z.csw 0x20 = (d.csw 0x20 ||| src ||| 2 ^ 31) % 2 ^ 32 ∧
      z.csw 9 = if d.attic.sources = 0 then (d.csw 9 + 1) % 2 ^ 32 else d.csw 9 := by
    have hyd : y = { d with cs := y.cs } := hyr.trans (by rw [hxr])
    by_cases h0 : d.attic.sources = 0
    · rw [hz, hfresh, if_pos (by simp [h0]), if_pos h0]
      have h9 : y.csw 9 = (d.csw 9 + 1) % 2 ^ 32 := hy9.trans (by rw [hx9])
      split
      · refine ⟨(y.setTamperTime 0x23 w).cs, ?_, (Dev.csw_setTamperTime (by decide) (by decide)).trans (hy20.trans hx20),
          (Dev.csw_setTamperTime (by decide) (by decide)).trans h9⟩
        exact (congrArg (fun v : Dev => { v with cs := (y.setTamperTime 0x23 w).cs }) hyd :)
      · exact ⟨_, hyd, hy20.trans hx20, h9⟩
    · rw [hz, hfresh, if_neg (by simp [h0]), if_neg h0]
      exact ⟨_, hxr, hx20, hx9⟩
  obtain ⟨c, hzr, hz20, hz9⟩ := hlast
  subst hzr
  subst he
  exact ⟨rfl, hz20, hz9⟩

/-! ### What a fresh assertion leaves (R401 to R404) -/

/-- A fresh assertion stored, with the keys destroyed and the generator stopped. -/
structure Dev.FreshTamper (d : Dev) (eff : Nat) (e : Dev) : Prop where
  word : e.csw 0x20 = (d.csw 0x20 ||| eff ||| 2 ^ 31) % 2 ^ 32
  count : e.csw 9 = (d.csw 9 + 1) % 2 ^ 32
  sources : e.attic.sources = eff
  drbg : e.vault.drbgOk = false
  slots : ∀ k, k < 32 → e.vault.slots.getD k none = none

theorem latched_of_word {d e : Dev} {eff : Nat} (h : e.csw 0x20 = (d.csw 0x20 ||| eff ||| 2 ^ 31) % 2 ^ 32) : e.latched = true := by
  rw [Dev.latched, bit, h, Nat.testBit_mod_two_pow, Nat.testBit_or, Nat.testBit_two_pow_self]
  simp

theorem Dev.FreshTamper.keep {d e x : Dev} {eff : Nat} (h : d.FreshTamper eff e) (hcs : x.cs = e.cs) (hs : x.attic.sources = e.attic.sources)
    (hv : x.vault = e.vault) : d.FreshTamper eff x := by
  have hw : ∀ k, x.csw k = e.csw k := fun k => by rw [Dev.csw, hcs, Dev.csw]
  exact ⟨(hw _).trans h.word, (hw _).trans h.count, hs.trans h.sources, by rw [hv]; exact h.drbg, by rw [hv]; exact h.slots⟩

/-- The device as a fresh assertion leaves it, before it is told of it. -/
def Dev.killed (d : Dev) (eff : Nat) : Dev := (d.tamperStore eff).keyDestroy

theorem Dev.killed_spec {d : Dev} {eff : Nat} (h : d.attic.sources = 0) : d.FreshTamper eff (d.killed eff) ∧ (d.killed eff).phase = d.phase ∧
    (d.killed eff).attic = { d.attic with sources := eff } := by
  obtain ⟨hframe, hword, hcount⟩ := d.tamperStore_spec eff
  rw [if_pos h] at hcount
  rw [h, Nat.zero_or] at hframe
  unfold Dev.killed
  generalize d.tamperStore eff = x at *
  unfold Dev.keyDestroy
  extract_lets y
  have hy : y.cs = x.cs ∧ y.attic = x.attic ∧ y.phase = x.phase ∧ y.vault.drbgOk = false ∧ y.vault.slots = List.replicate 32 none := ⟨rfl, rfl, rfl, rfl, rfl⟩
  clear_value y
  obtain ⟨hcs, hattic, hphase, hdrbg, hslots⟩ := hy
  obtain ⟨hcs', hattic', hvault', hphase'⟩ := Dev.KeepsStores.endContexts y Code.KEY_DESTROYED fun _ => true
  have hw : ∀ k, (y.endContexts Code.KEY_DESTROYED fun _ => true).csw k = x.csw k := fun k => by rw [Dev.csw, hcs', hcs, Dev.csw]
  have ha : (y.endContexts Code.KEY_DESTROYED fun _ => true).attic = { d.attic with sources := eff } := by rw [hattic', hattic, hframe]
  refine ⟨⟨(hw _).trans hword, (hw _).trans hcount, congrArg Attic.sources ha, by rw [hvault']; exact hdrbg, fun k hk => ?_⟩, ?_, ha⟩
  · rw [hvault', hslots]
    exact List.getD_replicate _ hk
  · rw [hphase', hphase, hframe]

/-- With no channel, a fresh assertion touches the counter store, the Attic, the Vault and the session's registers alone. -/
theorem Dev.killed_frame {d : Dev} {eff : Nat} (h : d.chans = []) :
    { d with cs := (d.killed eff).cs, attic := (d.killed eff).attic, vault := (d.killed eff).vault }.onlyRegs (d.killed eff) [R.VLT_SESSION, R.HOST_SESSION_CTR] := by
  obtain ⟨hframe, -⟩ := d.tamperStore_spec eff
  unfold Dev.killed Dev.keyDestroy
  generalize d.tamperStore eff = x at *
  extract_lets y
  have hy : y.chans = x.chans := rfl
  have hrest : y = { x with vault := y.vault, regs := y.regs } ∧ ∀ a, a ∉ [R.VLT_SESSION, R.HOST_SESSION_CTR] → y.reg a = x.reg a := by
    refine ⟨rfl, fun a ha => ?_⟩
    have h1 : a ≠ R.VLT_SESSION := fun h => ha (by simp [h])
    have h2 : a ≠ R.HOST_SESSION_CTR := fun h => ha (by simp [h])
    exact (Dev.reg_setReg_other h2).trans (Dev.reg_setFld_other h1)
  clear_value y
  rw [Dev.endContexts_of_no_chans (hy.trans (by rw [hframe]; exact h))]
  obtain ⟨c, hx⟩ : ∃ c, x = { d with cs := c, attic := { d.attic with sources := d.attic.sources ||| eff } } := ⟨_, hframe⟩
  obtain ⟨v, r, hyr⟩ : ∃ v r, y = { x with vault := v, regs := r } := ⟨_, _, hrest.1⟩
  refine ⟨?_, fun a ha => (hrest.2 a ha).trans (by rw [hx]; rfl)⟩
  subst hx
  rw [hyr]

theorem Dev.keyKill_fresh {d : Dev} {fu : Fuses} {src eff : Nat} (he : src &&& d.armed fu = eff) (hne : eff ≠ 0) (h : d.attic.sources = 0) :
    (d.phase = .running → d.keyKill fu src = (((d.killed eff).tamperEvent eff).tamperRecord fu).settle) ∧
    (d.phase = .watch → d.keyKill fu src = if bit ((d.killed eff).fld F.WATCH_CTL_WAKE_EN) 3 then (d.killed eff).registerWake 8 else d.killed eff) ∧
    (d.phase = .down ∨ d.phase = .booting ∨ d.phase = .halted → d.keyKill fu src = d.killed eff) := by
  obtain ⟨e, hkill⟩ : ∃ e, e = d.keyKill fu src := ⟨_, rfl⟩
  rw [← hkill]
  unfold Dev.keyKill at hkill
  rw [he] at hkill
  replace hkill := hkill.trans (if_neg hne)
  extract_lets fresh p x y at hkill
  have hy : y = d.killed eff := rfl
  have hp : p = d.phase := rfl
  clear_value y p
  rw [if_neg (by simp [fresh, h])] at hkill
  subst hy
  refine ⟨fun hph => ?_, fun hph => ?_, fun hph => ?_⟩
  · rw [hp, hph] at hkill; exact hkill
  · rw [hp, hph] at hkill; exact hkill
  · rcases hph with hph | hph | hph
    · rw [hp, hph] at hkill; exact hkill
    · rw [hp, hph] at hkill; exact hkill
    · rw [hp, hph] at hkill; exact hkill

theorem Dev.keyKill_further {d : Dev} {fu : Fuses} {src eff : Nat} (he : src &&& d.armed fu = eff) (hne : eff ≠ 0) (h : d.attic.sources ≠ 0) :
    d.keyKill fu src = d.tamperStore eff := by
  unfold Dev.keyKill
  rw [he]
  refine (if_neg hne).trans (if_pos ?_)
  simpa using h

/-- An assertion and the fuse: a fresh one halts a boot, and blows HARD_BLOWN while the main domains are up. -/
theorem Dev.tampered_fresh {d : Dev} {fu : Fuses} {src eff : Nat} {blown : Bool} (he : src &&& d.armed fu = eff) (hne : eff ≠ 0) (h : d.attic.sources = 0) :
    (d.phase = .down ∨ d.phase = .watch → d.tampered fu src blown = (d.keyKill fu src, fu)) ∧
    (d.phase = .running ∨ d.phase = .halted → d.tampered fu src blown = (d.keyKill fu src).blowHard fu blown) ∧
    (d.phase = .booting → d.tampered fu src blown = ((d.keyKill fu src).bootHalt ((d.keyKill fu src).fld F.BOOT_STATUS_STAGE)).blowHard fu blown) := by
  obtain ⟨e, ht⟩ : ∃ e, e = d.tampered fu src blown := ⟨_, rfl⟩
  rw [← ht]
  unfold Dev.tampered at ht
  extract_lets fresh p x y at ht
  have hp : p = d.phase := rfl
  have hy : y = if p == .booting then x.bootHalt (x.fld F.BOOT_STATUS_STAGE) else x := rfl
  rw [if_neg (by simp [fresh, h, he, hne])] at ht
  clear_value y p
  refine ⟨fun hph => ?_, fun hph => ?_, fun hph => ?_⟩
  · rcases hph with hph | hph
    · rw [hy, hp, hph] at ht; exact ht
    · rw [hy, hp, hph] at ht; exact ht
  · rcases hph with hph | hph
    · rw [hy, hp, hph] at ht; exact ht
    · rw [hy, hp, hph] at ht; exact ht
  · rw [hy, hp, hph] at ht; exact ht

theorem Dev.blowHard_soft {d : Dev} {fu : Fuses} {ok : Bool} (h : fu.hard = false) : d.blowHard fu ok = (d, fu) := by simp [Dev.blowHard, h]

theorem Dev.blowHard_hard {d : Dev} {fu : Fuses} (h : fu.hard = true) (hb : fu.hardBlown = false) (hl : d.latched = true) :
    d.blowHard fu true = (d, { fu with hardBlown := true }) ∧ d.blowHard fu false = (d.fault9 Code.FUSE_FAIL, fu) := by
  have hno : ¬(!fu.hard || fu.hardBlown || !d.latched) = true := by simp [h, hb, hl]
  exact ⟨if_neg hno, if_neg hno⟩

/-- A boot that halts shows it, and tells it in an event. -/
theorem Dev.bootHalt_spec (d : Dev) (stage : Nat) : let e := d.bootHalt stage
    e.phase = .halted ∧ e.fld F.BOOT_STATUS_STATE = 6 ∧ e.cs = d.cs ∧ e.attic = d.attic ∧ e.vault = d.vault := by
  intro e
  obtain ⟨-, hregs, -⟩ := (d.bootStatus 6 stage).event_frame 1 0 0 (beBytes 4 ((d.bootStatus 6 stage).reg R.BOOT_STATUS).toNat ++
    beBytes 4 ((d.bootStatus 6 stage).reg R.BOOT_IMAGE).toNat)
  have he : e = { (d.bootStatus 6 stage).event 1 0 0 (beBytes 4 ((d.bootStatus 6 stage).reg R.BOOT_STATUS).toNat ++
    beBytes 4 ((d.bootStatus 6 stage).reg R.BOOT_IMAGE).toNat) with phase := .halted, stalled := none } := rfl
  clear_value e
  generalize (d.bootStatus 6 stage).event 1 0 0 _ = x at *
  subst he
  refine ⟨rfl, ?_, (congrArg Dev.cs hregs.1 :), (congrArg Dev.attic hregs.1 :), (congrArg Dev.vault hregs.1 :)⟩
  refine (Dev.fld_eq_of_reg (hregs.2 _ (by decide))).trans ?_
  exact (Dev.fld_setFld_other (by decide) (by decide)).trans (Dev.fld_setFld_small (by decide) (by decide))

/-- A tamper wakes the Attic of a device in WATCH. -/
theorem Dev.registerWake_tamper {d : Dev} (h : d.phase = .watch) : d.registerWake 8 =
    { d with phase := .waking, attic := d.attic.woken 8 d.tables.wakeMode false (d.wallAt d.attic.count) } := by
  unfold Dev.registerWake
  rw [if_neg (by simp [h])]
  simp only [show bit 8 4 = false by decide, Bool.false_eq_true, if_false, Dev.onAttic, Attic.woken, Nat.zero_or]

theorem Dev.tampered_stale {d : Dev} {fu : Fuses} {src : Nat} {blown : Bool} (h : d.attic.sources ≠ 0 ∨ src &&& d.armed fu = 0) :
    d.tampered fu src blown = (d.keyKill fu src, fu) := by
  unfold Dev.tampered
  refine if_pos ?_
  rcases h with h | h <;> simp [h]

/-- Settles O33: what an assertion of the key-kill line stores, destroys and tells, in each phase. -/
theorem tamper : Obligations.Tamper := by
  unfold Obligations.Tamper
  intro s src blown eff stored fresh
  have heff : src.toNat &&& s.dev.armed s.fuses = eff := rfl
  clear_value eff
  have hstored : ∀ e : Dev, e.csw 0x20 = (s.dev.csw 0x20 ||| eff ||| 2 ^ 31) % 2 ^ 32 → stored e := fun e h => ⟨latched_of_word h, h⟩
  have hfresh : ∀ e : Dev, s.dev.FreshTamper eff e → fresh e := fun e h => ⟨hstored e h.word, h.count, h.sources, h.drbg, h.slots⟩
  have hexec : ∀ ok, exec (.keyKill src ok) s = .next { s with dev := (s.dev.tampered s.fuses src.toNat ok).1, fuses := (s.dev.tampered s.fuses src.toNat ok).2 } :=
    fun _ => rfl
  refine ⟨fun h0 => ⟨_, hexec blown, ?_⟩, fun hs hne => ?_, fun hs hne => ⟨fun hph hno => ?_, fun hph hsoft => ?_, fun hph hsoft hno => ?_, fun hph hno => ?_, fun hph hno hhard hblown => ?_⟩, ?_⟩
  · rw [Dev.tampered_stale (.inr (heff.trans h0)), Dev.keyKill, heff]
    exact congrArg (fun x => { s with dev := x }) (if_pos h0)
  · obtain ⟨hframe, hword, hcount⟩ := s.dev.tamperStore_spec eff
    refine ⟨_, hexec blown, ?_⟩
    rw [Dev.tampered_stale (.inl hs), Dev.keyKill_further heff hne hs]
    rw [if_neg hs] at hcount
    generalize s.dev.tamperStore eff = e at *
    exact ⟨rfl, hstored e hword, hcount, (congrArg Dev.attic hframe :), hframe.trans (by rw [hframe])⟩
  · have ht := (Dev.tampered_fresh (blown := blown) heff hne hs).1 (.inl hph)
    rw [(Dev.keyKill_fresh heff hne hs).2.2 (.inl hph)] at ht
    exact ⟨_, hexec blown, by rw [ht], by rw [ht]; exact hfresh _ (Dev.killed_spec hs).1, by rw [ht]; exact Dev.killed_frame hno⟩
  · have ht := (Dev.tampered_fresh (blown := blown) heff hne hs).2.1 (.inl hph)
    rw [(Dev.keyKill_fresh heff hne hs).1 hph, Dev.blowHard_soft hsoft] at ht
    exact ⟨_, s.dev.killed eff, hexec blown, by rw [ht], hfresh _ (Dev.killed_spec hs).1, fun hno => Dev.killed_frame hno⟩
  · have ht := (Dev.tampered_fresh (blown := blown) heff hne hs).2.2 hph
    rw [(Dev.keyKill_fresh heff hne hs).2.2 (.inr (.inl hph)), Dev.blowHard_soft hsoft] at ht
    obtain ⟨hhalt, hstate, hcs, hattic, hvault⟩ := (s.dev.killed eff).bootHalt_spec ((s.dev.killed eff).fld F.BOOT_STATUS_STAGE)
    exact ⟨_, hexec blown, by rw [ht], by rw [ht]; exact hfresh _ ((Dev.killed_spec hs).1.keep hcs (by rw [hattic]) hvault), by rw [ht]; exact hhalt, by rw [ht]; exact hstate⟩
  · have ht := (Dev.tampered_fresh (blown := blown) heff hne hs).1 (.inr hph)
    obtain ⟨hkilled, hphase, hattic⟩ := Dev.killed_spec (eff := eff) hs
    have hen : (s.dev.killed eff).fld F.WATCH_CTL_WAKE_EN = s.dev.fld F.WATCH_CTL_WAKE_EN :=
      Dev.fld_eq_of_reg ((Dev.killed_frame hno).2 _ (by decide))
    rw [(Dev.keyKill_fresh heff hne hs).2.1 hph, hen] at ht
    refine ⟨_, hexec blown, by rw [ht], ?_, fun hoff => ?_, fun hon => ?_⟩
    · rw [ht]
      by_cases hw : bit (s.dev.fld F.WATCH_CTL_WAKE_EN) 3 = true
      · simp only [if_pos hw]
        rw [Dev.registerWake_tamper (hphase.trans hph)]
        exact hfresh _ (hkilled.keep rfl rfl rfl)
      · simp only [if_neg hw]
        exact hfresh _ hkilled
    · rw [ht, hoff]
      exact hphase.trans hph
    · rw [ht, hon, if_pos rfl, Dev.registerWake_tamper (hphase.trans hph)]
      exact ⟨rfl, rfl⟩
  · have hkilled := (Dev.killed_spec (eff := eff) hs).1
    have ht := fun ok => (Dev.tampered_fresh (blown := ok) heff hne hs).2.1 (.inr hph)
    rw [(Dev.keyKill_fresh heff hne hs).2.2 (.inr (.inr hph))] at ht
    obtain ⟨hblow, hfail⟩ := Dev.blowHard_hard hhard hblown (latched_of_word hkilled.word)
    have htrue := (ht true).trans hblow
    have hfalse := (ht false).trans hfail
    exact ⟨⟨_, hexec true, by rw [htrue], by rw [htrue]; exact hfresh _ hkilled⟩, _, s.dev.killed eff, hexec false, by rw [hfalse], hfresh _ hkilled⟩
  · exact completes_onDev Dev.keyKillOff rfl rfl

end Sys2Proof.Machine
end

section
/-!
PROOFS. Power-on and the boots that end before step 5 (R38 to R47, R57).
-/

namespace Sys2Proof.Machine

open Sys2Proof

-- one proof after another: the check bounds the memory that the stacks of parallel proofs take
set_option Elab.async false

/-! ### The ceilings of a region (R245, R248) -/

/-- The governor and its registers: nothing else differs. -/
structure Dev.Ceiled (d e : Dev) : Prop where
  rest : e = { d with regs := e.regs, gov := e.gov }
  regs : ∀ a, a < 0x600 ∨ 0x700 ≤ a → e.reg a = d.reg a

theorem Dev.Ceiled.setFld {d e : Dev} (h : d.Ceiled e) (f : Fld) (v : Nat) (hf : 0x600 ≤ f.addr ∧ f.addr < 0x700) : d.Ceiled (e.setFld f v) where
  rest := congrArg (·.setFld f v) h.rest
  regs a ha := (Dev.reg_setFld_other (by omega)).trans (h.regs a ha)

theorem Dev.ceiled_setCeilings (d : Dev) (region : Bytes) (l : Limits) : d.Ceiled (d.setCeilings region l) := by
  have h : d.Ceiled { d with gov := { d.gov with region := region, ceil := l } } := ⟨rfl, fun _ _ => rfl⟩
  unfold Dev.setCeilings Dev.restoreLimits
  dsimp only
  iterate 15 refine Dev.Ceiled.setFld ?_ _ _ (by decide)
  exact h

/-! ### The state at step 3 (R38 to R41) -/

/-- A device as a boot finds it at step 3. -/
structure Dev.Begun (d e : Dev) : Prop where
  phase : e.phase = .booting
  vault : e.vault = {}
  cs : e.cs = d.cs
  host : e.host = {}
  chans : e.chans = []
  causes : e.causes = 0
  reason : e.reg R.BOOT_REASON = BitVec.ofNat 32 d.causes
  strapShown : e.fld F.BOOT_IMAGE_STRAP = d.strap % 4
  refout : e.refout = true
  strap : e.strap = d.strap
  rejected : e.rejected = d.rejected
  rails : e.vddioA = d.vddioA ∧ e.vddioB = d.vddioB
  sources : e.attic.sources = d.attic.sources
  quiet : e.journalling = false

theorem Dev.bootBegin_begun (d : Dev) (fu : Fuses) (kind : BootKind) : d.Begun (d.bootBegin fu kind) := by
  obtain ⟨e, he⟩ : ∃ e, e = d.bootBegin fu kind := ⟨_, rfl⟩
  rw [← he]
  unfold Dev.bootBegin at he
  extract_lets reason x a z w v r region at he
  have hv : v.phase = .booting ∧ v.vault = {} ∧ v.cs = d.cs ∧ v.host = {} ∧ v.chans = [] ∧ v.causes = 0 ∧ v.refout = true ∧ v.strap = d.strap ∧
      v.rejected = d.rejected ∧ (v.vddioA = d.vddioA ∧ v.vddioB = d.vddioB) ∧ v.attic.sources = d.attic.sources ∧ v.regs = regReset := by
    obtain ⟨att, hz, hsources⟩ : ∃ att : Attic, z = { x with attic := att } ∧ att.sources = d.attic.sources := by
      simp only [z]
      split
      · exact ⟨_, rfl, rfl⟩
      · exact ⟨x.attic, rfl, rfl⟩
    clear_value z
    subst hz
    exact ⟨rfl, rfl, rfl, rfl, rfl, rfl, rfl, rfl, rfl, ⟨rfl, rfl⟩, hsources, rfl⟩
  have hr : r = (v.setReg R.BOOT_REASON (BitVec.ofNat 32 d.causes)).setFld F.BOOT_IMAGE_STRAP v.strap := rfl
  clear_value v r region
  obtain ⟨hphase, hvault, hcs, hhost, hchans, hcauses, hrefout, hstrap, hrejected, hrails, hsources, hregs⟩ := hv
  have hreason : r.reg R.BOOT_REASON = BitVec.ofNat 32 d.causes := by
    rw [hr, Dev.reg_setFld_other (by decide), Dev.reg_setReg]
  have hshown : r.fld F.BOOT_IMAGE_STRAP = d.strap % 4 := by
    rw [hr, Dev.fld_setFld (by decide), hstrap]
    rfl
  have hquiet : r.fld F.JRN_STAT_STATE < 2 := by
    rw [hr, Dev.fld_setFld_other (by decide) (by decide), Dev.fld_eq_of_reg (Dev.reg_setReg_other (by decide)), Dev.fld, hregs]
    decide
  have hceil := r.ceiled_setCeilings region (fusedLimits region)
  generalize r.setCeilings region (fusedLimits region) = y at *
  have hstatus : ∀ b, b ≠ R.BOOT_STATUS → e.reg b = y.reg b := fun b hb => by
    rw [he]
    exact (Dev.reg_setFld_other hb).trans (Dev.reg_setFld_other hb)
  have hreg : ∀ b, b ≠ R.BOOT_STATUS → (b < 0x600 ∨ 0x700 ≤ b) → e.reg b = r.reg b := fun b hb hr => (hstatus b hb).trans (hceil.regs b hr)
  have hrest : e = { v with regs := e.regs, gov := e.gov } := by
    have hyr := hceil.rest
    obtain ⟨ry, gy, hy⟩ : ∃ ry gy, y = { r with regs := ry, gov := gy } := ⟨_, _, hyr⟩
    subst hy
    subst he
    subst hr
    rfl
  obtain ⟨re, ge, hshape⟩ : ∃ re ge, e = { v with regs := re, gov := ge } := ⟨_, _, hrest⟩
  refine ⟨?_, ?_, ?_, ?_, ?_, ?_, (hreg _ (by decide) (by decide)).trans hreason, (Dev.fld_eq_of_reg (hreg _ (by decide) (by decide))).trans hshown, ?_, ?_, ?_, ?_, ?_, ?_⟩
  · rw [hshape]; exact hphase
  · rw [hshape]; exact hvault
  · rw [hshape]; exact hcs
  · rw [hshape]; exact hhost
  · rw [hshape]; exact hchans
  · rw [hshape]; exact hcauses
  · rw [hshape]; exact hrefout
  · rw [hshape]; exact hstrap
  · rw [hshape]; exact hrejected
  · rw [hshape]; exact hrails
  · rw [hshape]; exact hsources
  · rw [Dev.journalling, Dev.fld_eq_of_reg (hreg _ (by decide) (by decide))]
    exact decide_eq_false (Nat.not_le.2 hquiet)

/-! ### A fault while the Cellar does not journal -/

/-- The Cellar's work, and of the registers those of the fault block alone. -/
def Dev.Logged (d e : Dev) : Prop := d.Stored e ∧ ∀ a, a < 0xF80 → e.reg a = d.reg a

namespace Dev.Logged

variable {d e : Dev}

theorem refl (d : Dev) : Logged d d := ⟨.refl d, fun _ _ => rfl⟩

theorem setFld (h : Logged d e) (f : Fld) (v : Nat) (hf : 0xF80 ≤ f.addr) : Logged d (e.setFld f v) :=
  ⟨h.1.setFld f v, fun a ha => (Dev.reg_setFld_other (by omega)).trans (h.2 a ha)⟩

theorem ite {c : Prop} [Decidable c] {x y : Dev} (hx : Logged d x) (hy : Logged d y) : Logged d (if c then x else y) := by
  split
  · exact hx
  · exact hy

theorem logFault (h : Logged d e) (code cls pch ff int newp : Nat) (tag : Bytes) (handle : Nat) (object : Bytes) :
    Logged d (e.logFault code cls pch ff int newp tag handle object).1 := by
  unfold Dev.logFault
  extract_lets y x z w
  have hx : Logged d x := ⟨h.1.quiet rfl, h.2⟩
  have hz : Logged d z := (hx.setFld _ _ (by decide)).setFld _ _ (by decide)
  have hw : Logged d w := .ite (hz.setFld _ _ (by decide)) hz
  clear_value w
  exact (hw.setFld _ _ (by decide)).setFld _ _ (by decide)

end Dev.Logged

/-- A fault logged while nothing is journalled: the Vault stays, and every register of the boot block. -/
theorem Dev.fault9_quiet {d : Dev} (h : d.journalling = false) (code : Nat) : (d.fault9 code).vault = d.vault ∧
    (d.fault9 code).reg R.BOOT_STATUS = d.reg R.BOOT_STATUS := by
  obtain ⟨y, e, hy, hreg, hrep⟩ : ∃ (y : FltEntry) (e : Dev), d.Stored e ∧ (∀ a, a < 0xF80 → e.reg a = d.reg a) ∧ d.fault9 code = e.faultReport y := by
    have hother : ∀ c : Prop, [Decidable c] → d.Logged (if c then d.setFlag F.FLT_STAT_OTHER true else d) := fun c _ =>
      .ite ((Dev.Logged.refl d).setFld _ _ (by decide)) (.refl d)
    obtain ⟨hstored, hreg⟩ := (hother ((code == Code.FUSE_FAIL || code == Code.DRBG_FAIL || code == Code.KEYS_MISMATCH) = true)).logFault code 9 0 0 0 0xFF [] 0 []
    exact ⟨_, _, hstored, hreg, rfl⟩
  have hq : e.journalling = false := by
    rw [Dev.journalling, Dev.fld_eq_of_reg (hreg F.JRN_STAT_STATE.addr (by decide))]
    exact h
  have hpost : ∀ r, e.post r = e := fun r => if_pos (by simp [hq])
  have hno : e.canBuild = false := by simp [Dev.canBuild, hq]
  have heq : e.faultReport y = e.faultEvent y 0 := by
    unfold Dev.faultReport
    rw [hno, hq, hpost]
    rfl
  rw [hrep]
  refine ⟨(congrArg Dev.vault (hy.faultReport y).rest :), ?_⟩
  rw [heq]
  refine Eq.trans ?_ (hreg _ (by decide))
  unfold Dev.faultEvent
  obtain ⟨-, hregs, -⟩ := Dev.event_frame { e with flt := e.flt.map fun x => if x.no == y.no then { x with bytes := overlay x.bytes 12 (beBytes 4 0) } else x }
    0x0A (byteAt y.bytes 2) y.handle (slice y.bytes 0 1 ++ zeros 3 ++ beBytes 4 0)
  exact hregs.2 _ (by decide)

/-! ### Boots that end before step 5 (R42 to R47) -/

/-- What the boot in hand meets. -/
def Dev.bootEnv (d : Dev) : BootEnv := d.boots.head?.getD {}

/-- The device at step 3 of the boot in hand. -/
def Dev.begun (d : Dev) (fu : Fuses) (kind : BootKind) : Dev := d.takeBoot.2.bootBegin fu kind

theorem Dev.begun_begun (d : Dev) (fu : Fuses) (kind : BootKind) : d.Begun (d.begun fu kind) ∧ d.takeBoot.1 = d.bootEnv := by
  have htake : d.takeBoot.1 = d.bootEnv ∧ ∃ b, d.takeBoot.2 = { d with boots := b } := by
    unfold Dev.takeBoot Dev.bootEnv
    split
    next h => rw [h]; exact ⟨rfl, _, rfl⟩
    next h => rw [h]; exact ⟨rfl, _, rfl⟩
    next h => rw [h]; exact ⟨rfl, _, rfl⟩
  obtain ⟨henv, b, hb⟩ := htake
  have h := d.takeBoot.2.bootBegin_begun fu kind
  rw [← Dev.begun] at h
  rw [hb] at h
  exact ⟨⟨h.phase, h.vault, h.cs, h.host, h.chans, h.causes, h.reason, h.strapShown, h.refout, h.strap, h.rejected, h.rails, h.sources, h.quiet⟩, henv⟩

/-- The boot from step 3 on, with no slot rejected before. -/
theorem Dev.bootRun_eq {d : Dev} {nor : Mem} {fu : Fuses} {kind : BootKind} (hrej : d.rejected = []) : d.bootRun nor fu kind =
    if d.bootEnv.stall == some (.step 0) then (d.begun fu kind).stall (.step 0) 2
    else if d.bootEnv.stall == some (.step 1) then (d.begun fu kind).stall (.step 1) 3
    else if (d.begun fu kind).latched || fu.hardBlown then (d.begun fu kind).bootHalt 3
    else if !fu.rootOk then (d.begun fu kind).bootFail 3
    else if d.bootEnv.stall == some (.step 2) then (d.begun fu kind).stall (.step 2) 4
    else if !d.bootEnv.selfTestOk then (d.begun fu kind).bootFail 4
    else if ((d.begun fu kind).drbgStart.deriveKeys fu).strap = 3 then
      ((d.begun fu kind).drbgStart.deriveKeys fu).startUp fu 5 Mode.commission ((d.begun fu kind).drbgStart.deriveKeys fu).attic
    else if d.bootEnv.stall == some (.step 3) then ((d.begun fu kind).drbgStart.deriveKeys fu).stall (.step 3) 5
    else ((d.begun fu kind).drbgStart.deriveKeys fu).bootSlots nor fu d.bootEnv := by
  obtain ⟨hbegun, henv⟩ := d.begun_begun fu kind
  have hempty : (d.begun fu kind).rejected.isEmpty = true := by rw [hbegun.rejected, hrej]; rfl
  have hkept : (if (d.begun fu kind).rejected.isEmpty then d.begun fu kind else (d.begun fu kind).fault9 Code.BOOT_WDOG) = d.begun fu kind := if_pos hempty
  rw [← henv]
  unfold Dev.bootRun
  exact congrArg (fun x : Dev =>
    if d.takeBoot.1.stall == some (.step 0) then x.stall (.step 0) 2
    else if d.takeBoot.1.stall == some (.step 1) then x.stall (.step 1) 3
    else if x.latched || fu.hardBlown then x.bootHalt 3
    else if !fu.rootOk then x.bootFail 3
    else if d.takeBoot.1.stall == some (.step 2) then x.stall (.step 2) 4
    else if !d.takeBoot.1.selfTestOk then x.bootFail 4
    else if (x.drbgStart.deriveKeys fu).strap = 3 then
      (x.drbgStart.deriveKeys fu).startUp fu 5 Mode.commission (x.drbgStart.deriveKeys fu).attic
    else if d.takeBoot.1.stall == some (.step 3) then (x.drbgStart.deriveKeys fu).stall (.step 3) 5
    else (x.drbgStart.deriveKeys fu).bootSlots nor fu d.takeBoot.1) hkept

/-! ### Its ends -/

theorem Dev.event_room (d : Dev) (h : d.host.ring.length < 256) (kind arg handle : Nat) (data : Bytes) : d.event kind arg handle data =
    { d with host := { d.host with ring := d.host.ring ++ [⟨kind, arg, handle, d.time % 2 ^ 32, fit 8 data⟩] } } := if_pos h

/-- A boot that halts: what a reset leaves, its causes shown. -/
theorem Dev.bootHalt_event (d : Dev) (stage : Nat) (hhost : d.host = {}) (hs : stage < 16) : let e := d.bootHalt stage
    e.fld F.BOOT_STATUS_STAGE = stage ∧ e.reg R.BOOT_REASON = d.reg R.BOOT_REASON ∧ e.causes = d.causes ∧ e.chans = d.chans ∧
    e.host.ring.map (·.kind) = [1] := by
  intro e
  have hempty : (d.bootStatus 6 stage).host.ring.length < 256 := by
    rw [show (d.bootStatus 6 stage).host.ring = [] from congrArg HostPort.ring hhost]
    decide
  have hevent := (d.bootStatus 6 stage).event_room hempty 1 0 0 (beBytes 4 ((d.bootStatus 6 stage).reg R.BOOT_STATUS).toNat ++
    beBytes 4 ((d.bootStatus 6 stage).reg R.BOOT_IMAGE).toNat)
  have he : e = { (d.bootStatus 6 stage) with
      host := { (d.bootStatus 6 stage).host with ring := (d.bootStatus 6 stage).host.ring ++
        [⟨1, 0, 0, (d.bootStatus 6 stage).time % 2 ^ 32, fit 8 (beBytes 4 ((d.bootStatus 6 stage).reg R.BOOT_STATUS).toNat ++
          beBytes 4 ((d.bootStatus 6 stage).reg R.BOOT_IMAGE).toNat)⟩] }, phase := .halted, stalled := none } :=
    congrArg (fun x : Dev => { x with phase := .halted, stalled := none }) hevent
  clear_value e
  subst he
  refine ⟨?_, ?_, rfl, rfl, ?_⟩
  · exact Dev.fld_setFld_small (f := F.BOOT_STATUS_STAGE) (by decide) hs
  · exact (Dev.reg_setFld_other (by decide)).trans (Dev.reg_setFld_other (by decide))
  · exact congrArg (fun h : HostPort => (h.ring ++ [(⟨1, _, _, _, _⟩ : Event)]).map (·.kind)) hhost

/-- A boot that fails: the status shows why, and the Vault stays. -/
theorem Dev.bootFail_spec {d : Dev} (hquiet : d.journalling = false) (stage : Nat) : let e := d.bootFail stage
    e.phase = .failed ∧ e.fld F.BOOT_STATUS_STATE = 7 ∧ e.fld F.BOOT_STATUS_CODE = Code.SELFTEST_FAIL ∧ e.vault = d.vault := by
  intro e
  have hq : (d.setFld F.BOOT_STATUS_CODE Code.SELFTEST_FAIL).journalling = false := by
    rw [Dev.journalling, Dev.fld_eq_of_reg (Dev.reg_setFld_other (by decide))]
    exact hquiet
  obtain ⟨hvault, hstatus⟩ := Dev.fault9_quiet hq Code.SELFTEST_FAIL
  have he : e = { (((d.setFld F.BOOT_STATUS_CODE Code.SELFTEST_FAIL).fault9 Code.SELFTEST_FAIL).bootStatus 7 stage).bootEvent with phase := .failed } := rfl
  clear_value e
  generalize (d.setFld F.BOOT_STATUS_CODE Code.SELFTEST_FAIL).fault9 Code.SELFTEST_FAIL = x at *
  unfold Dev.bootEvent at he
  obtain ⟨-, hregs, -⟩ := (x.bootStatus 7 stage).event_frame 1 0 0 (beBytes 4 ((x.bootStatus 7 stage).reg R.BOOT_STATUS).toNat ++
    beBytes 4 ((x.bootStatus 7 stage).reg R.BOOT_IMAGE).toNat)
  generalize (x.bootStatus 7 stage).event 1 0 0 _ = y at *
  subst he
  have hreg : y.reg R.BOOT_STATUS = (x.bootStatus 7 stage).reg R.BOOT_STATUS := hregs.2 _ (by decide)
  refine ⟨rfl, ?_, ?_, (congrArg Dev.vault hregs.1 :).trans hvault⟩
  · refine (Dev.fld_eq_of_reg hreg).trans ?_
    exact (Dev.fld_setFld_other (by decide) (by decide)).trans (Dev.fld_setFld_small (by decide) (by decide))
  · refine (Dev.fld_eq_of_reg hreg).trans ?_
    refine (Dev.fld_setFld_other (by decide) (by decide)).trans ((Dev.fld_setFld_other (by decide) (by decide)).trans ?_)
    exact (Dev.fld_eq_of_reg hstatus).trans (Dev.fld_setFld_small (by decide) (by decide))

/-! ### The keys of step 4 (R46, R380) -/

/-- The four keys that step 4 derives, in their slots. -/
def Fuses.derivedSlots (fu : Fuses) (l : List (Option KeySlot)) : List (Option KeySlot) :=
  let key (label : Bytes) (purpose : Nat) : Option KeySlot := some { key := fu.derive label, purpose := purpose, keyId := 0, source := 1 }
  let l := tableSet 32 none l 0 (key [0x49#8, 0x4D#8, 0x41#8, 0x47#8, 0x45#8] 8)
  let l := tableSet 32 none l 1 (key [0x54#8, 0x52#8, 0x41#8, 0x4E#8, 0x53#8, 0x50#8, 0x4F#8, 0x52#8, 0x54#8] 16)
  let l := tableSet 32 none l 2 (key [0x4A#8, 0x4F#8, 0x55#8, 0x52#8, 0x4E#8, 0x41#8, 0x4C#8] 2)
  tableSet 32 none l 3 (key [0x48#8, 0x4F#8, 0x53#8, 0x54#8] 4)

theorem Fuses.derivedSlots_keys (fu : Fuses) (l : List (Option KeySlot)) :
    ((fu.derivedSlots l).getD 2 none).map (·.purpose) = some 2 ∧ ((fu.derivedSlots l).getD 1 none).map (·.key) =
      some (fu.derive [0x54#8, 0x52#8, 0x41#8, 0x4E#8, 0x53#8, 0x50#8, 0x4F#8, 0x52#8, 0x54#8]) := by
  unfold Fuses.derivedSlots
  constructor
  · rw [tableSet_getD_other (by decide) (by decide), tableSet_getD_self (by decide)]
    rfl
  · rw [tableSet_getD_other (by decide) (by decide), tableSet_getD_other (by decide) (by decide), tableSet_getD_self (by decide)]
    rfl

theorem Dev.deriveKeys_eq (d : Dev) (fu : Fuses) : d.deriveKeys fu =
    { d with vault := { d.vault with slots := if d.gateOpen fu then fu.derivedSlots d.vault.slots else d.vault.slots } } := by
  unfold Dev.deriveKeys
  cases d.gateOpen fu <;> rfl

/-- The device after step 4: the generator serves, and with the root gate open the keys are there. -/
theorem Dev.keyed_spec (d : Dev) (fu : Fuses) : let e := d.drbgStart.deriveKeys fu
    e = { d with regs := e.regs, vault := e.vault } ∧ (∀ a, a ≠ F.VLT_DRBG_RESEEDS.addr → e.reg a = d.reg a) ∧
    e.vault.drbgOk = true ∧ (d.gateOpen fu = true → e.vault.slots = fu.derivedSlots d.vault.slots) := by
  intro e
  have he : e = { d.drbgStart with vault := { d.drbgStart.vault with
      slots := if d.gateOpen fu then fu.derivedSlots d.drbgStart.vault.slots else d.drbgStart.vault.slots } } := d.drbgStart.deriveKeys_eq fu
  have hstart : (d.onVault fun v => { v with drbgOk := true }).onlyRegs d.drbgStart [F.VLT_DRBG_RESEEDS.addr] := Dev.bump_frame _ _ _
  obtain ⟨hrest, hregs⟩ := hstart
  clear_value e
  generalize d.drbgStart = x at *
  obtain ⟨r, hx⟩ : ∃ r, x = { (d.onVault fun v => { v with drbgOk := true }) with regs := r } := ⟨_, hrest⟩
  subst he hx
  refine ⟨rfl, fun a ha => hregs a (by simpa using ha), rfl, fun h => if_pos h⟩

/-! ### Power-on (R38, R39) -/

/-- The device as the supplies come up, before its boot. -/
def Dev.powered (d : Dev) (up : PowerUp) : Dev :=
  { d.senseRails up with boots := up.boots, strap := up.strap, rejected := [], pgood := true, resetN := true, pfail := false }

theorem Dev.powered_spec (d : Dev) (up : PowerUp) : let e := d.powered up
    e.boots = up.boots ∧ e.strap = up.strap ∧ e.rejected = [] ∧ e.cs = d.cs ∧ e.causes = d.causes ∧ e.attic = d.attic ∧
    (d.pgood = false → e.vddioA = some up.vddioA ∧ e.vddioB = some up.vddioB) := by
  have h : d.senseRails up = { d with vddioA := if d.pgood then d.vddioA else some up.vddioA, vddioB := if d.pgood then d.vddioB else some up.vddioB } := by
    unfold Dev.senseRails
    obtain hp | hp := Bool.eq_false_or_eq_true d.pgood
    · rw [if_pos hp, if_pos hp, if_pos hp]
    · rw [if_neg (by simp [hp]), if_neg (by simp [hp]), if_neg (by simp [hp])]
  intro e
  have he : e = _ := congrArg (fun x : Dev => { x with boots := up.boots, strap := up.strap, rejected := [], pgood := true, resetN := true, pfail := false }) h
  clear_value e
  subst he
  exact ⟨rfl, rfl, rfl, rfl, rfl, rfl, fun hp => ⟨if_neg (by simp [hp]), if_neg (by simp [hp])⟩⟩

/-- Power-on with no blow due: the boot that it finds. -/
theorem Dev.powerOn_soft {d : Dev} {nor : Mem} {fu : Fuses} {up : PowerUp} (hdown : d.phase = .down) (hsoft : fu.hard = false) :
    d.powerOn nor fu up = ((d.powered up).bootRun nor fu .t0, fu) := by
  unfold Dev.powerOn
  rw [if_neg (by simp [hdown])]
  simp only [hsoft, Bool.false_and, Bool.false_eq_true, if_false]
  rfl

/-- A blow of HARD_BLOWN that was due is made at t0. -/
theorem Dev.powerOn_fuses {d : Dev} {nor : Mem} {fu : Fuses} {up : PowerUp} (hdown : d.phase = .down) (hhard : fu.hard = true)
    (hblown : fu.hardBlown = false) (hlatched : d.latched = true) : (d.powerOn nor fu up).2 = { fu with hardBlown := up.blown } := by
  unfold Dev.powerOn
  rw [if_neg (by simp [hdown])]
  have hdue : (fu.hard && !fu.hardBlown && d.latched) = true := by simp [hhard, hblown, hlatched]
  rw [hdue]
  obtain ⟨root, rootOk, region, tried, serial, debugOff, hard, blown⟩ := fu
  simp only at hblown
  subst hblown
  obtain h | h := Bool.eq_false_or_eq_true up.blown <;> rw [h] <;> rfl

theorem Dev.latched_of_cs {d e : Dev} (h : e.cs = d.cs) : e.latched = d.latched := congrArg (fun c => bit (RegMap.get c 0x20).toNat 31) h

/-- A boot that finds the device latched or blown halts at step 3. -/
theorem Dev.bootRun_locked {d : Dev} {nor : Mem} {fu : Fuses} {kind : BootKind} (hrej : d.rejected = [])
    (hstall : ∀ k, d.bootEnv.stall ≠ some (.step k)) (h : d.latched = true ∨ fu.hardBlown = true) : let e := d.bootRun nor fu kind
    e.phase = .halted ∧ e.fld F.BOOT_STATUS_STATE = 6 ∧ e.fld F.BOOT_STATUS_STAGE = 3 ∧ e.reg R.BOOT_REASON = BitVec.ofNat 32 d.causes ∧
    e.causes = 0 ∧ e.vault = {} ∧ e.chans = [] ∧ e.cs = d.cs ∧ e.host.ring.map (·.kind) = [1] := by
  intro e
  have hbegun := (d.begun_begun fu kind).1
  have he : e = (d.begun fu kind).bootHalt 3 := by
    refine (Dev.bootRun_eq (nor := nor) (fu := fu) (kind := kind) hrej).trans ?_
    rw [if_neg (by simpa using hstall 0), if_neg (by simpa using hstall 1), if_pos (by simpa [Dev.latched_of_cs hbegun.cs] using h)]
  clear_value e
  generalize d.begun fu kind = x at *
  obtain ⟨hhalt, hstate, hcs, -, hvault⟩ := x.bootHalt_spec 3
  obtain ⟨hstage, hreason, hcauses, hchans, hring⟩ := x.bootHalt_event 3 hbegun.host (by decide)
  rw [← he] at hhalt hstate hcs hvault hstage hreason hcauses hchans hring
  exact ⟨hhalt, hstate, hstage, hreason.trans hbegun.reason, hcauses.trans hbegun.causes, hvault.trans hbegun.vault, hchans.trans hbegun.chans,
    hcs.trans hbegun.cs, hring⟩

/-- A boot that hangs in step 2 or 3 stays there. -/
theorem Dev.bootRun_stalled {d : Dev} {nor : Mem} {fu : Fuses} {kind : BootKind} (hrej : d.rejected = [])
    (h : d.bootEnv.stall = some (.step 0) ∨ d.bootEnv.stall = some (.step 1)) : let e := d.bootRun nor fu kind
    e.phase = .booting ∧ e.stalled = d.bootEnv.stall ∧ e.vault = {} ∧ e.cs = d.cs := by
  intro e
  have hbegun := (d.begun_begun fu kind).1
  obtain ⟨st, stage, hst, he⟩ : ∃ st stage, d.bootEnv.stall = some st ∧ e = (d.begun fu kind).stall st stage := by
    rcases h with h | h
    · exact ⟨_, _, h, (Dev.bootRun_eq hrej).trans (if_pos (by simp [h]))⟩
    · exact ⟨_, _, h, (Dev.bootRun_eq hrej).trans ((if_neg (by simp [h])).trans (if_pos (by simp [h])))⟩
  clear_value e
  generalize d.begun fu kind = x at *
  subst he
  exact ⟨hbegun.phase, hst.symm, hbegun.vault, hbegun.cs⟩

section
variable {d : Dev} {nor : Mem} {fu : Fuses} {kind : BootKind} (hrej : d.rejected = []) (hstall : ∀ k, d.bootEnv.stall ≠ some (.step k))
  (hfree : ¬(d.latched = true ∨ fu.hardBlown = true))
include hrej hstall hfree

/-- A boot that nothing stops at step 3, and that does not hang. -/
theorem Dev.bootRun_free : d.bootRun nor fu kind =
    if fu.rootOk = false then (d.begun fu kind).bootFail 3
    else if d.bootEnv.selfTestOk = false then (d.begun fu kind).bootFail 4
    else if ((d.begun fu kind).drbgStart.deriveKeys fu).strap = 3 then
      ((d.begun fu kind).drbgStart.deriveKeys fu).startUp fu 5 Mode.commission ((d.begun fu kind).drbgStart.deriveKeys fu).attic
    else ((d.begun fu kind).drbgStart.deriveKeys fu).bootSlots nor fu d.bootEnv := by
  have hbegun := (d.begun_begun fu kind).1
  refine (Dev.bootRun_eq (nor := nor) (fu := fu) (kind := kind) hrej).trans ?_
  rw [if_neg (by simpa using hstall 0), if_neg (by simpa using hstall 1), if_neg (by simpa [Dev.latched_of_cs hbegun.cs] using hfree)]
  rw [if_neg (by simpa using hstall 2) (c := (d.bootEnv.stall == some (.step 2)) = true),
    if_neg (by simpa using hstall 3) (c := (d.bootEnv.stall == some (.step 3)) = true)]
  simp only [Bool.not_eq_true']

/-- One whose ROOT fails its parity or whose self-test fails ends in SELFTEST_FAIL. -/
theorem Dev.bootRun_bad (hbad : fu.rootOk = false ∨ d.bootEnv.selfTestOk = false) : let e := d.bootRun nor fu kind
    e.phase = .failed ∧ e.fld F.BOOT_STATUS_STATE = 7 ∧ e.fld F.BOOT_STATUS_CODE = Code.SELFTEST_FAIL ∧ e.vault = {} := by
  intro e
  have hbegun := (d.begun_begun fu kind).1
  obtain ⟨stage, he⟩ : ∃ stage, e = (d.begun fu kind).bootFail stage := by
    by_cases hroot : fu.rootOk = false
    · exact ⟨3, (Dev.bootRun_free hrej hstall hfree).trans (if_pos hroot)⟩
    · exact ⟨4, (Dev.bootRun_free hrej hstall hfree).trans ((if_neg hroot).trans (if_pos (hbad.resolve_left hroot)))⟩
  obtain ⟨hphase, hstate, hcode, hvault⟩ := Dev.bootFail_spec hbegun.quiet stage
  rw [← he] at hphase hstate hcode hvault
  exact ⟨hphase, hstate, hcode, hvault.trans hbegun.vault⟩

/-- Any other derives its keys and goes on. -/
theorem Dev.bootRun_good (hgood : ¬(fu.rootOk = false ∨ d.bootEnv.selfTestOk = false)) : ∃ e : Dev,
    d.bootRun nor fu kind = (if d.strap = 3 then e.startUp fu 5 Mode.commission e.attic else e.bootSlots nor fu d.bootEnv) ∧
    e.reg R.BOOT_REASON = BitVec.ofNat 32 d.causes ∧ e.fld F.BOOT_IMAGE_STRAP = d.strap % 4 ∧ e.vault.drbgOk = true ∧
    e.cs = d.cs ∧ e.chans = [] ∧ e.refout = true ∧ (e.vddioA = d.vddioA ∧ e.vddioB = d.vddioB) ∧
    (d.attic.sources = 0 → (e.vault.slots.getD 2 none).map (·.purpose) = some 2 ∧
      (e.vault.slots.getD 1 none).map (·.key) =
        some (fu.derive [0x54#8, 0x52#8, 0x41#8, 0x4E#8, 0x53#8, 0x50#8, 0x4F#8, 0x52#8, 0x54#8])) := by
  have hbegun := (d.begun_begun fu kind).1
  have hrun := Dev.bootRun_free (nor := nor) (kind := kind) hrej hstall hfree
  rw [if_neg fun h => hgood (.inl h), if_neg fun h => hgood (.inr h)] at hrun
  obtain ⟨hkept, hregs, hdrbg, hslots⟩ := (d.begun fu kind).keyed_spec fu
  obtain ⟨e, he⟩ : ∃ e, e = (d.begun fu kind).drbgStart.deriveKeys fu := ⟨_, rfl⟩
  rw [← he] at hrun hkept hregs hdrbg hslots
  clear he
  generalize d.begun fu kind = x at hkept hregs hslots hbegun
  have hstrap : e.strap = d.strap := (congrArg Dev.strap hkept).trans hbegun.strap
  rw [hstrap] at hrun
  have hgate : d.attic.sources = 0 → x.gateOpen fu = true := fun hs => by
    rw [not_or] at hfree hgood
    simp [Dev.gateOpen, Dev.latched_of_cs hbegun.cs, hbegun.sources, hs, Bool.eq_false_iff.2 hfree.1, Bool.eq_false_iff.2 hfree.2, Bool.ne_false_iff.1 hgood.1]
  refine ⟨e, hrun, (hregs _ (by decide)).trans hbegun.reason, (Dev.fld_eq_of_reg (hregs _ (by decide))).trans hbegun.strapShown, hdrbg,
    ?_, ?_, ?_,
    ?_, fun hs => ?_⟩
  · exact (congrArg Dev.cs hkept).trans hbegun.cs
  · exact (congrArg Dev.chans hkept).trans hbegun.chans
  · exact (congrArg Dev.refout hkept).trans hbegun.refout
  · exact ⟨(congrArg Dev.vddioA hkept).trans hbegun.rails.1, (congrArg Dev.vddioB hkept).trans hbegun.rails.2⟩
  · rw [hslots (hgate hs)]
    exact fu.derivedSlots_keys _

end

/-- Settles O32: the boot is cut after step 4 (`Dev.bootRun_eq`), and what step 3 leaves is `Dev.Begun`. -/
theorem powerOnAndHalt : Obligations.PowerOnAndHalt := by
  unfold Obligations.PowerOnAndHalt
  refine ⟨fun s up hdown hsoft => ?_, fun s up hdown hhard hblown hlatched => ?_, fun d nor fu bits hlocked hstall => ?_⟩
  · have hexec : exec (.t0 up) s = s.withFuses ((s.dev.powered up).bootRun s.nor s.fuses .t0, s.fuses) := congrArg s.withFuses (Dev.powerOn_soft hdown hsoft)
    refine ⟨_, hexec, rfl, rfl, rfl, ?_⟩
    obtain ⟨hboots, hstrap, hrej, hcs, hcauses, hattic, hrails⟩ := s.dev.powered_spec up
    have henv : (s.dev.powered up).bootEnv = up.boots.head?.getD {} := congrArg (fun l : List BootEnv => l.head?.getD {}) hboots
    have hlatch : (s.dev.powered up).latched = s.dev.latched := Dev.latched_of_cs hcs
    generalize s.dev.powered up = d at *
    intro env locked bad
    change d.bootEnv = env at henv
    refine ⟨fun hs => ?_, fun hno => ⟨fun hlocked => ?_, fun hfree hbad => ?_, fun hfree hgood => ?_⟩⟩
    · have h := Dev.bootRun_stalled (nor := s.nor) (fu := s.fuses) (kind := .t0) hrej (by rw [henv]; exact hs)
      rw [henv, hcs] at h
      exact h
    · obtain ⟨hphase, hstate, -, hreason, hcauses', hvault, -, hcs', -⟩ := Dev.bootRun_locked (nor := s.nor) (fu := s.fuses) (kind := .t0) hrej
        (by rw [henv]; exact hno) (by rw [hlatch]; exact hlocked)
      rw [hcauses] at hreason
      exact ⟨hphase, hstate, hreason, hcauses', hvault, hcs'.trans hcs⟩
    · exact Dev.bootRun_bad (kind := .t0) hrej (by rw [henv]; exact hno) (by rw [hlatch]; exact hfree) (by rw [henv]; exact hbad)
    · obtain ⟨e, hrun, hreason, hshown, hdrbg, hcs', hchans, hrefout, ⟨hA, hB⟩, hkeys⟩ := Dev.bootRun_good (nor := s.nor) (kind := .t0) hrej
        (by rw [henv]; exact hno) (by rw [hlatch]; exact hfree) (by rw [henv]; exact hgood)
      rw [hstrap, henv] at hrun
      have hfour : (up.strap : Nat) % 4 = up.strap := Nat.mod_eq_of_lt up.strap.isLt
      have hthree : (up.strap : Nat) = 3 ↔ up.strap = 3 := by rw [Fin.ext_iff]; rfl
      simp only [hthree] at hrun
      refine ⟨e, hrun, by rw [hreason, hcauses], by rw [hshown, hstrap, hfour], hdrbg, hcs'.trans hcs, hchans, hrefout, fun hp => ?_, fun hsrc => ?_⟩
      · exact ⟨hA.trans (hrails hp).1, hB.trans (hrails hp).2⟩
      · exact hkeys (by rw [hattic]; exact hsrc)
  · exact ⟨_, rfl, rfl, Dev.powerOn_fuses hdown hhard hblown hlatched, rfl⟩
  · obtain ⟨e, he, hrej, henv, hcs, hcauses⟩ : ∃ e, e = ({ d with rejected := [] } : Dev).cause bits ∧ e.rejected = [] ∧
        e.bootEnv = d.boots.head?.getD {} ∧ e.cs = d.cs ∧ e.causes = (d.causes ||| bits) := ⟨_, rfl, rfl, rfl, rfl, rfl⟩
    have h := Dev.bootRun_locked (nor := nor) (fu := fu) (kind := .restart) hrej (by rw [henv]; exact hstall) (by rw [Dev.latched_of_cs hcs]; exact hlocked)
    rw [hcs, hcauses, he] at h
    exact h

end Sys2Proof.Machine
end

section
/-!
PROOFS. Keys imported and cleared, sessions opened and closed (R388 to R397).
-/

namespace Sys2Proof.Machine

open Sys2Proof

-- one proof after another: the check bounds the memory that the stacks of parallel proofs take
set_option Elab.async false

/-! ### The outcome of a Vault command (R397, R403) -/

theorem Dev.secCode_frame (d : Dev) (code : Nat) : d.onlyRegs (d.secCode code) [R.VLT_STAT, R.VLT_CNT] := by
  have h := Dev.onlyRegs_refl d [R.VLT_STAT, R.VLT_CNT]
  unfold Dev.secCode
  extract_lets x
  have hx : d.onlyRegs x [R.VLT_STAT, R.VLT_CNT] := h.fld
  split
  · exact h
  split
  · exact hx.fld
  split
  · exact hx.fld
  · exact hx

/-- A change of registers, then the report of a command of the device. -/
theorem Dev.onlyCmd_of_onlyRegs {d e x : Dev} {l : List Nat} (h : d.onlyRegs e l) (g : e.onlyCmd x []) : d.onlyCmd x l := by
  refine ⟨g.1.trans ?_, fun a ha => (g.2 a fun hm => ha (List.mem_cons.2 (.inl (List.mem_singleton.1 hm)))).trans (h.2 a fun hm => ha (List.mem_cons_of_mem _ hm))⟩
  generalize x.regs = rx
  generalize x.host = hx
  rw [h.1]

theorem Dev.vaultDone_spec {d : Dev} {c : Cmd} (hown : c.handle = 0) (hwait : ∃ x ∈ (d.history c.handle).entries, x.id = c.reqId ∧ x.st ≠ .done)
    (code : Nat) (result : Bytes) : d.onlyCmd (d.vaultDone c code result) [R.VLT_STAT, R.VLT_CNT] ∧ (d.vaultDone c code result).reports c code result := by
  have hsec := d.secCode_frame code
  have hhist : (d.secCode code).history c.handle = d.history c.handle := by
    generalize d.secCode code = e at *
    rw [hsec.1]
    rfl
  exact ⟨Dev.onlyCmd_of_onlyRegs hsec (Dev.cmdDone_onlyCmd hown code result), Dev.cmdDone_reports code result (Dev.waits_congr hhist hwait)⟩

theorem Dev.vaultDone_ok (d : Dev) (c : Cmd) (result : Bytes) : d.vaultDone c Code.OK result = d.cmdDone c Code.OK result := rfl

/-- A Vault command that ends in a refusal changes nothing but the report. -/
theorem completes_refused {s : State} {c : Cmd} {d : Dev} {code k : Nat} {i : Instr} (f : Dev → Dev) (h : s.dev.takesOwn k c d)
    (he : exec i s = s.onLive f) (hf : f s.dev = d.vaultDone c code []) :
    completes i s fun x => d.onlyCmd x [R.VLT_STAT, R.VLT_CNT] ∧ x.reports c code [] := by
  obtain ⟨htakes, hown⟩ := h
  refine completes_onLive f htakes.1 he ?_
  rw [hf]
  exact Dev.vaultDone_spec hown htakes.waits code []

/-! ### Key slots -/

/-- One key slot changed: the others stay, and so does everything outside the slots. -/
theorem Dev.setSlot_spec (d : Dev) {k : Nat} (hk : k < 32) (v : Option KeySlot) : (d.setSlot k v).vault.slots.getD k none = v ∧
    (∀ j, j < 32 → j ≠ k → (d.setSlot k v).vault.slots.getD j none = d.vault.slots.getD j none) ∧
    (d.setSlot k v).vault = { d.vault with slots := (d.setSlot k v).vault.slots } ∧ d.setSlot k v = { d with vault := (d.setSlot k v).vault } :=
  ⟨tableSet_getD_self hk, fun _ hj hne => tableSet_getD_other hj hne, rfl, rfl⟩

/-! ### KEY_IMPORT and KEY_CLEAR (R388, R393, R397) -/

section
variable {s d : Dev} {c : Cmd}

theorem Dev.keyImport_taken (h : s.takeCmd 0x30 = some (c, d)) : s.keyImport =
    if d.mode != Mode.commission || byteAt c.payload 0 < 8 || byteAt c.payload 0 > 31 then d.vaultDone c Code.CC_KEY_STATE []
    else match d.applyKey c.payload 3 with
      | .error e => d.vaultDone c e []
      | .ok x => x.vaultDone c Code.OK (beBytes 3 (x.kcv (byteAt c.payload 0)) ++ [0#8]) := by
  rw [Dev.keyImport, h] <;> rfl

theorem Dev.keyImport_open (h : s.takeCmd 0x30 = some (c, d)) (hm : d.mode = Mode.commission) (hlo : 8 ≤ byteAt c.payload 0) (hhi : byteAt c.payload 0 ≤ 31) :
    (∀ e, d.applyKey c.payload 3 = .error e → s.keyImport = d.vaultDone c e []) ∧
    (∀ x, d.applyKey c.payload 3 = .ok x → s.keyImport = x.vaultDone c Code.OK (beBytes 3 (x.kcv (byteAt c.payload 0)) ++ [0#8])) := by
  rw [Dev.keyImport_taken h, if_neg (by simp [hm, hlo, hhi])]
  constructor <;> intro x hx <;> rw [hx]

end

/-- The entry of a KEY_IMPORT judged. -/
theorem Dev.applyKey_of_bad {d : Dev} {b : Bytes} {src : Nat} (h : keyEntryBad b = true) : d.applyKey b src = .error Code.CC_KEYS := if_pos h

section
variable {d : Dev} {b : Bytes} {src : Nat} (h : keyEntryBad b = false)
include h

theorem Dev.applyKey_of_empty (hw : d.vault.slots.getD (byteAt b 2) none = none) : d.applyKey b src = .error Code.KEY_EMPTY := by
  rw [Dev.applyKey, if_neg (by simp [h]), hw]

variable {w : KeySlot} (hw : d.vault.slots.getD (byteAt b 2) none = some w)
include hw

theorem Dev.applyKey_of_purpose (hp : bit w.purpose 4 = false) : d.applyKey b src = .error Code.KEY_PURPOSE := by
  rw [Dev.applyKey, if_neg (by simp [h]), hw]
  exact if_pos (by simp [hp])

variable (hp : bit w.purpose 4 = true)
include hp

theorem Dev.applyKey_of_unwrap_fail (ht : keyUnwrap w.key (slice b 8 32) = none) : d.applyKey b src = .error Code.UNWRAP_FAIL := by
  rw [Dev.applyKey, if_neg (by simp [h]), hw]
  refine (if_neg (by simp [hp])).trans ?_
  rw [ht]

variable {t : Bytes} (ht : keyUnwrap w.key (slice b 8 32) = some t)
include ht

theorem Dev.applyKey_unwrapped : d.applyKey b src =
    if slice t 16 8 = slice b 0 2 ++ slice b 4 2 ++ zeros 4 then
      .ok (d.setSlot (byteAt b 0) (some { key := t.take 16, purpose := byteAt b 1, keyId := numAt b 4 2, source := src }))
    else .error Code.UNWRAP_FAIL := by
  rw [Dev.applyKey, if_neg (by simp [h]), hw]
  refine (if_neg (by simp [hp])).trans ?_
  rw [ht]
  by_cases hn : slice t 16 8 = slice b 0 2 ++ slice b 4 2 ++ zeros 4
  · rw [if_pos hn]
    exact if_neg (by simp [hn])
  · rw [if_neg hn]
    exact if_pos (bne_iff_ne.2 hn)

end

/-- An import loads its slot alone and answers its check value. -/
theorem Dev.imported_spec {d : Dev} {c : Cmd} (hown : c.handle = 0) (hwait : ∃ x ∈ (d.history c.handle).entries, x.id = c.reqId ∧ x.st ≠ .done)
    {k : Nat} (hk : k < 32) (v : KeySlot) : let e := d.setSlot k (some v)
    let x := e.vaultDone c Code.OK (beBytes 3 (e.kcv k) ++ [0#8])
    x.vault = { d.vault with slots := x.vault.slots } ∧ x.vault.slots.getD k none = some v ∧
    (∀ j, j < 32 → j ≠ k → x.vault.slots.getD j none = d.vault.slots.getD j none) ∧
    { d with vault := x.vault }.onlyCmd x [] ∧ x.reports c Code.OK (beBytes 3 (x.kcv k) ++ [0#8]) := by
  intro e x
  obtain ⟨hself, hother, hslots, hrest⟩ := d.setSlot_spec hk (some v)
  have hhist : e.history c.handle = d.history c.handle := rfl
  have hcmd : e.onlyCmd x [] := Dev.cmdDone_onlyCmd hown _ _
  have hrep : x.reports c Code.OK (beBytes 3 (e.kcv k) ++ [0#8]) := Dev.cmdDone_reports _ _ (Dev.waits_congr hhist hwait)
  clear_value x
  change e = { d with vault := e.vault } at hrest
  change e.vault.slots.getD k none = _ at hself
  change ∀ j, j < 32 → j ≠ k → e.vault.slots.getD j none = _ at hother
  change e.vault = { d.vault with slots := e.vault.slots } at hslots
  clear_value e
  have hvault : x.vault = e.vault := (congrArg Dev.vault hcmd.1 :)
  have hkcv : x.kcv k = e.kcv k := by rw [Dev.kcv, Dev.kcv, hvault]
  rw [hkcv, hvault]
  refine ⟨hslots, hself, hother, ?_, hrep⟩
  rw [← hrest]
  exact hcmd

theorem keyImportSettles {s : State} {c : Cmd} {d : Dev} (h : s.dev.takesOwn 0x30 c d) (hm : d.mode = Mode.commission)
    (hlo : 8 ≤ byteAt c.payload 0) (hhi : byteAt c.payload 0 ≤ 31) :
    let slot := byteAt c.payload 0
    let wrap := d.vault.slots.getD (byteAt c.payload 2) none
    let refused (code : Nat) : Prop := completes .keyImport s fun x => d.onlyCmd x [R.VLT_STAT, R.VLT_CNT] ∧ x.reports c code []
    (keyEntryBad c.payload = true → refused Code.CC_KEYS) ∧
    (keyEntryBad c.payload = false → wrap = none → refused Code.KEY_EMPTY) ∧
    (∀ w, keyEntryBad c.payload = false → wrap = some w →
      (bit w.purpose 4 = false → refused Code.KEY_PURPOSE) ∧
      (bit w.purpose 4 = true → keyUnwrap w.key (slice c.payload 8 32) = none → refused Code.UNWRAP_FAIL) ∧
      (∀ t, bit w.purpose 4 = true → keyUnwrap w.key (slice c.payload 8 32) = some t →
        let named := slice c.payload 0 2 ++ slice c.payload 4 2 ++ zeros 4
        (slice t 16 8 ≠ named → refused Code.UNWRAP_FAIL) ∧
        (slice t 16 8 = named → completes .keyImport s fun x =>
          x.vault = { d.vault with slots := x.vault.slots } ∧
          x.vault.slots.getD slot none =
            some { key := t.take 16, purpose := byteAt c.payload 1, keyId := numAt c.payload 4 2, source := 3 } ∧
          (∀ k, k < 32 → k ≠ slot → x.vault.slots.getD k none = d.vault.slots.getD k none) ∧
          { d with vault := x.vault }.onlyCmd x [] ∧ x.reports c Code.OK (beBytes 3 (x.kcv slot) ++ [0#8])))) := by
  intro slot wrap refused
  obtain ⟨htakes, hown⟩ := id h
  obtain ⟨herror, hok⟩ := Dev.keyImport_open htakes.2.1 hm hlo hhi
  have hno : ∀ code, d.applyKey c.payload 3 = .error code → refused code := fun code he => completes_refused Dev.keyImport h rfl (herror code he)
  refine ⟨fun hbad => hno _ (Dev.applyKey_of_bad hbad), fun hgood hw => hno _ (Dev.applyKey_of_empty hgood hw), fun w hgood hw => ⟨fun hp => ?_, fun hp ht => ?_, fun t hp ht => ?_⟩⟩
  · exact hno _ (Dev.applyKey_of_purpose hgood hw hp)
  · exact hno _ (Dev.applyKey_of_unwrap_fail hgood hw hp ht)
  · have happly := Dev.applyKey_unwrapped (src := 3) hgood hw hp ht
    refine ⟨fun hne => hno _ (happly.trans (if_neg hne)), fun heq => ?_⟩
    refine completes_onLive Dev.keyImport htakes.1 rfl ?_
    rw [hok _ (happly.trans (if_pos heq))]
    exact Dev.imported_spec hown htakes.waits (Nat.lt_succ_of_le hhi) _

/-- The contexts ended leave the history: the requests of the device wait on. -/
theorem Dev.endContexts_host (d : Dev) (code : Nat) (hit : Step → Bool) : (d.endContexts code hit).host = d.host :=
  Dev.forEach_keeps (P := fun e : Dev => e.host = d.host) rfl fun y slot _ hy => by
    dsimp only
    split
    next st _ =>
      split
      · have habort : ∀ z : Dev, z.host = d.host → (z.setStep slot { st with frames := [], ctx := none, phase := .ended code }).host = d.host :=
          fun z hz => (congrArg Dev.host (z.onChan_frame slot fun c => { c with step := some { st with frames := [], ctx := none, phase := .ended code } }) :).trans hz
        refine habort _ ?_
        split
        · exact (congrArg Dev.host ((Dev.RadioPart.refl y).abortOn _).rest :).trans hy
        · exact hy
      · exact hy
    · exact hy

/-- With no context in a step, none is ended. -/
theorem Dev.endContexts_fixed {d : Dev} (h : ∀ y ∈ d.chans, ∀ st, y.2.step = some st → st.ctx = none) (code : Nat) (hit : Step → Bool) :
    d.endContexts code hit = d := by
  refine Dev.forEach_fixed fun slot _ => ?_
  dsimp only
  split
  next st hst =>
    obtain ⟨y, hy, hs⟩ := Option.bind_eq_some_iff.1 hst
    obtain ⟨q, hq, rfl⟩ := Option.map_eq_some_iff.1 hy
    refine if_neg ?_
    simp [h q (List.mem_of_find?_eq_some hq) st hs]
  · rfl

theorem keyClearSettles {s : State} {c : Cmd} {d : Dev} (h : s.dev.takesOwn 0x31 c d) (hm : d.mode = Mode.commission)
    (hlo : 8 ≤ byteAt c.payload 0) (hhi : byteAt c.payload 0 ≤ 31) :
    let slot := byteAt c.payload 0
    (completes .keyClear s fun x => x.vault.slots.getD slot none = none ∧
      (∀ k, k < 32 → k ≠ slot → x.vault.slots.getD k none = d.vault.slots.getD k none) ∧ x.reports c Code.OK []) ∧
    ((∀ y ∈ d.chans, ∀ st, y.2.step = some st → st.ctx = none) → completes .keyClear s fun x =>
      x.vault = { d.vault with slots := x.vault.slots } ∧ { d with vault := x.vault }.onlyCmd x [] ∧ x.reports c Code.OK []) := by
  intro slot
  obtain ⟨htakes, hown⟩ := id h
  have hclear : s.dev.keyClear = ((d.setSlot slot none).endContexts Code.KEY_EMPTY fun st => st.tag.keyslot % 32 == slot).cmdDone c Code.OK [] := by
    rw [Dev.keyClear, htakes.2.1]
    exact if_neg (by simp [hm, hlo, hhi])
  obtain ⟨hself, hother, hslots, hrest⟩ := d.setSlot_spec (Nat.lt_succ_of_le hhi) none
  refine ⟨?_, fun hctx => ?_⟩
  · refine completes_onLive Dev.keyClear htakes.1 rfl ?_
    rw [hclear]
    obtain ⟨-, -, hvault, -⟩ := Dev.KeepsStores.endContexts (d.setSlot slot none) Code.KEY_EMPTY fun st => st.tag.keyslot % 32 == slot
    have hhost := Dev.endContexts_host (d.setSlot slot none) Code.KEY_EMPTY fun st => st.tag.keyslot % 32 == slot
    generalize (d.setSlot slot none).endContexts Code.KEY_EMPTY _ = e at *
    have hhist : e.history c.handle = d.history c.handle := by
      rw [hown]
      exact congrArg HostPort.hist hhost
    have hcmd := Dev.cmdDone_onlyCmd (d := e) hown Code.OK []
    have hrep := Dev.cmdDone_reports Code.OK [] (Dev.waits_congr hhist htakes.waits)
    generalize e.cmdDone c Code.OK [] = x at *
    have hv : x.vault = (d.setSlot slot none).vault := (congrArg Dev.vault hcmd.1 :).trans hvault
    rw [hv]
    exact ⟨hself, hother, hrep⟩
  · refine completes_onLive Dev.keyClear htakes.1 rfl ?_
    rw [hclear, Dev.endContexts_fixed (d := d.setSlot slot none) hctx]
    have hhist : (d.setSlot slot none).history c.handle = d.history c.handle := rfl
    generalize d.setSlot slot none = e at *
    have hcmd := Dev.cmdDone_onlyCmd (d := e) hown Code.OK []
    have hrep := Dev.cmdDone_reports Code.OK [] (Dev.waits_congr hhist htakes.waits)
    generalize e.cmdDone c Code.OK [] = x at *
    have hv : x.vault = e.vault := (congrArg Dev.vault hcmd.1 :)
    rw [hv]
    refine ⟨hslots, ?_, hrep⟩
    rw [← hrest]
    exact hcmd

/-! ### SESSION_OPEN and SESSION_CLOSE (R396) -/

/-- The device with a session opened on a base slot, before the report. -/
def Dev.sessioned (d : Dev) (c : Cmd) (k : KeySlot) : Dev :=
  let nonce := (List.range 8).map fun i => Config.freeByte (d.freeCtr + i)
  let key := kdf k.key [0x53#8, 0x45#8, 0x53#8, 0x53#8, 0x49#8, 0x4F#8, 0x4E#8] (slice c.payload 4 8 ++ nonce)
  let e := { d with freeCtr := d.freeCtr + 8 }.setSlot 4 (some { key := key, purpose := 4, keyId := 0, source := 1 })
  let e := ((e.setFlag F.VLT_SESSION_ACTIVE true).setFld F.VLT_SESSION_BASE (byteAt c.payload 0)).setReg R.HOST_SESSION_CTR 0#32
  { e with host := { e.host with alive := none } }.setFlag F.HOST_STAT_ALIVE_ANY true

section
variable {s d : Dev} {c : Cmd} (h : s.takeCmd 0x32 = some (c, d))
include h

theorem Dev.sessionOpen_taken : s.sessionOpen =
    if byteAt c.payload 0 = 4 || byteAt c.payload 0 > 31 then d.vaultDone c Code.CC_KEY_STATE []
    else match d.vault.slots.getD (byteAt c.payload 0) none with
      | none => d.vaultDone c Code.KEY_EMPTY []
      | some k =>
        if !bit k.purpose 2 then d.vaultDone c Code.KEY_PURPOSE []
        else if !d.vault.drbgOk then d.vaultDone c Code.DRBG_FAIL []
        else (d.sessioned c k).vaultDone c Code.OK ((List.range 8).map fun i => Config.freeByte (d.freeCtr + i)) := by
  rw [Dev.sessionOpen, h] <;> rfl

theorem Dev.sessionOpen_on {k : KeySlot} (h4 : byteAt c.payload 0 ≠ 4) (hle : byteAt c.payload 0 ≤ 31)
    (hk : d.vault.slots.getD (byteAt c.payload 0) none = some k) : s.sessionOpen =
    if bit k.purpose 2 = false then d.vaultDone c Code.KEY_PURPOSE []
    else if d.vault.drbgOk = false then d.vaultDone c Code.DRBG_FAIL []
    else (d.sessioned c k).vaultDone c Code.OK ((List.range 8).map fun i => Config.freeByte (d.freeCtr + i)) := by
  rw [Dev.sessionOpen_taken h, if_neg (by simp [h4, hle]), hk]
  simp only [Bool.not_eq_true']

end

theorem Dev.sessioned_spec (d : Dev) (c : Cmd) (k : KeySlot) (hbase : byteAt c.payload 0 ≤ 31) : let e := d.sessioned c k
    e.vault.slots.getD 4 none = some (KeySlot.mk (kdf k.key [0x53#8, 0x45#8, 0x53#8, 0x53#8, 0x49#8, 0x4F#8, 0x4E#8]
      (slice c.payload 4 8 ++ (List.range 8).map fun i => Config.freeByte (d.freeCtr + i))) 4 0 1) ∧
    (∀ j, j < 32 → j ≠ 4 → e.vault.slots.getD j none = d.vault.slots.getD j none) ∧
    e.reg R.HOST_SESSION_CTR = 0#32 ∧ e.flag F.VLT_SESSION_ACTIVE = true ∧ e.fld F.VLT_SESSION_BASE = byteAt c.payload 0 ∧
    { d with vault := e.vault, freeCtr := d.freeCtr + 8, host := { d.host with alive := none } }.onlyRegs e
      [R.HOST_SESSION_CTR, R.VLT_SESSION, R.HOST_STAT] := by
  intro e
  obtain ⟨v, hv⟩ : ∃ v : Option KeySlot, v = some (KeySlot.mk (kdf k.key [0x53#8, 0x45#8, 0x53#8, 0x53#8, 0x49#8, 0x4F#8, 0x4E#8]
      (slice c.payload 4 8 ++ (List.range 8).map fun i => Config.freeByte (d.freeCtr + i))) 4 0 1) := ⟨_, rfl⟩
  obtain ⟨hself, hother, -, -⟩ := d.setSlot_spec (k := 4) (by decide) v
  obtain ⟨x, hx⟩ : ∃ x, x = { d with vault := (d.setSlot 4 v).vault, freeCtr := d.freeCtr + 8, host := { d.host with alive := none } } := ⟨_, rfl⟩
  have he : e = (((x.setFlag F.VLT_SESSION_ACTIVE true).setFld F.VLT_SESSION_BASE (byteAt c.payload 0)).setReg R.HOST_SESSION_CTR 0#32).setFlag F.HOST_STAT_ALIVE_ANY true := by
    rw [hx, hv]
    rfl
  clear_value e
  have hvault : e.vault = (d.setSlot 4 v).vault := by rw [he, hx]; rfl
  have hframe : x.onlyRegs e [R.HOST_SESSION_CTR, R.VLT_SESSION, R.HOST_STAT] := by
    rw [he]
    exact (((Dev.onlyRegs_refl x _).fld.fld).reg (by decide)).fld
  refine ⟨by rw [hvault, hself, hv], fun j hj hne => by rw [hvault, hother j hj hne], ?_, ?_, ?_, ?_⟩
  · rw [he]
    exact (Dev.reg_setFld_other (by decide)).trans (Dev.reg_setReg _ _ _)
  · rw [he]
    refine (Dev.flag_setFlag_other (by decide) (by decide)).trans ((Dev.flag_eq_of_fld (Dev.fld_setReg_other (by decide))).trans ?_)
    exact (Dev.flag_setFld_other (by decide) (by decide)).trans (Dev.flag_setFlag rfl (by decide))
  · rw [he]
    refine (Dev.fld_setFlag_other (by decide) (by decide)).trans ((Dev.fld_setReg_other (by decide)).trans ?_)
    exact Dev.fld_setFld_small (by decide) (Nat.lt_succ_of_le hbase)
  · rw [hvault]
    exact hx ▸ hframe

theorem Dev.sessionClose_taken {s d : Dev} {c : Cmd} (h : s.takeCmd 0x33 = some (c, d)) : s.sessionClose =
    (((d.setSlot 4 none).setFlag F.VLT_SESSION_ACTIVE false).setReg R.HOST_SESSION_CTR 0#32).cmdDone c Code.OK [] := by
  rw [Dev.sessionClose, h] <;> rfl

/-- A command of the device reported on a device that differs in registers from one whose history is that of the command. -/
theorem Dev.cmdDone_after {d x e : Dev} {c : Cmd} {l : List Nat} (hown : c.handle = 0) (hwait : ∃ y ∈ (d.history c.handle).entries, y.id = c.reqId ∧ y.st ≠ .done)
    (he : x.onlyRegs e l) (hx : x.host.hist = d.host.hist) (hl : R.HOST_EVT_STAT ∉ l) (result : Bytes) : let y := e.cmdDone c Code.OK result
    x.onlyCmd y l ∧ y.reports c Code.OK result ∧ y.vault = e.vault ∧ ∀ a, a ∈ l → y.reg a = e.reg a := by
  intro y
  have hcmd : e.onlyCmd y [] := Dev.cmdDone_onlyCmd hown _ _
  have hhist : e.history c.handle = d.history c.handle := by
    rw [hown]
    exact (congrArg (fun z : Dev => z.host.hist) he.1).trans hx
  exact ⟨Dev.onlyCmd_of_onlyRegs he hcmd, Dev.cmdDone_reports _ _ (Dev.waits_congr hhist hwait), (congrArg Dev.vault hcmd.1 :),
    fun a ha => hcmd.2 a fun hm => hl (List.mem_singleton.1 hm ▸ ha)⟩

theorem sessionOpenSettles {s : State} {c : Cmd} {d : Dev} (h : s.dev.takesOwn 0x32 c d) (h4 : byteAt c.payload 0 ≠ 4) (hle : byteAt c.payload 0 ≤ 31) :
    let base := byteAt c.payload 0
    let refused (code : Nat) : Prop := completes .sessionOpen s fun x => d.onlyCmd x [R.VLT_STAT, R.VLT_CNT] ∧ x.reports c code []
    (d.vault.slots.getD base none = none → refused Code.KEY_EMPTY) ∧
    (∀ k, d.vault.slots.getD base none = some k → bit k.purpose 2 = false → refused Code.KEY_PURPOSE) ∧
    (∀ k, d.vault.slots.getD base none = some k → bit k.purpose 2 = true → d.vault.drbgOk = false → refused Code.DRBG_FAIL) ∧
    (∀ k, d.vault.slots.getD base none = some k → bit k.purpose 2 = true → d.vault.drbgOk = true → completes .sessionOpen s fun x =>
      let nonce := (List.range 8).map fun i => Config.freeByte (d.freeCtr + i)
      x.vault.slots.getD 4 none = some (KeySlot.mk
        (kdf k.key [0x53#8, 0x45#8, 0x53#8, 0x53#8, 0x49#8, 0x4F#8, 0x4E#8] (slice c.payload 4 8 ++ nonce)) 4 0 1) ∧
      (∀ j, j < 32 → j ≠ 4 → x.vault.slots.getD j none = d.vault.slots.getD j none) ∧
      x.reg R.HOST_SESSION_CTR = 0#32 ∧ x.flag F.VLT_SESSION_ACTIVE = true ∧ x.fld F.VLT_SESSION_BASE = base ∧
      { d with vault := x.vault, freeCtr := d.freeCtr + 8, host := { d.host with alive := none } }.onlyCmd x
        [R.HOST_SESSION_CTR, R.VLT_SESSION, R.HOST_STAT] ∧ x.reports c Code.OK nonce) := by
  intro base refused
  obtain ⟨htakes, hown⟩ := id h
  have hno : ∀ code, s.dev.sessionOpen = d.vaultDone c code [] → refused code := fun _ he => completes_refused Dev.sessionOpen h rfl he
  have hon := fun k (hk : d.vault.slots.getD base none = some k) => Dev.sessionOpen_on htakes.2.1 h4 hle hk
  refine ⟨fun hk => hno _ ?_, fun k hk hp => hno _ ((hon k hk).trans (if_pos hp)), fun k hk hp hd => hno _ ?_, fun k hk hp hd => ?_⟩
  · rw [Dev.sessionOpen_taken htakes.2.1, if_neg (by simp [h4, hle]), hk]
  · exact (hon k hk).trans ((if_neg (by simp [hp])).trans (if_pos hd))
  · refine completes_onLive Dev.sessionOpen htakes.1 rfl ?_
    intro nonce
    rw [(hon k hk).trans ((if_neg (by simp [hp])).trans (if_neg (by simp [hd]))), Dev.vaultDone_ok]
    obtain ⟨hkey, hother, hctr, hactive, hshown, hframe⟩ := d.sessioned_spec c k hle
    generalize d.sessioned c k = e at *
    obtain ⟨hcmd, hrep, hvault, hregs⟩ := Dev.cmdDone_after hown htakes.waits hframe rfl (by decide) nonce
    generalize e.cmdDone c Code.OK nonce = x at *
    refine ⟨by rw [hvault]; exact hkey, fun j hj hne => by rw [hvault]; exact hother j hj hne, (hregs _ (by decide)).trans hctr,
      (Dev.flag_eq_of_fld (Dev.fld_eq_of_reg (hregs _ (by decide)))).trans hactive, (Dev.fld_eq_of_reg (hregs _ (by decide))).trans hshown, ?_, hrep⟩
    rw [hvault]
    exact hcmd

theorem sessionCloseSettles {s : State} {c : Cmd} {d : Dev} (h : s.dev.takesOwn 0x33 c d) : completes .sessionClose s fun x =>
    x.vault.slots.getD 4 none = none ∧ x.flag F.VLT_SESSION_ACTIVE = false ∧ x.reg R.HOST_SESSION_CTR = 0#32 ∧
    (∀ k, k < 32 → k ≠ 4 → x.vault.slots.getD k none = d.vault.slots.getD k none) ∧
    { d with vault := x.vault }.onlyCmd x [R.HOST_SESSION_CTR, R.VLT_SESSION] ∧ x.reports c Code.OK [] := by
  obtain ⟨htakes, hown⟩ := id h
  refine completes_onLive Dev.sessionClose htakes.1 rfl ?_
  rw [Dev.sessionClose_taken htakes.2.1]
  obtain ⟨hself, hother, -, hrest⟩ := d.setSlot_spec (k := 4) (by decide) none
  have hhist : (d.setSlot 4 none).host.hist = d.host.hist := rfl
  generalize d.setSlot 4 none = y at *
  have hframe : y.onlyRegs ((y.setFlag F.VLT_SESSION_ACTIVE false).setReg R.HOST_SESSION_CTR 0#32) [R.HOST_SESSION_CTR, R.VLT_SESSION] :=
    ((Dev.onlyRegs_refl y _).fld).reg (by decide)
  have hactive : ((y.setFlag F.VLT_SESSION_ACTIVE false).setReg R.HOST_SESSION_CTR 0#32).flag F.VLT_SESSION_ACTIVE = false :=
    (Dev.flag_eq_of_fld (Dev.fld_setReg_other (by decide))).trans (Dev.flag_setFlag rfl (by decide))
  have hctr : ((y.setFlag F.VLT_SESSION_ACTIVE false).setReg R.HOST_SESSION_CTR 0#32).reg R.HOST_SESSION_CTR = 0#32 := Dev.reg_setReg _ _ _
  generalize (y.setFlag F.VLT_SESSION_ACTIVE false).setReg R.HOST_SESSION_CTR 0#32 = e at *
  obtain ⟨hcmd, hrep, hvault, hregs⟩ := Dev.cmdDone_after hown htakes.waits hframe hhist (by decide) []
  generalize e.cmdDone c Code.OK [] = x at *
  have hv : x.vault = y.vault := hvault.trans (congrArg Dev.vault hframe.1 :)
  refine ⟨by rw [hv]; exact hself, (Dev.flag_eq_of_fld (Dev.fld_eq_of_reg (hregs _ (by decide)))).trans hactive, (hregs _ (by decide)).trans hctr,
    fun k hk hne => by rw [hv]; exact hother k hk hne, ?_, hrep⟩
  rw [hv, ← hrest]
  exact hcmd

/-- Settles O26: each command's verdict, then what a changed slot and the report leave. -/
theorem keysAndSessions : Obligations.KeysAndSessions := by
  unfold Obligations.KeysAndSessions
  refine ⟨fun s c d => ?_, fun s c d => ?_⟩
  · intro slot wrap refused
    have hshut : d.mode ≠ Mode.commission ∨ slot < 8 ∨ 31 < slot → (d.mode != Mode.commission || decide (slot < 8) || decide (slot > 31)) = true := by simp [or_assoc]
    refine ⟨fun h hbad => completes_refused Dev.keyImport h rfl ?_, fun h hbad => completes_refused Dev.keyClear h rfl ?_,
      fun h => keyImportSettles h, fun h => keyClearSettles h⟩
    · exact (Dev.keyImport_taken h.1.2.1).trans (if_pos (hshut hbad))
    · rw [Dev.keyClear, h.1.2.1]
      exact if_pos (hshut hbad)
  · intro base refused
    refine ⟨fun h hbad => completes_refused Dev.sessionOpen h rfl ?_, fun h => sessionOpenSettles h, fun h => sessionCloseSettles h⟩
    exact (Dev.sessionOpen_taken h.1.2.1).trans (if_pos (by simpa [base] using hbad))

end Sys2Proof.Machine
end

section
/-!
PROOFS. REARM and TIME_SET (R62, R94, R407, R408, R468).
-/

namespace Sys2Proof.Machine

open Sys2Proof

-- one proof after another: the check bounds the memory that the stacks of parallel proofs take
set_option Elab.async false

/-! ### Numbers in byte strings (R3) -/

theorem foldl_bytes_beBytes (n v a : Nat) :
    (beBytes n v).foldl (fun a b => a * 256 + b.toNat) a = a * 256 ^ n + v % 256 ^ n := by
  induction n generalizing a with
  | zero => simp [beBytes, Nat.mod_one]
  | succ n ih =>
    have hbyte : (BitVec.ofNat 8 (v >>> (8 * n))).toNat = v / 256 ^ n % 256 := by
      rw [BitVec.toNat_ofNat, Nat.shiftRight_eq_div_pow, Nat.pow_mul]
    rw [beBytes, List.foldl_cons, ih, hbyte, Nat.pow_succ, Nat.mod_mul]
    ring

theorem beNat_beBytes (n v : Nat) : beNat (beBytes n v) = v % 256 ^ n := by
  rw [beNat, foldl_bytes_beBytes, Nat.zero_mul, Nat.zero_add]

theorem beNat_lt (bs : Bytes) : beNat bs < 256 ^ bs.length := by
  have h : ∀ (l : Bytes) (a : Nat), l.foldl (fun a b => a * 256 + b.toNat) a < (a + 1) * 256 ^ l.length := by
    intro l
    induction l with
    | nil => intro a; simp
    | cons b l ih =>
      intro a
      have hb : b.toNat < 256 := b.isLt
      rw [List.foldl_cons, List.length_cons, Nat.pow_succ, Nat.mul_comm (256 ^ l.length), ← Nat.mul_assoc]
      exact Nat.lt_of_lt_of_le (ih _) (Nat.mul_le_mul_right _ (by omega))
  simpa [beNat] using h bs 0

theorem numAt_lt (bs : Bytes) (i n : Nat) : numAt bs i n < 256 ^ n := by
  have h := beNat_lt ((List.range n).map fun k => bs.getD (i + k) 0#8)
  rwa [List.length_map, List.length_range] at h

/-- The number that stands between two strings. -/
theorem numAt_append (a b c : Bytes) : numAt (a ++ b ++ c) a.length b.length = beNat b := by
  have h : ((List.range b.length).map fun k => (a ++ b ++ c).getD (a.length + k) 0#8) = b := by
    refine List.ext_getElem (by simp) fun k hk hb => ?_
    rw [List.getElem_map, List.getElem_range, List.getD_eq_getElem?_getD, List.append_assoc, List.getElem?_append_right (by omega), Nat.add_sub_cancel_left,
      List.getElem?_append_left hb, List.getElem?_eq_getElem hb]
    rfl
  rw [numAt, h]

/-! ### A command of the device taken -/

theorem Dev.takeCmd_keeps {s d : Dev} {code : Nat} {c : Cmd} (h : s.takeCmd code = some (c, d)) : s.QueueAndHistory d := by
  have hpass : s.QueueAndHistory s.passMessages := by
    unfold Dev.passMessages
    have hfold : ∀ (l : List Cmd) (e : Dev), s.QueueAndHistory e → s.QueueAndHistory (l.foldl (fun d c => d.reqPending c.handle c.reqId) e) := by
      intro l
      induction l with
      | nil => exact fun _ he => he
      | cons c l ih => exact fun e he => ih _ (he.onHistory c.handle _)
    exact hfold _ _ ((Dev.QueueAndHistory.refl s).setQueue _)
  unfold Dev.takeCmd at h
  dsimp only at h
  generalize s.passMessages = p at *
  split at h
  · cases h
  next c' rest _ =>
    split at h
    · obtain ⟨rfl, rfl⟩ := h
      exact (hpass.setQueue rest).onHistory _ _
    · cases h

theorem Dev.takes.phase {s d : Dev} {code : Nat} {c : Cmd} (h : s.takes code c d) : d.phase = .running :=
  (congrArg Dev.phase (Dev.takeCmd_keeps h.2.1).1).trans h.1

/-! ### REARM (R407, R408) -/

section
variable {s d : Dev} {c : Cmd} {fu : Fuses}

theorem Dev.rearmChallenge_of (h : s.takeCmd 0x34 = some (c, d)) (h1 : byteAt c.payload 0 = 1) : s.rearmChallenge fu =
    if d.latched = false then d.vaultDone c Code.REARM_DENIED [] else d.vaultDone c Code.OK (d.rearmMsg fu) := by
  rw [Dev.rearmChallenge, h]
  dsimp only
  rw [if_neg (by simp [h1])]
  simp only [Bool.not_eq_true']

/-- The device with the time of the check kept. -/
def Dev.rearmTried (d : Dev) : Dev := d.onVault fun v => { v with rearmAt := some d.time }

theorem Dev.rearmResponse_of (h : s.takeCmd 0x34 = some (c, d)) (h2 : byteAt c.payload 0 = 2) : s.rearmResponse fu =
    if d.rearmDenied fu = true then ((d.setFld F.VLT_REARM_LAST_CODE Code.REARM_DENIED).vaultDone c Code.REARM_DENIED [], false)
    else if cmac (fu.derive [0x52#8, 0x45#8, 0x41#8, 0x52#8, 0x4D#8]) (d.rearmMsg fu) = slice c.payload 4 16 then
      ((((d.rearmTried.setCs 0x20 0).setCs 0x27 (d.csw 0x27 + 1)).setFld F.VLT_REARM_LAST_CODE Code.OK).vaultDone c Code.OK [], true)
    else (((d.rearmTried.setFld F.VLT_REARM_LAST_CODE Code.REARM_FAIL).bump F.VLT_REARM_FAILS 1).vaultDone c Code.REARM_FAIL [], false) := by
  rw [Dev.rearmResponse, h]
  dsimp only
  rw [if_neg (by simp [h2])]
  by_cases hd : d.rearmDenied fu = true
  · rw [if_pos hd, if_pos hd]
  rw [if_neg hd, if_neg hd]
  by_cases hc : cmac (fu.derive [0x52#8, 0x45#8, 0x41#8, 0x52#8, 0x4D#8]) (d.rearmMsg fu) = slice c.payload 4 16
  · rw [if_pos hc]
    exact if_neg (by rw [bne_iff_ne, not_not]; exact hc)
  · rw [if_neg hc]
    exact if_pos (bne_iff_ne.2 hc)

theorem Dev.rearm_running {nor : Mem} {ok : BitVec 4} (hrun : s.phase = .running) : s.rearm nor fu ok =
    if (s.rearmResponse fu).2 = false then (s.rearmResponse fu).1
    else if (s.rearmResponse fu).1.phase = .running then ((s.rearmResponse fu).1.emergency ok).restart nor fu 64
    else (s.rearmResponse fu).1.restart nor fu 64 := by
  unfold Dev.rearm
  rw [if_neg (by simp [Dev.live_of_running hrun])]
  simp only [Dev.live, beq_iff_eq, Bool.not_eq_true']

end

/-- A Vault command of the device reported on a device that differs in nothing the report reads. -/
theorem Dev.vaultDone_after {d e : Dev} {c : Cmd} {code : Nat} {result : Bytes} (hown : c.handle = 0)
    (hwait : ∃ y ∈ (d.history c.handle).entries, y.id = c.reqId ∧ y.st ≠ .done) (he : e.host.hist = d.host.hist) : let x := e.vaultDone c code result
    x.reports c code result ∧ x.cs = e.cs ∧ x.vault = e.vault ∧ x.phase = e.phase ∧
      ∀ a, a ∉ [R.HOST_EVT_STAT, R.VLT_STAT, R.VLT_CNT] → x.reg a = e.reg a := by
  intro x
  have hhist : e.history c.handle = d.history c.handle := by
    rw [hown]
    exact he
  obtain ⟨hcmd, hrep⟩ := Dev.vaultDone_spec hown (Dev.waits_congr hhist hwait) code result
  exact ⟨hrep, (congrArg Dev.cs hcmd.1 :), (congrArg Dev.vault hcmd.1 :), (congrArg Dev.phase hcmd.1 :), hcmd.2⟩

theorem rearmSettles {s : State} {c : Cmd} {d : Dev} (flush : BitVec 4) (h : s.dev.takesOwn 0x34 c d) :
    (byteAt c.payload 0 = 1 → d.latched = true → completes .rearmChallenge s fun x =>
      x.reports c Code.OK (beBytes 8 s.fuses.serial ++ beBytes 4 (d.csw 9) ++ beBytes 4 (d.csw 0x27)) ∧ x.cs = d.cs) ∧
    (byteAt c.payload 0 = 1 → d.latched = false → completes .rearmChallenge s fun x => x.reports c Code.REARM_DENIED [] ∧ x.cs = d.cs) ∧
    (byteAt c.payload 0 = 2 → d.rearmDenied s.fuses = true → completes (.rearmResponse flush) s fun x =>
      x.reports c Code.REARM_DENIED [] ∧ x.cs = d.cs ∧ x.fld F.VLT_REARM_LAST_CODE = Code.REARM_DENIED) ∧
    (byteAt c.payload 0 = 2 → d.rearmDenied s.fuses = false →
      cmac (s.fuses.derive [0x52#8, 0x45#8, 0x41#8, 0x52#8, 0x4D#8]) (d.rearmMsg s.fuses) ≠ slice c.payload 4 16 →
      completes (.rearmResponse flush) s fun x => x.reports c Code.REARM_FAIL [] ∧ x.cs = d.cs ∧ x.vault.rearmAt = some d.time ∧
        x.fld F.VLT_REARM_FAILS = satAdd 255 (d.fld F.VLT_REARM_FAILS) 1) ∧
    (byteAt c.payload 0 = 2 → d.rearmDenied s.fuses = false →
      cmac (s.fuses.derive [0x52#8, 0x45#8, 0x41#8, 0x52#8, 0x4D#8]) (d.rearmMsg s.fuses) = slice c.payload 4 16 →
      completes (.rearmResponse flush) s fun x => ∃ e : Dev, x = (e.emergency flush).restart s.nor s.fuses 64 ∧ e.latched = false ∧
        e.csw 0x27 = (d.csw 0x27 + 1) % 2 ^ 32 ∧ e.reports c Code.OK []) := by
  obtain ⟨htakes, hown⟩ := id h
  obtain ⟨hrun, htake, -⟩ := id htakes
  have hrearm := Dev.rearm_running (nor := s.nor) (fu := s.fuses) (ok := flush) hrun
  refine ⟨fun h1 hl => ?_, fun h1 hl => ?_, fun h2 hd => ?_, fun h2 hd hne => ?_, fun h2 hd heq => ?_⟩
  · refine completes_onDev (·.rearmChallenge s.fuses) rfl ?_
    rw [Dev.rearmChallenge_of htake h1, if_neg (by simp [hl])]
    obtain ⟨hrep, hcs, -⟩ := Dev.vaultDone_after (code := Code.OK) (result := d.rearmMsg s.fuses) (e := d) hown htakes.waits rfl
    exact ⟨hrep, hcs⟩
  · refine completes_onDev (·.rearmChallenge s.fuses) rfl ?_
    rw [Dev.rearmChallenge_of htake h1, if_pos hl]
    obtain ⟨hrep, hcs, -⟩ := Dev.vaultDone_after (code := Code.REARM_DENIED) (result := []) (e := d) hown htakes.waits rfl
    exact ⟨hrep, hcs⟩
  · refine completes_onDev (·.rearm s.nor s.fuses flush) rfl ?_
    have hresp := (Dev.rearmResponse_of (fu := s.fuses) htake h2).trans (if_pos hd)
    rw [hrearm, hresp, if_pos rfl]
    obtain ⟨hrep, hcs, -, -, hreg⟩ := Dev.vaultDone_after (code := Code.REARM_DENIED) (result := [])
      (e := d.setFld F.VLT_REARM_LAST_CODE Code.REARM_DENIED) hown htakes.waits rfl
    exact ⟨hrep, hcs, (Dev.fld_eq_of_reg (hreg _ (by decide))).trans (Dev.fld_setFld_small (by decide) (by decide))⟩
  · refine completes_onDev (·.rearm s.nor s.fuses flush) rfl ?_
    have hresp := (Dev.rearmResponse_of (fu := s.fuses) htake h2).trans ((if_neg (by simp [hd])).trans (if_neg hne))
    rw [hrearm, hresp, if_pos rfl]
    obtain ⟨hrep, hcs, hvault, -, hreg⟩ := Dev.vaultDone_after (code := Code.REARM_FAIL) (result := [])
      (e := (d.rearmTried.setFld F.VLT_REARM_LAST_CODE Code.REARM_FAIL).bump F.VLT_REARM_FAILS 1) hown htakes.waits rfl
    refine ⟨hrep, hcs, congrArg Vault.rearmAt hvault, (Dev.fld_eq_of_reg (hreg _ (by decide))).trans ?_⟩
    rw [Dev.fld_bump (by decide)]
    exact congrArg (fun k => satAdd 255 k 1) (Dev.fld_setFld_other (d := d.rearmTried) (by decide) (by decide))
  · refine completes_onDev (·.rearm s.nor s.fuses flush) rfl ?_
    have hresp := (Dev.rearmResponse_of (fu := s.fuses) htake h2).trans ((if_neg (by simp [hd])).trans (if_pos heq))
    rw [hrearm, hresp, if_neg (by simp)]
    have hword : ∀ k, (((d.rearmTried.setCs 0x20 0).setCs 0x27 (d.csw 0x27 + 1)).setFld F.VLT_REARM_LAST_CODE Code.OK).csw k =
      ((d.rearmTried.setCs 0x20 0).setCs 0x27 (d.csw 0x27 + 1)).csw k := fun _ => rfl
    have hphase : (((d.rearmTried.setCs 0x20 0).setCs 0x27 (d.csw 0x27 + 1)).setFld F.VLT_REARM_LAST_CODE Code.OK).phase = .running := htakes.phase
    have hsame : (((d.rearmTried.setCs 0x20 0).setCs 0x27 (d.csw 0x27 + 1)).setFld F.VLT_REARM_LAST_CODE Code.OK).host.hist = d.host.hist := rfl
    generalize ((d.rearmTried.setCs 0x20 0).setCs 0x27 (d.csw 0x27 + 1)).setFld F.VLT_REARM_LAST_CODE Code.OK = e at *
    obtain ⟨hrep, hcs, -, hph, -⟩ := Dev.vaultDone_after (code := Code.OK) (result := []) hown htakes.waits hsame
    generalize e.vaultDone c Code.OK [] = x at *
    have hx : ∀ k, x.csw k = e.csw k := fun k => by rw [Dev.csw, hcs, Dev.csw]
    dsimp only
    rw [if_pos (hph.trans hphase)]
    refine ⟨x, rfl, ?_, ?_, hrep⟩
    · rw [Dev.latched, hx, hword, Dev.csw_setCs_other (by decide), Dev.csw_setCs]
      rfl
    · rw [hx, hword, Dev.csw_setCs]

/-! ### TIME_SET (R62, R94, R468) -/

theorem Dev.timeSet_of {s d : Dev} {c : Cmd} (h : s.takeCmd 0x40 = some (c, d)) : s.timeSet =
    if numAt c.payload 0 6 = 0 ∨ zeroAt c.payload 6 7 = false then d.cmdDone c Code.CC_TIME_SET []
    else if d.journalling = true ∧ (d.jrn.full = true ∨ d.spent = true) then d.cmdDone c Code.JRNL_NO_ROOM []
    else if d.journalling = false then (d.setWall 1 c.tr (numAt c.payload 0 6)).cmdDone c Code.OK []
    else (d.setWall 1 c.tr (numAt c.payload 0 6)).post (timesync 1 d.unsync d.attic.rcSpan
      (if d.attic.wallSet then d.wallAt c.tr else 0) (numAt c.payload 0 6) c.tr c.reqId (.timeSet c.reqId)) := by
  have hj : (d.setWall 1 c.tr (numAt c.payload 0 6)).journalling = d.journalling := by
    have hfld : (d.setWall 1 c.tr (numAt c.payload 0 6)).fld F.JRN_STAT_STATE = d.fld F.JRN_STAT_STATE :=
      (Dev.fld_bump_other (by decide) (by decide)).trans (Dev.fld_setFld_other (by decide) (by decide))
    rw [Dev.journalling, hfld, Dev.journalling]
  rw [Dev.timeSet, h]
  dsimp only
  rw [hj]
  simp only [Bool.or_eq_true, Bool.and_eq_true, decide_eq_true_eq, Bool.not_eq_true']

/-- Wall time set: what the device shows and keeps. -/
theorem Dev.setWall_spec (d : Dev) (src tr : Nat) {ms : Nat} (hms : ms < 2 ^ 48) (hsrc : src < 2 ^ (F.TIME_STAT_LAST_SRC.hi + 1 - F.TIME_STAT_LAST_SRC.lo)) :
    let e := d.setWall src tr ms
    e.wallAt tr = ms ∧ e.attic.wallSet = true ∧ e.attic.rcSpan = !d.attic.crystal ∧ e.time = d.time ∧ e.fld F.TIME_STAT_LAST_SRC = src ∧ e.host = d.host := by
  intro e
  have hoff : e.attic.offset = (ms : Int) * 1000 - tr := rfl
  refine ⟨?_, rfl, rfl, rfl, ?_, rfl⟩
  · have hsum : (tr : Int) + ((ms : Int) * 1000 - tr) = ms * 1000 := by ring
    have hdiv : ((ms : Int) * 1000).fdiv 1000 = ms := Int.mul_fdiv_cancel _ (by decide)
    have hmod : (ms : Int) % 2 ^ 48 = ms := Int.emod_eq_of_lt (by omega) (by exact_mod_cast hms)
    rw [Dev.wallAt, hoff, hsum, hdiv, hmod, Int.toNat_natCast]
  · exact (Dev.fld_bump_other (by decide) (by decide)).trans (Dev.fld_setFld_small (by decide) hsrc)

/-- The new wall time in a TIMESYNC record. -/
theorem timesync_new (src : Nat) (unsync rc : Bool) (old time id : Nat) (t : Ticket) {new : Nat} (h : new < 2 ^ 48) :
    numAt (timesync src unsync rc old new time id t).payload 8 6 = new := by
  have hpayload : (timesync src unsync rc old new time id t).payload = (beBytes 1 src ++ beBytes 1 (b2n unsync + 2 * b2n rc) ++ beBytes 6 old) ++
      beBytes 6 new ++ (beBytes 8 time ++ beBytes 2 id ++ beBytes 4 (wallStep old new)) := by
    rw [timesync]
    simp only [List.append_assoc]
  have hat := numAt_append (beBytes 1 src ++ beBytes 1 (b2n unsync + 2 * b2n rc) ++ beBytes 6 old) (beBytes 6 new)
    (beBytes 8 time ++ beBytes 2 id ++ beBytes 4 (wallStep old new))
  simp only [List.length_append, length_beBytes, Nat.reduceAdd] at hat
  rw [hpayload, hat, beNat_beBytes]
  exact Nat.mod_eq_of_lt h

/-- Settles O27: each command's verdict (`Dev.rearmResponse_of`, `Dev.timeSet_of`) and what it leaves. -/
theorem rearmAndTimeSet : Obligations.RearmAndTimeSet := by
  unfold Obligations.RearmAndTimeSet
  refine ⟨fun s c d flush h => rearmSettles flush h, fun s c d h => ?_⟩
  obtain ⟨htakes, hown⟩ := id h
  have hset := Dev.timeSet_of htakes.2.1
  intro w
  have hw : w < 2 ^ 48 := numAt_lt c.payload 0 6
  obtain ⟨hwall, hisset, hspan, htime, hsrc, hhost⟩ := d.setWall_spec 1 c.tr hw (by decide)
  refine ⟨fun hbad => ?_, fun hpos hzero hquiet => ?_, fun hpos hzero hj hfull hspent => ?_⟩
  · refine completes_onDev Dev.timeSet rfl ?_
    rw [hset, if_pos hbad]
    exact ⟨(congrArg Dev.attic (Dev.cmdDone_onlyCmd hown _ _).1 :), Dev.cmdDone_reports _ _ htakes.waits⟩
  · refine completes_onDev Dev.timeSet rfl ?_
    rw [hset, if_neg (by simp [hzero]; omega), if_neg (by simp [hquiet]), if_pos hquiet]
    have hhist : (d.setWall 1 c.tr w).history c.handle = d.history c.handle := by
      rw [hown]
      exact congrArg HostPort.hist hhost
    generalize d.setWall 1 c.tr w = e at *
    have hcmd := Dev.cmdDone_onlyCmd (d := e) hown Code.OK []
    have hrep := Dev.cmdDone_reports Code.OK [] (Dev.waits_congr hhist htakes.waits)
    generalize e.cmdDone c Code.OK [] = x at *
    have hattic : x.attic = e.attic := (congrArg Dev.attic hcmd.1 :)
    have hxw : x.wallAt c.tr = e.wallAt c.tr := by rw [Dev.wallAt, hattic, Dev.wallAt]
    refine ⟨hxw.trans hwall, ?_, ?_, (congrArg Dev.time hcmd.1 :).trans htime, (Dev.fld_eq_of_reg (hcmd.2 _ (by decide))).trans hsrc, hrep⟩
    · rw [hattic, hisset]
    · rw [hattic, hspan]
  · refine completes_onDev Dev.timeSet rfl ?_
    rw [hset, if_neg (by simp [hzero]; omega), if_neg (by simp [hfull, hspent]), if_neg (by simp [hj])]
    exact ⟨_, _, rfl, hwall, hisset, hhost, rfl, rfl, timesync_new _ _ _ _ _ _ _ hw⟩

end Sys2Proof.Machine
end

section
/-!
PROOFS. REGION_BLOW and IMAGE_WRITE (R58 to R61, R246, R248).
-/

namespace Sys2Proof.Machine

open Sys2Proof

-- one proof after another: the check bounds the memory that the stacks of parallel proofs take
set_option Elab.async false

/-! ### REGION_BLOW (R246, R248) -/

theorem Dev.regionBlow_taken {s d : Dev} {c : Cmd} (h : s.takeCmd 0x28 = some (c, d)) (fu : Fuses) (ok : Bool) :
    (∀ r, regionOf (byteAt c.payload 0) = some r → d.mode = Mode.commission ∧ regionBlank fu.region = true ∧ fu.blowTried = false ∧ c.mac = true →
      s.regionBlow fu ok = if ok then (d.cmdDone c Code.OK [], { fu with region := r, blowTried := true })
        else ((d.fault9 Code.FUSE_FAIL).cmdDone c Code.FUSE_FAIL [], { fu with blowTried := true })) ∧
    (regionOf (byteAt c.payload 0) = none ∨
      ¬(d.mode = Mode.commission ∧ regionBlank fu.region = true ∧ fu.blowTried = false ∧ c.mac = true) →
      s.regionBlow fu ok = (d.cmdDone c Code.CC_REGION_STATE [], fu)) := by
  unfold Dev.regionBlow
  rw [h]
  refine ⟨fun r hr ⟨hm, hblank, htried, hmac⟩ => ?_, fun hbad => ?_⟩
  · dsimp only
    rw [hr]
    exact if_neg (by simp [hm, hblank, htried, hmac])
  · dsimp only
    split
    · rfl
    next r hr =>
      rw [hr] at hbad
      refine if_pos ?_
      have hnot := hbad.resolve_left (by simp)
      by_contra hno
      refine hnot ?_
      simpa [and_assoc] using hno

/-! ### The steps of an image write (R58 to R60) -/

/-- What a step of an image write puts into the state: a device whose write has reached the NOR flash. -/
def Dev.written (e : Dev) : Dev := (e.memChains 4 (chainsNorWrite 256)).portDrain

/-- Whether a step of an image write reached the NOR flash. -/
def State.imageIdle (s : State) (x : Dev × Mem) : Bool := x.1.image == s.dev.image && x.2 == s.nor && x.1.freeCtr == s.dev.freeCtr

theorem State.imageStep_of (s : State) (x : Dev × Mem) : s.imageStep x = s.withNor (if s.imageIdle x then x else (x.1.written, x.2)) := rfl

theorem State.imageStep_idle {s : State} {e : Dev} (himage : e.image = s.dev.image) (hfree : e.freeCtr = s.dev.freeCtr) :
    s.imageStep (e, s.nor) = .next (s.withDev e) := by
  have hidle : s.imageIdle (e, s.nor) = true := by simp [State.imageIdle, himage, hfree]
  rw [State.imageStep_of, hidle]
  rfl

theorem State.imageStep_busy {s : State} {e : Dev} (h : e.image ≠ s.dev.image ∨ e.freeCtr ≠ s.dev.freeCtr) (nor : Mem) :
    s.imageStep (e, nor) = .next { s with dev := e.written, nor := nor } := by
  have hidle : s.imageIdle (e, nor) = false := by rcases h with h | h <;> simp [State.imageIdle, h]
  rw [State.imageStep_of, hidle, if_neg Bool.false_ne_true]
  simp only [State.withNor]

section
variable {s d : Dev} {c : Cmd} (h : s.takeCmd 0x21 = some (c, d))
include h

theorem Dev.imageBegin_taken (nor : Mem) (ok : Bool) (h1 : byteAt c.payload 0 = 1) : s.imageBegin nor ok =
    if d.mode ≠ Mode.commission ∨ d.image ≠ none then (d.cmdDone c Code.CC_IMAGE_STATE [], nor)
    else if ok then
      ({ d with image := some { slot := d.imageTarget nor, len := numAt c.payload 4 4, got := 0, head := [] } }.cmdDone c Code.OK [],
        Mem.erase nor (slotBase (d.imageTarget nor)) (eraseLen (numAt c.payload 4 4)))
    else (d.norFault.cmdDone c Code.NOR_FAIL [], Mem.erase nor (slotBase (d.imageTarget nor)) (eraseLen (numAt c.payload 4 4))) := by
  unfold Dev.imageBegin
  rw [h]
  dsimp only
  rw [if_neg (by simp [h1])]
  simp only [Bool.or_eq_true, bne_iff_ne, Option.isSome_iff_ne_none]

theorem Dev.imageData_taken (nor : Mem) (ok : Bool) (h2 : byteAt c.payload 0 = 2) :
    (d.image = none → s.imageData nor ok = (d.cmdDone c Code.CC_IMAGE_STATE [], nor)) ∧
    ∀ w, d.image = some w → s.imageData nor ok =
      let data := c.payload.drop 8
      if d.mode ≠ Mode.commission ∨ numAt c.payload 4 4 ≠ w.got ∨ 0x1000000 < w.got + data.length then (d.cmdDone c Code.CC_IMAGE_STATE [], nor)
      else if ok = true ∨ data.drop (256 - w.got) = [] then
        ({ d with image := some { w with got := w.got + data.length, head := w.head ++ data.take (256 - w.got) } }.cmdDone c Code.OK [],
          Mem.writeN nor (slotBase w.slot + max 256 w.got) (data.drop (256 - w.got)))
      else
        ({ (d.drbg (data.drop (256 - w.got)).length).2 with image := none }.norFault.cmdDone c Code.NOR_FAIL [],
          Mem.writeN nor (slotBase w.slot + max 256 w.got) (d.drbg (data.drop (256 - w.got)).length).1) := by
  unfold Dev.imageData
  rw [h]
  dsimp only
  rw [if_neg (by simp [h2])]
  refine ⟨fun hn => by rw [hn], fun w hw => ?_⟩
  rw [hw]
  simp only [Bool.or_eq_true, bne_iff_ne, decide_eq_true_eq, List.isEmpty_iff, or_assoc, gt_iff_lt]

theorem Dev.imageEnd_taken (nor : Mem) (ok : Bool) (h3 : byteAt c.payload 0 = 3) :
    (d.image = none → s.imageEnd nor ok = (d.cmdDone c Code.CC_IMAGE_STATE [], nor)) ∧
    ∀ w, d.image = some w → s.imageEnd nor ok =
      if d.mode ≠ Mode.commission then (d.cmdDone c Code.CC_IMAGE_STATE [], nor)
      else if endCode nor w ≠ 0 then ({ d with image := none }.cmdDone c (endCode nor w) [], nor)
      else if d.vault.slots.getD 0 none = none then ({ d with image := none }.vaultDone c Code.KEY_EMPTY [], nor)
      else if ok = false then
        (({ d with image := none }.drbg 256).2.norFault.cmdDone c Code.NOR_FAIL [], Mem.writeN nor (slotBase w.slot) ({ d with image := none }.drbg 256).1)
      else ({ d with image := none }.cmdDone c Code.OK [], Mem.writeN nor (slotBase w.slot) ({ d with image := none }.signHeader nor w)) := by
  unfold Dev.imageEnd
  rw [h]
  dsimp only
  rw [if_neg (by simp [h3])]
  refine ⟨fun hn => by rw [hn], fun w hw => ?_⟩
  rw [hw]
  simp only [bne_iff_ne, Option.isNone_iff_eq_none, Bool.not_eq_true']

theorem Dev.imageAbort_taken (h4 : byteAt c.payload 0 = 4) : s.imageAbort =
    if d.mode ≠ Mode.commission then d.cmdDone c Code.CC_IMAGE_STATE [] else { d with image := none }.cmdDone c Code.OK [] := by
  unfold Dev.imageAbort
  rw [h]
  dsimp only
  rw [if_neg (by simp [h4])]
  simp only [bne_iff_ne]

end

/-! ### A NOR fault (R60) -/

theorem Dev.Stored.fault9 {d e : Dev} (h : d.Stored e) (code : Nat) : d.Stored (e.fault9 code) := by
  have hother : ∀ c : Prop, [Decidable c] → d.Stored (if c then e.setFlag F.FLT_STAT_OTHER true else e) := fun c _ => .ite (h.setFlag _ _) h
  have hfault : ∀ y : Dev, d.Stored y → d.Stored (y.fault code 9 0 0 0 0xFF [] 0 []) := fun y hy =>
    (hy.trans ((Dev.Logged.refl y).logFault code 9 0 0 0 0xFF [] 0 []).1).faultReport _
  exact hfault _ (hother _)

/-- A NOR fault draws, and leaves the image write as it is. -/
theorem Dev.norFault_spec (d : Dev) : d.norFault.image = d.image ∧ d.norFault.freeCtr ≠ d.freeCtr := by
  obtain ⟨y, hy⟩ : ∃ y : Dev, y = { d with freeCtr := d.freeCtr + 1 } := ⟨_, rfl⟩
  obtain ⟨x, hm⟩ : ∃ x, x = y.memError 0 Code.NOR_FAIL (Config.freeByte d.freeCtr).toNat := ⟨_, rfl⟩
  have hx : d.norFault = x.fault9 Code.NOR_FAIL := by
    rw [hm, hy]
    rfl
  have himage : x.image = d.image := by
    rw [hm, hy]
    rfl
  have hfree : x.freeCtr = d.freeCtr + 1 + 1 := by
    rw [hm, hy]
    rfl
  clear hm
  have hstored := (Dev.Stored.refl x).fault9 Code.NOR_FAIL
  rw [hx]
  have hdraws := hstored.draws
  exact ⟨(congrArg Dev.image hstored.rest :).trans himage, by omega⟩

/-! ### The verdicts -/

/-- A command of the device answered on a device that differs from the one that took it in what the answer does not touch. -/
theorem Dev.answered {d e : Dev} {c : Cmd} (hown : c.handle = 0) (hwait : ∃ y ∈ (d.history c.handle).entries, y.id = c.reqId ∧ y.st ≠ .done)
    (he : e.host.hist = d.host.hist) (code : Nat) : (e.cmdDone c code []).reports c code [] ∧ e.onlyCmd (e.cmdDone c code []) [] ∧
    (e.cmdDone c code []).image = e.image ∧ (e.cmdDone c code []).freeCtr = e.freeCtr := by
  have hcmd := Dev.cmdDone_onlyCmd (d := e) hown code []
  have hhist : e.history c.handle = d.history c.handle := by
    rw [hown]
    exact he
  exact ⟨Dev.cmdDone_reports _ _ (Dev.waits_congr hhist hwait), hcmd, (congrArg Dev.image hcmd.1 :), (congrArg Dev.freeCtr hcmd.1 :)⟩

section
variable {s : State} {c : Cmd} {d : Dev}

theorem regionBlowSettles (h : s.dev.takesOwn 0x28 c d) (ok : Bool) :
    let allowed := d.mode = Mode.commission ∧ regionBlank s.fuses.region = true ∧ s.fuses.blowTried = false ∧ c.mac = true
    (∀ r, regionOf (byteAt c.payload 0) = some r → allowed → ∃ t, exec (.regionBlow true) s = .next t ∧
      t = { s with dev := t.dev, fuses := { s.fuses with region := r, blowTried := true } } ∧ t.dev.reports c Code.OK [] ∧
      d.onlyCmd t.dev []) ∧
    (∀ r, regionOf (byteAt c.payload 0) = some r → allowed → ∃ t, exec (.regionBlow false) s = .next t ∧
      t = { s with dev := (d.fault9 Code.FUSE_FAIL).cmdDone c Code.FUSE_FAIL [], fuses := { s.fuses with blowTried := true } }) ∧
    (regionOf (byteAt c.payload 0) = none ∨ ¬allowed → completes (.regionBlow ok) s fun x =>
      x.reports c Code.CC_REGION_STATE [] ∧ d.onlyCmd x []) := by
  intro allowed
  obtain ⟨htakes, hown⟩ := h
  obtain ⟨hblow, -⟩ := Dev.regionBlow_taken htakes.2.1 s.fuses true
  obtain ⟨hfail, -⟩ := Dev.regionBlow_taken htakes.2.1 s.fuses false
  obtain ⟨-, hrefused⟩ := Dev.regionBlow_taken htakes.2.1 s.fuses ok
  refine ⟨fun r hr ha => ?_, fun r hr ha => ?_, fun hbad => ?_⟩
  · obtain ⟨hrep, hcmd, -⟩ := Dev.answered hown htakes.waits rfl Code.OK
    exact ⟨_, congrArg s.withFuses (hblow r hr ha), rfl, hrep, hcmd⟩
  · exact ⟨_, congrArg s.withFuses (hfail r hr ha), rfl⟩
  · obtain ⟨hrep, hcmd, -⟩ := Dev.answered hown htakes.waits rfl Code.CC_REGION_STATE
    exact ⟨_, congrArg s.withFuses (hrefused hbad), hrep, hcmd⟩

/-- A step of an image write that is refused. -/
theorem image_refused {i : Instr} {x : Dev × Mem} (h : s.dev.takesOwn 0x21 c d) (he : exec i s = s.imageStep x)
    (hx : x = (d.cmdDone c Code.CC_IMAGE_STATE [], s.nor)) : completes i s fun x => x.reports c Code.CC_IMAGE_STATE [] ∧ d.onlyCmd x [] := by
  obtain ⟨htakes, hown⟩ := h
  have hkeep := (Dev.takeCmd_keeps htakes.2.1).1
  obtain ⟨hrep, hcmd, himage, hfree⟩ := Dev.answered hown htakes.waits rfl Code.CC_IMAGE_STATE
  refine ⟨_, ?_, hrep, hcmd⟩
  rw [he, hx]
  exact State.imageStep_idle (himage.trans (congrArg Dev.image hkeep :)) (hfree.trans (congrArg Dev.freeCtr hkeep :))

/-- A step of an image write that ends the write in hand, or reaches the flash. -/
theorem image_written {i : Instr} {x : Dev × Mem} {e : Dev} {nor : Mem} (h : s.dev.takesOwn 0x21 c d) (he : exec i s = s.imageStep x) (hx : x = (e, nor))
    (hbusy : e.image ≠ d.image ∨ e.freeCtr ≠ d.freeCtr) : exec i s = .next { s with dev := e.written, nor := nor } := by
  have hkeep := (Dev.takeCmd_keeps h.1.2.1).1
  rw [he, hx]
  refine State.imageStep_busy ?_ nor
  rwa [← (congrArg Dev.image hkeep :), ← (congrArg Dev.freeCtr hkeep :)]

theorem imageBeginSettles (h : s.dev.takesOwn 0x21 c d) (hm : d.mode = Mode.commission) (h1 : byteAt c.payload 0 = 1) (hnone : d.image = none) :
    let len := numAt c.payload 4 4
    let slot := d.imageTarget s.nor
    let nor := Mem.erase s.nor (slotBase slot) (eraseLen len)
    (∃ e : Dev, exec (.imageWriteBegin true) s = .next { s with dev := e.written, nor := nor } ∧
      e.image = some { slot := slot, len := len, got := 0, head := [] } ∧ e.reports c Code.OK [] ∧ { d with image := e.image }.onlyCmd e []) ∧
    (exec (.imageWriteBegin false) s = .next { s with dev := (d.norFault.cmdDone c Code.NOR_FAIL []).written, nor := nor }) := by
  intro len slot nor
  obtain ⟨htakes, hown⟩ := id h
  have hstep := fun ok => (Dev.imageBegin_taken htakes.2.1 s.nor ok h1).trans (if_neg (by simp [hm, hnone]))
  constructor
  · obtain ⟨w, hw⟩ : ∃ w : ImgWrite, w = { slot := slot, len := len, got := 0, head := [] } := ⟨_, rfl⟩
    obtain ⟨hrep, hcmd, himage, -⟩ := Dev.answered (e := { d with image := some w }) hown htakes.waits rfl Code.OK
    have hx := (hstep true).trans (if_pos rfl)
    rw [← hw] at hx
    generalize ({ d with image := some w }.cmdDone c Code.OK [] : Dev) = e at *
    refine ⟨e, image_written h rfl hx (.inl ?_), himage.trans (congrArg some hw), hrep, ?_⟩
    · rw [himage, hnone]
      exact Option.some_ne_none w
    · rw [himage]
      exact hcmd
  · have hx := (hstep false).trans (if_neg Bool.false_ne_true)
    obtain ⟨-, hdraws⟩ := d.norFault_spec
    have hfree : (d.norFault.cmdDone c Code.NOR_FAIL []).freeCtr = d.norFault.freeCtr := (congrArg Dev.freeCtr (Dev.cmdDone_onlyCmd hown _ _).1 :)
    exact image_written h rfl hx (.inr (by rw [hfree]; exact hdraws))

theorem imageDataSettles (h : s.dev.takesOwn 0x21 c d) (hm : d.mode = Mode.commission) (h2 : byteAt c.payload 0 = 2) {w : ImgWrite} (hw : d.image = some w)
    (hlen : numAt c.payload 4 4 = w.got) (hfits : w.got + (c.payload.drop 8).length ≤ 0x1000000) :
    let data := c.payload.drop 8
    let prog := data.drop (256 - w.got)
    let at_ := slotBase w.slot + max 256 w.got
    (∃ e : Dev, exec (.imageWriteData true) s = .next { s with dev := if data = [] then e else e.written, nor := Mem.writeN s.nor at_ prog } ∧
      e.image = some { w with got := w.got + data.length, head := w.head ++ data.take (256 - w.got) } ∧ e.reports c Code.OK [] ∧
      { d with image := e.image }.onlyCmd e []) ∧
    (prog ≠ [] → ∃ (e : Dev) (left : Bytes), exec (.imageWriteData false) s = .next { s with
        dev := (e.norFault.cmdDone c Code.NOR_FAIL []).written, nor := Mem.writeN s.nor at_ left } ∧ left.length = prog.length ∧
      e = { d with image := none, freeCtr := e.freeCtr }) := by
  intro data prog at_
  obtain ⟨htakes, hown⟩ := id h
  have hkeep := (Dev.takeCmd_keeps htakes.2.1).1
  have hstep := fun ok => ((Dev.imageData_taken htakes.2.1 s.nor ok h2).2 w hw).trans (if_neg fun hbad => (hbad.resolve_left (not_not.2 hm)).elim (· hlen) (Nat.not_lt.2 hfits))
  refine ⟨?_, fun hprog => ?_⟩
  · obtain ⟨w', hw'⟩ : ∃ w' : ImgWrite, w' = { w with got := w.got + data.length, head := w.head ++ data.take (256 - w.got) } := ⟨_, rfl⟩
    obtain ⟨hrep, hcmd, himage, hfree⟩ := Dev.answered (e := { d with image := some w' }) hown htakes.waits rfl Code.OK
    have hx := (hstep true).trans (if_pos (.inl rfl))
    rw [← hw'] at hx
    generalize ({ d with image := some w' }.cmdDone c Code.OK [] : Dev) = e at *
    refine ⟨e, ?_, himage.trans (congrArg some hw'), hrep, ?_⟩
    · by_cases hdata : data = []
      · have hsame : w' = w := by rw [hw', hdata]; simp
        have hquiet : Mem.writeN s.nor at_ prog = s.nor := by rw [show prog = [] by simp [prog, hdata]]; rfl
        rw [if_pos hdata, hquiet]
        refine (congrArg s.imageStep (hx.trans ?_) :).trans (State.imageStep_idle (e := e) ?_ ?_)
        · exact congrArg (Prod.mk e) hquiet
        · rw [himage, hsame, ← hw]
          exact (congrArg Dev.image hkeep :)
        · exact hfree.trans (congrArg Dev.freeCtr hkeep :)
      · rw [if_neg hdata]
        refine image_written h rfl hx (.inl ?_)
        have hpos : 0 < data.length := List.length_pos_of_ne_nil hdata
        rw [himage, hw, hw']
        intro heq
        have hgot : w.got + data.length = w.got := congrArg ImgWrite.got (Option.some.inj heq)
        omega
    · rw [himage]
      exact hcmd
  · have hx := (hstep false).trans (if_neg fun hbad => hprog (hbad.resolve_left Bool.false_ne_true))
    obtain ⟨y, hy⟩ : ∃ y : Dev, y = { (d.drbg prog.length).2 with image := none } := ⟨_, rfl⟩
    have hshape : y = { d with image := none, freeCtr := y.freeCtr } := by
      rw [hy]
      rfl
    have hnoimage : y.image = none := by
      rw [hy]
    refine ⟨y, (d.drbg prog.length).1, ?_, ?_, hshape⟩
    · refine image_written h rfl (hx.trans ?_) (.inl ?_)
      · rw [hy]
      · have himage : (y.norFault.cmdDone c Code.NOR_FAIL []).image = none :=
          (congrArg Dev.image (Dev.cmdDone_onlyCmd hown _ _).1 :).trans (y.norFault_spec.1.trans hnoimage)
        rw [himage, hw]
        exact (Option.some_ne_none w).symm
    · simp [Dev.drbg]

theorem imageEndSettles (h : s.dev.takesOwn 0x21 c d) (ok : Bool) (hm : d.mode = Mode.commission) (h3 : byteAt c.payload 0 = 3) {w : ImgWrite} (hw : d.image = some w) :
    (endCode s.nor w ≠ 0 → ∃ e : Dev, exec (.imageWriteEnd ok) s = .next { s with dev := e.written } ∧ e.image = none ∧
      e.reports c (endCode s.nor w) [] ∧ { d with image := none }.onlyCmd e []) ∧
    (endCode s.nor w = 0 → d.vault.slots.getD 0 none ≠ none →
      (∃ e : Dev, exec (.imageWriteEnd true) s = .next { s with
          dev := e.written, nor := Mem.writeN s.nor (slotBase w.slot) ({ d with image := none }.signHeader s.nor w) } ∧
        e.image = none ∧ e.reports c Code.OK [] ∧ { d with image := none }.onlyCmd e []) ∧
      (∃ (e : Dev) (left : Bytes), exec (.imageWriteEnd false) s = .next { s with
          dev := (e.norFault.cmdDone c Code.NOR_FAIL []).written, nor := Mem.writeN s.nor (slotBase w.slot) left } ∧
        left.length = 256 ∧ e = { d with image := none, freeCtr := e.freeCtr })) := by
  obtain ⟨htakes, hown⟩ := id h
  have hstep := fun ok => ((Dev.imageEnd_taken htakes.2.1 s.nor ok h3).2 w hw).trans (if_neg (by simp [hm]))
  have hended : ∀ e : Dev, e.image = none → e.image ≠ d.image := fun e he => by rw [he, hw]; exact (Option.some_ne_none w).symm
  refine ⟨fun hcode => ?_, fun hcode hkey => ⟨?_, ?_⟩⟩
  · have hx := (hstep ok).trans (if_pos hcode)
    obtain ⟨hrep, hcmd, himage, -⟩ := Dev.answered (e := { d with image := none }) hown htakes.waits rfl (endCode s.nor w)
    exact ⟨_, image_written h rfl hx (.inl (hended _ himage)), himage, hrep, hcmd⟩
  · have hx := (hstep true).trans ((if_neg (by simp [hcode])).trans ((if_neg hkey).trans (if_neg (by simp))))
    obtain ⟨hrep, hcmd, himage, -⟩ := Dev.answered (e := { d with image := none }) hown htakes.waits rfl Code.OK
    exact ⟨_, image_written h rfl hx (.inl (hended _ himage)), himage, hrep, hcmd⟩
  · have hx := (hstep false).trans ((if_neg (by simp [hcode])).trans ((if_neg hkey).trans (if_pos rfl)))
    obtain ⟨y, hy⟩ : ∃ y : Dev, y = ({ d with image := none }.drbg 256).2 := ⟨_, rfl⟩
    have hshape : y = { d with image := none, freeCtr := y.freeCtr } := by
      rw [hy]
      rfl
    rw [← hy] at hx
    clear hy
    have himage : (y.norFault.cmdDone c Code.NOR_FAIL []).image = none :=
      (congrArg Dev.image (Dev.cmdDone_onlyCmd hown _ _).1 :).trans (y.norFault_spec.1.trans (congrArg Dev.image hshape))
    exact ⟨y, _, image_written h rfl hx (.inl (hended _ himage)), by simp [Dev.drbg], hshape⟩

end

/-- Settles O29: each step's verdict (`Dev.regionBlow_taken`, `Dev.imageData_taken`), and whether it reached the flash. -/
theorem flashAndRegion : Obligations.FlashAndRegion := by
  unfold Obligations.FlashAndRegion
  refine ⟨fun s c d ok h => regionBlowSettles h ok, fun s c d ok h => ?_⟩
  intro len data written refused
  obtain ⟨htakes, hown⟩ := id h
  have habort := Dev.imageAbort_taken htakes.2.1
  have hbegin : byteAt c.payload 0 = 1 → d.mode ≠ Mode.commission ∨ d.image ≠ none → refused (.imageWriteBegin ok) := fun h1 hbad =>
    image_refused h rfl ((Dev.imageBegin_taken htakes.2.1 s.nor ok h1).trans (if_pos hbad))
  have hdata : byteAt c.payload 0 = 2 → (d.image = none ∨ ∃ w, d.image = some w ∧
      (d.mode ≠ Mode.commission ∨ len ≠ w.got ∨ 0x1000000 < w.got + data.length)) → refused (.imageWriteData ok) := fun h2 hbad => by
    obtain ⟨hno, hsome⟩ := Dev.imageData_taken htakes.2.1 s.nor ok h2
    rcases hbad with hn | ⟨w, hw, hbad⟩
    · exact image_refused h rfl (hno hn)
    · exact image_refused h rfl ((hsome w hw).trans (if_pos hbad))
  have hend : byteAt c.payload 0 = 3 → d.image = none ∨ d.mode ≠ Mode.commission → refused (.imageWriteEnd ok) := fun h3 hbad => by
    obtain ⟨hno, hsome⟩ := Dev.imageEnd_taken htakes.2.1 s.nor ok h3
    cases hw : d.image with
    | none => exact image_refused h rfl (hno hw)
    | some w => exact image_refused h rfl ((hsome w hw).trans (if_pos (hbad.resolve_left (by simp [hw]))))
  refine ⟨fun hm row hrow hb => ?_, fun h1 hopen => hbegin h1 (.inr hopen), fun h2 hn => hdata h2 (.inl hn), fun h3 hn => hend h3 (.inl hn),
    fun h2 w hw hbad => hdata h2 (.inr ⟨w, hw, .inr hbad⟩), fun hm h1 hn => imageBeginSettles h hm h1 hn,
    fun hm h2 w hw hl hf => imageDataSettles h hm h2 hw hl hf, fun hm h3 w hw => imageEndSettles h ok hm h3 hw, fun hm h4 => ?_⟩
  · simp only [List.mem_cons, List.not_mem_nil, or_false] at hrow
    obtain rfl | rfl | rfl | rfl := hrow
    · exact hbegin hb (.inl hm)
    · refine hdata hb ?_
      cases hw : d.image with
      | none => exact .inl rfl
      | some w => exact .inr ⟨w, rfl, .inl hm⟩
    · exact hend hb (.inr hm)
    · obtain ⟨hrep, hcmd, -⟩ := Dev.answered hown htakes.waits rfl Code.CC_IMAGE_STATE
      refine completes_onDev Dev.imageAbort rfl ?_
      rw [habort hb, if_pos hm]
      exact ⟨hrep, hcmd⟩
  · obtain ⟨hrep, hcmd, himage, -⟩ := Dev.answered (e := { d with image := none }) hown htakes.waits rfl Code.OK
    refine completes_onDev Dev.imageAbort rfl ?_
    rw [habort h4, if_neg (by simp [hm])]
    exact ⟨himage, hrep, hcmd⟩

end Sys2Proof.Machine
end

section
/-!
PROOFS. The calibration sweeps (R74, R113, R114, R120, R142, R203).
-/

namespace Sys2Proof.Machine

open Sys2Proof

-- one proof after another: the check bounds the memory that the stacks of parallel proofs take
set_option Elab.async false

/-! ### The code that a tuning sweep takes (R114) -/

/-- The code of the first least magnitude below a bound. -/
def leastBelow (f : Nat → Nat) (n : Nat) : Nat := (List.range n).foldl (fun a c => if f c < f a then c else a) 0

theorem leastBelow_succ (f : Nat → Nat) (n : Nat) : leastBelow f (n + 1) = if f n < f (leastBelow f n) then n else leastBelow f n := by
  rw [leastBelow, List.range_succ, List.foldl_append]
  rfl

theorem leastBelow_le_self (f : Nat → Nat) : ∀ n, leastBelow f n ≤ n
  | 0 => Nat.le_refl 0
  | n + 1 => by
    have ih := leastBelow_le_self f n
    rw [leastBelow_succ]
    split <;> omega

/-- It is least, and the first of the least. -/
theorem leastBelow_le (f : Nat → Nat) : ∀ n k, k < n → f (leastBelow f n) ≤ f k ∧ (f k = f (leastBelow f n) → leastBelow f n ≤ k)
  | 0, _, h => absurd h (Nat.not_lt_zero _)
  | n + 1, k, h => by
    have ih := leastBelow_le f n
    rw [leastBelow_succ]
    obtain h | rfl := Nat.lt_succ_iff_lt_or_eq.1 h
    · obtain ⟨hle, htie⟩ := ih k h
      split
      next hlt => exact ⟨by omega, fun he => by omega⟩
      · exact ⟨hle, htie⟩
    · split
      · exact ⟨Nat.le_refl _, fun _ => Nat.le_refl _⟩
      next hge =>
        refine ⟨by omega, fun _ => ?_⟩
        exact leastBelow_le_self f k

/-! ### A sweep taken (R74) -/

section
variable {s d : Dev} {c : Cmd}

theorem Dev.sweep_taken {code : Nat} (h : s.takeCmd code = some (c, d)) (run : Dev → Cmd → Dev × Bytes) :
    (d.mode ≠ Mode.commission ∨ (∃ t, d.trans = some t ∧ t.target ≠ Mode.commission) → s.sweep code run = d.cmdDone c Code.CC_CAL_STATE []) ∧
    (d.mode = Mode.commission → d.trans = none → s.sweep code run = (run d.clearFields c).1.cmdDone c Code.OK (run d.clearFields c).2) := by
  unfold Dev.sweep
  rw [h]
  refine ⟨fun hbad => if_pos ?_, fun hm ht => if_neg ?_⟩
  · rcases hbad with hm | ⟨t, ht, hne⟩
    · simp [hm]
    · simp [ht, hne]
  · simp [hm, ht]

/-! ### The leakage sweep and what holds it back (R179, R203, R263) -/

variable (h : s.takeCmd 0x27 = some (c, d))
include h

theorem Dev.leakHeld_taken : s.leakHeld =
    let ports := (bitsSet 8 (byteAt c.payload 0)).filter fun p => (s.leakTeam p).isSome
    if s.mode ≠ Mode.commission ∨ s.trans ≠ none ∨ ports = [] then none
    else if s.windowOpen = true then some s
    else if ∀ p ∈ ports, s.coexGranted p = true then none
    else some (ports.foldl (fun d p => d.coexRequest p false) s) := by
  unfold Dev.leakHeld
  rw [h]
  simp only [Bool.or_eq_true, bne_iff_ne, Option.isSome_iff_ne_none, List.isEmpty_iff, List.all_eq_true, or_assoc]

theorem Dev.leakSweep_taken (hheld : s.leakHeld = none) (ms : List (List LeakMeasure)) : s.leakSweep ms =
    let run (x : Dev) : Dev := x.sweep 0x27 fun d c => sweepEach (bitsSet 8 (byteAt c.payload 0)) ms [] Dev.leakPort d
    if s.mode ≠ Mode.commission ∨ s.trans ≠ none then run s
    else if s.leakRouteBad (byteAt c.payload 0) = true then d.cmdDone c Code.CC_UHF_PROFILE []
    else (run ((bitsSet 8 (byteAt c.payload 0)).foldl (fun x p => x.coexWaited p) s)).coexIdle := by
  unfold Dev.leakSweep
  rw [hheld, h]
  simp only [Bool.or_eq_true, bne_iff_ne, Option.isSome_iff_ne_none]

end

theorem Dev.leakSweep_held {s e : Dev} (hheld : s.leakHeld = some e) (ms : List (List LeakMeasure)) : s.leakSweep ms = e := by
  rw [Dev.leakSweep, hheld]

theorem Dev.coexWaited_ungated {d : Dev} {p : Nat} (hA : d.gatedA = false) (hB : d.gatedB p = false) : d.coexWaited p = d := by
  unfold Dev.coexWaited
  rw [hA, hB]
  rfl

/-- The wires and what shows them: nothing else differs, and A's grant stays. -/
def Dev.Asked (s e : Dev) : Prop := { s with coexA := e.coexA, coexB := e.coexB }.onlyRegs e [R.COEX_STAT] ∧ e.coexA.grants = s.coexA.grants

theorem Dev.Asked.gated {s e : Dev} (h : s.Asked e) : e.gatedA = s.gatedA := by
  have hreg : ∀ a, a ≠ R.COEX_STAT → e.reg a = s.reg a := fun a ha => h.1.2 a (by simpa using ha)
  rw [Dev.gatedA, Dev.gatedA, Dev.mode, Dev.mode, Dev.flag_eq_of_fld (Dev.fld_eq_of_reg (hreg F.COEX_CFG_A_EN.addr (by decide))),
    Dev.flag_eq_of_fld (Dev.fld_eq_of_reg (hreg F.COEX_CFG_A_ALL.addr (by decide))), Dev.fld_eq_of_reg (hreg F.SUP_MODE_CUR.addr (by decide))]

theorem Dev.Asked.coexRequest {s e : Dev} (h : s.Asked e) (hgated : s.gatedA = true) (p : Nat) :
    s.Asked (e.coexRequest p false) ∧ (e.coexRequest p false).coexA.req = true ∧ (e.coexRequest p false).coexA.pri = false := by
  obtain ⟨A, B, hask, hgrants, hreq, hpri⟩ : ∃ A B, e.coexRequest p false = ({ e with coexA := A, coexB := B } : Dev).showCoex ∧
      A.grants = e.coexA.grants ∧ A.req = true ∧ A.pri = false := by
    refine ⟨_, _, rfl, ?_⟩
    rw [h.gated, hgated]
    exact ⟨rfl, rfl, rfl⟩
  have hshow : ({ e with coexA := A, coexB := B } : Dev).onlyRegs ({ e with coexA := A, coexB := B } : Dev).showCoex [R.COEX_STAT] := by
    unfold Dev.showCoex
    exact (((((((Dev.onlyRegs_refl _ _).fld.fld).fld).fld).fld).fld).fld).fld
  have hA : ({ e with coexA := A, coexB := B } : Dev).showCoex.coexA = A := rfl
  have hB : ({ e with coexA := A, coexB := B } : Dev).showCoex.coexB = B := rfl
  rw [hask]
  generalize ({ e with coexA := A, coexB := B } : Dev).showCoex = x at *
  refine ⟨⟨⟨?_, fun a ha => (hshow.2 a ha).trans (h.1.2 a ha)⟩, by rw [hA, hgrants, h.2]⟩, by rw [hA, hreq], by rw [hA, hpri]⟩
  have hrest := h.1.1
  rw [hA, hB, hshow.1]
  generalize x.regs = r
  rw [hrest]

/-- Requests on the wires for ports. -/
theorem Dev.coexRequests_spec {s : Dev} (hgated : s.gatedA = true) (hgrants : s.coexA.grants = false) {ports : List Nat} (hne : ports ≠ []) :
    let x := ports.foldl (fun d p => d.coexRequest p false) s
    x.coexA.req = true ∧ x.coexA.pri = false ∧ x.coexA.grants = false ∧ { s with coexA := x.coexA, coexB := x.coexB }.onlyRegs x [R.COEX_STAT] := by
  have hall : ∀ (l : List Nat) (e : Dev), s.Asked e → (l ≠ [] ∨ e.coexA.req = true ∧ e.coexA.pri = false) →
      s.Asked (l.foldl (fun d p => d.coexRequest p false) e) ∧ (l.foldl (fun d p => d.coexRequest p false) e).coexA.req = true ∧
        (l.foldl (fun d p => d.coexRequest p false) e).coexA.pri = false := by
    intro l
    induction l with
    | nil => exact fun e he h => ⟨he, h.resolve_left (by simp)⟩
    | cons p l ih => exact fun e he _ => ih _ (he.coexRequest hgated p).1 (.inr (he.coexRequest hgated p).2)
  obtain ⟨⟨hframe, hkept⟩, hreq, hpri⟩ := hall ports s ⟨Dev.onlyRegs_refl s _, rfl⟩ (.inl hne)
  exact ⟨hreq, hpri, hkept.trans hgrants, hframe⟩

/-! ### The tuning sweep of a port (R113, R114) -/

/-- A capture changes the timers' registers alone. -/
theorem Dev.captureEvent_reg (d : Dev) (src : Nat) {a : Nat} (ha : a < 0xD00) : (d.captureEvent src).reg a = d.reg a := by
  have hcapture : ∀ (y : Dev) (n k : Nat) (b : Bool), (y.capture n k b).reg a = y.reg a := by
    intro y n k b
    have hstat : a ≠ R.TMRn_CAPSTAT n := by unfold R.TMRn_CAPSTAT; omega
    have hreg : a ≠ capReg n k := by unfold capReg; omega
    have hnew : a ≠ (capNew n k).addr := by unfold capNew; split <;> exact hstat
    have hdir : a ≠ (capDir n k).addr := by unfold capDir; split <;> exact hstat
    have hovf : a ≠ (capOvf n k).addr := by unfold capOvf; split <;> exact hstat
    have hpend : a ≠ (capPend n k).addr := by unfold capPend; split <;> exact hstat
    unfold Dev.capture
    extract_lets x z w
    have hx : x.reg a = y.reg a := by
      unfold x
      split
      · exact Dev.reg_setFld_other hovf
      · rfl
    have hw : w.reg a = y.reg a :=
      (Dev.reg_setFld_other hdir).trans ((Dev.reg_setFld_other hnew).trans ((Dev.reg_setReg_other hreg).trans hx))
    clear_value w
    split
    · exact (Dev.reg_setFld_other hpend).trans hw
    · exact hw
  refine Dev.forEach_keeps (P := fun e => e.reg a = d.reg a) rfl fun y m _ hy => ?_
  split
  · exact (hcapture y _ _ _).trans hy
  · exact hy

/-- The drive of a port in a sweep: the tables and the clocks stay, and of the port's registers all but its count and its chain. -/
theorem Dev.sweepField_spec (d : Dev) (n : Nat) {p : Nat} (hp : p < 16) : (d.sweepField n p).tables = d.tables ∧
    (d.sweepField n p).reg (R.HFPn_CFG p) = d.reg (R.HFPn_CFG p) ∧ (d.sweepField n p).reg (R.HFPn_TUNE p) = d.reg (R.HFPn_TUNE p) := by
  unfold Dev.sweepField
  extract_lets g
  have hframe := (((d.onHf n fun c => { c with gain := g }).bump (F.HFPn_CNT_ONS p) 1).setFld (F.HFPn_STAT_CHAIN p) n).captureEvent_frame (0x40 + n)
  have hkeep : ∀ a, a < 0xD00 → a ≠ (F.HFPn_CNT_ONS p).addr → a ≠ (F.HFPn_STAT_CHAIN p).addr →
      ((((d.onHf n fun c => { c with gain := g }).bump (F.HFPn_CNT_ONS p) 1).setFld (F.HFPn_STAT_CHAIN p) n).captureEvent (0x40 + n)).reg a = d.reg a :=
    fun a ha hc hs => (Dev.captureEvent_reg _ _ ha).trans ((Dev.reg_setFld_other hs).trans (Dev.reg_setFld_other hc))
  refine ⟨(congrArg Dev.tables hframe :), hkeep _ ?_ ?_ ?_, hkeep _ ?_ ?_ ?_⟩
  all_goals simp only [R.HFPn_CFG, R.HFPn_TUNE, F.HFPn_CNT_ONS, F.HFPn_STAT_CHAIN]; omega

theorem byteAt_tuned {b : Bytes} (hlen : b.length = 48) {m : TuneMeasure} (hcode : tuneCode m < 256) (wall temp : Nat) : byteAt (tuned b m wall temp) 4 = tuneCode m := by
  unfold tuned
  extract_lets p q
  have hp : p.length = 48 := by rw [length_overlay (by simp [hlen])]; exact hlen
  have hp4 : (overlay p 4 (beBytes 1 (tuneCode m))).length = 48 := by rw [length_overlay (by simp [hp])]; exact hp
  have hq : q.length = 48 := by rw [length_overlay (by simp [hp4])]; exact hp4
  have hq18 : (overlay q 18 (beBytes 6 wall)).length = 48 := by rw [length_overlay (by simp [hq])]; exact hq
  have hwithin := byteAt_overlay_within (bs := p) (src := beBytes 1 (tuneCode m)) (i := 4) (k := 0) (by omega) (by simp)
  rw [byteAt_overlay_before (by omega) (by decide), byteAt_overlay_before (by omega) (by decide)]
  unfold q
  rw [byteAt_overlay_before (by omega) (by decide)]
  exact hwithin.trans ((byteAt_beBytes_one _).trans (Nat.mod_eq_of_lt hcode))

theorem tuneCode_eq (m : TuneMeasure) : tuneCode m = leastBelow (fun c => phaseMag (m.phases.getD c 512#10)) 256 := rfl

theorem tuneCode_lt (m : TuneMeasure) : tuneCode m < 256 := by
  have h0 := leastBelow_le_self (fun c => phaseMag (m.phases.getD c 512#10)) 255
  rw [tuneCode_eq, leastBelow_succ]
  split <;> omega

theorem Dev.tunePort_eq {d : Dev} {p : Nat} {m : TuneMeasure} (hsweep : d.sweepChains ≠ []) (hok : d.hfPortOk p = true) (hperm : d.hfPermitted p = true)
    (hoff : d.hfChainOn p = none) : ∃ n, d.tunePort p m =
      let e := d.sweepField n p
      let slopes := e.tables.slopes.filter (·.1 != p)
      if tuneCode m = 0 ∨ tuneCode m = 255 then ({ e with tables := { e.tables with slopes := slopes } }, beBytes 1 Code.HF_TUNE_RANGE)
      else
        let k := e.fld (F.HFPn_CFG_PROFILE p)
        let prof := tuned (e.profile k) m (if e.attic.wallSet then e.wall else 0) (e.fld (F.UHFCn_SYN_STAT_TEMP_NOW 0))
        ({ e with tables := { e.tables with profiles := tableSet 32 (zeros 48) e.tables.profiles k prof, slopes := slopes ++ [(p, m.slope.toInt)] } }.setFld
          (F.HFPn_TUNE_CODE p) (tuneCode m), beBytes 1 Code.OK) := by
  obtain ⟨n, l, hl⟩ := List.exists_cons_of_ne_nil hsweep
  have hn : d.hfOn n = false := by
    have hmem : n ∈ d.sweepChains := by rw [hl]; exact List.mem_cons_self
    simp only [Dev.sweepChains, List.mem_filter, Bool.and_eq_true, Bool.not_eq_true'] at hmem
    exact hmem.2.1.2
  refine ⟨n, ?_⟩
  unfold Dev.tunePort
  rw [hl]
  dsimp only
  rw [if_neg (by simp [hok, hperm, hoff, hn])]
  simp only [Bool.or_eq_true, decide_eq_true_eq]

theorem Dev.tunePort_spec {d : Dev} {p : Nat} (m : TuneMeasure) (hp : p < 16) (hsweep : d.sweepChains ≠ []) (hok : d.hfPortOk p = true)
    (hperm : d.hfPermitted p = true) (hoff : d.hfChainOn p = none) (hlen : (d.profile (d.fld (F.HFPn_CFG_PROFILE p))).length = 48) :
    let x := d.tunePort p m
    (tuneCode m = 0 ∨ tuneCode m = 255 → x.2 = beBytes 1 Code.HF_TUNE_RANGE ∧ x.1.tables.profiles = d.tables.profiles ∧
      x.1.fld (F.HFPn_TUNE_CODE p) = d.fld (F.HFPn_TUNE_CODE p)) ∧
    (tuneCode m ≠ 0 → tuneCode m ≠ 255 → x.2 = [0#8] ∧ x.1.fld (F.HFPn_TUNE_CODE p) = tuneCode m ∧
      byteAt (x.1.profile (d.fld (F.HFPn_CFG_PROFILE p))) 4 = tuneCode m ∧
      (∀ k, k < 32 → k ≠ d.fld (F.HFPn_CFG_PROFILE p) → x.1.profile k = d.profile k)) := by
  obtain ⟨n, heq⟩ := Dev.tunePort_eq (m := m) hsweep hok hperm hoff
  intro x
  obtain ⟨htables, hcfg, htune⟩ := d.sweepField_spec n hp
  have hx : x = _ := heq
  clear_value x
  generalize d.sweepField n p = e at *
  have hk : e.fld (F.HFPn_CFG_PROFILE p) = d.fld (F.HFPn_CFG_PROFILE p) := Dev.fld_eq_of_reg (g := F.HFPn_CFG_PROFILE p) hcfg
  have hk32 : d.fld (F.HFPn_CFG_PROFILE p) < 32 := Nat.mod_lt _ (Nat.two_pow_pos _)
  refine ⟨fun hend => ?_, fun h0 h255 => ?_⟩
  · rw [hx, if_pos hend]
    exact ⟨rfl, (congrArg Tables.profiles htables :), Dev.fld_eq_of_reg (g := F.HFPn_TUNE_CODE p) htune⟩
  · rw [hx, if_neg (by simp [h0, h255])]
    dsimp only
    rw [hk]
    have hprofiles : e.tables.profiles = d.tables.profiles := congrArg Tables.profiles htables
    refine ⟨rfl, Dev.fld_setFld_small (f := F.HFPn_TUNE_CODE p) (Nat.le_of_ble_eq_true rfl) (tuneCode_lt m), ?_, fun k hk hne => ?_⟩
    · refine (congrArg (byteAt · 4) (tableSet_getD_self hk32)).trans (byteAt_tuned ?_ (tuneCode_lt m) _ _)
      rw [Dev.profile, hprofiles]
      exact hlen
    · refine (tableSet_getD_other hk hne).trans ?_
      rw [hprofiles]
      rfl

/-! ### The four sweep commands -/

section
variable {s d : Dev} {c : Cmd}

theorem Dev.takeCmd_mode {code : Nat} (h : s.takeCmd code = some (c, d)) : d.mode = s.mode ∧ d.trans = s.trans := by
  obtain ⟨hrest, hregs⟩ := Dev.takeCmd_keeps h
  exact ⟨Dev.fld_eq_of_reg (hregs F.SUP_MODE_CUR.addr (by decide)), (congrArg Dev.trans hrest :)⟩

variable (h : s.takeCmd 0x27 = some (c, d))
include h

theorem Dev.leakSweep_refused (hbad : d.mode ≠ Mode.commission ∨ ∃ t, d.trans = some t ∧ t.target ≠ Mode.commission) (ms : List (List LeakMeasure)) :
    s.leakSweep ms = d.cmdDone c Code.CC_CAL_STATE [] := by
  obtain ⟨hmode, htrans⟩ := Dev.takeCmd_mode h
  have hbad' : s.mode ≠ Mode.commission ∨ s.trans ≠ none := by
    rw [← hmode, ← htrans]
    exact hbad.imp_right fun ⟨t, ht, _⟩ => by simp [ht]
  have hheld : s.leakHeld = none := by
    rw [Dev.leakHeld_taken h]
    exact if_pos (by rw [← or_assoc]; exact .inl hbad')
  rw [Dev.leakSweep_taken h hheld]
  exact (if_pos hbad').trans ((Dev.sweep_taken h _).1 hbad)

variable (hm : d.mode = Mode.commission) (ht : d.trans = none)
include hm ht

/-- With no window open and no wire that gates it, the sweep is judged and runs. -/
theorem Dev.leakSweep_runs (hwin : s.windowOpen = false) (hA : s.gatedA = false) (hB : ∀ p, s.gatedB p = false) (ms : List (List LeakMeasure)) :
    (s.leakRouteBad (byteAt c.payload 0) = true → s.leakSweep ms = d.cmdDone c Code.CC_UHF_PROFILE []) ∧
    (s.leakRouteBad (byteAt c.payload 0) = false → s.leakSweep ms =
      ((sweepEach (bitsSet 8 (byteAt c.payload 0)) ms [] Dev.leakPort d.clearFields).1.cmdDone c Code.OK
        (sweepEach (bitsSet 8 (byteAt c.payload 0)) ms [] Dev.leakPort d.clearFields).2).coexIdle) := by
  obtain ⟨hmode, htrans⟩ := Dev.takeCmd_mode h
  have hgood : ¬(s.mode ≠ Mode.commission ∨ s.trans ≠ none) := by simp [← hmode, ← htrans, hm, ht]
  have hheld : s.leakHeld = none := by
    rw [Dev.leakHeld_taken h]
    dsimp only
    split
    · rfl
    rw [if_neg (by simp [hwin])]
    exact if_pos fun p _ => by simp [Dev.coexGranted, hA, hB]
  have hwaited : ∀ l : List Nat, l.foldl (fun x p => x.coexWaited p) s = s := by
    intro l
    induction l with
    | nil => rfl
    | cons p l ih => rw [List.foldl_cons, Dev.coexWaited_ungated hA (hB p), ih]
  have htaken := Dev.leakSweep_taken h hheld ms
  dsimp only at htaken
  rw [if_neg hgood, hwaited, (Dev.sweep_taken h _).2 hm ht] at htaken
  exact ⟨fun hr => htaken.trans (if_pos hr), fun hr => htaken.trans (if_neg (by simp [hr]))⟩

/-- A sweep that a window or a missing grant holds back. -/
theorem Dev.leakHeld_of {p : Nat} (hp : p ∈ bitsSet 8 (byteAt c.payload 0)) (hteam : (s.leakTeam p).isSome = true) :
    (s.windowOpen = true → s.leakHeld = some s) ∧
    (s.windowOpen = false → s.gatedA = true → s.coexA.grants = false →
      ∃ ports, ports ≠ [] ∧ s.leakHeld = some (ports.foldl (fun d p => d.coexRequest p false) s)) := by
  obtain ⟨hmode, htrans⟩ := Dev.takeCmd_mode h
  have hmem : p ∈ (bitsSet 8 (byteAt c.payload 0)).filter fun p => (s.leakTeam p).isSome := List.mem_filter.2 ⟨hp, hteam⟩
  have hne := List.ne_nil_of_mem hmem
  have hgood : ¬(s.mode ≠ Mode.commission ∨ s.trans ≠ none ∨ ((bitsSet 8 (byteAt c.payload 0)).filter fun p => (s.leakTeam p).isSome) = []) := by
    rw [← hmode, ← htrans]
    exact fun hbad => hbad.elim (· hm) fun hbad => hbad.elim (· ht) hne
  have hheld := Dev.leakHeld_taken h
  dsimp only at hheld
  rw [if_neg hgood] at hheld
  refine ⟨fun hw => hheld.trans (if_pos hw), fun hw hA hg => ⟨_, hne, hheld.trans ((if_neg (by simp [hw])).trans (if_neg fun hall => ?_))⟩⟩
  have hgranted := hall p hmem
  simp [Dev.coexGranted, hA, hg] at hgranted

end

/-- CAL_TUNE, CAL_COUPLING and CAL_RXGAIN at the head of the queue. -/
def Dev.tuneSweep (d : Dev) (ms : List TuneMeasure) : Dev :=
  d.sweep 0x24 fun d c => sweepEach (bitsSet 16 (numAt c.payload 0 2)) ms ⟨[], 0, 0⟩ Dev.tunePort d

/-- See `Dev.tuneSweep`. -/
def Dev.coupleSweep (d : Dev) (ks : List (List Word)) : Dev :=
  if d.hfDirectRuns then d else d.sweep 0x25 fun d c => sweepEach (bitsSet 16 (numAt c.payload 0 2)) ks [] Dev.coupleSet d

/-- See `Dev.tuneSweep`. -/
def Dev.gainSweep (d : Dev) (gs : List (Option (Fin 48))) : Dev :=
  d.sweep 0x26 fun d c => sweepEach (bitsSet 16 (numAt c.payload 0 2)) gs none Dev.gainPort d

theorem Dev.coupleSweep_free {d : Dev} (h : d.hfDirectRuns = false) (ks : List (List Word)) :
    d.coupleSweep ks = d.sweep 0x25 fun d c => sweepEach (bitsSet 16 (numAt c.payload 0 2)) ks [] Dev.coupleSet d := if_neg (by simp [h])

/-- Settles O28: the four sweeps through `Dev.sweep_taken`, the wait of the leakage sweep through `Dev.leakHeld_of`, the tuned code through
`leastBelow_le`. -/
theorem sweeps : Obligations.Sweeps := by
  unfold Obligations.Sweeps
  refine ⟨fun s c d ms ks gs ls => ⟨fun hbad row hrow h hdirect => ?_, fun hrun hdirect => ?_, fun hm ht => ⟨fun h => ?_, fun h hdirect => ?_, fun h => ?_, fun h => ?_⟩⟩,
    fun d p m => ⟨fun k hk => ?_, fun k hk he => ?_, fun hp hsweep hok hperm hoff hlen => Dev.tunePort_spec m hp hsweep hok hperm hoff hlen⟩⟩
  · obtain ⟨htakes, hown⟩ := h
    obtain ⟨hrep, hcmd, -⟩ := Dev.answered hown htakes.waits rfl Code.CC_CAL_STATE
    have hdone : ∀ i (f : Dev → Dev), exec i s = s.onDev f → f s.dev = d.cmdDone c Code.CC_CAL_STATE [] →
        completes i s fun x => x.reports c Code.CC_CAL_STATE [] ∧ d.onlyCmd x [] := fun i f he hf => completes_onDev f he (by rw [hf]; exact ⟨hrep, hcmd⟩)
    simp only [List.mem_cons, List.not_mem_nil, or_false] at hrow
    obtain rfl | rfl | rfl | rfl := hrow
    · exact hdone _ (·.tuneSweep ms) rfl ((Dev.sweep_taken htakes.2.1 _).1 hbad)
    · exact hdone _ (·.coupleSweep ks) rfl ((Dev.coupleSweep_free (hdirect rfl) ks).trans ((Dev.sweep_taken htakes.2.1 _).1 hbad))
    · exact hdone _ (·.gainSweep gs) rfl ((Dev.sweep_taken htakes.2.1 _).1 hbad)
    · exact hdone _ (·.leakSweep ls) rfl (Dev.leakSweep_refused htakes.2.1 hbad ls)
  · exact completes_onDev (·.coupleSweep ks)
      rfl (if_pos hdirect)
  · exact completes_onDev (·.tuneSweep ms) rfl
      ⟨_, rfl, (Dev.sweep_taken h.1.2.1 _).2 hm ht⟩
  · exact completes_onDev (·.coupleSweep ks)
      rfl ⟨_, rfl, (Dev.coupleSweep_free hdirect ks).trans ((Dev.sweep_taken h.1.2.1 _).2 hm ht)⟩
  · exact completes_onDev (·.gainSweep gs) rfl
      ⟨_, rfl, (Dev.sweep_taken h.1.2.1 _).2 hm ht⟩
  · obtain ⟨htakes, hown⟩ := h
    intro mask
    refine ⟨fun hwin hA hB => ⟨fun hr => ?_, fun hr => ?_⟩, fun p hp hteam => ⟨fun hwin => ?_, fun hwin hA hg => ?_⟩⟩
    · obtain ⟨hrep, hcmd, -⟩ := Dev.answered hown htakes.waits rfl Code.CC_UHF_PROFILE
      refine completes_onDev (·.leakSweep ls) rfl ?_
      rw [(Dev.leakSweep_runs htakes.2.1 hm ht hwin hA hB ls).1 hr]
      exact ⟨hrep, hcmd⟩
    · exact completes_onDev (·.leakSweep ls) rfl ⟨_, rfl, (Dev.leakSweep_runs htakes.2.1 hm ht hwin hA hB ls).2 hr⟩
    · exact completes_onDev (·.leakSweep ls) rfl (Dev.leakSweep_held ((Dev.leakHeld_of htakes.2.1 hm ht hp hteam).1 hwin) ls)
    · obtain ⟨ports, hne, hheld⟩ := (Dev.leakHeld_of htakes.2.1 hm ht hp hteam).2 hwin hA hg
      refine completes_onDev (·.leakSweep ls) rfl ?_
      rw [Dev.leakSweep_held hheld ls]
      exact Dev.coexRequests_spec hA hg hne
  · exact (leastBelow_le (fun c => phaseMag (m.phases.getD c 512#10)) 256 k hk).1
  · exact (leastBelow_le (fun c => phaseMag (m.phases.getD c 512#10)) 256 k hk).2 he

end Sys2Proof.Machine
end

section
/-!
PROOFS. The record builder and the Larder (R24, R346 to R351, R360).
-/

namespace Sys2Proof.Machine

open Sys2Proof

-- one proof after another: the check bounds the memory that the stacks of parallel proofs take
set_option Elab.async false

theorem completes_onEngine {s : State} {c : Instr} (f : Dev → Dev) {p : Dev → Prop} (hs : s.dev.phase = .running) (he : exec c s = s.onEngine f)
    (hp : p (f s.dev).settle) : completes c s p := completes_onLive (fun d => (f d).settle) hs he hp

/-! ### A record built (R351) -/

/-- The record that the builder makes of a request other than that of a TAMPER record. -/
def Dev.recordOf (d : Dev) (r : RecReq) : LarderRec :=
  { seq := d.csw 2 + 1, bytes := d.recordBytes r (d.csw 2 + 1), commit := r.commit, entered := d.time, ticket := r.ticket }

/-- A record as it stands in the Larder: under COMMIT 0b01 what waits for it need wait no longer. -/
def Dev.entryOf (d : Dev) (r : LarderRec) : LarderRec := { r with entered := d.time, ticket := if r.commit == 1 then .none else r.ticket }

/-- The Larder with a record at its end, before what that sets in motion. -/
def Dev.admitted (d : Dev) (r : LarderRec) : Dev :=
  (d.onJrn fun j => { j with larder := j.larder ++ [d.entryOf r] }).raiseTo F.JRN_LARDER_HIGH ((d.jrn.larder ++ [d.entryOf r]).length / 4)

theorem Dev.admitted_spec (d : Dev) (r : LarderRec) : let e := d.admitted r
    e.jrn = { d.jrn with larder := d.jrn.larder ++ [d.entryOf r] } ∧ e.cs = d.cs ∧ { d with jrn := e.jrn }.onlyRegs e [R.JRN_LARDER] := by
  intro e
  have hframe : (d.onJrn fun j => { j with larder := j.larder ++ [d.entryOf r] }).onlyRegs e [R.JRN_LARDER] := (Dev.onlyRegs_refl _ _).fld
  exact ⟨rfl, rfl, hframe⟩

theorem Dev.enter_eq (d : Dev) (r : LarderRec) : d.enter r = (d.admitted r).pump := rfl

/-- The sequence and the chain after a record is built. -/
def Dev.sequenced (d : Dev) (r : RecReq) : Dev :=
  (d.setCs 2 (d.csw 2 + 1)).onJrn fun j => { j with chain := slice (d.recordOf r).bytes 52 8, chainSeq := d.csw 2 + 1 }

/-- The bytes of a record do not read the sequence counter. -/
theorem Dev.recordBytes_setCs {d : Dev} {r : RecReq} (hfill : r.fill = .plain) (v seq : Nat) : (d.setCs 2 v).recordBytes r seq = d.recordBytes r seq := by
  have hlatched : (d.setCs 2 v).latched = d.latched := by rw [Dev.latched, Dev.csw_setCs_other (by decide), Dev.latched]
  have hpayload : (d.setCs 2 v).payloadOf r = d.payloadOf r := by
    unfold Dev.payloadOf
    rw [hfill]
  unfold Dev.recordBytes
  rw [hlatched, hpayload]
  rfl

theorem Dev.build_eq {d : Dev} {r : RecReq} (hfill : r.fill = .plain) (hplain : ∀ c, r.ticket ≠ .tamper c) : d.build r =
    if d.larderFull then ((d.sequenced r).onJrn fun j => { j with held := some (d.recordOf r) }).stateWord
    else ((d.sequenced r).admitted (d.recordOf r)).pump := by
  unfold Dev.build
  extract_lets seq e bs ticket record x
  have hticket : ticket = r.ticket := by
    unfold ticket
    split
    next c hc => exact absurd hc (hplain c)
    · rfl
  have hbytes : bs = d.recordBytes r (d.csw 2 + 1) := Dev.recordBytes_setCs hfill _ _
  have hrecord : record = { seq := d.csw 2 + 1, bytes := bs, commit := r.commit, ticket := ticket } := rfl
  have hx : x = (d.setCs 2 (d.csw 2 + 1)).onJrn fun j => { j with chain := slice bs 52 8, chainSeq := d.csw 2 + 1 } := rfl
  clear_value record x bs ticket
  subst hrecord hx hbytes hticket
  rfl

/-- What a record built leaves: the sequence, the chain, and the registers of the Cellar. -/
theorem Dev.sequenced_spec {d : Dev} (r : RecReq) (hseq : d.csw 2 < 0xFFFFFFFD) : let e := d.sequenced r
    e.csw 2 = d.csw 2 + 1 ∧ e.jrn = { d.jrn with chain := slice (d.recordOf r).bytes 52 8, chainSeq := d.csw 2 + 1 } ∧ e.time = d.time ∧
    { d with jrn := e.jrn, cs := e.cs } = e := by
  intro e
  have hcs : e.csw 2 = (d.setCs 2 (d.csw 2 + 1)).csw 2 := rfl
  refine ⟨?_, rfl, rfl, rfl⟩
  rw [hcs, Dev.csw_setCs, Nat.mod_eq_of_lt (by omega)]

theorem Dev.stateWord_spec (d : Dev) : let e := d.stateWord
    (∀ k, k ≠ 7 → e.csw k = d.csw k) ∧ e.jrn = d.jrn ∧ { d with cs := e.cs }.onlyRegs e [R.JRN_STAT] :=
  ⟨fun _ hk => Dev.csw_setCs_other hk, rfl, rfl, fun _ ha => Dev.reg_setFld_other fun h => ha (List.mem_singleton.2 h)⟩

/-- The builder's turn, on a request that is no fault's and no tamper's. -/
theorem Dev.buildNext_eq {d : Dev} {r : RecReq} (hb : d.canBuild = true) (hr : firstBy RecReq.order d.jrn.reqs = some r) (hseq : d.csw 2 < 0xFFFFFFFD)
    (hfault : ∀ no, r.ticket ≠ .fault no) : d.buildNext = (d.onJrn fun j => { j with reqs := j.reqs.erase r }).build r := by
  unfold Dev.buildNext
  rw [if_neg (by simp [hb]), hr]
  dsimp only
  rw [if_neg (by
    have hkept : (d.onJrn fun j => { j with reqs := j.reqs.erase r }).csw 2 = d.csw 2 := rfl
    omega)]
  split
  next no hno => exact absurd hno (hfault no)
  · rfl

/-- The run that asked for a record keeps its sequence. -/
def Dev.sequenceKept (d e : Dev) : Dev :=
  match d.nextBuilt with
  | some (k, reading) => e.onChan k fun c => { c with run := c.run.map fun x =>
      { x with lastSeq := d.csw 2 + 1, readSeq := if reading then d.csw 2 + 1 else x.readSeq } }
  | none => e

theorem Dev.recordBuilt_eq {d : Dev} {r : RecReq} (hb : d.canBuild = true) (hr : firstBy RecReq.order d.jrn.reqs = some r) :
    d.recordBuilt = (d.sequenceKept d.buildNext).checkFull := by
  have hne : d.jrn.reqs.isEmpty = false := by
    cases hreqs : d.jrn.reqs with
    | nil => rw [hreqs] at hr; exact nomatch hr
    | cons _ _ => rfl
  unfold Dev.recordBuilt
  dsimp only
  rw [if_neg (by simp [hb, hne])]
  rfl

theorem Dev.recordBuilt_idle {d : Dev} (h : d.canBuild = false ∨ d.jrn.reqs = []) : d.recordBuilt = d.checkFull := by
  have hnext : d.buildNext = d := by
    unfold Dev.buildNext
    rcases h with h | h
    · exact if_pos (by simp [h])
    · split
      · rfl
      · rw [h]
        rfl
  unfold Dev.recordBuilt
  dsimp only
  rw [hnext, if_pos (by rcases h with h | h <;> simp [h])]

section
variable {d : Dev} {r : RecReq} (hb : d.canBuild = true) (hr : firstBy RecReq.order d.jrn.reqs = some r) (hseq : d.csw 2 < 0xFFFFFFFD)
  (hfill : r.fill = .plain) (hplain : ∀ no c, r.ticket ≠ .fault no ∧ r.ticket ≠ .tamper c)
include hb hr hseq hfill hplain

/-- The record built joins the Larder. -/
theorem Dev.recordBuilt_enters (hfull : d.larderFull = false) : ∃ (e : Dev) (l : LarderRec), d.recordBuilt = (d.sequenceKept e.pump).checkFull ∧
    e.csw 2 = d.csw 2 + 1 ∧ e.jrn.larder = d.jrn.larder ++ [l] ∧ l.seq = d.csw 2 + 1 ∧ l.bytes = d.recordBytes r (d.csw 2 + 1) ∧ l.commit = r.commit ∧
    l.entered = d.time ∧ l.durable = false ∧ e.jrn.held = none ∧ e.jrn.reqs = d.jrn.reqs.erase r ∧ e.jrn.chain = slice l.bytes 52 8 ∧
    e.jrn.devs = d.jrn.devs ∧ { d with jrn := e.jrn, cs := e.cs }.onlyRegs e [R.JRN_LARDER] := by
  have hheld : d.jrn.held = none := by
    simp only [Dev.canBuild, Bool.and_eq_true, Option.isNone_iff_eq_none] at hb
    exact hb.1.1.1.1.2
  have hnext := (Dev.buildNext_eq hb hr hseq fun no => (hplain no 0).1).trans (Dev.build_eq hfill fun c => (hplain 0 c).2)
  obtain ⟨x, hx⟩ : ∃ x, x = d.onJrn fun j => { j with reqs := j.reqs.erase r } := ⟨_, rfl⟩
  rw [← hx] at hnext
  have hsame : x.recordOf r = d.recordOf r ∧ x.larderFull = d.larderFull ∧ x.csw 2 = d.csw 2 ∧ x.time = d.time := by
    rw [hx]
    exact ⟨rfl, rfl, rfl, rfl⟩
  obtain ⟨hrec, hsamefull, hsamecs, hsametime⟩ := hsame
  rw [hsamefull, hfull, if_neg Bool.false_ne_true, hrec] at hnext
  obtain ⟨hcs, hjrn, htime, hrest⟩ := x.sequenced_spec r (by rw [hsamecs]; exact hseq)
  rw [hrec, hsamecs] at hjrn
  generalize x.sequenced r = y at *
  obtain ⟨hjrn', hcs', hframe⟩ := y.admitted_spec (d.recordOf r)
  have hentered : (y.entryOf (d.recordOf r)).entered = d.time := htime.trans hsametime
  refine ⟨y.admitted (d.recordOf r), y.entryOf (d.recordOf r), by rw [Dev.recordBuilt_eq hb hr, hnext], ?_⟩
  generalize y.admitted (d.recordOf r) = e at *
  have hj : e.jrn = { d.jrn with reqs := d.jrn.reqs.erase r, chain := slice (d.recordOf r).bytes 52 8, chainSeq := d.csw 2 + 1
                                 larder := d.jrn.larder ++ [y.entryOf (d.recordOf r)] } := by
    rw [hjrn', hjrn, hx]
    rfl
  have hword : e.csw 2 = d.csw 2 + 1 := by rw [Dev.csw, hcs', ← Dev.csw, hcs, hsamecs]
  have hbase : ({ y with jrn := e.jrn } : Dev) = { d with jrn := e.jrn, cs := e.cs } := by
    rw [hcs', ← hrest, hx]
    rfl
  rw [hbase] at hframe
  generalize hl : y.entryOf (d.recordOf r) = l at *
  have hlrec : l.seq = d.csw 2 + 1 ∧ l.bytes = d.recordBytes r (d.csw 2 + 1) ∧ l.commit = r.commit ∧ l.durable = false := by
    rw [← hl]
    exact ⟨rfl, rfl, rfl, rfl⟩
  obtain ⟨hlseq, hlbytes, hlcommit, hldurable⟩ := hlrec
  have hrecbytes : (d.recordOf r).bytes = d.recordBytes r (d.csw 2 + 1) := rfl
  refine ⟨hword, by rw [hj], hlseq, hlbytes, hlcommit, hentered, hldurable, by rw [hj]; exact hheld, by rw [hj], ?_, by rw [hj], hframe⟩
  rw [hj, hlbytes, ← hrecbytes]

/-- The record built is held where the Larder is full. -/
theorem Dev.recordBuilt_held (hfull : d.larderFull = true) : ∃ (e : Dev) (l : LarderRec), d.recordBuilt = (d.sequenceKept e).checkFull ∧
    e.csw 2 = d.csw 2 + 1 ∧ e.jrn.larder = d.jrn.larder ∧ e.jrn.held = some l ∧ l.seq = d.csw 2 + 1 ∧ l.bytes = d.recordBytes r (d.csw 2 + 1) ∧
    l.commit = r.commit ∧ e.jrn.reqs = d.jrn.reqs.erase r ∧ e.jrn.devs = d.jrn.devs ∧ { d with jrn := e.jrn, cs := e.cs }.onlyRegs e [R.JRN_STAT] := by
  have hnext := (Dev.buildNext_eq hb hr hseq fun no => (hplain no 0).1).trans (Dev.build_eq hfill fun c => (hplain 0 c).2)
  obtain ⟨x, hx⟩ : ∃ x, x = d.onJrn fun j => { j with reqs := j.reqs.erase r } := ⟨_, rfl⟩
  rw [← hx] at hnext
  have hsame : x.recordOf r = d.recordOf r ∧ x.larderFull = d.larderFull ∧ x.csw 2 = d.csw 2 := by
    rw [hx]
    exact ⟨rfl, rfl, rfl⟩
  obtain ⟨hrec, hsamefull, hsamecs⟩ := hsame
  rw [hsamefull, hfull, if_pos rfl, hrec] at hnext
  obtain ⟨hcs, hjrn, -, hrest⟩ := x.sequenced_spec r (by rw [hsamecs]; exact hseq)
  rw [hrec, hsamecs] at hjrn
  generalize x.sequenced r = y at *
  obtain ⟨l, hl⟩ : ∃ l, l = d.recordOf r := ⟨_, rfl⟩
  obtain ⟨z, hz⟩ : ∃ z, z = y.onJrn fun j => { j with held := some l } := ⟨_, rfl⟩
  have hzjrn : z.jrn = { d.jrn with reqs := d.jrn.reqs.erase r, chain := slice (d.recordOf r).bytes 52 8, chainSeq := d.csw 2 + 1, held := some l } := by
    rw [hz]
    refine (congrArg (fun j : Journal => { j with held := some l }) hjrn :).trans ?_
    rw [hx]
    rfl
  have hzcs : z.csw 2 = d.csw 2 + 1 := by
    rw [hz]
    exact hcs.trans (congrArg (· + 1) hsamecs)
  have hzrest : ({ d with jrn := z.jrn, cs := z.cs } : Dev) = z := by
    rw [hz]
    refine Eq.trans ?_ (congrArg (fun u : Dev => { u with jrn := { u.jrn with held := some l } }) hrest)
    rw [hx]
    rfl
  rw [← hl, ← hz] at hnext
  obtain ⟨hscs, hsjrn, hsframe⟩ := z.stateWord_spec
  refine ⟨z.stateWord, l, by rw [Dev.recordBuilt_eq hb hr, hnext], ?_⟩
  generalize z.stateWord = e at *
  have hj := hsjrn.trans hzjrn
  refine ⟨(hscs 2 (by decide)).trans hzcs, by rw [hj], by rw [hj], by rw [hl]; rfl, by rw [hl]; rfl, by rw [hl]; rfl, by rw [hj], by rw [hj], ?_⟩
  rw [hsjrn]
  exact hzrest ▸ hsframe

end

/-! ### The Larder's slots (R24) -/

theorem Dev.enterHeld_of {d : Dev} {r : LarderRec} (hr : d.jrn.held = some r) (hfull : d.larderFull = false) : ∃ (e : Dev) (l : LarderRec),
    d.enterHeld = e.pump ∧ e.jrn.held = none ∧ e.jrn.larder = d.jrn.larder ++ [l] ∧ l.seq = r.seq ∧ l.bytes = r.bytes ∧ l.commit = r.commit ∧
    l.entered = d.time ∧ e.jrn.devs = d.jrn.devs ∧ { d with jrn := e.jrn }.onlyRegs e [R.JRN_LARDER] := by
  obtain ⟨y, hy⟩ : ∃ y, y = d.onJrn fun j => { j with held := none } := ⟨_, rfl⟩
  have henter : d.enterHeld = (y.admitted r).pump := by
    unfold Dev.enterHeld
    rw [hr, hy]
    exact if_neg (by simp [hfull])
  obtain ⟨hjrn, -, hframe⟩ := y.admitted_spec r
  obtain ⟨l, hl⟩ : ∃ l, l = y.entryOf r := ⟨_, rfl⟩
  rw [← hl] at hjrn
  refine ⟨y.admitted r, l, henter, ?_⟩
  generalize y.admitted r = e at *
  have hj : e.jrn = { d.jrn with held := none, larder := d.jrn.larder ++ [l] } := by
    rw [hjrn, hy]
    rfl
  have hbase : ({ y with jrn := e.jrn } : Dev) = { d with jrn := e.jrn } := by
    rw [hy]
    rfl
  rw [hbase] at hframe
  refine ⟨by rw [hj], by rw [hj], by rw [hl]; rfl, by rw [hl]; rfl, by rw [hl]; rfl, ?_, by rw [hj], hframe⟩
  rw [hl, hy]
  rfl

theorem Dev.enterHeld_idle {d : Dev} (h : d.jrn.held = none ∨ d.larderFull = true) : d.enterHeld = d := by
  unfold Dev.enterHeld
  split
  next r hr => exact if_pos (h.resolve_left (by simp [hr]))
  · rfl

/-- Settles O44: the record that the builder makes (`Dev.build_eq`) enters the Larder or is held. -/
theorem recordsBuilt : Obligations.RecordsBuilt := by
  unfold Obligations.RecordsBuilt
  intro s hrun
  refine ⟨fun h => ?_, fun r hb hr hseq hfill hplain => ?_, fun r hr hfull => ?_, fun h => ?_⟩
  · refine completes_onEngine Dev.recordBuilt hrun rfl ?_
    rw [Dev.recordBuilt_idle h]
  · intro seq after
    refine ⟨fun hfull => ?_, fun hfull => ?_⟩
    · obtain ⟨e, l, he, hspec⟩ := Dev.recordBuilt_enters hb hr hseq hfill hplain hfull
      exact completes_onEngine Dev.recordBuilt hrun rfl ⟨e, l, congrArg Dev.settle he, hspec⟩
    · obtain ⟨e, l, he, hspec⟩ := Dev.recordBuilt_held hb hr hseq hfill hplain hfull
      exact completes_onEngine Dev.recordBuilt hrun rfl ⟨e, l, congrArg Dev.settle he, hspec⟩
  · obtain ⟨e, l, he, hspec⟩ := Dev.enterHeld_of hr hfull
    exact completes_onEngine (fun d => d.enterHeld.pump) hrun rfl ⟨e, l, congrArg (fun x : Dev => x.pump.settle) he, hspec⟩
  · refine completes_onEngine (fun d => d.enterHeld.pump) hrun rfl ?_
    rw [Dev.enterHeld_idle h]

end Sys2Proof.Machine
end

section
/-!
PROOFS. What the Cellar's operations change: the devices, the Larder, the counter store (R357 to R374).
-/

namespace Sys2Proof.Machine

open Sys2Proof

-- one proof after another: the check bounds the memory that the stacks of parallel proofs take
set_option Elab.async false

/-! ### NAND devices -/

theorem Dev.nd_of_jrn {d e : Dev} (h : e.jrn.devs = d.jrn.devs) (n : Nat) : e.nd n = d.nd n := congrArg (fun l : List NandDev => l.getD n {}) h

/-! ### The Cellar alone -/

/-- The Cellar, the counter store and the registers at `l`: nothing else differs. -/
def Dev.InCellar (l : List Nat) (d e : Dev) : Prop := { d with jrn := e.jrn, cs := e.cs }.onlyRegs e l

namespace Dev.InCellar

variable {l : List Nat} {d e x : Dev}

theorem refl (l : List Nat) (d : Dev) : InCellar l d d := Dev.onlyRegs_refl d l

theorem trans (h : InCellar l d e) (g : InCellar l e x) : InCellar l d x := by
  refine ⟨?_, fun a ha => (g.2 a ha).trans (h.2 a ha)⟩
  have hrest := h.1
  refine g.1.trans ?_
  generalize x.regs = r
  generalize x.jrn = j
  generalize x.cs = c
  rw [hrest]

theorem onJrn (h : InCellar l d e) (f : Journal → Journal) : InCellar l d (e.onJrn f) := h.trans ⟨rfl, fun _ _ => rfl⟩

theorem onNd (h : InCellar l d e) (n : Nat) (f : NandDev → NandDev) : InCellar l d (e.onNd n f) := h.trans ⟨rfl, fun _ _ => rfl⟩

theorem setCs (h : InCellar l d e) (k v : Nat) : InCellar l d (e.setCs k v) := h.trans ⟨rfl, fun _ _ => rfl⟩

theorem setFld (h : InCellar l d e) {f : Fld} (hf : f.addr ∈ l) (v : Nat) : InCellar l d (e.setFld f v) :=
  h.trans ⟨rfl, fun _ ha => Dev.reg_setFld_other fun hk => ha (hk ▸ hf)⟩

theorem ite {c : Prop} [Decidable c] {y z : Dev} (hy : InCellar l d y) (hz : InCellar l d z) : InCellar l d (if c then y else z) := by
  split
  · exact hy
  · exact hz

theorem mono {l' : List Nat} (h : InCellar l d e) (hl : ∀ a, a ∈ l → a ∈ l') : InCellar l' d e := ⟨h.1, fun a ha => h.2 a fun hm => ha (hl a hm)⟩

theorem meetBad (h : InCellar l d e) (n b : Nat) : InCellar l d (e.meetBad n b) := h.onNd _ _

theorem meetOn (n dst : Nat) : ∀ (k : Nat) {e : Dev} (b : Nat), InCellar l d e → InCellar l d (Dev.meetOn n dst k e b)
  | 0, _, _, h => h
  | k + 1, _, _, h => .ite h (meetOn n dst k _ (.ite (h.meetBad _ _) h))

theorem setHead (h : InCellar l d e) (n a : Nat) : InCellar l d (e.setHead n a) := (meetOn _ _ _ _ h).setCs _ _

theorem setCursor (h : InCellar l d e) (r : List (Nat × Nat × Bytes)) : InCellar l d (e.setCursor r) := by
  unfold Dev.setCursor
  split
  · exact h.setCs _ _
  · exact (h.setCs _ _).setCs _ _

theorem stateWord (h : InCellar l d e) (hl : R.JRN_STAT ∈ l) : InCellar l d e.stateWord := (h.setCs _ _).setFld hl _

theorem nowDurable (h : InCellar l d e) (hl : R.JRN_STAT ∈ l) (seqs : List Nat) : InCellar l d (e.nowDurable seqs) :=
  stateWord (setCs (.ite (h.setCursor _) h) _ _) hl

theorem releaseOpens (h : InCellar l d e) (n : Nat) : InCellar l d (e.releaseOpens n) := (h.onNd _ _).onJrn _

end Dev.InCellar

/-! ### Heads, cursors and durable records -/

/-- What marked blocks met on the way change: the bad blocks of the device. -/
theorem Dev.meetOn_spec {n dst : Nat} (hn : n < 4) : ∀ (k : Nat) (d : Dev) (b : Nat), let e := Dev.meetOn n dst k d b
    e.nd n = { d.nd n with bad := (e.nd n).bad } ∧ (∀ m, m < 4 → m ≠ n → e.nd m = d.nd m) ∧ e.jrn = { d.jrn with devs := e.jrn.devs } ∧ e.cs = d.cs
  | 0, _, _ => ⟨rfl, fun _ _ _ => rfl, rfl, rfl⟩
  | k + 1, d, b => by
    intro e
    have hstep : ∀ y : Dev, y = (if (d.nd n).marked.contains b then d.meetBad n b else d) →
        y.nd n = { d.nd n with bad := (y.nd n).bad } ∧ (∀ m, m < 4 → m ≠ n → y.nd m = d.nd m) ∧ y.jrn = { d.jrn with devs := y.jrn.devs } ∧ y.cs = d.cs := by
      rintro y rfl
      split
      · refine ⟨?_, fun m hm hne => Dev.nd_onNd_other hm hne, rfl, rfl⟩
        unfold Dev.meetBad
        rw [Dev.nd_onNd hn]
      · exact ⟨rfl, fun _ _ _ => rfl, rfl, rfl⟩
    by_cases hb : b = dst
    · rw [show e = d from if_pos hb]
      exact ⟨rfl, fun _ _ _ => rfl, rfl, rfl⟩
    obtain ⟨y, hy⟩ : ∃ y, y = (if (d.nd n).marked.contains b then d.meetBad n b else d) := ⟨_, rfl⟩
    obtain ⟨hself, hother, hjrn, hcs⟩ := hstep y hy
    have he : e = Dev.meetOn n dst k y ((b + 1) % max 1 (d.jBlocks n)) := by
      rw [hy]
      exact if_neg hb
    obtain ⟨hself', hother', hjrn', hcs'⟩ := Dev.meetOn_spec hn k y ((b + 1) % max 1 (d.jBlocks n))
    rw [← he] at hself' hother' hjrn' hcs'
    clear_value e
    refine ⟨?_, fun m hm hne => (hother' m hm hne).trans (hother m hm hne), ?_, hcs'.trans hcs⟩
    · rw [hself', hself]
    · rw [hjrn', hjrn]

theorem Dev.setHead_spec {n : Nat} (hn : n < 4) (d : Dev) (a : Nat) : let e := d.setHead n a
    e.nd n = { d.nd n with bad := (e.nd n).bad } ∧ (∀ m, m < 4 → m ≠ n → e.nd m = d.nd m) ∧ e.jrn = { d.jrn with devs := e.jrn.devs } ∧
    e.csw (0x0B + n) = posOf n a 0 % 2 ^ 32 ∧ ∀ k, k ≠ 0x0B + n → e.csw k = d.csw k := by
  intro e
  obtain ⟨y, hy, he⟩ : ∃ y, y = Dev.meetOn n (blockOf a) ((d.nd n).marked.length + (d.nd n).bad.length + 2) d (blockOf (d.head n)) ∧
      e = y.setCs (0x0B + n) (posOf n a 0) := ⟨_, rfl, rfl⟩
  obtain ⟨hself, hother, hjrn, hcs⟩ := Dev.meetOn_spec (dst := blockOf a) hn ((d.nd n).marked.length + (d.nd n).bad.length + 2) d (blockOf (d.head n))
  rw [← hy] at hself hother hjrn hcs
  clear_value e
  subst he
  exact ⟨hself, hother, hjrn, Dev.csw_setCs _ _ _, fun k hk => (Dev.csw_setCs_other hk).trans (by rw [Dev.csw, hcs, Dev.csw])⟩

/-- Records become durable: the cursor, the durable mark and the state word follow. -/
theorem Dev.nowDurable_spec (d : Dev) (seqs : List Nat) : let e := d.nowDurable seqs
    e.jrn = d.jrn ∧ ∀ k, k ∉ [3, 4, 5, 7] → e.csw k = d.csw k := by
  have hcursor : ∀ r : List (Nat × Nat × Bytes), (d.setCursor r).jrn = d.jrn ∧ ∀ k, k ∉ [3, 4, 5, 7] → (d.setCursor r).csw k = d.csw k := by
    intro r
    unfold Dev.setCursor
    split
    · exact ⟨rfl, fun k hk => Dev.csw_setCs_other fun h => hk (by simp [h])⟩
    · exact ⟨rfl, fun k hk => (Dev.csw_setCs_other fun h => hk (by simp [h])).trans (Dev.csw_setCs_other fun h => hk (by simp [h]))⟩
  intro e
  obtain ⟨y, v, hy, he⟩ : ∃ (y : Dev) (v : Nat), (y.jrn = d.jrn ∧ ∀ k, k ∉ [3, 4, 5, 7] → y.csw k = d.csw k) ∧ e = (y.setCs 3 v).stateWord := by
    refine ⟨_, _, ?_, rfl⟩
    split
    · exact hcursor _
    · exact ⟨rfl, fun _ _ => rfl⟩
  clear_value e
  obtain ⟨hcs, hjrn, -⟩ := (y.setCs 3 v).stateWord_spec
  rw [he]
  refine ⟨hjrn.trans hy.1, fun k hk => (hcs k fun h => hk (by simp [h])).trans ((Dev.csw_setCs_other fun h => hk (by simp [h])).trans (hy.2 k hk))⟩

/-- Records that become durable with nothing waiting for them but steps, and no fault waiting on them. -/
theorem Dev.markDurable_plain {d : Dev} {seqs : List Nat} (hticket : ∀ l ∈ d.jrn.larder, l.seq ∈ seqs → l.ticket = .none ∨ ∃ h, l.ticket = .step h)
    (hlost : d.jrn.lost = []) : d.markDurable seqs = (d.onJrn fun j => { j with
      larder := j.larder.map fun (r : LarderRec) => if seqs.contains r.seq then { r with durable := true, ticket := .none } else r }).nowDurable seqs := by
  have hrelease : ∀ (l : List Ticket) (e : Dev), (∀ t ∈ l, t = .none ∨ ∃ h, t = .step h) → l.foldl Dev.release e = e := by
    intro l
    induction l with
    | nil => exact fun _ _ => rfl
    | cons t l ih =>
      intro e hl
      have ht : e.release t = e := by
        rcases hl t List.mem_cons_self with rfl | ⟨h, rfl⟩ <;> rfl
      rw [List.foldl_cons, ht]
      exact ih e fun u hu => hl u (List.mem_cons_of_mem t hu)
  have hclose : ∀ e : Dev, e.jrn.lost = [] → e.closeLost = e := by
    intro e he
    obtain ⟨j, hj⟩ : ∃ j, j = e.jrn := ⟨_, rfl⟩
    unfold Dev.closeLost
    extract_lets open_ done x
    have hdone : done = [] := by simp [done, he]
    have hx : x = e := by
      have hfilter : (e.jrn.lost.filter fun x => open_ x.2.2) = e.jrn.lost := by simp [he]
      have hx : x = { e with jrn := { e.jrn with lost := e.jrn.lost.filter fun x => open_ x.2.2 } } := rfl
      rw [hx, hfilter]
    rw [hdone, hx]
    rfl
  unfold Dev.markDurable
  extract_lets tickets y z
  have htickets : ∀ t ∈ tickets, t = .none ∨ ∃ h, t = .step h := by
    intro t ht
    obtain ⟨l, hl, rfl⟩ := List.mem_map.1 ht
    obtain ⟨hmem, hseq⟩ := List.mem_filter.1 hl
    simp only [Bool.and_eq_true, List.contains_iff_mem] at hseq
    exact hticket l hmem hseq.1
  rw [hrelease tickets z htickets]
  exact hclose z ((congrArg Journal.lost (y.nowDurable_spec seqs).1).trans hlost)

/-! ### The memory port (R378, R379) -/

theorem Dev.PortServed.memWork (d : Dev) (work : Nat) (c : List MemEntry) : d.PortServed (d.memWork work c) := by
  unfold Dev.memWork
  extract_lets es x
  split
  · exact .refl d
  · have hx : d.PortServed x := by
      unfold x
      split
      · exact .refl d
      · exact .portDrain d
    clear_value x
    split
    · exact hx
    · refine hx.trans ⟨?_, ?_⟩
      · rfl
      · exact Nat.le_add_right _ _

theorem Dev.PortServed.memChains (d : Dev) (work : Nat) (cs : List (List MemEntry)) : d.PortServed (d.memChains work cs) := by
  have hall : ∀ (l : List (List MemEntry)) (e : Dev), d.PortServed e → d.PortServed (l.foldl (fun d c => d.memWork work c) e) := by
    intro l
    induction l with
    | nil => exact fun _ he => he
    | cons c l ih => exact fun e he => ih _ (he.trans (.memWork e work c))
  exact hall cs d (.refl d)

theorem Dev.snoopChain_reg (d : Dev) (c : List MemEntry) {a : Nat} (ha : a < 0xC00 ∨ 0xC60 ≤ a) : (d.snoopChain c).reg a = d.reg a := by
  refine Dev.forEach_keeps (P := fun e => e.reg a = d.reg a) rfl fun y u hu hy => ?_
  have hu6 : u < 6 := List.mem_range.1 hu
  have hne : ∀ k, k < 0x10 → a ≠ 0xC00 + k + 0x10 * u := by omega
  dsimp only
  split
  · refine Eq.trans ?_ hy
    refine (Dev.reg_setReg_other (hne 9 (by decide))).trans ((Dev.reg_setReg_other (hne 8 (by decide))).trans ?_)
    refine (Dev.reg_setFld_other (hne 7 (by decide))).trans ((Dev.reg_setReg_other (hne 7 (by decide))).trans ((Dev.reg_setFld_other (hne 7 (by decide))).trans ?_))
    exact (Dev.reg_setReg_other (hne 6 (by decide))).trans ((Dev.reg_setReg_other (hne 4 (by decide))).trans (Dev.reg_setReg_other (hne 3 (by decide))))
  · exact hy

theorem Dev.portDrain_reg (d : Dev) {a : Nat} (ha : a < 0xC00 ∨ 0xC60 ≤ a) : d.portDrain.reg a = d.reg a := by
  refine Dev.forEach_keeps (P := fun e => e.reg a = d.reg a) rfl fun y _ _ hy => Eq.trans ?_ hy
  unfold Dev.portTurn
  split
  split
  · rfl
  · exact (Dev.snoopChain_reg _ _ ha).trans rfl

theorem Dev.memWork_reg (d : Dev) (work : Nat) (c : List MemEntry) {a : Nat} (ha : a < 0xC00 ∨ 0xC60 ≤ a) (hs : a ≠ R.MEM_STAT) :
    (d.memWork work c).reg a = d.reg a := by
  unfold Dev.memWork
  extract_lets es x
  split
  · rfl
  · have hx : x.reg a = d.reg a := by
      unfold x
      split
      · rfl
      · exact d.portDrain_reg ha
    clear_value x
    split
    · exact hx
    · exact (Dev.reg_setFld_other hs).trans hx

/-! ### Faults logged (R374, R493) -/

/-- A fault logged: its entry is the newest, its code shows, and only the fault block changes. -/
theorem Dev.logFault_spec (d : Dev) {code : Nat} (hcode : code < 256) (cls pch ff int newp : Nat) (tag : Bytes) (handle : Nat) (object : Bytes) :
    ∃ (x : Dev) (e : FltEntry), d.logFault code cls pch ff int newp tag handle object = (x, e) ∧
    x.flt.head? = some e ∧ x.fld F.FLT_STAT_LAST_CODE = code ∧
    (∀ f : Fld, f.hi < 32 → f.hi < F.FLT_STAT_LAST_CODE.lo ∨ F.FLT_STAT_LAST_CODE.hi < f.lo → f.addr = R.FLT_STAT → x.fld f = d.fld f) ∧
    { d with flt := x.flt, fltNo := x.fltNo }.onlyRegs x [R.FLT_STAT, R.FLT_CNT, R.FLT_INT] := by
  unfold Dev.logFault
  extract_lets e y z w
  refine ⟨_, e, rfl, ?_⟩
  have hy : { d with flt := y.flt, fltNo := y.fltNo } = y := rfl
  have hhead : y.flt.head? = some e := rfl
  clear_value e y
  have hz : y.onlyRegs z [R.FLT_STAT, R.FLT_CNT, R.FLT_INT] := ((Dev.onlyRegs_refl y _).fld).fld
  have hzcode : z.fld F.FLT_STAT_LAST_CODE = code := (Dev.fld_bump_other (by decide) (by decide)).trans (Dev.fld_setFld_small (by decide) hcode)
  have hzother : ∀ f : Fld, f.hi < 32 → f.hi < F.FLT_STAT_LAST_CODE.lo ∨ F.FLT_STAT_LAST_CODE.hi < f.lo → f.addr = R.FLT_STAT → z.fld f = y.fld f := by
    intro f h32 hdis haddr
    refine (Dev.fld_bump_other (.inl (by rw [haddr]; decide)) h32).trans (Dev.fld_setFld_other (.inr ?_) h32)
    exact hdis
  clear_value z
  have hw : y.onlyRegs w [R.FLT_STAT, R.FLT_CNT, R.FLT_INT] ∧ w.reg R.FLT_STAT = z.reg R.FLT_STAT := by
    unfold w
    split
    · exact ⟨hz.fld, Dev.reg_setFld_other (by decide)⟩
    · exact ⟨hz, rfl⟩
  clear_value w
  have hlast : ((w.setFld F.FLT_INT_LAST (min int 0xFFFF)).raiseTo F.FLT_INT_MAX int).reg R.FLT_STAT = z.reg R.FLT_STAT :=
    (Dev.reg_setFld_other (by decide)).trans ((Dev.reg_setFld_other (by decide)).trans hw.2)
  have hframe : y.onlyRegs ((w.setFld F.FLT_INT_LAST (min int 0xFFFF)).raiseTo F.FLT_INT_MAX int) [R.FLT_STAT, R.FLT_CNT, R.FLT_INT] := (hw.1.fld).fld
  generalize (w.setFld F.FLT_INT_LAST (min int 0xFFFF)).raiseTo F.FLT_INT_MAX int = x at *
  have hxy : x.flt = y.flt ∧ x.fltNo = y.fltNo := ⟨(congrArg Dev.flt hframe.1 :), (congrArg Dev.fltNo hframe.1 :)⟩
  refine ⟨by rw [hxy.1, hhead], (Dev.fld_eq_of_reg hlast).trans hzcode, fun f h32 hdis haddr => ?_, ?_⟩
  · refine (Dev.fld_eq_of_reg (by rw [haddr]; exact hlast)).trans ((hzother f h32 hdis haddr).trans ?_)
    rw [← hy]
    rfl
  · rw [hxy.1, hxy.2, hy]
    exact hframe

/-- A NAND fault latched, before its report: the entry, the memory error and the marks. -/
structure Dev.NandFaulted (d e : Dev) (n op : Nat) (y : FltEntry) : Prop where
  entry : e.flt.head? = some y
  jrn : e.jrn = d.jrn
  cs : e.cs = d.cs
  nand : e.fld F.FLT_STAT_NAND = 1
  sel : e.fld F.MEM_ERR_SEL = n + 1
  code : e.fld F.MEM_ERR_CODE = Code.NAND_FAIL
  op : e.fld F.MEM_ERR_OP = op
  last : e.fld F.FLT_STAT_LAST_CODE = Code.NAND_FAIL
  frame : { d with flt := e.flt, fltNo := e.fltNo, freeCtr := d.freeCtr + 1 }.onlyRegs e [R.FLT_STAT, R.FLT_CNT, R.FLT_INT, R.MEM_ERR]

theorem Dev.nandFault_eq (d : Dev) {n op : Nat} (hn : n < 4) (hop : op < 256) (seqs : List Nat) : ∃ (e : Dev) (y : FltEntry), d.NandFaulted e n op y ∧
    d.nandFault n op seqs = if seqs = [] then e.faultReport y else e.onJrn fun j => { j with lost := j.lost ++ [(y.no, e.time, seqs)] } := by
  obtain ⟨u, hu⟩ : ∃ u, u = (d.setFld F.FLT_STAT_NAND 1).memError (n + 1) Code.NAND_FAIL op := ⟨_, rfl⟩
  have hurest : ({ d with regs := u.regs, freeCtr := d.freeCtr + 1 } : Dev) = u := by rw [hu]; rfl
  have hureg : ∀ a, a ∉ [R.FLT_STAT, R.FLT_CNT, R.FLT_INT, R.MEM_ERR] → u.reg a = d.reg a := by
    intro a ha
    have hmem : a ≠ R.MEM_ERR := fun h => ha (by simp [h])
    have hstat : a ≠ R.FLT_STAT := fun h => ha (by simp [h])
    rw [hu]
    exact (Dev.reg_setFld_other hmem).trans ((Dev.reg_setFld_other hmem).trans ((Dev.reg_setFld_other hmem).trans ((Dev.reg_setFld_other hmem).trans (Dev.reg_setFld_other hstat))))
  have hunand : u.fld F.FLT_STAT_NAND = 1 := by
    rw [hu]
    refine (Dev.fld_setFld_other (by decide) (by decide)).trans ((Dev.fld_setFld_other (by decide) (by decide)).trans ?_)
    refine (Dev.fld_setFld_other (by decide) (by decide)).trans ((Dev.fld_setFld_other (by decide) (by decide)).trans ?_)
    exact Dev.fld_setFld_small (by decide) (by decide)
  have husel : u.fld F.MEM_ERR_SEL = n + 1 := by
    rw [hu]
    refine (Dev.fld_setFld_other (by decide) (by decide)).trans ((Dev.fld_setFld_other (by decide) (by decide)).trans ?_)
    refine (Dev.fld_setFld_other (by decide) (by decide)).trans (Dev.fld_setFld_small (by decide) ?_)
    exact Nat.lt_of_lt_of_le (Nat.succ_lt_succ hn) (by decide)
  have hucode : u.fld F.MEM_ERR_CODE = Code.NAND_FAIL := by
    rw [hu]
    refine (Dev.fld_setFld_other (by decide) (by decide)).trans ((Dev.fld_setFld_other (by decide) (by decide)).trans ?_)
    exact Dev.fld_setFld_small (by decide) (by decide)
  have huop : u.fld F.MEM_ERR_OP = op := by
    rw [hu]
    exact (Dev.fld_setFld_other (by decide) (by decide)).trans (Dev.fld_setFld_small (by decide) hop)
  have hujrn : u.jrn = d.jrn ∧ u.cs = d.cs := by rw [hu]; exact ⟨rfl, rfl⟩
  obtain ⟨e, y, hx, hhead, hlast, hother, hframe⟩ := u.logFault_spec (code := Code.NAND_FAIL) (by decide) 7 0 (if seqs.isEmpty then 0 else 0x80) 0 0xFF [] 0 []
  have heq : d.nandFault n op seqs = if seqs.isEmpty then e.faultReport y else e.onJrn fun j => { j with lost := j.lost ++ [(y.no, e.time, seqs)] } := by
    unfold Dev.nandFault
    rw [← hu]
    dsimp only
    rw [hx]
  clear hx hu
  refine ⟨e, y, ?_, ?_⟩
  · have hmem : e.reg R.MEM_ERR = u.reg R.MEM_ERR := hframe.2 _ (by decide)
    refine ⟨hhead, (congrArg Dev.jrn hframe.1 :).trans hujrn.1, (congrArg Dev.cs hframe.1 :).trans hujrn.2,
      (hother F.FLT_STAT_NAND (by decide) (by decide) rfl).trans hunand, (Dev.fld_eq_of_reg hmem).trans husel, (Dev.fld_eq_of_reg hmem).trans hucode,
      (Dev.fld_eq_of_reg hmem).trans huop, hlast, ?_, fun a ha => ?_⟩
    · have hrest := hframe.1
      refine hrest.trans ?_
      generalize e.regs = r
      generalize e.flt = l
      generalize e.fltNo = k
      rw [← hurest]
    · exact (hframe.2 a fun h => ha (by simp at h ⊢; tauto)).trans (hureg a ha)
  · rw [heq]
    simp only [List.isEmpty_iff]

end Sys2Proof.Machine
end

section
/-!
PROOFS. Page programs pass and fail (R359, R361, R374).
-/

namespace Sys2Proof.Machine

open Sys2Proof

-- one proof after another: the check bounds the memory that the stacks of parallel proofs take
set_option Elab.async false

/-! ### What the geometry reads -/

theorem Dev.goodBlock_congr {d e : Dev} {n : Nat} (hcfg : e.jrn.cfg = d.jrn.cfg) (hbad : (e.nd n).bad = (d.nd n).bad) (hmarked : (e.nd n).marked = (d.nd n).marked) :
    ∀ k b, e.goodBlock n k b = d.goodBlock n k b
  | 0, _ => rfl
  | k + 1, b => by
    have hblocks : e.jBlocks n = d.jBlocks n := by rw [Dev.jBlocks, hcfg, Dev.jBlocks]
    rw [Dev.goodBlock, Dev.goodBlock, Dev.badBlock, Dev.badBlock, hbad, hmarked, hblocks, goodBlock_congr hcfg hbad hmarked k]

theorem Dev.nextPage_congr {d e : Dev} {n : Nat} (hcfg : e.jrn.cfg = d.jrn.cfg) (hbad : (e.nd n).bad = (d.nd n).bad) (hmarked : (e.nd n).marked = (d.nd n).marked)
    (a : Nat) : e.nextPage n a = d.nextPage n a := by
  have hblocks : e.jBlocks n = d.jBlocks n := by rw [Dev.jBlocks, hcfg, Dev.jBlocks]
  rw [Dev.nextPage, Dev.nextPage, Dev.jPages, Dev.jPages, hcfg, Dev.nextBlock, Dev.nextBlock, hbad, hmarked, hblocks, Dev.goodBlock_congr hcfg hbad hmarked]

theorem Dev.freshBlock_congr {d e : Dev} {n : Nat} (hcfg : e.jrn.cfg = d.jrn.cfg) (hnd : e.nd n = d.nd n) (hcs : e.cs = d.cs) :
    e.freshBlock n = d.freshBlock n := by
  have hblocks : e.jBlocks n = d.jBlocks n := by rw [Dev.jBlocks, hcfg, Dev.jBlocks]
  have hhead : e.head n = d.head n := by rw [Dev.head, Dev.csw, hcs, Dev.head, Dev.csw]
  have hcommit : e.commitBlock n = d.commitBlock n := by rw [Dev.commitBlock, Dev.csw, hcs, Dev.commitBlock, Dev.csw]
  have herased : ∀ b, e.erasedBlock n b = d.erasedBlock n b := fun b => by
    rw [Dev.erasedBlock, Dev.erasedBlock, Dev.badBlock, Dev.badBlock, hnd]
  unfold Dev.freshBlock
  rw [hblocks, hnd, hhead, hcommit]
  simp only [herased]

/-! ### Programs that pass (R359, R361) -/

theorem Dev.nd_freeSlots (d : Dev) (seqs : List Nat) (m : Nat) : (d.freeSlots seqs).nd m = d.nd m := rfl

/-- The records of a program marked durable. -/
def markedDurable (seqs : List Nat) (l : List LarderRec) : List LarderRec :=
  l.map fun (r : LarderRec) => if seqs.contains r.seq then { r with durable := true, ticket := .none } else r

theorem filter_markedDurable (seqs : List Nat) (l : List LarderRec) :
    ((markedDurable seqs l).filter fun r => !seqs.contains r.seq) = l.filter fun r => !seqs.contains r.seq := by
  induction l with
  | nil => rfl
  | cons r l ih =>
    have hcons : markedDurable seqs (r :: l) = (if seqs.contains r.seq then { r with durable := true, ticket := .none } else r) :: markedDurable seqs l := rfl
    rw [hcons]
    by_cases h : seqs.contains r.seq = true
    · rw [if_pos h, List.filter_cons_of_neg (by simpa using h), List.filter_cons_of_neg (by simpa using h), ih]
    · rw [if_neg h, List.filter_cons_of_pos (by simpa using h), List.filter_cons_of_pos (by simpa using h), ih]

section
variable {d : Dev} {n : Nat} {p : Prog} (hn : n < 4) (hticket : ∀ l ∈ d.jrn.larder, l.seq ∈ p.seqs → l.ticket = .none ∨ ∃ h, l.ticket = .step h)
  (hlost : d.jrn.lost = [])
include hn hticket hlost

/-- The page programmed stands, and its records are durable. -/
theorem Dev.pageStands (c : Dev) (hcjrn : c.jrn = d.jrn) (hccs : c.cs = d.cs) :
    ∃ z, (c.onNd n fun x => { x with pages := insertPage p.page x.pages, prog := none }).markDurable p.seqs = z ∧
    z.nd n = { d.nd n with pages := insertPage p.page (d.nd n).pages, prog := none } ∧ (∀ m, m < 4 → m ≠ n → z.nd m = d.nd m) ∧
    z.jrn = { d.jrn with devs := z.jrn.devs, larder := markedDurable p.seqs d.jrn.larder } ∧ (∀ k, k ∉ [3, 4, 5, 7] → z.csw k = d.csw k) ∧
    InCellar [R.JRN_STAT] c z := by
  obtain ⟨y, hy⟩ : ∃ y, y = c.onNd n fun x => { x with pages := insertPage p.page x.pages, prog := none } := ⟨_, rfl⟩
  have hcnd := Dev.nd_of_jrn (congrArg Journal.devs hcjrn)
  have hynd : y.nd n = { d.nd n with pages := insertPage p.page (d.nd n).pages, prog := none } := by rw [hy, Dev.nd_onNd hn, hcnd]
  have hyother : ∀ m, m < 4 → m ≠ n → y.nd m = d.nd m := fun m hm hne => by rw [hy, Dev.nd_onNd_other hm hne, hcnd]
  have hyjrn : y.jrn = { d.jrn with devs := y.jrn.devs } := by
    rw [hy, ← hcjrn]
    rfl
  have hycs : ∀ k, y.csw k = d.csw k := fun k => by
    rw [hy]
    exact congrArg (fun m => (RegMap.get m k).toNat) hccs
  have hyframe : InCellar [R.JRN_STAT] c y := hy ▸ (InCellar.refl _ c).onNd _ _
  have hmark := Dev.markDurable_plain (d := y) (seqs := p.seqs) (by rw [hyjrn]; exact hticket) (by rw [hyjrn]; exact hlost)
  obtain ⟨u, hu⟩ : ∃ u, u = y.onJrn fun j => { j with larder := markedDurable p.seqs j.larder } := ⟨_, rfl⟩
  have hujrn : u.jrn = { d.jrn with devs := y.jrn.devs, larder := markedDurable p.seqs d.jrn.larder } := by
    rw [hu]
    exact congrArg (fun j : Journal => { j with larder := markedDurable p.seqs j.larder }) hyjrn
  have hucs : ∀ k, u.csw k = d.csw k := fun k => by rw [hu]; exact hycs k
  have huframe : InCellar [R.JRN_STAT] c u := hu ▸ hyframe.onJrn _
  obtain ⟨hjrn, hcs⟩ := u.nowDurable_spec p.seqs
  have hzjrn := hjrn.trans hujrn
  have hznd := Dev.nd_of_jrn (e := u.nowDurable p.seqs) (d := y) (congrArg Journal.devs hzjrn :)
  refine ⟨u.nowDurable p.seqs, ?_, (hznd n).trans hynd, fun m hm hne => (hznd m).trans (hyother m hm hne), ?_, fun k hk => (hcs k hk).trans (hucs k),
    huframe.nowDurable (by simp) _⟩
  · rw [← hy, hmark, hu]
    rfl
  · rw [hzjrn]

/-- A MAIN page that passes. -/
theorem Dev.progPassed_main (hty : p.page.ptype = 1) : let e := d.progPassed n p
    (e.nd n).prog = none ∧ (e.nd n).pages = insertPage p.page (d.nd n).pages ∧ e.jrn.larder = (d.jrn.larder.filter fun l => !p.seqs.contains l.seq) ∧
    e.csw (0x0B + n) = posOf n (d.nextPage n p.page.addr) 0 % 2 ^ 32 ∧ (∀ m, m < 4 → m ≠ n → e.nd m = d.nd m) ∧ InCellar [R.JRN_STAT] d e := by
  intro e
  obtain ⟨z, hz, hnd, hother, hjrn, -, hframe⟩ := Dev.pageStands hn hticket hlost d rfl rfl
  obtain ⟨w, hw⟩ : ∃ w, w = (z.onNd n fun x => { x with opens := x.opens.filter (·.addr != p.page.addr) }).freeSlots p.seqs := ⟨_, rfl⟩
  have he : e = (w.setHead n (w.nextPage n p.page.addr)).stateWord := by
    rw [hw, ← hz]
    unfold e Dev.progPassed
    rw [hty] <;> rfl
  clear_value e
  have hwnd : w.nd n = { d.nd n with pages := insertPage p.page (d.nd n).pages, prog := none, opens := (d.nd n).opens.filter (·.addr != p.page.addr) } := by
    rw [hw, Dev.nd_freeSlots, Dev.nd_onNd hn, hnd]
  have hwother : ∀ m, m < 4 → m ≠ n → w.nd m = d.nd m := fun m hm hne => by
    rw [hw, Dev.nd_freeSlots, Dev.nd_onNd_other hm hne, hother m hm hne]
  have hwlarder : w.jrn.larder = d.jrn.larder.filter fun l => !p.seqs.contains l.seq := by
    have hlarder : z.jrn.larder = markedDurable p.seqs d.jrn.larder := (congrArg Journal.larder hjrn :)
    rw [hw, ← filter_markedDurable, ← hlarder]
    rfl
  have hwcfg : w.jrn.cfg = d.jrn.cfg := by
    rw [hw]
    exact (congrArg Journal.cfg hjrn :)
  have hwframe : InCellar [R.JRN_STAT] d w := by
    rw [hw]
    exact (hframe.onNd _ _).onJrn _
  have hnext : w.nextPage n p.page.addr = d.nextPage n p.page.addr := Dev.nextPage_congr hwcfg (by rw [hwnd]) (by rw [hwnd]) _
  clear hw
  rw [hnext] at he
  obtain ⟨hself, hkept, hvjrn, hword, -⟩ := Dev.setHead_spec hn w (d.nextPage n p.page.addr)
  have hvframe := hwframe.setHead n (d.nextPage n p.page.addr)
  generalize w.setHead n (d.nextPage n p.page.addr) = v at *
  obtain ⟨hcs, hsjrn, -⟩ := v.stateWord_spec
  have hsframe := hvframe.stateWord (by simp)
  rw [← he] at hcs hsjrn hsframe
  have hend := Dev.nd_of_jrn (congrArg Journal.devs hsjrn)
  refine ⟨?_, ?_, ?_, (hcs _ (by omega)).trans hword, fun m hm hne => (hend m).trans ((hkept m hm hne).trans (hwother m hm hne)), hsframe⟩
  · rw [hend, hself, hwnd]
  · rw [hend, hself, hwnd]
  · rw [hsjrn, hvjrn, hwlarder]

/-- A COMMIT page that passes. -/
theorem Dev.progPassed_commit (hty : p.page.ptype = 2) : let e := d.progPassed n p
    (e.nd n).prog = none ∧ (e.nd n).pages = insertPage p.page (d.nd n).pages ∧ (e.nd n).opens = (d.nd n).opens ∧
    e.fld F.JRN_CNT_COMMITS = satAdd 0xFFFF (d.fld F.JRN_CNT_COMMITS) 1 ∧
    e.jrn.larder = d.jrn.larder.map (fun l => if p.seqs.contains l.seq then { l with durable := true, ticket := .none } else l) ∧
    (∀ m, m < 4 → m ≠ n → e.nd m = d.nd m) ∧ InCellar [R.JRN_STAT, R.JRN_CNT] d e := by
  intro e
  have hc : InCellar [R.JRN_STAT, R.JRN_CNT] d (d.bump F.JRN_CNT_COMMITS 1) := (InCellar.refl _ d).setFld (by decide) _
  obtain ⟨z, hz, hnd, hother, hjrn, -, hframe⟩ := Dev.pageStands hn hticket hlost (d.bump F.JRN_CNT_COMMITS 1) rfl rfl
  have he : e = z := by
    rw [← hz]
    unfold e Dev.progPassed
    rw [hty] <;> rfl
  rw [he]
  refine ⟨by rw [hnd], by rw [hnd], by rw [hnd], ?_, by rw [hjrn]; rfl, hother, hc.trans (hframe.mono (by simp))⟩
  refine (Dev.fld_eq_of_reg (hframe.2 _ (by decide))).trans ?_
  exact Dev.fld_bump (by decide)

end

/-! ### Programs that fail (R374) -/

/-- The torn page, and its block queued to be retired. -/
def Dev.torn (d : Dev) (n : Nat) (p : Prog) : Dev :=
  (d.onNd n fun x => { x with prog := none, pages := insertPage { p.page with torn := true } x.pages }).onJrn fun j =>
    { j with relocs := if j.relocs.any (fun r => r.2 == (n, blockOf p.page.addr)) then j.relocs else j.relocs ++ [(2, n, blockOf p.page.addr)] }

/-- The ring's pages moved to a fresh block, or given up where there is none. -/
def Dev.movedOn (d : Dev) (n : Nat) (p : Prog) : Dev :=
  match p.page.ptype with
  | 2 => match d.farthest n with
    | some b => d.setCs (0x13 + n) (posOf n (b * 128) 0)
    | none => d
  | _ => match d.freshBlock n with
    | some b =>
      let d := d.setHead n (b * 128)
      let k := b2n (p.page.ptype == 3)
      let d := d.onNd n fun x => { x with opens := (x.opens.zip (List.range 2)).map fun (o : OpenPage × Nat) => { o.1 with addr := b * 128 + o.2 + k } }
      if p.page.ptype == 3 then d.launch n { p with page := { p.page with addr := b * 128 } } else d
    | none =>
      let d := d.releaseOpens n
      if p.page.ptype == 3 then d.cutPass else d

/-- The sequences of a program that are not durable yet. -/
def Dev.stillOpen (d : Dev) (p : Prog) : List Nat := p.seqs.filter fun q => d.jrn.larder.any fun r => r.seq == q && !r.durable

theorem Dev.progFailed_eq (d : Dev) (n : Nat) (p : Prog) : d.progFailed n p =
    (((d.torn n p).movedOn n p).nandFault n 0x10 (((d.torn n p).movedOn n p).stillOpen p)).pump := rfl

/-- What a record says and whether it is durable. -/
def LarderRec.said (r : LarderRec) : Bytes × Nat × Bool := (r.bytes, r.seq, r.durable)

theorem Dev.torn_spec {n : Nat} (hn : n < 4) (d : Dev) (p : Prog) : let e := d.torn n p
    e.nd n = { d.nd n with prog := none, pages := insertPage { p.page with torn := true } (d.nd n).pages } ∧ (∀ m, m < 4 → m ≠ n → e.nd m = d.nd m) ∧
    e.jrn = { d.jrn with devs := e.jrn.devs, relocs := e.jrn.relocs } ∧ e.cs = d.cs ∧ (∃ y ∈ e.jrn.relocs, y.2 = (n, blockOf p.page.addr)) ∧
    ∀ l, InCellar l d e := by
  intro e
  have hnd : ∀ m, e.nd m = (d.onNd n fun x => { x with prog := none, pages := insertPage { p.page with torn := true } x.pages }).nd m := fun _ => rfl
  refine ⟨(hnd n).trans (Dev.nd_onNd hn), fun m hm hne => (hnd m).trans (Dev.nd_onNd_other hm hne), rfl, rfl, ?_, fun l => ((InCellar.refl l d).onNd _ _).onJrn _⟩
  have hrelocs : e.jrn.relocs = if d.jrn.relocs.any (fun r => r.2 == (n, blockOf p.page.addr)) then d.jrn.relocs else d.jrn.relocs ++ [(2, n, blockOf p.page.addr)] := rfl
  rw [hrelocs]
  split
  next h =>
    obtain ⟨y, hy, heq⟩ := List.any_eq_true.1 h
    exact ⟨y, hy, by simpa using heq⟩
  · exact ⟨(2, n, blockOf p.page.addr), by simp, rfl⟩

theorem Dev.releaseOpens_spec {n : Nat} (hn : n < 4) (d : Dev) : let e := d.releaseOpens n
    e.nd n = { d.nd n with opens := (e.nd n).opens } ∧ (∀ m, m < 4 → m ≠ n → e.nd m = d.nd m) ∧
    e.jrn = { d.jrn with devs := e.jrn.devs, larder := e.jrn.larder } ∧ e.jrn.larder.map LarderRec.said = d.jrn.larder.map LarderRec.said := by
  intro e
  have hnd : ∀ m, e.nd m = (d.onNd n fun x => { x with opens := ((x.opens.map fun o => { o with
      seqs := o.seqs.takeWhile fun q => d.jrn.larder.any fun r => r.seq == q && r.durable, closed := true }).filter fun o => !o.seqs.isEmpty) }).nd m := fun _ => rfl
  have hlarder : e.jrn.larder = d.jrn.larder.map fun (r : LarderRec) => if r.dev == some n && !r.durable then { r with dev := none } else r := rfl
  have hjrn : e.jrn = { d.jrn with devs := e.jrn.devs, larder := e.jrn.larder } := rfl
  clear_value e
  refine ⟨?_, fun m hm hne => (hnd m).trans (Dev.nd_onNd_other hm hne), hjrn, ?_⟩
  · rw [hnd, Dev.nd_onNd hn]
  · rw [hlarder, List.map_map]
    refine List.map_congr_left fun r _ => ?_
    dsimp only [Function.comp]
    split <;> rfl

/-- The pages of a MAIN or COMMIT program that failed, moved on: what it wrote stays, and so do the records. -/
theorem Dev.movedOn_spec {n : Nat} (hn : n < 4) (d : Dev) {p : Prog} (hty : p.page.ptype ≠ 3) : let e := d.movedOn n p
    (e.nd n).prog = (d.nd n).prog ∧ (e.nd n).pages = (d.nd n).pages ∧ (∀ m, m < 4 → m ≠ n → e.nd m = d.nd m) ∧ e.jrn.relocs = d.jrn.relocs ∧
    e.jrn.larder.map LarderRec.said = d.jrn.larder.map LarderRec.said ∧ ∀ l, InCellar l d e := by
  intro e
  have hthree : ¬(p.page.ptype == 3) = true := by simpa using hty
  have he : e = d.movedOn n p := rfl
  clear_value e
  unfold Dev.movedOn at he
  split at he
  · split at he
    next b _ =>
      rw [he]
      exact ⟨rfl, rfl, fun _ _ _ => rfl, rfl, rfl, fun l => (InCellar.refl l d).setCs _ _⟩
    · rw [he]
      exact ⟨rfl, rfl, fun _ _ _ => rfl, rfl, rfl, fun l => .refl l d⟩
  · split at he
    next b _ =>
      dsimp only at he
      rw [if_neg hthree] at he
      obtain ⟨hself, hother, hjrn, -, -⟩ := Dev.setHead_spec hn d (b * 128)
      have hframe := fun l => (InCellar.refl l d).setHead n (b * 128)
      generalize d.setHead n (b * 128) = y at *
      have hnd := fun f => Dev.nd_onNd (d := y) (f := f) hn
      refine ⟨?_, ?_, fun m hm hne => ?_, ?_, ?_, fun l => ?_⟩
      · rw [he, hnd, hself]
      · rw [he, hnd, hself]
      · rw [he, Dev.nd_onNd_other hm hne, hother m hm hne]
      · rw [he]
        exact (congrArg Journal.relocs hjrn :)
      · rw [he]
        exact congrArg (List.map LarderRec.said) (congrArg Journal.larder hjrn :)
      · rw [he]
        exact (hframe l).onNd _ _
    · dsimp only at he
      rw [if_neg hthree] at he
      obtain ⟨hself, hother, hjrn, hsaid⟩ := Dev.releaseOpens_spec hn d
      rw [he]
      refine ⟨by rw [hself], by rw [hself], hother, (congrArg Journal.relocs hjrn :), hsaid, fun l => (InCellar.refl l d).releaseOpens n⟩

/-- A MAIN or COMMIT program that fails, with a record that waits for it. -/
theorem Dev.progFailed_spec {n : Nat} (hn : n < 4) (d : Dev) {p : Prog} (hty : p.page.ptype ≠ 3) (hopen : ∃ l ∈ d.jrn.larder, l.seq ∈ p.seqs ∧ l.durable = false) :
    ∃ e : Dev, d.progFailed n p = e.pump ∧ (e.nd n).prog = none ∧ (e.nd n).pages = insertPage { p.page with torn := true } (d.nd n).pages ∧
      (∃ y ∈ e.jrn.relocs, y.2 = (n, blockOf p.page.addr)) ∧ e.fld F.FLT_STAT_NAND = 1 ∧ e.fld F.MEM_ERR_SEL = n + 1 ∧
      e.fld F.MEM_ERR_CODE = Code.NAND_FAIL ∧ e.fld F.MEM_ERR_OP = 0x10 ∧ e.fld F.FLT_STAT_LAST_CODE = Code.NAND_FAIL ∧
      e.jrn.larder.map (·.bytes) = d.jrn.larder.map (·.bytes) ∧ (∀ m, m < 4 → m ≠ n → e.nd m = d.nd m) ∧
      { d with jrn := e.jrn, cs := e.cs, flt := e.flt, fltNo := e.fltNo, freeCtr := d.freeCtr + 1 }.onlyRegs e
        [R.FLT_STAT, R.FLT_CNT, R.FLT_INT, R.MEM_ERR] := by
  obtain ⟨htself, htother, htjrn, -, htrelocs, htframe⟩ := Dev.torn_spec hn d p
  obtain ⟨hmprog, hmpages, hmother, hmrelocs, hmsaid, hmframe⟩ := Dev.movedOn_spec hn (d.torn n p) hty
  have heq := d.progFailed_eq n p
  have hframe := fun l => (htframe l).trans (hmframe l)
  generalize d.torn n p = t at *
  generalize t.movedOn n p = z at *
  have hsaid : z.jrn.larder.map LarderRec.said = d.jrn.larder.map LarderRec.said := hmsaid.trans (congrArg (List.map LarderRec.said) (congrArg Journal.larder htjrn :))
  have hstill : z.stillOpen p ≠ [] := by
    obtain ⟨l, hl, hseq, hdur⟩ := hopen
    have hmem : l.said ∈ z.jrn.larder.map LarderRec.said := by
      rw [hsaid]
      exact List.mem_map_of_mem hl
    obtain ⟨r, hr, hrl⟩ := List.mem_map.1 hmem
    have hrseq : r.seq = l.seq := congrArg (·.2.1) hrl
    have hrdur : r.durable = l.durable := congrArg (·.2.2) hrl
    refine List.ne_nil_of_mem (a := l.seq) (List.mem_filter.2 ⟨hseq, List.any_eq_true.2 ⟨r, hr, ?_⟩⟩)
    simp [hrseq, hrdur, hdur]
  obtain ⟨u, y, hu, hnand⟩ := z.nandFault_eq (op := 0x10) hn (by decide) (z.stillOpen p)
  rw [if_neg hstill] at hnand
  rw [hnand] at heq
  have hund := Dev.nd_of_jrn (e := u) (d := z) (congrArg Journal.devs hu.jrn)
  have hund' : ∀ m, (u.onJrn fun j => { j with lost := j.lost ++ [(y.no, u.time, z.stillOpen p)] }).nd m = u.nd m := fun _ => rfl
  refine ⟨_, heq, ?_, ?_, ?_, hu.nand, hu.sel, hu.code, hu.op, hu.last, ?_, fun m hm hne => ?_, ?_⟩
  · rw [hund', hund, hmprog, htself]
  · rw [hund', hund, hmpages, htself]
  · refine (congrArg (fun l : List (Nat × Nat × Nat) => ∃ y ∈ l, y.2 = (n, blockOf p.page.addr)) ?_).mpr htrelocs
    exact (congrArg Journal.relocs hu.jrn :).trans hmrelocs
  · have hlarder : u.jrn.larder.map LarderRec.said = d.jrn.larder.map LarderRec.said := (congrArg (fun j : Journal => j.larder.map LarderRec.said) hu.jrn).trans hsaid
    have hbytes := congrArg (List.map fun x : Bytes × Nat × Bool => x.1) hlarder
    rw [List.map_map, List.map_map] at hbytes
    exact hbytes
  · rw [hund', hund, hmother m hm hne, htother m hm hne]
  · refine ⟨?_, fun a ha => (hu.frame.2 a ha).trans ((hframe []).2 a (List.not_mem_nil))⟩
    obtain ⟨ur, uf, uk, hushape⟩ : ∃ r l k, u = { z with regs := r, flt := l, fltNo := k, freeCtr := z.freeCtr + 1 } := ⟨_, _, _, hu.frame.1⟩
    obtain ⟨zr, zj, zc, hzshape⟩ : ∃ r j c, z = { d with regs := r, jrn := j, cs := c } := ⟨_, _, _, (hframe []).1⟩
    rw [hushape, hzshape]
    rfl


end Sys2Proof.Machine
end

section
/-!
PROOFS. A program in flight stays while records are built and pages assigned; PAGE_PROGRAM_DONE (R359, R374).
-/

namespace Sys2Proof.Machine

open Sys2Proof

-- one proof after another: the check bounds the memory that the stacks of parallel proofs take
set_option Elab.async false

/-- The program in flight on a device, and its head. -/
def Dev.Programs (n : Nat) (p : Prog) (w : Nat) (d : Dev) : Prop := (d.nd n).prog = some p ∧ d.csw (0x0B + n) = w

namespace Dev.Programs

variable {n : Nat} {p : Prog} {w : Nat} {d e : Dev}

theorem same (h : Programs n p w d) (hjrn : e.jrn.devs = d.jrn.devs) (hcs : e.cs = d.cs) : Programs n p w e :=
  ⟨by rw [Dev.nd_of_jrn hjrn]; exact h.1, by rw [Dev.csw, hcs]; exact h.2⟩

theorem ite {c : Prop} [Decidable c] {x y : Dev} (hx : Programs n p w x) (hy : Programs n p w y) : Programs n p w (if c then x else y) := by
  split
  · exact hx
  · exact hy

theorem setCs (h : Programs n p w d) {k : Nat} (hk : 0x0B + n ≠ k) (v : Nat) : Programs n p w (d.setCs k v) := ⟨h.1, (Dev.csw_setCs_other hk).trans h.2⟩

theorem setFld (h : Programs n p w d) (f : Fld) (v : Nat) : Programs n p w (d.setFld f v) := h

theorem onJrn (h : Programs n p w d) {f : Journal → Journal} (hf : (f d.jrn).devs = d.jrn.devs) : Programs n p w (d.onJrn f) := same h hf rfl

theorem busyBit (h : Programs n p w d) (m : Nat) : Programs n p w (d.busyBit m) := h

theorem event (h : Programs n p w d) (kind arg handle : Nat) (data : Bytes) : Programs n p w (d.event kind arg handle data) := by
  obtain ⟨-, hregs, -⟩ := d.event_frame kind arg handle data
  exact h.same (congrArg (fun x : Dev => x.jrn.devs) hregs.1 :) (congrArg Dev.cs hregs.1 :)

theorem memChains (h : Programs n p w d) (work : Nat) (cs : List (List MemEntry)) : Programs n p w (d.memChains work cs) := by
  have hport := (Dev.PortServed.memChains d work cs).rest
  exact h.same (congrArg (fun x : Dev => x.jrn.devs) hport :) (congrArg Dev.cs hport :)

variable (hn : n < 4)
include hn

theorem onNd (h : Programs n p w d) (m : Nat) {f : NandDev → NandDev} (hf : m = n → ∀ x, (f x).prog = x.prog) : Programs n p w (d.onNd m f) := by
  refine ⟨?_, h.2⟩
  by_cases hm : n = m
  · subst hm
    rw [Dev.nd_onNd hn, hf rfl]
    exact h.1
  · rw [Dev.nd_onNd_other hn hm]
    exact h.1

theorem place (h : Programs n p w d) (m pseq seq : Nat) : Programs n p w (d.place m pseq seq) := by
  unfold Dev.place
  refine onJrn ?_ ?_
  · exact h.onNd hn m fun _ _ => rfl
  · rfl

theorem assignOne (h : Programs n p w d) (seq : Nat) : Programs n p w (d.assignOne seq) := by
  unfold Dev.assignOne
  split
  next m o _ =>
    split
    · exact h.place hn _ _ _
    · exact h.onNd hn _ fun _ _ => rfl
  split
  · exact h
  next m _ =>
    have hset : Programs n p w (d.setCs 6 (d.csw 6 + 1)) := h.setCs (by omega) _
    dsimp only
    generalize d.setCs 6 (d.csw 6 + 1) = y at *
    refine place hn ?_ ..
    refine onJrn ?_ rfl
    exact hset.onNd hn _ fun _ _ => rfl

theorem assign (h : Programs n p w d) : Programs n p w d.assign :=
  Dev.forEach_keeps (P := Programs n p w) (Dev.forEach_keeps (P := Programs n p w) h fun _ _ _ hy => hy.assignOne hn _) fun _ _ _ hy => hy.assignOne hn _

theorem launch (h : Programs n p w d) {m : Nat} (hm : m ≠ n) (q : Prog) : Programs n p w (d.launch m q) := by
  unfold Dev.launch
  refine memChains (busyBit ?_ m) _ _
  exact h.onNd hn m fun he => absurd he hm

theorem startProg (h : Programs n p w d) (m : Nat) : Programs n p w (d.startProg m) := by
  unfold Dev.startProg
  dsimp only
  by_cases hm : m = n
  · subst hm
    rw [if_pos (by simp [h.1])]
    exact h
  split
  · exact h
  split
  · exact h.launch hn hm _
  split
  · exact h
  split
  next hx =>
    unfold Dev.commitPage at hx
    dsimp only at hx
    split at hx
    · obtain ⟨-, rfl⟩ := Prod.mk.inj (Option.some.inj hx)
      exact h.launch hn hm _
    · split at hx
      · obtain ⟨-, hy⟩ := Prod.mk.inj (Option.some.inj hx)
        rw [← hy]
        exact launch hn (h.setCs (by omega) _) hm _
      · exact nomatch hx
  · refine launch hn ?_ hm _
    exact h.onNd hn _ fun _ _ => rfl

theorem stateWord (h : Programs n p w d) : Programs n p w d.stateWord := by
  unfold Dev.stateWord
  exact setFld (h.setCs (by omega) _) _ _

theorem pump (h : Programs n p w d) : Programs n p w d.pump :=
  stateWord hn (Dev.forEach_keeps (P := Programs n p w) (h.assign hn) fun _ _ _ hy => hy.startProg hn _)

theorem enter (h : Programs n p w d) (r : LarderRec) : Programs n p w (d.enter r) := by
  unfold Dev.enter
  refine pump hn ?_
  unfold Dev.raiseTo
  exact same h rfl rfl

theorem build (h : Programs n p w d) (r : RecReq) : Programs n p w (d.build r) := by
  have hset : Programs n p w (d.setCs 2 (d.csw 2 + 1)) := h.setCs (by omega) _
  unfold Dev.build
  dsimp only
  generalize d.setCs 2 (d.csw 2 + 1) = y at *
  refine ite ?_ ?_
  · refine stateWord hn (onJrn ?_ rfl)
    exact onJrn hset rfl
  · refine enter hn ?_ _
    exact onJrn hset rfl

theorem lastSeq (h : Programs n p w d) : Programs n p w d.lastSeq := by
  unfold Dev.lastSeq
  exact setFld (setFld (onJrn (h.build hn _) rfl) _ _) _ _

theorem post (h : Programs n p w d) (r : RecReq) : Programs n p w (d.post r) := by
  unfold Dev.post
  exact ite h (ite (h.onJrn rfl) (ite (h.lastSeq hn) (h.build hn r)))

omit hn in
theorem faultEvent (h : Programs n p w d) (y : FltEntry) (seq : Nat) : Programs n p w (d.faultEvent y seq) := by
  unfold Dev.faultEvent
  refine event ?_ ..
  exact h.same rfl rfl

theorem faultReport (h : Programs n p w d) (y : FltEntry) : Programs n p w (d.faultReport y) := by
  unfold Dev.faultReport
  have hpost := h.post hn (faultReq y)
  exact ite (hpost.faultEvent _ _) (ite hpost (hpost.faultEvent _ _))

end Dev.Programs

/-- A RELOC page that fails is programmed again at the start of the next fresh block. -/
theorem Dev.progFailed_reloc {n : Nat} (hn : n < 4) (d : Dev) {p : Prog} {b : Nat} (hty : p.page.ptype = 3)
    (hfresh : (d.onNd n fun x => { x with prog := none, pages := insertPage { p.page with torn := true } x.pages }).freshBlock n = some b) :
    ∃ e : Dev, d.progFailed n p = e.pump ∧ (e.nd n).prog = some { p with page := { p.page with addr := b * 128 } } ∧
      e.csw (0x0B + n) = posOf n (b * 128) 0 % 2 ^ 32 := by
  have heq := d.progFailed_eq n p
  have hfresh' : (d.torn n p).freshBlock n = some b := (Dev.freshBlock_congr rfl rfl rfl).trans hfresh
  generalize d.torn n p = t at *
  have hmoved : t.movedOn n p = ((t.setHead n (b * 128)).onNd n fun x => { x with
      opens := (x.opens.zip (List.range 2)).map fun (o : OpenPage × Nat) => { o.1 with addr := b * 128 + o.2 + b2n (p.page.ptype == 3) } }).launch n
        { p with page := { p.page with addr := b * 128 } } := by
    unfold Dev.movedOn
    split
    next h2 => exact absurd (hty.symm.trans h2) (by decide)
    · rw [hfresh']
      exact if_pos (by simp [hty])
  obtain ⟨-, -, -, hword, -⟩ := Dev.setHead_spec hn t (b * 128)
  have hprogs : Dev.Programs n { p with page := { p.page with addr := b * 128 } } (posOf n (b * 128) 0 % 2 ^ 32) (t.movedOn n p) := by
    rw [hmoved]
    generalize t.setHead n (b * 128) = y at *
    unfold Dev.launch
    refine Dev.Programs.memChains (Dev.Programs.busyBit (d := (y.onNd n _).onNd n _) ?_ n) _ _
    exact ⟨congrArg NandDev.prog (Dev.nd_onNd hn), hword⟩
  generalize t.movedOn n p = z at *
  obtain ⟨u, y, hu, hnand⟩ := z.nandFault_eq (op := 0x10) hn (by decide) (z.stillOpen p)
  have hu' := hprogs.same (congrArg Journal.devs hu.jrn) hu.cs
  have hend : Dev.Programs n { p with page := { p.page with addr := b * 128 } } (posOf n (b * 128) 0 % 2 ^ 32) (z.nandFault n 0x10 (z.stillOpen p)) := by
    rw [hnand]
    exact .ite (hu'.faultReport hn y) (hu'.same rfl rfl)
  exact ⟨_, heq, hend⟩

/-! ### PAGE_PROGRAM_DONE (R359, R374) -/

theorem Dev.programDone_of {d : Dev} {n : Nat} {p : Prog} (h : (d.nd n).prog = some p) (pass : Bool) : d.programDone n pass =
    ((if pass then ((d.memWork 4 (chainStatus (n + 1))).progPassed n p).pump else (d.memWork 4 (chainStatus (n + 1))).progFailed n p).busyBit n).checkFull := by
  rw [Dev.programDone, h]

/-- Settles O45: a page that passes (`Dev.pageStands`) and one that fails (`Dev.movedOn_spec`, `Dev.progFailed_reloc`). -/
theorem programsEnd : Obligations.ProgramsEnd := by
  unfold Obligations.ProgramsEnd
  intro s n hrun
  refine ⟨fun hnone pass => ?_, fun p hp => ?_⟩
  · refine completes_onEngine (·.programDone n pass) hrun rfl ?_
    rw [Dev.programDone, hnone]
  · intro q
    have hn : n.val < 4 := n.isLt
    have hdone := fun pass => Dev.programDone_of hp pass
    have hport := (Dev.PortServed.memWork s.dev 4 (chainStatus (n + 1))).rest
    have hreg := fun a ha => Dev.memWork_reg s.dev 4 (chainStatus (n + 1)) (a := a) ha
    change q = _ at hport
    have hq : s.dev.memWork 4 (chainStatus (n + 1)) = q := rfl
    rw [hq] at hdone
    simp only [hq] at hreg
    clear_value q
    have hjrn : q.jrn = s.dev.jrn := (congrArg Dev.jrn hport :)
    have hcs : q.cs = s.dev.cs := (congrArg Dev.cs hport :)
    have hflt : q.flt = s.dev.flt ∧ q.fltNo = s.dev.fltNo := ⟨(congrArg Dev.flt hport :), (congrArg Dev.fltNo hport :)⟩
    have hnd : ∀ m, q.nd m = s.dev.nd m := Dev.nd_of_jrn (congrArg Journal.devs hjrn)
    have hcfg : q.jrn.cfg = s.dev.jrn.cfg := congrArg Journal.cfg hjrn
    have hpass : q.progPassed n p = q.progPassed n p := rfl
    have hrow : ∀ {P : Dev → Prop} (pass : Bool), P (s.dev.programDone n pass).settle → completes (.pageProgramDone n pass) s P :=
      fun pass h => completes_onEngine (·.programDone n pass) hrun rfl h
    refine ⟨fun hticket hlost => ⟨fun hty => hrow true ?_, fun hty => hrow true ?_⟩, fun hty hopen => hrow false ?_, fun b hty hfresh => hrow false ?_⟩
    · rw [hdone, if_pos rfl]
      have hspec := Dev.progPassed_main (d := q) hn (by rw [hjrn]; exact hticket) (by rw [hjrn]; exact hlost) hty
      rw [hnd, hjrn, Dev.nextPage_congr hcfg (by rw [hnd]) (by rw [hnd])] at hspec
      obtain ⟨hprog, hpages, hlarder, hword, hother, hframe⟩ := hspec
      exact ⟨_, rfl, hprog, hpages, hlarder, hword, fun m hm hne => (hother m hm hne).trans (hnd m), hframe⟩
    · rw [hdone, if_pos rfl]
      have hspec := Dev.progPassed_commit (d := q) hn (by rw [hjrn]; exact hticket) (by rw [hjrn]; exact hlost) hty
      rw [hnd, hjrn, Dev.fld_eq_of_reg (hreg F.JRN_CNT_COMMITS.addr (by decide) (by decide))] at hspec
      obtain ⟨hprog, hpages, hopens, hcount, hlarder, hother, hframe⟩ := hspec
      exact ⟨_, rfl, hprog, hpages, hopens, hcount, hlarder, fun m hm hne => (hother m hm hne).trans (hnd m), hframe⟩
    · rw [hdone, if_neg Bool.false_ne_true]
      obtain ⟨e, he, hprog, hpages, hrelocs, hnand, hsel, hcode, hop, hlast, hbytes, hother, hframe⟩ := Dev.progFailed_spec hn q hty (by rw [hjrn]; exact hopen)
      rw [hnd] at hpages
      rw [hjrn] at hbytes
      exact ⟨e, by rw [he], hprog, hpages, hrelocs, hnand, hsel, hcode, hop, hlast, hbytes, fun m hm hne => (hother m hm hne).trans (hnd m), hframe⟩
    · rw [hdone, if_neg Bool.false_ne_true]
      have hfresh' : (q.onNd n fun x => { x with prog := none, pages := insertPage { p.page with torn := true } x.pages }).freshBlock n = some b := by
        refine (Dev.freshBlock_congr ?_ ?_ ?_).trans hfresh
        · exact hcfg
        · rw [Dev.nd_onNd hn, Dev.nd_onNd hn, hnd]
        · exact hcs
      obtain ⟨e, he, hprog, hword⟩ := Dev.progFailed_reloc hn q hty hfresh'
      exact ⟨e, by rw [he], hprog, hword⟩

end Sys2Proof.Machine
end

section
/-!
PROOFS. Block erases, devices that time out, and BATCH_MS (R360, R372 to R374).
-/

namespace Sys2Proof.Machine

open Sys2Proof

-- one proof after another: the check bounds the memory that the stacks of parallel proofs take
set_option Elab.async false

/-! ### Erases (R372, R374) -/

/-- The tail moves on or stays: its word alone changes. -/
theorem Dev.moveTail_spec (d : Dev) (n b : Nat) : let e := d.moveTail n b
    e = { d with cs := e.cs } ∧ (d.tail n ≠ b → e.cs = d.cs) ∧ ∀ k, k ≠ 0x0F + n → e.csw k = d.csw k := by
  intro e
  have he : e = d.moveTail n b := rfl
  clear_value e
  unfold Dev.moveTail at he
  split at he
  next h =>
    rw [he]
    exact ⟨rfl, fun hne => absurd (eq_of_beq h) hne, fun k hk => Dev.csw_setCs_other hk⟩
  · rw [he]
    exact ⟨rfl, fun _ => rfl, fun _ _ => rfl⟩

theorem Dev.erasePassed_spec {n : Nat} (hn : n < 4) (d : Dev) (b : Nat) : ∃ e : Dev, d.erasePassed n b = e.pump ∧
    e.nd n = { d.nd n with erasing := none, pages := (d.nd n).pages.filter fun p => blockOf p.addr != b } ∧
    (∀ m, m < 4 → m ≠ n → e.nd m = d.nd m) ∧ e.jrn = { d.jrn with devs := e.jrn.devs } ∧
    Dev.InCellar [R.MEM_STAT, R.JRN_STAT] d e := by
  unfold Dev.erasePassed
  extract_lets x y used z
  refine ⟨_, rfl, ?_⟩
  have hx : x.nd n = { d.nd n with erasing := none, pages := (d.nd n).pages.filter fun p => blockOf p.addr != b } ∧
      (∀ m, m < 4 → m ≠ n → x.nd m = d.nd m) ∧ x.jrn = { d.jrn with devs := x.jrn.devs } ∧ Dev.InCellar [R.MEM_STAT, R.JRN_STAT] d x := by
    have hnd : ∀ m, x.nd m = (d.onNd n fun x => { x with erasing := none, pages := x.pages.filter fun p => blockOf p.addr != b }).nd m := fun _ => rfl
    refine ⟨(hnd n).trans (Dev.nd_onNd hn), fun m hm hne => (hnd m).trans (Dev.nd_onNd_other hm hne), ?_, ?_⟩
    · rfl
    · exact ((Dev.InCellar.refl _ d).onNd _ _).setFld (by simp) _
  clear_value x
  obtain ⟨hself, hother, hjrn, hframe⟩ := hx
  have hy : y.jrn = x.jrn ∧ Dev.InCellar [R.MEM_STAT, R.JRN_STAT] d y := by
    obtain ⟨hrest, -, -⟩ := x.moveTail_spec n b
    obtain ⟨c, hc⟩ : ∃ c, y = { x with cs := c } := ⟨_, hrest⟩
    rw [hc]
    exact ⟨rfl, hframe.trans ⟨rfl, fun _ _ => rfl⟩⟩
  clear_value y
  have hz : z.jrn = x.jrn ∧ Dev.InCellar [R.MEM_STAT, R.JRN_STAT] d z := by
    refine Dev.forEach_keeps (P := fun e => e.jrn = x.jrn ∧ Dev.InCellar [R.MEM_STAT, R.JRN_STAT] d e) hy fun e k _ he => ?_
    split
    · exact ⟨he.1, (he.2.setCs _ _).setCs _ _⟩
    · exact he
  clear_value z
  have hnd : ∀ m, (z.setFld F.JRN_STAT_VOIDS z.voids.length).nd m = x.nd m := Dev.nd_of_jrn (congrArg Journal.devs hz.1)
  refine ⟨by rw [hnd, hself], fun m hm hne => by rw [hnd, hother m hm hne], ?_, hz.2.setFld (by decide) _⟩
  exact hz.1.trans (hjrn.trans (by rw [show (z.setFld F.JRN_STAT_VOIDS z.voids.length).jrn = x.jrn from hz.1]))

theorem Dev.eraseFailed_spec {n : Nat} (hn : n < 4) (d : Dev) (b : Nat) : ∃ (e : Dev) (f : FltEntry), d.eraseFailed n b = (e.faultReport f).pump ∧
    e.flt.head? = some f ∧ (e.nd n).erasing = none ∧ b ∈ (e.nd n).bad ∧ b ∈ (e.nd n).marked ∧ e.fld F.FLT_STAT_NAND = 1 ∧ e.fld F.MEM_ERR_SEL = n + 1 ∧
    e.fld F.MEM_ERR_OP = 0xD8 ∧ e.fld F.FLT_STAT_LAST_CODE = Code.NAND_FAIL ∧ e.jrn.larder = d.jrn.larder ∧ (∀ m, m < 4 → m ≠ n → e.nd m = d.nd m) ∧
    (d.tail n ≠ b → e.cs = d.cs) ∧ (∀ k, k ≠ 0x0F + n → e.csw k = d.csw k) ∧
    { d with jrn := e.jrn, cs := e.cs, flt := e.flt, fltNo := e.fltNo, freeCtr := d.freeCtr + 1 }.onlyRegs e
      [R.MEM_STAT, R.FLT_STAT, R.FLT_CNT, R.FLT_INT, R.MEM_ERR] := by
  unfold Dev.eraseFailed
  extract_lets x
  have hx : ((x.busyBit n).nd n).erasing = none ∧ b ∈ ((x.busyBit n).nd n).bad ∧ b ∈ ((x.busyBit n).nd n).marked ∧
      (x.busyBit n).jrn.larder = d.jrn.larder ∧ (∀ m, m < 4 → m ≠ n → (x.busyBit n).nd m = d.nd m) ∧ (x.busyBit n).cs = d.cs ∧
      Dev.InCellar [R.MEM_STAT] d (x.busyBit n) := by
    obtain ⟨y, hy⟩ : ∃ y, y = d.onNd n fun x => { x with erasing := none, marked := if x.marked.contains b then x.marked else x.marked ++ [b] } := ⟨_, rfl⟩
    have hxy : x = y.meetBad n b := by rw [hy]
    have hnd : ∀ m, (x.busyBit n).nd m = x.nd m := fun _ => rfl
    have hself : x.nd n = { y.nd n with bad := if (y.nd n).bad.contains b then (y.nd n).bad else (y.nd n).bad ++ [b] } := by
      rw [hxy, Dev.meetBad, Dev.nd_onNd hn]
    have hyself : y.nd n = { d.nd n with erasing := none, marked := if (d.nd n).marked.contains b then (d.nd n).marked else (d.nd n).marked ++ [b] } := by
      rw [hy, Dev.nd_onNd hn]
    have hjoin : ∀ l : List Nat, b ∈ if l.contains b then l else l ++ [b] := by
      intro l
      split
      next h => exact List.contains_iff_mem.1 h
      · simp
    refine ⟨?_, ?_, ?_, ?_, fun m hm hne => ?_, ?_, ?_⟩
    · rw [hnd, hself, hyself]
    · rw [hnd, hself]
      exact hjoin _
    · rw [hnd, hself, hyself]
      exact hjoin _
    · rw [hxy, hy]
      rfl
    · rw [hnd, hxy, Dev.meetBad, Dev.nd_onNd_other hm hne, hy, Dev.nd_onNd_other hm hne]
    · rw [hxy, hy]
      rfl
    · rw [hxy, hy]
      exact (((Dev.InCellar.refl _ d).onNd _ _).meetBad _ _).setFld (by simp) _
  clear_value x
  generalize x.busyBit n = w at *
  obtain ⟨herasing, hbad, hmarked, hlarder, hother, hcs, hframe⟩ := hx
  obtain ⟨hrest, htail, hwords⟩ := w.moveTail_spec n b
  generalize w.moveTail n b = z at *
  have hzjrn : z.jrn = w.jrn := (congrArg Dev.jrn hrest :)
  obtain ⟨e, f, he, hnand⟩ := z.nandFault_eq (op := 0xD8) hn (by decide) []
  rw [if_pos rfl] at hnand
  have hejrn : e.jrn = w.jrn := he.jrn.trans hzjrn
  have hnd : ∀ m, e.nd m = w.nd m := Dev.nd_of_jrn (congrArg Journal.devs hejrn)
  have hcsw : ∀ k, e.csw k = z.csw k := fun k => by rw [Dev.csw, he.cs, Dev.csw]
  have hwcsw : ∀ k, w.csw k = d.csw k := fun k => by rw [Dev.csw, hcs, Dev.csw]
  refine ⟨e, f, by rw [hnand], he.entry, by rw [hnd, herasing], by rw [hnd]; exact hbad, by rw [hnd]; exact hmarked, he.nand, he.sel, he.op, he.last,
    by rw [hejrn, hlarder], fun m hm hne => by rw [hnd, hother m hm hne], fun hne => ?_, fun k hk => by rw [hcsw, hwords k hk, hwcsw], ?_⟩
  · rw [he.cs, htail (by rw [Dev.tail, hwcsw]; exact hne), hcs]
  · refine ⟨?_, fun a ha => (he.frame.2 a fun h => ha (List.mem_cons_of_mem _ h)).trans ?_⟩
    · obtain ⟨ur, uf, uk, heshape⟩ : ∃ r l k, e = { z with regs := r, flt := l, fltNo := k, freeCtr := z.freeCtr + 1 } := ⟨_, _, _, he.frame.1⟩
      obtain ⟨zc, hzshape⟩ : ∃ c, z = { w with cs := c } := ⟨_, hrest⟩
      obtain ⟨wr, wj, wc, hwshape⟩ : ∃ r j c, w = { d with regs := r, jrn := j, cs := c } := ⟨_, _, _, hframe.1⟩
      rw [heshape, hzshape, hwshape]
    · have hreg : z.reg a = w.reg a := by rw [hrest]; rfl
      exact hreg.trans (hframe.2 a fun h => ha (by simp at h; simp [h]))

theorem Dev.eraseDone_of {d : Dev} {n b : Nat} (h : (d.nd n).erasing = some b) (pass : Bool) : d.eraseDone n pass =
    (if pass then (d.memWork 5 (chainStatus (n + 1))).erasePassed n b else (d.memWork 5 (chainStatus (n + 1))).eraseFailed n b).checkFull := by
  rw [Dev.eraseDone, h]

/-! ### Devices that time out (R374) -/

/-- A relocation pass cut: the devices and the Larder stay. -/
theorem Dev.cutPass_spec (d : Dev) : let e := d.cutPass
    e.jrn.devs = d.jrn.devs ∧ e.jrn.larder = d.jrn.larder ∧ e.jrn.cfg = d.jrn.cfg ∧ Dev.InCellar [R.JRN_STAT] d e := by
  unfold Dev.cutPass
  split
  · exact ⟨rfl, rfl, rfl, .refl _ d⟩
  next p _ =>
    extract_lets top x y
    have hx : x.jrn = d.jrn ∧ Dev.InCellar [R.JRN_STAT] d x := by
      unfold x
      split
      · split
        · exact ⟨rfl, ((Dev.InCellar.refl _ d).setCs _ _).setCs _ _⟩
        · exact ⟨rfl, .refl _ d⟩
      · exact ⟨rfl, .refl _ d⟩
    clear_value x
    have hy : y.jrn = d.jrn ∧ Dev.InCellar [R.JRN_STAT] d y := ⟨hx.1, (hx.2.setCs _ _).setFld (by decide) _⟩
    clear_value y
    have hframe := (hy.2.onJrn fun j => { j with pass := none, relocs := j.relocs ++ [(p.cause, p.dev, p.block)] }).setFld
      (f := F.JRN_STAT_RELOCATING) (by decide) (b2n false)
    rw [← hy.1]
    refine ⟨?_, ?_, ?_, hframe⟩
    all_goals rfl

/-- The sequences a page still holds after its device gave up the others are durable, and no other record is on the device. -/
theorem Dev.releaseOpens_durable {n : Nat} (hn : n < 4) (d : Dev) : let e := d.releaseOpens n
    (∀ o ∈ (e.nd n).opens, ∀ q ∈ o.seqs, ∃ l ∈ d.jrn.larder, l.seq = q ∧ l.durable = true) ∧
    ∀ l ∈ e.jrn.larder, l.dev = some n → l.durable = true := by
  intro e
  have hlarder : e.jrn.larder = d.jrn.larder.map fun (r : LarderRec) => if r.dev == some n && !r.durable then { r with dev := none } else r := rfl
  have hnd : e.nd n = (d.onNd n fun x => { x with opens := ((x.opens.map fun o => { o with
      seqs := o.seqs.takeWhile fun q => d.jrn.larder.any fun r => r.seq == q && r.durable, closed := true }).filter fun o => !o.seqs.isEmpty) }).nd n := rfl
  clear_value e
  refine ⟨fun o ho q hq => ?_, fun l hl hdev => ?_⟩
  · rw [hnd, Dev.nd_onNd hn] at ho
    obtain ⟨p, -, rfl⟩ := List.mem_map.1 (List.mem_filter.1 ho).1
    obtain ⟨r, hr, hrq⟩ := List.any_eq_true.1 (List.mem_takeWhile_imp (p := fun q => d.jrn.larder.any fun r => r.seq == q && r.durable) hq)
    rw [Bool.and_eq_true, beq_iff_eq] at hrq
    exact ⟨r, hr, hrq⟩
  · rw [hlarder] at hl
    obtain ⟨r, -, rfl⟩ := List.mem_map.1 hl
    by_cases hr : (r.dev == some n && !r.durable) = true
    · rw [if_pos hr] at hdev
      exact nomatch hdev
    · rw [if_neg hr] at hdev ⊢
      simpa [hdev] using hr

/-- A device marked FAILED, with nothing in flight. -/
def Dev.markedFailed (d : Dev) (n : Nat) : Dev := d.onNd n fun x => { x with failed := true, prog := none, erasing := none }

/-- The pages of a device given up, and a relocation pass that was programming on it cut. -/
def Dev.givenUp (d : Dev) (n : Nat) : Dev :=
  if ((d.nd n).prog.map fun p => p.page.ptype == 3).getD false then ((d.markedFailed n).releaseOpens n).cutPass else (d.markedFailed n).releaseOpens n

/-- The records of a device that are not durable. -/
def Dev.undurableOn (d : Dev) (n : Nat) : List Nat := (d.jrn.larder.filter fun r => r.dev == some n && !r.durable).map (·.seq)

/-- The device that failed shown. -/
def Dev.shownFailed (d : Dev) (n : Nat) : Dev := (d.setFld F.JRN_STAT_DEV_FAILED (d.fld F.JRN_STAT_DEV_FAILED ||| 2 ^ n)).busyBit n

theorem Dev.shownFailed_spec {n : Nat} (hn : n < 4) (d : Dev) : let e := d.shownFailed n
    e.jrn = d.jrn ∧ Dev.InCellar [R.JRN_STAT, R.MEM_STAT] d e ∧ bit (e.fld F.JRN_STAT_DEV_FAILED) n = true := by
  refine ⟨rfl, ((Dev.InCellar.refl _ d).setFld (by decide) _).setFld (by simp) _, ?_⟩
  have hlt : d.fld F.JRN_STAT_DEV_FAILED ||| 2 ^ n < 2 ^ 4 :=
    Nat.or_lt_two_pow (Nat.mod_lt _ (Nat.two_pow_pos _)) (Nat.pow_lt_pow_right (by decide) hn)
  have hfld : (d.shownFailed n).fld F.JRN_STAT_DEV_FAILED = d.fld F.JRN_STAT_DEV_FAILED ||| 2 ^ n :=
    (Dev.fld_setFld_other (.inl (show R.JRN_STAT ≠ R.MEM_STAT by decide)) (by decide)).trans (Dev.fld_setFld_small (by decide) hlt)
  rw [hfld, bit, Nat.testBit_or, Nat.testBit_two_pow_self, Bool.or_true]

theorem Dev.failDevice_eq (d : Dev) {n : Nat} (h : ((d.givenUp n).shownFailed n).jDevs ≠ []) :
    d.failDevice n = (((d.givenUp n).shownFailed n).nandFault n 0x0F (d.undurableOn n)).pump := by
  have hdevs : ((d.givenUp n).shownFailed n).jDevs.isEmpty = false := by simpa using h
  have heq : d.failDevice n = if ((d.givenUp n).shownFailed n).jDevs.isEmpty then
        ((((d.givenUp n).shownFailed n).nandFault n 0x0F (if ((d.givenUp n).shownFailed n).jDevs.isEmpty then [] else d.undurableOn n)).setFld F.JRN_STAT_STATE 4).checkFull
      else (((d.givenUp n).shownFailed n).nandFault n 0x0F (if ((d.givenUp n).shownFailed n).jDevs.isEmpty then [] else d.undurableOn n)).pump := rfl
  rw [heq, hdevs]
  simp only [if_neg Bool.false_ne_true]

theorem Dev.givenUp_spec {n : Nat} (hn : n < 4) (d : Dev) : let e := d.givenUp n
    e.nd n = { d.nd n with failed := true, opens := (e.nd n).opens, prog := none, erasing := none } ∧
    (∀ o ∈ (e.nd n).opens, ∀ q ∈ o.seqs, ∃ l ∈ d.jrn.larder, l.seq = q ∧ l.durable = true) ∧
    (∀ k, k < 4 → k ≠ n → e.nd k = d.nd k) ∧ e.jrn.cfg = d.jrn.cfg ∧ e.jrn.larder.map LarderRec.said = d.jrn.larder.map LarderRec.said ∧
    (∀ l ∈ e.jrn.larder, l.dev = some n → l.durable = true) ∧ Dev.InCellar [R.JRN_STAT] d e := by
  intro e
  have hx : (d.markedFailed n).nd n = { d.nd n with failed := true, prog := none, erasing := none } := Dev.nd_onNd hn
  have hxother : ∀ k, k < 4 → k ≠ n → (d.markedFailed n).nd k = d.nd k := fun k hk hne => Dev.nd_onNd_other hk hne
  have hxlarder : (d.markedFailed n).jrn.larder = d.jrn.larder := rfl
  have hxcfg : (d.markedFailed n).jrn.cfg = d.jrn.cfg := rfl
  have hxframe : Dev.InCellar [R.JRN_STAT] d (d.markedFailed n) := (Dev.InCellar.refl _ d).onNd _ _
  have he : e = if ((d.nd n).prog.map fun p => p.page.ptype == 3).getD false then ((d.markedFailed n).releaseOpens n).cutPass
      else (d.markedFailed n).releaseOpens n := rfl
  clear_value e
  generalize d.markedFailed n = x at *
  obtain ⟨hself, hother, hjrn, hsaid⟩ := Dev.releaseOpens_spec hn x
  obtain ⟨hopens, hdurable⟩ := Dev.releaseOpens_durable hn x
  have hyframe := hxframe.releaseOpens n
  generalize x.releaseOpens n = y at *
  have hcfg : y.jrn.cfg = d.jrn.cfg := (congrArg Journal.cfg hjrn :).trans hxcfg
  have hez : e.jrn.devs = y.jrn.devs ∧ e.jrn.larder = y.jrn.larder ∧ e.jrn.cfg = y.jrn.cfg ∧ Dev.InCellar [R.JRN_STAT] d e := by
    rw [he]
    split
    · obtain ⟨hdevs, hlarder, hcfg, hframe⟩ := y.cutPass_spec
      exact ⟨hdevs, hlarder, hcfg, hyframe.trans hframe⟩
    · exact ⟨rfl, rfl, rfl, hyframe⟩
  clear he
  obtain ⟨hdevs, hlarder, hecfg, hframe⟩ := hez
  have hnd : ∀ m, e.nd m = y.nd m := Dev.nd_of_jrn hdevs
  rw [hxlarder] at hsaid hopens
  refine ⟨?_, ?_, fun k hk hne => ?_, hecfg.trans hcfg, by rw [hlarder, hsaid], ?_, hframe⟩
  · rw [hnd, hself, hx]
  · rw [hnd]
    exact hopens
  · rw [hnd, hother k hk hne, hxother k hk hne]
  · rw [hlarder]
    exact hdurable

/-- Another device takes over: the records of the one that failed go to it, and the fault waits for them. -/
theorem Dev.failDevice_spec {n m : Nat} (hn : n < 4) (hm : m < 4) (hne : m ≠ n) (d : Dev) (hpresent : d.jPresent m = true) (hup : (d.nd m).failed = false)
    (hopen : ∃ l ∈ d.jrn.larder, l.dev = some n ∧ l.durable = false) : ∃ e : Dev, d.failDevice n = e.pump ∧
    e.nd n = { d.nd n with failed := true, opens := (e.nd n).opens, prog := none, erasing := none } ∧
    (∀ o ∈ (e.nd n).opens, ∀ q ∈ o.seqs, ∃ l ∈ d.jrn.larder, l.seq = q ∧ l.durable = true) ∧
    (∀ k, k < 4 → k ≠ n → e.nd k = d.nd k) ∧
    bit (e.fld F.JRN_STAT_DEV_FAILED) n = true ∧ e.fld F.FLT_STAT_NAND = 1 ∧ e.fld F.FLT_STAT_LAST_CODE = Code.NAND_FAIL ∧
    e.jrn.larder.map (·.bytes) = d.jrn.larder.map (·.bytes) ∧ (∀ l ∈ e.jrn.larder, l.dev = some n → l.durable = true) ∧
    { d with jrn := e.jrn, cs := e.cs, flt := e.flt, fltNo := e.fltNo, freeCtr := d.freeCtr + 1 }.onlyRegs e
      [R.JRN_STAT, R.MEM_STAT, R.FLT_STAT, R.FLT_CNT, R.FLT_INT, R.MEM_ERR] := by
  have heq := d.failDevice_eq (n := n)
  obtain ⟨hself, hopens, hother, hcfg, hsaid, hdurable, hframe⟩ := Dev.givenUp_spec hn d
  generalize d.givenUp n = y at *
  obtain ⟨hzjrn, hzframe, hbit⟩ := Dev.shownFailed_spec hn y
  generalize y.shownFailed n = z at *
  have hznd : ∀ k, z.nd k = y.nd k := Dev.nd_of_jrn (congrArg Journal.devs hzjrn)
  have hdevs : z.jDevs ≠ [] := by
    refine List.ne_nil_of_mem (List.mem_filter.2 ⟨List.mem_range.2 hm, ?_⟩)
    rw [hznd, hother m hm hne, hup, Dev.jPresent, hzjrn, hcfg, ← Dev.jPresent, hpresent]
    rfl
  have hseqs : d.undurableOn n ≠ [] := by
    obtain ⟨l, hl, hdev, hdur⟩ := hopen
    exact List.ne_nil_of_mem (List.mem_map_of_mem (f := (·.seq)) (List.mem_filter.2 ⟨hl, by simp [hdev, hdur]⟩))
  replace heq := heq hdevs
  obtain ⟨u, f, hu, hnand⟩ := z.nandFault_eq (op := 0x0F) hn (by decide) (d.undurableOn n)
  rw [if_neg hseqs] at hnand
  rw [hnand] at heq
  have hund : ∀ k, (u.onJrn fun j => { j with lost := j.lost ++ [(f.no, u.time, d.undurableOn n)] }).nd k = y.nd k :=
    fun k => (Dev.nd_of_jrn (congrArg Journal.devs hu.jrn) k).trans (hznd k)
  have hlarder : u.jrn.larder = y.jrn.larder := congrArg Journal.larder (hu.jrn.trans hzjrn)
  refine ⟨_, heq, ?_, ?_, fun k hk hne => by rw [hund, hother k hk hne], ?_, hu.nand, hu.last, ?_, ?_, ?_⟩
  · rw [hund, ← hself]
  · rw [hund]
    exact hopens
  · have hreg : u.reg R.JRN_STAT = z.reg R.JRN_STAT := hu.frame.2 _ (by decide)
    exact (congrArg (bit · n) (Dev.fld_eq_of_reg (g := F.JRN_STAT_DEV_FAILED) hreg)).trans hbit
  · have hsaid' : u.jrn.larder.map LarderRec.said = d.jrn.larder.map LarderRec.said := by rw [hlarder, hsaid]
    have hbytes := congrArg (List.map fun x : Bytes × Nat × Bool => x.1) hsaid'
    rw [List.map_map, List.map_map] at hbytes
    exact hbytes
  · intro l hl
    exact hdurable l (hlarder ▸ hl)
  · refine ⟨?_, fun a ha => (hu.frame.2 a fun h => ha (by simp at h ⊢; tauto)).trans ((hzframe.2 a fun h => ha (by simp at h ⊢; tauto)).trans (hframe.2 a fun h => ha (by simp at h; simp [h])))⟩
    obtain ⟨ur, uf, uk, hushape⟩ : ∃ r l k, u = { z with regs := r, flt := l, fltNo := k, freeCtr := z.freeCtr + 1 } := ⟨_, _, _, hu.frame.1⟩
    obtain ⟨zr, zj, zc, hzshape⟩ : ∃ r j c, z = { d with regs := r, jrn := j, cs := c } := ⟨_, _, _, (hframe.mono (l' := [R.JRN_STAT, R.MEM_STAT]) (fun a ha => by simp at ha; simp [ha]) |>.trans hzframe).1⟩
    rw [hushape, hzshape]
    rfl

/-- Settles O46: erases that end (`Dev.erasePassed_spec`, `Dev.eraseFailed_spec`), a device given up (`Dev.failDevice_spec`), a batch time that passed. -/
theorem devicesWork : Obligations.DevicesWork := by
  unfold Obligations.DevicesWork
  intro s hrun
  refine ⟨fun n hnone pass => ?_, fun n b hb => ?_, fun n m hne _ hm _ hmup hopen => ?_, fun n hout => ?_, fun l hl htime hend => ?_, fun hnone => ?_⟩
  · refine completes_onEngine (·.eraseDone n pass) hrun rfl ?_
    rw [Dev.eraseDone, hnone]
  · intro q
    have hport := (Dev.PortServed.memWork s.dev 5 (chainStatus (n + 1))).rest
    have hdone := fun pass => Dev.eraseDone_of hb pass
    change q = _ at hport
    have hq : s.dev.memWork 5 (chainStatus (n + 1)) = q := rfl
    rw [hq] at hdone
    clear_value q
    have hjrn : q.jrn = s.dev.jrn := (congrArg Dev.jrn hport :)
    have hcs : q.cs = s.dev.cs := (congrArg Dev.cs hport :)
    have hcsw : ∀ k, q.csw k = s.dev.csw k := fun k => by rw [Dev.csw, hcs, Dev.csw]
    have hnd : ∀ m, q.nd m = s.dev.nd m := Dev.nd_of_jrn (congrArg Journal.devs hjrn)
    refine ⟨completes_onEngine (·.eraseDone n true) hrun rfl ?_, completes_onEngine (·.eraseDone n false) hrun rfl ?_⟩
    · obtain ⟨e, he, hself, hother, hejrn, hframe⟩ := Dev.erasePassed_spec n.isLt q b
      refine ⟨e, by rw [hdone, if_pos rfl, he], by rw [hself], fun p hp => ?_, fun p hp hpb => ?_, ?_, fun m hm hne => (hother m hm hne).trans (hnd m), hframe⟩
      · rw [hself] at hp
        simpa using (List.mem_filter.1 hp).2
      · rw [hself, hnd]
        exact List.mem_filter.2 ⟨hp, by simpa using hpb⟩
      · rw [hejrn, hjrn]
    · obtain ⟨e, f, he, hentry, herasing, hbad, hmarked, hnand, hsel, hop, hlast, hlarder, hother, htail, hwords, hframe⟩ := Dev.eraseFailed_spec n.isLt q b
      refine ⟨e, f, by rw [hdone, if_neg Bool.false_ne_true, he], hentry, herasing, hbad, hmarked, hnand, hsel, hop, hlast, by rw [hlarder, hjrn],
        fun m hm hne => (hother m hm hne).trans (hnd m), fun hne => (htail ?_).trans hcs, fun k hk => (hwords k hk).trans (hcsw k), hframe⟩
      rw [Dev.tail, hcsw]
      exact hne
  · refine completes_onEngine (·.deviceTimeout n) hrun rfl ?_
    obtain ⟨e, he, hspec⟩ := Dev.failDevice_spec n.isLt m.isLt (fun h => hne (Fin.ext h.symm)) s.dev hm hmup hopen
    have hrow : s.dev.deviceTimeout n = s.dev.failDevice n := if_pos (by simp [*])
    exact ⟨e, by rw [hrow, he], hspec⟩
  · refine completes_onEngine (·.deviceTimeout n) hrun rfl ?_
    have hrow : s.dev.deviceTimeout n = s.dev := if_neg fun h => by rcases hout with h' | h' <;> simp [h'] at h
    rw [hrow]
  · refine completes_onEngine Dev.batchExpired hrun rfl ?_
    rw [Dev.batchExpired, hl]
    refine ⟨_, rfl, ?_, rfl, (congrArg Dev.attic (s.dev.reach_frame (l.entered + s.dev.jBatch)) :)⟩
    rw [Dev.reach_time hrun hend htime]
    exact Nat.le_max_right _ _
  · refine completes_onEngine Dev.batchExpired hrun rfl ?_
    rw [Dev.batchExpired, hnone]

end Sys2Proof.Machine
end

section
/-!
PROOFS. Compaction, staging, and the end of a strike (R337, R369, R372, R428).
-/

namespace Sys2Proof.Machine

open Sys2Proof

-- one proof after another: the check bounds the memory that the stacks of parallel proofs take
set_option Elab.async false

/-! ### Compaction (R372) -/

theorem Dev.eraseWork_lt {d : Dev} {m b : Nat} (h : d.eraseWork = some (m, b)) : m < 4 := by
  obtain ⟨n, hn, hsome⟩ := List.exists_of_findSome?_eq_some h
  have hlt : n < 4 := List.mem_range.1 (List.mem_filter.1 hn).1
  split at hsome
  · exact nomatch hsome
  split at hsome
  · obtain ⟨rfl, -⟩ := Prod.mk.inj (Option.some.inj hsome)
    exact hlt
  · obtain ⟨x, -, hx⟩ := Option.map_eq_some_iff.1 hsome
    obtain ⟨rfl, -⟩ := Prod.mk.inj hx
    exact hlt

/-- The block under erase on its device, before its chain enters the memory port. -/
def Dev.underErase (d : Dev) (n b : Nat) : Dev :=
  (d.onNd n fun x => { x with pages := x.pages.filter (fun p => blockOf p.addr != b), erasing := some b }).busyBit n

theorem Dev.underErase_spec {n : Nat} (hn : n < 4) (d : Dev) (b : Nat) : let e := d.underErase n b
    e.nd n = { d.nd n with pages := (d.nd n).pages.filter (fun p => blockOf p.addr != b), erasing := some b } ∧
    (∀ k, k < 4 → k ≠ n → e.nd k = d.nd k) ∧ e.jrn = { d.jrn with devs := e.jrn.devs } ∧ { d with jrn := e.jrn }.onlyRegs e [R.MEM_STAT] := by
  intro e
  have hnd : ∀ k, e.nd k = (d.onNd n fun x => { x with pages := x.pages.filter (fun p => blockOf p.addr != b), erasing := some b }).nd k := fun _ => rfl
  refine ⟨(hnd n).trans (Dev.nd_onNd hn), fun k hk hne => (hnd k).trans (Dev.nd_onNd_other hk hne), rfl, ?_, fun a ha => ?_⟩
  · rfl
  · exact Dev.reg_setFld_other fun h => ha (by simp [h])

theorem Dev.compact_erase {d : Dev} {m b : Nat} (h : d.eraseWork = some (m, b)) (r : PageRead) : d.compact r = (d.underErase m b).memChains 5 (chainsErase m) := by
  rw [Dev.compact, h]
  rfl

/-- With no erase due, no pass and nothing to relocate, compaction reads the page at the cursor. -/
theorem Dev.compact_patrol {d : Dev} (herase : d.eraseWork = none) (hpass : d.jrn.pass = none) (hrelocs : d.jrn.relocs = []) (r : PageRead) :
    d.compact r = match d.fromCursor.head? with
      | none => d
      | some q => (fun e : Dev => if r == .torn || (e.nd (posDev q.1)).failed then e.readLoss else e.readResult (posDev q.1) (blockOf (posAddr q.1)) r)
          (d.memChains 5 (if (d.nd (posDev q.1)).failed then [] else d.chainsRead (posDev q.1))) := by
  rw [Dev.compact, herase]
  dsimp only
  rw [hpass]
  dsimp only
  rw [hrelocs, List.find?_nil] <;> rfl

theorem Dev.compact_reads {d : Dev} (herase : d.eraseWork = none) (hpass : d.jrn.pass = none) (hrelocs : d.jrn.relocs = []) {q : Nat × Nat × Bytes}
    (hq : d.fromCursor.head? = some q) (hup : (d.nd (posDev q.1)).failed = false) {r : PageRead} (hr : r ≠ .torn) : d.compact r =
    (d.memChains 5 (d.chainsRead (posDev q.1))).readResult (posDev q.1) (blockOf (posAddr q.1)) r := by
  have hport := (Dev.PortServed.memChains d 5 (d.chainsRead (posDev q.1))).rest
  rw [Dev.compact_patrol herase hpass hrelocs, hq]
  simp only [hup, if_neg Bool.false_ne_true]
  have hup' : ((d.memChains 5 (d.chainsRead (posDev q.1))).nd (posDev q.1)).failed = false :=
    (congrArg NandDev.failed (Dev.nd_of_jrn (congrArg (fun x : Dev => x.jrn.devs) hport :) _)).trans hup
  have htorn : (r == .torn) = false := by simpa using hr
  rw [hup', htorn]
  exact if_neg Bool.false_ne_true

/-! ### Staging (R369, R428) -/

/-- With no pass and no failed device the staged records are the first 64 from the cursor. -/
theorem Dev.stage_spec {d : Dev} (hpass : d.jrn.pass = none) (hup : ∀ n, (d.nd n).failed = false) : let e := d.stage
    e.jrn = { d.jrn with staged := (d.fromCursor.take 64).map fun r => (r.1, r.2.2) } ∧
    e.fld F.HOST_JRN_STAGED_STAGED = min 64 d.fromCursor.length ∧ { d with jrn := e.jrn }.onlyRegs e [R.HOST_JRN_STAGED] := by
  have hstage : d.stage = (d.onJrn fun j => { j with staged := (d.fromCursor.take 64).map fun r => (r.1, r.2.2) }).setFld
      F.HOST_JRN_STAGED_STAGED (d.fromCursor.take 64).length := by
    unfold Dev.stage
    have htake : ∀ l : List (Nat × Nat × Bytes), l.takeWhile (fun r => !(((d.jrn.pass.map fun p => p.dev == posDev r.1 && p.block == blockOf (posAddr r.1)).getD false) ||
        (d.nd (posDev r.1)).failed)) = l := by
      intro l
      refine List.takeWhile_eq_self_iff.2 fun r _ => ?_
      rw [hpass, hup]
      rfl
    dsimp only
    rw [htake]
  intro e
  have hlen : (d.fromCursor.take 64).length = min 64 d.fromCursor.length := List.length_take
  have he : e = (d.onJrn fun j => { j with staged := (d.fromCursor.take 64).map fun r => (r.1, r.2.2) }).setFld
      F.HOST_JRN_STAGED_STAGED (d.fromCursor.take 64).length := hstage
  clear_value e
  rw [he]
  refine ⟨rfl, ?_, rfl, fun a ha => ?_⟩
  · rw [← hlen]
    refine Dev.fld_setFld_small (by decide) (Nat.lt_of_le_of_lt (?_ : _ ≤ 64) (by decide))
    rw [hlen]
    exact Nat.min_le_left _ _
  · exact Dev.reg_setFld_other fun h => ha (by simp [h, F.HOST_JRN_STAGED_STAGED, R.HOST_JRN_STAGED])

theorem Dev.stageRead_good {d : Dev} (hup : ∀ n, (d.nd n).failed = false) {q : Nat × Nat × Bytes} (hq : d.fromCursor.head? = some q) :
    d.stageRead .good = (d.memChains 3 (d.chainsRead (posDev q.1))).stage := by
  have hport := (Dev.PortServed.memChains d 3 (d.chainsRead (posDev q.1))).rest
  have hup' : ((d.memChains 3 (d.chainsRead (posDev q.1))).nd (posDev q.1)).failed = false :=
    (congrArg NandDev.failed (Dev.nd_of_jrn (congrArg (fun x : Dev => x.jrn.devs) hport :) _)).trans (hup _)
  unfold Dev.stageRead
  rw [hq]
  simp only [hup, if_neg Bool.false_ne_true]
  rw [hup']
  rfl

/-! ### Strikes (R337) -/

theorem Dev.strikeEnd_of {d : Dev} {pin : Nat} {t : Strike} (h : d.strikes.find? (fun (k : Strike) => k.pin == pin) = some t) : d.strikeEnd pin =
    (fun e : Dev => { e with strikes := e.strikes.filter fun (s : Strike) => s.pin != pin })
      (((d.reach t.until_).setFlag ⟨R.GPIO_OUT, pin, pin⟩ ((d.reach t.until_).pinIdle pin)).setFlag ⟨R.GPIO_STRIKE, pin, pin⟩ false) := by
  rw [Dev.strikeEnd, h]

theorem Dev.strikeEnd_spec {d : Dev} (hrun : d.phase = .running) {pin : Nat} (hpin : pin < 32) {t : Strike}
    (h : d.strikes.find? (fun (k : Strike) => k.pin == pin) = some t) (htime : d.time < 2 ^ 64) (hend : t.until_ < 2 ^ 64) : let x := d.strikeEnd pin
    t.until_ ≤ x.time ∧ x.flag ⟨R.GPIO_STRIKE, pin, pin⟩ = false ∧ x.flag ⟨R.GPIO_OUT, pin, pin⟩ = d.pinIdle pin ∧
      x.strikes = d.strikes.filter (fun (k : Strike) => k.pin != pin) ∧ x.attic = { d.attic with count := x.attic.count } ∧
      (∀ k, k ≠ pin → k < 32 → x.flag ⟨R.GPIO_OUT, k, k⟩ = d.flag ⟨R.GPIO_OUT, k, k⟩ ∧ x.flag ⟨R.GPIO_STRIKE, k, k⟩ = d.flag ⟨R.GPIO_STRIKE, k, k⟩) ∧
      { d with time := x.time, attic := x.attic, strikes := x.strikes }.onlyRegs x [R.GPIO_OUT, R.GPIO_STRIKE] := by
  have hreached := Dev.reach_time hrun hend htime
  have hframe := d.reach_frame t.until_
  have hidle : (d.reach t.until_).pinIdle pin = d.pinIdle pin := rfl
  have hreg : ∀ a, (d.reach t.until_).reg a = d.reg a := fun _ => rfl
  intro x
  have hx := Dev.strikeEnd_of h
  change x = _ at hx
  clear_value x
  rw [hidle] at hx
  have hstrikes : (d.reach t.until_).strikes = d.strikes := rfl
  have hattic : (d.reach t.until_).attic = { d.attic with count := (d.reach t.until_).attic.count } := (congrArg Dev.attic hframe :)
  generalize d.reach t.until_ = y at *
  obtain ⟨z, hz⟩ : ∃ z, z = (y.setFlag ⟨R.GPIO_OUT, pin, pin⟩ (d.pinIdle pin)).setFlag ⟨R.GPIO_STRIKE, pin, pin⟩ false := ⟨_, rfl⟩
  rw [← hz] at hx
  have hsplit : R.GPIO_OUT ≠ R.GPIO_STRIKE := by decide
  have hout : z.flag ⟨R.GPIO_OUT, pin, pin⟩ = d.pinIdle pin := by
    rw [hz]
    exact (Dev.flag_setFlag_other (.inl hsplit) hpin).trans (Dev.flag_setFlag rfl hpin)
  have hstrike : z.flag ⟨R.GPIO_STRIKE, pin, pin⟩ = false := by
    rw [hz]
    exact Dev.flag_setFlag rfl hpin
  have hothers : ∀ k, k ≠ pin → k < 32 → z.flag ⟨R.GPIO_OUT, k, k⟩ = d.flag ⟨R.GPIO_OUT, k, k⟩ ∧
      z.flag ⟨R.GPIO_STRIKE, k, k⟩ = d.flag ⟨R.GPIO_STRIKE, k, k⟩ := by
    intro k hk hk32
    have hy : ∀ f : Fld, y.flag f = d.flag f := fun f => Dev.flag_eq_of_fld (Dev.fld_eq_of_reg (hreg _))
    rw [hz]
    refine ⟨(Dev.flag_setFlag_other (.inl hsplit) hk32).trans ((Dev.flag_setFlag_other (.inr (by dsimp only; omega)) hk32).trans (hy _)), ?_⟩
    exact (Dev.flag_setFlag_other (.inr (by dsimp only; omega)) hk32).trans ((Dev.flag_setFlag_other (.inl hsplit.symm) hk32).trans (hy _))
  have hzframe : y.onlyRegs z [R.GPIO_OUT, R.GPIO_STRIKE] := by
    rw [hz]
    exact ((Dev.onlyRegs_refl y _).fld (by simp)).fld (by simp)
  clear hz
  have hzx : ∀ f : Fld, x.flag f = z.flag f := fun f => by rw [hx]; rfl
  have hztime : z.time = y.time ∧ z.attic = y.attic ∧ z.strikes = y.strikes :=
    ⟨(congrArg Dev.time hzframe.1 :), (congrArg Dev.attic hzframe.1 :), (congrArg Dev.strikes hzframe.1 :)⟩
  have hxtime : x.time = y.time := by rw [hx]; exact hztime.1
  have hxattic : x.attic = y.attic := by rw [hx]; exact hztime.2.1
  have hxstrikes : x.strikes = d.strikes.filter (fun (k : Strike) => k.pin != pin) := by
    rw [hx, ← hstrikes, ← hztime.2.2]
  refine ⟨by rw [hxtime, hreached]; exact Nat.le_max_right _ _, by rw [hzx, hstrike], by rw [hzx, hout], hxstrikes, by rw [hxattic]; exact hattic,
    fun k hk hk32 => by rw [hzx, hzx]; exact hothers k hk hk32, ?_, fun a ha => ?_⟩
  · obtain ⟨zr, hzshape⟩ : ∃ r, z = { y with regs := r } := ⟨_, hzframe.1⟩
    obtain ⟨yt, ya, hyshape⟩ : ∃ t a, y = { d with time := t, attic := a } := ⟨_, _, hframe⟩
    rw [hx, hzshape, hyshape]
  · have hxz : x.reg a = z.reg a := by rw [hx]; rfl
    exact hxz.trans ((hzframe.2 a ha).trans (hreg a))

/-- Settles O47: what is due is erased (`Dev.compact_erase`), else the page at the cursor is read (`Dev.compact_reads`); staging
(`Dev.stage_spec`) and strikes (`Dev.strikeEnd_spec`). -/
theorem compactionAndStaging : Obligations.CompactionAndStaging := by
  unfold Obligations.CompactionAndStaging
  intro s hrun
  refine ⟨fun r m b hwork => ?_, fun hwork hpass hrelocs => ⟨fun q hq hup => ?_, fun hnone r => ?_⟩, fun hpass hup => ⟨fun q hq => ?_, fun hnone => ?_⟩,
    fun pin t ht htime hend => ?_, fun pin hnone => ?_⟩
  · refine completes_onEngine (·.compactTurn r) hrun rfl ?_
    obtain ⟨hself, hother, hjrn, hframe⟩ := Dev.underErase_spec (Dev.eraseWork_lt hwork) s.dev b
    rw [Dev.compactTurn, Dev.compact_erase hwork]
    refine ⟨_, rfl, by rw [hself], fun p hp => ?_, fun p hp hpb => ?_, hother, hjrn, hframe⟩
    · rw [hself] at hp
      simpa using (List.mem_filter.1 hp).2
    · rw [hself]
      exact List.mem_filter.2 ⟨hp, by simpa using hpb⟩
  · intro read
    refine ⟨completes_onEngine (·.compactTurn .good) hrun rfl ?_, completes_onEngine (·.compactTurn .corrected) hrun rfl ?_⟩
    · rw [Dev.compactTurn, Dev.compact_reads hwork hpass hrelocs hq hup (by decide)]
      rfl
    · rw [Dev.compactTurn, Dev.compact_reads hwork hpass hrelocs hq hup (by decide)]
      exact ⟨_, rfl, Dev.fld_bump (by decide), read.bump_frame _ _⟩
  · refine completes_onEngine (·.compactTurn r) hrun rfl ?_
    rw [Dev.compactTurn, Dev.compact_patrol hwork hpass hrelocs, hnone]
    rfl
  · refine completes_onEngine (·.stageRead .good) hrun rfl ?_
    rw [Dev.stageRead_good hup hq]
    have hport := (Dev.PortServed.memChains s.dev 3 (s.dev.chainsRead (posDev q.1))).rest
    generalize s.dev.memChains 3 (s.dev.chainsRead (posDev q.1)) = e at *
    have hjrn : e.jrn = s.dev.jrn := (congrArg Dev.jrn hport :)
    have hcursor : e.fromCursor = s.dev.fromCursor := (congrArg Dev.fromCursor hport :)
    obtain ⟨hstaged, hcount, hframe⟩ := Dev.stage_spec (d := e) (by rw [hjrn]; exact hpass) fun n => by
      rw [Dev.nd_of_jrn (congrArg Journal.devs hjrn)]
      exact hup n
    rw [hjrn, hcursor] at hstaged
    rw [hcursor] at hcount
    exact ⟨_, rfl, hstaged, hcount, hframe⟩
  · refine completes_onEngine (·.stageRead .good) hrun rfl ?_
    obtain ⟨hstaged, hcount, hframe⟩ := Dev.stage_spec hpass hup
    rw [hnone] at hstaged hcount
    have hrow : s.dev.stageRead .good = s.dev.stage := by
      unfold Dev.stageRead
      rw [hnone]
      rfl
    rw [hrow]
    exact ⟨_, rfl, hstaged, hcount, hframe⟩
  · exact completes_onLive (·.strikeEnd pin) hrun rfl (Dev.strikeEnd_spec hrun (by omega) ht htime hend)
  · refine completes_onLive (·.strikeEnd pin) hrun rfl ?_
    rw [Dev.strikeEnd, hnone]

end Sys2Proof.Machine
end

section
/-!
PROOFS. The states of the UHF chains while one of them works; the governor's instants (R181, R256, R259).
-/

namespace Sys2Proof.Machine

open Sys2Proof

-- one proof after another: the check bounds the memory that the stacks of parallel proofs take
set_option Elab.async false

/-! ### A chain at work, no carrier of any chain changed -/

/-- `e` is `d` but for what UHF chain `n` does, the governor, the wires and their registers; every chain's state is as it was. -/
structure Dev.AtWork (n : Nat) (d e : Dev) : Prop where
  rest : e = { d with regs := e.regs, uhf := e.uhf, gov := e.gov, coexA := e.coexA, coexB := e.coexB }
  ust : ∀ m, m < 2 → e.ust m = d.ust m
  held : ∀ m, m < 2 → (e.uhfc m).holds = (d.uhfc m).holds
  others : ∀ m, m < 2 → m ≠ n → e.uhfc m = d.uhfc m

/-- A field that is no state of a chain. -/
abbrev notState (f : Fld) : Prop := ∀ m, m < 2 → apart f (F.UHFCn_STAT_STATE m)

theorem notState_chain {f : Fld} (c k : Nat) (hf : f.addr = c + 0x80 * k) (hc : c % 0x80 ≠ 1 := by decide) : notState f := by
  intro m hm
  refine .inl ?_
  rw [hf]
  simp only [F.UHFCn_STAT_STATE]
  omega

theorem notState_stat {f : Fld} (k : Nat) (haddr : f.addr = 0x401 + 0x80 * k) (hlo : f.hi < 21 ∨ 23 < f.lo) : notState f := by
  intro m hm
  simp only [apart, F.UHFCn_STAT_STATE]
  omega

theorem notState_fixed {f : Fld} (h1 : f.addr ≠ 0x401 := by decide) (h2 : f.addr ≠ 0x481 := by decide) : notState f := by
  intro m hm
  refine .inl fun h => ?_
  simp only [F.UHFCn_STAT_STATE] at h
  omega

namespace Dev.AtWork

variable {d e x : Dev} {n : Nat}

theorem refl (n : Nat) (d : Dev) : AtWork n d d := ⟨rfl, fun _ _ => rfl, fun _ _ => rfl, fun _ _ _ => rfl⟩

theorem trans (h : AtWork n d e) (g : AtWork n e x) : AtWork n d x where
  rest := by
    have hg := g.rest
    rw [h.rest] at hg
    exact hg
  ust m hm := (g.ust m hm).trans (h.ust m hm)
  held m hm := (g.held m hm).trans (h.held m hm)
  others m hm hne := (g.others m hm hne).trans (h.others m hm hne)

theorem ite {c : Prop} [Decidable c] {y z : Dev} (hy : AtWork n d y) (hz : AtWork n d z) : AtWork n d (if c then y else z) := by
  split
  · exact hy
  · exact hz

theorem off (h : AtWork n d e) {m : Nat} (hm : m < 2) : e.uhfOn m = d.uhfOn m := Dev.uhfOn_congr (h.ust m hm)

theorem setFld {f : Fld} {v : Nat} (h : AtWork n d e) (hf : notState f) : AtWork n d (e.setFld f v) where
  rest := congrArg (·.setFld f v) h.rest
  ust m hm := (Dev.ust_setFld_apart (hf m hm)).trans (h.ust m hm)
  held := h.held
  others := h.others

theorem setFlag {f : Fld} {v : Bool} (h : AtWork n d e) (hf : notState f) : AtWork n d (e.setFlag f v) := h.setFld hf

theorem setReg {v : Word} (h : AtWork n d e) (c k : Nat) (hc : c % 0x80 ≠ 1 := by decide) : AtWork n d (e.setReg (c + 0x80 * k) v) where
  rest := congrArg (·.setReg (c + 0x80 * k) v) h.rest
  ust m hm := (congrArg (bitsOf · 23 21) (Dev.reg_setReg_other (by simp only [F.UHFCn_STAT_STATE]; omega))).trans (h.ust m hm)
  held := h.held
  others := h.others

theorem govern (h : AtWork n d e) (g : Gov) (a b : Wires) : AtWork n d { e with gov := g, coexA := a, coexB := b } where
  rest := congrArg (fun x : Dev => { x with gov := g, coexA := a, coexB := b }) h.rest
  ust := h.ust
  held := h.held
  others := h.others

theorem onUhf {f : UhfChain → UhfChain} (h : AtWork n d e) (hf : ∀ u, (f u).holds = u.holds := by exact fun _ => rfl) : AtWork n d (e.onUhf n f) where
  rest := congrArg (fun x : Dev => { x with uhf := tableSet 2 {} e.uhf n (f (e.uhfc n)) }) h.rest
  ust := h.ust
  held m hm := by
    by_cases hmn : m = n
    · subst hmn
      rw [Dev.uhfc_onUhf hm, hf]
      exact h.held m hm
    · rw [Dev.uhfc_onUhf_other hm hmn]
      exact h.held m hm
  others m hm hne := by
    rw [Dev.uhfc_onUhf_other hm hne]
    exact h.others m hm hne

theorem showCoex (h : AtWork n d e) : AtWork n d e.showCoex :=
  (((((((h.setFlag notState_fixed).setFlag notState_fixed).setFlag notState_fixed).setFlag notState_fixed).setFlag notState_fixed).setFlag
    notState_fixed).setFlag notState_fixed).setFlag notState_fixed

theorem coexIdle (h : AtWork n d e) : AtWork n d e.coexIdle := (h.govern _ _ _).showCoex

theorem coexPri (h : AtWork n d e) : AtWork n d e.coexPri := (h.govern _ _ _).showCoex

theorem showQueue {m : Nat} (h : AtWork n d e) : AtWork n d (e.showQueue m) := h.setFld (notState_chain _ m rfl)

theorem radioPush {c : RadioCmd} (h : AtWork n d e) : AtWork n d (e.radioPush n c) :=
  (h.onUhf fun u => by split <;> rfl).showQueue

theorem radioPop (h : AtWork n d e) : AtWork n d (e.radioPop n) := h.onUhf.showQueue

theorem radioFront {c : RadioCmd} (h : AtWork n d e) : AtWork n d (e.radioFront n c) := h.onUhf.showQueue

theorem radioClear (h : AtWork n d e) : AtWork n d (e.radioClear n) := by
  have hx := (h.onUhf (f := fun u => { u with queue := [], backlog := [], waitGrant := false })).showQueue (m := n)
  exact .ite hx.coexIdle hx

theorem unhold {m : Nat} (h : AtWork n d e) : AtWork n d (e.unhold m) := h.setFlag (by split <;> exact notState_fixed)

theorem untrain (h : AtWork n d e) : AtWork n d (e.untrain n) := h.onUhf.setFlag (notState_stat n rfl (.inl (Nat.le_of_ble_eq_true rfl)))

theorem showRound {m : Nat} (h : AtWork n d e) : AtWork n d (e.showRound m) := by
  unfold Dev.showRound
  split
  · exact (h.setReg _ m).setReg _ m
  · extract_lets x y
    have hx : AtWork n d x := h.setReg _ m
    have hy : AtWork n d y := hx.setFld (notState_chain _ m rfl)
    exact .ite ((hy.setFlag (notState_chain _ m rfl)).setFld (notState_chain _ m rfl)) hy

theorem setUhfAtt {a : UhfAttempt} (h : AtWork n d e) : AtWork n d (e.setUhfAtt n a) := h.onUhf.showRound

theorem uhfShowFrame {f : ResFrame} (h : AtWork n d e) : AtWork n d (e.uhfShowFrame n f) := by
  unfold Dev.uhfShowFrame
  extract_lets s fl fm stat lvl ph shown
  have hstat : AtWork n d stat := h.setReg _ n
  have hlvl : AtWork n d lvl := hstat.setReg _ n
  have hph : AtWork n d ph := hlvl.setReg _ n
  have hshown : AtWork n d shown := .ite (hph.setFld (notState_stat n rfl (.inr (Nat.le_of_ble_eq_true rfl)))) hph
  have hcount : ∀ f : Fld, f.addr = 0x447 + 0x80 * n → AtWork n d (shown.bump f 1) := fun f hf => hshown.setFld (notState_chain 0x447 n hf)
  exact .ite (hcount _ rfl) (.ite (hcount _ rfl) (.ite (hcount _ rfl) hshown))

theorem uhfPush {f : ResFrame} (h : AtWork n d e) : AtWork n d (e.uhfPush n f) := h.uhfShowFrame.onUhf

theorem uhfFinish {a : UhfAttempt} {f : ResFrame} (h : AtWork n d e) : AtWork n d (e.uhfFinish n a f) := by
  unfold Dev.uhfFinish
  refine showRound (onUhf (unhold (radioClear (uhfPush ?_))))
  split
  · exact h.uhfPush
  · exact h

theorem radioSetup {a : UhfAttempt} {b : Bool} (h : AtWork n d e) : AtWork n d (e.radioSetup n a b) := by
  unfold Dev.radioSetup
  extract_lets c want there stay portNow on x y z
  have hx : AtWork n d x := .ite h.radioPush h
  have hy : AtWork n d y := .ite hx hx.radioPush
  have hz : AtWork n d z := .ite hy hy.radioPush
  exact .ite hz hz.radioPush

theorem pushPkt {a : UhfAttempt} {p : Pkt} (h : AtWork n d e) : AtWork n d (e.pushPkt n a p) := h.radioPush

theorem pushPkts {a : UhfAttempt} {l : List Pkt} (h : AtWork n d e) : AtWork n d (l.foldl (fun d p => d.pushPkt n a p) e) := by
  induction l generalizing e with
  | nil => exact h
  | cons p l ih => exact ih h.pushPkt

section
variable (hn : n < 2) (hoff : d.uhfOn n = false)
include hn hoff

theorem steerTo {c : Nat} (h : AtWork n d e) : AtWork n d (e.steerTo n c) := by
  have hcw : e.teamCw n = e := if_neg (by rw [h.off hn, hoff]; exact Bool.false_ne_true)
  unfold Dev.steerTo
  rw [hcw]
  exact .ite h h.untrain.onUhf

theorem beginRound {a : UhfAttempt} (h : AtWork n d e) : AtWork n d (e.beginRound n a) := (h.steerTo hn hoff).setUhfAtt.pushPkts

theorem beginWork {a : UhfAttempt} (h : AtWork n d e) : AtWork n d (e.beginWork n a) := .ite (h.steerTo hn hoff).pushPkt (h.beginRound hn hoff)

/-- An attempt begun again on a chain whose carrier is off. -/
theorem uhfRestart (h : AtWork n d e) : AtWork n d (e.uhfRestart n) := by
  unfold Dev.uhfRestart
  split
  · exact h
  · exact h.radioClear.setUhfAtt.radioSetup.beginWork hn hoff

end

end Dev.AtWork

/-! ### Carriers taken down by the governor -/

/-- A chain's carrier down, and its attempt begun again. -/
theorem Dev.pauseCarrier_spec (d : Dev) {n : Nat} (hn : n < 2) (hpartner : (d.uhfc n).partner = none) (hmaster : (d.uhfc n).master = true) :
    let e := d.pauseCarrier n
    e = { d with regs := e.regs, uhf := e.uhf, gov := e.gov, coexA := e.coexA, coexB := e.coexB } ∧ e.uhfOn n = false ∧
      (d.uhfOn n = false → e = d) ∧
      ∀ m, m < 2 → m ≠ n → e.ust m = d.ust m ∧ (d.uhfc m).carrierOnly (e.uhfc m) := by
  have hm : d.uhfMaster n = n := Dev.uhfMaster_alone hmaster
  intro e
  have he : e = if d.uhfOn n then (d.rampDown n).uhfRestart n else d := by
    simp only [e, Dev.pauseCarrier]
    rw [hm]
  clear_value e
  by_cases hon : d.uhfOn n = true
  · rw [if_pos hon] at he
    have hcarrier := (Dev.CarrierOnly.refl d).rampDown (n := n)
    have hust := fun m (hm : m < 2) => d.ust_rampDown n hm
    rw [Dev.uhfTeam_alone hpartner] at hust
    generalize d.rampDown n = y at *
    have hoff : y.uhfOn n = false := Dev.uhfOn_eq_false_iff.2 (by rw [hust n hn, if_pos ⟨List.mem_singleton.2 rfl, hon⟩]; decide)
    have hwork := (Dev.AtWork.refl n y).uhfRestart hn hoff
    rw [← he] at hwork
    refine ⟨?_, (hwork.off hn).trans hoff, fun h => absurd hon (by simp [h]), fun m hm hne => ⟨?_, ?_⟩⟩
    · have hrest := hwork.rest
      rw [hcarrier.rest] at hrest
      exact hrest
    · rw [hwork.ust m hm, hust m hm, if_neg fun h => hne (List.mem_singleton.1 h.1)]
    · rw [hwork.others m hm hne]
      exact hcarrier.uhf m hm
  · rw [if_neg hon] at he
    rw [he]
    exact ⟨rfl, by simpa using hon, fun _ => rfl, fun m hm _ => ⟨rfl, rfl⟩⟩

theorem Dev.occ_endOcc {d : Dev} {n : Nat} (hn : n < 2) : (d.endOcc n).occ n = none := tableSet_getD_self hn

theorem Dev.occ_endOcc_other {d : Dev} {n m : Nat} (hm : m < 2) (hne : m ≠ n) : (d.endOcc n).occ m = d.occ m := tableSet_getD_other hm hne

/-- With the budget spent, a chain that is between exchanges comes down. -/
def Dev.pauseBetween (d : Dev) (n : Nat) : Dev := if (d.uhfc n).master && !(d.uhfc n).att.any (·.awaiting.isSome) then d.pauseCarrier n else d

theorem Dev.pauseBetween_spec (d : Dev) {n : Nat} (hn : n < 2) (hpartner : (d.uhfc n).partner = none) (hmaster : (d.uhfc n).master = true) :
    let e := d.pauseBetween n
    e = { d with regs := e.regs, uhf := e.uhf, gov := e.gov, coexA := e.coexA, coexB := e.coexB } ∧
      ((∀ a, (d.uhfc n).att = some a → a.awaiting = none) → e.uhfOn n = false) ∧
      ∀ m, m < 2 → m ≠ n → e.ust m = d.ust m ∧ (d.uhfc m).carrierOnly (e.uhfc m) := by
  intro e
  have he : e = if (d.uhfc n).master && !(d.uhfc n).att.any (·.awaiting.isSome) then d.pauseCarrier n else d := rfl
  clear_value e
  by_cases hidle : (!(d.uhfc n).att.any (·.awaiting.isSome)) = true
  · rw [if_pos (by rw [hmaster, hidle]; rfl)] at he
    obtain ⟨hrest, hdown, -, hothers⟩ := d.pauseCarrier_spec hn hpartner hmaster
    rw [← he] at hrest hdown hothers
    exact ⟨hrest, fun _ => hdown, hothers⟩
  · rw [if_neg (by simp [hidle])] at he
    rw [he]
    refine ⟨rfl, fun h => absurd ?_ hidle, fun _ _ _ => ⟨rfl, rfl⟩⟩
    cases hatt : (d.uhfc n).att with
    | none => rfl
    | some a => simp [h a hatt]

theorem Dev.dutyOut_spent {d : Dev} (hmode : d.mode = 4) (hspent : d.dutySpent = true) (hon : d.uhfOn 0 = true ∨ d.uhfOn 1 = true) :
    d.dutyOut = (d.pauseBetween 0).pauseBetween 1 := by
  have hout : d.dutyRunsOut 16 = d := if_pos hspent
  unfold Dev.dutyOut
  rw [if_neg (by rcases hon with h | h <;> simp [hmode, Mode.shared, h])]
  dsimp only
  rw [hout, if_neg (by simp [hspent])]
  rfl

/-- Settles O57: carriers come down with `Dev.pauseCarrier_spec`, and the instants are those of `Dev.reach_time`. -/
theorem governorInstants : Obligations.GovernorInstants := by
  unfold Obligations.GovernorInstants
  intro s hrun htime
  refine ⟨fun n hnone => ⟨?_, ?_⟩, fun n hon => ?_, fun n o ho halone hend => ?_, fun n o t ho ht hoff hend => ?_, fun hidle => ?_,
    fun hmode hspent h0 h1 hon => ?_⟩
  · refine completes_onLive (·.dwellExpired n) hrun rfl ?_
    rw [Dev.dwellExpired, hnone]
  · refine completes_onLive (·.offExpired n) hrun rfl ?_
    rw [Dev.offExpired, hnone]
  · refine completes_onLive (·.offExpired n) hrun rfl ?_
    unfold Dev.offExpired
    split
    · rfl
    split
    · rfl
    · exact if_pos hon
  · refine completes_onLive (·.dwellExpired n) hrun rfl ?_
    obtain ⟨hpartner, hmaster, -⟩ := halone
    have hreach := Dev.reach_time hrun hend htime
    rw [Dev.dwellExpired, ho]
    dsimp only
    have hframe := s.dev.reach_frame (o.start + s.dev.limits.dwellMax * 1000)
    have hself : (s.dev.reach (o.start + s.dev.limits.dwellMax * 1000)).uhfc n = s.dev.uhfc n ∧
        (s.dev.reach (o.start + s.dev.limits.dwellMax * 1000)).uhfOn n = s.dev.uhfOn n := ⟨rfl, rfl⟩
    generalize s.dev.reach (o.start + s.dev.limits.dwellMax * 1000) = y at *
    obtain ⟨hrest, hdown, hsame, -⟩ := y.pauseCarrier_spec n.isLt (by rw [hself.1]; exact hpartner) (by rw [hself.1]; exact hmaster)
    refine ⟨?_, hdown, ?_, fun hoff => ?_⟩
    · rw [(congrArg Dev.time hrest :), hreach]
      exact Nat.le_max_right _ _
    · exact (congrArg Dev.chans hrest :).trans (congrArg Dev.chans hframe :)
    · rw [hsame (hself.2.trans hoff)]
      exact (congrArg Dev.uhf hframe :)
  · refine completes_onLive (·.offExpired n) hrun rfl ?_
    have hrow : s.dev.offExpired n = (s.dev.reach (t + s.dev.limits.offMin * 1000)).endOcc n := by
      rw [Dev.offExpired, ho]
      dsimp only
      rw [ht]
      exact if_neg (by simp [hoff])
    rw [hrow]
    refine ⟨Dev.occ_endOcc n.isLt, ?_, fun m hm hne => (Dev.occ_endOcc_other hm hne).trans rfl, rfl⟩
    have hreach := Dev.reach_time hrun hend htime
    exact hreach ▸ Nat.le_max_right _ _
  · refine completes_onLive Dev.dutyOut hrun rfl ?_
    exact if_pos (by rcases hidle with h | ⟨h, h'⟩ <;> simp [*, Mode.shared])
  · refine completes_onLive Dev.dutyOut hrun rfl ?_
    rw [Dev.dutyOut_spent hmode hspent hon]
    have h0' := s.dev.pauseBetween_spec (n := 0) (by decide) h0.1 h0.2.1
    generalize s.dev.pauseBetween 0 = y at *
    obtain ⟨hrest, hdown, hothers⟩ := h0'
    have hsame : (s.dev.uhfc 1).carrierOnly (y.uhfc 1) := (hothers 1 (by decide) (by decide)).2
    have h1' := y.pauseBetween_spec (n := 1) (by decide) (by rw [hsame]; exact h1.1) (by rw [hsame]; exact h1.2.1)
    obtain ⟨hrest', hdown', hothers'⟩ := h1'
    refine ⟨(congrArg Dev.time hrest' :).trans (congrArg Dev.time hrest :), fun n hn hidle => ?_⟩
    obtain rfl | rfl : n = 0 ∨ n = 1 := by omega
    · rw [Dev.uhfOn_congr (hothers' 0 (by decide) (by decide)).1]
      exact hdown hidle
    · refine hdown' fun a ha => hidle a ?_
      rw [hsame] at ha
      exact ha

end Sys2Proof.Machine
end

section
/-!
PROOFS. O58 fails: a partner that there is not (R267).
-/

namespace Sys2Proof.Machine

open Sys2Proof

-- one proof after another: the check bounds the memory that the stacks of parallel proofs take
set_option Elab.async false

/-- A running device with entry 0 of the protected windows enabled from a pin and applying, and chain 0 in CW beside a sixth chain, which
there is not: the state of that chain would stand in bits 23:21 of COEX_STAT. -/
def sixthChain : Dev :=
  let d := { State.reset.dev with phase := .running, uhf := [{ partner := some 5 }, {}] }
  (((d.setUst 0 Ust.cw).setFlag F.COEX_CFG_PW_ALL true).setFlag (F.COEX_PWk_CFG_EN 0) true).setFlag (F.COEX_PWk_CFG_SRC 0) true

theorem sixthChain_enabled : sixthChain.flag (F.COEX_PWk_CFG_EN 0) = true := by decide +kernel

theorem sixthChain_windows : sixthChain.windows = [] := rfl

/-- The window that starts takes both carriers of the pair down, and with the sixth chain's state COEX_STAT.PW_OPEN goes. -/
theorem sixthChain_closed : (sixthChain.windowStart 0).flag F.COEX_STAT_PW_OPEN = false := by decide +kernel

theorem completes_onLive_iff {s : State} {c : Instr} (f : Dev → Dev) {p : Dev → Prop} (hs : s.dev.phase = .running) (he : exec c s = s.onLive f) :
    completes c s p ↔ p (f s.dev) := by
  refine ⟨fun ⟨e, hnext, hp⟩ => ?_, completes_onLive f hs he⟩
  rw [he, State.onLive_live (Dev.live_of_running hs)] at hnext
  have hdev : f s.dev = e := by
    injection hnext with hstate
    exact (congrArg State.dev hstate :)
  exact hdev ▸ hp

/-- Refutes O58: a protected window that starts, on a device whose chain 0 is paired with a sixth chain, does not leave PW_OPEN set. -/
theorem not_coexistence : ¬ Obligations.Coexistence := by
  unfold Obligations.Coexistence
  intro h
  obtain ⟨-, -, -, -, hstart, -⟩ := h { State.reset with dev := sixthChain } rfl
  have hrow := hstart 0 sixthChain_enabled fun w hw => absurd (sixthChain_windows ▸ hw) List.not_mem_nil
  obtain ⟨-, hopen, -⟩ := (completes_onLive_iff (·.windowStart 0) rfl rfl).1 hrow
  exact Bool.false_ne_true (sixthChain_closed.symm.trans hopen)

end Sys2Proof.Machine
end

section
/-!
PROOFS. The canceller's training and the die temperature (R186, R194, R198 to R200).
-/

namespace Sys2Proof.Machine

open Sys2Proof

-- one proof after another: the check bounds the memory that the stacks of parallel proofs take
set_option Elab.async false

/-! ### Steps of the power loop (R194) -/

/-- `e` is `d` but for the output of chains: their POWER, PA and CANC registers. -/
structure Dev.Powered (d e : Dev) : Prop where
  rest : e = { d with regs := e.regs, uhf := e.uhf }
  uhf : ∀ m, m < 2 → e.uhfc m = { d.uhfc m with out := (e.uhfc m).out }
  regs : ∀ a, a % 0x80 ≠ 0x09 → a % 0x80 ≠ 0x0A → a % 0x80 ≠ 0x0B → e.reg a = d.reg a

namespace Dev.Powered

variable {d e : Dev}

theorem refl (d : Dev) : Powered d d := ⟨rfl, fun _ _ => rfl, fun _ _ _ _ => rfl⟩

theorem setFld {f : Fld} {v : Nat} (h : Powered d e) (hf : f.addr % 0x80 = 0x09 ∨ f.addr % 0x80 = 0x0A ∨ f.addr % 0x80 = 0x0B) : Powered d (e.setFld f v) where
  rest := congrArg (·.setFld f v) h.rest
  uhf := h.uhf
  regs a h9 hA hB := (Dev.reg_setFld_other (by rintro rfl; omega)).trans (h.regs a h9 hA hB)

theorem ite {c : Prop} [Decidable c] {x y : Dev} (hx : Powered d x) (hy : Powered d y) : Powered d (if c then x else y) := by
  split
  · exact hx
  · exact hy

theorem onUhf {n : Nat} {f : UhfChain → UhfChain} (h : Powered d e) (hf : ∀ u, f u = { u with out := (f u).out }) : Powered d (e.onUhf n f) where
  rest := congrArg (fun x : Dev => { x with uhf := tableSet 2 {} e.uhf n (f (e.uhfc n)) }) h.rest
  uhf m hm := by
    by_cases hmn : m = n
    · subst hmn
      rw [Dev.uhfc_onUhf hm, hf, h.uhf m hm]
    · rw [Dev.uhfc_onUhf_other hm hmn]
      exact h.uhf m hm
  regs := h.regs

theorem powerStep (k n : Nat) (h : Powered d e) : Powered d (e.powerStep k n) := by
  have hpower : (0x409 + 0x80 * n) % 0x80 = 0x09 := by omega
  have hpa : (0x40A + 0x80 * n) % 0x80 = 0x0A := by omega
  have hcanc : (0x40B + 0x80 * n) % 0x80 = 0x0B := by omega
  unfold Dev.powerStep
  split
  · exact h
  · extract_lets meas drive most goal ext step meas' scale scaled driven
    have hscaled : Powered d scaled := ((h.setFld (.inl hpower)).setFld (.inr (.inr hcanc))).setFld (.inr (.inr hcanc))
    have hdriven : Powered d driven := .ite (hscaled.setFld (.inr (.inl hpa))) hscaled
    exact .ite h (hdriven.onUhf fun _ => rfl)

theorem powerSteps (k : Nat) (l : List Nat) (h : Powered d e) : Powered d (e.forEach l (Dev.powerStep k)) :=
  Dev.forEach_keeps (P := Powered d) h fun _ m _ hx => hx.powerStep k m

theorem stat (h : Powered d e) (n : Nat) : e.reg (R.UHFCn_STAT n) = d.reg (R.UHFCn_STAT n) := by
  refine h.regs _ ?_ ?_ ?_ <;> simp only [R.UHFCn_STAT] <;> omega

theorem ust (h : Powered d e) (n : Nat) : e.ust n = d.ust n := Dev.fld_eq_of_reg (h.stat n)

end Dev.Powered

/-! ### The measurement taken (R198 to R200) -/

/-- At a turnaround: in RX with no window open. -/
def Dev.atTurn (d : Dev) (n : Nat) : Bool := d.ust n == Ust.rx && !(d.uhfc n).att.any (·.awaiting.isSome)

theorem Dev.atTurn_iff {d : Dev} {n : Nat} : d.atTurn n = true ↔ d.ust n = Ust.rx ∧ ∀ a, (d.uhfc n).att = some a → a.awaiting = none := by
  unfold Dev.atTurn
  cases h : (d.uhfc n).att <;> simp

/-- The chains' output settled before the measurement. -/
def Dev.settledPower (d : Dev) (n : Nat) : Dev := d.forEach (d.uhfTeam n) (Dev.powerStep (if d.atTurn n then 2 else 6))

/-- The measurement shown: the weights at a turnaround by small steps. -/
def Dev.measured (d : Dev) (n : Nat) (turn : Bool) (leak resid : BitVec 8) (ci cq : BitVec 10) : Dev :=
  let now (f : Fld) (w : BitVec 10) : Nat := if turn then trackWeight (BitVec.ofNat 10 (d.fld f)) w else w.toNat
  let d := (d.setFld (F.UHFCn_CANC_CI n) (now (F.UHFCn_CANC_CI n) ci)).setFld (F.UHFCn_CANC_CQ n) (now (F.UHFCn_CANC_CQ n) cq)
  let d := (d.setFld (F.UHFCn_LEAK_LEAK n) leak.toNat).setFld (F.UHFCn_LEAK_RESID n) resid.toNat
  d.setFld (F.UHFCn_LEAK_SUPPR n) ((leak.toInt - resid.toInt).toNat)

/-- What the residual asks for. -/
def Dev.judgedResidual (d : Dev) (n : Nat) (high turn : Bool) : Dev :=
  if (d.uhfc n).untrained then
    if high then
      match (d.uhfc n).att with
      | some a => d.uhfFailBare n a Code.UHF_LEAK_HIGH
      | none => d
    else (d.onUhf n fun u => { u with untrained := false, paFails := 0 }).setFlag (F.UHFCn_STAT_TRAINED n) true
  else if high && turn then ((d.teamCw n).untrain n).bump (F.UHFCn_CNT_RETRAIN n) 1
  else d

theorem Dev.trainingEnd_of {d : Dev} {n : Nat} (h : d.ust n = Ust.cw ∨ d.atTurn n = true) (leak resid : BitVec 8) (ci cq : BitVec 10) :
    d.trainingEnd n leak resid ci cq =
      (((d.settledPower n).measured n (d.atTurn n) leak resid ci cq).judgedResidual n (decide (resid.toInt > -40)) (d.atTurn n)) := by
  have hrow : d.trainingEnd n leak resid ci cq = if d.ust n != Ust.cw && !d.atTurn n then d
      else ((d.settledPower n).measured n (d.atTurn n) leak resid ci cq).judgedResidual n (decide (resid.toInt > -40)) (d.atTurn n) := rfl
  rw [hrow]
  exact if_neg (by rcases h with h | h <;> simp [h])

theorem Dev.trainingEnd_idle {d : Dev} {n : Nat} (hcw : d.ust n ≠ Ust.cw) (hturn : d.atTurn n = false) (leak resid : BitVec 8) (ci cq : BitVec 10) :
    d.trainingEnd n leak resid ci cq = d := if_pos (by rw [← Dev.atTurn, hturn]; simpa using hcw)

theorem trackWeight_lt (old new : BitVec 10) : trackWeight old new < 2 ^ 10 := (BitVec.ofInt 10 _).isLt

theorem Dev.measured_spec (d : Dev) (n : Nat) (turn : Bool) (leak resid : BitVec 8) (ci cq : BitVec 10) :
    let e := d.measured n turn leak resid ci cq
    e.fld (F.UHFCn_LEAK_LEAK n) = leak.toNat ∧ e.fld (F.UHFCn_LEAK_RESID n) = resid.toNat ∧
    e.fld (F.UHFCn_CANC_CI n) = (if turn then trackWeight (BitVec.ofNat 10 (d.fld (F.UHFCn_CANC_CI n))) ci else ci.toNat) ∧
    e.fld (F.UHFCn_CANC_CQ n) = (if turn then trackWeight (BitVec.ofNat 10 (d.fld (F.UHFCn_CANC_CQ n))) cq else cq.toNat) ∧
    d.onlyRegs e [R.UHFCn_CANC n, R.UHFCn_LEAK n] := by
  obtain ⟨vi, hvi⟩ : ∃ v, v = if turn then trackWeight (BitVec.ofNat 10 (d.fld (F.UHFCn_CANC_CI n))) ci else ci.toNat := ⟨_, rfl⟩
  obtain ⟨vq, hvq⟩ : ∃ v, v = if turn then trackWeight (BitVec.ofNat 10 (d.fld (F.UHFCn_CANC_CQ n))) cq else cq.toNat := ⟨_, rfl⟩
  have hlt : ∀ (c : Bool) (o w : BitVec 10), (if c then trackWeight o w else w.toNat) < 2 ^ 10 := by
    intro c o w
    split
    · exact trackWeight_lt o w
    · exact w.isLt
  have hilt : vi < 2 ^ 10 := hvi ▸ hlt _ _ _
  have hqlt : vq < 2 ^ 10 := hvq ▸ hlt _ _ _
  intro e
  have he : e = ((((d.setFld (F.UHFCn_CANC_CI n) vi).setFld (F.UHFCn_CANC_CQ n) vq).setFld (F.UHFCn_LEAK_LEAK n) leak.toNat).setFld
      (F.UHFCn_LEAK_RESID n) resid.toNat).setFld (F.UHFCn_LEAK_SUPPR n) ((leak.toInt - resid.toInt).toNat) := by rw [hvi, hvq]; rfl
  clear_value e
  rw [← hvi, ← hvq, he]
  have hne : ∀ m, 0x40C + 0x80 * m ≠ 0x40B + 0x80 * m := fun m => by omega
  refine ⟨?_, ?_, ?_, ?_, ?_⟩
  · refine (Dev.fld_setFld_other (.inr (.inr (Nat.le_of_ble_eq_true rfl))) (Nat.le_of_ble_eq_true rfl)).trans ?_
    refine (Dev.fld_setFld_other (.inr (.inr (Nat.le_of_ble_eq_true rfl))) (Nat.le_of_ble_eq_true rfl)).trans ?_
    exact Dev.fld_setFld_small (Nat.le_of_ble_eq_true rfl) leak.isLt
  · refine (Dev.fld_setFld_other (.inr (.inr (Nat.le_of_ble_eq_true rfl))) (Nat.le_of_ble_eq_true rfl)).trans ?_
    exact Dev.fld_setFld_small (Nat.le_of_ble_eq_true rfl) resid.isLt
  · refine (Dev.fld_setFld_other (.inl (hne n).symm) (Nat.le_of_ble_eq_true rfl)).trans ?_
    refine (Dev.fld_setFld_other (.inl (hne n).symm) (Nat.le_of_ble_eq_true rfl)).trans ?_
    refine (Dev.fld_setFld_other (.inl (hne n).symm) (Nat.le_of_ble_eq_true rfl)).trans ?_
    refine (Dev.fld_setFld_other (.inr (.inr (Nat.le_of_ble_eq_true rfl))) (Nat.le_of_ble_eq_true rfl)).trans ?_
    exact Dev.fld_setFld_small (Nat.le_of_ble_eq_true rfl) hilt
  · refine (Dev.fld_setFld_other (.inl (hne n).symm) (Nat.le_of_ble_eq_true rfl)).trans ?_
    refine (Dev.fld_setFld_other (.inl (hne n).symm) (Nat.le_of_ble_eq_true rfl)).trans ?_
    refine (Dev.fld_setFld_other (.inl (hne n).symm) (Nat.le_of_ble_eq_true rfl)).trans ?_
    exact Dev.fld_setFld_small (Nat.le_of_ble_eq_true rfl) hqlt
  · exact ((((Dev.onlyRegs_refl d [R.UHFCn_CANC n, R.UHFCn_LEAK n]).fld (f := F.UHFCn_CANC_CI n) (List.mem_cons_self ..)).fld (f := F.UHFCn_CANC_CQ n) (List.mem_cons_self ..)).fld
      (f := F.UHFCn_LEAK_LEAK n) (List.mem_cons_of_mem _ (List.mem_cons_self ..))).fld (f := F.UHFCn_LEAK_RESID n) (List.mem_cons_of_mem _ (List.mem_cons_self ..))
      |>.fld (f := F.UHFCn_LEAK_SUPPR n) (List.mem_cons_of_mem _ (List.mem_cons_self ..))

theorem Dev.RadioOnly.uhfFailBare {d e : Dev} {n : Nat} {a : UhfAttempt} {code : Nat} (h : d.RadioOnly e) : d.RadioOnly (e.uhfFailBare n a code) :=
  h.uhfFinish.carriers ((CarrierOnly.refl _).applyAfter.pauseIdle)

/-- The quiet fields that what a residual asks for leaves: all but those of CNT. -/
theorem Dev.judgedResidual_quiet (d : Dev) (n : Nat) (high turn : Bool) {g : Fld} (hg : quietFld g) (hcnt : g.addr ≠ R.UHFCn_CNT n) :
    (d.judgedResidual n high turn).fld g = d.fld g := by
  have hrefl := Dev.RadioOnly.refl d
  unfold Dev.judgedResidual
  split
  · split
    · split
      · exact hrefl.uhfFailBare.flds g hg
      · rfl
    · exact (hrefl.onUhf.carriers ((Dev.CarrierOnly.refl _).setFlag loud_chain)).flds g hg
  split
  · exact (Dev.fld_bump_other (.inl hcnt) hg.1).trans ((Dev.CarrierOnly.refl d).teamCw.untrain.flds g hg)
  · rfl

/-- What is measured shows, whatever follows. -/
theorem Dev.trainingEnd_shows {d : Dev} {n : Nat} (h : d.ust n = Ust.cw ∨ d.atTurn n = true) (leak resid : BitVec 8) (ci cq : BitVec 10) :
    let x := d.trainingEnd n leak resid ci cq
    x.fld (F.UHFCn_LEAK_LEAK n) = leak.toNat ∧ x.fld (F.UHFCn_LEAK_RESID n) = resid.toNat ∧
    x.fld (F.UHFCn_CANC_CI n) = (if d.atTurn n then trackWeight (BitVec.ofNat 10 ((d.settledPower n).fld (F.UHFCn_CANC_CI n))) ci else ci.toNat) ∧
    x.fld (F.UHFCn_CANC_CQ n) = (if d.atTurn n then trackWeight (BitVec.ofNat 10 ((d.settledPower n).fld (F.UHFCn_CANC_CQ n))) cq else cq.toNat) := by
  obtain ⟨hleak, hresid, hci, hcq, -⟩ := (d.settledPower n).measured_spec n (d.atTurn n) leak resid ci cq
  have hkeep : ∀ c : Nat, c = 0x40B ∨ c = 0x40C → ∀ hi lo, hi < 32 →
      (((d.settledPower n).measured n (d.atTurn n) leak resid ci cq).judgedResidual n (decide (resid.toInt > -40)) (d.atTurn n)).fld ⟨c + 0x80 * n, hi, lo⟩ =
        ((d.settledPower n).measured n (d.atTurn n) leak resid ci cq).fld ⟨c + 0x80 * n, hi, lo⟩ := by
    intro c hc hi lo hhi
    refine Dev.judgedResidual_quiet _ n _ _ ⟨hhi, .inl ?_⟩ ?_
    · simp only [quietOffset]
      omega
    · simp only [R.UHFCn_CNT]
      omega
  intro x
  have hx := d.trainingEnd_of h leak resid ci cq
  change x = _ at hx
  clear_value x
  rw [hx]
  exact ⟨(hkeep 0x40C (.inr rfl) 31 24 (by decide)).trans hleak, (hkeep 0x40C (.inr rfl) 23 16 (by decide)).trans hresid,
    (hkeep 0x40B (.inl rfl) 31 22 (by decide)).trans hci, (hkeep 0x40B (.inl rfl) 19 10 (by decide)).trans hcq⟩

/-- The measurement leaves the chains' work, their states and their counts. -/
theorem Dev.settledMeasured_spec (d : Dev) (n : Nat) (leak resid : BitVec 8) (ci cq : BitVec 10) :
    let e := (d.settledPower n).measured n (d.atTurn n) leak resid ci cq
    (∀ m, e.ust m = d.ust m) ∧ (∀ m, m < 2 → e.uhfc m = { d.uhfc m with out := (e.uhfc m).out }) ∧ e.reg (R.UHFCn_CNT n) = d.reg (R.UHFCn_CNT n) := by
  have hpower : d.Powered (d.settledPower n) := (Dev.Powered.refl d).powerSteps (if d.atTurn n then 2 else 6) (d.uhfTeam n)
  obtain ⟨-, -, -, -, hframe⟩ := (d.settledPower n).measured_spec n (d.atTurn n) leak resid ci cq
  generalize d.settledPower n = y at *
  generalize y.measured n (d.atTurn n) leak resid ci cq = z at *
  have huhf : ∀ m, z.uhfc m = y.uhfc m := fun m => (congrArg (fun x : Dev => x.uhfc m) hframe.1 :)
  have hreg : ∀ c m, c % 0x80 ≠ 0x0B → c % 0x80 ≠ 0x0C → z.reg (c + 0x80 * m) = y.reg (c + 0x80 * m) := by
    intro c m hB hC
    refine hframe.2 _ fun h => ?_
    simp only [R.UHFCn_CANC, R.UHFCn_LEAK, List.mem_cons, List.not_mem_nil, or_false] at h
    omega
  refine ⟨fun m => ?_, fun m hm => ?_, ?_⟩
  · exact (Dev.fld_eq_of_reg (hreg 0x401 m (by decide) (by decide))).trans (hpower.ust m)
  · rw [huhf]
    exact hpower.uhf m hm
  · exact (hreg 0x40E n (by decide) (by decide)).trans (hpower.regs _ (by omega) (by omega) (by omega))

theorem Dev.ust_teamCw {d : Dev} {n : Nat} (h : d.uhfOn n = true) : (d.teamCw n).ust n = Ust.cw := by
  unfold Dev.teamCw
  rw [if_pos h]
  refine Dev.forEach_keeps (P := fun x => x.ust n = Ust.cw) (d := d.setUst n Ust.cw) (Dev.ust_setUst d n (by decide)) fun x m _ hx => ?_
  by_cases hmn : m = n
  · rw [hmn]
    exact Dev.ust_setUst x n (by decide)
  · exact (Dev.ust_setUst_other x hmn).trans hx

theorem Dev.uhfc_untrain (d : Dev) {n : Nat} (hn : n < 2) : (d.untrain n).uhfc n = { d.uhfc n with untrained := true } :=
  (Dev.uhfc_setFlag ..).trans (Dev.uhfc_onUhf (f := fun u => { u with untrained := true }) hn)

/-- A low residual of an untrained chain: it is trained. -/
theorem Dev.judgedResidual_trained {d : Dev} {n : Nat} (hn : n < 2) (hun : (d.uhfc n).untrained = true) (turn : Bool) : let e := d.judgedResidual n false turn
    (e.uhfc n).untrained = false ∧ (e.uhfc n).paFails = 0 ∧ e.flag (F.UHFCn_STAT_TRAINED n) = true ∧ e.ust n = d.ust n ∧ (e.uhfc n).att = (d.uhfc n).att := by
  have hz : d.judgedResidual n false turn = (d.onUhf n fun u => { u with untrained := false, paFails := 0 }).setFlag (F.UHFCn_STAT_TRAINED n) true := by
    unfold Dev.judgedResidual
    rw [if_pos hun, if_neg Bool.false_ne_true]
  have hself := Dev.uhfc_onUhf (d := d) (f := fun u => { u with untrained := false, paFails := 0 }) hn
  have hust := Dev.ust_onUhf d n n fun u => { u with untrained := false, paFails := 0 }
  generalize (d.onUhf n fun u => { u with untrained := false, paFails := 0 }) = y at *
  intro e
  change e = _ at hz
  clear_value e
  rw [hz, Dev.uhfc_setFlag, hself]
  exact ⟨rfl, rfl, Dev.flag_setFlag rfl (Nat.le_of_ble_eq_true rfl), (Dev.ust_setFld_apart (.inr (.inr (Nat.le_of_ble_eq_true rfl)))).trans hust, rfl⟩

/-- A high residual at a turnaround of a trained chain: CW, and it is to be trained again. -/
theorem Dev.judgedResidual_retrain {d : Dev} {n : Nat} (hn : n < 2) (hun : (d.uhfc n).untrained = false) (hon : d.uhfOn n = true) : let e := d.judgedResidual n true true
    (e.uhfc n).untrained = true ∧ e.flag (F.UHFCn_STAT_TRAINED n) = false ∧ e.ust n = Ust.cw ∧ (e.uhfc n).att = (d.uhfc n).att ∧
      e.fld (F.UHFCn_CNT_RETRAIN n) = satAdd (2 ^ ((F.UHFCn_CNT_RETRAIN n).hi + 1 - (F.UHFCn_CNT_RETRAIN n).lo) - 1) (d.fld (F.UHFCn_CNT_RETRAIN n)) 1 := by
  have hz : d.judgedResidual n true true = ((d.teamCw n).untrain n).bump (F.UHFCn_CNT_RETRAIN n) 1 := by
    unfold Dev.judgedResidual
    rw [if_neg (by simp [hun])]
    exact if_pos rfl
  have hust := Dev.ust_teamCw hon
  have hcarrier := (Dev.CarrierOnly.refl d).teamCw (n := n)
  generalize d.teamCw n = y at *
  have hself : (y.untrain n).uhfc n = { y.uhfc n with untrained := true } := y.uhfc_untrain hn
  have hust' := (y.ust_untrain n n).trans hust
  have htrained : (y.untrain n).flag (F.UHFCn_STAT_TRAINED n) = false := Dev.flag_setFlag rfl (Nat.le_of_ble_eq_true rfl)
  have hcarrier' := (Dev.CarrierOnly.refl y).untrain (n := n)
  generalize y.untrain n = z at *
  have hquiet : quietFld (F.UHFCn_CNT_RETRAIN n) := ⟨Nat.le_of_ble_eq_true rfl, .inl (by simp only [quietOffset, F.UHFCn_CNT_RETRAIN]; omega)⟩
  have hcount := Dev.fld_bump (d := z) (f := F.UHFCn_CNT_RETRAIN n) (k := 1) hquiet.1
  rw [hcarrier'.flds _ hquiet, hcarrier.flds _ hquiet] at hcount
  intro e
  change e = _ at hz
  clear_value e
  rw [hz, Dev.uhfc_bump, hself]
  refine ⟨rfl, ?_, (Dev.ust_setFld_offset 0x40E n rfl (by decide)).trans hust', ?_, ?_⟩
  · have hne : (F.UHFCn_STAT_TRAINED n).addr ≠ (F.UHFCn_CNT_RETRAIN n).addr := by
      simp only [F.UHFCn_STAT_TRAINED, F.UHFCn_CNT_RETRAIN]
      omega
    exact (Dev.flag_eq_of_fld (Dev.fld_bump_other (.inl hne) (Nat.le_of_ble_eq_true rfl))).trans htrained
  · exact (congrArg UhfChain.att (hcarrier.uhf n hn) :)
  · exact hcount

/-- A high residual of an untrained chain ends its attempt. -/
theorem Dev.judgedResidual_ends {d : Dev} {n : Nat} {a : UhfAttempt} (hun : (d.uhfc n).untrained = true) (ha : (d.uhfc n).att = some a) (turn : Bool) :
    d.judgedResidual n true turn = d.uhfFailBare n a Code.UHF_LEAK_HIGH := by
  unfold Dev.judgedResidual
  rw [if_pos hun, if_pos rfl, ha]

theorem Dev.judgedResidual_trainedCw {d : Dev} {n : Nat} (hun : (d.uhfc n).untrained = false) (high : Bool) : d.judgedResidual n high false = d := by
  unfold Dev.judgedResidual
  rw [if_neg (by simp [hun])]
  exact if_neg (by simp)

/-! ### The die temperature (R186) -/

theorem Dev.showCal_tempNow (d : Dev) (n : Nat) : (d.showCal n).fld (F.UHFCn_SYN_STAT_TEMP_NOW n) = d.fld (F.UHFCn_SYN_STAT_TEMP_NOW n) := by
  have hne : ∀ c, c ≠ 0x405 → (0x405 : Nat) + 0x80 * n ≠ c + 0x80 * n := fun c h => by omega
  unfold Dev.showCal
  extract_lets m x
  have hx : x.fld (F.UHFCn_SYN_STAT_TEMP_NOW n) = d.fld (F.UHFCn_SYN_STAT_TEMP_NOW n) :=
    (Dev.fld_setFld_other (.inl (hne 0x407 (by decide))) (Nat.le_of_ble_eq_true rfl)).trans
      (Dev.fld_setFld_other (.inl (hne 0x406 (by decide))) (Nat.le_of_ble_eq_true rfl))
  clear_value x
  split
  · refine (Dev.fld_setFld_other (.inr (.inl (Nat.le_of_ble_eq_true rfl))) (Nat.le_of_ble_eq_true rfl)).trans ?_
    exact (Dev.fld_setFld_other (.inr (.inr (Nat.le_of_ble_eq_true rfl))) (Nat.le_of_ble_eq_true rfl)).trans hx
  · exact (Dev.fld_setFld_other (.inr (.inr (Nat.le_of_ble_eq_true rfl))) (Nat.le_of_ble_eq_true rfl)).trans hx

/-- The temperature shown on one chain. -/
def Dev.sampledOn (d : Dev) (t : BitVec 8) (n : Nat) : Dev := (d.setFld (F.UHFCn_SYN_STAT_TEMP_NOW n) t.toNat).showCal n

theorem Dev.sampledOn_spec (d : Dev) (t : BitVec 8) (n : Nat) : let e := d.sampledOn t n
    d.onlyRegs e [R.UHFCn_CALMAP_HI n, R.UHFCn_CALMAP_LO n, R.UHFCn_SYN_STAT n] ∧ e.fld (F.UHFCn_SYN_STAT_TEMP_NOW n) = t.toNat := by
  have hframe := (d.setFld (F.UHFCn_SYN_STAT_TEMP_NOW n) t.toNat).showCal_frame n
  refine ⟨⟨hframe.1, fun a ha => (hframe.2 a ha).trans (Dev.reg_setFld_other fun h => ha ?_)⟩, (Dev.showCal_tempNow _ n).trans ?_⟩
  · rw [h]
    exact List.mem_cons_of_mem _ (List.mem_cons_of_mem _ (List.mem_cons_self ..))
  · exact Dev.fld_setFld_small (Nat.le_of_ble_eq_true rfl) t.isLt

theorem Dev.sampleTemp_spec (d : Dev) (t : BitVec 8) : let x := d.sampleTemp t
    x.dieTemp = t.toInt ∧ (∀ n, n < 2 → x.fld (F.UHFCn_SYN_STAT_TEMP_NOW n) = t.toNat) ∧
    d.onlyRegs x [R.UHFCn_SYN_STAT 0, R.UHFCn_SYN_STAT 1, R.UHFCn_CALMAP_HI 0, R.UHFCn_CALMAP_HI 1, R.UHFCn_CALMAP_LO 0, R.UHFCn_CALMAP_LO 1] := by
  obtain ⟨hframe0, hnow0⟩ := d.sampledOn_spec t 0
  have hx : d.sampleTemp t = (d.sampledOn t 0).sampledOn t 1 := rfl
  intro x
  change x = _ at hx
  clear_value x
  generalize d.sampledOn t 0 = y at *
  obtain ⟨hframe1, hnow1⟩ := y.sampledOn_spec t 1
  rw [← hx] at hframe1 hnow1
  have hzero : x.fld (F.UHFCn_SYN_STAT_TEMP_NOW 0) = t.toNat := (Dev.fld_eq_of_reg (hframe1.2 _ (by decide))).trans hnow0
  refine ⟨?_, fun n hn => ?_, ?_, fun a ha => ?_⟩
  · rw [Dev.dieTemp, hzero, toSigned, BitVec.ofNat_toNat, BitVec.setWidth_eq]
  · obtain rfl | rfl : n = 0 ∨ n = 1 := by omega
    · exact hzero
    · exact hnow1
  · obtain ⟨r, hr⟩ : ∃ r, y = { d with regs := r } := ⟨_, hframe0.1⟩
    have hrest := hframe1.1
    rw [hr] at hrest
    exact hrest
  · exact (hframe1.2 a fun h => ha (by simp at h ⊢; tauto)).trans (hframe0.2 a fun h => ha (by simp at h ⊢; tauto))

/-- Settles O54: what shows (`Dev.trainingEnd_shows`), what the residual asks for (`Dev.judgedResidual`), and the sample of the temperature. -/
theorem cancellerAndTemperature : Obligations.CancellerAndTemperature := by
  unfold Obligations.CancellerAndTemperature
  intro s hrun
  refine ⟨fun n leak resid ci cq => ?_, fun t => completes_onLive (·.sampleTemp t) hrun rfl (s.dev.sampleTemp_spec t)⟩
  intro turn ends
  have hends : ∀ {p : Dev → Prop}, p (s.dev.trainingEnd n leak resid ci cq) → ends p := fun h => completes_onLive (·.trainingEnd n leak resid ci cq) hrun rfl h
  have hturn : s.dev.atTurn n = true ↔ turn := Dev.atTurn_iff
  have hcond : s.dev.ust n = Ust.cw ∨ turn → s.dev.ust n = Ust.cw ∨ s.dev.atTurn n = true := Or.imp_right hturn.2
  have hcwturn : s.dev.ust n = Ust.cw → s.dev.atTurn n = false := fun h => by simp [Dev.atTurn, h, Ust.cw, Ust.rx]
  have hn : n.val < 2 := n.isLt
  obtain ⟨hust, huhf, hcnt⟩ := s.dev.settledMeasured_spec n leak resid ci cq
  have hshows := fun h => s.dev.trainingEnd_shows (n := n) h leak resid ci cq
  have hrow := fun h => s.dev.trainingEnd_of (n := n) h leak resid ci cq
  have huhfn := huhf n hn
  refine ⟨fun h => ?_, fun h => ?_, fun h halone => ?_, fun h hresid hun => ?_, fun hresid hun => ⟨fun h => ?_, fun h => ?_⟩, fun a h hresid hun ha hheld => ?_,
    fun hcw hnot => ?_⟩
  · obtain ⟨hleak, hres, -⟩ := hshows (hcond h)
    exact hends ⟨hleak, hres⟩
  · obtain ⟨-, -, hci, hcq⟩ := hshows (.inl h)
    rw [hcwturn h] at hci hcq
    exact hends ⟨hci, hcq⟩
  · obtain ⟨-, -, hci, hcq⟩ := hshows (.inr (hturn.2 h))
    have hpower : s.dev.settledPower n = s.dev.powerStep 2 n := by
      unfold Dev.settledPower
      rw [hturn.2 h, if_pos rfl]
      exact Dev.forTeam_alone halone.1 _
    rw [hturn.2 h, hpower] at hci hcq
    exact hends ⟨hci, hcq⟩
  · have hrest := hrow (hcond h)
    rw [show decide (resid.toInt > -40) = false by simpa using hresid] at hrest
    generalize (s.dev.settledPower n).measured n (s.dev.atTurn n) leak resid ci cq = z at *
    obtain ⟨htrained, hfails, hflag, hstate, hatt⟩ := Dev.judgedResidual_trained (d := z) hn (by rw [huhfn]; exact hun) (s.dev.atTurn n)
    rw [← hrest] at htrained hfails hflag hstate hatt
    exact hends ⟨htrained, hfails, hflag, hstate.trans (hust n), hatt.trans (by rw [huhfn])⟩
  · have hrest := hrow (.inr (hturn.2 h))
    rw [hturn.2 h, show decide (resid.toInt > -40) = true by simpa using hresid] at hrest
    rw [hturn.2 h] at huhfn hust hcnt
    generalize (s.dev.settledPower n).measured n true leak resid ci cq = z at *
    obtain ⟨htrained, hflag, hstate, hatt, hcount⟩ := Dev.judgedResidual_retrain (d := z) hn (by rw [huhfn]; exact hun)
      (Dev.uhfOn_iff.2 (by rw [hust, h.1]; decide))
    rw [← hrest] at htrained hflag hstate hatt hcount
    rw [Dev.fld_eq_of_reg (g := F.UHFCn_CNT_RETRAIN n) hcnt] at hcount
    exact hends ⟨htrained, hflag, hstate, hatt.trans (by rw [huhfn]), hcount⟩
  · have hrest := hrow (.inl h)
    rw [hcwturn h] at hrest huhfn
    generalize (s.dev.settledPower n).measured n false leak resid ci cq = z at *
    rw [Dev.judgedResidual_trainedCw (by rw [huhfn]; exact hun)] at hrest
    refine hends ?_
    rw [hrest, huhfn]
    exact ⟨hun, rfl⟩
  · have hrest := hrow (hcond h)
    rw [show decide (resid.toInt > -40) = true by simpa using hresid] at hrest
    generalize (s.dev.settledPower n).measured n (s.dev.atTurn n) leak resid ci cq = z at *
    rw [Dev.judgedResidual_ends (by rw [huhfn]; exact hun) (by rw [huhfn]; exact ha)] at hrest
    refine hends ?_
    rw [hrest]
    have hended := Dev.uhfEnded_of_fail (Dev.uhfFailBare_ended (d := z) (code := Code.UHF_LEAK_HIGH) hn hheld)
    rw [Dev.uhfEnded] at hended ⊢
    rw [huhfn] at hended
    exact hended
  · refine hends ?_
    rw [Dev.trainingEnd_idle hcw (Bool.eq_false_iff.2 fun h => hnot (hturn.1 h))]

end Sys2Proof.Machine
end

section
/-!
PROOFS. Channel changes, lock, loss of lock and port changes (R176, R181, R186, R187, R255 to R258).
-/

namespace Sys2Proof.Machine

open Sys2Proof

-- one proof after another: the check bounds the memory that the stacks of parallel proofs take
set_option Elab.async false

/-! ### Synthesisers that set out (R186) -/

/-- A chain whose synthesiser has set out: its tuning and training alone. -/
def UhfChain.retuned (u v : UhfChain) : Prop :=
  v = { u with tuning := v.tuning, tuneFrom := v.tuneFrom, tuneUs := v.tuneUs, tuneCal := v.tuneCal, untrained := v.untrained }

theorem Dev.tuneTo_spec (d : Dev) {n : Nat} (hn : n < 2) (c : Nat) : let e := d.tuneTo n c
    (e.uhfc n).tuning = some c ∧ (e.uhfc n).tuneFrom = d.time ∧ (d.uhfc n).retuned (e.uhfc n) ∧
    e.flag (F.UHFCn_STAT_LOCKED n) = false ∧ e.flag (F.UHFCn_STAT_CALIBRATING n) = true ∧ e.flag (F.UHFCn_STAT_TRAINED n) = false ∧ e.ust n = d.ust n ∧
    (∀ m, m < 2 → m ≠ n → e.uhfc m = d.uhfc m) ∧ e = { d with regs := e.regs, uhf := e.uhf } ∧ ∀ a, a ≠ R.UHFCn_STAT n → e.reg a = d.reg a := by
  obtain ⟨y, hy⟩ : ∃ y, y = (d.setFlag (F.UHFCn_STAT_LOCKED n) false).setFlag (F.UHFCn_STAT_CALIBRATING n) true := ⟨_, rfl⟩
  obtain ⟨f, hto, hf⟩ : ∃ f : UhfChain → UhfChain, d.tuneTo n c = (y.onUhf n f).untrain n ∧
      ∀ u, (f u).tuning = some c ∧ (f u).tuneFrom = y.time ∧ u.retuned (f u) := by
    rw [hy]
    refine ⟨_, rfl, fun u => ⟨?_, ?_, ?_⟩⟩
    all_goals rfl
  have hfrom : y.time = d.time := by rw [hy]; rfl
  have hyflags : y.flag (F.UHFCn_STAT_LOCKED n) = false ∧ y.flag (F.UHFCn_STAT_CALIBRATING n) = true ∧ y.ust n = d.ust n := by
    rw [hy]
    refine ⟨?_, Dev.flag_setFlag rfl (Nat.le_of_ble_eq_true rfl), ?_⟩
    · exact (Dev.flag_setFlag_other (.inr (.inr (Nat.le_of_ble_eq_true rfl))) (Nat.le_of_ble_eq_true rfl)).trans (Dev.flag_setFlag rfl (Nat.le_of_ble_eq_true rfl))
    · exact (Dev.ust_setFld_apart (.inr (.inr (Nat.le_of_ble_eq_true rfl)))).trans (Dev.ust_setFld_apart (.inr (.inr (Nat.le_of_ble_eq_true rfl))))
  have hyrest : y = { d with regs := y.regs } ∧ ∀ a, a ≠ R.UHFCn_STAT n → y.reg a = d.reg a := by
    rw [hy]
    exact ⟨rfl, fun a ha => (Dev.reg_setFld_other ha).trans (Dev.reg_setFld_other ha)⟩
  have hyuhf : ∀ m, y.uhfc m = d.uhfc m := fun m => by rw [hy]; rfl
  clear hy
  obtain ⟨hlocked, hcalib, hust⟩ := hyflags
  have hself := Dev.uhfc_onUhf (d := y) (f := f) hn
  have hother := fun m hm hne => Dev.uhfc_onUhf_other (d := y) (f := f) (n := n) (m := m) hm hne
  have hzreg : ∀ a, (y.onUhf n f).reg a = y.reg a := fun _ => rfl
  have hzrest : y.onUhf n f = { d with regs := (y.onUhf n f).regs, uhf := (y.onUhf n f).uhf } := by
    obtain ⟨r, hr⟩ : ∃ r, y = { d with regs := r } := ⟨_, hyrest.1⟩
    rw [hr]
    rfl
  have hzfld : ∀ g, (y.onUhf n f).fld g = y.fld g := fun _ => rfl
  intro e
  change e = _ at hto
  clear_value e
  generalize y.onUhf n f = z at *
  have hzflag : ∀ g, z.flag g = y.flag g := fun g => Dev.flag_eq_of_fld (hzfld g)
  have heself : e.uhfc n = { z.uhfc n with untrained := true } := hto ▸ z.uhfc_untrain hn
  have heflag : ∀ g : Fld, g.hi < 32 → 18 < g.lo → e.flag g = z.flag g := fun g h32 hlo => by
    rw [hto]
    exact Dev.flag_setFlag_other (.inr (.inr hlo)) h32
  obtain ⟨htuning, hfromf, hretuned⟩ := hf (y.uhfc n)
  refine ⟨?_, ?_, ?_, ?_, ?_, ?_, ?_, fun m hm hne => ?_, ?_, fun a ha => ?_⟩
  · rw [heself, hself, htuning]
  · rw [heself, hself, hfromf, hfrom]
  · rw [UhfChain.retuned] at hretuned ⊢
    rw [heself, hself, ← hyuhf]
    dsimp only
    rw [hretuned]
  · exact (heflag _ (Nat.le_of_ble_eq_true rfl) (Nat.le_of_ble_eq_true rfl)).trans ((hzflag _).trans hlocked)
  · exact (heflag _ (Nat.le_of_ble_eq_true rfl) (Nat.le_of_ble_eq_true rfl)).trans ((hzflag _).trans hcalib)
  · rw [hto]
    exact Dev.flag_setFlag rfl (Nat.le_of_ble_eq_true rfl)
  · rw [hto, Dev.ust_untrain]
    exact (hzfld _).trans hust
  · rw [hto]
    exact (Dev.uhfc_setFlag ..).trans ((Dev.uhfc_onUhf_other hm hne).trans ((hother m hm hne).trans (hyuhf m)))
  · obtain ⟨r, u, hr⟩ : ∃ r u, z = { d with regs := r, uhf := u } := ⟨_, _, hzrest⟩
    rw [hto, hr]
    rfl
  · rw [hto]
    exact (Dev.reg_setFld_other ha).trans ((hzreg a).trans (hyrest.2 a ha))

/-! ### The governor's next channel (R255) -/

/-- The governor's next channel: its place in the sequence has moved, and a permutation may have been drawn. -/
theorem Dev.nextChannel_frame {d x : Dev} {n c : Nat} (h : d.nextChannel n = some (c, x)) :
    x = { d with gov := { d.gov with perm := x.gov.perm, pos := x.gov.pos }, freeCtr := x.freeCtr } := by
  have seek {y : Dev} (hy : y = { d with gov := { d.gov with perm := y.gov.perm, pos := y.gov.pos }, freeCtr := y.freeCtr }) {l : List Nat} {b : Nat} {z : Nat × Dev}
      (hz : (((l.zip (List.range l.length)).find? fun x => y.chanOk n x.1).map fun x =>
        (x.1, { y with gov := { y.gov with pos := b + x.2 + 1 } })) = some z) :
      z.2 = { d with gov := { d.gov with perm := z.2.gov.perm, pos := z.2.gov.pos }, freeCtr := z.2.freeCtr } := by
    obtain ⟨w, -, rfl⟩ := Option.map_eq_some_iff.1 hz
    obtain ⟨p, q, k, hshape⟩ : ∃ p q k, y = { d with gov := { d.gov with perm := p, pos := q }, freeCtr := k } := ⟨_, _, _, hy⟩
    rw [hshape]
  have hrefl : d = { d with gov := { d.gov with perm := d.gov.perm, pos := d.gov.pos }, freeCtr := d.freeCtr } := rfl
  have hmoved {y : Dev} (hy : y = { d with gov := { d.gov with perm := y.gov.perm, pos := y.gov.pos }, freeCtr := y.freeCtr }) (b : Nat) :
      { y with gov := { y.gov with pos := b } } = { d with
        gov := { d.gov with perm := y.gov.perm, pos := b }, freeCtr := y.freeCtr } := by
    obtain ⟨p, q, k, hshape⟩ : ∃ p q k, y = { d with gov := { d.gov with perm := p, pos := q }, freeCtr := k } := ⟨_, _, _, hy⟩
    rw [hshape]
  have hdraw : d.drawPerm = { d with gov := { d.gov with perm := d.drawPerm.gov.perm, pos := d.drawPerm.gov.pos }, freeCtr := d.drawPerm.freeCtr } := rfl
  simp only [Dev.nextChannel] at h
  split at h
  · split at h
    next r hr =>
      obtain rfl := Option.some.inj h
      exact seek hrefl hr
    · split at h
      · cases h
      · refine seek (z := (c, x)) ?_ h
        split
        · exact hdraw
        · rfl
  · split at h
    next r hr =>
      obtain ⟨-, rfl⟩ := Prod.mk.inj (Option.some.inj h)
      exact hmoved (seek hrefl hr) _
    · obtain ⟨z, hz, hzx⟩ := Option.map_eq_some_iff.1 h
      obtain ⟨-, rfl⟩ := Prod.mk.inj hzx
      exact hmoved (seek hrefl hz) _

/-! ### Channel changes (R181, R190, R255 to R258) -/

/-- A chain on its way to a channel, the hot standby with it. -/
def Dev.setOut (d : Dev) (n c : Nat) : Dev :=
  let e := ((d.radioPop n).unhold n).tuneTo n c
  match e.uhfStandby with
  | some s => if s = n then e else e.tuneTo s c
  | none => e

theorem Dev.uhfc_radioPop (d : Dev) {n : Nat} (hn : n < 2) : (d.radioPop n).uhfc n = { d.uhfc n with
    queue := (d.uhfc n).queue.drop 1 ++ ((d.uhfc n).backlog.take 1).map fun c => (c, d.time), backlog := (d.uhfc n).backlog.drop 1 } := by
  rw [Dev.radioPop, Dev.uhfc_showQueue, Dev.uhfc_onUhf hn]

/-- The chain is on its way: what shows, what it has taken from its queue, and what stays. -/
theorem Dev.setOut_spec (d : Dev) {n : Nat} (hn : n < 2) (c : Nat) : let e := d.setOut n c
    (e.uhfc n).tuning = some c ∧ (e.uhfc n).tuneFrom = d.time ∧ e.flag (F.UHFCn_STAT_LOCKED n) = false ∧ e.flag (F.UHFCn_STAT_CALIBRATING n) = true ∧
    e.flag (F.UHFCn_STAT_TRAINED n) = false ∧ e.ust n = d.ust n ∧ (e.uhfc n).queue = d.popped n ∧ e.gov = d.gov := by
  have hpop := d.uhfc_radioPop hn
  obtain ⟨y, hy⟩ : ∃ y, y = (d.radioPop n).unhold n := ⟨_, rfl⟩
  have hyuhf : y.uhfc n = (d.radioPop n).uhfc n := by rw [hy, Dev.uhfc_unhold]
  have hytime : y.time = d.time ∧ y.gov = d.gov := by rw [hy]; exact ⟨rfl, rfl⟩
  have hyust : y.ust n = d.ust n := by
    rw [hy]
    exact ((Dev.AtWork.refl n d).radioPop.unhold (m := n)).ust n hn
  obtain ⟨htuning, hfrom, hretuned, hlocked, hcalib, htrained, hust, -, hrest, -⟩ := y.tuneTo_spec hn c
  have hdef : d.setOut n c = match (y.tuneTo n c).uhfStandby with
      | some s => if s = n then y.tuneTo n c else (y.tuneTo n c).tuneTo s c
      | none => y.tuneTo n c := by rw [hy]; rfl
  clear hy
  generalize y.tuneTo n c = z at *
  have hqueue : (z.uhfc n).queue = d.popped n := by
    rw [hretuned]
    exact (congrArg UhfChain.queue (hyuhf.trans hpop) :)
  have hz : (z.uhfc n).tuning = some c ∧ (z.uhfc n).tuneFrom = d.time ∧ z.flag (F.UHFCn_STAT_LOCKED n) = false ∧ z.flag (F.UHFCn_STAT_CALIBRATING n) = true ∧
      z.flag (F.UHFCn_STAT_TRAINED n) = false ∧ z.ust n = d.ust n ∧ (z.uhfc n).queue = d.popped n ∧ z.gov = d.gov :=
    ⟨htuning, hfrom.trans hytime.1, hlocked, hcalib, htrained, hust.trans hyust, hqueue, (congrArg Dev.gov hrest :).trans hytime.2⟩
  intro e
  change e = _ at hdef
  clear_value e
  split at hdef
  next s hs =>
    have hs2 : s < 2 := by
      have hmem := List.mem_of_find?_eq_some hs
      simp only [List.mem_cons, List.not_mem_nil, or_false] at hmem
      omega
    split at hdef
    · rw [hdef]
      exact hz
    next hsn =>
      obtain ⟨-, -, -, -, -, -, -, hothers, hrest', hregs⟩ := z.tuneTo_spec hs2 c
      rw [← hdef] at hothers hrest' hregs
      have hreg : e.reg (R.UHFCn_STAT n) = z.reg (R.UHFCn_STAT n) := hregs _ (by simp only [R.UHFCn_STAT]; omega)
      have hflag : ∀ hi lo, e.flag ⟨R.UHFCn_STAT n, hi, lo⟩ = z.flag ⟨R.UHFCn_STAT n, hi, lo⟩ := fun hi lo => Dev.flag_eq_of_fld (Dev.fld_eq_of_reg hreg)
      obtain ⟨h1, h2, h3, h4, h5, h6, h7, h8⟩ := hz
      rw [hothers n hn (Ne.symm hsn)]
      exact ⟨h1, h2, (hflag 20 20).trans h3, (hflag 19 19).trans h4, (hflag 18 18).trans h5,
        (Dev.fld_eq_of_reg (g := F.UHFCn_STAT_STATE n) hreg).trans h6, h7, (congrArg Dev.gov hrest' :).trans h8⟩
  · rw [hdef]
    exact hz

/-- Where a channel change goes: the governor's next channel, or the one named where it is not masked or is allowed. -/
def Dev.channelPick (d : Dev) (n k : Nat) : Option (Nat × Dev) :=
  if k = 0xFF then d.nextChannel n else if !bit d.limits.chmask k || d.chanOk n k then some (k, d) else none

theorem Dev.channelChange_of {d : Dev} {n k t : Nat} (hhead : d.radioHead n = some (.channel k, t)) (hust : d.ust n ≠ Ust.off) (halone : d.uhfAlone n) (hn : n < 2) :
    d.channelChange n = match ((d.rampDown n).endOcc n).channelPick n k with
      | none => (d.rampDown n).hold n
      | some (c, x) => x.setOut n c := by
  obtain ⟨hpartner, -, happlying⟩ := halone
  have hcarrier := (Dev.CarrierOnly.refl d).rampDown (n := n)
  have hteam : (d.rampDown n).forEach (d.uhfTeam n) Dev.endOcc = (d.rampDown n).endOcc n := Dev.forTeam_alone hpartner _
  have hgroup : ∀ g, ((d.rampDown n).endOcc n).applyGroup g = (d.rampDown n).endOcc n := by
    intro g
    have hnone : ((d.rampDown n).endOcc n).applying = [] := (congrArg Dev.applying hcarrier.rest :).trans happlying
    rw [Dev.applyGroup, hnone]
    rfl
  have hpartner' : (((d.rampDown n).endOcc n).uhfc n).partner = none := (congrArg UhfChain.partner (hcarrier.uhf n hn) :).trans hpartner
  have hpick : ∀ c x, ((d.rampDown n).endOcc n).channelPick n k = some (c, x) →
      (x.uhfc n).partner = none := by
    intro c x hx
    rw [Dev.channelPick] at hx
    split at hx
    · have hshape := Dev.nextChannel_frame hx
      exact (congrArg (fun y : Dev => (y.uhfc n).partner) hshape :).trans hpartner'
    · split at hx
      · obtain ⟨-, rfl⟩ := Prod.mk.inj (Option.some.inj hx)
        exact hpartner'
      · exact nomatch hx
  unfold Dev.channelChange
  rw [hhead]
  dsimp only
  rw [if_neg hust, hteam, hgroup]
  cases hpicked : ((d.rampDown n).endOcc n).channelPick n k with
  | none =>
    rw [Dev.channelPick] at hpicked
    rw [hpicked]
  | some z =>
    obtain ⟨c, x⟩ := z
    have hpartner'' := hpick c x hpicked
    rw [Dev.channelPick] at hpicked
    rw [hpicked]
    dsimp only
    rw [Dev.forTeam_alone hpartner'']
    rfl

/-- A carrier taken down on a chain that works alone. -/
theorem Dev.rampDown_off {d : Dev} {n : Nat} (hn : n < 2) (hpartner : (d.uhfc n).partner = none) : (d.rampDown n).uhfOn n = false := by
  refine Dev.uhfOn_eq_false_iff.2 ?_
  rw [d.ust_rampDown n hn, Dev.uhfTeam_alone hpartner]
  split
  · decide
  next h => exact Dev.uhfOn_eq_false_iff.1 (Bool.eq_false_iff.2 fun hon => h ⟨List.mem_singleton.2 rfl, hon⟩)

/-- A hold leaves the chains, the governor's occupations and every chain's state. -/
theorem Dev.hold_spec (d : Dev) {n : Nat} (hn : n < 2) : let e := d.hold n
    e.flag (if n = 0 then F.GOV_STAT_HOLD0 else F.GOV_STAT_HOLD1) = true ∧ (∀ m, m < 2 → e.ust m = d.ust m) ∧ e.uhf = d.uhf ∧ e.gov = d.gov ∧
      e = { d with regs := e.regs } := by
  obtain ⟨f, hf⟩ : ∃ f, f = if n = 0 then F.GOV_STAT_HOLD0 else F.GOV_STAT_HOLD1 := ⟨_, rfl⟩
  have hfacts : f.addr = R.GOV_STAT ∧ f.hi = f.lo ∧ f.hi < 32 := by
    rw [hf]
    split <;> exact ⟨rfl, rfl, by decide⟩
  obtain ⟨haddr, hone, h32⟩ := hfacts
  have hne : f.addr ≠ F.GOV_CNT_HOLD.addr := by
    rw [haddr]
    decide
  intro e
  have he : e = if d.flag f then d else (d.setFlag f true).bump F.GOV_CNT_HOLD 1 := by rw [hf]; rfl
  clear_value e
  rw [← hf]
  split at he
  next h =>
    rw [he]
    exact ⟨h, fun _ _ => rfl, rfl, rfl, rfl⟩
  · rw [he]
    refine ⟨?_, fun m hm => ?_, rfl, rfl, rfl⟩
    · exact (Dev.flag_eq_of_fld (Dev.fld_bump_other (.inl hne) h32)).trans (Dev.flag_setFlag hone h32)
    · refine (Dev.ust_setFld_of_addr ?_).trans (Dev.ust_setFld_of_addr ?_)
      · simp only [R.UHFCn_STAT, F.GOV_CNT_HOLD]
        omega
      · rw [haddr]
        simp only [R.UHFCn_STAT, R.GOV_STAT]
        omega

section
variable {d : Dev} {n k t : Nat} (hn : n < 2) (hhead : d.radioHead n = some (.channel k, t)) (hust : d.ust n ≠ Ust.off) (halone : d.uhfAlone n)
include hn hhead hust halone

/-- A channel change that has a channel to go to. -/
theorem Dev.channelChange_sets {c : Nat} {x : Dev} (hx : x = { (d.rampDown n).endOcc n with
      gov := { ((d.rampDown n).endOcc n).gov with perm := x.gov.perm, pos := x.gov.pos }, freeCtr := x.freeCtr })
    (hpick : ((d.rampDown n).endOcc n).channelPick n k = some (c, x)) :
    let e := d.channelChange n
    (e.uhfc n).tuning = some c ∧ (e.uhfc n).tuneFrom = d.time ∧ e.flag (F.UHFCn_STAT_LOCKED n) = false ∧ e.flag (F.UHFCn_STAT_CALIBRATING n) = true ∧
      e.flag (F.UHFCn_STAT_TRAINED n) = false ∧ e.uhfOn n = false ∧ e.occ n = none ∧ (e.uhfc n).queue = d.popped n := by
  have hrow := Dev.channelChange_of hhead hust halone hn
  rw [hpick] at hrow
  have hcarrier := (Dev.CarrierOnly.refl d).rampDown (n := n)
  have hoff := Dev.rampDown_off hn halone.1
  generalize d.rampDown n = y at *
  have hgst : (y.endOcc n).ust n = y.ust n := Dev.ust_showOcc _ n hn
  have hgocc := Dev.occ_endOcc (d := y) hn
  have hguhf : (y.endOcc n).uhfc n = y.uhfc n ∧ (y.endOcc n).time = y.time := ⟨rfl, rfl⟩
  generalize y.endOcc n = g at *
  obtain ⟨htuning, hfrom, hlocked, hcalib, htrained, hstate, hqueue, hgov⟩ := x.setOut_spec hn c
  have hxg : x.uhfc n = g.uhfc n ∧ x.time = g.time ∧ x.ust n = g.ust n ∧ x.occ n = g.occ n :=
    ⟨(congrArg (fun z : Dev => z.uhfc n) hx :), (congrArg Dev.time hx :), (congrArg (fun z : Dev => z.ust n) hx :), (congrArg (fun z : Dev => z.occ n) hx :)⟩
  obtain ⟨hxuhf, hxtime, hxust, hxocc⟩ := hxg
  have htime : x.time = d.time := hxtime.trans (hguhf.2.trans (congrArg Dev.time hcarrier.rest :))
  intro e
  change e = _ at hrow
  clear_value e
  rw [hrow]
  refine ⟨htuning, hfrom.trans htime, hlocked, hcalib, htrained, ?_, ?_, hqueue.trans ?_⟩
  · exact (Dev.uhfOn_congr (hstate.trans (hxust.trans hgst))).trans hoff
  · exact (congrArg (fun v : Gov => v.occ.getD n none) hgov).trans (hxocc.trans hgocc)
  · rw [Dev.popped, Dev.popped, htime, hxuhf, hguhf.1, hcarrier.uhf n hn]

/-- A channel change that the governor holds. -/
theorem Dev.channelChange_holds (hpick : ((d.rampDown n).endOcc n).channelPick n k = none) :
    let e := d.channelChange n
    e.flag (if n = 0 then F.GOV_STAT_HOLD0 else F.GOV_STAT_HOLD1) = true ∧ e.uhfOn n = false ∧ e.occ n = (d.rampDown n).occ n ∧
      e.uhfc n = (d.rampDown n).uhfc n ∧ (e.uhfc n).queue = (d.uhfc n).queue := by
  have hrow := Dev.channelChange_of hhead hust halone hn
  rw [hpick] at hrow
  have hcarrier := (Dev.CarrierOnly.refl d).rampDown (n := n)
  have hoff := Dev.rampDown_off hn halone.1
  generalize d.rampDown n = y at *
  obtain ⟨hflag, hstate, huhf, hgov, -⟩ := y.hold_spec hn
  have hself : (y.hold n).uhfc n = y.uhfc n := congrArg (fun l : List UhfChain => l.getD n {}) huhf
  intro e
  change e = _ at hrow
  clear_value e
  dsimp only at hrow
  rw [hrow]
  refine ⟨hflag, (Dev.uhfOn_congr (hstate n hn)).trans hoff, congrArg (fun v : Gov => v.occ.getD n none) hgov, hself, ?_⟩
  rw [hself, hcarrier.uhf n hn]

end

end Sys2Proof.Machine
end

section
/-!
PROOFS. Lock, loss of lock and port changes (R176, R181, R186, R187).
-/

namespace Sys2Proof.Machine

open Sys2Proof

-- one proof after another: the check bounds the memory that the stacks of parallel proofs take
set_option Elab.async false

/-! ### Lock (R181, R186, R187) -/

/-- A chain locked on a channel, with the calibration its tuning leaves. -/
def UhfChain.locked (u : UhfChain) (c : Nat) : UhfChain :=
  { u with
    tuning := none, tuneCal := none, cal := match u.tuneCal with
      | some e => u.cal.filter (·.index != c) ++ [e]
      | none => u.cal }

/-- The lock shown. -/
def Dev.showLock (d : Dev) (n c us : Nat) : Dev :=
  let d := ((d.setFlag (F.UHFCn_STAT_LOCKED n) true).setFlag (F.UHFCn_STAT_CALIBRATING n) false).setFld (F.UHFCn_STAT_CH_INDEX n) c
  let d := if d.ust n = Ust.standby then d.setUst n Ust.ready else d
  (d.setFld (F.UHFCn_SYN_STAT_LOCK_US n) (min 255 us)).showCal n

theorem Dev.showCal_lockUs (d : Dev) (n : Nat) : (d.showCal n).fld (F.UHFCn_SYN_STAT_LOCK_US n) = d.fld (F.UHFCn_SYN_STAT_LOCK_US n) := by
  have hne : ∀ c, c ≠ 0x405 → (0x405 : Nat) + 0x80 * n ≠ c + 0x80 * n := fun c h => by omega
  unfold Dev.showCal
  extract_lets m x
  have hx : x.fld (F.UHFCn_SYN_STAT_LOCK_US n) = d.fld (F.UHFCn_SYN_STAT_LOCK_US n) :=
    (Dev.fld_setFld_other (.inl (hne 0x407 (by decide))) (Nat.le_of_ble_eq_true rfl)).trans
      (Dev.fld_setFld_other (.inl (hne 0x406 (by decide))) (Nat.le_of_ble_eq_true rfl))
  clear_value x
  split
  · refine (Dev.fld_setFld_other (.inr (.inr (Nat.le_of_ble_eq_true rfl))) (Nat.le_of_ble_eq_true rfl)).trans ?_
    exact (Dev.fld_setFld_other (.inr (.inr (Nat.le_of_ble_eq_true rfl))) (Nat.le_of_ble_eq_true rfl)).trans hx
  · exact (Dev.fld_setFld_other (.inr (.inr (Nat.le_of_ble_eq_true rfl))) (Nat.le_of_ble_eq_true rfl)).trans hx

theorem Dev.showLock_spec (d : Dev) {n c : Nat} (hc : c < 64) (us : Nat) : let e := d.showLock n c us
    e.ust n = (if d.ust n = Ust.standby then Ust.ready else d.ust n) ∧ e.flag (F.UHFCn_STAT_LOCKED n) = true ∧ e.flag (F.UHFCn_STAT_CALIBRATING n) = false ∧
    e.fld (F.UHFCn_STAT_CH_INDEX n) = c ∧ e.fld (F.UHFCn_SYN_STAT_LOCK_US n) = min 255 us ∧ e = { d with regs := e.regs } := by
  unfold Dev.showLock
  extract_lets x y z
  have hx : x.ust n = d.ust n ∧ x.flag (F.UHFCn_STAT_LOCKED n) = true ∧ x.flag (F.UHFCn_STAT_CALIBRATING n) = false ∧ x.fld (F.UHFCn_STAT_CH_INDEX n) = c ∧
      x = { d with regs := x.regs } := by
    refine ⟨?_, ?_, ?_, Dev.fld_setFld_small (Nat.le_of_ble_eq_true rfl) hc, rfl⟩
    · refine (Dev.ust_setFld_apart (.inr (.inr (Nat.le_of_ble_eq_true rfl)))).trans ?_
      exact (Dev.ust_setFld_apart (.inr (.inr (Nat.le_of_ble_eq_true rfl)))).trans (Dev.ust_setFld_apart (.inr (.inr (Nat.le_of_ble_eq_true rfl))))
    · refine (Dev.flag_eq_of_fld (Dev.fld_setFld_other (.inr (.inr (Nat.le_of_ble_eq_true rfl))) (Nat.le_of_ble_eq_true rfl))).trans ?_
      exact (Dev.flag_setFlag_other (.inr (.inr (Nat.le_of_ble_eq_true rfl))) (Nat.le_of_ble_eq_true rfl)).trans (Dev.flag_setFlag rfl (Nat.le_of_ble_eq_true rfl))
    · refine (Dev.flag_eq_of_fld (Dev.fld_setFld_other (.inr (.inr (Nat.le_of_ble_eq_true rfl))) (Nat.le_of_ble_eq_true rfl))).trans ?_
      exact Dev.flag_setFlag rfl (Nat.le_of_ble_eq_true rfl)
  clear_value x
  obtain ⟨hxust, hxlocked, hxcalib, hxch, hxrest⟩ := hx
  have hy : y.ust n = (if d.ust n = Ust.standby then Ust.ready else d.ust n) ∧ y.flag (F.UHFCn_STAT_LOCKED n) = true ∧ y.flag (F.UHFCn_STAT_CALIBRATING n) = false ∧
      y.fld (F.UHFCn_STAT_CH_INDEX n) = c ∧ y = { d with regs := y.regs } := by
    unfold y
    rw [← hxust]
    split
    · refine ⟨Dev.ust_setUst x n (by decide), ?_, ?_, ?_, ?_⟩
      · exact (Dev.flag_eq_of_fld (Dev.fld_setFld_other (.inr (.inl (Nat.le_of_ble_eq_true rfl))) (Nat.le_of_ble_eq_true rfl))).trans hxlocked
      · exact (Dev.flag_eq_of_fld (Dev.fld_setFld_other (.inr (.inl (Nat.le_of_ble_eq_true rfl))) (Nat.le_of_ble_eq_true rfl))).trans hxcalib
      · exact (Dev.fld_setFld_other (.inr (.inl (Nat.le_of_ble_eq_true rfl))) (Nat.le_of_ble_eq_true rfl)).trans hxch
      · obtain ⟨r, hr⟩ : ∃ r, x = { d with regs := r } := ⟨_, hxrest⟩
        rw [hr]
        rfl
    · exact ⟨rfl, hxlocked, hxcalib, hxch, hxrest⟩
  clear_value y
  obtain ⟨hust, hlocked, hcalib, hch, hrest⟩ := hy
  have hstat : ((y.setFld (F.UHFCn_SYN_STAT_LOCK_US n) (min 255 us)).showCal n).reg (R.UHFCn_STAT n) = y.reg (R.UHFCn_STAT n) := by
    refine ((Dev.showCal_frame _ n).2 _ ?_).trans (Dev.reg_setFld_other ?_)
    · simp only [R.UHFCn_STAT, R.UHFCn_CALMAP_HI, R.UHFCn_CALMAP_LO, R.UHFCn_SYN_STAT, List.mem_cons, List.not_mem_nil, or_false]
      omega
    · simp only [R.UHFCn_STAT, F.UHFCn_SYN_STAT_LOCK_US]
      omega
  have hlock : ((y.setFld (F.UHFCn_SYN_STAT_LOCK_US n) (min 255 us)).showCal n).fld (F.UHFCn_SYN_STAT_LOCK_US n) = min 255 us := by
    refine (Dev.showCal_lockUs _ n).trans (Dev.fld_setFld_small (Nat.le_of_ble_eq_true rfl) ?_)
    exact Nat.lt_of_le_of_lt (Nat.min_le_left _ _) (Nat.le_of_ble_eq_true rfl)
  have hcal := ((y.setFld (F.UHFCn_SYN_STAT_LOCK_US n) (min 255 us)).showCal_frame n).1
  change z.reg _ = _ at hstat
  change z.fld _ = _ at hlock
  change z = _ at hcal
  clear_value z
  refine ⟨(Dev.fld_eq_of_reg (g := F.UHFCn_STAT_STATE n) hstat).trans hust, ?_, ?_, (Dev.fld_eq_of_reg (g := F.UHFCn_STAT_CH_INDEX n) hstat).trans hch, hlock, ?_⟩
  · exact (Dev.flag_eq_of_fld (Dev.fld_eq_of_reg (g := F.UHFCn_STAT_LOCKED n) hstat)).trans hlocked
  · exact (Dev.flag_eq_of_fld (Dev.fld_eq_of_reg (g := F.UHFCn_STAT_CALIBRATING n) hstat)).trans hcalib
  · obtain ⟨r, hr⟩ : ∃ r, y = { d with regs := r } := ⟨_, hrest⟩
    obtain ⟨r', hr'⟩ : ∃ r', z = { y with regs := r' } := ⟨_, hcal⟩
    rw [hr', hr]

/-- The instant of a lock. -/
def Dev.lockAt (d : Dev) (n us : Nat) : Nat :=
  (d.uhfc n).tuneFrom + lockTime (d.uhfc n).tuneUs us + (if d.ust n = Ust.standby then 8 else 0)

theorem Dev.synthLock_of {d : Dev} {n c us : Nat} (h : (d.uhfc n).tuning = some c) : ∃ (f : Fld) (v : Nat), f.addr = R.UHFCn_QSTAT n ∧
    (d.synthLock n us = (((d.reach (d.lockAt n us)).onUhf n (·.locked c)).showLock n c (lockTime (d.uhfc n).tuneUs us)).raiseTo f v ∨
      d.synthLock n us = ((d.reach (d.lockAt n us)).onUhf n (·.locked c)).showLock n c (lockTime (d.uhfc n).tuneUs us)) := by
  have hrow : d.synthLock n us = (fun e : Dev => match e.radioHead (e.uhfMaster n) with
      | some (.carrierOn, t) | some (.packet _ _ _, t) => e.raiseTo (F.UHFCn_QSTAT_WAIT_MAX n) (e.time - t)
      | _ => e) (((d.reach (d.lockAt n us)).onUhf n (·.locked c)).showLock n c (lockTime (d.uhfc n).tuneUs us)) := by
    unfold Dev.synthLock
    rw [h] <;> rfl
  rw [hrow]
  dsimp only
  split
  · exact ⟨F.UHFCn_QSTAT_WAIT_MAX n, _, rfl, .inl rfl⟩
  · exact ⟨F.UHFCn_QSTAT_WAIT_MAX n, _, rfl, .inl rfl⟩
  · exact ⟨F.UHFCn_QSTAT_WAIT_MAX n, 0, rfl, .inr rfl⟩

theorem Dev.synthLock_spec {d : Dev} {n c us : Nat} (hn : n < 2) (hrun : d.phase = .running) (h : (d.uhfc n).tuning = some c) (hc : c < 64) : let x := d.synthLock n us
    (x.uhfc n).tuning = none ∧ x.ust n = (if d.ust n = Ust.standby then Ust.ready else d.ust n) ∧ x.flag (F.UHFCn_STAT_LOCKED n) = true ∧
    x.flag (F.UHFCn_STAT_CALIBRATING n) = false ∧ x.fld (F.UHFCn_STAT_CH_INDEX n) = c ∧ x.fld (F.UHFCn_SYN_STAT_LOCK_US n) = min 255 (lockTime (d.uhfc n).tuneUs us) ∧
    (d.time < 2 ^ 64 → d.lockAt n us < 2 ^ 64 → d.lockAt n us ≤ x.time) ∧
    (x.uhfc n).cal = match (d.uhfc n).tuneCal with
      | some e => (d.uhfc n).cal.filter (·.index != c) ++ [e]
      | none => (d.uhfc n).cal := by
  have htime := fun hd ht => Dev.reach_time (d := d) (t := d.lockAt n us) hrun ht hd
  obtain ⟨f, v, hf, hrow⟩ := Dev.synthLock_of (us := us) h
  have hself := Dev.uhfc_onUhf (d := d.reach (d.lockAt n us)) (f := (·.locked c)) hn
  have hust : ((d.reach (d.lockAt n us)).onUhf n (·.locked c)).ust n = d.ust n := rfl
  have hytime : ((d.reach (d.lockAt n us)).onUhf n (·.locked c)).time = (d.reach (d.lockAt n us)).time := rfl
  have hreach : (d.reach (d.lockAt n us)).uhfc n = d.uhfc n := rfl
  rw [hreach] at hself
  generalize (d.reach (d.lockAt n us)).onUhf n (·.locked c) = y at *
  obtain ⟨hstate, hlocked, hcalib, hch, hlock, hrest⟩ := y.showLock_spec (n := n) hc (lockTime (d.uhfc n).tuneUs us)
  generalize y.showLock n c (lockTime (d.uhfc n).tuneUs us) = z at *
  have hx : ∀ x, x = z.raiseTo f v ∨ x = z → x.uhfc n = z.uhfc n ∧ x.time = z.time ∧ x.reg (R.UHFCn_STAT n) = z.reg (R.UHFCn_STAT n) ∧
      x.reg (R.UHFCn_SYN_STAT n) = z.reg (R.UHFCn_SYN_STAT n) := by
    rintro x (rfl | rfl)
    · refine ⟨rfl, rfl, Dev.reg_setFld_other ?_, Dev.reg_setFld_other ?_⟩
      all_goals
        rw [hf]
        simp only [R.UHFCn_STAT, R.UHFCn_SYN_STAT, R.UHFCn_QSTAT]
        omega
    · exact ⟨rfl, rfl, rfl, rfl⟩
  intro x
  obtain ⟨hxuhf, hxtime, hxstat, hxsyn⟩ := hx x hrow
  clear_value x
  have hzuhf : z.uhfc n = (d.uhfc n).locked c := (congrArg (fun w : Dev => w.uhfc n) hrest :).trans hself
  rw [hxuhf, hzuhf]
  refine ⟨rfl, ?_, ?_, ?_, ?_, ?_, fun hd ht => ?_, rfl⟩
  · rw [← hust]
    exact (Dev.fld_eq_of_reg (g := F.UHFCn_STAT_STATE n) hxstat).trans hstate
  · exact (Dev.flag_eq_of_fld (Dev.fld_eq_of_reg (g := F.UHFCn_STAT_LOCKED n) hxstat)).trans hlocked
  · exact (Dev.flag_eq_of_fld (Dev.fld_eq_of_reg (g := F.UHFCn_STAT_CALIBRATING n) hxstat)).trans hcalib
  · exact (Dev.fld_eq_of_reg (g := F.UHFCn_STAT_CH_INDEX n) hxstat).trans hch
  · exact (Dev.fld_eq_of_reg (g := F.UHFCn_SYN_STAT_LOCK_US n) hxsyn).trans hlock
  · rw [hxtime, (congrArg Dev.time hrest :), hytime, htime hd ht]
    exact Nat.le_max_right _ _

/-! ### Loss of lock (R187) -/

/-- A chain with no lock whose head waits for it: what is counted, and what is dropped. -/
def Dev.unlocked (d : Dev) (n t : Nat) : Dev := (d.reach (t + 200)).bump (F.UHFCn_CNT_UNLOCK n) 1

theorem Dev.synthUnlock_of {d : Dev} {n c t : Nat} {h : RadioCmd} (hmaster : (d.uhfc n).master = true) (htuning : (d.uhfc n).tuning = some c)
    (hhead : d.radioHead n = some (h, t)) (hh : h = .carrierOn ∨ ∃ p b k, h = .packet p b k) : d.synthUnlock n = match ((d.unlocked n t).uhfc n).att with
      | some a => (d.unlocked n t).uhfFinish n { a with rx := none } ((d.unlocked n t).uhfFrame n { a with rx := none } [] [] Code.SYNTH_UNLOCK 0 0 0 true)
      | none => (d.unlocked n t).radioClear n := by
  unfold Dev.synthUnlock
  rw [Dev.uhfMaster_alone hmaster]
  dsimp only
  rw [htuning, hhead]
  obtain rfl | ⟨p, b, k, rfl⟩ := hh <;> rfl

theorem Dev.synthUnlock_spec {d : Dev} {n c t : Nat} {h : RadioCmd} (hn : n < 2) (hrun : d.phase = .running) (hmaster : (d.uhfc n).master = true)
    (htuning : (d.uhfc n).tuning = some c) (hhead : d.radioHead n = some (h, t)) (hh : h = .carrierOn ∨ ∃ p b k, h = .packet p b k)
    (htime : d.time < 2 ^ 64) (hend : t + 200 < 2 ^ 64) (hheld : ∀ a, (d.uhfc n).att = some a → a.held = none) : let x := d.synthUnlock n
    t + 200 ≤ x.time ∧ (x.uhfc n).tuning = some c ∧ (x.uhfc n).queue = [] ∧ x.fld (F.UHFCn_CNT_UNLOCK n) = satAdd 255 (d.fld (F.UHFCn_CNT_UNLOCK n)) 1 ∧
      ((d.uhfc n).att ≠ none → d.uhfEnded x n Code.SYNTH_UNLOCK) := by
  have hquiet : quietFld (F.UHFCn_CNT_UNLOCK n) := ⟨Nat.le_of_ble_eq_true rfl, .inl (by simp only [quietOffset, F.UHFCn_CNT_UNLOCK]; omega)⟩
  have hrow := Dev.synthUnlock_of hmaster htuning hhead hh
  have hreach := Dev.reach_time hrun hend htime
  have hytime : (d.unlocked n t).time = (d.reach (t + 200)).time := rfl
  have hyuhf : (d.unlocked n t).uhfc n = d.uhfc n := rfl
  have hycount : (d.unlocked n t).fld (F.UHFCn_CNT_UNLOCK n) = satAdd 255 (d.fld (F.UHFCn_CNT_UNLOCK n)) 1 :=
    Dev.fld_bump (d := d.reach (t + 200)) (f := F.UHFCn_CNT_UNLOCK n) hquiet.1
  generalize d.unlocked n t = y at *
  intro x
  change x = _ at hrow
  clear_value x
  have hle : t + 200 ≤ y.time := by
    rw [hytime, hreach]
    exact Nat.le_max_right _ _
  split at hrow
  next a ha =>
    have hheld' : ({ a with rx := none } : UhfAttempt).held = none := hheld a (hyuhf ▸ ha)
    have hself := Dev.uhfc_uhfFinish (d := y) (f := y.uhfFrame n { a with rx := none } [] [] Code.SYNTH_UNLOCK 0 0 0 true) hn hheld'
    have hended : Dev.Ended n (y.uhfFrame n { a with rx := none } [] [] Code.SYNTH_UNLOCK 0 0 0 true) y
      (y.uhfFinish n { a with rx := none } (y.uhfFrame n { a with rx := none } [] [] Code.SYNTH_UNLOCK 0 0 0 true)) := .of_uhfFinish hn hheld'
    rw [← hrow] at hself hended
    have hxtime : x.time = y.time := (congrArg Dev.time hended.radio.rest :)
    refine ⟨hxtime ▸ hle, ?_, ?_, (hended.radio.flds _ hquiet).trans hycount, fun _ => ?_⟩
    · rw [hself]
      exact (congrArg UhfChain.tuning hyuhf).trans htuning
    · rw [hself]
      rfl
    · have hend' := Dev.uhfEnded_of_fail hended
      rw [Dev.uhfEnded, hyuhf] at hend'
      exact hend'
  next hnone =>
    have hradio := (Dev.RadioOnly.refl y).radioClear (n := n)
    have hself := y.uhfc_radioClear hn
    rw [← hrow] at hradio hself
    have hxtime : x.time = y.time := (congrArg Dev.time hradio.rest :)
    refine ⟨hxtime ▸ hle, ?_, ?_, (hradio.flds _ hquiet).trans hycount, fun h => absurd (hyuhf ▸ hnone) h⟩
    · rw [hself]
      exact (congrArg UhfChain.tuning hyuhf).trans htuning
    · rw [hself]

/-! ### Port changes (R174 to R176) -/

/-- Every address but those that a chain's carrier coming down writes. -/
structure apartFromRamp (n a : Nat) : Prop where
  stat : a ≠ R.UHFCn_STAT n
  pa : a ≠ R.UHFCn_PA n
  power : a ≠ R.UHFCn_POWER n
  port : ∀ q, a ≠ R.UHFPn_STAT q
  gov : a ≠ R.GOV_STAT
  steer : a ≠ R.UHF_STEER
  coex : a ≠ R.COEX_STAT

theorem Dev.reg_onUhf (d : Dev) (n : Nat) (f : UhfChain → UhfChain) (a : Nat) : (d.onUhf n f).reg a = d.reg a := rfl

section
variable {d : Dev} {n a v : Nat} (ha : apartFromRamp n a)
include ha

theorem Dev.reg_rampOff_apart : (d.rampOff n).reg a = d.reg a := by
  unfold Dev.rampOff
  dsimp only
  split
  · refine Dev.reg_setFld_other ?_
    split <;> exact ha.gov
  · rfl

theorem Dev.reg_setUst_apart : (d.setUst n v).reg a = d.reg a := Dev.reg_setFld_other ha.stat

theorem Dev.reg_setPaen_apart {b : Bool} : (d.setFlag (F.UHFCn_PA_PAEN n) b).reg a = d.reg a := Dev.reg_setFld_other ha.pa

theorem Dev.reg_setPabias_apart : (d.setFld (F.UHFCn_PA_PABIAS n) v).reg a = d.reg a := Dev.reg_setFld_other ha.pa

theorem Dev.reg_setDrive_apart : (d.setFld (F.UHFCn_PA_DRIVE n) v).reg a = d.reg a := Dev.reg_setFld_other ha.pa

theorem Dev.reg_setMeas_apart : (d.setFld (F.UHFCn_POWER_MEAS n) v).reg a = d.reg a := Dev.reg_setFld_other ha.power

theorem Dev.reg_setActive_apart {p : Nat} {b : Bool} : (d.setFlag (F.UHFPn_STAT_ACTIVE p) b).reg a = d.reg a := Dev.reg_setFld_other (ha.port p)

theorem Dev.reg_rampDown1 : (d.rampDown1 n).reg a = d.reg a := by
  unfold Dev.rampDown1
  extract_lets x y z
  have hx : x.reg a = d.reg a := by rw [show x = (d.setUst n Ust.ready).rampOff n from rfl, Dev.reg_rampOff_apart ha, Dev.reg_setUst_apart ha]
  have hy : y.reg a = x.reg a := by rw [show y = (x.setFlag (F.UHFCn_PA_PAEN n) false).setFld (F.UHFCn_PA_PABIAS n) 0 from rfl,
    Dev.reg_setPabias_apart ha, Dev.reg_setPaen_apart ha]
  have hz : z.reg a = y.reg a := by
    refine (Dev.reg_onUhf ..).trans ?_
    rw [Dev.reg_setMeas_apart ha, Dev.reg_setDrive_apart ha]
  have hall : z.reg a = d.reg a := hz.trans (hy.trans hx)
  clear_value z
  split
  · rfl
  split
  · exact (Dev.reg_setActive_apart ha).trans hall
  · exact hall

end

theorem Dev.reg_rampDown {d : Dev} {n a : Nat} (hpartner : (d.uhfc n).partner = none) (ha : apartFromRamp n a) : (d.rampDown n).reg a = d.reg a := by
  unfold Dev.rampDown
  rw [Dev.forTeam_alone hpartner]
  exact (Dev.reg_showCoex ha.coex).trans ((Dev.reg_setFld_other ha.steer).trans (Dev.reg_rampDown1 ha))

theorem apartFromRamp_portCfg {n p : Nat} (hn : n < 2) (hp : p < 8) : apartFromRamp n (R.UHFPn_CFG p) := by
  constructor <;> simp only [R.UHFPn_CFG, R.UHFCn_STAT, R.UHFCn_PA, R.UHFCn_POWER, R.UHFPn_STAT, R.GOV_STAT, R.UHF_STEER, R.COEX_STAT] <;> omega

/-- A chain connected to its port, with the permit shown. -/
def Dev.connected (d : Dev) (n : Nat) : Dev := (d.connectPort n).showPermit n

theorem Dev.connected_spec (d : Dev) {n p : Nat} (hn : n < 2) (hport : (d.uhfc n).port = some p) (hp : p < 8) : let e := d.connected n
    e.fld (F.UHFCn_STAT_PORT n) = p ∧ e.flag (F.UHFCn_STAT_PORT_VALID n) = true ∧ e.flag (F.UHFCn_STAT_TRAINED n) = false ∧ e.ust n = d.ust n ∧
      (e.uhfc n).queue = (d.uhfc n).queue ∧ (profRoute (d.uhfProfile p) ≠ 0 → (e.uhfc n).antsel = profAntsel (d.uhfProfile p)) := by
  obtain ⟨y, hy⟩ : ∃ y, y = (d.setFld (F.UHFCn_STAT_PORT n) p).setFlag (F.UHFCn_STAT_PORT_VALID n) true := ⟨_, rfl⟩
  have hyfacts : y.fld (F.UHFCn_STAT_PORT n) = p ∧ y.flag (F.UHFCn_STAT_PORT_VALID n) = true ∧ y.ust n = d.ust n ∧ y.uhfc n = d.uhfc n := by
    rw [hy]
    refine ⟨?_, Dev.flag_setFlag rfl (Nat.le_of_ble_eq_true rfl), ?_, rfl⟩
    · exact (Dev.fld_setFlag_other (.inr (.inl (Nat.le_of_ble_eq_true rfl))) (Nat.le_of_ble_eq_true rfl)).trans (Dev.fld_setFld_small (Nat.le_of_ble_eq_true rfl) hp)
    · exact (Dev.ust_setFld_apart (.inr (.inr (Nat.le_of_ble_eq_true rfl)))).trans (Dev.ust_setFld_apart (.inr (.inr (Nat.le_of_ble_eq_true rfl))))
  have hrow : d.connectPort n = if profRoute (d.uhfProfile p) = 0 then y.untrain n else (y.untrain n).onUhf n fun u => { u with antsel := profAntsel (d.uhfProfile p) } := by
    unfold Dev.connectPort
    rw [hport, hy]
  obtain ⟨hyport, hyvalid, hyust, hyuhf⟩ := hyfacts
  have huntrained := y.uhfc_untrain hn
  have hzport : (y.untrain n).fld (F.UHFCn_STAT_PORT n) = p :=
    (Dev.fld_setFlag_other (.inr (.inl (Nat.le_of_ble_eq_true rfl))) (Nat.le_of_ble_eq_true rfl)).trans hyport
  have hzvalid : (y.untrain n).flag (F.UHFCn_STAT_PORT_VALID n) = true :=
    (Dev.flag_setFlag_other (.inr (.inl (Nat.le_of_ble_eq_true rfl))) (Nat.le_of_ble_eq_true rfl)).trans hyvalid
  have hztrained : (y.untrain n).flag (F.UHFCn_STAT_TRAINED n) = false := Dev.flag_setFlag rfl (Nat.le_of_ble_eq_true rfl)
  have hzust := (y.ust_untrain n n).trans hyust
  clear hy
  generalize y.untrain n = z at *
  have hw : (d.connectPort n).fld (F.UHFCn_STAT_PORT n) = p ∧ (d.connectPort n).flag (F.UHFCn_STAT_PORT_VALID n) = true ∧
      (d.connectPort n).flag (F.UHFCn_STAT_TRAINED n) = false ∧ (d.connectPort n).ust n = d.ust n ∧ ((d.connectPort n).uhfc n).queue = (d.uhfc n).queue ∧
      (profRoute (d.uhfProfile p) ≠ 0 → ((d.connectPort n).uhfc n).antsel = profAntsel (d.uhfProfile p)) := by
    rw [hrow]
    split
    next h => exact ⟨hzport, hzvalid, hztrained, hzust, by rw [huntrained, hyuhf], fun hne => absurd h hne⟩
    · have hself := Dev.uhfc_onUhf (d := z) (f := fun u => { u with antsel := profAntsel (d.uhfProfile p) }) hn
      refine ⟨hzport, hzvalid, hztrained, hzust, ?_, fun _ => ?_⟩
      · rw [hself, huntrained, hyuhf]
      · rw [hself]
  generalize hwdef : d.connectPort n = w at hw
  have hshow : ∃ v, d.connected n = w.setFld (F.UHFCn_POWER_PERMIT n) v := by
    unfold Dev.connected Dev.showPermit
    rw [hwdef]
    split
    · exact ⟨_, rfl⟩
    · exact ⟨_, rfl⟩
  obtain ⟨v, hshow⟩ := hshow
  have hreg : (w.setFld (F.UHFCn_POWER_PERMIT n) v).reg (R.UHFCn_STAT n) = w.reg (R.UHFCn_STAT n) :=
    Dev.reg_setFld_other (by simp only [R.UHFCn_STAT, F.UHFCn_POWER_PERMIT]; omega)
  obtain ⟨h1, h2, h3, h4, h5, h6⟩ := hw
  intro e
  change e = _ at hshow
  clear_value e
  rw [hshow]
  exact ⟨(Dev.fld_eq_of_reg (g := F.UHFCn_STAT_PORT n) hreg).trans h1, (Dev.flag_eq_of_fld (Dev.fld_eq_of_reg (g := F.UHFCn_STAT_PORT_VALID n) hreg)).trans h2,
    (Dev.flag_eq_of_fld (Dev.fld_eq_of_reg (g := F.UHFCn_STAT_TRAINED n) hreg)).trans h3, (Dev.fld_eq_of_reg (g := F.UHFCn_STAT_STATE n) hreg).trans h4, h5, h6⟩

theorem Dev.portChange_of {d : Dev} {n q t : Nat} (hn : n < 2) (hhead : d.radioHead n = some (.port q, t)) (hust : d.ust n ≠ Ust.off)
    (hpartner : (d.uhfc n).partner = none) : d.portChange n = ((d.rampDown n).radioPop n).connected n := by
  have hpartner' : ((d.rampDown n).uhfc n).partner = none :=
    (congrArg UhfChain.partner ((Dev.CarrierOnly.refl d).rampDown.uhf n hn) :).trans hpartner
  unfold Dev.portChange
  rw [hhead]
  dsimp only
  rw [if_neg hust, Dev.forTeam_alone hpartner', Dev.forTeam_alone hpartner']
  rfl

theorem Dev.portChange_spec {d : Dev} {n q t p : Nat} (hn : n < 2) (hhead : d.radioHead n = some (.port q, t)) (hust : d.ust n ≠ Ust.off)
    (hpartner : (d.uhfc n).partner = none) (hport : (d.uhfc n).port = some p) (hp : p < 8) : let x := d.portChange n
    x.fld (F.UHFCn_STAT_PORT n) = p ∧ x.flag (F.UHFCn_STAT_PORT_VALID n) = true ∧ x.flag (F.UHFCn_STAT_TRAINED n) = false ∧ x.uhfOn n = false ∧
      (x.uhfc n).queue = d.popped n ∧ (profRoute (d.uhfProfile p) ≠ 0 → (x.uhfc n).antsel = profAntsel (d.uhfProfile p)) := by
  have hrow := Dev.portChange_of hn hhead hust hpartner
  have hcarrier := (Dev.CarrierOnly.refl d).rampDown (n := n)
  have hoff := Dev.rampDown_off hn hpartner
  have hcfg := Dev.reg_rampDown hpartner (apartFromRamp_portCfg hn hp)
  generalize d.rampDown n = y at *
  have hpop := y.uhfc_radioPop hn
  have hust' := ((Dev.AtWork.refl n y).radioPop).ust n hn
  have hzcfg : (y.radioPop n).reg (R.UHFPn_CFG p) = y.reg (R.UHFPn_CFG p) :=
    Dev.reg_setFld_other (by simp only [R.UHFPn_CFG, F.UHFCn_QSTAT_DEPTH]; omega)
  have hztables : (y.radioPop n).tables = d.tables := (congrArg Dev.tables hcarrier.rest :)
  generalize y.radioPop n = z at *
  have hprof : z.uhfProfile p = d.uhfProfile p := by
    rw [Dev.uhfProfile, Dev.uhfProfile, Dev.profile, Dev.profile, hztables, Dev.fld_eq_of_reg (g := F.UHFPn_CFG_PROFILE p) (hzcfg.trans hcfg)]
  have hzport : (z.uhfc n).port = some p := by
    rw [hpop, hcarrier.uhf n hn]
    exact hport
  obtain ⟨h1, h2, h3, h4, h5, h6⟩ := z.connected_spec hn hzport hp
  rw [hprof] at h6
  intro x
  change x = _ at hrow
  clear_value x
  rw [hrow]
  refine ⟨h1, h2, h3, (Dev.uhfOn_congr (h4.trans hust')).trans hoff, h5.trans ?_, h6⟩
  rw [hpop, Dev.popped, (congrArg Dev.time hcarrier.rest :), hcarrier.uhf n hn]

/-- Settles O52: `Dev.channelChange_sets` and `Dev.channelChange_holds`, `Dev.synthLock_spec`, `Dev.synthUnlock_spec` and `Dev.portChange_spec`. -/
theorem synthesisers : Obligations.Synthesisers := by
  unfold Obligations.Synthesisers
  intro s n hrun
  have hn : n.val < 2 := n.isLt
  have hn0 : ((n : Fin 2) = 0) = (n.val = 0) := propext Fin.ext_iff
  refine ⟨fun k t hhead hust halone => ?_, fun hidle => ?_, fun c us htuning hc => ?_, fun c h t htuning hhead halone hh htime hend hheld => ?_, fun hnone => ⟨fun us => ?_, ?_⟩,
    fun q t p hhead hust halone hport hp => ?_, fun hidle => ?_⟩
  · intro g sets holds
    have hrow : ∀ {p : Dev → Prop}, p (s.dev.channelChange n) → completes (.radioChannelChange n) s p := fun h => completes_onLive (·.channelChange n) hrun rfl h
    have hself : g = { (s.dev.rampDown n).endOcc n with
      gov := { ((s.dev.rampDown n).endOcc n).gov with perm := g.gov.perm, pos := g.gov.pos }, freeCtr := g.freeCtr } := rfl
    refine ⟨fun hk hok => hrow ?_, fun hk hbit hno => hrow ?_, fun c d hk hnext => hrow ?_, fun hk hnext => hrow ?_⟩
    · refine Dev.channelChange_sets hn hhead hust halone hself ?_
      rw [Dev.channelPick, if_neg hk]
      exact if_pos (by rcases hok with h | h <;> simp [g] at h ⊢ <;> simp [h])
    · have hheld := Dev.channelChange_holds hn hhead hust halone (by rw [Dev.channelPick, if_neg hk]; exact if_neg (by simp [g] at hbit hno; simp [hbit, hno]))
      simp only [← hn0] at hheld
      exact hheld
    · exact Dev.channelChange_sets hn hhead hust halone (Dev.nextChannel_frame hnext) (by rw [Dev.channelPick, if_pos hk]; exact hnext)
    · have hheld := Dev.channelChange_holds hn hhead hust halone (by rw [Dev.channelPick, if_pos hk]; exact hnext)
      simp only [← hn0] at hheld
      exact hheld
  · refine completes_onLive (·.channelChange n) hrun rfl ?_
    unfold Dev.channelChange
    split
    next k t hhead =>
      rcases hidle with h | h
      · exact absurd hhead (h k t)
      · exact if_pos h
    · rfl
  · exact completes_onLive (·.synthLock n us) hrun rfl (Dev.synthLock_spec hn hrun htuning hc)
  · exact completes_onLive (·.synthUnlock n) hrun rfl (Dev.synthUnlock_spec hn hrun halone.2.1 htuning hhead hh htime hend hheld)
  · refine completes_onLive (·.synthLock n us) hrun rfl ?_
    rw [Dev.synthLock, hnone]
  · refine completes_onLive (·.synthUnlock n) hrun rfl ?_
    unfold Dev.synthUnlock
    rw [hnone]
  · exact completes_onLive (·.portChange n) hrun rfl (Dev.portChange_spec hn hhead hust halone.1 hport hp)
  · refine completes_onLive (·.portChange n) hrun rfl ?_
    unfold Dev.portChange
    split
    next q t hhead =>
      rcases hidle with h | h
      · exact absurd hhead (h q t)
      · exact if_pos h
    · rfl

end Sys2Proof.Machine
end

section
/-!
PROOFS. Carriers on and off under the governor (R181, R183, R188, R193, R194, R252 to R257, R266 to R270).
-/

namespace Sys2Proof.Machine

open Sys2Proof

-- one proof after another: the check bounds the memory that the stacks of parallel proofs take
set_option Elab.async false

/-! ### A chain that is off stays off -/

theorem Dev.toStandby_off {d : Dev} {n : Nat} (hn : n < 2) (hpartner : (d.uhfc n).partner = none) : (d.toStandby n).uhfOn n = false := by
  have hoff := Dev.rampDown_off hn hpartner
  have hpartner' : ((d.rampDown n).uhfc n).partner = none :=
    (congrArg UhfChain.partner ((Dev.CarrierOnly.refl d).rampDown.uhf n hn) :).trans hpartner
  unfold Dev.toStandby
  dsimp only
  rw [Dev.forTeam_alone hpartner']
  generalize d.rampDown n = y at *
  split
  · exact hoff
  · refine (Dev.uhfOn_congr (Dev.ust_untrain _ n n)).trans (Dev.uhfOn_eq_false_iff.2 ?_)
    refine lt_of_eq_of_lt ?_ (by decide : Ust.standby < Ust.cw)
    refine (Dev.ust_onUhf _ n n _).trans ?_
    refine (Dev.ust_setFld_apart (.inr (.inr (Nat.le_of_ble_eq_true rfl)))).trans ((Dev.ust_setFld_apart (.inr (.inr (Nat.le_of_ble_eq_true rfl)))).trans ?_)
    exact Dev.ust_setUst _ n (by decide)

theorem Dev.uhfEnd_off {d : Dev} {n : Nat} {a : UhfAttempt} {f : ResFrame} (hn : n < 2) (hpartner : (d.uhfc n).partner = none) (hheld : a.held = none)
    (hoff : d.uhfOn n = false) : (d.uhfEnd n a f).uhfOn n = false := by
  have hself := Dev.uhfc_uhfFinish (d := d) (f := f) hn hheld
  have hwork := (Dev.AtWork.refl n d).uhfFinish (a := a) (f := f)
  have hx : ((d.uhfFinish n a f).uhfc n).partner = none := by rw [hself]; exact hpartner
  have hxoff := (hwork.off hn).trans hoff
  unfold Dev.uhfEnd
  generalize d.uhfFinish n a f = x at *
  have hafter : (x.applyAfter n (uAfter a.params)).uhfOn n = false := by
    unfold Dev.applyAfter
    split
    · exact Dev.rampDown_off hn hx
    · exact Dev.toStandby_off hn hx
    · rw [Dev.teamCw, if_neg (by simp [hxoff])]
      exact hxoff
  rw [Dev.pauseIdle, if_neg (by simp [hafter])]
  exact hafter

/-! ### The ramp of a chain that works alone (R181, R188, R193, R194) -/

theorem Dev.showPermit_regs (d : Dev) (n : Nat) : d.onlyRegs (d.showPermit n) [R.UHFCn_POWER n] := by
  unfold Dev.showPermit
  split
  · exact (Dev.onlyRegs_refl d _).fld (f := F.UHFCn_POWER_PERMIT n) (List.mem_singleton.2 rfl)
  · exact (Dev.onlyRegs_refl d _).fld (f := F.UHFCn_POWER_PERMIT n) (List.mem_singleton.2 rfl)

theorem measCode_lt (x : Int) : measCode x < 2 ^ 9 := by
  unfold measCode
  omega

theorem Dev.powerReading_lt (d : Dev) (n p code : Nat) : d.powerReading n p code < 2 ^ 9 := by
  unfold Dev.powerReading
  split
  · exact measCode_lt _
  · dsimp only
    split
    · decide
    · exact measCode_lt _

theorem Dev.uhfProfile_congr {d e : Dev} {p : Nat} (htables : e.tables = d.tables) (hreg : e.reg (R.UHFPn_CFG p) = d.reg (R.UHFPn_CFG p)) :
    e.uhfProfile p = d.uhfProfile p := by
  rw [Dev.uhfProfile, Dev.uhfProfile, Dev.profile, Dev.profile, htables, Dev.fld_eq_of_reg (g := F.UHFPn_CFG_PROFILE p) hreg]

theorem Dev.powerReading_congr {d e : Dev} {n p code : Nat} (htables : e.tables = d.tables) (hreg : e.reg (R.UHFPn_CFG p) = d.reg (R.UHFPn_CFG p)) :
    e.powerReading n p code = d.powerReading n p code := by
  rw [Dev.powerReading, Dev.powerReading, Dev.uhfProfile_congr htables hreg, htables]

theorem Dev.measureRl_spec (d : Dev) (p : Nat) : let e := d.measureRl p
    e = { d with regs := e.regs, freeCtr := e.freeCtr } ∧ (∀ a, a ≠ R.UHFPn_STAT p → e.reg a = d.reg a) ∧
      e.flag (F.UHFPn_STAT_ACTIVE p) = d.flag (F.UHFPn_STAT_ACTIVE p) := by
  have hset : ∀ v, (∀ a, a ≠ R.UHFPn_STAT p → (d.setFld (F.UHFPn_STAT_RL p) v).reg a = d.reg a) ∧
      (d.setFld (F.UHFPn_STAT_RL p) v).flag (F.UHFPn_STAT_ACTIVE p) = d.flag (F.UHFPn_STAT_ACTIVE p) := fun v =>
    ⟨fun a ha => Dev.reg_setFld_other ha, Dev.flag_setFld_other (.inr (.inr (Nat.le_of_ble_eq_true rfl))) (Nat.le_of_ble_eq_true rfl)⟩
  unfold Dev.measureRl
  split
  · exact ⟨rfl, (hset _).1, (hset _).2⟩
  · exact ⟨rfl, (hset _).1, (hset _).2⟩

/-- A port that a ramp begins on: shown ACTIVE with its chain, and counted. -/
def Dev.portOn (d : Dev) (n p : Nat) : Dev := ((d.setFlag (F.UHFPn_STAT_ACTIVE p) true).setFld (F.UHFPn_STAT_CHAIN p) n).bump (F.UHFPn_CNT_ONS p) 1

theorem Dev.portOn_spec (d : Dev) (n p : Nat) : let e := d.portOn n p
    (∀ a, a ≠ R.UHFPn_STAT p → a ≠ R.UHFPn_CNT p → e.reg a = d.reg a) ∧ e.flag (F.UHFPn_STAT_ACTIVE p) = true ∧
      e.fld (F.UHFPn_CNT_ONS p) = satAdd 0xFFFF (d.fld (F.UHFPn_CNT_ONS p)) 1 ∧ e.uhf = d.uhf ∧ e.gov = d.gov := by
  have hne : (F.UHFPn_STAT_ACTIVE p).addr ≠ (F.UHFPn_CNT_ONS p).addr := by simp only [F.UHFPn_STAT_ACTIVE, F.UHFPn_CNT_ONS]; omega
  have hcnt : (F.UHFPn_CNT_ONS p).hi < 32 := Nat.le_of_ble_eq_true rfl
  have hact : (F.UHFPn_STAT_ACTIVE p).hi < 32 := Nat.le_of_ble_eq_true rfl
  have hone : (d.setFlag (F.UHFPn_STAT_ACTIVE p) true).flag (F.UHFPn_STAT_ACTIVE p) = true := Dev.flag_setFlag rfl hact
  have htwo : ((d.setFlag (F.UHFPn_STAT_ACTIVE p) true).setFld (F.UHFPn_STAT_CHAIN p) n).flag (F.UHFPn_STAT_ACTIVE p) = true :=
    (Dev.flag_setFld_other (.inr (.inr (Nat.le_of_ble_eq_true rfl))) hact).trans hone
  have hregs : ∀ a, a ≠ R.UHFPn_STAT p → ((d.setFlag (F.UHFPn_STAT_ACTIVE p) true).setFld (F.UHFPn_STAT_CHAIN p) n).reg a = d.reg a :=
    fun a ha => (Dev.reg_setFld_other ha).trans (Dev.reg_setFld_other ha)
  have hrest : ((d.setFlag (F.UHFPn_STAT_ACTIVE p) true).setFld (F.UHFPn_STAT_CHAIN p) n).uhf = d.uhf ∧
      ((d.setFlag (F.UHFPn_STAT_ACTIVE p) true).setFld (F.UHFPn_STAT_CHAIN p) n).gov = d.gov := ⟨rfl, rfl⟩
  unfold Dev.portOn
  generalize (d.setFlag (F.UHFPn_STAT_ACTIVE p) true).setFld (F.UHFPn_STAT_CHAIN p) n = y at *
  intro e
  refine ⟨fun a hstat hne' => (Dev.reg_bump_other hne').trans (hregs a hstat), ?_, ?_, hrest.1, hrest.2⟩
  · exact (Dev.flag_eq_of_fld (Dev.fld_bump_other (.inl hne) hact)).trans htwo
  · refine (Dev.fld_bump hcnt).trans ?_
    rw [Dev.fld_eq_of_reg (g := F.UHFPn_CNT_ONS p) (hregs _ hne.symm)]
    rfl

theorem Dev.rampUp1_spec (d : Dev) {n p : Nat} (hn : n < 2) (hp : p < 8) (hport : (d.uhfc n).port = some p) (meas : Nat) (direct : Bool) :
    let e := d.rampUp1 n meas direct
    e.ust n = Ust.cw ∧ e.fld (F.UHFCn_POWER_MEAS n) = d.powerReading n p meas ∧ e.flag (F.UHFPn_STAT_ACTIVE p) = true ∧
      e.fld (F.UHFPn_CNT_ONS p) = satAdd 0xFFFF (d.fld (F.UHFPn_CNT_ONS p)) 1 ∧ e.gov = (d.rampOn n (d.fld (F.UHFCn_STAT_CH_INDEX n))).gov ∧
      e.uhfc n = { d.uhfc n with onAt := (e.uhfc n).onAt, waitGrant := false, out := (e.uhfc n).out } := by
  intro e
  have he : e = d.rampUp1 n meas direct := rfl
  clear_value e
  unfold Dev.rampUp1 at he
  rw [hport] at he
  dsimp -zeta only at he
  extract_lets A B C D ext out E at he
  obtain ⟨hAreg, hAuhf, hAgov, hAtables⟩ : (∀ a, a < 0xD00 → a ≠ R.GOV_STAT → A.reg a = d.reg a) ∧ A.uhf = d.uhf ∧
      A.gov = (d.rampOn n (d.fld (F.UHFCn_STAT_CH_INDEX n))).gov ∧ A.tables = d.tables := by
    have hframe := (d.rampOn n (d.fld (F.UHFCn_STAT_CH_INDEX n))).captureEvent_frame (0x44 + n)
    refine ⟨fun a ha hgov => (Dev.captureEvent_reg _ _ ha).trans (Dev.reg_setFld_other ?_), ?_, ?_, ?_⟩
    · split <;> exact hgov
    · exact (congrArg Dev.uhf hframe :)
    · exact (congrArg Dev.gov hframe :)
    · exact (congrArg Dev.tables hframe :)
  clear_value A
  obtain ⟨hBreg, hBuhf, hBgov, hBtables⟩ : (∀ a, a ≠ R.UHFCn_POWER n → B.reg a = A.reg a) ∧ B.uhf = A.uhf ∧ B.gov = A.gov ∧ B.tables = A.tables := by
    have hframe := A.showPermit_regs n
    have hB : B = (A.showPermit n).setFld (F.UHFCn_POWER_TARGET n) (A.uhfTarget n p direct) := rfl
    refine ⟨fun a ha => ?_, ?_, ?_, ?_⟩
    · rw [hB, Dev.reg_setFld_other ha]
      exact hframe.2 a (by simpa using ha)
    · exact (congrArg Dev.uhf hframe.1 :)
    · exact (congrArg Dev.gov hframe.1 :)
    · exact (congrArg Dev.tables hframe.1 :)
  clear_value B
  obtain ⟨hCreg, hCmeas, hCuhf, hCgov⟩ : (∀ a, a ≠ R.UHFCn_POWER n → a ≠ R.UHFCn_RXLVL n → C.reg a = B.reg a) ∧
      C.fld (F.UHFCn_POWER_MEAS n) = B.powerReading n p meas ∧ C.uhf = B.uhf ∧ C.gov = B.gov := by
    refine ⟨fun a hpow hlvl => (Dev.reg_setFld_other hlvl).trans (Dev.reg_setFld_other hpow), ?_, rfl, rfl⟩
    refine (Dev.fld_setFld_other (.inl ?_) (Nat.le_of_ble_eq_true rfl)).trans (Dev.fld_setFld_small (Nat.le_of_ble_eq_true rfl) (B.powerReading_lt n p meas))
    simp only [F.UHFCn_POWER_MEAS, F.UHFCn_RXLVL_GAIN]
    omega
  clear_value C
  obtain ⟨hDreg, hDactive, hDons, hDuhf, hDgov⟩ : (∀ a, a ≠ R.UHFPn_STAT p → a ≠ R.UHFPn_CNT p → D.reg a = C.reg a) ∧
      D.flag (F.UHFPn_STAT_ACTIVE p) = true ∧ D.fld (F.UHFPn_CNT_ONS p) = satAdd 0xFFFF (C.fld (F.UHFPn_CNT_ONS p)) 1 ∧ D.uhf = C.uhf ∧ D.gov = C.gov :=
    C.portOn_spec n p
  clear_value D out
  obtain ⟨hEreg, hEuhf, hEgov⟩ : (∀ a, a ≠ R.UHFCn_PA n → E.reg a = D.reg a) ∧ E.uhf = D.uhf ∧ E.gov = D.gov := by
    unfold E
    split
    · exact ⟨fun a ha => (Dev.reg_setFld_other ha).trans ((Dev.reg_setFld_other ha).trans (Dev.reg_setFld_other ha)), rfl, rfl⟩
    · exact ⟨fun _ _ => rfl, rfl, rfl⟩
  clear_value E
  obtain ⟨hGrest, hGreg, hGactive⟩ := E.measureRl_spec p
  generalize E.measureRl p = G at *
  have hchain : (G.setUst n Ust.cw).uhfc n = d.uhfc n := by
    have huhf : G.uhf = d.uhf := (congrArg Dev.uhf hGrest :).trans (hEuhf.trans (hDuhf.trans (hCuhf.trans (hBuhf.trans hAuhf))))
    rw [Dev.uhfc_setUst, Dev.uhfc, Dev.uhfc, huhf]
  have heuhf := congrArg (fun x : Dev => x.uhfc n) he
  rw [Dev.uhfc_onUhf hn, hchain] at heuhf
  have hereg : ∀ a, a ≠ R.UHFCn_STAT n → e.reg a = G.reg a := fun a ha => by rw [he, Dev.reg_onUhf]; exact Dev.reg_setFld_other ha
  have hegov : e.gov = G.gov := by rw [he]; rfl
  have heust : e.ust n = Ust.cw := by
    rw [he, Dev.ust_onUhf]
    exact Dev.ust_setUst _ n (by decide)
  clear he
  refine ⟨heust, ?_, ?_, ?_, ?_, by rw [heuhf]⟩
  · have hkept : e.reg (R.UHFCn_POWER n) = C.reg (R.UHFCn_POWER n) := by
      rw [hereg, hGreg, hEreg, hDreg]
      all_goals simp only [R.UHFCn_POWER, R.UHFCn_STAT, R.UHFCn_PA, R.UHFPn_STAT, R.UHFPn_CNT]; omega
    have hcfg : B.reg (R.UHFPn_CFG p) = d.reg (R.UHFPn_CFG p) := by
      rw [hBreg, hAreg]
      all_goals simp only [R.UHFPn_CFG, R.UHFCn_POWER, R.GOV_STAT]; omega
    rw [Dev.fld_eq_of_reg (g := F.UHFCn_POWER_MEAS n) hkept, hCmeas, Dev.powerReading_congr (hBtables.trans hAtables) hcfg]
  · have hkept : e.reg (R.UHFPn_STAT p) = G.reg (R.UHFPn_STAT p) := hereg _ (by simp only [R.UHFPn_STAT, R.UHFCn_STAT]; omega)
    have hkept' : E.reg (R.UHFPn_STAT p) = D.reg (R.UHFPn_STAT p) := hEreg _ (by simp only [R.UHFPn_STAT, R.UHFCn_PA]; omega)
    rw [Dev.flag_eq_of_fld (Dev.fld_eq_of_reg (g := F.UHFPn_STAT_ACTIVE p) hkept), hGactive,
      Dev.flag_eq_of_fld (Dev.fld_eq_of_reg (g := F.UHFPn_STAT_ACTIVE p) hkept'), hDactive]
  · have hkept : e.reg (R.UHFPn_CNT p) = D.reg (R.UHFPn_CNT p) := by
      rw [hereg, hGreg, hEreg]
      all_goals simp only [R.UHFPn_CNT, R.UHFCn_STAT, R.UHFCn_PA, R.UHFPn_STAT]; omega
    have hkept' : C.reg (R.UHFPn_CNT p) = d.reg (R.UHFPn_CNT p) := by
      rw [hCreg, hBreg, hAreg]
      all_goals simp only [R.UHFPn_CNT, R.UHFCn_POWER, R.UHFCn_RXLVL, R.GOV_STAT]; omega
    rw [Dev.fld_eq_of_reg (g := F.UHFPn_CNT_ONS p) hkept, hDons, Dev.fld_eq_of_reg (g := F.UHFPn_CNT_ONS p) hkept']
  · rw [hegov, (congrArg Dev.gov hGrest :), hEgov, hDgov, hCgov, hBgov, hAgov]

/-- What a ramp leaves the governor: the chain's occupation is of the channel, with a span begun. -/
theorem Dev.rampOn_gov (d : Dev) {n : Nat} (hn : n < 2) (k : Nat) : let g := (d.rampOn n k).gov
    ((g.occ.getD n none).map (·.chan)) = some k ∧ ∃ y ∈ g.spans, y.chan = k ∧ y.chain = n ∧ y.on = d.time ∧ y.off = none := by
  refine ⟨?_, { chan := k, chain := n, on := d.time, off := none }, List.mem_append_right _ (List.mem_singleton.2 rfl), rfl, rfl, rfl, rfl⟩
  refine (congrArg (Option.map Occ.chan) (tableSet_getD_self (e := none) hn)).trans ?_
  split
  next o _ =>
    split
    next h => simp [h]
    · rfl
  · rfl

/-! ### What a ramp does before it: the queue, the hold and the wait on the wires -/

theorem Dev.coexWaited_spec (d : Dev) (p : Nat) : let e := d.coexWaited p
    e = { d with regs := e.regs, coexA := e.coexA, coexB := e.coexB } ∧ ∀ a, a ≠ R.COEX_CNT → a ≠ R.COEX_WAIT → e.reg a = d.reg a := by
  unfold Dev.coexWaited
  dsimp only
  split
  · exact ⟨rfl, fun _ _ _ => rfl⟩
  · exact ⟨rfl, fun a hcnt hwait => (Dev.reg_setFld_other hwait).trans (Dev.reg_bump_other hcnt)⟩

/-- A chain whose carrier-on command is taken: off the queue, no longer held, its wait on the wires counted. -/
def Dev.setRamping (d : Dev) (n : Nat) : Dev := ((d.radioPop n).unhold n).coexWaited ((d.uhfc n).port.getD 0)

theorem Dev.setRamping_spec (d : Dev) (n : Nat) : let e := d.setRamping n
    e.uhfc n = (d.radioPop n).uhfc n ∧ e.time = d.time ∧ e.gov = d.gov ∧ e.tables = d.tables ∧
      ∀ a, a ≠ R.UHFCn_QSTAT n → a ≠ R.GOV_STAT → a ≠ R.COEX_CNT → a ≠ R.COEX_WAIT → e.reg a = d.reg a := by
  obtain ⟨hrest, hregs⟩ := ((d.radioPop n).unhold n).coexWaited_spec ((d.uhfc n).port.getD 0)
  have hyreg : ∀ a, a ≠ R.UHFCn_QSTAT n → a ≠ R.GOV_STAT → ((d.radioPop n).unhold n).reg a = d.reg a := by
    intro a hq hg
    refine (Dev.reg_setFld_other ?_).trans (Dev.reg_setFld_other hq)
    split <;> exact hg
  have hyuhf : ((d.radioPop n).unhold n).uhfc n = (d.radioPop n).uhfc n := Dev.uhfc_unhold ..
  have hyrest : ((d.radioPop n).unhold n).time = d.time ∧ ((d.radioPop n).unhold n).gov = d.gov ∧ ((d.radioPop n).unhold n).tables = d.tables := ⟨rfl, rfl, rfl⟩
  obtain ⟨htime, hgov, htables⟩ := hyrest
  unfold Dev.setRamping
  generalize (d.radioPop n).unhold n = y at *
  exact ⟨(congrArg (fun x : Dev => x.uhfc n) hrest :).trans hyuhf, (congrArg Dev.time hrest :).trans htime, (congrArg Dev.gov hrest :).trans hgov,
    (congrArg Dev.tables hrest :).trans htables, fun a hq hg hc hw => (hregs a hc hw).trans (hyreg a hq hg)⟩

theorem Dev.startRamp_of {d : Dev} {n : Nat} (hn : n < 2) (hpartner : (d.uhfc n).partner = none) (hoff : d.uhfOn n = false)
    {p : Nat} (hp : p < 8) (hport : (d.uhfc n).port = some p) (meas : Nat) :
    d.startRamp n meas = (d.setRamping n).rampUp1 n meas (((d.uhfc n).att.map fun a => !a.sched).getD false) := by
  obtain ⟨huhf, -, -, -, hregs⟩ := d.setRamping_spec n
  have hstat : (d.setRamping n).reg (R.UHFCn_STAT n) = d.reg (R.UHFCn_STAT n) := by
    apply hregs
    all_goals simp only [R.UHFCn_STAT, R.UHFCn_QSTAT, R.GOV_STAT, R.COEX_CNT, R.COEX_WAIT]; omega
  have hnone : ((d.setRamping n).uhfc n).partner = none := by
    rw [huhf, d.uhfc_radioPop hn]
    exact hpartner
  have hport' : ((d.setRamping n).uhfc n).port = some p := by
    rw [huhf, d.uhfc_radioPop hn]
    exact hport
  have hstay : (d.setRamping n).uhfOn n = false := (Dev.uhfOn_congr (Dev.fld_eq_of_reg (g := F.UHFCn_STAT_STATE n) hstat)).trans hoff
  have hshape : d.startRamp n meas = let direct := ((d.uhfc n).att.map fun a => !a.sched).getD false
      let e := (d.setRamping n).forEach ((d.setRamping n).uhfTeam n) fun d k => if d.uhfOn k then d else d.rampUp1 k meas direct
      if (e.uhfc n).partner.isSome then e.setFlag F.UHF_STEER_ACTIVE true else e := rfl
  rw [hshape]
  generalize d.setRamping n = y at *
  dsimp only
  rw [Dev.forTeam_alone hnone, hstay, if_neg Bool.false_ne_true]
  obtain ⟨-, -, -, -, -, hchain⟩ := y.rampUp1_spec hn hp hport' meas (((d.uhfc n).att.map fun a => !a.sched).getD false)
  have hlone : ((y.rampUp1 n meas (((d.uhfc n).att.map fun a => !a.sched).getD false)).uhfc n).partner = none := by
    rw [hchain]
    exact hnone
  rw [hlone]
  rfl

/-- The carrier of a chain that works alone has ramped up: what shows, what the governor notes, and what stays of the chain. -/
theorem Dev.startRamp_spec {d : Dev} {n p : Nat} (hn : n < 2) (hpartner : (d.uhfc n).partner = none) (hoff : d.uhfOn n = false) (hp : p < 8)
    (hport : (d.uhfc n).port = some p) (meas : Nat) : let e := d.startRamp n meas
    e.ust n = Ust.cw ∧ e.fld (F.UHFCn_POWER_MEAS n) = d.powerReading n p meas ∧ e.flag (F.UHFPn_STAT_ACTIVE p) = true ∧
      e.fld (F.UHFPn_CNT_ONS p) = satAdd 0xFFFF (d.fld (F.UHFPn_CNT_ONS p)) 1 ∧ (e.occ n).map (·.chan) = some (d.fld (F.UHFCn_STAT_CH_INDEX n)) ∧
      (∃ y ∈ e.gov.spans, y.chan = d.fld (F.UHFCn_STAT_CH_INDEX n) ∧ y.chain = n ∧ y.on = d.time ∧ y.off = none) ∧
      (e.uhfc n).queue = d.popped n ∧ (e.uhfc n).att = (d.uhfc n).att := by
  have hrow := Dev.startRamp_of hn hpartner hoff hp hport meas
  obtain ⟨huhf, htime, hgov, htables, hregs⟩ := d.setRamping_spec n
  rw [d.uhfc_radioPop hn] at huhf
  generalize d.setRamping n = y at *
  have hport' : (y.uhfc n).port = some p := by rw [huhf]; exact hport
  have hstat : y.reg (R.UHFCn_STAT n) = d.reg (R.UHFCn_STAT n) := by
    apply hregs
    all_goals simp only [R.UHFCn_STAT, R.UHFCn_QSTAT, R.GOV_STAT, R.COEX_CNT, R.COEX_WAIT]; omega
  have hcfg : y.reg (R.UHFPn_CFG p) = d.reg (R.UHFPn_CFG p) := by
    apply hregs
    all_goals simp only [R.UHFPn_CFG, R.UHFCn_QSTAT, R.GOV_STAT, R.COEX_CNT, R.COEX_WAIT]; omega
  have hcnt : y.reg (R.UHFPn_CNT p) = d.reg (R.UHFPn_CNT p) := by
    apply hregs
    all_goals simp only [R.UHFPn_CNT, R.UHFCn_QSTAT, R.GOV_STAT, R.COEX_CNT, R.COEX_WAIT]; omega
  have hk : y.fld (F.UHFCn_STAT_CH_INDEX n) = d.fld (F.UHFCn_STAT_CH_INDEX n) := Dev.fld_eq_of_reg hstat
  obtain ⟨hust, hmeas, hactive, hons, hegov, hchain⟩ := y.rampUp1_spec hn hp hport' meas (((d.uhfc n).att.map fun a => !a.sched).getD false)
  obtain ⟨hocc, hspan⟩ := y.rampOn_gov hn (y.fld (F.UHFCn_STAT_CH_INDEX n))
  rw [← hrow] at hust hmeas hactive hons hegov hchain
  rw [← hegov] at hocc hspan
  rw [hk] at hocc hspan
  rw [htime] at hspan
  intro e
  refine ⟨hust, hmeas.trans (Dev.powerReading_congr htables hcfg), hactive, ?_, hocc, hspan, ?_, ?_⟩
  · rw [hons, Dev.fld_eq_of_reg (g := F.UHFPn_CNT_ONS p) hcnt]
  · rw [hchain, huhf]
    rfl
  · rw [hchain, huhf]

/-! ### Requests on the coexistence wires (R266, R268) -/

theorem Dev.showCoex_frame (d : Dev) : d.showCoex = { d with regs := d.showCoex.regs } := rfl

theorem Dev.coexRequest_spec (d : Dev) (p : Nat) (b : Bool) : let e := d.coexRequest p b
    e = { d with regs := e.regs, coexA := e.coexA, coexB := e.coexB } ∧ (∀ a, a ≠ R.COEX_STAT → e.reg a = d.reg a) ∧
      e.coexA.grants = d.coexA.grants ∧ e.coexB.grants = d.coexB.grants ∧
      (d.gatedA = true → e.coexA.req = true) ∧ (d.gatedB p = true → e.coexB.req = true) := by
  obtain ⟨A, B, hask, hA, hB, hreqA, hreqB⟩ : ∃ A B, d.coexRequest p b = ({ d with coexA := A, coexB := B } : Dev).showCoex ∧
      A.grants = d.coexA.grants ∧ B.grants = d.coexB.grants ∧ (d.gatedA = true → A.req = true) ∧ (d.gatedB p = true → B.req = true) := by
    refine ⟨_, _, rfl, ?_, ?_, fun h => ?_, fun h => ?_⟩
    · cases d.gatedA <;> rfl
    · cases d.gatedB p <;> rfl
    · rw [h]
      rfl
    · rw [h]
      rfl
  intro e
  change e = _ at hask
  clear_value e
  have hreg : ∀ a, a ≠ R.COEX_STAT → ({ d with coexA := A, coexB := B } : Dev).showCoex.reg a = d.reg a := fun a ha => Dev.reg_showCoex ha
  have hcoexA : ({ d with coexA := A, coexB := B } : Dev).showCoex.coexA = A := rfl
  have hcoexB : ({ d with coexA := A, coexB := B } : Dev).showCoex.coexB = B := rfl
  rw [← hask] at hreg hcoexA hcoexB
  refine ⟨?_, hreg, by rw [hcoexA, hA], by rw [hcoexB, hB], fun h => by rw [hcoexA, hreqA h], fun h => by rw [hcoexB, hreqB h]⟩
  rw [hcoexA, hcoexB, hask, Dev.showCoex_frame]

theorem Dev.gatedA_congr {d e : Dev} (hreg : ∀ a, a ≠ R.COEX_STAT → e.reg a = d.reg a) : e.gatedA = d.gatedA := by
  rw [Dev.gatedA, Dev.gatedA, Dev.mode, Dev.mode, Dev.flag_eq_of_fld (Dev.fld_eq_of_reg (hreg F.COEX_CFG_A_EN.addr (by decide))),
    Dev.flag_eq_of_fld (Dev.fld_eq_of_reg (hreg F.COEX_CFG_A_ALL.addr (by decide))), Dev.fld_eq_of_reg (hreg F.SUP_MODE_CUR.addr (by decide))]

theorem Dev.gatedB_congr {d e : Dev} (hreg : ∀ a, a ≠ R.COEX_STAT → e.reg a = d.reg a) (p : Nat) : e.gatedB p = d.gatedB p := by
  rw [Dev.gatedB, Dev.gatedB, Dev.flag_eq_of_fld (Dev.fld_eq_of_reg (hreg F.COEX_CFG_B_EN.addr (by decide)))]

theorem Dev.coexGranted_congr {d e : Dev} (hreg : ∀ a, a ≠ R.COEX_STAT → e.reg a = d.reg a) (hA : e.coexA.grants = d.coexA.grants)
    (hB : e.coexB.grants = d.coexB.grants) (p : Nat) : e.coexGranted p = d.coexGranted p := by
  rw [Dev.coexGranted, Dev.coexGranted, Dev.gatedA_congr hreg, Dev.gatedB_congr hreg, hA, hB]

theorem Dev.ungranted_alone {d : Dev} {n p : Nat} (hpartner : (d.uhfc n).partner = none) (hport : (d.uhfc n).port = some p) :
    d.ungranted n = !d.coexGranted p := by
  simp [Dev.ungranted, Dev.uhfTeam_alone hpartner, hport]

/-- PRI follows what waits or emits; nothing else of the device changes but what shows of it (R268). -/
theorem Dev.coexPri_spec (d : Dev) : let e := d.coexPri
    e = { d with regs := e.regs, coexA := e.coexA, coexB := e.coexB } ∧ (∀ a, a ≠ R.COEX_STAT → e.reg a = d.reg a) ∧
      e.coexA.req = d.coexA.req ∧ e.coexB.req = d.coexB.req ∧
      ∀ n, n < 2 → (d.uhfc n).master = true → (d.uhfOn n = true ∨ (d.uhfc n).waitGrant = true) → ∀ a, (d.uhfc n).att = some a → a.tag.lclass = true →
        ∀ p, (d.uhfc n).port = some p → (d.gatedA = true → e.coexA.pri = d.coexA.req) ∧ (d.gatedB p = true → e.coexB.pri = d.coexB.req) := by
  refine ⟨rfl, fun a ha => Dev.reg_showCoex ha, rfl, rfl, fun n hn hmaster hon a hatt hl p hport => ?_⟩
  have hot : ∀ g : Nat → Bool, g p = true → ([0, 1].any fun n => (d.uhfc n).master && (d.uhfOn n || (d.uhfc n).waitGrant) && (d.uhfc n).att.any (·.tag.lclass) &&
      (d.uhfTeam n).any fun k => (d.uhfc k).port.any g) = true := by
    intro g hg
    refine List.any_eq_true.2 ⟨n, by simp only [List.mem_cons, List.not_mem_nil, or_false]; omega, ?_⟩
    have hteam : (d.uhfTeam n).any (fun k => (d.uhfc k).port.any g) = true := List.any_eq_true.2 ⟨n, List.mem_cons_self, by rw [hport]; exact hg⟩
    rw [hmaster, hatt, hteam]
    simp [hl, hon]
  refine ⟨fun hg => ?_, fun hg => ?_⟩
  · refine (congrArg (d.coexA.req && ·) (hot (fun _ => d.gatedA) hg)).trans ?_
    exact Bool.and_true _
  · refine (congrArg (d.coexB.req && ·) (hot d.gatedB hg)).trans ?_
    exact Bool.and_true _

/-! ### The carrier-on command (R181, R252 to R257, R266) -/

/-- A carrier-on that the governor lets pass: a ramp, or the wait for a grant. -/
def Dev.askToRamp (d : Dev) (n p : Nat) (lclass : Bool) (meas : Nat) : Dev :=
  let e := d.coexRequest p lclass
  if e.ungranted n then (e.onUhf n fun u => { u with waitGrant := true }).coexPri else (e.startRamp n meas).coexPri

section
variable {d : Dev} {n p t : Nat} {a : UhfAttempt} (hn : n < 2) (hhead : d.radioHead n = some (.carrierOn, t)) (hatt : (d.uhfc n).att = some a)
  (hport : (d.uhfc n).port = some p) (hp : p < 8) (hshown : d.fld (F.UHFCn_STAT_PORT n) = p) (halone : d.uhfAlone n) (hust : d.ust n = Ust.ready)
  (hlocked : d.flag (F.UHFCn_STAT_LOCKED n) = true) (htuning : (d.uhfc n).tuning = none) (hwait : (d.uhfc n).waitGrant = false)

include hhead hatt hport hshown halone hust hlocked htuning hwait in
theorem Dev.carrierOn_of (meas : Nat) : d.carrierOn n meas =
    if d.uhfPermit p none < 0 || !bit d.limits.chmask (d.fld (F.UHFCn_STAT_CH_INDEX n)) || (d.uhfc n).inhibited then d.uhfFailBare n a Code.GOV_DENIED
    else if d.dutySpent then d.hold n
    else if !d.chanOk n (d.fld (F.UHFCn_STAT_CH_INDEX n)) then if a.sched then (d.hold n).radioFront n (.channel 0xFF) else d.hold n
    else if d.windowOpen then d
    else d.askToRamp n p a.tag.lclass meas := by
  have hready : ((d.uhfTeam n).all fun k => d.flag (F.UHFCn_STAT_LOCKED k) && (d.uhfc k).tuning.isNone && d.ust k ≥ Ust.ready &&
      (d.uhfc k).port == some (d.fld (F.UHFCn_STAT_PORT k))) = true := by
    rw [Dev.uhfTeam_alone halone.1]
    simp [hlocked, htuning, hust, hport, hshown]
  have hpair : d.uhfPairPort n = none := by rw [Dev.uhfPairPort, halone.1]; rfl
  have hpair' : (d.coexRequest p a.tag.lclass).uhfPairPort n = none := by
    obtain ⟨hrest, -⟩ := d.coexRequest_spec p a.tag.lclass
    rw [hrest]
    exact hpair
  unfold Dev.carrierOn
  rw [hhead, hatt, hport]
  dsimp only
  rw [hready, hwait, hpair, hpair', if_neg (by simp)]
  rfl

include hn halone hust in
theorem Dev.carrierOn_denied (hheld : a.held = none) : let x := d.uhfFailBare n a Code.GOV_DENIED
    d.uhfEnded x n Code.GOV_DENIED ∧ x.uhfOn n = false :=
  ⟨Dev.uhfEnded_of_fail (Dev.uhfFailBare_ended hn hheld),
    Dev.uhfEnd_off hn halone.1 hheld (Dev.uhfOn_eq_false_iff.2 (by rw [hust]; decide))⟩

include hn hust in
/-- A hold, of a chain that is off. -/
theorem Dev.hold_off : (d.hold n).uhfOn n = false := by
  obtain ⟨-, hstay, -⟩ := d.hold_spec hn
  exact Dev.uhfOn_eq_false_iff.2 (by rw [hstay n hn, hust]; decide)

include hn hatt hust in
/-- A scheduled attempt held for its channel goes to look for another. -/
theorem Dev.hold_next : let x := (d.hold n).radioFront n (.channel 0xFF)
    x.flag (if n = 0 then F.GOV_STAT_HOLD0 else F.GOV_STAT_HOLD1) = true ∧ x.uhfOn n = false ∧
      x.radioHead n = some (.channel 0xFF, d.time) ∧ (x.uhfc n).att = some a := by
  obtain ⟨hflag, -, huhf, -, hrest⟩ := d.hold_spec hn
  have hoff := Dev.hold_off hn hust
  have htime : (d.hold n).time = d.time := (congrArg Dev.time hrest :)
  have hatt' : ((d.hold n).uhfc n).att = some a := by rw [Dev.uhfc, huhf]; exact hatt
  generalize d.hold n = y at *
  have hself : (y.radioFront n (.channel 0xFF)).uhfc n = { y.uhfc n with
      queue := (.channel 0xFF, y.time) :: (y.uhfc n).queue.take 7, backlog := ((y.uhfc n).queue.drop 7).map (·.1) ++ (y.uhfc n).backlog } := by
    rw [Dev.radioFront, Dev.uhfc_showQueue, Dev.uhfc_onUhf hn]
  have hreg : (y.radioFront n (.channel 0xFF)).reg R.GOV_STAT = y.reg R.GOV_STAT :=
    Dev.reg_setFld_other (by simp only [R.GOV_STAT, F.UHFCn_QSTAT_DEPTH]; omega)
  have hoff' := (((Dev.AtWork.refl n y).radioFront (c := .channel 0xFF)).off hn).trans hoff
  generalize y.radioFront n (.channel 0xFF) = x at *
  refine ⟨?_, hoff', ?_, ?_⟩
  · rw [← hflag]
    refine Dev.flag_eq_of_fld (Dev.fld_eq_of_reg ?_)
    split <;> exact hreg
  · rw [Dev.radioHead, hself, ← htime]
    rfl
  · rw [hself]
    exact hatt'

include hn hatt hport hp halone hust

theorem Dev.askToRamp_granted (hgrant : d.coexGranted p = true) (meas : Nat) : let x := d.askToRamp n p a.tag.lclass meas
    x.ust n = Ust.cw ∧ x.fld (F.UHFCn_POWER_MEAS n) = d.powerReading n p meas ∧ x.flag (F.UHFPn_STAT_ACTIVE p) = true ∧
      x.fld (F.UHFPn_CNT_ONS p) = satAdd 0xFFFF (d.fld (F.UHFPn_CNT_ONS p)) 1 ∧ (x.occ n).map (·.chan) = some (d.fld (F.UHFCn_STAT_CH_INDEX n)) ∧
      (∃ y ∈ x.gov.spans, y.chan = d.fld (F.UHFCn_STAT_CH_INDEX n) ∧ y.chain = n ∧ y.on = d.time ∧ y.off = none) ∧
      (x.uhfc n).queue = d.popped n ∧ (x.uhfc n).att = some a := by
  obtain ⟨hrest, hreg, hA, hB, -⟩ := d.coexRequest_spec p a.tag.lclass
  have hchain : (d.coexRequest p a.tag.lclass).uhfc n = d.uhfc n := (congrArg (fun x : Dev => x.uhfc n) hrest :)
  have htime : (d.coexRequest p a.tag.lclass).time = d.time := (congrArg Dev.time hrest :)
  have htables : (d.coexRequest p a.tag.lclass).tables = d.tables := (congrArg Dev.tables hrest :)
  intro x
  have hx : x = let e := d.coexRequest p a.tag.lclass
    if e.ungranted n then (e.onUhf n fun u => { u with waitGrant := true }).coexPri else (e.startRamp n meas).coexPri := rfl
  clear_value x
  dsimp only at hx
  have hgrant' := (Dev.coexGranted_congr hreg hA hB p).trans hgrant
  generalize d.coexRequest p a.tag.lclass = y at *
  have hport' : (y.uhfc n).port = some p := by rw [hchain]; exact hport
  have hpartner' : (y.uhfc n).partner = none := by rw [hchain]; exact halone.1
  rw [Dev.ungranted_alone hpartner' hport', hgrant'] at hx
  have hx' : x = (y.startRamp n meas).coexPri := hx
  have hkept : ∀ b, b ≠ R.COEX_STAT → y.reg b = d.reg b := hreg
  have hstat : y.reg (R.UHFCn_STAT n) = d.reg (R.UHFCn_STAT n) := hkept _ (by simp only [R.UHFCn_STAT, R.COEX_STAT]; omega)
  have hcfg : y.reg (R.UHFPn_CFG p) = d.reg (R.UHFPn_CFG p) := hkept _ (by simp only [R.UHFPn_CFG, R.COEX_STAT]; omega)
  have hcnt : y.reg (R.UHFPn_CNT p) = d.reg (R.UHFPn_CNT p) := hkept _ (by simp only [R.UHFPn_CNT, R.COEX_STAT]; omega)
  have hoff : y.uhfOn n = false := Dev.uhfOn_eq_false_iff.2 (by
    rw [Dev.ust, Dev.fld_eq_of_reg (g := F.UHFCn_STAT_STATE n) hstat]
    exact lt_of_eq_of_lt hust (by decide))
  obtain ⟨hcw, hmeas, hactive, hons, hocc, hspan, hqueue, hatt'⟩ := Dev.startRamp_spec hn hpartner' hoff hp hport' meas
  generalize y.startRamp n meas = z at *
  obtain ⟨hprest, hpreg, -⟩ := z.coexPri_spec
  rw [← hx'] at hprest hpreg
  have hgov : x.gov = z.gov := (congrArg Dev.gov hprest :)
  have hself : x.uhfc n = z.uhfc n := (congrArg (fun w : Dev => w.uhfc n) hprest :)
  have hxstat : x.reg (R.UHFCn_STAT n) = z.reg (R.UHFCn_STAT n) := hpreg _ (by simp only [R.UHFCn_STAT, R.COEX_STAT]; omega)
  have hxpow : x.reg (R.UHFCn_POWER n) = z.reg (R.UHFCn_POWER n) := hpreg _ (by simp only [R.UHFCn_POWER, R.COEX_STAT]; omega)
  have hxport : x.reg (R.UHFPn_STAT p) = z.reg (R.UHFPn_STAT p) := hpreg _ (by simp only [R.UHFPn_STAT, R.COEX_STAT]; omega)
  have hxcnt : x.reg (R.UHFPn_CNT p) = z.reg (R.UHFPn_CNT p) := hpreg _ (by simp only [R.UHFPn_CNT, R.COEX_STAT]; omega)
  have hk : y.fld (F.UHFCn_STAT_CH_INDEX n) = d.fld (F.UHFCn_STAT_CH_INDEX n) := Dev.fld_eq_of_reg hstat
  rw [hk] at hocc hspan
  rw [htime] at hspan
  refine ⟨(Dev.fld_eq_of_reg (g := F.UHFCn_STAT_STATE n) hxstat).trans hcw, ?_, ?_, ?_, ?_, ?_, ?_, ?_⟩
  · exact (Dev.fld_eq_of_reg (g := F.UHFCn_POWER_MEAS n) hxpow).trans (hmeas.trans (Dev.powerReading_congr htables hcfg))
  · exact (Dev.flag_eq_of_fld (Dev.fld_eq_of_reg (g := F.UHFPn_STAT_ACTIVE p) hxport)).trans hactive
  · rw [Dev.fld_eq_of_reg (g := F.UHFPn_CNT_ONS p) hxcnt, hons, Dev.fld_eq_of_reg (g := F.UHFPn_CNT_ONS p) hcnt]
  · rw [Dev.occ, hgov]
    exact hocc
  · rw [hgov]
    exact hspan
  · rw [hself, hqueue, Dev.popped, Dev.popped, hchain, htime]
  · rw [hself, hatt', hchain, hatt]

omit hp in
theorem Dev.askToRamp_waits (hgrant : d.coexGranted p = false) (meas : Nat) : let x := d.askToRamp n p a.tag.lclass meas
    (x.uhfc n).waitGrant = true ∧ x.uhfOn n = false ∧ (x.uhfc n).queue = (d.uhfc n).queue ∧
      (d.gatedA = true → x.coexA.req = true ∧ (a.tag.lclass = true → x.coexA.pri = true)) ∧
      (d.gatedB p = true → x.coexB.req = true ∧ (a.tag.lclass = true → x.coexB.pri = true)) := by
  obtain ⟨hrest, hreg, hA, hB, hreqA, hreqB⟩ := d.coexRequest_spec p a.tag.lclass
  have hchain : (d.coexRequest p a.tag.lclass).uhfc n = d.uhfc n := (congrArg (fun x : Dev => x.uhfc n) hrest :)
  intro x
  have hx : x = let e := d.coexRequest p a.tag.lclass
    if e.ungranted n then (e.onUhf n fun u => { u with waitGrant := true }).coexPri else (e.startRamp n meas).coexPri := rfl
  clear_value x
  dsimp only at hx
  have hgrant' := (Dev.coexGranted_congr hreg hA hB p).trans hgrant
  generalize d.coexRequest p a.tag.lclass = y at *
  rw [Dev.ungranted_alone (by rw [hchain]; exact halone.1) (by rw [hchain]; exact hport), hgrant'] at hx
  have hx' : x = (y.onUhf n fun u => { u with waitGrant := true }).coexPri := hx
  have hself := Dev.uhfc_onUhf (d := y) (f := fun u => { u with waitGrant := true }) hn
  have hwires : (y.onUhf n fun u => { u with waitGrant := true }).coexA = y.coexA ∧ (y.onUhf n fun u => { u with waitGrant := true }).coexB = y.coexB := ⟨rfl, rfl⟩
  have hzreg : ∀ b, (y.onUhf n fun u => { u with waitGrant := true }).reg b = y.reg b := fun b => Dev.reg_onUhf ..
  generalize (y.onUhf n fun u => { u with waitGrant := true }) = z at *
  rw [hchain] at hself
  have hzreg' : ∀ b, b ≠ R.COEX_STAT → z.reg b = d.reg b := fun b hb => (hzreg b).trans (hreg b hb)
  obtain ⟨hprest, hpreg, hpreqA, hpreqB, hpri⟩ := z.coexPri_spec
  rw [← hx'] at hprest hpreg hpreqA hpreqB hpri
  have hwaits : (z.uhfc n).waitGrant = true := by rw [hself]
  obtain ⟨hmaster, hzatt, hzport⟩ : (z.uhfc n).master = true ∧ (z.uhfc n).att = some a ∧ (z.uhfc n).port = some p := by
    rw [hself]
    exact ⟨halone.2.1, hatt, hport⟩
  have hxself : x.uhfc n = z.uhfc n := (congrArg (fun w : Dev => w.uhfc n) hprest :)
  have hxstat : x.reg (R.UHFCn_STAT n) = d.reg (R.UHFCn_STAT n) := by
    rw [hpreg _ (by simp only [R.UHFCn_STAT, R.COEX_STAT]; omega), hzreg' _ (by simp only [R.UHFCn_STAT, R.COEX_STAT]; omega)]
  have hpris := fun hl => hpri n hn hmaster (.inr hwaits) a hzatt hl p hzport
  rw [Dev.gatedA_congr hzreg', Dev.gatedB_congr hzreg', hwires.1, hwires.2] at hpris
  rw [hwires.1] at hpreqA
  rw [hwires.2] at hpreqB
  refine ⟨by rw [hxself, hwaits], ?_, by rw [hxself, hself], fun hg => ⟨?_, fun hl => ?_⟩, fun hg => ⟨?_, fun hl => ?_⟩⟩
  · refine Dev.uhfOn_eq_false_iff.2 ?_
    rw [Dev.ust, Dev.fld_eq_of_reg (g := F.UHFCn_STAT_STATE n) hxstat]
    exact lt_of_eq_of_lt hust (by decide)
  · rw [hpreqA, hreqA hg]
  · rw [(hpris hl).1 hg, hreqA hg]
  · rw [hpreqB, hreqB hg]
  · rw [(hpris hl).2 hg, hreqB hg]

end

theorem Dev.carrierOn_idle {d : Dev} {n : Nat} (h : (∀ t, d.radioHead n ≠ some (.carrierOn, t)) ∨ (d.uhfc n).att = none ∨ (d.uhfc n).port = none ∨
    d.flag (F.UHFCn_STAT_LOCKED n) = false ∨ (d.uhfc n).tuning ≠ none ∨ (d.uhfc n).waitGrant = true) (meas : Nat) : d.carrierOn n meas = d := by
  unfold Dev.carrierOn
  split
  next t a p hhead hatt hport =>
    extract_lets locked k
    refine if_pos ?_
    have hunready : d.flag (F.UHFCn_STAT_LOCKED n) = false ∨ (d.uhfc n).tuning ≠ none → locked = false := by
      intro hnot
      refine Bool.eq_false_iff.2 fun hall => ?_
      have hmine := List.all_eq_true.1 hall n List.mem_cons_self
      simp only [Bool.and_eq_true, Option.isNone_iff_eq_none] at hmine
      obtain ⟨⟨⟨hl, ht⟩, -⟩, -⟩ := hmine
      rcases hnot with h | h
      · rw [hl] at h
        cases h
      · exact h ht
    rcases h with h | h | h | h | h | h
    · exact absurd hhead (h t)
    · rw [hatt] at h
      cases h
    · rw [hport] at h
      cases h
    · rw [hunready (.inl h)]
      rfl
    · rw [hunready (.inr h)]
      rfl
    · rw [h, Bool.or_true]
  · rfl

/-! ### The carrier-off command (R183) -/

theorem Dev.carrierOff_spec {d : Dev} {n t : Nat} (hn : n < 2) (hhead : d.radioHead n = some (.carrierOff, t)) (hpartner : (d.uhfc n).partner = none) :
    let x := d.carrierOff n
    x.uhfOn n = false ∧ (x.uhfc n).queue = d.popped n ∧ (x.uhfc n).att = (d.uhfc n).att := by
  have hrow : d.carrierOff n = (d.radioPop n).rampDown n := by rw [Dev.carrierOff, hhead]
  have hpop := d.uhfc_radioPop hn
  generalize d.radioPop n = y at *
  have hcarrier := ((Dev.CarrierOnly.refl y).rampDown (n := n)).uhf n hn
  have hpartner' : (y.uhfc n).partner = none := by rw [hpop]; exact hpartner
  have hoff := Dev.rampDown_off hn hpartner'
  intro x
  change x = _ at hrow
  clear_value x
  rw [← hrow] at hcarrier hoff
  refine ⟨hoff, ?_, ?_⟩
  · rw [hcarrier, hpop]
    rfl
  · rw [hcarrier, hpop]

/-- Settles O53: `Dev.carrierOn_of` and what each of its branches does, `Dev.carrierOn_idle`, `Dev.carrierOff_spec`. -/
theorem carriers : Obligations.Carriers := by
  unfold Obligations.Carriers
  intro s n meas hrun
  have hn : n.val < 2 := n.isLt
  have hn0 : ((n : Fin 2) = 0) = (n.val = 0) := propext Fin.ext_iff
  refine ⟨fun a p t hhead hatt hport hp hshown halone hheld hust hlocked htuning hwait => ?_, fun hidle => ?_, fun t hhead halone => ?_, fun hidle => ?_⟩
  · intro k denied holds
    have hrow := Dev.carrierOn_of hhead hatt hport hshown halone hust hlocked htuning hwait meas.val
    have hrun' : ∀ {q : Dev → Prop}, q (s.dev.carrierOn n meas) → completes (.carrierOn n meas) s q := fun h => completes_onLive (·.carrierOn n meas) hrun rfl h
    have hiff : (s.dev.uhfPermit p none < 0 || !bit s.dev.limits.chmask k || (s.dev.uhfc n).inhibited) = true ↔ denied := by
      simp [denied, or_assoc]
    have hflag : ∀ x : Dev, x.flag (if n.val = 0 then F.GOV_STAT_HOLD0 else F.GOV_STAT_HOLD1) = true → x.uhfOn n = false → holds x := by
      intro x h1 h2
      simp only [holds, hn0]
      exact ⟨h1, h2⟩
    obtain ⟨hheldflag, -, hheldchain, -⟩ := s.dev.hold_spec hn
    have hheldoff := Dev.hold_off hn hust
    have hsame : (s.dev.hold n).uhfc n = s.dev.uhfc n := by rw [Dev.uhfc, hheldchain]; rfl
    refine ⟨fun hden => hrun' ?_, fun hden hspent => hrun' ?_, fun hden hspent hno => hrun' ?_, fun hden hspent hok hwin => hrun' ?_, fun hden hspent hok hwin => ?_⟩
    · rw [hrow, if_pos (hiff.2 hden)]
      exact Dev.carrierOn_denied hn halone hust hheld
    · rw [hrow, if_neg (fun h => hden (hiff.1 h)), if_pos hspent]
      exact ⟨hsame, hflag _ hheldflag hheldoff⟩
    · rw [hrow, if_neg (fun h => hden (hiff.1 h)), hspent, if_neg Bool.false_ne_true, if_pos (by rw [Bool.not_eq_true']; exact hno)]
      cases hsched : a.sched
      · exact ⟨hflag _ hheldflag hheldoff, fun _ => hsame, fun h => nomatch h⟩
      · obtain ⟨h1, h2, h3⟩ := Dev.hold_next hn hatt hust
        exact ⟨hflag _ h1 h2, fun h => (nomatch h), fun _ => h3⟩
    · rw [hrow, if_neg (fun h => hden (hiff.1 h)), hspent, if_neg Bool.false_ne_true, if_neg (by rw [Bool.not_eq_true', Bool.not_eq_false]; exact hok), if_pos hwin]
    · have hask : s.dev.carrierOn n meas = s.dev.askToRamp n p a.tag.lclass meas := by
        rw [hrow, if_neg (fun h => hden (hiff.1 h)), hspent, if_neg Bool.false_ne_true, if_neg (by rw [Bool.not_eq_true', Bool.not_eq_false]; exact hok), hwin,
          if_neg Bool.false_ne_true]
      refine ⟨fun hgrant => hrun' ?_, fun hgrant => hrun' ?_⟩
      · rw [hask]
        exact Dev.askToRamp_granted hn hatt hport hp halone hust hgrant meas
      · rw [hask]
        exact Dev.askToRamp_waits hn hatt hport halone hust hgrant meas
  · exact completes_onLive (·.carrierOn n meas) hrun rfl (Dev.carrierOn_idle hidle meas)
  · exact completes_onLive (·.carrierOff n) hrun rfl (Dev.carrierOff_spec hn hhead halone.1)
  · refine completes_onLive (·.carrierOff n) hrun rfl ?_
    unfold Dev.carrierOff
    split
    next t hhead => exact absurd hhead (hidle t)
    · rfl

end Sys2Proof.Machine
end

section
/-!
PROOFS. Packets, preambles and replies of a UHF round (R181, R183, R222 to R229, R235, R236).
-/

namespace Sys2Proof.Machine

open Sys2Proof

-- one proof after another: the check bounds the memory that the stacks of parallel proofs take
set_option Elab.async false

/-! ### An attempt written, a packet queued -/

theorem Dev.uhfc_setUhfAtt (d : Dev) {n : Nat} (hn : n < 2) (a : UhfAttempt) : (d.setUhfAtt n a).uhfc n = { d.uhfc n with att := some a } := by
  rw [Dev.setUhfAtt, Dev.uhfc_showRound, Dev.uhfc_onUhf hn]

theorem Dev.ust_setUhfAtt (d : Dev) {n : Nat} (hn : n < 2) (a : UhfAttempt) : (d.setUhfAtt n a).ust n = d.ust n := (Dev.AtWork.refl n d).setUhfAtt.ust n hn

theorem Dev.RadioOnly.setUhfAtt {d e : Dev} {n : Nat} {a : UhfAttempt} (h : d.RadioOnly e) : d.RadioOnly (e.setUhfAtt n a) :=
  h.onUhf.carriers (Dev.CarrierOnly.refl _).showRound

theorem Dev.RadioOnly.pushPkt {d e : Dev} {n : Nat} {a : UhfAttempt} {p : Pkt} (h : d.RadioOnly e) : d.RadioOnly (e.pushPkt n a p) :=
  h.onUhf.carriers (Dev.CarrierOnly.refl _).showQueue

/-- A packet queued where the queue has room. -/
theorem Dev.uhfc_pushPkt {d : Dev} {n : Nat} (hn : n < 2) (hroom : (d.uhfc n).queue.length < 8) (hback : (d.uhfc n).backlog = []) (a : UhfAttempt) (p : Pkt) :
    (d.pushPkt n a p).uhfc n = { d.uhfc n with queue := (d.uhfc n).queue ++ [(.packet p (d.packetBits a p) (a.afterOf p), d.time)] } := by
  rw [Dev.pushPkt, Dev.radioPush, Dev.uhfc_showQueue, Dev.uhfc_onUhf hn]
  exact if_pos (by simp [hroom, hback])

/-- The attempt changed, then its next packet. -/
theorem Dev.uhfc_setAtt_pushPkt {d : Dev} {n : Nat} (hn : n < 2) (hroom : (d.uhfc n).queue.length < 8) (hback : (d.uhfc n).backlog = []) (a : UhfAttempt) (p : Pkt) :
    (((d.setUhfAtt n a).pushPkt n a p).uhfc n).att = some a ∧
      (((d.setUhfAtt n a).pushPkt n a p).uhfc n).queue = (d.uhfc n).queue ++ [(.packet p ((d.setUhfAtt n a).packetBits a p) (a.afterOf p), d.time)] := by
  have hself := d.uhfc_setUhfAtt hn a
  have htime : (d.setUhfAtt n a).time = d.time := (congrArg Dev.time ((Dev.RadioOnly.refl d).setUhfAtt (n := n) (a := a)).rest :)
  generalize d.setUhfAtt n a = y at *
  have hpush := Dev.uhfc_pushPkt (d := y) hn (by rw [hself]; exact hroom) (by rw [hself]; exact hback) a p
  rw [hpush, hself, htime]
  exact ⟨rfl, rfl⟩

/-! ### Packets released (R183) -/

/-- A packet's bits on their way: the output settled, the command off the queue. -/
def Dev.released (d : Dev) (n : Nat) (bits : List Bool) : Dev :=
  let e := d.forEach (d.uhfTeam n) (Dev.powerStep 2)
  ((e.radioPop n).coexPri).onUhf n fun u => { u with paFails := 0, txBits := bits, sentAt := e.time }

theorem Dev.released_spec {d : Dev} {n : Nat} (hn : n < 2) (bits : List Bool) : let e := d.released n bits
    (e.uhfc n).txBits = bits ∧ (e.uhfc n).queue = d.popped n ∧ (e.uhfc n).bufs = (d.uhfc n).bufs ∧ (e.uhfc n).partner = (d.uhfc n).partner ∧
      e.reg (R.UHFCn_AIRCFG n) = d.reg (R.UHFCn_AIRCFG n) := by
  have hpow := (Dev.Powered.refl d).powerSteps 2 (d.uhfTeam n)
  have hchain := hpow.uhf n hn
  have htime : (d.forEach (d.uhfTeam n) (Dev.powerStep 2)).time = d.time := (congrArg Dev.time hpow.rest :)
  have hair : (d.forEach (d.uhfTeam n) (Dev.powerStep 2)).reg (R.UHFCn_AIRCFG n) = d.reg (R.UHFCn_AIRCFG n) := by
    apply hpow.regs
    all_goals simp only [R.UHFCn_AIRCFG]; omega
  unfold Dev.released
  dsimp only
  generalize d.forEach (d.uhfTeam n) (Dev.powerStep 2) = y at *
  have hpop := y.uhfc_radioPop hn
  have hpopair : (y.radioPop n).reg (R.UHFCn_AIRCFG n) = y.reg (R.UHFCn_AIRCFG n) :=
    Dev.reg_setFld_other (by simp only [R.UHFCn_AIRCFG, F.UHFCn_QSTAT_DEPTH]; omega)
  generalize y.radioPop n = z at *
  have hpri := z.uhfc_coexPri n
  have hpriair : z.coexPri.reg (R.UHFCn_AIRCFG n) = z.reg (R.UHFCn_AIRCFG n) := (z.coexPri_spec).2.1 _ (by simp only [R.UHFCn_AIRCFG, R.COEX_STAT]; omega)
  generalize z.coexPri = w at *
  have hself := Dev.uhfc_onUhf (d := w) (f := fun u => { u with paFails := 0, txBits := bits, sentAt := y.time }) hn
  rw [hpri, hpop] at hself
  refine ⟨by rw [hself], ?_, ?_, ?_, ?_⟩
  · rw [hself, hchain, htime]
    rfl
  · rw [hself, hchain]
  · rw [hself, hchain]
  · rw [Dev.reg_onUhf, hpriair, hpopair, hair]

/-- The attempt whose packet goes out. -/
def UhfAttempt.sending (a : UhfAttempt) (p : Pkt) (margin : Nat) : UhfAttempt :=
  let a := { a with sent := true }
  let a := if p.slotCmd then { a with slot := a.slot + 1, slots := a.slots + 1, margin := margin } else a
  if p = .ack then { a with acks := a.acks + 1 } else a

/-- A packet sent by a chain that works alone, and its attempt written. -/
def Dev.sent (d : Dev) (n v : Nat) (bits : List Bool) (a : UhfAttempt) : Dev := (((d.released n bits).setUst n Ust.tx).setUst n v).setUhfAtt n a

theorem Dev.sent_spec {d : Dev} {n : Nat} (hn : n < 2) {v : Nat} (hv : v < 8) (bits : List Bool) (a : UhfAttempt) : let x := d.sent n v bits a
    x.ust n = v ∧ (x.uhfc n).att = some a ∧ (x.uhfc n).txBits = bits ∧ (x.uhfc n).queue = d.popped n ∧ (x.uhfc n).bufs = (d.uhfc n).bufs := by
  obtain ⟨htx, hqueue, hbufs, -, -⟩ := d.released_spec hn bits
  unfold Dev.sent
  generalize d.released n bits = y at *
  have hust := (y.setUst n Ust.tx).ust_setUst n hv
  have hchain : ((y.setUst n Ust.tx).setUst n v).uhfc n = y.uhfc n := (Dev.uhfc_setUst ..).trans (Dev.uhfc_setUst ..)
  generalize (y.setUst n Ust.tx).setUst n v = z at *
  have hself := z.uhfc_setUhfAtt hn a
  have hstay := z.ust_setUhfAtt hn a
  generalize z.setUhfAtt n a = x at *
  refine ⟨hstay.trans hust, by rw [hself], ?_, ?_, ?_⟩
  · rw [hself, hchain]
    exact htx
  · rw [hself, hchain]
    exact hqueue
  · rw [hself, hchain]
    exact hbufs

section
variable {d : Dev} {n t after : Nat} {p : Pkt} {bits : List Bool} {a : UhfAttempt} (hn : n < 2) (hhead : d.radioHead n = some (.packet p bits after, t))
  (hatt : (d.uhfc n).att = some a) (hpartner : (d.uhfc n).partner = none) (hust : d.ust n = Ust.cw ∨ d.ust n = Ust.rx)
  (htrained : (d.uhfc n).untrained = false) (hawait : a.awaiting = none) (htuning : (d.uhfc n).tuning = none)
  (hroom : (d.uhfc n).bufs.length + b2n a.held.isSome < 2) (hplugged : d.uhfWithdrawn n = false)
  (hopens : p.opens = true → d.mustPause n = false) (hslots : p.slotCmd = true → d.dwellShort n a = false) (hstop : d.packetStop a p = 0)
include hn hhead hatt hpartner hust htrained hawait htuning hroom hplugged hopens hslots hstop

/-- A packet that nothing keeps back. -/
theorem Dev.sendPacket_of (hnak : p ≠ .nak) : let b := a.sending p (d.fld (F.UHFCn_AIRCFG_CAPTURE_MARGIN n))
    d.sendPacket n = if p.expects then d.sent n Ust.rx bits { b with awaiting := some p, rx := none } else d.sent n Ust.cw bits b := by
  obtain ⟨-, -, -, hlone, hair⟩ := d.released_spec hn bits
  rw [hpartner] at hlone
  have hready : ((d.ust n == Ust.cw || d.ust n == Ust.rx) && !(d.uhfc n).untrained && a.awaiting.isNone && (d.uhfc n).tuning.isNone &&
      decide ((d.uhfc n).bufs.length + b2n a.held.isSome < 2)) = true := by
    have hon : (d.ust n == Ust.cw || d.ust n == Ust.rx) = true := by
      rcases hust with h | h <;> simp [h]
    rw [hon, htrained, hawait, htuning, decide_eq_true hroom]
    rfl
  have hheld : (p.opens && d.mustPause n || p.slotCmd && d.dwellShort n a) = false := by
    refine Bool.or_eq_false_iff.2 ⟨?_, ?_⟩
    · cases h : p.opens
      · rfl
      · rw [hopens h]
        rfl
    · cases h : p.slotCmd
      · rfl
      · rw [hslots h]
        rfl
  intro b
  unfold Dev.sendPacket
  split
  next p' bits' after' t' a' hhead' hatt' =>
    obtain ⟨⟨rfl, rfl, rfl⟩, rfl⟩ : (p = p' ∧ bits = bits' ∧ after = after') ∧ t = t' := by
      have heq := Option.some.inj (hhead.symm.trans hhead')
      simpa using heq
    obtain rfl : a = a' := Option.some.inj (hatt.symm.trans hatt')
    extract_lets u ready stop e y z a1 a2 a3 w
    have hready' : ready = true := hready
    have hstop' : stop = 0 := hstop
    rw [hready', hplugged, hheld, hstop']
    rw [if_neg (by decide), if_neg Bool.false_ne_true, if_neg Bool.false_ne_true, if_neg (by decide)]
    have hy : y = d.released n bits := rfl
    have hteamY : y.uhfTeam n = [n] := by rw [hy]; exact Dev.uhfTeam_alone hlone
    have hz : z = y.setUst n Ust.tx := by
      have hdef : z = y.forEach (y.uhfTeam n) fun d k => d.setUst k Ust.tx := rfl
      rw [hdef, hteamY]
      rfl
    have hteamZ : z.uhfTeam n = [n] := by
      rw [hz, Dev.uhfTeam, Dev.uhfc_setUst]
      exact hteamY
    have hzair : z.fld (F.UHFCn_AIRCFG_CAPTURE_MARGIN n) = d.fld (F.UHFCn_AIRCFG_CAPTURE_MARGIN n) := by
      refine Dev.fld_eq_of_reg (g := F.UHFCn_AIRCFG_CAPTURE_MARGIN n) ?_
      rw [hz, hy]
      refine (Dev.reg_setFld_other ?_).trans hair
      simp only [F.UHFCn_AIRCFG_CAPTURE_MARGIN, F.UHFCn_STAT_STATE]
      omega
    have hb : a3 = b := by
      have hdef : a3 = a.sending p (z.fld (F.UHFCn_AIRCFG_CAPTURE_MARGIN n)) := rfl
      rw [hdef, hzair]
    have hw : ∀ v, (z.forEach (z.uhfTeam n) fun d k => d.setUst k v) = z.setUst n v := fun v => by
      rw [hteamZ]
      rfl
    have hw' : w = z.setUst n Ust.cw := hw _
    have hsent : ∀ v c, (z.setUst n v).setUhfAtt n c = d.sent n v bits c := fun v c => by
      rw [hz, hy]
      rfl
    clear_value z a3 w y
    rw [hw, hb, hsent, hw']
    split
    · rfl
    · split
      · exact absurd rfl hnak
      · exact hsent _ _
  next hno => exact absurd hatt (hno p bits after t a hhead)

end

theorem Dev.sendPacket_idle {d : Dev} {n : Nat} (h : ∀ p bits after t, d.radioHead n ≠ some (.packet p bits after, t)) : d.sendPacket n = d := by
  unfold Dev.sendPacket
  split
  next hhead _ => exact absurd hhead (h _ _ _ _)
  · rfl

/-! ### Preambles (R222, R226) -/

theorem Dev.uhfPreamble_of {d : Dev} {n : Nat} {a : UhfAttempt} {p : Pkt} (hatt : (d.uhfc n).att = some a) (hawait : a.awaiting = some p)
    (hust : d.ust n = Ust.rx) (k : Preamble) :
    let slot := p.slotCmd || p == .ack
    (a.rx = none → d.uhfPreamble n k = d.setUhfAtt n { a with rx := some { pre := k } }) ∧
    (∀ x, a.rx = some x → 24 < k.symbols → d.uhfPreamble n k = d.setUhfAtt n { a with rx := some { x with collided := true }, slotColl := a.slotColl || slot }) ∧
    (∀ x, a.rx = some x → 0 < k.symbols → k.symbols ≤ 24 → 10 * (a.margin : Int) ≤ k.rssi.toInt - x.pre.rssi.toInt → d.uhfPreamble n k =
      d.setUhfAtt n { a with rx := some { pre := k, collided := true, captured := true }, slotColl := a.slotColl || slot, slotCapt := a.slotCapt || slot }) := by
  intro slot
  refine ⟨fun hrx => ?_, fun x hrx hlate => ?_, fun x hrx hpos hnear hstrong => ?_⟩
  · simp [Dev.uhfPreamble, hatt, hawait, hust, hrx]
  · have h0 : k.symbols ≠ 0 := by omega
    simp [Dev.uhfPreamble, hatt, hawait, hust, hrx, h0, Nat.not_le.2 hlate, slot]
  · have h0 : k.symbols ≠ 0 := by omega
    simp [Dev.uhfPreamble, hatt, hawait, hust, hrx, h0, hnear, hstrong, slot]

/-! ### Replies (R222, R223, R227, R231, R235, R236) -/

section
variable {d : Dev} {n : Nat} {a : UhfAttempt} {x : RxPre} {r : UhfReply} (hn : n < 2) (hatt : (d.uhfc n).att = some a) (hrx : a.rx = some x)
include hn hatt hrx

/-- An RN16 that came whole is answered with ACK. -/
theorem Dev.uhfReply_rn16 {p : Pkt} (hp : p = .query ∨ p = .queryRep) (hawait : a.awaiting = some p) (hcoded : r.coded = true)
    (hroom : (d.uhfc n).queue.length < 8) (hback : (d.uhfc n).backlog = []) : let e := d.uhfReply n r
    (e.uhfc n).att = some { a with awaiting := none, rn16 := r.handle.val, rx := none } ∧
      (e.uhfc n).queue = (d.uhfc n).queue ++ [(.packet .ack (ackFrame r.handle.val) 0, d.time)] := by
  have hrow : d.uhfReply n r = (d.setUhfAtt n { a with awaiting := none, rn16 := r.handle.val, rx := none }).pushPkt n
      { a with awaiting := none, rn16 := r.handle.val, rx := none } .ack := by
    rcases hp with rfl | rfl <;> simp [Dev.uhfReply, hatt, hawait, hrx, hcoded]
  rw [hrow]
  exact Dev.uhfc_setAtt_pushPkt hn hroom hback _ .ack

/-- A RAW step's reply is its result. -/
theorem Dev.uhfReply_raw (hawait : a.awaiting = some .raw) (hheld : a.held = none) (hcoded : r.coded = true)
    (hcrc : uRawRxCrc a.params = true → r.crcOk = true) : let e := d.uhfReply n r
    d.uhfEnded e n 0 ∧ ∃ f, (e.uhfc n).bufs.getLast? = some f ∧ f.payload = r.bytes ∧ f.tag = a.tag := by
  have hgood : d.badReply n { a with awaiting := none } r (uRawRxCrc a.params) = none := by
    refine if_pos ?_
    cases h : uRawRxCrc a.params
    · simp [hcoded]
    · simp [hcoded, hcrc h]
  rw [hrx] at hgood
  have hrow : d.uhfReply n r = d.uhfEnd n { a with awaiting := none }
      (d.uhfFrame n { a with awaiting := none } r.bytes [] 0 (b2n (uRawRxCrc a.params) * 64) r.lastBits.val 0 true) := by
    simp [Dev.uhfReply, hatt, hawait, hrx, hgood]
  have hended := Dev.Ended.of_uhfEnd (d := d) (a := { a with awaiting := none })
    (f := d.uhfFrame n { a with awaiting := none } r.bytes [] 0 (b2n (uRawRxCrc a.params) * 64) r.lastBits.val 0 true) hn hheld
  rw [← hrow] at hended
  have hlast : ((d.uhfReply n r).uhfc n).bufs.getLast? =
      some (d.uhfFrame n { a with awaiting := none } r.bytes [] 0 (b2n (uRawRxCrc a.params) * 64) r.lastBits.val 0 true) := by
    rw [hended.self]
    exact List.getLast?_concat
  exact ⟨hended.uhfEnded rfl fun h => absurd rfl h, _, hlast, rfl, rfl⟩

/-- A handle that did not come whole ends the attempt. -/
theorem Dev.uhfReply_noHandle (hawait : a.awaiting = some .reqRn) (hheld : a.held = none) (hcoded : r.coded = true) (hcrc : r.crcOk = false) :
    let e := d.uhfReply n r
    (x.collided = true → d.uhfEnded e n Code.COLLIDED) ∧
      (x.collided = false → d.uhfEnded e n Code.UHF_CRC_ERROR ∧ e.fld (F.UHFCn_ERRCNT_CRC n) = satAdd 255 (d.fld (F.UHFCn_ERRCNT_CRC n)) 1) := by
  have hquiet : quietFld (F.UHFCn_ERRCNT_CRC n) := ⟨Nat.le_of_ble_eq_true rfl, .inr ⟨by simp only [F.UHFCn_ERRCNT_CRC]; omega, Nat.le_of_ble_eq_true rfl⟩⟩
  intro e
  refine ⟨fun hcol => ?_, fun hcol => ?_⟩
  · have hrow : e = d.uhfFail n { a with awaiting := none } Code.COLLIDED := by
      simp [e, Dev.uhfReply, hatt, hawait, hrx, Dev.badReply, hcoded, hcrc, hcol]
    rw [hrow]
    exact Dev.uhfEnded_of_fail (Dev.uhfFail_ended hn hheld)
  · have hrow : e = (d.bump (F.UHFCn_ERRCNT_CRC n) 1).uhfFail n { a with awaiting := none } Code.UHF_CRC_ERROR := by
      simp [e, Dev.uhfReply, hatt, hawait, hrx, Dev.badReply, hcoded, hcrc, hcol]
    have hended := Dev.uhfFail_ended (d := d.bump (F.UHFCn_ERRCNT_CRC n) 1) (a := { a with awaiting := none }) (code := Code.UHF_CRC_ERROR) hn hheld
    have hcount : (d.bump (F.UHFCn_ERRCNT_CRC n) 1).fld (F.UHFCn_ERRCNT_CRC n) = satAdd 255 (d.fld (F.UHFCn_ERRCNT_CRC n)) 1 :=
      Dev.fld_bump (f := F.UHFCn_ERRCNT_CRC n) hquiet.1
    rw [← hrow] at hended
    have hends := Dev.uhfEnded_of_fail hended
    rw [Dev.uhfEnded, Dev.uhfc_bump] at hends
    exact ⟨hends, (hended.radio.flds _ hquiet).trans hcount⟩

end

/-! ### The slot that stays empty, the reply that does not come (R227 to R229, R232, R233) -/

section
variable {d e : Dev} {n : Nat} (hrest : e = { d with regs := e.regs }) (hreg : ∀ a, a % 0x80 ≠ 0x45 → a % 0x80 ≠ 0x46 → e.reg a = d.reg a)
include hrest hreg

theorem Dev.limits_congr : e.limits = d.limits := by
  have hgov : e.gov = d.gov := (congrArg Dev.gov hrest :)
  have hfld : ∀ g : Fld, g.addr % 0x80 ≠ 0x45 → g.addr % 0x80 ≠ 0x46 → e.fld g = d.fld g := fun g h5 h6 => Dev.fld_eq_of_reg (hreg _ h5 h6)
  rw [Dev.limits, Dev.limits, hgov, hfld F.GOV_UHF_PCOND (by decide) (by decide), hfld F.GOV_UHF_EIRP (by decide) (by decide),
    hfld F.GOV_TIME_DWELL_MAX (by decide) (by decide), hfld F.GOV_TIME_OFF_MIN (by decide) (by decide), hfld F.GOV_HF_HF_LIMIT (by decide) (by decide),
    hfld F.GOV_HF_HF_TOTAL (by decide) (by decide), hfld F.GOV_CTL_DUTY_MAX (by decide) (by decide), hfld F.GOV_CHMASK_HI_MASK (by decide) (by decide),
    hfld F.GOV_CHMASK_LO_MASK (by decide) (by decide)]

theorem Dev.uhfPermit_congr (p : Nat) (q : Option Nat) : e.uhfPermit p q = d.uhfPermit p q := by
  have hgov : e.gov = d.gov := (congrArg Dev.gov hrest :)
  have htables : e.tables = d.tables := (congrArg Dev.tables hrest :)
  have hprof : ∀ k, e.uhfProfile k = d.uhfProfile k := fun k =>
    Dev.uhfProfile_congr htables (hreg _ (by simp only [R.UHFPn_CFG]; omega) (by simp only [R.UHFPn_CFG]; omega))
  have hg : e.uhfG = d.uhfG := funext fun k => by rw [Dev.uhfG, Dev.uhfG, hprof, Dev.limits_congr hrest hreg]
  unfold Dev.uhfPermit
  rw [Dev.blank, Dev.blank, hgov, Dev.limits_congr hrest hreg, hprof, hg]

/-- The counts of slots weigh nothing with the governor. -/
theorem Dev.mustPause_congr : e.mustPause n = d.mustPause n := by
  have hgov : e.gov = d.gov := (congrArg Dev.gov hrest :)
  have htime : e.time = d.time := (congrArg Dev.time hrest :)
  have huhf : e.uhf = d.uhf := (congrArg Dev.uhf hrest :)
  have hwindows : e.windows = d.windows := (congrArg Dev.windows hrest :)
  have hA : e.coexA = d.coexA := (congrArg Dev.coexA hrest :)
  have hB : e.coexB = d.coexB := (congrArg Dev.coexB hrest :)
  have hlim := Dev.limits_congr hrest hreg
  have hocc : e.occ = d.occ := funext fun k => by rw [Dev.occ, Dev.occ, hgov]
  have hchain : e.uhfc = d.uhfc := funext fun k => by rw [Dev.uhfc, Dev.uhfc, huhf]
  have hflag : ∀ g : Fld, g.addr % 0x80 ≠ 0x45 → g.addr % 0x80 ≠ 0x46 → e.flag g = d.flag g := fun g h5 h6 =>
    Dev.flag_eq_of_fld (Dev.fld_eq_of_reg (hreg _ h5 h6))
  have hmode : e.mode = d.mode := Dev.fld_eq_of_reg (g := F.SUP_MODE_CUR) (hreg _ (by decide) (by decide))
  have hgatedA : e.gatedA = d.gatedA := by
    rw [Dev.gatedA, Dev.gatedA, hmode, hflag _ (by decide) (by decide), hflag _ (by decide) (by decide)]
  have hgatedB : ∀ p, e.gatedB p = d.gatedB p := fun p => by rw [Dev.gatedB, Dev.gatedB, hflag _ (by decide) (by decide)]
  have hgrants : e.coexGranted = d.coexGranted := funext fun p => by rw [Dev.coexGranted, Dev.coexGranted, hgatedA, hgatedB, hA, hB]
  have hdwell : e.dwellSpent n = d.dwellSpent n := by rw [Dev.dwellSpent, Dev.dwellSpent, Dev.dwell, Dev.dwell, hocc, htime, hlim]
  have hmasked : e.maskedOut n = d.maskedOut n := by rw [Dev.maskedOut, Dev.maskedOut, hocc, hlim]
  have hpermit : e.unpermitted n = d.unpermitted n := by
    rw [Dev.unpermitted, Dev.unpermitted, Dev.uhfPairPort, Dev.uhfPairPort, hchain]
    simp only [Dev.uhfPermit_congr hrest hreg]
  have hduty : e.dutySpent = d.dutySpent := by rw [Dev.dutySpent, Dev.dutySpent, Dev.dutyUsed, Dev.dutyUsed, hmode, hgov, htime, hlim]
  have hwin : e.windowOpen = d.windowOpen := by
    rw [Dev.windowOpen, Dev.windowOpen, Dev.windowsApply, Dev.windowsApply, hmode, hwindows, hflag _ (by decide) (by decide)]
  have hungranted : e.ungranted n = d.ungranted n := by rw [Dev.ungranted, Dev.ungranted, Dev.uhfTeam, Dev.uhfTeam, hchain, hgrants]
  rw [Dev.mustPause, Dev.mustPause, hdwell, hmasked, hpermit, hduty, hwin, hungranted]

end

/-- The counts of a slot that stayed empty. -/
def Dev.emptyCounted (d : Dev) (n : Nat) (captured : Bool) : Dev :=
  let e := d.bump (F.UHFCn_SLOTCNT0_EMPTY n) 1
  if captured then e.bump (F.UHFCn_SLOTCNT1_CAPTURE n) 1 else e

theorem Dev.emptyCounted_spec (d : Dev) (n : Nat) (b : Bool) : let e := d.emptyCounted n b
    e = { d with regs := e.regs } ∧ (∀ a, a % 0x80 ≠ 0x45 → a % 0x80 ≠ 0x46 → e.reg a = d.reg a) ∧
      e.fld (F.UHFCn_SLOTCNT0_EMPTY n) = satAdd 0xFFFF (d.fld (F.UHFCn_SLOTCNT0_EMPTY n)) 1 := by
  have hone : ∀ a, a % 0x80 ≠ 0x45 → a % 0x80 ≠ 0x46 → (d.bump (F.UHFCn_SLOTCNT0_EMPTY n) 1).reg a = d.reg a := fun a h5 h6 =>
    Dev.reg_bump_other (by rintro rfl; simp only [F.UHFCn_SLOTCNT0_EMPTY] at h5; omega)
  have hcount : (d.bump (F.UHFCn_SLOTCNT0_EMPTY n) 1).fld (F.UHFCn_SLOTCNT0_EMPTY n) = satAdd 0xFFFF (d.fld (F.UHFCn_SLOTCNT0_EMPTY n)) 1 :=
    Dev.fld_bump (f := F.UHFCn_SLOTCNT0_EMPTY n) (Nat.le_of_ble_eq_true rfl)
  unfold Dev.emptyCounted
  dsimp only
  split
  · refine ⟨rfl, fun a h5 h6 => (Dev.reg_bump_other ?_).trans (hone a h5 h6), (Dev.fld_bump_other (.inl ?_) (Nat.le_of_ble_eq_true rfl)).trans hcount⟩
    · rintro rfl
      simp only [F.UHFCn_SLOTCNT1_CAPTURE] at h6
      omega
    · simp only [F.UHFCn_SLOTCNT0_EMPTY, F.UHFCn_SLOTCNT1_CAPTURE]
      omega
  · exact ⟨rfl, hone, hcount⟩

/-- An attempt whose slot stayed empty, Q unchanged. -/
def UhfAttempt.afterEmpty (a : UhfAttempt) : UhfAttempt :=
  { a with qfp := max (20 * uQMin a.params) (a.qfp - uC a.params), awaiting := none, rx := none, acks := 0, slotColl := false, slotCapt := false, nakResult := none }

theorem Dev.slotEnd_empty {d : Dev} {n : Nat} {a : UhfAttempt} (hmore : a.slots ≠ 2 ^ a.q)
    (hq : (max (20 * uQMin a.params) (a.qfp - uC a.params) + 10) / 20 = a.q) (hgo : d.mustPause n = false) :
    d.slotEnd n a 1 = ((d.emptyCounted n a.slotCapt).setUhfAtt n a.afterEmpty).pushPkt n a.afterEmpty .queryRep := by
  obtain ⟨hrest, hreg, -⟩ := d.emptyCounted_spec n a.slotCapt
  have hgo' : (d.emptyCounted n a.slotCapt).mustPause n = false := (Dev.mustPause_congr hrest hreg).trans hgo
  unfold Dev.slotEnd
  extract_lets c qfp x y qn b pause
  have hy : y = d.emptyCounted n a.slotCapt := rfl
  have hb : b = a.afterEmpty := by
    simp [b, UhfAttempt.afterEmpty, qfp, c]
  have hqn : qn = b.q := hq
  rw [if_neg (by rw [hqn]; simp), if_neg hmore]
  have hpause : pause y b .queryRep = if y.mustPause n then (y.setUhfAtt n b).uhfRestart n else (y.setUhfAtt n b).pushPkt n b .queryRep := rfl
  rw [hpause, hy, hb, hgo']
  rfl

section
variable {d : Dev} {n : Nat} {a : UhfAttempt} (hn : n < 2) (hatt : (d.uhfc n).att = some a) (hrx : a.rx = none)
include hn hatt hrx

theorem Dev.uhfTimeout_slot {p : Pkt} (hp : p = .query ∨ p = .queryRep) (hawait : a.awaiting = some p) (hmore : a.slots ≠ 2 ^ a.q)
    (hq : (max (20 * uQMin a.params) (a.qfp - uC a.params) + 10) / 20 = a.q) (hgo : d.mustPause n = false)
    (hroom : (d.uhfc n).queue.length < 8) (hback : (d.uhfc n).backlog = []) : let x := d.uhfTimeout n
    (∃ b, (x.uhfc n).att = some b ∧ b.qfp = max (20 * uQMin a.params) (a.qfp - uC a.params) ∧ b.q = a.q ∧ b.awaiting = none ∧ b.found = a.found) ∧
      (x.uhfc n).queue = (d.uhfc n).queue ++ [(.packet .queryRep (queryRepFrame a.params) 0, d.time)] ∧
      x.fld (F.UHFCn_SLOTCNT0_EMPTY n) = satAdd 0xFFFF (d.fld (F.UHFCn_SLOTCNT0_EMPTY n)) 1 := by
  have hquiet : quietFld (F.UHFCn_SLOTCNT0_EMPTY n) := ⟨Nat.le_of_ble_eq_true rfl, .inl (by simp only [quietOffset, F.UHFCn_SLOTCNT0_EMPTY]; omega)⟩
  have hrow : d.uhfTimeout n = ((d.emptyCounted n a.slotCapt).setUhfAtt n a.afterEmpty).pushPkt n a.afterEmpty .queryRep := by
    have hend : d.uhfTimeout n = d.slotEnd n { a with awaiting := none } 1 := by
      rcases hp with rfl | rfl <;> simp [Dev.uhfTimeout, hatt, hawait, hrx, Pkt.delayed]
    rw [hend]
    exact Dev.slotEnd_empty (a := { a with awaiting := none }) hmore hq hgo
  obtain ⟨hrest, -, hcount⟩ := d.emptyCounted_spec n a.slotCapt
  have hchain : (d.emptyCounted n a.slotCapt).uhfc n = d.uhfc n := (congrArg (fun x : Dev => x.uhfc n) hrest :)
  have htime : (d.emptyCounted n a.slotCapt).time = d.time := (congrArg Dev.time hrest :)
  generalize d.emptyCounted n a.slotCapt = y at *
  obtain ⟨hatt', hqueue⟩ := Dev.uhfc_setAtt_pushPkt (d := y) hn (by rw [hchain]; exact hroom) (by rw [hchain]; exact hback) a.afterEmpty .queryRep
  have hradio := ((Dev.RadioOnly.refl y).setUhfAtt (n := n) (a := a.afterEmpty)).pushPkt (n := n) (a := a.afterEmpty) (p := .queryRep)
  rw [← hrow] at hatt' hqueue hradio
  refine ⟨⟨a.afterEmpty, hatt', rfl, rfl, rfl, rfl⟩, ?_, (hradio.flds _ hquiet).trans hcount⟩
  rw [hqueue, hchain, htime]
  rfl

theorem Dev.uhfTimeout_handle (hheld : a.held = none) (hawait : a.awaiting = some .reqRn) : d.uhfEnded (d.uhfTimeout n) n Code.UHF_NO_REPLY := by
  have hrow : d.uhfTimeout n = d.uhfFailBare n { a with awaiting := none } Code.UHF_NO_REPLY := by
    simp [Dev.uhfTimeout, hatt, hawait, hrx, Pkt.delayed]
  rw [hrow]
  exact Dev.uhfEnded_of_fail (Dev.uhfFailBare_ended hn hheld)

theorem Dev.uhfTimeout_access (hrun : d.phase = .running) (hheld : a.held = none) (hawait : a.awaiting = some .access) : let x := d.uhfTimeout n
    d.uhfEnded x n (if accessCmd a.tmpl a.tbits = .read then Code.UHF_NO_REPLY else Code.UHF_WRITE_UNVERIFIED) ∧
      (accessCmd a.tmpl a.tbits ≠ .read → d.time < 2 ^ 64 → (d.uhfc n).sentAt + 20000 < 2 ^ 64 → (d.uhfc n).sentAt + 20000 ≤ x.time) := by
  intro x
  by_cases hread : accessCmd a.tmpl a.tbits = .read
  · have hrow : x = d.uhfFailBare n { a with awaiting := none } Code.UHF_NO_REPLY := by
      simp [x, Dev.uhfTimeout, hatt, hawait, hrx, Pkt.delayed, hread]
    rw [hrow, if_pos hread]
    exact ⟨Dev.uhfEnded_of_fail (Dev.uhfFailBare_ended hn hheld), fun h => absurd hread h⟩
  · have hrow : x = (d.reach ((d.uhfc n).sentAt + 20000)).uhfFailBare n { a with awaiting := none } Code.UHF_WRITE_UNVERIFIED := by
      simp [x, Dev.uhfTimeout, hatt, hawait, hrx, Pkt.delayed, hread]
    have hended := Dev.uhfFailBare_ended (d := d.reach ((d.uhfc n).sentAt + 20000)) (a := { a with awaiting := none }) (code := Code.UHF_WRITE_UNVERIFIED) hn hheld
    have hends := Dev.uhfEnded_of_fail hended
    rw [← hrow] at hends hended
    rw [Dev.uhfEnded, Dev.uhfc_reach] at hends
    rw [if_neg hread]
    refine ⟨hends, fun _ htime hend => ?_⟩
    have hx : x.time = (d.reach ((d.uhfc n).sentAt + 20000)).time := (congrArg Dev.time hended.radio.rest :)
    rw [hx, Dev.reach_time hrun hend htime]
    exact Nat.le_max_right _ _

end

/-- Settles O55: `Dev.sendPacket_of` with `Dev.sent_spec`, `Dev.uhfPreamble_of`, and what each reply and each silence does. -/
theorem roundsAndReplies : Obligations.RoundsAndReplies := by
  unfold Obligations.RoundsAndReplies
  intro s n a hrun hatt
  have hn : n.val < 2 := n.isLt
  refine ⟨fun p bits after t hhead halone hust htrained hawait htuning hroom hplugged => ?_, fun hidle => ?_, fun p k hawait hust => ?_,
    fun p x0 r hawait hrx => ⟨fun hp hcoded hroom hback => ?_, fun hp hheld hcoded hcrc => ?_, fun hp hheld hcoded hcrc => ?_⟩,
    fun hrx => ⟨fun p hp hawait hmore hq hgo hroom hback => ?_, fun hheld hawait => ?_, fun hheld hawait => ?_⟩⟩
  · intro sends
    have hrow := Dev.sendPacket_of hn hhead hatt halone.1 hust htrained hawait htuning hroom hplugged
    have hsends : ∀ {v : Nat} {b : UhfAttempt}, v < 8 → s.dev.sendPacket n = s.dev.sent n v bits b → sends v b := by
      intro v b hv h
      refine completes_onLive (·.sendPacket n) hrun rfl ?_
      rw [h]
      exact Dev.sent_spec hn hv bits b
    refine ⟨fun hp hgo hdwell => ?_, fun hp => ?_, fun k hp hgo => ?_⟩
    · refine hsends (by decide) ?_
      rcases hp with rfl | rfl
      · exact hrow (fun _ => hgo) (fun _ => hdwell) rfl (by decide)
      · exact hrow (fun _ => hgo) (fun _ => hdwell) rfl (by decide)
    · subst hp
      exact hsends (by decide) (hrow (fun h => nomatch h) (fun h => nomatch h) rfl (by decide))
    · subst hp
      exact hsends (by decide) (hrow (fun _ => hgo) (fun h => nomatch h) rfl (fun h => nomatch h))
  · exact completes_onLive (·.sendPacket n) hrun rfl (Dev.sendPacket_idle hidle)
  · intro slot
    obtain ⟨hfirst, hlate, hstrong⟩ := Dev.uhfPreamble_of hatt hawait hust k
    have hwrites : ∀ {b : UhfAttempt}, s.dev.uhfPreamble n k = s.dev.setUhfAtt n b →
        completes (.uhfPreambleAcquired n k) s fun x => (x.uhfc n).att = some b := by
      intro b h
      refine completes_onLive (·.uhfPreamble n k) hrun rfl ?_
      rw [h, s.dev.uhfc_setUhfAtt hn]
    exact ⟨fun hrx => hwrites (hfirst hrx), fun x0 hrx h => hwrites (hlate x0 hrx h), fun x0 hrx h0 h1 h2 => hwrites (hstrong x0 hrx h0 h1 h2)⟩
  · exact completes_onLive (·.uhfReply n r) hrun rfl (Dev.uhfReply_rn16 hn hatt hrx hp hawait hcoded hroom hback)
  · subst hp
    exact completes_onLive (·.uhfReply n r) hrun rfl (Dev.uhfReply_raw hn hatt hrx hawait hheld hcoded hcrc)
  · subst hp
    obtain ⟨hcoll, hbad⟩ := Dev.uhfReply_noHandle hn hatt hrx hawait hheld hcoded hcrc
    exact ⟨fun h => completes_onLive (·.uhfReply n r) hrun rfl (hcoll h), fun h => completes_onLive (·.uhfReply n r) hrun rfl (hbad h)⟩
  · exact completes_onLive (·.uhfTimeout n) hrun rfl (Dev.uhfTimeout_slot hn hatt hrx hp hawait hmore hq hgo hroom hback)
  · exact completes_onLive (·.uhfTimeout n) hrun rfl (Dev.uhfTimeout_handle hn hatt hrx hheld hawait)
  · exact completes_onLive (·.uhfTimeout n) hrun rfl (Dev.uhfTimeout_access hn hatt hrx hrun hheld hawait)

end Sys2Proof.Machine
end

section
/-!
PROOFS. Faults of the UHF chains and ports, and the governor's cut (R181, R187, R189, R195, R196, R211, R252, R482).
-/

namespace Sys2Proof.Machine

open Sys2Proof

-- one proof after another: the check bounds the memory that the stacks of parallel proofs take
set_option Elab.async false

/-! ### Fields that show a fault (R187, R211) -/

/-- FAULT and LAST_CODE of a chain, what a port's STAT shows but ACTIVE, GOV_STAT.INH, the chain bits of FLT_STAT, and the profile that a port is bound to: no field of
these is written as a carrier comes down or a chain goes OFF. -/
def faultFld (g : Fld) : Prop :=
  g.hi < 32 ∧ ((g.addr = 0x401 ∨ g.addr = 0x481) ∧ (g.lo = 17 ∧ g.hi = 17 ∨ 24 ≤ g.lo) ∨ g.addr = 0x607 ∧ g.hi < 18 ∨ g.addr = 0xF80 ∧ 25 < g.lo ∨
    (∃ q, q < 8 ∧ g.addr = 0x501 + 0x8 * q ∧ (g.hi < 30 ∨ 30 < g.lo)) ∨ ∃ q, g.addr = 0x500 + 0x8 * q ∧ g.hi < 5)

/-- A field that shows no fault. -/
def faultless (f : Fld) : Prop := ∀ g, faultFld g → apart f g

theorem faultless_chain {f : Fld} (c : Nat) {k : Nat} (hk : k < 2) (hf : f.addr = c + 0x80 * k) (hlow : 0x401 < c := by decide) (hc : c < 0x480 := by decide) :
    faultless f := by
  rintro g ⟨-, h | h | h | ⟨q, -, h⟩ | ⟨q, h⟩⟩ <;> refine .inl ?_ <;> omega

theorem faultless_stat {f : Fld} {k : Nat} (hk : k < 2) (hf : f.addr = R.UHFCn_STAT k) (hbits : f.hi < 17 ∨ 17 < f.lo ∧ f.hi < 24) : faultless f := by
  simp only [R.UHFCn_STAT] at hf
  rintro g ⟨-, ⟨-, h⟩ | ⟨h, -⟩ | ⟨h, -⟩ | ⟨q, hq, h, -⟩ | ⟨q, h, -⟩⟩
  · refine .inr ?_
    omega
  all_goals exact .inl (by omega)

theorem faultless_active {p : Nat} : faultless (F.UHFPn_STAT_ACTIVE p) := by
  rintro g ⟨-, ⟨h, -⟩ | ⟨h, -⟩ | ⟨h, -⟩ | ⟨q, hq, h, hbits⟩ | ⟨q, h, -⟩⟩
  case inr.inr.inr.inl =>
    refine .inr ?_
    simp only [F.UHFPn_STAT_ACTIVE]
    omega
  all_goals exact .inl (by simp only [F.UHFPn_STAT_ACTIVE]; omega)

theorem faultless_fixed {f : Fld} (hf : (f.addr = R.GOV_STAT ∧ 17 < f.lo) ∨ f.addr = R.UHF_STEER ∨ f.addr = R.COEX_STAT ∨ f.addr = R.FLT_STAT ∧ 5 ≤ f.lo ∧ f.hi < 26) :
    faultless f := by
  simp only [R.GOV_STAT, R.UHF_STEER, R.COEX_STAT, R.FLT_STAT] at hf
  rintro g ⟨-, ⟨h, -⟩ | ⟨h, hbits⟩ | ⟨h, hbits⟩ | ⟨q, hq, h, hbits⟩ | ⟨q, h, hbits⟩⟩
  · exact .inl (by omega)
  · by_cases hsame : g.addr = f.addr
    · exact .inr (by omega)
    · exact .inl hsame
  · by_cases hsame : g.addr = f.addr
    · exact .inr (by omega)
    · exact .inl hsame
  · exact .inl (by omega)
  · by_cases hsame : g.addr = f.addr
    · exact .inr (by omega)
    · exact .inl hsame

/-- What shows faults is as it was. -/
def Dev.FaultsStand (d e : Dev) : Prop := ∀ g, faultFld g → e.fld g = d.fld g

namespace Dev.FaultsStand

variable {d e x : Dev} {n : Nat}

theorem refl (d : Dev) : FaultsStand d d := fun _ _ => rfl

theorem trans (h : FaultsStand d e) (g : FaultsStand e x) : FaultsStand d x := fun f hf => (g f hf).trans (h f hf)

theorem setFld {f : Fld} {v : Nat} (h : FaultsStand d e) (hf : faultless f) : FaultsStand d (e.setFld f v) :=
  fun g hg => (Dev.fld_setFld_other (hf g hg) hg.1).trans (h g hg)

theorem setFlag {f : Fld} {b : Bool} (h : FaultsStand d e) (hf : faultless f) : FaultsStand d (e.setFlag f b) := h.setFld hf

theorem setReg {c k : Nat} {v : Word} (h : FaultsStand d e) (hk : k < 2) (hlow : 0x401 < c := by decide) (hc : c < 0x480 := by decide) :
    FaultsStand d (e.setReg (c + 0x80 * k) v) := fun g hg => by
  have haddr : g.addr ≠ c + 0x80 * k := by
    obtain ⟨-, ⟨h, -⟩ | ⟨h, -⟩ | ⟨h, -⟩ | ⟨q, -, h, -⟩ | ⟨q, h, -⟩⟩ := hg <;> omega
  exact (congrArg (bitsOf · g.hi g.lo) (Dev.reg_setReg_other haddr)).trans (h g hg)

theorem govern (h : FaultsStand d e) (g : Gov) (a b : Wires) : FaultsStand d { e with gov := g, coexA := a, coexB := b } := h

theorem onUhf {m : Nat} {f : UhfChain → UhfChain} (h : FaultsStand d e) : FaultsStand d (e.onUhf m f) := h

theorem ite {c : Prop} [Decidable c] {y z : Dev} (hy : FaultsStand d y) (hz : FaultsStand d z) : FaultsStand d (if c then y else z) := by
  split
  · exact hy
  · exact hz

theorem showCoex (h : FaultsStand d e) : FaultsStand d e.showCoex := fun g hg => by
  have haddr : g.addr ≠ 0x681 := by
    obtain ⟨-, ⟨h, -⟩ | ⟨h, -⟩ | ⟨h, -⟩ | ⟨q, hq, h, -⟩ | ⟨q, h, -⟩⟩ := hg <;> omega
  exact (Dev.fld_eq_of_reg (Dev.reg_showCoex haddr)).trans (h g hg)

theorem coexIdle (h : FaultsStand d e) : FaultsStand d e.coexIdle := (h.govern _ _ _).showCoex

theorem showOcc {m : Nat} (h : FaultsStand d e) : FaultsStand d (e.showOcc m) := by
  refine h.setFld (faultless_fixed (.inl ?_))
  split
  · exact ⟨rfl, by decide⟩
  · exact ⟨rfl, by decide⟩

theorem unhold {m : Nat} (h : FaultsStand d e) : FaultsStand d (e.unhold m) := by
  refine h.setFlag (faultless_fixed (.inl ?_))
  split
  · exact ⟨rfl, by decide⟩
  · exact ⟨rfl, by decide⟩

section
variable (hn : n < 2)
include hn

theorem setUst {v : Nat} (h : FaultsStand d e) : FaultsStand d (e.setUst n v) :=
  h.setFld (faultless_stat hn rfl (.inr ⟨Nat.le_of_ble_eq_true rfl, Nat.le_of_ble_eq_true rfl⟩))

theorem untrain (h : FaultsStand d e) : FaultsStand d (e.untrain n) :=
  h.onUhf.setFlag
    (faultless_stat hn rfl (.inr ⟨Nat.le_of_ble_eq_true rfl, Nat.le_of_ble_eq_true rfl⟩))

omit hn in
theorem rampOff (h : FaultsStand d e) : FaultsStand d (e.rampOff n) := by
  unfold Dev.rampOff
  dsimp only
  split
  · exact ((h.govern _ _ _).govern _ _ _).showOcc
  · exact h.govern _ _ _

theorem rampDown1 (h : FaultsStand d e) : FaultsStand d (e.rampDown1 n) := by
  unfold Dev.rampDown1
  extract_lets x y z
  have hx : FaultsStand d x := (h.setUst hn).rampOff
  have hy : FaultsStand d y := (hx.setFlag (faultless_chain 0x40A hn rfl)).setFld (faultless_chain 0x40A hn rfl)
  have hz : FaultsStand d z := ((hy.setFld (faultless_chain 0x40A hn rfl)).setFld (faultless_chain 0x409 hn rfl)).onUhf
  clear_value z
  refine .ite h ?_
  split
  · exact hz.setFlag faultless_active
  · exact hz

section
variable (hpartner : (e.uhfc n).partner = none)
include hpartner

theorem rampDown (h : FaultsStand d e) : FaultsStand d (e.rampDown n) := by
  unfold Dev.rampDown
  rw [Dev.forTeam_alone hpartner]
  exact ((h.rampDown1 hn).setFlag (faultless_fixed (.inr (.inl rfl)))).coexIdle

theorem toStandby (h : FaultsStand d e) : FaultsStand d (e.toStandby n) := by
  have hdown := h.rampDown hn hpartner
  have hpartner' : ((e.rampDown n).uhfc n).partner = none :=
    (congrArg UhfChain.partner ((Dev.CarrierOnly.refl e).rampDown.uhf n hn) :).trans hpartner
  unfold Dev.toStandby
  dsimp only
  rw [Dev.forTeam_alone hpartner']
  generalize e.rampDown n = y at *
  have hstat : ∀ {f : Fld}, f.addr = R.UHFCn_STAT n → 17 < f.lo ∧ f.hi < 24 → faultless f := fun hf hb => faultless_stat hn hf (.inr hb)
  exact .ite hdown ((((hdown.setUst hn).setFlag (hstat rfl ⟨Nat.le_of_ble_eq_true rfl, Nat.le_of_ble_eq_true rfl⟩)).setFlag
    (hstat rfl ⟨Nat.le_of_ble_eq_true rfl, Nat.le_of_ble_eq_true rfl⟩)).onUhf.untrain hn)

theorem applyAfter {c : Nat} (h : FaultsStand d e) : FaultsStand d (e.applyAfter n c) := by
  unfold Dev.applyAfter
  split
  · exact h.rampDown hn hpartner
  · exact h.toStandby hn hpartner
  · unfold Dev.teamCw
    rw [Dev.forTeam_alone hpartner]
    exact .ite (h.setUst hn) h

theorem pauseIdle (h : FaultsStand d e) : FaultsStand d (e.pauseIdle n) := .ite (h.rampDown hn hpartner) h

theorem toOff (h : FaultsStand d e) : FaultsStand d (e.toOff n) := by
  have hdown := (h.rampDown1 hn).coexIdle
  have hcarrier := ((Dev.CarrierOnly.refl e).rampDown1 (n := n)).coexIdle
  have hpartner' : ((e.rampDown1 n).coexIdle.uhfc n).partner = none := (congrArg UhfChain.partner (hcarrier.uhf n hn) :).trans hpartner
  exact (hdown.toStandby hn hpartner').setUst hn

end

theorem uhfDrop (h : FaultsStand d e) : FaultsStand d (e.uhfDrop n) := by
  have hpartner : ((e.onUhf n UhfChain.dropped).uhfc n).partner = none := by rw [Dev.uhfc_onUhf hn]; rfl
  have hstat : ∀ {f : Fld}, f.addr = R.UHFCn_STAT n → f.hi < 17 → faultless f := fun hf hb => faultless_stat hn hf (.inl hb)
  have hy : FaultsStand d (e.onUhf n UhfChain.dropped) := h.onUhf
  have hdrop : e.uhfDrop n = ((((e.onUhf n UhfChain.dropped).setFlag (F.UHFCn_STAT_PORT_VALID n) false).setFld (F.UHFCn_POWER_PERMIT n) 0).setFld
    (F.UHFCn_STAT_ROLE n) 0).toStandby n := rfl
  rw [hdrop]
  generalize e.onUhf n UhfChain.dropped = y at *
  exact (((hy.setFlag (hstat rfl (Nat.le_of_ble_eq_true rfl))).setFld (faultless_chain 0x409 hn rfl)).setFld
    (hstat rfl (Nat.le_of_ble_eq_true rfl))).toStandby hn hpartner

end

end Dev.FaultsStand

/-! ### No hot standby while a chain is faulty (R67, R191) -/

/-- Registers alone differ, none of them a fault or a chain's state. -/
structure Dev.Shown (d e : Dev) : Prop where
  rest : e = { d with regs := e.regs }
  faults : d.FaultsStand e
  ust : ∀ m, m < 2 → e.ust m = d.ust m

namespace Dev.Shown

variable {d e : Dev}

theorem refl (d : Dev) : Shown d d := ⟨rfl, .refl d, fun _ _ => rfl⟩

theorem setFld {f : Fld} {v : Nat} (h : Shown d e) (hf : faultless f) (hs : notState f) : Shown d (e.setFld f v) where
  rest := congrArg (·.setFld f v) h.rest
  faults := h.faults.setFld hf
  ust m hm := (Dev.ust_setFld_apart (hs m hm)).trans (h.ust m hm)

theorem ite {c : Prop} [Decidable c] {y z : Dev} (hy : Shown d y) (hz : Shown d z) : Shown d (if c then y else z) := by
  split
  · exact hy
  · exact hz

theorem setRole {m v : Nat} (h : Shown d e) (hm : m < 2) : Shown d (e.setFld (F.UHFCn_STAT_ROLE m) v) :=
  h.setFld (faultless_stat hm rfl (.inl (Nat.le_of_ble_eq_true rfl))) (notState_stat m rfl (.inl (Nat.le_of_ble_eq_true rfl)))

theorem setNoStandby {b : Bool} (h : Shown d e) : Shown d (e.setFlag F.FLT_STAT_NO_STANDBY b) :=
  h.setFld (faultless_fixed (.inr (.inr (.inr ⟨rfl, by decide, by decide⟩)))) notState_fixed

end Dev.Shown

theorem Dev.standbyLost_shown {d : Dev} {n : Nat} (hn : n < 2) (hfault : d.flag (F.UHFCn_STAT_FAULT n) = true) : d.Shown d.standbyLost := by
  have hsick : (d.uhfHealthy 0 && d.uhfHealthy 1) = false := by
    have hnot : d.uhfHealthy n = false := by simp [Dev.uhfHealthy, hfault]
    obtain rfl | rfl : n = 0 ∨ n = 1 := by omega
    · rw [hnot]
      rfl
    · rw [hnot, Bool.and_false]
  have hstand : d.Shown d.restandby := by
    unfold Dev.restandby
    extract_lets free want old x y
    have hfree : free = fun _ => false := funext fun m => by simp only [free, hsick, Bool.false_and]
    have hwant : want = none := by
      have hdef : want = if !Mode.strict d.mode then none else (d.uhfStandby.filter free).orElse fun _ => [1, 0].find? free := rfl
      rw [hdef, hfree]
      split
      · rfl
      · cases d.uhfStandby <;> rfl
    have hx : d.Shown x := Dev.forEach_keeps (P := d.Shown) (.refl d) fun z m hm hz => by
      have hm2 : m < 2 := by
        simp only [List.mem_cons, List.not_mem_nil, or_false] at hm
        omega
      exact .ite (hz.setRole hm2) (.ite (hz.setRole hm2) hz)
    have hy : d.Shown y := .ite hx.setNoStandby hx
    clear_value y want
    subst hwant
    exact hy
  unfold Dev.standbyLost
  exact .ite hstand.setNoStandby hstand

/-! ### A chain fault with no step touched (R181, R187, R482) -/

/-- A chain that has left its work and is OFF: its fault and its code shown. -/
def Dev.latches (e : Dev) (n code : Nat) : Prop :=
  e.flag (F.UHFCn_STAT_FAULT n) = true ∧ e.fld (F.UHFCn_STAT_LAST_CODE n) = code ∧ e.flag ⟨R.FLT_STAT, 26 + n, 26 + n⟩ = true ∧ (e.uhfc n).latched = code ∧
    e.ust n = Ust.off ∧ (e.uhfc n).owner = none ∧ (e.uhfc n).port = none

/-- A chain's fault latched. -/
def Dev.withUhfFault (d : Dev) (n code : Nat) : Dev :=
  (((d.setFlag (F.UHFCn_STAT_FAULT n) true).setFld (F.UHFCn_STAT_LAST_CODE n) code).setFlag ⟨R.FLT_STAT, 26 + n, 26 + n⟩ true).onUhf n fun u => { u with latched := code }

/-- A chain whose fault is latched, out of its work and OFF. -/
def Dev.failedOff (d : Dev) (n code : Nat) : Dev := ((((d.withUhfFault n code).rampDown n).uhfDrop n).toOff n).standbyLost

theorem faultFld_fault {n : Nat} (hn : n < 2) : faultFld (F.UHFCn_STAT_FAULT n) :=
  ⟨Nat.le_of_ble_eq_true rfl, .inl ⟨by simp only [F.UHFCn_STAT_FAULT]; omega, .inl ⟨rfl, rfl⟩⟩⟩

theorem faultFld_code {n : Nat} (hn : n < 2) : faultFld (F.UHFCn_STAT_LAST_CODE n) :=
  ⟨Nat.le_of_ble_eq_true rfl, .inl ⟨by simp only [F.UHFCn_STAT_LAST_CODE]; omega, .inr (Nat.le_of_ble_eq_true rfl)⟩⟩

theorem faultFld_chain {n : Nat} (hn : n < 2) : faultFld ⟨R.FLT_STAT, 26 + n, 26 + n⟩ := ⟨by simp only; omega, .inr (.inr (.inl ⟨rfl, by simp only; omega⟩))⟩

theorem Dev.withUhfFault_spec (d : Dev) {n code : Nat} (hn : n < 2) (hcode : code < 256) : let e := d.withUhfFault n code
    e.flag (F.UHFCn_STAT_FAULT n) = true ∧ e.fld (F.UHFCn_STAT_LAST_CODE n) = code ∧ e.flag ⟨R.FLT_STAT, 26 + n, 26 + n⟩ = true ∧
      e.uhfc n = { d.uhfc n with latched := code } ∧ e.reg R.GOV_STAT = d.reg R.GOV_STAT ∧ e.time = d.time := by
  have hf := faultFld_fault hn
  have hc := faultFld_code hn
  have hne : R.UHFCn_STAT n ≠ R.FLT_STAT := by simp only [R.UHFCn_STAT, R.FLT_STAT]; omega
  obtain ⟨y, hy⟩ : ∃ y, y = (d.setFlag (F.UHFCn_STAT_FAULT n) true).setFld (F.UHFCn_STAT_LAST_CODE n) code := ⟨_, rfl⟩
  have hyfault : y.flag (F.UHFCn_STAT_FAULT n) = true := by
    rw [hy]
    exact (Dev.flag_setFld_other (.inr (.inl (Nat.le_of_ble_eq_true rfl))) hf.1).trans (Dev.flag_setFlag rfl hf.1)
  have hycode : y.fld (F.UHFCn_STAT_LAST_CODE n) = code := by
    rw [hy]
    exact Dev.fld_setFld_small hc.1 hcode
  have hygov : y.reg R.GOV_STAT = d.reg R.GOV_STAT := by
    have hg : R.GOV_STAT ≠ R.UHFCn_STAT n := by simp only [R.UHFCn_STAT, R.GOV_STAT]; omega
    rw [hy]
    exact (Dev.reg_setFld_other hg).trans (Dev.reg_setFld_other hg)
  have hyrest : y.uhfc n = d.uhfc n ∧ y.time = d.time := by
    rw [hy]
    exact ⟨rfl, rfl⟩
  have hlatch : d.withUhfFault n code = (y.setFlag ⟨R.FLT_STAT, 26 + n, 26 + n⟩ true).onUhf n fun u => { u with latched := code } := by rw [hy]; rfl
  clear hy
  have hzself := Dev.uhfc_onUhf (d := y.setFlag ⟨R.FLT_STAT, 26 + n, 26 + n⟩ true) (f := fun u => { u with latched := code }) hn
  have hztime : ((y.setFlag ⟨R.FLT_STAT, 26 + n, 26 + n⟩ true).onUhf n fun u => { u with latched := code }).time = y.time := rfl
  have hzreg : ∀ a, ((y.setFlag ⟨R.FLT_STAT, 26 + n, 26 + n⟩ true).onUhf n fun u => { u with latched := code }).reg a =
      (y.setFlag ⟨R.FLT_STAT, 26 + n, 26 + n⟩ true).reg a := fun a => Dev.reg_onUhf ..
  have hwchain := faultFld_chain hn
  have hwflag : (y.setFlag ⟨R.FLT_STAT, 26 + n, 26 + n⟩ true).flag ⟨R.FLT_STAT, 26 + n, 26 + n⟩ = true := Dev.flag_setFlag rfl hwchain.1
  have hwreg : ∀ a, a ≠ R.FLT_STAT → (y.setFlag ⟨R.FLT_STAT, 26 + n, 26 + n⟩ true).reg a = y.reg a := fun a ha => Dev.reg_setFld_other ha
  rw [Dev.uhfc_setFlag] at hzself
  rw [← hlatch] at hzself hztime hzreg
  generalize y.setFlag ⟨R.FLT_STAT, 26 + n, 26 + n⟩ true = w at *
  intro e
  refine ⟨?_, ?_, ?_, by rw [hzself, hyrest.1], ?_, hztime.trans hyrest.2⟩
  · exact (Dev.flag_eq_of_fld (Dev.fld_eq_of_reg (g := F.UHFCn_STAT_FAULT n) ((hzreg _).trans (hwreg _ hne)))).trans hyfault
  · exact (Dev.fld_eq_of_reg (g := F.UHFCn_STAT_LAST_CODE n) ((hzreg _).trans (hwreg _ hne))).trans hycode
  · exact (Dev.flag_eq_of_fld (Dev.fld_eq_of_reg (g := ⟨R.FLT_STAT, 26 + n, 26 + n⟩) (hzreg _))).trans hwflag
  · exact (hzreg _).trans ((hwreg _ (by decide)).trans hygov)

/-- A chain that gives up its port and goes OFF: but for carriers, the chain that holds nothing. -/
theorem Dev.uhfDropOff_carriers (d : Dev) {n : Nat} : (d.onUhf n UhfChain.dropped).CarrierOnly ((d.uhfDrop n).toOff n) := by
  have hdrop : d.uhfDrop n = ((((d.onUhf n UhfChain.dropped).setFlag (F.UHFCn_STAT_PORT_VALID n) false).setFld (F.UHFCn_POWER_PERMIT n) 0).setFld
    (F.UHFCn_STAT_ROLE n) 0).toStandby n := rfl
  rw [hdrop]
  generalize d.onUhf n UhfChain.dropped = y
  exact ((((((Dev.CarrierOnly.refl y).setFlag loud_chain).setFld loud_chain).setFld loud_chain).toStandby.rampDown1).coexIdle.toStandby).setUst

theorem Dev.uhfDrop_partner (d : Dev) {n : Nat} (hn : n < 2) : ((d.uhfDrop n).uhfc n).partner = none := by
  have hdrop : d.uhfDrop n = ((((d.onUhf n UhfChain.dropped).setFlag (F.UHFCn_STAT_PORT_VALID n) false).setFld (F.UHFCn_POWER_PERMIT n) 0).setFld
    (F.UHFCn_STAT_ROLE n) 0).toStandby n := rfl
  have hself := Dev.uhfc_onUhf (d := d) (f := UhfChain.dropped) hn
  rw [hdrop]
  generalize d.onUhf n UhfChain.dropped = y at *
  have hcarrier := (((((Dev.CarrierOnly.refl y).setFlag (f := F.UHFCn_STAT_PORT_VALID n) (v := false) loud_chain).setFld (f := F.UHFCn_POWER_PERMIT n) (v := 0)
    loud_chain).setFld (f := F.UHFCn_STAT_ROLE n) (v := 0) loud_chain).toStandby (n := n)).uhf n hn
  exact (congrArg UhfChain.partner hcarrier :).trans (by rw [hself]; rfl)

theorem Dev.failedOff_spec (d : Dev) {n code : Nat} (hn : n < 2) (hcode : code < 256) (hpartner : (d.uhfc n).partner = none) : let e := d.failedOff n code
    e.latches n code ∧ (e.uhfc n).inhibited = (d.uhfc n).inhibited ∧ (∀ g, g.addr = R.GOV_STAT → g.hi < 18 → e.fld g = d.fld g) ∧ e.time = d.time := by
  obtain ⟨hfault, hlast, hchain, hself, hgov, htime⟩ := d.withUhfFault_spec hn hcode
  have hpartner' : ((d.withUhfFault n code).uhfc n).partner = none := by rw [hself]; exact hpartner
  unfold Dev.failedOff
  generalize d.withUhfFault n code = y at *
  have hdown := (Dev.CarrierOnly.refl y).rampDown (n := n)
  have hdownfaults := (Dev.FaultsStand.refl y).rampDown hn hpartner'
  generalize y.rampDown n = z at *
  have hzself := hdown.uhf n hn
  have hztime : z.time = y.time := (congrArg Dev.time hdown.rest :)
  have hoff := z.uhfOff_spec hn
  have hcarrier := z.uhfDropOff_carriers (n := n)
  have hfaults := ((Dev.FaultsStand.refl z).uhfDrop hn).toOff hn (z.uhfDrop_partner hn)
  have hvself := hcarrier.uhf n hn
  rw [Dev.uhfc_onUhf hn] at hvself
  have hvtime : ((z.uhfDrop n).toOff n).time = z.time := (congrArg Dev.time hcarrier.rest :)
  generalize (z.uhfDrop n).toOff n = v at *
  have hall := hdownfaults.trans hfaults
  have hvfault : v.flag (F.UHFCn_STAT_FAULT n) = true := (Dev.flag_eq_of_fld (hall _ (faultFld_fault hn))).trans hfault
  have hshown := Dev.standbyLost_shown hn hvfault
  generalize v.standbyLost = e at *
  have heself : e.uhfc n = v.uhfc n := (congrArg (fun x : Dev => x.uhfc n) hshown.rest :)
  have hetime : e.time = v.time := (congrArg Dev.time hshown.rest :)
  have hstand := hall.trans hshown.faults
  refine ⟨⟨?_, ?_, ?_, ?_, ?_, ?_, ?_⟩, ?_, fun g haddr hbits => ?_, hetime.trans (hvtime.trans (hztime.trans htime))⟩
  · exact (Dev.flag_eq_of_fld (hstand _ (faultFld_fault hn))).trans hfault
  · exact (hstand _ (faultFld_code hn)).trans hlast
  · exact (Dev.flag_eq_of_fld (hstand _ (faultFld_chain hn))).trans hchain
  · rw [heself, hvself]
    exact (congrArg UhfChain.latched hzself :).trans (by rw [hself])
  · exact (hshown.ust n hn).trans hoff.1.1
  · rw [heself, hvself]
    rfl
  · rw [heself, hvself]
    rfl
  · rw [heself, hvself]
    exact (congrArg UhfChain.inhibited hzself :).trans (by rw [hself])
  · have hg : faultFld g := ⟨by omega, .inr (.inl ⟨haddr, hbits⟩)⟩
    exact (hstand g hg).trans (Dev.fld_eq_of_reg (by rw [haddr]; exact hgov))

end Sys2Proof.Machine
end

section
/-!
PROOFS. Faults of the UHF chains and ports, and the governor's cut: the rows (R181, R187, R189, R195, R196, R211, R252, R482).
-/

namespace Sys2Proof.Machine

open Sys2Proof

-- one proof after another: the check bounds the memory that the stacks of parallel proofs take
set_option Elab.async false

/-! ### A chain fault that touches no step -/

/-- The port of a chain's step, as PORTCH shows it. -/
def Dev.faultPort (d : Dev) (n : Nat) : Nat := portch true n false ((d.uhfc n).port.getD 0)

/-- The chain serves a port of external route. -/
def Dev.external (d : Dev) (n : Nat) : Bool := (d.uhfc n).port.isSome && profRoute (d.uhfProfile ((d.uhfc n).port.getD 0)) != 0

theorem Dev.uhfChainFault_untouched {d : Dev} {n : Nat} (hfault : d.flag (F.UHFCn_STAT_FAULT n) = false) (hrun : d.phase = .running)
    (hstep : d.stepOn (4 + n) = none) (hpartner : (d.uhfc n).partner = none) (hn : n < 2) (code cls us : Nat) (again : Bool) :
    d.uhfChainFault n code cls us again = (d.failedOff n code).faultDone code cls (d.faultPort n) us .untouched (d.external n) none := by
  have hpartner' : ((d.withUhfFault n code).uhfc n).partner = none := by
    have hself := Dev.uhfc_onUhf (d := ((d.setFlag (F.UHFCn_STAT_FAULT n) true).setFld (F.UHFCn_STAT_LAST_CODE n) code).setFlag ⟨R.FLT_STAT, 26 + n, 26 + n⟩ true)
      (f := fun u => { u with latched := code }) hn
    exact (congrArg UhfChain.partner hself :).trans hpartner
  have hleave : (d.withUhfFault n code).uhfLeave n none again = (((d.withUhfFault n code).rampDown n).uhfDrop n, .untouched) := by
    simp only [Dev.uhfLeave, hpartner']
    rfl
  unfold Dev.uhfChainFault
  rw [hstep, hfault, Dev.live_of_running hrun]
  dsimp only
  rw [if_neg (by decide), hpartner]
  have hunfold : ((((d.setFlag (F.UHFCn_STAT_FAULT n) true).setFld (F.UHFCn_STAT_LAST_CODE n) code).setFlag ⟨R.FLT_STAT, 26 + n, 26 + n⟩ true).onUhf n
      fun u => { u with latched := code }) = d.withUhfFault n code := rfl
  rw [hunfold, hleave]
  rfl

/-- The chain that works with a step's chain. -/
def Dev.mateOf (d : Dev) (st : Step) : Option Nat := st.chain.bind fun m => if m ≥ 4 then (d.uhfc (m - 4)).partner.map (· + 4) else (d.hfc m).partner

/-- No step comes to be on a chain where the channels stay and no chain gains a partner. -/
theorem Dev.stepOn_none_of {d e : Dev} {ch : Nat} (hchans : e.chans = d.chans) (hhf : e.hf = d.hf)
    (hmates : ∀ m q, (e.uhfc m).partner = some q → (d.uhfc m).partner = some q) (h : d.stepOn ch = none) : e.stepOn ch = none := by
  have hmate : ∀ st, e.mateOf st = some ch → d.mateOf st = some ch := by
    intro st
    unfold Dev.mateOf
    cases st.chain with
    | none => exact id
    | some m =>
      dsimp only [Option.bind_some]
      split
      · intro hq
        obtain ⟨q, hq, hch⟩ := Option.map_eq_some_iff.1 hq
        rw [hmates _ _ hq, ← hch]
        rfl
      · rw [Dev.hfc, Dev.hfc, hhf]
        exact id
  have hself : ∀ x : Dev, x.stepOn ch = x.chans.findSome? fun y => match y.2.step with
      | some st => if st.phase = .running && (st.chain == some ch || x.mateOf st == some ch) then some (y.1, y.2, st) else none
      | none => none := fun _ => rfl
  rw [hself, List.findSome?_eq_none_iff] at h
  rw [hself, hchans, List.findSome?_eq_none_iff]
  intro y hy
  have hwas := h y hy
  cases hst : y.2.step with
  | none => rfl
  | some st =>
    rw [hst] at hwas
    dsimp only at hwas ⊢
    refine if_neg fun hnow => ?_
    rw [if_pos] at hwas
    · cases hwas
    · simp only [Bool.and_eq_true, Bool.or_eq_true, beq_iff_eq] at hnow ⊢
      exact ⟨hnow.1, hnow.2.imp id (hmate st)⟩

/-- Past the chains there are, a chain that has just been written shows none. -/
theorem Dev.uhfc_onUhf_beyond {d : Dev} {n m : Nat} {f : UhfChain → UhfChain} (hm : 2 ≤ m) : (d.onUhf n f).uhfc m = {} := by
  have hlen : (tableSet 2 {} d.uhf n (f (d.uhfc n))).length = 2 := by simp [tableSet]
  exact List.getD_eq_default _ _ (hlen.le.trans hm)

/-- A chain written keeps no step from being absent, where its partner stays. -/
theorem Dev.stepOn_none_onUhf {d : Dev} {n ch : Nat} {f : UhfChain → UhfChain} (hf : ∀ u, (f u).partner = u.partner) (h : d.stepOn ch = none) :
    (d.onUhf n f).stepOn ch = none := by
  refine Dev.stepOn_none_of (d := d) rfl rfl (fun m q hq => ?_) h
  by_cases hm : m < 2
  · by_cases hmn : m = n
    · subst hmn
      rw [Dev.uhfc_onUhf hm, hf] at hq
      exact hq
    · rw [Dev.uhfc_onUhf_other hm hmn] at hq
      exact hq
  · rw [Dev.uhfc_onUhf_beyond (Nat.le_of_not_lt hm)] at hq
    cases hq

/-! ### A synthesiser that fails (R187) -/

theorem Dev.synthFault_untouched {d : Dev} {n : Nat} (hn : n < 2) (hrun : d.phase = .running) (hpartner : (d.uhfc n).partner = none)
    (hwork : d.uhfOn n = true ∨ (d.uhfc n).tuning ≠ none) (hfault : d.flag (F.UHFCn_STAT_FAULT n) = false) (hstep : d.stepOn (4 + n) = none) (us : Nat) :
    ∃ e : Dev, d.synthFault n us = e.faultDone Code.UHF_SYNTH_FAULT 3 (d.faultPort n) us .untouched (d.external n) none ∧ e.latches n Code.UHF_SYNTH_FAULT ∧
      (d.uhfOn n = false → d.time < 2 ^ 64 → (d.uhfc n).tuneFrom + 1000 < 2 ^ 64 → (d.uhfc n).tuneFrom + 1000 ≤ e.time) := by
  unfold Dev.synthFault
  cases hon : d.uhfOn n
  · have htuning : (d.uhfc n).tuning.isSome = true := by
      rcases hwork with h | h
      · rw [hon] at h
        cases h
      · exact Option.isSome_iff_ne_none.2 h
    rw [if_neg Bool.false_ne_true, if_pos htuning]
    have htime : d.time < 2 ^ 64 → (d.uhfc n).tuneFrom + 1000 < 2 ^ 64 → (d.uhfc n).tuneFrom + 1000 ≤ (d.reach ((d.uhfc n).tuneFrom + 1000)).time := by
      intro h1 h2
      rw [Dev.reach_time hrun h2 h1]
      exact Nat.le_max_right _ _
    have hframe := d.reach_frame ((d.uhfc n).tuneFrom + 1000)
    generalize d.reach ((d.uhfc n).tuneFrom + 1000) = y at *
    obtain ⟨t, c, hy⟩ : ∃ t c, y = { d with time := t, attic := { d.attic with count := c } } := ⟨_, _, hframe⟩
    have hyself : y.uhfc n = d.uhfc n := by rw [hy]; rfl
    have hyfault : y.flag (F.UHFCn_STAT_FAULT n) = false := by rw [hy]; exact hfault
    have hyrun : y.phase = .running := by rw [hy]; exact hrun
    have hystep : y.stepOn (4 + n) = none := by rw [hy]; exact hstep
    have hyport : y.faultPort n = d.faultPort n := by rw [hy]; rfl
    have hyext : y.external n = d.external n := by rw [hy]; rfl
    clear hy hframe
    have hypartner : (y.uhfc n).partner = none := by rw [hyself]; exact hpartner
    obtain ⟨hlatches, -, -, hetime⟩ := y.failedOff_spec (code := Code.UHF_SYNTH_FAULT) hn (by decide) hypartner
    refine ⟨_, ?_, hlatches, fun _ h1 h2 => ?_⟩
    · rw [Dev.uhfChainFault_untouched hyfault hyrun hystep hypartner hn, hyport, hyext]
    · rw [hetime]
      exact htime h1 h2
  · rw [if_pos rfl]
    obtain ⟨hlatches, -, -, -⟩ := d.failedOff_spec (code := Code.UHF_SYNTH_FAULT) hn (by decide) hpartner
    exact ⟨_, Dev.uhfChainFault_untouched hfault hrun hstep hpartner hn _ _ _ _, hlatches, fun h => nomatch h⟩

/-! ### An output above its permit (R252) -/

/-- A chain inhibited by the governor, as shown and counted. -/
def Dev.inhibit (d : Dev) (n : Nat) : Dev :=
  ((d.bump F.GOV_CNT_INHIBIT 1).setFlag (if n = 0 then F.GOV_STAT_INH0 else F.GOV_STAT_INH1) true).onUhf n fun u => { u with inhibited := true }

theorem Dev.overlimit_untouched {d : Dev} {n : Nat} (hn : n < 2) (hrun : d.phase = .running) (hpartner : (d.uhfc n).partner = none)
    (hfault : d.flag (F.UHFCn_STAT_FAULT n) = false) (hstep : d.stepOn (4 + n) = none) (us : Nat) :
    ∃ e : Dev, (d.inhibit n).uhfChainFault n Code.GOV_OVERLIMIT 4 us true =
        e.faultDone Code.GOV_OVERLIMIT 4 (d.faultPort n) us .untouched (d.external n) none ∧ e.latches n Code.GOV_OVERLIMIT ∧
      e.flag (if n = 0 then F.GOV_STAT_INH0 else F.GOV_STAT_INH1) = true ∧ (e.uhfc n).inhibited = true := by
  obtain ⟨f, hf⟩ : ∃ f, f = if n = 0 then F.GOV_STAT_INH0 else F.GOV_STAT_INH1 := ⟨_, rfl⟩
  have hffacts : f.addr = R.GOV_STAT ∧ f.hi = f.lo ∧ f.hi < 18 := by
    rw [hf]
    split
    · exact ⟨rfl, rfl, by decide⟩
    · exact ⟨rfl, rfl, by decide⟩
  obtain ⟨haddr, hone, hbits⟩ := hffacts
  obtain ⟨y, hy⟩ : ∃ y, y = (d.bump F.GOV_CNT_INHIBIT 1).setFlag f true := ⟨_, rfl⟩
  have hinh : d.inhibit n = y.onUhf n fun u => { u with inhibited := true } := by rw [hy, hf]; rfl
  have hyreg : ∀ a, a ≠ R.GOV_STAT → a ≠ 0x609 → y.reg a = d.reg a := fun a hg hc => by
    rw [hy]
    exact (Dev.reg_setFld_other (by rw [haddr]; exact hg)).trans (Dev.reg_bump_other hc)
  have hyflag : y.flag f = true := by
    rw [hy]
    exact Dev.flag_setFlag hone (by omega)
  have hyrest : y.uhfc n = d.uhfc n ∧ y.phase = d.phase ∧ y.tables = d.tables := by
    rw [hy]
    exact ⟨rfl, rfl, rfl⟩
  have hystep : y.stepOn (4 + n) = none := by
    rw [hy]
    exact hstep
  clear hy
  obtain ⟨hychain, hyrun, hytables⟩ := hyrest
  have hstat : y.reg (R.UHFCn_STAT n) = d.reg (R.UHFCn_STAT n) :=
    hyreg _ (by simp only [R.UHFCn_STAT, R.GOV_STAT]; omega) (by simp only [R.UHFCn_STAT]; omega)
  have hprof : ∀ p, y.uhfProfile p = d.uhfProfile p := fun p =>
    Dev.uhfProfile_congr hytables (hyreg _ (by simp only [R.UHFPn_CFG, R.GOV_STAT]; omega) (by simp only [R.UHFPn_CFG]; omega))
  have hzself := Dev.uhfc_onUhf (d := y) (f := fun u => { u with inhibited := true }) hn
  have hzstep := Dev.stepOn_none_onUhf (n := n) (f := fun u => { u with inhibited := true }) (fun _ => rfl) hystep
  have hzfld : ∀ g, (y.onUhf n fun u => { u with inhibited := true }).fld g = y.fld g := fun g => Dev.fld_eq_of_reg (Dev.reg_onUhf ..)
  have hzrun : (y.onUhf n fun u => { u with inhibited := true }).phase = y.phase := rfl
  have hzprof : ∀ p, (y.onUhf n fun u => { u with inhibited := true }).uhfProfile p = y.uhfProfile p := fun p =>
    Dev.uhfProfile_congr rfl (Dev.reg_onUhf ..)
  rw [← hinh] at hzself hzstep hzfld hzrun hzprof
  clear hinh
  generalize d.inhibit n = z at *
  rw [hychain] at hzself
  have hzpartner : (z.uhfc n).partner = none := by rw [hzself]; exact hpartner
  have hzfault : z.flag (F.UHFCn_STAT_FAULT n) = false :=
    (Dev.flag_eq_of_fld ((hzfld _).trans (Dev.fld_eq_of_reg (g := F.UHFCn_STAT_FAULT n) hstat))).trans hfault
  obtain ⟨hlatches, hinhibited, hgov, -⟩ := z.failedOff_spec (code := Code.GOV_OVERLIMIT) hn (by decide) hzpartner
  refine ⟨_, ?_, hlatches, ?_, ?_⟩
  · rw [Dev.uhfChainFault_untouched hzfault (hzrun.trans (hyrun.trans hrun)) hzstep hzpartner hn]
    rw [Dev.faultPort, Dev.faultPort, Dev.external, Dev.external, hzself, hzprof, hprof]
  · rw [← hf]
    exact (Dev.flag_eq_of_fld ((hgov f haddr hbits).trans (hzfld f))).trans hyflag
  · rw [hinhibited, hzself]

/-! ### The external power loop (R195) -/

/-- Of the fields that show faults, those that an attempt ending leaves too: all but a chain's LAST_CODE. -/
def calmFld (g : Fld) : Prop := faultFld g ∧ (g.addr = 0x401 ∨ g.addr = 0x481 → g.lo = 17 ∧ g.hi = 17)

theorem Dev.uhfShowFrame_calm (d : Dev) {n : Nat} (hn : n < 2) (f : ResFrame) {g : Fld} (hg : calmFld g) : (d.uhfShowFrame n f).fld g = d.fld g := by
  have hcode : apart (F.UHFCn_STAT_LAST_CODE n) g := by
    by_cases hstat : g.addr = 0x401 ∨ g.addr = 0x481
    · obtain ⟨hlo, hhi⟩ := hg.2 hstat
      exact .inr (.inl (by rw [hhi]; exact Nat.le_of_ble_eq_true rfl))
    · refine .inl ?_
      simp only [F.UHFCn_STAT_LAST_CODE]
      omega
  have hbump : ∀ {y : Dev} {h : Fld}, h.addr = 0x447 + 0x80 * n → y.fld g = d.fld g → (y.bump h 1).fld g = d.fld g := fun {y h} hh hy =>
    (Dev.fld_bump_other (faultless_chain 0x447 hn hh (by decide) (by decide) g hg.1) hg.1.1).trans hy
  unfold Dev.uhfShowFrame
  extract_lets s fl fm stat lvl ph shown
  have hph : ph.fld g = d.fld g := ((((Dev.FaultsStand.refl d).setReg hn).setReg hn).setReg hn) g hg.1
  clear_value ph
  have hshown : shown.fld g = d.fld g := by
    unfold shown
    split
    · exact (Dev.fld_setFld_other hcode hg.1.1).trans hph
    · exact hph
  clear_value shown
  split
  · exact hbump rfl hshown
  split
  · exact hbump rfl hshown
  split
  · exact hbump rfl hshown
  · exact hshown

theorem Dev.FaultsStand.showQueue {d e : Dev} {n : Nat} (hn : n < 2) (h : d.FaultsStand e) : d.FaultsStand (e.showQueue n) :=
  h.setFld (faultless_chain 0x40F hn rfl)

theorem Dev.FaultsStand.radioClear {d e : Dev} {n : Nat} (hn : n < 2) (h : d.FaultsStand e) : d.FaultsStand (e.radioClear n) := by
  unfold Dev.radioClear
  extract_lets w x
  have hx : d.FaultsStand x := h.onUhf.showQueue hn
  exact .ite hx.coexIdle hx

theorem Dev.FaultsStand.showRound {d e : Dev} {n : Nat} (hn : n < 2) (h : d.FaultsStand e) : d.FaultsStand (e.showRound n) := by
  unfold Dev.showRound
  split
  · exact (h.setReg hn).setReg hn
  · extract_lets x y
    have hy : d.FaultsStand y := (h.setReg hn).setFld (faultless_chain 0x448 hn rfl)
    exact .ite ((hy.setFlag (faultless_chain 0x448 hn rfl)).setFld (faultless_chain 0x448 hn rfl)) hy

theorem Dev.uhfPush_calm (d : Dev) {n : Nat} (hn : n < 2) (f : ResFrame) {g : Fld} (hg : calmFld g) : (d.uhfPush n f).fld g = d.fld g :=
  (Dev.fld_eq_of_reg (Dev.reg_onUhf ..)).trans (d.uhfShowFrame_calm hn f hg)

theorem Dev.uhfFinish_calm (d : Dev) {n : Nat} (hn : n < 2) (a : UhfAttempt) (f : ResFrame) {g : Fld} (hg : calmFld g) : (d.uhfFinish n a f).fld g = d.fld g := by
  have hrest : ∀ y : Dev, y.FaultsStand (((((y.radioClear n).unhold n).onUhf n fun u => { u with att := none })).showRound n) := fun y =>
    ((((Dev.FaultsStand.refl y).radioClear hn).unhold).onUhf).showRound hn
  unfold Dev.uhfFinish
  dsimp only
  split
  · exact (hrest _ g hg.1).trans ((Dev.uhfPush_calm _ hn f hg).trans (d.uhfPush_calm hn _ hg))
  · exact (hrest _ g hg.1).trans (d.uhfPush_calm hn f hg)

/-- What an attempt that fails leaves of a chain that works alone: its port, its lone state, and what shows faults but LAST_CODE. -/
theorem Dev.uhfFailBare_calm (d : Dev) {n : Nat} (hn : n < 2) (a : UhfAttempt) (code : Nat) (hpartner : (d.uhfc n).partner = none) : let e := d.uhfFailBare n a code
    (∀ g, calmFld g → e.fld g = d.fld g) ∧ ∀ m, m < 2 → (e.uhfc m).holds = (d.uhfc m).holds := by
  have hshape : d.uhfFailBare n a code = d.uhfEnd n { a with rx := none } (d.uhfFrame n { a with rx := none } [] [] code 0 0 0 true) := rfl
  rw [hshape]
  generalize d.uhfFrame n { a with rx := none } [] [] code 0 0 0 true = f
  generalize { a with rx := none } = b
  have hcalm := fun g hg => d.uhfFinish_calm hn b f (g := g) hg
  have hwork := ((Dev.AtWork.refl n d).uhfFinish (a := b) (f := f)).held
  unfold Dev.uhfEnd
  generalize d.uhfFinish n b f = y at *
  have hholds : (y.uhfc n).partner = none := by
    have h := congrArg (fun z => z.2.2.1) (hwork n hn)
    exact h.trans hpartner
  have hafter := (Dev.FaultsStand.refl y).applyAfter (c := uAfter b.params) hn hholds
  have hcarrier := (Dev.CarrierOnly.refl y).applyAfter (n := n) (c := uAfter b.params)
  generalize y.applyAfter n (uAfter b.params) = z at *
  have hz : (z.uhfc n).partner = none := (congrArg UhfChain.partner (hcarrier.uhf n hn) :).trans hholds
  have hpause := (Dev.FaultsStand.refl z).pauseIdle hn hz
  have hcarrier' := (Dev.CarrierOnly.refl z).pauseIdle (n := n)
  refine ⟨fun g hg => (hpause g hg.1).trans ((hafter g hg.1).trans (hcalm g hg)), fun m hm => ?_⟩
  exact (congrArg UhfChain.holds (hcarrier'.uhf m hm) :).trans ((congrArg UhfChain.holds (hcarrier.uhf m hm) :).trans (hwork m hm))

/-- A power loop failure counted, and the carrier down. -/
def Dev.loopDown (d : Dev) (n : Nat) : Dev := ((d.bump (F.UHFCn_CNT_PALOOP n) 1).onUhf n fun u => { u with paFails := u.paFails + 1 }).rampDown n

/-- The attempt, where there is one, ended by the failure. -/
def Dev.loopEnded (d : Dev) (n : Nat) : Dev :=
  match (d.uhfc n).att with
  | some a => d.uhfFailBare n a Code.UHF_PA_LOOP
  | none => d

theorem Dev.paLoop_of {d : Dev} {n : Nat} (hn : n < 2) (hmaster : (d.uhfc n).master = true) :
    d.paLoop n = ((d.loopDown n).loopEnded n).onUhf n fun u => { u with paFails := (d.uhfc n).paFails + 1 } := by
  have hself := Dev.uhfc_onUhf (d := d.bump (F.UHFCn_CNT_PALOOP n) 1) (f := fun u => { u with paFails := u.paFails + 1 }) hn
  have hm : (((d.bump (F.UHFCn_CNT_PALOOP n) 1).onUhf n fun u => { u with paFails := u.paFails + 1 }).uhfMaster n) = n :=
    Dev.uhfMaster_alone (by rw [hself]; exact hmaster)
  have hk : (((d.bump (F.UHFCn_CNT_PALOOP n) 1).onUhf n fun u => { u with paFails := u.paFails + 1 }).uhfc n).paFails = (d.uhfc n).paFails + 1 := by
    rw [hself]
    rfl
  unfold Dev.paLoop
  dsimp only
  rw [hm, hk]
  rfl

section
variable {d : Dev} {n : Nat} (hn : n < 2) (hpartner : (d.uhfc n).partner = none)
include hn hpartner

theorem Dev.loopDown_spec : let e := d.loopDown n
    (∀ g, calmFld g → e.fld g = d.fld g) ∧ e = { d with regs := e.regs, uhf := e.uhf, gov := e.gov, coexA := e.coexA, coexB := e.coexB } ∧ e.uhfOn n = false ∧
      e.fld (F.UHFCn_CNT_PALOOP n) = satAdd 255 (d.fld (F.UHFCn_CNT_PALOOP n)) 1 ∧
      ({ d.uhfc n with paFails := (d.uhfc n).paFails + 1 }).carrierOnly (e.uhfc n) ∧ ∀ m, m < 2 → (e.uhfc m).holds = (d.uhfc m).holds := by
  have hquiet : quietFld (F.UHFCn_CNT_PALOOP n) := ⟨Nat.le_of_ble_eq_true rfl, .inl (by simp only [quietOffset, F.UHFCn_CNT_PALOOP]; omega)⟩
  have hcount : (d.bump (F.UHFCn_CNT_PALOOP n) 1).fld (F.UHFCn_CNT_PALOOP n) = satAdd 255 (d.fld (F.UHFCn_CNT_PALOOP n)) 1 :=
    Dev.fld_bump (f := F.UHFCn_CNT_PALOOP n) hquiet.1
  have hfaults : d.FaultsStand (d.bump (F.UHFCn_CNT_PALOOP n) 1) := (Dev.FaultsStand.refl d).setFld (faultless_chain 0x40E hn rfl)
  have hrest : d.bump (F.UHFCn_CNT_PALOOP n) 1 = { d with regs := (d.bump (F.UHFCn_CNT_PALOOP n) 1).regs } := rfl
  unfold Dev.loopDown
  generalize d.bump (F.UHFCn_CNT_PALOOP n) 1 = y at *
  have hyself : y.uhfc n = d.uhfc n := (congrArg (fun x : Dev => x.uhfc n) hrest :)
  have hself := Dev.uhfc_onUhf (d := y) (f := fun u => { u with paFails := u.paFails + 1 }) hn
  rw [hyself] at hself
  have hother := fun m hm hne => Dev.uhfc_onUhf_other (d := y) (f := fun u => { u with paFails := u.paFails + 1 }) (n := n) (m := m) hm hne
  have hyother : ∀ m, y.uhfc m = d.uhfc m := fun m => (congrArg (fun x : Dev => x.uhfc m) hrest :)
  have hzfaults := hfaults.onUhf (m := n) (f := fun u => { u with paFails := u.paFails + 1 })
  have hzcount : (y.onUhf n fun u => { u with paFails := u.paFails + 1 }).fld (F.UHFCn_CNT_PALOOP n) = y.fld (F.UHFCn_CNT_PALOOP n) :=
    Dev.fld_eq_of_reg (Dev.reg_onUhf ..)
  have hzrest : (y.onUhf n fun u => { u with paFails := u.paFails + 1 }) = { d with
      regs := y.regs, uhf := (y.onUhf n fun u => { u with paFails := u.paFails + 1 }).uhf } := by
    obtain ⟨r, hr⟩ : ∃ r, y = { d with regs := r } := ⟨_, hrest⟩
    rw [hr]
    rfl
  generalize (y.onUhf n fun u => { u with paFails := u.paFails + 1 }) = z at *
  have hzpartner : (z.uhfc n).partner = none := by rw [hself]; exact hpartner
  have hcarrier := (Dev.CarrierOnly.refl z).rampDown (n := n)
  have hdown := (Dev.FaultsStand.refl z).rampDown hn hzpartner
  have hoff := Dev.rampDown_off hn hzpartner
  generalize z.rampDown n = w at *
  have hwrest := hcarrier.rest
  rw [hzrest] at hwrest
  refine ⟨fun g hg => (hdown g hg.1).trans (hzfaults g hg.1), hwrest, hoff, ?_, ?_, fun m hm => ?_⟩
  · rw [hcarrier.flds _ hquiet, hzcount, hcount]
  · rw [← hself]
    exact hcarrier.uhf n hn
  · have hsame : (w.uhfc m).holds = (z.uhfc m).holds := (congrArg UhfChain.holds (hcarrier.uhf m hm) :)
    refine hsame.trans ?_
    by_cases hmn : m = n
    · subst hmn
      exact (congrArg UhfChain.holds hself :)
    · exact congrArg UhfChain.holds ((hother m hm hmn).trans (hyother m))

theorem Dev.loopEnded_spec : let e := d.loopEnded n
    (∀ g, calmFld g → e.fld g = d.fld g) ∧ e = { d with regs := e.regs, uhf := e.uhf, gov := e.gov, coexA := e.coexA, coexB := e.coexB } ∧
      ∀ m, m < 2 → (e.uhfc m).holds = (d.uhfc m).holds := by
  unfold Dev.loopEnded
  split
  · obtain ⟨hcalm, hholds⟩ := d.uhfFailBare_calm hn _ Code.UHF_PA_LOOP hpartner
    exact ⟨hcalm, (Dev.RadioOnly.refl d).uhfFailBare.rest, hholds⟩
  · exact ⟨fun _ _ => rfl, rfl, fun _ _ => rfl⟩

/-- A power loop failure, whatever the attempt holds back. -/
theorem Dev.paLoop_spec (hmaster : (d.uhfc n).master = true) : let e := d.paLoop n
    (∀ g, calmFld g → e.fld g = d.fld g) ∧ (e.uhfc n).holds = (d.uhfc n).holds ∧ (e.uhfc n).paFails = (d.uhfc n).paFails + 1 ∧
      (d.stepOn (4 + n) = none → e.stepOn (4 + n) = none) ∧ e.phase = d.phase ∧ e.tables = d.tables := by
  have hrow := Dev.paLoop_of hn hmaster
  obtain ⟨hcalm, hrest, -, -, hchain, hholds⟩ := Dev.loopDown_spec hn hpartner
  generalize d.loopDown n = y at *
  have hypartner : (y.uhfc n).partner = none := (congrArg UhfChain.partner hchain :).trans hpartner
  obtain ⟨hcalm', hrest', hholds'⟩ := Dev.loopEnded_spec hn hypartner
  generalize y.loopEnded n = z at *
  intro e
  change e = _ at hrow
  have hself := Dev.uhfc_onUhf (d := z) (f := fun u => { u with paFails := (d.uhfc n).paFails + 1 }) hn
  have hfld : ∀ g, (z.onUhf n fun u => { u with paFails := (d.uhfc n).paFails + 1 }).fld g = z.fld g := fun g => Dev.fld_eq_of_reg (Dev.reg_onUhf ..)
  have hzrest : z = { d with regs := z.regs, uhf := z.uhf, gov := z.gov, coexA := z.coexA, coexB := z.coexB } := by
    rw [hrest] at hrest'
    exact hrest'
  have hchans : z.chans = d.chans := (congrArg Dev.chans hzrest :)
  have hhf : z.hf = d.hf := (congrArg Dev.hf hzrest :)
  have hphase : z.phase = d.phase := (congrArg Dev.phase hzrest :)
  have htables : z.tables = d.tables := (congrArg Dev.tables hzrest :)
  have hpartners : ∀ m, m < 2 → (z.uhfc m).partner = (d.uhfc m).partner := fun m hm =>
    (congrArg (fun w => w.2.2.1) ((hholds' m hm).trans (hholds m hm)) :)
  have hothers := fun m hm hne => Dev.uhfc_onUhf_other (d := z) (f := fun u => { u with paFails := (d.uhfc n).paFails + 1 }) (n := n) (m := m) hm hne
  have hbeyond := fun m hm => Dev.uhfc_onUhf_beyond (d := z) (f := fun u => { u with paFails := (d.uhfc n).paFails + 1 }) (n := n) (m := m) hm
  have hkept : (z.onUhf n fun u => { u with paFails := (d.uhfc n).paFails + 1 }).chans = z.chans ∧
      (z.onUhf n fun u => { u with paFails := (d.uhfc n).paFails + 1 }).hf = z.hf ∧
      (z.onUhf n fun u => { u with paFails := (d.uhfc n).paFails + 1 }).phase = z.phase ∧
      (z.onUhf n fun u => { u with paFails := (d.uhfc n).paFails + 1 }).tables = z.tables := ⟨rfl, rfl, rfl, rfl⟩
  rw [← hrow] at hself hfld hothers hbeyond hkept
  obtain ⟨hkchans, hkhf, hkphase, hktables⟩ := hkept
  clear_value e
  refine ⟨fun g hg => (hfld g).trans ((hcalm' g hg).trans (hcalm g hg)), ?_, by rw [hself], fun hstep => ?_, hkphase.trans hphase, hktables.trans htables⟩
  · exact (congrArg UhfChain.holds hself :).trans ((hholds' n hn).trans (hholds n hn))
  · refine Dev.stepOn_none_of (hkchans.trans hchans) (hkhf.trans hhf) (fun m q hq => ?_) hstep
    by_cases hm : m < 2
    · rw [← hpartners m hm]
      by_cases hmn : m = n
      · subst hmn
        rw [hself] at hq
        exact hq
      · rw [hothers m hm hmn] at hq
        exact hq
    · rw [hbeyond m (Nat.le_of_not_lt hm)] at hq
      cases hq

/-- A power loop failure of a chain whose attempt holds nothing back. -/
theorem Dev.paLoop_ends (hmaster : (d.uhfc n).master = true) (hheld : ∀ a, (d.uhfc n).att = some a → a.held = none) : let e := d.paLoop n
    e.uhfOn n = false ∧ e.fld (F.UHFCn_CNT_PALOOP n) = satAdd 255 (d.fld (F.UHFCn_CNT_PALOOP n)) 1 ∧
      ((d.uhfc n).att ≠ none → d.uhfEnded e n Code.UHF_PA_LOOP) := by
  have hquiet : quietFld (F.UHFCn_CNT_PALOOP n) := ⟨Nat.le_of_ble_eq_true rfl, .inl (by simp only [quietOffset, F.UHFCn_CNT_PALOOP]; omega)⟩
  have hrow := Dev.paLoop_of hn hmaster
  obtain ⟨-, -, hoff, hcount, hchain, -⟩ := Dev.loopDown_spec hn hpartner
  generalize d.loopDown n = y at *
  have hypartner : (y.uhfc n).partner = none := (congrArg UhfChain.partner hchain :).trans hpartner
  have hyatt : (y.uhfc n).att = (d.uhfc n).att := (congrArg UhfChain.att hchain :)
  have hybufs : (y.uhfc n).bufs = (d.uhfc n).bufs := (congrArg UhfChain.bufs hchain :)
  obtain ⟨z, hz, hzoff, hzcount, hzended⟩ : ∃ z, z = y.loopEnded n ∧ z.uhfOn n = false ∧ z.fld (F.UHFCn_CNT_PALOOP n) = y.fld (F.UHFCn_CNT_PALOOP n) ∧
      ((d.uhfc n).att ≠ none → d.uhfEnded z n Code.UHF_PA_LOOP) := by
    refine ⟨_, rfl, ?_⟩
    unfold Dev.loopEnded
    split
    next a ha =>
      have hnone := hheld a (hyatt ▸ ha)
      have hended := Dev.uhfFailBare_ended (d := y) (code := Code.UHF_PA_LOOP) hn hnone
      have hends := Dev.uhfEnded_of_fail hended
      rw [Dev.uhfEnded, hybufs] at hends
      exact ⟨Dev.uhfEnd_off hn hypartner hnone hoff, hended.radio.flds _ hquiet, fun _ => hends⟩
    next hnone => exact ⟨hoff, rfl, fun h => absurd (hyatt ▸ hnone) h⟩
  rw [← hz] at hrow
  have hself := Dev.uhfc_onUhf (d := z) (f := fun u => { u with paFails := (d.uhfc n).paFails + 1 }) hn
  have hfld : ∀ g, (z.onUhf n fun u => { u with paFails := (d.uhfc n).paFails + 1 }).fld g = z.fld g := fun g => Dev.fld_eq_of_reg (Dev.reg_onUhf ..)
  rw [← hrow] at hself hfld
  intro e
  refine ⟨(Dev.uhfOn_congr (hfld (F.UHFCn_STAT_STATE n))).trans hzoff, (hfld _).trans (hzcount.trans hcount), fun h => ?_⟩
  have hends := hzended h
  rw [Dev.uhfEnded] at hends ⊢
  rw [hself]
  exact hends

end

/-- The third failure since a good ramp latches the chain. -/
theorem Dev.paLoopFault_latches {d : Dev} {n : Nat} (hn : n < 2) (hrun : d.phase = .running) (hpartner : (d.uhfc n).partner = none)
    (hmaster : (d.uhfc n).master = true) (hfault : d.flag (F.UHFCn_STAT_FAULT n) = false) (hstep : d.stepOn (4 + n) = none) (us : Nat) :
    ∃ e : Dev, (d.paLoop n).uhfChainFault n Code.UHF_CHAIN_FAULT 4 us false =
      e.faultDone Code.UHF_CHAIN_FAULT 4 (d.faultPort n) us .untouched (d.external n) none ∧ e.latches n Code.UHF_CHAIN_FAULT := by
  obtain ⟨hcalm, hholds, -, hestep, hephase, hetables⟩ := Dev.paLoop_spec hn hpartner hmaster
  generalize d.paLoop n = y at *
  have hport : (y.uhfc n).port = (d.uhfc n).port := (congrArg (fun w => w.2.1) hholds :)
  have hypartner : (y.uhfc n).partner = none := (congrArg (fun w => w.2.2.1) hholds :).trans hpartner
  have hyfault : y.flag (F.UHFCn_STAT_FAULT n) = false :=
    (Dev.flag_eq_of_fld (hcalm _ ⟨faultFld_fault hn, fun _ => ⟨rfl, rfl⟩⟩)).trans hfault
  have hprof : ∀ p, y.uhfProfile p = d.uhfProfile p := fun p => by
    have hg : calmFld (F.UHFPn_CFG_PROFILE p) := by
      refine ⟨⟨Nat.le_of_ble_eq_true rfl, .inr (.inr (.inr (.inr ⟨p, rfl, Nat.le_of_ble_eq_true rfl⟩)))⟩, fun h => ?_⟩
      simp only [F.UHFPn_CFG_PROFILE] at h
      omega
    rw [Dev.uhfProfile, Dev.uhfProfile, Dev.profile, Dev.profile, hetables, hcalm _ hg]
  obtain ⟨hlatches, -, -, -⟩ := y.failedOff_spec (code := Code.UHF_CHAIN_FAULT) hn (by decide) hypartner
  refine ⟨_, ?_, hlatches⟩
  rw [Dev.uhfChainFault_untouched hyfault (hephase.trans hrun) (hestep hstep) hypartner hn]
  rw [Dev.faultPort, Dev.faultPort, Dev.external, Dev.external, hport, hprof]

/-! ### The return loss of a port (R196, R211) -/

section
variable {d : Dev} {n q : Nat} (hn : n < 2) (hothers : ∀ m, m < 2 → m ≠ n → (d.uhfc m).port ≠ some q)
include hn hothers

/-- The chain that serves the port, if it is on. -/
theorem Dev.servingChain : ([0, 1].find? fun m => (d.uhfc m).port == some q && d.uhfOn m) =
    if (d.uhfc n).port = some q ∧ d.uhfOn n = true then some n else none := by
  have hnot : ∀ m, m < 2 → m ≠ n → ((d.uhfc m).port == some q && d.uhfOn m) = false := fun m hm hne => by
    rw [beq_false_of_ne (hothers m hm hne), Bool.false_and]
  have hself : ((d.uhfc n).port == some q && d.uhfOn n) = decide ((d.uhfc n).port = some q ∧ d.uhfOn n = true) := by
    rw [Bool.eq_iff_iff]
    simp
  obtain rfl | rfl : n = 0 ∨ n = 1 := by omega
  · rw [List.find?_cons, hself, List.find?_cons, hnot 1 (by omega) (by omega), List.find?_nil]
    split <;> split <;> simp_all
  · rw [List.find?_cons, hnot 0 (by omega) (by omega), List.find?_cons, hself, List.find?_nil]
    split <;> split <;> simp_all

end

/-- A port latched for its return loss. -/
def Dev.portLatched (d : Dev) (n q rl : Nat) : Dev :=
  ((((((d.rampDown n).setFlag (F.UHFPn_STAT_FAULT q) true).setFlag (F.UHFPn_STAT_RL_LOW q) true).setFld (F.UHFPn_STAT_RL q) rl).bump
    (F.UHFPn_CNT_FAULTS q) 1)).setFld (F.UHFCn_STAT_LAST_CODE n) Code.UHF_PORT_FAULT

theorem Dev.portLatched_spec {d : Dev} {n q rl : Nat} (hn : n < 2) (hq : q < 8) (hrl : rl < 256) (hpartner : (d.uhfc n).partner = none) : let e := d.portLatched n q rl
    e.flag (F.UHFPn_STAT_FAULT q) = true ∧ e.flag (F.UHFPn_STAT_RL_LOW q) = true ∧ e.fld (F.UHFPn_STAT_RL q) = rl ∧ e.uhfOn n = false ∧
      e.fld (F.UHFCn_STAT_LAST_CODE n) = Code.UHF_PORT_FAULT := by
  have hoff := Dev.rampDown_off hn hpartner
  have hstat : R.UHFPn_STAT q ≠ R.UHFCn_STAT n := by simp only [R.UHFPn_STAT, R.UHFCn_STAT]; omega
  have hcnt : R.UHFPn_STAT q ≠ (F.UHFPn_CNT_FAULTS q).addr := by simp only [R.UHFPn_STAT, F.UHFPn_CNT_FAULTS]; omega
  have hcnt' : R.UHFCn_STAT n ≠ (F.UHFPn_CNT_FAULTS q).addr := by simp only [R.UHFCn_STAT, F.UHFPn_CNT_FAULTS]; omega
  unfold Dev.portLatched
  generalize d.rampDown n = y at *
  obtain ⟨z, hz, hflag, hlow, hrlz, hzstat⟩ : ∃ z, z = ((y.setFlag (F.UHFPn_STAT_FAULT q) true).setFlag (F.UHFPn_STAT_RL_LOW q) true).setFld (F.UHFPn_STAT_RL q) rl ∧
      z.flag (F.UHFPn_STAT_FAULT q) = true ∧ z.flag (F.UHFPn_STAT_RL_LOW q) = true ∧ z.fld (F.UHFPn_STAT_RL q) = rl ∧
      z.reg (R.UHFCn_STAT n) = y.reg (R.UHFCn_STAT n) := by
    refine ⟨_, rfl, ?_, ?_, Dev.fld_setFld_small (Nat.le_of_ble_eq_true rfl) hrl, ?_⟩
    · refine (Dev.flag_setFld_other (.inr (.inr (Nat.le_of_ble_eq_true rfl))) (Nat.le_of_ble_eq_true rfl)).trans ?_
      exact (Dev.flag_setFlag_other (.inr (.inr (Nat.le_of_ble_eq_true rfl))) (Nat.le_of_ble_eq_true rfl)).trans
        (Dev.flag_setFlag rfl (Nat.le_of_ble_eq_true rfl))
    · exact (Dev.flag_setFld_other (.inr (.inr (Nat.le_of_ble_eq_true rfl))) (Nat.le_of_ble_eq_true rfl)).trans
        (Dev.flag_setFlag rfl (Nat.le_of_ble_eq_true rfl))
    · exact (Dev.reg_setFld_other hstat.symm).trans ((Dev.reg_setFld_other hstat.symm).trans (Dev.reg_setFld_other hstat.symm))
  rw [← hz]
  clear hz
  have hport : ((z.bump (F.UHFPn_CNT_FAULTS q) 1).setFld (F.UHFCn_STAT_LAST_CODE n) Code.UHF_PORT_FAULT).reg (R.UHFPn_STAT q) = z.reg (R.UHFPn_STAT q) :=
    (Dev.reg_setFld_other hstat).trans (Dev.reg_bump_other hcnt)
  have hust : ((z.bump (F.UHFPn_CNT_FAULTS q) 1).setFld (F.UHFCn_STAT_LAST_CODE n) Code.UHF_PORT_FAULT).ust n = y.ust n := by
    refine (Dev.ust_setFld_apart (.inr (.inl (Nat.le_of_ble_eq_true rfl)))).trans ?_
    exact Dev.fld_eq_of_reg (g := F.UHFCn_STAT_STATE n) ((Dev.reg_bump_other hcnt').trans hzstat)
  have hcode : ((z.bump (F.UHFPn_CNT_FAULTS q) 1).setFld (F.UHFCn_STAT_LAST_CODE n) Code.UHF_PORT_FAULT).fld (F.UHFCn_STAT_LAST_CODE n) = Code.UHF_PORT_FAULT :=
    Dev.fld_setFld_small (Nat.le_of_ble_eq_true rfl) (by decide : Code.UHF_PORT_FAULT < 256)
  generalize (z.bump (F.UHFPn_CNT_FAULTS q) 1).setFld (F.UHFCn_STAT_LAST_CODE n) Code.UHF_PORT_FAULT = e at *
  exact ⟨(Dev.flag_eq_of_fld (Dev.fld_eq_of_reg (g := F.UHFPn_STAT_FAULT q) hport)).trans hflag,
    (Dev.flag_eq_of_fld (Dev.fld_eq_of_reg (g := F.UHFPn_STAT_RL_LOW q) hport)).trans hlow,
    (Dev.fld_eq_of_reg (g := F.UHFPn_STAT_RL q) hport).trans hrlz, (Dev.uhfOn_congr hust).trans hoff, hcode⟩

section
variable {d : Dev} {n q rl : Nat} (hn : n < 2) (hothers : ∀ m, m < 2 → m ≠ n → (d.uhfc m).port ≠ some q)
include hn hothers

theorem Dev.uhfPortFault_off (hoff : d.uhfOn n = false) (us : Nat) : d.uhfPortFault q rl us = d := by
  unfold Dev.uhfPortFault
  rw [Dev.servingChain hn hothers, if_neg (by rw [hoff]; simp)]

variable (hon : d.uhfOn n = true) (hport : (d.uhfc n).port = some q)
include hon hport

theorem Dev.uhfPortFault_exempt (h : profRoute (d.uhfProfile q) ≠ 0 ∨ d.flag (F.UHFPn_STAT_FAULT q) = true) (us : Nat) : d.uhfPortFault q rl us = d := by
  unfold Dev.uhfPortFault
  rw [Dev.servingChain hn hothers, if_pos ⟨hport, hon⟩]
  refine if_pos ?_
  rw [Bool.or_eq_true, bne_iff_ne]
  exact h

variable (hroute : profRoute (d.uhfProfile q) = 0) (hfault : d.flag (F.UHFPn_STAT_FAULT q) = false)
include hroute hfault

theorem Dev.uhfPortFault_shown (hrl : byteAt (d.uhfProfile q) 3 ≤ rl) (us : Nat) : d.uhfPortFault q rl us = d.setFld (F.UHFPn_STAT_RL q) rl := by
  unfold Dev.uhfPortFault
  rw [Dev.servingChain hn hothers, if_pos ⟨hport, hon⟩]
  dsimp only
  rw [hroute, hfault, if_neg (by decide), if_pos hrl]

theorem Dev.uhfPortFault_latched (halone : d.uhfAlone n) (hrl : rl < byteAt (d.uhfProfile q) 3) (hstep : d.stepOn (4 + n) = none) (us : Nat) :
    d.uhfPortFault q rl us = (d.portLatched n q rl).faultDone Code.UHF_PORT_FAULT 5 (portch true n false q) us .untouched false none := by
  unfold Dev.uhfPortFault
  rw [Dev.servingChain hn hothers, if_pos ⟨hport, hon⟩]
  dsimp only
  rw [hroute, hfault, if_neg (by decide), if_neg (Nat.not_le.2 hrl), Dev.uhfMaster_alone halone.2.1, hstep, halone.1]
  rfl

end

/-- Settles O56: what a synthesiser's, the power loop's, an output's and a port's fault do, each with no step touched. -/
theorem uhfFaults : Obligations.UhfFaults := by
  unfold Obligations.UhfFaults
  intro s n us hrun halone p pch ext latches
  have hn : n.val < 2 := n.isLt
  have hn0 : ((n : Fin 2) = 0) = (n.val = 0) := propext Fin.ext_iff
  obtain ⟨hpartner, hmaster, -⟩ := id halone
  have hloopIf : s.dev.paLoopFault n us = if !s.dev.uhfOn n || !ext then s.dev
      else if ((s.dev.paLoop n).uhfc n).paFails ≥ 3 then (s.dev.paLoop n).uhfChainFault n Code.UHF_CHAIN_FAULT 4 us false else s.dev.paLoop n := by
    have hext : (s.dev.uhfc n).port.any (fun p => profRoute (s.dev.uhfProfile p) != 0) = ext := by
      simp only [ext, p]
      cases (s.dev.uhfc n).port <;> rfl
    rw [← hext]
    rfl
  have hloopOn : s.dev.uhfOn n = true → ext = true → s.dev.paLoopFault n us =
      if ((s.dev.paLoop n).uhfc n).paFails ≥ 3 then (s.dev.paLoop n).uhfChainFault n Code.UHF_CHAIN_FAULT 4 us false else s.dev.paLoop n := by
    intro hon hext
    rw [hloopIf, hon, hext]
    rfl
  have hsettles : ∀ {c : Instr} (f : Dev → Dev), exec c s = s.onEngine f → f s.dev = s.dev → completes c s (· = s.dev.settle) := fun f hf h =>
    completes_onEngine f hrun hf (by rw [h])
  refine ⟨fun hoff htuning => ?_, fun hwork hfault hstep => ?_, fun hon hfault hstep => ?_, fun hidle => ?_, fun hidle => ?_, fun hon hext hfew hheld => ?_,
    fun hon hext hmany hfault hstep => ?_, fun q rl hothers => ⟨fun hoff => ?_, fun hon hport => ⟨fun hexempt => ?_, fun hroute hfault => ⟨fun hrl => ?_, fun hrl hstep => ?_⟩⟩⟩⟩
  · refine hsettles (·.synthFault n us) rfl ?_
    rw [Dev.synthFault, hoff, htuning]
    rfl
  · obtain ⟨e, hrow, hlatches, htime⟩ := Dev.synthFault_untouched hn hrun hpartner hwork hfault hstep us
    exact completes_onEngine (·.synthFault n us) hrun rfl ⟨e, congrArg Dev.settle hrow, hlatches, htime⟩
  · obtain ⟨e, hrow, hlatches, hinh, hinhibited⟩ := Dev.overlimit_untouched hn hrun hpartner hfault hstep us
    have hover : s.dev.overlimit (.uhf n) us = (s.dev.inhibit n).uhfChainFault n Code.GOV_OVERLIMIT 4 us true := by
      rw [Dev.overlimit, hon, hfault, Dev.inhibit]
      simp only [hn0]
      rfl
    refine completes_onEngine (·.overlimit (.uhf n) us) hrun rfl ⟨e, congrArg Dev.settle (hover.trans hrow), hlatches, ?_, hinhibited⟩
    simp only [hn0]
    exact hinh
  · refine hsettles (·.overlimit (.uhf n) us) rfl (if_neg ?_)
    rw [Bool.and_eq_true, Bool.not_eq_true']
    rintro ⟨hon, hno⟩
    rcases hidle with h | h
    · exact absurd hon (by rw [h]; decide)
    · exact absurd hno (by rw [h]; decide)
  · refine hsettles (·.paLoopFault n us) rfl ?_
    rw [hloopIf, if_pos]
    rcases hidle with h | h <;> rw [h] <;> simp
  · obtain ⟨hcalm, -, hfails, -⟩ := Dev.paLoop_spec hn hpartner hmaster
    obtain ⟨hoff, hcount, hends⟩ := Dev.paLoop_ends hn hpartner hmaster hheld
    have hrow : s.dev.paLoopFault n us = s.dev.paLoop n := by
      rw [hloopOn hon hext, if_neg (by omega)]
    refine completes_onEngine (·.paLoopFault n us) hrun rfl ⟨_, congrArg Dev.settle hrow, hoff, hfails, ?_, hcount, hends⟩
    exact Dev.flag_eq_of_fld (hcalm _ ⟨faultFld_fault hn, fun _ => ⟨rfl, rfl⟩⟩)
  · obtain ⟨-, -, hfails, -⟩ := Dev.paLoop_spec hn hpartner hmaster
    obtain ⟨e, hrow, hlatches⟩ := Dev.paLoopFault_latches hn hrun hpartner hmaster hfault hstep us
    rw [← hloopOn hon hext |>.trans (if_pos (by omega))] at hrow
    exact completes_onEngine (·.paLoopFault n us) hrun rfl ⟨e, congrArg Dev.settle hrow, hlatches⟩
  · exact hsettles (·.uhfPortFault q rl us) rfl (Dev.uhfPortFault_off hn hothers hoff us)
  · exact hsettles (·.uhfPortFault q rl us) rfl (Dev.uhfPortFault_exempt hn hothers hon hport hexempt us)
  · refine completes_onEngine (·.uhfPortFault q rl us) hrun rfl ⟨_, congrArg Dev.settle (Dev.uhfPortFault_shown hn hothers hon hport hroute hfault hrl us), ?_, ?_, ?_⟩
    · exact Dev.fld_setFld_small (Nat.le_of_ble_eq_true rfl) rl.isLt
    · exact (Dev.flag_setFld_other (.inr (.inr (Nat.le_of_ble_eq_true rfl))) (Nat.le_of_ble_eq_true rfl)).trans hfault
    · exact (Dev.onlyRegs_refl _ _).fld (f := F.UHFPn_STAT_RL q) (List.mem_singleton.2 rfl)
  · exact completes_onEngine (·.uhfPortFault q rl us) hrun rfl ⟨_, congrArg Dev.settle (Dev.uhfPortFault_latched hn hothers hon hport hroute hfault halone hrl hstep us),
      Dev.portLatched_spec hn q.isLt rl.isLt hpartner⟩

end Sys2Proof.Machine
end

section
/-!
PROOFS. The options of the host port (R436) stay while the device runs: the operations on registers, chains, channels and steps.
-/

namespace Sys2Proof.Machine

open Sys2Proof

-- one proof after another: the check bounds the memory that the stacks of parallel proofs take
set_option Elab.async false

/-- The options of the host port: the boot alone writes them. -/
def Dev.HasOpts (o : Bytes) (d : Dev) : Prop := d.host.opts = o

namespace Dev.HasOpts

variable {o : Bytes} {d : Dev}

/-! ### Branches and loops -/

theorem ite {c : Prop} [Decidable c] {x y : Dev} (hx : HasOpts o x) (hy : HasOpts o y) : HasOpts o (if c then x else y) := by
  split
  · exact hx
  · exact hy

theorem foldl {α : Type} {l : List α} {f : Dev → α → Dev} (h : HasOpts o d) (hf : ∀ x a, HasOpts o x → HasOpts o (f x a)) :
    HasOpts o (l.foldl f d) := by
  induction l generalizing d with
  | nil => exact h
  | cons a l ih => exact ih (hf d a h)

theorem forEach {l : List Nat} {f : Dev → Nat → Dev} (h : HasOpts o d) (hf : ∀ x n, HasOpts o x → HasOpts o (f x n)) :
    HasOpts o (d.forEach l f) := h.foldl hf

/-! ### Registers, chains and tables -/

theorem setReg {a : Nat} {v : Word} (h : HasOpts o d) : HasOpts o (d.setReg a v) := h

theorem setFld {f : Fld} {v : Nat} (h : HasOpts o d) : HasOpts o (d.setFld f v) := h

theorem setFlag {f : Fld} {b : Bool} (h : HasOpts o d) : HasOpts o (d.setFlag f b) := h

theorem bump {f : Fld} {k : Nat} (h : HasOpts o d) : HasOpts o (d.bump f k) := h

theorem onHf {n : Nat} {f : HfChain → HfChain} (h : HasOpts o d) : HasOpts o (d.onHf n f) := h

theorem onUhf {n : Nat} {f : UhfChain → UhfChain} (h : HasOpts o d) : HasOpts o (d.onUhf n f) := h

theorem onJrn {f : Journal → Journal} (h : HasOpts o d) : HasOpts o (d.onJrn f) := h

theorem setChan {slot : Nat} {c : Chan} (h : HasOpts o d) : HasOpts o (d.setChan slot c) := h

theorem setObj {k : Nat} {x : Obj} (h : HasOpts o d) : HasOpts o (d.setObj k x) := h

theorem quotaClose {slot : Nat} (h : HasOpts o d) : HasOpts o (d.quotaClose slot) := h

theorem endSessions {p : Nat} (h : HasOpts o d) : HasOpts o (d.endSessions p) := h

theorem refuse {code source step subject need : Nat} (h : HasOpts o d) : HasOpts o (d.refuse code source step subject need) := h

theorem checkEnded {code : Nat} (h : HasOpts o d) : HasOpts o (d.checkEnded code) := h

theorem setUst {n v : Nat} (h : HasOpts o d) : HasOpts o (d.setUst n v) := h

theorem untrain {n : Nat} (h : HasOpts o d) : HasOpts o (d.untrain n) := h

theorem tuneTo {n c : Nat} (h : HasOpts o d) : HasOpts o (d.tuneTo n c) := h

theorem showOcc {n : Nat} (h : HasOpts o d) : HasOpts o (d.showOcc n) := h

theorem coexRelease {a b : Bool} (h : HasOpts o d) : HasOpts o (d.coexRelease a b) := h

theorem coexIdle (h : HasOpts o d) : HasOpts o d.coexIdle := h

theorem strike {pin ms : Nat} (h : HasOpts o d) : HasOpts o (d.strike pin ms) := h

theorem showPending {g : Group} (h : HasOpts o d) : HasOpts o (d.showPending g) := h

theorem writeShadow {g : Group} {a : Nat} {v : Word} (h : HasOpts o d) : HasOpts o (d.writeShadow g a v) := h

theorem unhold {n : Nat} (h : HasOpts o d) : HasOpts o (d.unhold n) := h

theorem showQueue {n : Nat} (h : HasOpts o d) : HasOpts o (d.showQueue n) := h

theorem radioPush {n : Nat} {c : RadioCmd} (h : HasOpts o d) : HasOpts o (d.radioPush n c) := h

theorem pushPkt {n : Nat} {a : UhfAttempt} {p : Pkt} (h : HasOpts o d) : HasOpts o (d.pushPkt n a p) := h

theorem hfConnect {n p : Nat} {owner : Option Nat} (h : HasOpts o d) : HasOpts o (d.hfConnect n p owner) := h

/-! ### Channels, histories and events -/

theorem event {kind arg handle : Nat} {data : Bytes} (h : HasOpts o d) : HasOpts o (d.event kind arg handle data) := .ite h h

theorem runEvent {t : FrameTag} {code seq : Nat} (h : HasOpts o d) : HasOpts o (d.runEvent t code seq) := .ite h.event h

theorem onChan {slot : Nat} {f : Chan → Chan} (h : HasOpts o d) : HasOpts o (d.onChan slot f) := by
  unfold Dev.onChan
  split
  · exact h.setChan
  · exact h

theorem setStep {slot : Nat} {st : Step} (h : HasOpts o d) : HasOpts o (d.setStep slot st) := h.onChan

theorem setPhase {slot : Nat} {p : StepPhase} (h : HasOpts o d) : HasOpts o (d.setPhase slot p) := h.onChan

theorem countWait {slot : Nat} {st : Step} (h : HasOpts o d) : HasOpts o (d.countWait slot st) := .ite h.onChan h

theorem showOutcome {slot : Nat} {t : FrameTag} {code : Nat} (h : HasOpts o d) : HasOpts o (d.showOutcome slot t code) := h.onChan

theorem onHistory {handle : Nat} {f : History → History} (h : HasOpts o d) : HasOpts o (d.onHistory handle f) := by
  unfold Dev.onHistory
  split
  · exact h
  · split
    · exact h.onChan
    · exact h

theorem reqDone {handle id outcome retries : Nat} {result : Bytes} (h : HasOpts o d) :
    HasOpts o (d.reqDone handle id outcome retries result) := by
  unfold Dev.reqDone
  split
  · exact h.onHistory.event
  · exact h

theorem stopsDone {handle : Nat} {ids : List Nat} (h : HasOpts o d) : HasOpts o (d.stopsDone handle ids) := h.foldl fun _ _ hx => hx.reqDone

theorem afterRun {slot : Nat} (h : HasOpts o d) : HasOpts o (d.afterRun slot) := by
  unfold Dev.afterRun
  split
  · exact h
  · exact .ite h (.ite h.setChan.stopsDone h.setChan)

/-! ### Chains that go off -/

theorem respare (h : HasOpts o d) : HasOpts o d.respare := by
  have hshown : ∀ want : Option Nat, HasOpts o (d.forEach (List.range 4) fun d n => d.setFlag (F.HFCn_STAT_SPARE n) (want == some n)) :=
    fun _ => h.forEach fun _ _ hx => hx.setFlag
  exact .ite (hshown _).setFlag (hshown _)

theorem rampOff {n : Nat} (h : HasOpts o d) : HasOpts o (d.rampOff n) := .ite h h

theorem rampDown1 {n : Nat} (h : HasOpts o d) : HasOpts o (d.rampDown1 n) := by
  unfold Dev.rampDown1
  split
  · exact h
  · have hoff : HasOpts o ((d.setUst n Ust.ready).rampOff n) := h.setUst.rampOff
    extract_lets e _ x
    have hx : HasOpts o x := hoff
    clear_value x
    split
    · exact hx.setFlag
    · exact hx

theorem rampDown {n : Nat} (h : HasOpts o d) : HasOpts o (d.rampDown n) := (h.forEach fun _ _ hx => hx.rampDown1).setFlag.coexIdle

theorem toStandby {n : Nat} (h : HasOpts o d) : HasOpts o (d.toStandby n) :=
  h.rampDown.forEach fun _ _ hx => .ite hx hx.setUst.setFlag.setFlag.onUhf.untrain

theorem restandby (h : HasOpts o d) : HasOpts o d.restandby := by
  unfold Dev.restandby
  extract_lets free want old x y
  have hx : HasOpts o x := h.forEach fun _ _ hx => .ite hx.setFld (.ite hx.setFld hx)
  clear_value x
  have hy : HasOpts o y := .ite hx.setFlag hx
  clear_value y want
  split
  · exact hy
  · split
    · exact hy
    · extract_lets z _ _ _
      have hz : HasOpts o z := .ite hy.setUst hy
      exact .ite hz.tuneTo hz

theorem staggerEnd {n : Nat} (h : HasOpts o d) : HasOpts o (d.staggerEnd n) := by
  unfold Dev.staggerEnd
  split
  · exact h
  · exact h.onHf.bump

theorem showTracked {n : Nat} (h : HasOpts o d) : HasOpts o (d.showTracked n) := h.forEach fun _ _ hx => hx.setFld.setFld

theorem initTracking {n : Nat} (h : HasOpts o d) : HasOpts o (d.initTracking n) :=
  (h.forEach fun _ _ hx => hx.onHf.onHf.setFld.setFld).forEach fun _ _ hx => hx.showTracked

theorem hfOff1 {n : Nat} (h : HasOpts o d) : HasOpts o (d.hfOff1 n) := by
  unfold Dev.hfOff1
  split
  · exact h
  · exact h.endSessions.staggerEnd.onHf.setFlag.setFlag.setFlag.setFlag.setFlag.setReg.setReg.initTracking

theorem hfApplyDrive {n : Nat} (h : HasOpts o d) : HasOpts o (d.hfApplyDrive n) := by
  unfold Dev.hfApplyDrive
  split
  · exact h
  · exact h.setFld.setFld.onHf

theorem releaseDrives (h : HasOpts o d) : HasOpts o d.releaseDrives := h.forEach fun _ _ hx => .ite hx.hfApplyDrive hx

theorem showTiers (h : HasOpts o d) : HasOpts o d.showTiers := h.forEach fun _ _ hx => hx.setFld

theorem hfFieldOff {n : Nat} (h : HasOpts o d) : HasOpts o (d.hfFieldOff n) := by
  unfold Dev.hfFieldOff
  extract_lets m x
  have hx : HasOpts o x := h.hfOff1
  clear_value x m
  refine releaseDrives (showTiers ?_)
  split
  · exact hx.hfOff1
  · exact hx

theorem hfRelease {n : Nat} (h : HasOpts o d) : HasOpts o (d.hfRelease n) := .ite (h.forEach fun _ _ hx => hx.onHf) h.hfFieldOff

theorem releaseChain {ch : Nat} {b : Bool} (h : HasOpts o d) : HasOpts o (d.releaseChain ch b) := by
  unfold Dev.releaseChain
  refine respare (.ite ?_ (.ite h.hfFieldOff h.hfRelease))
  extract_lets n x m free y
  have hx : HasOpts o x := .ite (.ite h.toStandby h.rampDown) h
  clear_value x
  have hfree : ∀ e k, HasOpts o e → HasOpts o (free e k) := fun e k he => .ite he.onUhf.setFlag.setFld he.onUhf.setFlag.setFld.setFld
  have hy : HasOpts o y := hfree _ _ hx
  clear_value y free m
  refine restandby ?_
  split
  · exact hfree _ _ hy
  · exact hy

theorem releaseRunIf {slot : Nat} {b : Bool} (h : HasOpts o d) : HasOpts o (d.releaseRunIf slot b) :=
  (h.quotaClose.forEach fun _ _ hx => .ite hx.releaseChain hx).forEach fun _ _ hx => .ite hx.releaseChain hx

theorem releaseRun {slot : Nat} (h : HasOpts o d) : HasOpts o (d.releaseRun slot) := h.releaseRunIf

end Dev.HasOpts

end Sys2Proof.Machine
end

section
/-!
PROOFS. The options of the host port (R436) stay while the device runs: runs and steps that end, HF attempts, and `settle`.
-/

namespace Sys2Proof.Machine

open Sys2Proof

-- one proof after another: the check bounds the memory that the stacks of parallel proofs take
set_option Elab.async false

namespace Dev.HasOpts

variable {o : Bytes} {d : Dev}

/-! ### Runs that end -/

theorem directEnd {slot : Nat} {c : Chan} {st : Step} {code : Nat} (h : HasOpts o d) : HasOpts o (d.directEnd slot c st code) := by
  unfold Dev.directEnd
  extract_lets x stopped y z w
  have hz : HasOpts o z := h.showOutcome.runEvent.onChan.reqDone
  clear_value z
  have hw : HasOpts o w := by
    dsimp only [w]
    split
    · exact .ite hz.releaseRun hz.quotaClose
    · exact hz
  exact .ite hw.afterRun hw

theorem runEnd {slot : Nat} {c : Chan} {st : Step} {r : Run} {code : Nat} (h : HasOpts o d) : HasOpts o (d.runEnd slot c st r code) := by
  unfold Dev.runEnd
  extract_lets handle p x read oid port grants struck granted y z
  have hx : HasOpts o x := h.showOutcome.runEvent
  clear_value x
  have hread : HasOpts o read := by
    dsimp only [read]
    split
    · split
      · exact .ite hx.setObj hx
      · exact hx
    · exact hx
  clear_value read
  have hstruck : HasOpts o struck := .ite hread.strike hread
  clear_value struck
  have hgranted : HasOpts o granted := .ite hstruck hstruck
  clear_value granted
  have hy : HasOpts o y := hgranted.onChan
  clear_value y
  have hz : HasOpts o z := by
    dsimp only [z]
    split
    · exact hy.reqDone
    · exact hy
  exact hz.releaseRunIf.afterRun

theorem withTables {t : Tables} (h : HasOpts o d) : HasOpts o { d with tables := t } := h

theorem ask {r : RecReq} (h : HasOpts o d) : HasOpts o (d.ask r) := .ite h h.onJrn

theorem sighting {p : PlanHead} {handle proto : Nat} {f : ResFrame} (h : HasOpts o d) : HasOpts o (d.sighting p handle proto f) := by
  unfold Dev.sighting
  extract_lets ident oid c l tables x
  have hx : HasOpts o x := h.withTables
  clear_value x
  split
  · exact .ite h (.ite h.setObj.ask.event h.setObj.ask)
  · exact .ite h hx.ask.event

theorem unsighted {t : FrameTag} {k : Nat} (h : HasOpts o d) : HasOpts o (d.unsighted t k) := .ite h.setObj h.setObj.ask.event

theorem censusRun {plan : Nat} {t : FrameTag} {target : Nat} {l : List ResFrame} (h : HasOpts o d) :
    HasOpts o (d.censusRun plan t target l) := (h.foldl fun _ _ hx => hx.sighting).foldl fun _ _ hx => hx.unsighted

theorem outcomeRecords {c : Chan} {st : Step} {r : Run} {code : Nat} (h : HasOpts o d) : HasOpts o (d.outcomeRecords c st r code) := by
  unfold Dev.outcomeRecords
  extract_lets p t f oid fail ends auth counts x
  have hfail : HasOpts o fail := .ite h.ask h
  clear_value fail
  have hx : HasOpts o x := .ite h hfail
  clear_value x
  exact .ite h (.ite (.ite (.ite (HasOpts.foldl h fun _ _ hx => hx.ask) h) hfail) (.ite (.ite hx.censusRun hx)
    (.ite (.ite (.ite h.ask h) (.ite h.ask hfail)) (.ite h hfail))))

theorem newStep {slot : Nat} (h : HasOpts o d) : HasOpts o (d.newStep slot) := by
  unfold Dev.newStep
  split
  · exact h
  · split
    · exact h
    · exact h.setChan

theorem stepReported {slot : Nat} (h : HasOpts o d) : HasOpts o (d.stepReported slot) := by
  unfold Dev.stepReported
  split
  · exact h
  split
  · exact h
  split
  · refine .ite h ?_
    split
    · exact h.directEnd
    · exact .ite h.runEnd (.ite (.ite h.setStep.outcomeRecords h.setStep.outcomeRecords.runEnd) h.setChan.newStep)
  · exact h

/-! ### The memory port -/

theorem snoopChain {c : List MemEntry} (h : HasOpts o d) : HasOpts o (d.snoopChain c) := h.forEach fun _ _ hx => .ite hx hx

theorem portTurn (h : HasOpts o d) : HasOpts o d.portTurn := by
  unfold Dev.portTurn
  split
  split
  · exact h
  · exact snoopChain h

theorem portDrain (h : HasOpts o d) : HasOpts o d.portDrain := h.forEach fun _ _ hx => hx.portTurn

/-! ### HF attempts -/

theorem hfShowFrame {n : Nat} {f : ResFrame} (h : HasOpts o d) : HasOpts o (d.hfShowFrame n f) := by
  unfold Dev.hfShowFrame
  extract_lets _ _ x y z w good last
  have hw : HasOpts o w := h
  clear_value w
  have hgood : HasOpts o good := .ite hw.bump hw
  clear_value good
  have hl : HasOpts o last := .ite hgood.setFld hgood
  exact .ite hl.bump (.ite hl.bump (.ite hl.bump (.ite hl.bump (.ite hl.bump (.ite hl.bump hl)))))

theorem hfPush {f : ResFrame} (h : HasOpts o d) : HasOpts o (d.hfPush f) := onHf (.ite h h.hfShowFrame)

theorem hfClose {n : Nat} (h : HasOpts o d) : HasOpts o (d.hfClose n) := (h.forEach fun _ _ hx => hx.setFlag.setFlag).onHf.releaseDrives

theorem hfEnd {n : Nat} {a : HfAttempt} {f : ResFrame} (h : HasOpts o d) : HasOpts o (d.hfEnd n a f) := by
  unfold Dev.hfEnd
  refine onHf (staggerEnd (hfClose (hfPush ?_)))
  split
  · exact h.hfPush
  · exact h

theorem hfFail {n : Nat} {a : HfAttempt} {code flags coll : Nat} (h : HasOpts o d) : HasOpts o (d.hfFail n a code flags coll) :=
  h.staggerEnd.hfEnd

theorem applyGroup {g : Group} (h : HasOpts o d) : HasOpts o (d.applyGroup g) := by
  unfold Dev.applyGroup
  split
  · exact h
  · extract_lets x
    have hx : HasOpts o x := h.foldl fun _ _ hx => hx.setReg
    clear_value x
    exact showPending (setFld hx)

theorem hfGroups {n : Nat} (h : HasOpts o d) : HasOpts o (d.hfGroups n) := h.foldl fun _ _ hx => hx.applyGroup

theorem hfSend {n : Nat} (h : HasOpts o d) : HasOpts o (d.hfSend n) := by
  unfold Dev.hfSend
  split
  · exact h
  · exact .ite h ((h.hfGroups.forEach fun _ _ hx => hx.setFld.setFld.setFld.setFlag).forEach fun _ _ hx => .ite hx.onHf hx).onHf

theorem hfGo {n : Nat} (h : HasOpts o d) : HasOpts o (d.hfGo n) := by
  unfold Dev.hfGo
  split
  · exact h
  · exact .ite h.hfFail (.ite h.hfSend (onHf (.ite h h.bump)))

theorem hfStart {n : Nat} (h : HasOpts o d) : HasOpts o (d.hfStart n) := .ite h h.hfGo

theorem handover {old new : Nat} (h : HasOpts o d) : HasOpts o (d.handover old new) := by
  unfold Dev.handover
  split
  · exact h
  extract_lets c iant fix x y z w v step u
  have hy : HasOpts o y := h.staggerEnd.onHf.setFlag.setFlag.setReg.setReg
  clear_value y
  have hw : HasOpts o w := hy.initTracking.hfConnect.onHf
  clear_value w c
  have hv : HasOpts o v := by
    dsimp only [v]
    split
    · exact hw
    · exact hw.onHf.setFlag
  clear_value v step
  have hu : HasOpts o u := by
    dsimp only [u]
    split
    · exact .ite (setStep (.ite hv hv)) (.ite hv hv)
    · exact hv
  exact hu.hfApplyDrive.setReg.initTracking.showTiers

theorem dropLeaving (h : HasOpts o d) : HasOpts o d.dropLeaving := h.forEach fun _ _ hx => .ite hx.hfFieldOff hx

theorem moveLeaving (h : HasOpts o d) : HasOpts o d.moveLeaving := by
  refine h.forEach fun x n hx => ?_
  extract_lets c m
  split
  · split
    · refine .ite hx (.ite (.ite hx.hfGo hx) ?_)
      split
      · exact .ite hx.handover.hfStart hx.handover
      · exact .ite hx.hfGo hx
    · exact hx
  · exact hx

/-! ### What stood still is brought up to date -/

theorem settle (h : HasOpts o d) : HasOpts o d.settle := by
  unfold Dev.settle
  refine HasOpts.foldl (h.forEach fun _ _ hx => hx.stepReported).moveLeaving.dropLeaving.portDrain fun x a hx => ?_
  split
  · exact hx
  · exact hx.setPhase
  · exact .ite hx.bump.setStep hx

end Dev.HasOpts

end Sys2Proof.Machine
end

section
/-!
PROOFS. The options of the host port (R436) stay while the device runs: checks that end, timers, limits, and mode requests.
-/

namespace Sys2Proof.Machine

open Sys2Proof

-- one proof after another: the check bounds the memory that the stacks of parallel proofs take
set_option Elab.async false

namespace Dev.HasOpts

variable {o : Bytes} {d : Dev}

/-! ### Enables that pass, and timers -/

theorem hfcOn {n : Nat} (h : HasOpts o d) : HasOpts o (d.hfcOn n) := h.setFlag.respare

theorem uhfcOn {n : Nat} (h : HasOpts o d) : HasOpts o (d.uhfcOn n) := restandby (.ite h.setFlag.setUst h.setFlag)

theorem timerRun {n : Nat} {on : Bool} (h : HasOpts o d) : HasOpts o (d.timerRun n on) := h.setFlag.setFlag

theorem cvuEnable {u : Nat} {on : Bool} (h : HasOpts o d) : HasOpts o (d.cvuEnable u on) := .ite h.setFlag.setFld.setFlag h.setFlag

theorem enableOn {e : Enable} (h : HasOpts o d) : HasOpts o (d.enableOn e) := by
  refine .ite h ?_
  cases e with
  | hfc n => exact h.hfcOn
  | hfp n => exact h.setFlag
  | hfBond n => exact h.setFlag
  | uhfc n => exact h.uhfcOn
  | uhfp n => exact h.setFlag
  | steer => exact h.setFlag
  | coexPw k => exact h.setFlag
  | tmr n => exact h.timerRun
  | cvu n => exact h.cvuEnable

theorem capture {n k : Nat} {b : Bool} (h : HasOpts o d) : HasOpts o (d.capture n k b) := by
  unfold Dev.capture
  extract_lets x y z
  have hx : HasOpts o x := .ite h.bump h
  clear_value x
  have hz : HasOpts o z := hx.setReg.setFlag.setFld
  exact .ite hz.setFlag hz

theorem captureEvent {src : Nat} (h : HasOpts o d) : HasOpts o (d.captureEvent src) := h.forEach fun _ _ hx => .ite hx.capture hx

theorem cmpFire {n k : Nat} {late : Bool} (h : HasOpts o d) : HasOpts o (d.cmpFire n k late) :=
  captureEvent (.ite h.setFlag.setFlag h.setFlag)

theorem lateCompares {n : Nat} (h : HasOpts o d) : HasOpts o (d.lateCompares n) := h.forEach fun _ _ hx => .ite hx.cmpFire hx

theorem commitPassed {g : Group} {copy : List (Nat × Word)} (h : HasOpts o d) : HasOpts o (d.commitPassed g copy) := by
  unfold Dev.commitPassed
  extract_lets x y z
  have hy : HasOpts o y := h
  clear_value y
  have hz : HasOpts o z := hy.applyGroup
  clear_value z
  refine .ite hy ?_
  split
  · exact hz.lateCompares
  · exact hz

theorem commitEnded {g : Group} {code : Nat} (h : HasOpts o d) : HasOpts o (d.commitEnded g code) := h.setFlag.setFld

/-! ### Drives, permits and limits -/

theorem driveChanged {n : Nat} (h : HasOpts o d) : HasOpts o (d.driveChanged n) :=
  h.forEach fun _ _ hx => .ite hx (.ite hx.onHf hx.hfApplyDrive)

theorem showPermit {n : Nat} (h : HasOpts o d) : HasOpts o (d.showPermit n) := by
  unfold Dev.showPermit
  split
  · exact h.setFld
  · exact h.setFld

theorem pauseIdle {n : Nat} (h : HasOpts o d) : HasOpts o (d.pauseIdle n) := .ite h.rampDown h

theorem powerStep {k n : Nat} (h : HasOpts o d) : HasOpts o (d.powerStep k n) := by
  unfold Dev.powerStep
  split
  · exact h
  · extract_lets meas drive most goal ext step meas' scale x y
    have hx : HasOpts o x := h.setFld.setFld.setFld
    clear_value x
    have hy : HasOpts o y := .ite hx.setFld hx
    exact .ite h hy.onUhf

theorem limitsChanged (h : HasOpts o d) : HasOpts o d.limitsChanged := by
  refine (h.forEach fun _ _ hx => hx.driveChanged).forEach fun x n hx => ?_
  extract_lets y
  have hy : HasOpts o y := .ite hx.showPermit hx
  exact .ite hy (.ite hy.powerStep.pauseIdle hy.powerStep)

theorem valueOn {a : Nat} {w : Word} (h : HasOpts o d) : HasOpts o (d.valueOn a w) := .ite h.setFld (.ite h.setReg.limitsChanged h.setReg)

theorem putObject {k : Nat} {e : Bytes} (h : HasOpts o d) : HasOpts o (d.putObject k e) := h.setObj.setFld

/-! ### Checks that end -/

theorem trigger {c : PendingCheck} (h : HasOpts o d) : HasOpts o (d.trigger c) := h

theorem checkDone (h : HasOpts o d) : HasOpts o d.checkDone := by
  unfold Dev.checkDone
  split
  · exact h
  · next c rest _ =>
    extract_lets x code y
    have hy : HasOpts o y := checkEnded (setFlag h)
    clear_value y code x
    cases c with
    | enable e => exact .ite hy.enableOn.settle hy.refuse
    | commit g copy => exact .ite hy.commitPassed.settle hy.refuse.commitEnded
    | value a w => exact .ite hy.valueOn.settle hy.refuse
    | object k e => exact .ite hy.putObject.setFlag.setFld.settle hy.refuse.setFlag.setFld

theorem drainChecks {k : Nat} (h : HasOpts o d) : HasOpts o (d.drainChecks k) := by
  induction k generalizing d with
  | zero => exact h
  | succ k ih => exact ih h.checkDone

theorem drained (h : HasOpts o d) : HasOpts o d.drained := h.drainChecks

/-! ### Attempts cut and steps stopped -/

theorem teamCw {n : Nat} (h : HasOpts o d) : HasOpts o (d.teamCw n) := .ite (h.forEach fun _ _ hx => hx.setUst) h

theorem applyAfter {n after : Nat} (h : HasOpts o d) : HasOpts o (d.applyAfter n after) := by
  unfold Dev.applyAfter
  split
  · exact h.rampDown
  · exact h.toStandby
  · exact h.teamCw

theorem radioClear {n : Nat} (h : HasOpts o d) : HasOpts o (d.radioClear n) := .ite h.onUhf.showQueue.coexIdle h.onUhf.showQueue

theorem showRound {n : Nat} (h : HasOpts o d) : HasOpts o (d.showRound n) := by
  unfold Dev.showRound
  split
  · exact h.setReg.setReg
  · exact .ite h.setReg.setFld.setFlag.setFld h.setReg.setFld

theorem uhfCut {n : Nat} (h : HasOpts o d) : HasOpts o (d.uhfCut n) := by
  unfold Dev.uhfCut
  split
  · exact h
  · exact h.radioClear.unhold.onUhf.showRound

theorem uhfAbort {n : Nat} (h : HasOpts o d) : HasOpts o (d.uhfAbort n) := by
  unfold Dev.uhfAbort
  split
  · exact h
  · exact h.uhfCut.applyAfter

theorem hfAbort {n : Nat} (h : HasOpts o d) : HasOpts o (d.hfAbort n) := by
  unfold Dev.hfAbort
  split
  · exact h
  · exact (h.forEach fun _ _ hx => hx.onHf).hfClose.staggerEnd.onHf

theorem abortOn {ch : Nat} (h : HasOpts o d) : HasOpts o (d.abortOn ch) := .ite h.uhfAbort h.hfAbort

theorem stopStep {slot code : Nat} (h : HasOpts o d) : HasOpts o (d.stopStep slot code) := by
  unfold Dev.stopStep
  split
  · exact h
  split
  · exact h
  refine .ite h (setStep (onJrn (countWait ?_)))
  split
  · exact h.abortOn
  · exact h

theorem abortForMode {mode slot : Nat} (h : HasOpts o d) : HasOpts o (d.abortForMode mode slot) := by
  unfold Dev.abortForMode
  split
  · exact h
  · exact .ite h.stopStep h

theorem waitAgain {slot : Nat} {st : Step} (h : HasOpts o d) : HasOpts o (d.waitAgain slot st) := h.quotaClose.setStep

theorem stopAgain {slot : Nat} (h : HasOpts o d) : HasOpts o (d.stopAgain slot) := by
  unfold Dev.stopAgain
  split
  · exact h.releaseRun
  split
  · refine waitAgain (releaseRun ?_)
    split
    · exact h.abortOn
    · exact h
  · exact h.releaseRun.setStep

theorem yieldUhf {mode k : Nat} (h : HasOpts o d) : HasOpts o (d.yieldUhf mode k) := by
  induction k generalizing d with
  | zero => exact h
  | succ k ih =>
    unfold Dev.yieldUhf
    refine .ite h ?_
    split
    · exact h
    · exact ih h.stopAgain

theorem yieldHf {mode k : Nat} (h : HasOpts o d) : HasOpts o (d.yieldHf mode k) := by
  induction k generalizing d with
  | zero => exact h
  | succ k ih =>
    unfold Dev.yieldHf
    refine .ite h ?_
    split
    · exact h
    · exact ih h.stopAgain

/-! ### Mode requests -/

theorem modeEvent {source cur : Nat} (h : HasOpts o d) : HasOpts o (d.modeEvent source cur) := h.event

theorem modeRefuse {r : Refused} {target source : Nat} (h : HasOpts o d) : HasOpts o (d.modeRefuse r target source) :=
  h.checkEnded.refuse.setFld.setFld.modeEvent

theorem beginTransition {target source : Nat} (h : HasOpts o d) : HasOpts o (d.beginTransition target source) := by
  unfold Dev.beginTransition
  extract_lets x y z
  have hy : HasOpts o y := h
  clear_value y
  have hz : HasOpts o z := hy.forEach fun _ _ hx => hx.abortForMode
  exact hz.yieldHf.yieldUhf.settle

theorem modeRequest {target : Nat} (h : HasOpts o d) : HasOpts o (d.modeRequest target) := by
  unfold Dev.modeRequest
  extract_lets x
  have hx : HasOpts o x := h.drained
  clear_value x
  refine .ite h (.ite h.refuse (.ite h.setFld.setFld ?_))
  split
  · exact hx.modeRefuse
  · exact hx.checkEnded.setFld.beginTransition

end Dev.HasOpts

end Sys2Proof.Machine
end

section
/-!
PROOFS. The options of the host port (R436) stay while the device runs: attempts that begin, and radios that leave.
-/

namespace Sys2Proof.Machine

open Sys2Proof

-- one proof after another: the check bounds the memory that the stacks of parallel proofs take
set_option Elab.async false

namespace Dev.HasOpts

variable {o : Bytes} {d : Dev}

theorem iteFst {α : Type} {c : Prop} [Decidable c] {x y : Dev × α} (hx : HasOpts o x.1) (hy : HasOpts o y.1) :
    HasOpts o (if c then x else y).1 := by
  split
  · exact hx
  · exact hy

theorem iteSnd {α : Type} {c : Prop} [Decidable c] {x y : α × Dev} (hx : HasOpts o x.2) (hy : HasOpts o y.2) :
    HasOpts o (if c then x else y).2 := by
  split
  · exact hx
  · exact hy

/-! ### A UHF chain that works -/

theorem steerTo {n code : Nat} (h : HasOpts o d) : HasOpts o (d.steerTo n code) := .ite h h.teamCw.untrain.onUhf

theorem setUhfAtt {n : Nat} {a : UhfAttempt} (h : HasOpts o d) : HasOpts o (d.setUhfAtt n a) := h.onUhf.showRound

theorem beginRound {n : Nat} {a : UhfAttempt} (h : HasOpts o d) : HasOpts o (d.beginRound n a) :=
  h.steerTo.setUhfAtt.foldl fun _ _ hx => hx.pushPkt

theorem beginWork {n : Nat} {a : UhfAttempt} (h : HasOpts o d) : HasOpts o (d.beginWork n a) := .ite h.steerTo.pushPkt h.beginRound

theorem radioSetup {n : Nat} {a : UhfAttempt} {down : Bool} (h : HasOpts o d) : HasOpts o (d.radioSetup n a down) := by
  unfold Dev.radioSetup
  extract_lets k want there stay portNow on x y z
  have hx : HasOpts o x := .ite h.radioPush h
  clear_value x
  have hy : HasOpts o y := .ite hx hx.radioPush
  clear_value y
  have hz : HasOpts o z := .ite hy hy.radioPush
  exact .ite hz hz.radioPush

theorem uhfBegin {n : Nat} (h : HasOpts o d) : HasOpts o (d.uhfBegin n) := by
  unfold Dev.uhfBegin
  split
  · exact h
  · exact h.setUhfAtt.radioSetup.beginWork

theorem uhfRestart {n : Nat} (h : HasOpts o d) : HasOpts o (d.uhfRestart n) := by
  unfold Dev.uhfRestart
  split
  · exact h
  · exact h.radioClear.setUhfAtt.radioSetup.beginWork

theorem uhfShowFrame {n : Nat} {f : ResFrame} (h : HasOpts o d) : HasOpts o (d.uhfShowFrame n f) := by
  unfold Dev.uhfShowFrame
  extract_lets _ _ _ x y z last
  have hz : HasOpts o z := h
  clear_value z
  have hl : HasOpts o last := .ite hz.setFld hz
  exact .ite hl.bump (.ite hl.bump (.ite hl.bump hl))

theorem uhfPush {n : Nat} {f : ResFrame} (h : HasOpts o d) : HasOpts o (d.uhfPush n f) := h.uhfShowFrame.onUhf

theorem uhfFinish {n : Nat} {a : UhfAttempt} {f : ResFrame} (h : HasOpts o d) : HasOpts o (d.uhfFinish n a f) := by
  unfold Dev.uhfFinish
  refine showRound (onUhf (unhold (radioClear (uhfPush ?_))))
  split
  · exact h.uhfPush
  · exact h

theorem uhfEnd {n : Nat} {a : UhfAttempt} {f : ResFrame} (h : HasOpts o d) : HasOpts o (d.uhfEnd n a f) := h.uhfFinish.applyAfter.pauseIdle

theorem uhfFailBare {n : Nat} {a : UhfAttempt} {code : Nat} (h : HasOpts o d) : HasOpts o (d.uhfFailBare n a code) := h.uhfEnd

/-! ### An HF chain that works -/

theorem hfCommand {n : Nat} {a : HfAttempt} {tx : Bytes} {bits : Nat} {crc : Bool} (h : HasOpts o d) :
    HasOpts o (d.hfCommand n a tx bits crc) := h.onHf.hfStart

theorem hfBytes {n : Nat} {a : HfAttempt} {tx : Bytes} (h : HasOpts o d) : HasOpts o (d.hfBytes n a tx) := h.hfCommand

theorem sendReqa {n : Nat} {a : HfAttempt} {wake : Bool} (h : HasOpts o d) : HasOpts o (d.sendReqa n a wake) := h.hfCommand

theorem sendReqb {n : Nat} {a : HfAttempt} (h : HasOpts o d) : HasOpts o (d.sendReqb n a) := h.hfBytes

theorem sendInventory {n : Nat} {a : HfAttempt} (h : HasOpts o d) : HasOpts o (d.sendInventory n a) := h.hfBytes

theorem sendDeselect {n : Nat} {a : HfAttempt} {q : HfSeq} (h : HasOpts o d) : HasOpts o (d.sendDeselect n a q) := h.hfBytes

theorem sendActivate {n : Nat} {a : HfAttempt} (h : HasOpts o d) : HasOpts o (d.sendActivate n a) := by
  refine .ite h.hfBytes ?_
  split
  · exact h.hfFail
  · exact .ite h.hfFail h.hfBytes

theorem beginActivate {n : Nat} {a : HfAttempt} (h : HasOpts o d) : HasOpts o (d.beginActivate n a) :=
  .ite (.ite h.sendReqa h.sendReqb) h.sendActivate

theorem beginBlock {n : Nat} {a : HfAttempt} (h : HasOpts o d) : HasOpts o (d.beginBlock n a) := by
  unfold Dev.beginBlock
  split
  · exact h.hfFail
  · exact h.hfBytes

theorem hfBegin {n : Nat} (h : HasOpts o d) : HasOpts o (d.hfBegin n) := by
  unfold Dev.hfBegin
  split
  · exact h
  extract_lets x a
  have hx : HasOpts o x := .ite h h.hfGroups
  clear_value x a
  split
  · exact hx.hfCommand
  · exact hx.hfCommand
  · split
    · exact hx.sendReqa
    · exact hx.sendReqb
    · exact hx.sendInventory
  · split
    · exact .ite hx.sendDeselect hx.beginActivate
    · exact hx.beginBlock
  · exact hx.beginActivate
  · split
    · exact hx.beginActivate
    · exact .ite hx.hfFail hx.sendDeselect
  · exact hx.hfCommand

/-! ### The check-value units on a step's bytes -/

theorem cvuLoad {u : Nat} {c : CvCtx} (h : HasOpts o d) : HasOpts o (d.cvuLoad u c) := h.setFld.setFld.setFlag

theorem cvuFlags {u flags result : Nat} (h : HasOpts o d) : HasOpts o (d.cvuFlags u flags result) := by
  unfold Dev.cvuFlags
  extract_lets x y z one
  have hone : ∀ e b f, HasOpts o e → HasOpts o (one e b f) := fun e b f he => .ite he.bump he
  have hz : HasOpts o z := h.setFld.bump.setFld.setReg
  clear_value z one
  exact hone _ _ _ (hone _ _ _ (hone _ _ _ (hone _ _ _ (hone _ _ _ hz))))

theorem cvuTake {u : Nat} {c : CvCtx} {uhf : Bool} {bs : Bytes} {last : Nat} (h : HasOpts o d) :
    HasOpts o (d.cvuTake u c uhf bs last).2.2 := by
  unfold Dev.cvuTake
  split
  exact h.cvuLoad.cvuFlags

theorem cvuStep {slot : Nat} {st : Step} {chain : Nat} {cmds : Bool} {bs : Bytes} {last : Nat} (h : HasOpts o d) :
    HasOpts o (d.cvuStep slot st chain cmds bs last).2.2 := by
  unfold Dev.cvuStep
  split
  · exact h
  split
  · exact h
  · exact h.cvuTake

/-! ### Attempts that begin -/

theorem bareEnd {slot : Nat} {st : Step} {code : Nat} (h : HasOpts o d) : HasOpts o (d.bareEnd slot st code) := by
  unfold Dev.bareEnd
  split
  · exact h.setStep
  · exact .ite h.uhfShowFrame.setStep h.hfShowFrame.setStep

theorem quotaOpen {slot : Nat} {c : Chan} {l : List Nat} (h : HasOpts o d) : HasOpts o (d.quotaOpen slot c l) := .ite h h

theorem drbg {n : Nat} (h : HasOpts o d) : HasOpts o (d.drbg n).2 := h

/-- A challenge drawn where the step wants one. -/
theorem drawn {c : Prop} [Decidable c] {n : Nat} {bs : Bytes} (h : HasOpts o d) : HasOpts o (if c then d.drbg n else (bs, d)).2 :=
  iteSnd h.drbg h

theorem beginAttempt {slot : Nat} (h : HasOpts o d) : HasOpts o (d.beginAttempt slot) := by
  unfold Dev.beginAttempt
  split
  · exact h
  split
  · refine .ite h.setPhase ?_
    split
    · exact h.bareEnd
    · exact .ite h.bareEnd (.ite h.quotaOpen.drawn.cvuStep.setStep.onUhf.uhfBegin
        (.ite h.quotaOpen.drawn.cvuStep.setStep.onHf h.quotaOpen.drawn.cvuStep.setStep.onHf.onHf.hfBegin))
  · exact h

/-! ### Chains granted, moved and dropped -/

theorem uhfDrop {n : Nat} (h : HasOpts o d) : HasOpts o (d.uhfDrop n) := h.onUhf.setFlag.setFld.setFld.toStandby

theorem withGov {g : Gov} (h : HasOpts o d) : HasOpts o { d with gov := g } := h

theorem degrade {n m : Nat} (h : HasOpts o d) : HasOpts o (d.degrade n m) :=
  h.rampDown1.uhfDrop.withGov.showOcc.onUhf.setFld.teamCw.showPermit.untrain.setFlag

theorem grantUhf {slot p n : Nat} {partner : Option (Nat × Nat)} (h : HasOpts o d) : HasOpts o (d.grantUhf slot p n partner) := by
  unfold Dev.grantUhf
  extract_lets take
  have htake : ∀ e k q mate master role, HasOpts o e → HasOpts o (take e k q mate master role) :=
    fun _ _ _ _ _ _ he => setFld (onUhf (.ite he he.rampDown))
  clear_value take
  split
  · exact (htake _ _ _ _ _ _ h).showPermit
  · exact (htake _ _ _ _ _ _ (htake _ _ _ _ _ _ h)).showPermit.showPermit

theorem uhfMove {slot : Nat} {c : Chan} {st : Step} {p n : Nat} {again : Bool} (h : HasOpts o d) :
    HasOpts o (d.uhfMove slot c st p n again) := .ite h.setChan.grantUhf.beginAttempt h.setChan.grantUhf

theorem uhfStop {n : Nat} {touched : Option (Nat × Chan × Step)} {again : Bool} (h : HasOpts o d) : HasOpts o (d.uhfStop n touched again) := by
  unfold Dev.uhfStop
  refine rampDown ?_
  split
  · exact .ite h.abortOn h
  · exact h

theorem uhfLeave {n : Nat} {touched : Option (Nat × Chan × Step)} {again : Bool} (h : HasOpts o d) :
    HasOpts o (d.uhfLeave n touched again).1 := by
  unfold Dev.uhfLeave
  extract_lets u p
  split
  · exact h.degrade
  · exact uhfMove (degrade (.ite h.uhfCut h))
  · exact h.uhfStop.uhfDrop
  · exact iteFst (iteFst h.uhfStop.uhfDrop.waitAgain h.uhfStop.uhfDrop) h.uhfStop.uhfDrop.withGov.showOcc.showOcc.setFld.uhfMove

theorem toOff {n : Nat} (h : HasOpts o d) : HasOpts o (d.toOff n) := h.rampDown1.coexIdle.toStandby.setUst

end Dev.HasOpts

end Sys2Proof.Machine
end

section
/-!
PROOFS. The options of the host port (R436) stay while the device runs: no write of a register by the host changes them.
-/

namespace Sys2Proof.Machine

open Sys2Proof

-- one proof after another: the check bounds the memory that the stacks of parallel proofs take
set_option Elab.async false

namespace Dev.HasOpts

variable {o : Bytes} {d : Dev}

/-! ### Enables written -/

theorem store {a : Nat} {w : Word} (h : HasOpts o d) : HasOpts o (d.store a w) := h.setReg

theorem hfcOff {n : Nat} (h : HasOpts o d) : HasOpts o (d.hfcOff n) := respare (dropLeaving (moveLeaving (.ite h.setFlag.onHf h.setFlag)))

theorem hfpOff {p : Nat} (h : HasOpts o d) : HasOpts o (d.hfpOff p) := by
  unfold Dev.hfpOff
  extract_lets x
  have hx : HasOpts o x := h.setFlag
  clear_value x
  split
  · exact hx
  · extract_lets n
    split
    · exact hx.hfFail.dropLeaving
    · exact hx.hfFail.dropLeaving
    · exact hx.hfFail.dropLeaving
    · exact hx
    · exact hx.dropLeaving

theorem uhfcOff {n : Nat} (h : HasOpts o d) : HasOpts o (d.uhfcOff n) := restandby (toOff (.ite h.setFlag.uhfLeave h.setFlag))

theorem uhfpOff {p : Nat} (h : HasOpts o d) : HasOpts o (d.uhfpOff p) := by
  unfold Dev.uhfpOff
  extract_lets x
  have hx : HasOpts o x := h.setFlag
  clear_value x
  split
  · exact hx
  · extract_lets m
    split
    · exact hx.rampDown
    · exact .ite hx hx.uhfFailBare.rampDown

theorem closeWindow {k : Nat} (h : HasOpts o d) : HasOpts o (d.closeWindow k) := h

theorem enableOff {e : Enable} (h : HasOpts o d) : HasOpts o (d.enableOff e) := by
  cases e with
  | hfc n => exact h.hfcOff
  | hfp n => exact h.hfpOff
  | hfBond n => exact h.setFlag
  | uhfc n => exact h.uhfcOff
  | uhfp n => exact h.uhfpOff
  | steer => exact h.setFlag
  | coexPw k => exact h.setFlag.closeWindow
  | tmr n => exact h.timerRun
  | cvu n => exact h.cvuEnable

theorem writeEnable {e : Enable} {on : Bool} (h : HasOpts o d) : HasOpts o (d.writeEnable e on) := .ite h.trigger h.enableOff.settle

theorem setEnable {e : Enable} {on : Bool} (h : HasOpts o d) : HasOpts o (d.setEnable e on) := .ite h.writeEnable (.ite h.writeEnable h)

theorem writeWithEnable {e : Enable} {w : Word} (h : HasOpts o d) : HasOpts o (d.writeWithEnable e w) := h.store.setEnable

theorem groupCommit {g : Group} (h : HasOpts o d) : HasOpts o (d.groupCommit g) := .ite h h.trigger.setFlag

/-! ### The HF blocks -/

theorem txctl {n : Nat} {w : Word} (h : HasOpts o d) : HasOpts o (d.txctl n w) := h.setReg.driveChanged

theorem writeProfile {prof k : Nat} {w : Word} (h : HasOpts o d) : HasOpts o (d.writeProfile prof k w) := h

theorem writeHfc {a : Nat} {w : Word} (h : HasOpts o d) : HasOpts o (d.writeHfc a w) := by
  unfold Dev.writeHfc
  extract_lets n
  split
  · exact h.writeWithEnable
  · exact h.txctl
  · exact .ite h.groupCommit h
  · exact h.writeWithEnable.driveChanged
  · exact h.store

theorem hfpClear {p : Nat} (h : HasOpts o d) : HasOpts o (d.hfpClear p) := h.setFlag.setFlag.setFlag.settle

theorem writeHfp {a : Nat} {w : Word} (h : HasOpts o d) : HasOpts o (d.writeHfp a w) := by
  unfold Dev.writeHfp
  extract_lets n
  split
  · exact h.writeWithEnable
  · exact .ite h.hfpClear h
  · exact h
  · exact h
  · exact h.writeProfile

/-! ### The UHF blocks -/

theorem showCal {n : Nat} (h : HasOpts o d) : HasOpts o (d.showCal n) := by
  unfold Dev.showCal
  extract_lets m x
  have hx : HasOpts o x := h.setFld.setFld
  clear_value x
  split
  · exact hx.setFlag.setFld
  · exact hx.setFlag

theorem recalChain {n : Nat} (h : HasOpts o d) : HasOpts o (d.recalChain n) := h.onUhf.showCal

theorem writeUhfc {a : Nat} {w : Word} (h : HasOpts o d) : HasOpts o (d.writeUhfc a w) := by
  unfold Dev.writeUhfc
  extract_lets n
  refine .ite h.writeWithEnable (.ite h.writeProfile ?_)
  split
  · exact h.writeWithEnable
  · exact .ite h.store.recalChain h.store
  · exact .ite h.groupCommit h
  · exact h.store

theorem uhfpClear {p : Nat} (h : HasOpts o d) : HasOpts o (d.uhfpClear p) := h.setFlag.setFlag.settle

theorem writeUhfp {a : Nat} {w : Word} (h : HasOpts o d) : HasOpts o (d.writeUhfp a w) := by
  unfold Dev.writeUhfp
  extract_lets n
  split
  · exact h.writeWithEnable
  · exact .ite h.uhfpClear h
  · exact h

/-! ### The governor and the coexistence wires -/

theorem restoreLimits (h : HasOpts o d) : HasOpts o d.restoreLimits :=
  h.setFld.setFld.setFld.setFld.setFld.setFld.setFld.setFld.setFld

theorem govRestore (h : HasOpts o d) : HasOpts o d.govRestore := h.restoreLimits.limitsChanged

theorem coexAEn {on : Bool} (h : HasOpts o d) : HasOpts o (d.coexAEn on) := .ite h.refuse h.setFlag.coexIdle

theorem preempt {n : Nat} (h : HasOpts o d) : HasOpts o (d.preempt n) := by
  refine .ite h ?_
  extract_lets x
  have hx : HasOpts o x := h.rampDown
  clear_value x
  split
  · exact hx.uhfFailBare.bump
  · exact hx

theorem pauseCarrier {n : Nat} (h : HasOpts o d) : HasOpts o (d.pauseCarrier n) := .ite h.rampDown.uhfRestart h

theorem cutForWindow {n : Nat} (h : HasOpts o d) : HasOpts o (d.cutForWindow n) := .ite h (.ite h.preempt h.pauseCarrier)

theorem coexPri (h : HasOpts o d) : HasOpts o d.coexPri := h

theorem coexRequest {p : Nat} {l : Bool} (h : HasOpts o d) : HasOpts o (d.coexRequest p l) := h

theorem gateCarriers (h : HasOpts o d) : HasOpts o d.gateCarriers :=
  h.forEach fun _ _ hx => .ite (.ite hx.preempt (.ite hx.cutForWindow (hx.foldl fun _ _ hy => hy.coexRequest).coexPri)) hx

theorem writeCoexCfg {w : Word} (h : HasOpts o d) : HasOpts o (d.writeCoexCfg w) := by
  unfold Dev.writeCoexCfg
  extract_lets was on x y z
  have hx : HasOpts o x := h.store
  clear_value x
  have hy : HasOpts o y := .ite hx.coexAEn hx
  clear_value y
  have hz : HasOpts o z := hy.forEach fun _ _ he => .ite he.onUhf he
  exact hz.coexIdle.gateCarriers

theorem writeValue {a : Nat} {w : Word} (h : HasOpts o d) : HasOpts o (d.writeValue a w) := h.trigger

theorem writeGov {a : Nat} {w : Word} (h : HasOpts o d) : HasOpts o (d.writeGov a w) :=
  .ite h.govRestore (.ite h.writeValue (.ite h.writeCoexCfg (.ite h.writeWithEnable h.store)))

/-! ### WATCH, and the tables -/

theorem forgetBases (h : HasOpts o d) : HasOpts o d.forgetBases := h

theorem writeWatch {a : Nat} {w : Word} (h : HasOpts o d) : HasOpts o (d.writeWatch a w) :=
  .ite (writeValue (.ite h.forgetBases h)) (.ite h.writeValue h.store)

theorem showEntry {x : History} {k : Nat} (h : HasOpts o d) : HasOpts o (d.showEntry x k) := by
  unfold Dev.showEntry
  extract_lets e
  have he : HasOpts o e := h.setFld
  clear_value e
  split
  · exact he.setFld.setReg
  · exact he.setFld.setFld.setFld.setFld

theorem chnSelect {dev : Bool} {slot : Nat} (h : HasOpts o d) : HasOpts o (d.chnSelect dev slot) := by
  unfold Dev.chnSelect
  extract_lets x entry y hist _ cleared used table
  have hy : HasOpts o y := h.setFlag.setFld.forEach fun _ _ hx => .ite hx hx.setReg
  clear_value y
  have hcleared : HasOpts o cleared := hy.setFld.setFld.setFld.setFld.showEntry
  clear_value cleared
  have htable : HasOpts o table := hcleared.setFld.setFld.setFld
  clear_value table
  refine .ite hcleared ?_
  split
  · exact htable
  · refine setFld (setFld (setFld (setFld (setFld (setReg ?_)))))
    split
    · exact htable.setFld.setFld.setFld.setFlag.setFlag.setFlag.setFlag.setFld.setFld.setFld.setFld
    · refine setFld (setFld (setFlag (setFlag (setFld (setFld ?_)))))
      exact htable.setFld.setFld.setFld.setFlag.setFlag.setFlag.setFlag.setFld.setFld.setFld.setFld

theorem objSelect {k : Nat} (h : HasOpts o d) : HasOpts o (d.objSelect k) :=
  (h.setFld.forEach fun _ _ hx => hx.setReg).setFld.setFld.setFld.setFld.setReg.setReg

theorem objLoad (h : HasOpts o d) : HasOpts o d.objLoad := h

theorem objWrite (h : HasOpts o d) : HasOpts o d.objWrite := .ite h h.trigger.setFlag

theorem writeTables {a : Nat} {w : Word} (h : HasOpts o d) : HasOpts o (d.writeTables a w) := by
  unfold Dev.writeTables
  refine .ite h.chnSelect (.ite h.showEntry (.ite h.objSelect (.ite h.withTables (.ite ?_ h.store))))
  extract_lets x
  have hx : HasOpts o x := .ite h.objLoad h
  exact .ite hx.objWrite hx

theorem slotSelect {k : Nat} (h : HasOpts o d) : HasOpts o (d.slotSelect k) := by
  unfold Dev.slotSelect
  extract_lets x
  have hx : HasOpts o x := h.setFld.setReg.setFld
  clear_value x
  split
  · exact hx
  · exact hx.setFlag.setFld.setFld.setFld

/-! ### Check-value units, timers, pins and faults -/

theorem cvuWrite {u : Nat} {alive : Bool} {v : Word} (h : HasOpts o d) : HasOpts o (d.cvuWrite u alive v) := .ite h h.setReg

theorem cvuAny {u : Nat} (h : HasOpts o d) : HasOpts o (d.cvuAny u) := .ite h h

theorem writeCvu {a : Nat} {w : Word} (h : HasOpts o d) : HasOpts o (d.writeCvu a w) := by
  unfold Dev.writeCvu
  extract_lets u
  refine .ite h ?_
  split
  · exact .ite h h.writeWithEnable
  · exact .ite h.groupCommit h
  · exact h.cvuWrite
  · exact .ite h h.store
  · exact h.cvuWrite
  · exact .ite h.store.cvuAny h.store
  · exact .ite h h.store
  · exact h.store

theorem timeSnap (h : HasOpts o d) : HasOpts o d.timeSnap := (h.setReg.setReg.setReg.setReg.forEach fun _ _ hx => hx.setReg).setFld

theorem timerClear {n : Nat} (h : HasOpts o d) : HasOpts o (d.timerClear n) := h.setReg.setFlag

theorem writeTmr {a : Nat} {w : Word} (h : HasOpts o d) : HasOpts o (d.writeTmr a w) := by
  unfold Dev.writeTmr
  extract_lets n
  split
  · exact writeWithEnable (.ite h.timerClear h)
  · exact .ite h.groupCommit h
  · exact h.store

theorem writeGpio {w : Word} (h : HasOpts o d) : HasOpts o (d.writeGpio w) := h.setReg

theorem recheckStart {hf uhf : Nat} (h : HasOpts o d) : HasOpts o (d.recheckStart hf uhf) := .ite h h

theorem fltSelect {k : Nat} (h : HasOpts o d) : HasOpts o (d.fltSelect k) := h.setFld.forEach fun _ _ hx => hx.setReg

/-! ### A register written -/

theorem writeWord {a : Nat} {w : Word} (h : HasOpts o d) : HasOpts o (d.writeWord a w) := by
  unfold Dev.writeWord
  extract_lets r
  refine .ite ?_ (.ite h.modeRequest (.ite h.writeValue (.ite h.store (.ite (.ite h.timeSnap h) (.ite h.writeHfc (.ite h.writeHfp
    (.ite h.writeUhfc (.ite h.writeUhfp (.ite h.writeGov (.ite h.writeWatch (.ite h.writeTables (.ite h.slotSelect (.ite h.store
    (.ite h.writeCvu (.ite h.writeTmr (.ite h.writeGpio (.ite h.recheckStart (.ite h.fltSelect h.store))))))))))))))))))
  split
  · exact .ite h h.writeShadow
  · exact h.writeShadow
  · exact h

theorem disarm {a : Nat} (h : HasOpts o d) : HasOpts o (d.disarm a) := by
  unfold Dev.disarm
  split
  · exact h
  · exact h

theorem hostWrite {a : Nat} {v : Word} (h : HasOpts o d) : HasOpts o (d.hostWrite a v).1 := h.disarm.writeWord

end Dev.HasOpts

end Sys2Proof.Machine
end

section
/-!
PROOFS. REG_WR of one word (R34, R420).
-/

namespace Sys2Proof.Machine

open Sys2Proof

-- one proof after another: the check bounds the memory that the stacks of parallel proofs take
set_option Elab.async false

/-- A host write keeps the options of the port (R436). -/
theorem Dev.hostWrite_opts (d : Dev) (a : Nat) (v : Word) : (d.hostWrite a v).1.host.opts = d.host.opts :=
  HasOpts.hostWrite (d := d) rfl

/-! ### A burst of one word -/

/-- What a write frame of one word answers with: a locked field that it would have changed is reported. -/
def Dev.wordWritten (x : Dev × Bool) (b : Bytes) (a : Nat) : Dev :=
  if x.2 then x.1.frameRefused b Code.HOST_FIELD_LOCKED a true else x.1.frameDone false

theorem Dev.regWr_word {d : Dev} {b : Bytes} (hlen : frLen b = 1) (haddr : frAddr b < 0x1000) :
    d.regWr b = Dev.wordWritten (d.hostWrite (frAddr b) (BitVec.ofNat 32 (numAt b 5 4))) b (frAddr b) := by
  have hle := le_blockEnd haddr
  have hin : ¬ frAddr b + 1 - 1 > blockEnd (frAddr b) := by omega
  unfold Dev.regWr Dev.wordWritten
  simp only [hlen, frameWords, List.range_one, List.map_cons, List.map_nil, Nat.mul_zero, Nat.add_zero, Dev.writeBurst, if_pos hle, if_neg hin]
  generalize d.hostWrite (frAddr b) (BitVec.ofNat 32 (numAt b 5 4)) = x
  obtain ⟨e, locked⟩ := x
  cases locked <;> rfl

theorem Dev.writeEffect_regWr {d : Dev} {b : Bytes} (hop : frOp b = Op.regWr) : d.writeEffect b = d.regWr b := by
  unfold Dev.writeEffect
  rw [hop]
  rfl

theorem Dev.wordWritten_opts (x : Dev × Bool) (b : Bytes) (a : Nat) : (Dev.wordWritten x b a).host.opts = x.1.host.opts := by
  unfold Dev.wordWritten
  split
  · rw [Dev.frameRefused_host]
  · rfl

/-! ### A register of the common, supervisor or host blocks -/

/-- The registers below 0x100 have no locked and no staged bit. -/
theorem access_low {a : Nat} (h : a < 0x100) : (accessOf a).lck = 0#32 ∧ (accessOf a).stg = 0#32 := by
  have hrows : ∀ r ∈ accessTable, r.base < 0x100 → r.lck = 0#32 ∧ r.stg = 0#32 := by decide +kernel
  unfold accessOf
  cases hfind : accessTable.find? (·.covers a) with
  | none => exact ⟨rfl, rfl⟩
  | some r =>
    refine hrows r (List.mem_of_find?_eq_some hfind) ?_
    have hcovers := List.find?_some hfind
    simp only [RegRow.covers, List.any_eq_true, decide_eq_true_eq] at hcovers
    obtain ⟨i, -, j, -, hij⟩ := hcovers
    omega

theorem Dev.clampWord_low {d : Dev} {a : Nat} {w : Word} (h : a < 0x100) : d.clampWord a w = w := by
  simp (disch := omega) [Dev.clampWord, R.COEX_CFG, show ¬ a = 0x680 by omega, show ¬ 0x200 ≤ a by omega, show ¬ 0x400 ≤ a by omega]

/-- A host write of such a register but SUP_MODE and SUP_DIRECT_QUOTA takes its bits by their access codes, and locks nothing (R34). -/
theorem Dev.hostWrite_low {d : Dev} {a : Nat} {w : Word} (h : a < 0x100) (hmode : a ≠ R.SUP_MODE) (hquota : a ≠ R.SUP_DIRECT_QUOTA) :
    d.hostWrite a w = ((d.disarm a).store a w, false) := by
  obtain ⟨hlck, hstg⟩ := access_low h
  refine Prod.ext ?_ ?_
  · rw [Dev.hostWrite_of_unlocked (Dev.lockMask_of_classless hlck) (Dev.clampWord_low h)]
    simp only [Dev.writeWord, hstg, bne_self_eq_false, Bool.false_eq_true, hmode, hquota, h, if_false, if_true]
  · simp only [Dev.hostWrite, Dev.lockMask_of_classless hlck, BitVec.and_zero, bne_self_eq_false]

theorem Dev.disarm_reg (d : Dev) (a k : Nat) : (d.disarm a).reg k = d.reg k := by
  unfold Dev.disarm
  split
  · rfl
  · rfl

/-- Settles O19: the word that a frame of one word writes is the host's write of it, whatever it starts, and no write changes the options of
the port; below 0x100 nothing is locked, and only the count of frames changes after the write. -/
theorem registerWritten : Obligations.RegisterWritten := by
  unfold Obligations.RegisterWritten
  intro s f hs b a w hpass hm hlen hlong
  have hop : frOp b = Op.regWr := frOp_mosiOf (by decide)
  have haddr : a < 0x1000 := hpass.addr_lt (.inr hop)
  have hwhole : s.dev.writeEnd b ≤ b.length := by
    have hcrc := Dev.rxCrc_eq_false hs.noOpts
    simp only [Dev.writeEnd, writeBase, hop, hm, hcrc, hlen, if_true, Bool.false_eq_true, if_false]
    omega
  have heff : (s.dev.sessionStep b).writeEffect b = Dev.wordWritten (s.dev.hostWrite a w) b a := by
    rw [Dev.sessionStep, hm, if_neg Bool.false_ne_true, Dev.writeEffect_regWr hop, Dev.regWr_word hlen haddr]
  refine completes_write rfl hs ⟨by decide, by decide⟩ hpass hwhole heff
    ((Dev.wordWritten_opts _ _ _).trans (s.dev.hostWrite_opts a w)) ⟨⟨_, rfl⟩, fun hlow hmode hquota hcnt => ?_⟩
  rw [Dev.hostWrite_low hlow hmode hquota]
  refine ⟨?_, rfl, rfl, rfl⟩
  calc (((Dev.wordWritten ((s.dev.disarm a).store a w, false) b a).bump F.HOST_CNT_FRAMES 1).setMiso _).reg a
      = ((s.dev.disarm a).store a w).reg a := ((Dev.onlyRegs_refl _ _).fld (l := [R.HOST_CNT])).2 a (by simpa using hcnt)
    _ = _ := by rw [Dev.reg_store, Dev.disarm_reg]

end Sys2Proof.Machine
end
